-- ==== Sys2Proof/Word.lean ====
section
/-! DEFINITION. The machine word (a register is one aligned 32-bit word, R52) and the byte. -/

namespace Sys2Proof

/-- A register word (R52). -/
abbrev Word := BitVec 32

/-- One byte of a frame, a message or a buffer. -/
abbrev Byte := BitVec 8

/-- A string of bytes, first byte first. -/
abbrev Bytes := List Byte

end Sys2Proof
end

