-- ==== Sys2Proof/Syntax.lean ====
section
/-! DEFINITION. The commands the block takes, one constructor per row of the opcode table, and the operands they carry. -/

namespace Sys2Proof

/-- Who writes or reads a register: the host over PCIe, the host over the MSP, the management processor, the timed action
queue (R45, R56). -/
inductive Master where
  | pcie | msp | mp | taq
deriving DecidableEq, Repr

/-- A register access as its master sends it: BAR0 byte address, length in 32-bit words, and whether every byte enable is
set (R52). -/
structure Req where
  m : Master
  addr : Nat
  dws : Nat
  be : Bool
deriving DecidableEq, Repr

/-- The fields of the PCIe configuration space that software sets, beside MSI-X and the power state (R39): the BAR's address, ECRC
generation and checking, maximum payload and read request size in bytes, the code of the completion timeout, and ASPM L1. -/
structure PcieCfg where
  bar : Nat
  ecrcGen : Bool
  ecrcCheck : Bool
  maxPayload : Nat
  maxRead : Nat
  timeout : Nat
  aspmL1 : Bool
deriving DecidableEq, Repr

/-- After reset: ECRC off, the completion timeout at its default (R39); no address, the sizes at 128 and 512 bytes and L1 off, as PCI
Express gives them (log entry 56). -/
def PcieCfg.reset : PcieCfg := ⟨0, false, false, 128, 512, 0, false⟩

/-- A ring of bay 12: the receive ring of a CPU queue, or a transmit ring (R203). -/
inductive ScRing where
  | rx (c : Fin 32) | tx (r : Fin 8)
deriving DecidableEq, Repr

/-- How an I²C transfer with an optic ends (R472). -/
inductive I2cResult where
  | done (data : Bytes) | nack | timeout
deriving DecidableEq, Repr


/-- What a word of a memory with error correction gives when it is read: a single-bit error, an uncorrectable word whose second
read is clean, or one whose second read fails too (R178, R187). -/
inductive Ecc where
  | corrected | transient | lasting
deriving DecidableEq, Repr

/-- An ECC event of the store: frame whose cell is read, what the read gives, bank and row (R187). -/
structure StoreFault where
  frame : Nat
  ecc : Ecc
  bank : Nat
  row : Nat
deriving DecidableEq, Repr

/-- A parity error in a word of an FT table (R163): table, index (of a MAC slot: its location), word, whether the re-read fails too,
and the bank and row of the memory that holds it. -/
structure FtFault where
  table : Nat
  index : Nat
  word : Nat
  lasting : Bool
  bank : Nat
  row : Nat
deriving DecidableEq, Repr

/-- A parity error in a clause or rule word read for a frame (R124). -/
structure PrFault where
  rule : Bool
  index : Nat
  lasting : Bool
  bank : Nat
  row : Nat
deriving DecidableEq, Repr

/-- How the accesses to host memory of one descriptor end (R164, R167): all succeed, that to its data buffer fails, that to its
result words fails. -/
inductive DmaEnd where
  | done | bufferFails | resultFails
deriving DecidableEq, Repr

/-- A holdover record (R328): TB seconds, mean steer in 10⁻¹⁵, oven temperature in 0.125 °C. -/
structure HoRec where
  t : Nat
  y : Int
  temp : Int
deriving DecidableEq, Repr

/-- A time as a pair: TB seconds and units of 2⁻¹⁶ ns within the second. -/
structure Stamp16 where
  sec : Nat
  sub : Nat
deriving DecidableEq, Repr

/-- The header of a gallery frame (R389), its type being that of the body. -/
structure GalHdr where
  seat : Bool
  selfOk : Bool
  resync : Bool
  suspect : Bool
  fault : Bool
  cycle : Nat
  ack : Nat
  nak : Nat
  state : Nat
  prio : Nat
  part : Nat
deriving DecidableEq, Repr

/-- What a STATE frame carries of a channel (R391): TC_STAT, selected reference, TC_DCO_WORD, filter terms, TC_ABSORBED, ȳ in
10⁻¹⁵, s in 10⁻¹⁵ a day, t_m in cycles, trained hours, the record committed in the cycle, probation_discarded. -/
structure GalChan where
  stat : Word
  sel : Nat
  word : Word
  prop : Int
  integ : Int
  absorbed : Word
  mean : Int
  slope : Int
  mid : Nat
  trainedH : Nat
  record : Option HoRec
  discarded : Bool
deriving DecidableEq, Repr

/-- What it carries of a stairway (R391). -/
structure GalStair where
  active : Nat
  bank : Nat
  flights : Nat
  tread : Nat
  pos : Nat
deriving DecidableEq, Repr

/-- What it carries of an FPL link (R391). -/
structure GalLink where
  state : Nat
  calValid : Bool
  node : Nat
  port : Nat
  calTx : Nat
  calRx : Nat
  rt : Nat
  delay : Nat
  asym : Nat
deriving DecidableEq, Repr

/-- The payload of a STATE frame (R391): TB with its 32-bit fraction, TB_INCR, the sections of channels, stairways and links,
the digest, self_ok of each channel, the prediction of the time channel in 0.001 ppb, the egress timestamp. -/
structure GalState where
  tbSec : Nat
  tbNs : Nat
  tbFrac : Nat
  incr : Nat
  chans : List GalChan
  stairs : List GalStair
  links : List GalLink
  digest : Nat
  okCh : Nat
  yho : Int
  egress : Stamp16
deriving DecidableEq, Repr

/-- The body of a gallery frame (R390): its type and payload. MAC entries are laid out as in R170; holdover
records are 16-second means, or 15-minute means where `long` (log entry 16). `other` are the types from 0x8 on. -/
inductive GalBody where
  | state (x : GalState)
  | delta (l : List (Word × Word × Word × Word))
  | bulkMac (seq : Nat) (l : List (Word × Word × Word × Word))
  | bulkHo (seq chan : Nat) (long : Bool) (l : List HoRec)
  | elect (digest : Nat)
  | takeover
  | release (cause : Nat)
  | reply (okCh : Nat) (delta yho : Int) (egress : Stamp16)
  | other (type : Fin 8) (b : Bytes)
deriving DecidableEq, Repr

/-- A gallery frame (R388 to R390). -/
structure GalFrame where
  hdr : GalHdr
  body : GalBody
deriving DecidableEq, Repr

/-- The PTP datasets that the MP's stack holds beside its configuration (R274, R275): members of currentDS, parentDS and
timePropertiesDS of IEEE 1588-2019; offset and delay in 2⁻¹⁶ ns; `parent` is the parentPortIdentity and `gm` the
grandmasterIdentity; the clockQuality of this clock itself, as the profile gives it. -/
structure PtpData where
  stepsRemoved : Nat
  offset : Int
  delay : Int
  parent : Bytes
  parentStats : Bool
  obsVariance : Nat
  obsRate : Nat
  prio1 : Nat
  gmClass : Nat
  gmAccuracy : Nat
  gmVariance : Nat
  prio2 : Nat
  gm : Bytes
  utc : Int
  tflags : Nat
  timeSource : Nat
  ownClass : Nat
  ownAccuracy : Nat
  ownVariance : Nat
deriving DecidableEq, Repr


/-- The commands and events of the block, one constructor per row of the opcode table. The operands are what the outside
world gives with the command: a register access, a measured value, a received message, a condition of a pin. -/
inductive Instr where
  /-- REGISTER_WRITE (R48). A host, MP or TAQ write to any register that has no row of its own, checked against the map, width, guard and WO1 rules and applied immediately or to the shadow. -/
  | registerWrite (q : Req) (v hi : Word)
  /-- RCR_READ (R54). An ordinary read of an RCR field returns its value and clears it in the same register-bus clock. -/
  | rcrRead (q : Req)
  /-- SYS_UNLOCK_WRITE (R56). A write to SYS_UNLOCK arms the writing master's guard with the key, or disarms it and records bad_key otherwise. -/
  | sysUnlockWrite (m : Master) (v : Word)
  /-- SYS_RESET_MODULE (R490). A guarded write of SYS_RESET.module starts a module reset as an MRST# pulse. -/
  | sysResetModule (m : Master)
  /-- SYS_RESET_MP (R29). A guarded write of SYS_RESET.mp starts an MP restart, or joins one in progress. -/
  | sysResetMp (m : Master)
  /-- MSP_WRITE_FRAME (R42). An MSP frame with command 0x02 is checked by CRC-8, executed as a register write and answered with a status byte. -/
  | mspWriteFrame (b : Bytes)
  /-- MSP_READ_FRAME (R42). An MSP frame with command 0x03 is checked by CRC-8, executed as a register read and answered with status, data and CRC. -/
  | mspReadFrame (b : Bytes)
  /-- MSP_UNKNOWN_COMMAND (R42). An MSP frame whose first byte is neither 0x02 nor 0x03 ends with that byte and is answered with status 0xA3. -/
  | mspUnknownCommand (b : Bytes)
  /-- MSP_CS_EARLY_RISE (R43). MSP_CS# rising before the response has ended leaves a write's effect undefined and loses a read's data. -/
  | mspCsEarlyRise (b : Bytes)
  /-- MRST_ASSERT (R490). MRST# held low for 1 µs or more starts a module reset with the effects of R46. -/
  | mrstAssert (ns : Nat)
  /-- MODULE_RESET_END (R490). Module reset ends after MRST# rises and the hard repairs are burned: TWIN_SEAT is sampled, PWR_OK rises, the MSP serves and the twin unit elects. -/
  | moduleResetEnd (seatB : Bool) (xin : Option Nat)
  /-- PERST_ASSERT (R491). PERST# held low for 1 µs or more resets the PCIe core, the MSI-X state, the PCIe guard, the DMA rings and the PCIe-owned mailboxes. -/
  | perstAssert (ns : Nat)
  /-- PCIE_HOT_RESET (R47). A PCIe hot reset resets the PCIe core with the effects of R46 and R47. -/
  | pcieHotReset
  /-- PCIE_FLR (R47). A Function Level Reset resets the PCIe function with the effects of R46 and R47. -/
  | pcieFlr
  /-- PCIE_CORE_RESET_END (R491). The PCIe core leaves reset at the later of PERST# rising and the end of module reset, and link training starts. -/
  | pcieCoreResetEnd
  /-- VIN_RISE (R489). VIN rising through 5.7 V starts the power-up sequence of rails, root lock, DBM training and module reset. -/
  | vinRise (mv : Nat)
  /-- VIN_RETURN (R487). VIN returns while the VKEEP domain still runs, so the domain moves back onto VIN and power-up runs with VKEEP held. -/
  | vinReturn (mv : Nat)
  /-- VIN_LOSS (R481). VIN below 5.3 V for 2 µs stops every VIN function and moves the VKEEP domain onto the VKEEP balls. -/
  | vinLoss (mv us : Nat)
  /-- VIN_OVERVOLTAGE (R481). VIN above 62.5 V for 2 µs is treated as VIN lost until it falls below 61.5 V. -/
  | vinOvervoltage (mv us : Nat)
  /-- VKEEP_LOSS (R486). VKEEP below 2.7 V for 10 µs with VIN lost ends the VKEEP domain, stopping TB and losing the retention memory. -/
  | vkeepLoss (mv us : Nat)
  /-- OVEN_AT_TEMPERATURE (R489). The OVO oven reaches temperature after power-up, TC_OVO.oven_ok reads 1 and oven fault monitoring begins. -/
  | ovenAtTemperature
  /-- SYS_VEC_ACK_WRITE (R59). A write of 1 to a vector's bit in SYS_VEC_ACK re-arms the vector. -/
  | sysVecAckWrite (m : Master) (hi : Bool) (v : Word)
  /-- VEC_HOLDOFF_EXPIRY (R60). A vector's holdoff ends and a message due during it is sent. -/
  | vecHoldoffExpiry (v : Fin 64)
  /-- MB_REQUEST_WRITE (R62). A write to a mailbox request buffer is accepted only from the owner in IDLE, and is otherwise dropped and counted in wr_drop. -/
  | mbRequestWrite (m : Master) (n : Fin 4) (w : Fin 1024) (v : Word)
  /-- MB_DB_WRITE (R62). A doorbell write by the owner in IDLE posts the request, and is otherwise dropped and counted in db_drop. -/
  | mbDbWrite (m : Master) (n : Fin 4) (v : Word)
  /-- MB_ACK_WRITE (R62). A write of MB_ACK by the owner in DONE returns the mailbox to IDLE. -/
  | mbAckWrite (m : Master) (n : Fin 4) (v : Word)
  /-- MB_TAKE (R508). The MP takes a POSTED request and makes the ordered checks of length, CRC, epoch, repeat, opcode, recovery and segments. -/
  | mbTake (n : Fin 4) (misread : Bool) (busyUs : Option Nat)
  /-- MP_HANG (R29). The MP firmware stops serving, so its PTP samples, PX lease renewals, LACPDUs and ESMC PDUs stop. -/
  | mpHang
  /-- MP_WATCHDOG_EXPIRY (R29). After 200 ms of watchdog silence HL starts an MP restart and mp_running falls to 0. -/
  | mpWatchdogExpiry
  /-- MP_START (R428). At each MP start the loader selects and checks an image, the firmware boots, answers outstanding requests and sets mp_running. -/
  | mpStart (migrate flash burn : Bool)
  /-- SYS_GET_INFO (R75). Returns part, revisions, firmware release, svn, running slot, trial flag, serial and MP uptime. -/
  | sysGetInfo (n : Fin 4)
  /-- SYS_ECHO (R76). Returns its request payload after the status word. -/
  | sysEcho (n : Fin 4)
  /-- TC_GET_STATUS (R342). Returns a channel's state, selected reference, flags, frequency, phase error, holdover figures and qualified references. -/
  | tcGetStatus (n : Fin 4)
  /-- TC_SET_CONFIG (R343). Writes a channel's configuration and roles to apply at the next cycle boundary. -/
  | tcSetConfig (n : Fin 4)
  /-- TC_SET_REF_PRIORITY (R344). Sets the priorities of listed references of a channel for the next cycle boundary. -/
  | tcSetRefPriority (n : Fin 4)
  /-- TC_FORCE_SELECT (R345). Forces a reference, holdover, freerun or normal selection on a channel. -/
  | tcForceSelect (n : Fin 4)
  /-- TC_GET_HOLDOVER (R346). Returns a channel's holdover history, model and estimate. -/
  | tcGetHoldover (n : Fin 4)
  /-- TC_STORE_PRESET (R347). Stores the band in use and TC_DCO_NOM into a preset and the settings store. -/
  | tcStorePreset (n : Fin 4)
  /-- TC_RAMP_START (R348). Schedules a ramp profile on a frequency-role channel in FREERUN or forced HOLDOVER. -/
  | tcRampStart (n : Fin 4)
  /-- TC_ESMC_CONFIG (R349). Configures ESMC sending and accepting ports and hold_s. -/
  | tcEsmcConfig (n : Fin 4)
  /-- OU_SET_PLAN (R375). Computes divider values for an output frequency or pulse and writes the output registers. -/
  | ouSetPlan (n : Fin 4)
  /-- OU_REALIGN_CMD (R376). Writes OU_REALIGN with the given generator mask. -/
  | ouRealignCmd (n : Fin 4)
  /-- OU_GET_STATUS (R377). Returns an output's status, divider, pulse error and path delay. -/
  | ouGetStatus (n : Fin 4)
  /-- EV_SET_GROUP (R378). Writes a measurement group's configuration and window. -/
  | evSetGroup (n : Fin 4)
  /-- EV_CAL_START_CMD (R379). Starts a calibration of an event or channel TDC. -/
  | evCalStartCmd (n : Fin 4)
  /-- EV_GET_CAL_TABLE (R380). Returns one bin-width set of a TDC. -/
  | evGetCalTable (n : Fin 4)
  /-- EV_SET_CAL_TABLE (R381). Writes one bin-width set of a TDC and keeps it in the settings store. -/
  | evSetCalTable (n : Fin 4)
  /-- PTP_SET_PROFILE (R272). Sets the PTP profile, domain and clock type and restarts the PTP instance. -/
  | ptpSetProfile (n : Fin 4)
  /-- PTP_PORT_CONFIG (R273). Configures one port of the PTP instance and its TB_PTP_PORT and trap fields. -/
  | ptpPortConfig (n : Fin 4)
  /-- PTP_GET_STATUS (R274). Returns a port's PTP state, servo state, offset and path delay. -/
  | ptpGetStatus (n : Fin 4)
  /-- PTP_GET_DATASET (R275). Returns a PTP dataset in management TLV encoding. -/
  | ptpGetDataset (n : Fin 4)
  /-- TOD_CONFIG (R276). Writes TB_TOD_CFG and whether the received ToD is offered as a time reference. -/
  | todConfig (n : Fin 4)
  /-- PX_LINK_ENABLE (R302). Writes PX_LINK_CTRL of a port and sets its fpl_trap. -/
  | pxLinkEnable (n : Fin 4)
  /-- PX_CALIBRATE (R303). Runs the fixed-latency self-calibration of a link and returns its results. -/
  | pxCalibrate (n : Fin 4)
  /-- PX_GET_LINK (R304). Returns the state and results of an FPL link. -/
  | pxGetLink (n : Fin 4)
  /-- PX_SET_ASYM (R305). Sets a link's asymmetry source, host value or pair weights. -/
  | pxSetAsym (n : Fin 4)
  /-- TW_GET_STATUS (R414). Returns the twin state, partner state, flags, δ and the last role change. -/
  | twGetStatus (n : Fin 4)
  /-- TW_CONFIG (R415). Writes the twin configuration registers for the next cycle boundary. -/
  | twConfig (n : Fin 4)
  /-- TW_FORCE_ROLE (R416). Writes TW_FORCE to take or release the role and answers once the role change completes. -/
  | twForceRole (n : Fin 4)
  /-- TW_LAG_CONFIG (R417). Writes the twin LAG members and identity, rebuilds the LACPDU templates and sets lacp_trap. -/
  | twLagConfig (n : Fin 4)
  /-- FU_BEGIN (R438). Checks a package header and starts an update in RECEIVING. -/
  | fuBegin (n : Fin 4)
  /-- FU_BLOCK (R439). Stores one body block in the staging area, checks it and marks it received. -/
  | fuBlock (n : Fin 4)
  /-- FU_VERIFY (R440). Starts building and verifying the target image in the inactive slot. -/
  | fuVerify (n : Fin 4)
  /-- FU_ACTIVATE (R441). Activates the verified slot by handover or by module reset. -/
  | fuActivate (n : Fin 4) (flash : Bool)
  /-- FU_CONFIRM (R442). Confirms a trial image, writing the pointer record and burning the OTP. -/
  | fuConfirm (n : Fin 4) (flash burn : Bool)
  /-- FU_STATUS (R443). Returns the update state, progress and versions. -/
  | fuStatus (n : Fin 4)
  /-- FU_ABORT (R444). Aborts an update or reverts a trial image. -/
  | fuAbort (n : Fin 4)
  /-- HL_GET_HEALTH (R472). Returns health status, fault counts, spares, temperatures and supplies. -/
  | hlGetHealth (n : Fin 4)
  /-- HL_GET_FAULT_LOG (R472). Returns fault log records from a given record number. -/
  | hlGetFaultLog (n : Fin 4)
  /-- HL_REPAIR (R472). Tests and repairs a mezzanine, recalibrates a lane or recalibrates a TDC. -/
  | hlRepair (n : Fin 4)
  /-- HL_LOOPBACK (R461). Runs one loop-back test on a lane, port, port pair or gallery and restores the previous settings. -/
  | hlLoopback (n : Fin 4)
  /-- HL_OPTICS_READ (R472). Reads bytes from an optic over I²C. -/
  | hlOpticsRead (n : Fin 4)
  /-- HL_OPTICS_WRITE (R472). Writes bytes to an optic over I²C. -/
  | hlOpticsWrite (n : Fin 4)
  /-- PM_GET_TRACE (R472). Returns trace records from the trace buffer. -/
  | pmGetTrace (n : Fin 4)
  /-- PM_GET_HISTOGRAM (R472). Returns the MP's 64-bit delay histogram totals of a queue. -/
  | pmGetHistogram (n : Fin 4)
  /-- CYCLE_BOUNDARY (R27). At each 125 µs boundary the TC, OU, TW and PX shadows apply and the timing state is snapshotted for the twin and the retention memory. -/
  | cycleBoundary (egress : Stamp16)
  /-- PX_PUBLISH (R278). At t0 + 2 µs PX publishes each link's phases, frequency and results of the previous cycle. -/
  | pxPublish (v : List (Fin 48 × Fin 16384 × Fin 16384 × Nat))
  /-- LOOP_UPDATE (R316). At t0 + 4 µs each channel runs selection and its loop, and the time channel writes TB_INCR. -/
  | loopUpdate (errs : List (Fin 6 × Int))
  /-- SWITCH_COMPLETE (R318). At the eighth update after its start a switch completes, the offset is absorbed or slewed and the new reference steers. -/
  | switchComplete (c : Fin 6) (ofs : Int)
  /-- LOCK_DECLARED (R324). The phase error has held within lock_win long enough and the channel enters LOCKED, placing its output phase. -/
  | lockDeclared (c : Fin 6)
  /-- FRAME_BOUNDARY (R35). At a port's frame boundary pending LN, PT and PR shadow values apply. -/
  | frameBoundary (p : Fin 49)
  /-- SLOT_PATTERN_BOUNDARY (R174). At the end of a 16-slot pattern pending SC shadow values apply. -/
  | slotPatternBoundary
  /-- FLIGHT_BOUNDARY (R222). At the end of a port's flight pending GT values apply together and the stairway continues from its position. `p` is
the port, with a parity error of the tread it then reads (R227). -/
  | flightBoundary (p : Fin 48 × Option (Bool × Nat × Nat))
  /-- TB_TICK (R242). On each 1.6 ns tick TB adds TB_INCR and any step, carrying into seconds. -/
  | tbTick
  /-- ROOT_LOCK_LOSS (R31). The root synthesiser loses lock: TB_SUSPECT is set, TB_INCR freezes and a health fault is declared. -/
  | rootLockLoss
  /-- ROOT_RELOCK (R31). The root regains lock and the time channel resumes writing TB_INCR. -/
  | rootRelock
  /-- ROOT_FAULT_LASTING (R32). The root has not relocked 10 ms after losing lock, so the fault is lasting. -/
  | rootFaultLasting
  /-- LOSS_OF_SIGNAL (R81). Input below threshold for 1 µs forces CDR lock and block lock off. -/
  | lossOfSignal (l : Fin 48)
  /-- SIGNAL_DETECT (R81). Input above threshold for 1 µs clears loss of signal and acquisition begins. -/
  | signalDetect (l : Fin 48)
  /-- CDR_LOSS_OF_LOCK (R81). The recovered frequency leaves 300 ppm and block lock is forced off. -/
  | cdrLossOfLock (l : Fin 48)
  /-- CDR_LOCK (R83). The CDR locks by full acquisition or fast exit. -/
  | cdrLock (l : Fin 48)
  /-- BLOCK_LOCK_LOSS (R84). Block or codeword lock is lost and the lane discards blocks and hunts again as its retry. -/
  | blockLockLoss (l : Fin 48)
  /-- BLOCK_LOCK (R82). 64 consecutive valid headers at one position declare block lock. -/
  | blockLock (l : Fin 48)
  /-- BLOCK_LOCK_RETRY_EXPIRY (R84). Block lock has not returned 1 ms after the loss, so the loss is lasting. -/
  | blockLockRetryExpiry (l : Fin 48)
  /-- BLOCK_LOCK_STABLE_EXPIRY (R84). Block lock has held 10 ms after its return, so the loss is transient. -/
  | blockLockStableExpiry (l : Fin 48)
  /-- HI_BER_WINDOW (R81). At the end of a 125 µs window high bit-error ratio is entered or cleared. -/
  | hiBerWindow (l : Fin 48) (invalid corr uncorr sym : Nat)
  /-- ALIGNMENT_LOSS (R81). Four consecutive missing alignment markers on a PCS lane cause a local fault. -/
  | alignmentLoss (b : Fin 12)
  /-- ALIGNMENT (R83). Markers found on every PCS lane for two periods align the port. -/
  | alignment (b : Fin 12)
  /-- REMOTE_FAULT_RECEIVE (R100). Received remote fault makes the port send idles only. -/
  | remoteFaultReceive (p : Fin 48)
  /-- BAY_MODE_APPLY (R79). A pending bay mode applies once every port of the bay is idle and restarts the four lanes. -/
  | bayModeApply (b : Fin 12)
  /-- LN_CAL_START (R93). A write of LN_CAL.start, or HL, starts a receive calibration taking the lane out of service. -/
  | lnCalStart (m : Option Master) (l : Fin 48) (v : Word)
  /-- LN_CAL_END (R93). A receive calibration ends, publishes the eye figure and raises cal_done. -/
  | lnCalEnd (l : Fin 48) (width height : Nat)
  /-- LN_RESET_WRITE (R109). A write to LN_RESET stops the lane at its frame boundary as a port disable without drain. -/
  | lnResetWrite (m : Master) (l : Fin 48) (v : Word)
  /-- LANE_RESET_END (R109). After 1 µs the lane reset ends and acquisition starts with the shadow contents. -/
  | laneResetEnd (l : Fin 48)
  /-- EYE_PUBLISH (R92). Once a second the lane publishes its eye width and height and may raise eye_low. -/
  | eyePublish (l : Fin 48) (width height : Nat)
  /-- FRAME_RECEIVE (R97). A port MAC receives a whole frame, checks its length and FCS and timestamps it. -/
  | frameReceive (p : Fin 48) (b : Bytes) (fcs bad : Bool) (ago : Nat)
  /-- PAUSE_FRAME_RECEIVE (R101). A received PAUSE frame pauses the port or is discarded and counted. -/
  | pauseFrameReceive (p : Fin 48) (quanta : Nat)
  /-- PFC_FRAME_RECEIVE (R101). A received PFC frame pauses the named classes. -/
  | pfcFrameReceive (p : Fin 48) (vector zero : BitVec 8)
  /-- PAUSE_EXPIRY (R101). A received pause time runs out and the paused queues become eligible. -/
  | pauseExpiry (p : Fin 48) (all : Bool) (classes : BitVec 8)
  /-- PORT_DISABLE (R106). PT_CTRL.enable = 0 applies at the frame boundary and the port refuses frames and drains or discards its queues. -/
  | portDisable (p : Fin 48)
  /-- DRAIN_DONE (R106). The last queued frame of a disabled port has left, PT_IDLE.idle sets and drain_done is raised. -/
  | drainDone (p : Fin 48)
  /-- DRAIN_TIMEOUT (R107). A drain's timeout elapses and the remaining frames are discarded. -/
  | drainTimeout (p : Fin 48)
  /-- PORT_ENABLE (R108). PT_CTRL.enable = 1 applies at the frame boundary once the port is idle. -/
  | portEnable (p : Fin 48)
  /-- FRAME_TRANSMIT (R193). At a frame boundary the egress port starts the first eligible frame that fits in the service order. -/
  | frameTransmit (p : Fin 48) (lead : Nat) (sf : List StoreFault) (ff : List FtFault)
  /-- PARSE_CLASSIFY (R120). A frame in an ingress pipeline is parsed, classified, hashed and looked up, giving its verb and snapshot. -/
  | parseClassify (k : Fin 2) (pf : List PrFault) (ff : List FtFault)
  /-- LATE_LENGTH_CHECK (R119). At the end of a long frame its length checks involving F are made and a failure marks its last cell. -/
  | lateLengthCheck (p : Fin 49)
  /-- PR_CTRL_SWAP_WRITE (R134). A write to PR_CTRL naming another bank starts a swap, locks the bank and sets PR_PEND. -/
  | prCtrlSwapWrite (m : Master) (v : Word)
  /-- PR_DRAIN_COMPLETE (R135). Every port has applied a swap and no old-bank packet remains, so the drained flag sets. -/
  | prDrainComplete
  /-- RECIRC_SECOND_PASS (R136). A recirculated packet takes its second pass through the pipeline with its first-pass banks. -/
  | recircSecondPass (pf : List PrFault) (ff : List FtFault)
  /-- RECIRC_AGE_EXPIRY (R136). A packet waiting longer than age_us for its second pass is discarded. -/
  | recircAgeExpiry (r : Fin 8)
  /-- LEARN (R159). The table engine executes a LEARN: insertion, move hold, candidate or station move. -/
  | learn
  /-- REFRESH (R159). A REFRESH from the entry's own identity sets hit and clears aged_once and the candidate. -/
  | refresh
  /-- DEST_REFRESH (R162). A destination refresh sets hit and clears aged_once. -/
  | destRefresh
  /-- AGE_EVENT (R162). The sweeper visits a slot, clearing hit, setting aged_once or removing the entry. -/
  | ageEvent
  /-- FAIL_FILTER_EXPIRY (R161). A key leaves the fail filter after 1 s. -/
  | failFilterExpiry
  /-- FT_AGE_WRITE (R162). A write of FT_AGE changes the sweep pace from the next slot, or stops or resumes it. -/
  | ftAgeWrite (m : Master) (v : Word)
  /-- FT_RING_HEAD_WRITE (R164). The host advances a ring's head past written descriptors. -/
  | ftRingHeadWrite (m : Master) (r : Fin 8) (v : Word)
  /-- FT_RING_ENABLE (R164). A write of FT_RING_CFG with enable = 1 to a disabled ring starts serving it. -/
  | ftRingEnable (m : Master) (r : Fin 8) (v : Word)
  /-- FT_RING_DISABLE (R164). A write of FT_RING_CFG with enable = 0 stops the ring after its descriptor and releases its lock. -/
  | ftRingDisable (m : Master) (r : Fin 8) (v : Word)
  /-- NOP (R166). A NOP descriptor completes, advancing the epoch when flagged. -/
  | nop (r : Fin 8) (d : Option (List Word)) (dma : DmaEnd)
  /-- READ (R166). A READ descriptor reads an entry by index or MAC location, optionally locking it.
With the faults met, `ff` tells whether the read falls in the core clocks of a move of the insertion executed at this same clock (R156). -/
  | read (r : Fin 8) (d : Option (List Word)) (dma : DmaEnd) (ff : List FtFault × Bool)
  /-- WRITE (R166). A WRITE descriptor writes an entry by index or MAC location. -/
  | write (r : Fin 8) (d : Option (List Word)) (dma : DmaEnd) (ff : List FtFault)
  /-- LOOKUP (R166). A LOOKUP descriptor reads a MAC entry by key and returns its location. -/
  | lookup (r : Fin 8) (d : Option (List Word)) (dma : DmaEnd) (ff : List FtFault)
  /-- INSERT (R166). An INSERT descriptor inserts or updates a MAC entry by key. -/
  | insert (r : Fin 8) (d : Option (List Word)) (dma : DmaEnd) (ff : List FtFault)
  /-- DELETE (R166). A DELETE descriptor invalidates a MAC entry by key. -/
  | delete (r : Fin 8) (d : Option (List Word)) (dma : DmaEnd) (ff : List FtFault)
  /-- READ_BUCKET (R166). A READ_BUCKET descriptor writes the four ways of a bucket to a host buffer. `ff`: as in READ. -/
  | readBucket (r : Fin 8) (d : Option (List Word)) (dma : DmaEnd) (ff : List FtFault × Bool)
  /-- FLUSH (R166). A FLUSH descriptor invalidates every non-static MAC entry matching its filter. -/
  | flush (r : Fin 8) (d : Option (List Word)) (dma : DmaEnd) (ff : List FtFault)
  /-- UNLOCK (R166). An UNLOCK descriptor releases the ring's lock. -/
  | unlock (r : Fin 8) (d : Option (List Word)) (dma : DmaEnd)
  /-- BAD_OP (R166). A descriptor with an undefined op completes BAD_OP. -/
  | badOp (r : Fin 8) (d : Option (List Word)) (dma : DmaEnd)
  /-- FT_EPOCH_ADV_WRITE (R151). A write to FT_EPOCH_ADV advances the epoch, or is refused with epoch_full. -/
  | ftEpochAdvWrite (m : Master) (v : Word)
  /-- DRAIN_EPOCH_ADVANCE (R149). The oldest stamped frame leaves, FT_DRAIN_EPOCH changes and drain_adv is raised. -/
  | drainEpochAdvance
  /-- FT_LOCK_EXPIRY (R168). A DMA lock's lock_us expires and the held slot's side-buffered learns execute. -/
  | ftLockExpiry (r : Fin 8)
  /-- SLOT_CROSSING (R174). In each 12.8 ns slot the halls carry one cell per connection and landings release cells in order. -/
  | slotCrossing (dbm : Bool) (ecc : List (Fin 17 × Ecc)) (faults : List StoreFault)
  /-- LANDING_TIMEOUT (R182). Cells held 2 µs behind a missing number declare the missing cells lost and discard their frames. `space` comes with
whether DBM's write rate allows a frame (R185). -/
  | landingTimeout (src dst : Fin 15) (space : Fin 3 × Bool)
  /-- SC_MEZZ_SWAP_WRITE (R179). A guarded write to SC_MEZZ_SWAP starts moving a logical position onto the spare. -/
  | scMezzSwapWrite (m : Master) (v : Word)
  /-- MEZZ_SWAP_COMPLETE (R179). The old mezzanine is empty, swap_busy clears and mezz_swap_done is raised. -/
  | mezzSwapComplete
  /-- AGE_LIMIT (R200). A queued frame reaching the age limit is discarded with AGE_LIMIT. -/
  | ageLimit (q : Fin 472)
  /-- PFC_REPEAT (R201). While a count stays above xon the PFC or PAUSE frame is repeated every quanta / 2. -/
  | pfcRepeat (p : Fin 48) (t : Fin 9)
  /-- CPU_QUEUE_DESCRIPTOR (R203). A frame in a host CPU queue is written to host memory with a receive descriptor once one is free. -/
  | cpuQueueDescriptor (c : Fin 32) (d : Option (List Word)) (dma : DmaEnd)
  /-- TX_DESCRIPTOR (R205). A transmit descriptor's frame is read from host memory and handed to admission or the pipeline. -/
  | txDescriptor (r : Fin 8) (d : Option (List Word)) (b : Bytes) (dma : DmaEnd) (dbm : Bool)
  /-- SC_RING_HEAD_WRITE (R203). The host advances the head of a CPU receive or transmit ring. -/
  | scRingHeadWrite (m : Master) (k : ScRing) (v : Word)
  /-- SC_RING_CFG_WRITE (R203). A write of a CPU or transmit ring's CFG enables or stops the ring. -/
  | scRingCfgWrite (m : Master) (k : ScRing) (v : Word)
  /-- DLM_RELEASE (R209). The landing hands a scheduled frame to its MAC so its first bit leaves at T + 700 ns. -/
  | dlmRelease (p : Fin 48) (lead : Nat) (absent : Bool)
  /-- TREAD_START (R215). A new tread comes into force in network time and the port's gates change. -/
  | treadStart (p : Fin 48) (fault : Option (Bool × Nat × Nat))
  /-- GT_TAQ_ARM_WRITE (R233). A write to GT_TAQ_ARM checks an entry and arms it. -/
  | gtTaqArmWrite (m : Master) (v : Word)
  /-- GT_TAQ_ARM_G_WRITE (R234). A guarded write to GT_TAQ_ARM_G arms an entry with a guarded target. -/
  | gtTaqArmGWrite (m : Master) (v : Word)
  /-- TAQ_EXECUTE (R235). A due entry executes its masked register write and records its completion time. -/
  | taqExecute
  /-- GT_TAQ_CANCEL_WRITE (R239). A write to GT_TAQ_CANCEL cancels an ARMED entry. -/
  | gtTaqCancelWrite (m : Master) (v : Word)
  /-- GT_TAQ_CANCEL_GRP_WRITE (R239). A write to GT_TAQ_CANCEL_GRP cancels every ARMED entry of a group. -/
  | gtTaqCancelGrpWrite (m : Master) (v : Word)
  /-- TB_SNAP_WRITE (R245). A write to TB_SNAP latches TB into the writing master's snapshot set. -/
  | tbSnapWrite (m : Master) (v : Word)
  /-- TB_INCR_LO_WRITE (R246). A write to TB_INCR_LO stages the low 32 bits. -/
  | tbIncrLoWrite (m : Master) (v : Word)
  /-- TB_INCR_HI_WRITE (R246). A write to TB_INCR_HI commits the increment, or drops it when out of range or owned by the LOCKED time channel. -/
  | tbIncrHiWrite (m : Master) (v : Word)
  /-- TB_STEP_GO (R248). A guarded write of TB_STEP.go steps TB by the staged value on the next tick, or drops it. -/
  | tbStepGo (m : Master) (v : Word)
  /-- TB_SUSPECT_CLR_WRITE (R251). A guarded write of suspect_clr clears TB_SUSPECT while the root is in lock. -/
  | tbSuspectClrWrite (m : Master) (v : Word)
  /-- TB_TXTS_READ (R262). An owner's read of TB_TXTS word 0 removes the head entry and latches its time. -/
  | tbTxtsRead (m : Master) (p : Fin 48)
  /-- TB_SECOND_BOUNDARY (R268). At each TB second boundary the ToD message content is latched and TB_TOD_CFG changes apply. -/
  | tbSecondBoundary
  /-- TOD_TX_MESSAGE (R268). tx_delay_ms after a second boundary TOD_TX sends the latched message. -/
  | todTxMessage
  /-- TOD_RX_MESSAGE (R269). A received ToD message is timed against its REF edge, checked by CRC and qualifies or faults the ToD reference. -/
  | todRxMessage (b : Bytes) (ms : Nat)
  /-- TOD_MISSING (R269). No message within 1.2 s of its edge counts missing. -/
  | todMissing
  /-- TC_PTP_OFS_LO_WRITE (R311). The MP stages the low word of a PTP offset sample. -/
  | tcPtpOfsLoWrite (m : Master) (v : Word)
  /-- TC_PTP_OFS_HI_WRITE (R311). The MP's write of the high word delivers a PTP offset sample to reference 60. -/
  | tcPtpOfsHiWrite (m : Master) (v : Word)
  /-- FPL_HELLO_SEND (R281). A link in WAIT sends a HELLO every 16 cycles. -/
  | fplHelloSend (p : Fin 48)
  /-- FPL_PING_SEND (R287). The upstream end sends PING(n) at t0 + 10 µs of an exchange cycle. -/
  | fplPingSend (p : Fin 48) (cycle : Nat)
  /-- FPL_HELLO_RECEIVE (R281). A matching HELLO from the opposite role moves a WAIT link to COARSE. -/
  | fplHelloReceive (p : Fin 48) (b : Bytes)
  /-- FPL_PING_RECEIVE (R288). The downstream end records t2, queues a PONG and computes the reported exchange's result. -/
  | fplPingReceive (p : Fin 48) (b : Bytes) (t2 : Int) (frac : Fin 65536)
  /-- FPL_PONG_RECEIVE (R287). The upstream end records t4 and publishes the RESULT it carries. -/
  | fplPongReceive (p : Fin 48) (b : Bytes) (t4 : Int)
  /-- FPL_BYE_RECEIVE (R281). A BYE moves the link to WAIT with its results held stale. -/
  | fplByeReceive (p : Fin 48) (b : Bytes)
  /-- FPL_EXCHANGE_MISS (R282). An exchange is missed, transient on the first and lasting on the second, moving the link to WAIT. -/
  | fplExchangeMiss (p : Fin 48)
  /-- FPL_CALIBRATION_START (R291). A link with fine conditions and no valid calibration, or on temperature change, starts its self-calibration. -/
  | fplCalibrationStart (p : Fin 48)
  /-- FPL_CALIBRATION_END (R291). The calibration writes L_tx, L_rx and quality, sets cal_valid and returns to COARSE. -/
  | fplCalibrationEnd (p : Fin 48) (lTx lRx residual : Nat)
  /-- PX_REF_RENEW_WRITE (R295). A write to PX_REF_RENEW renews the reference lease. -/
  | pxRefRenewWrite (m : Master) (v : Word)
  /-- LEASE_EXPIRY (R295). The reference lease expires and PX stops delivering offsets. -/
  | leaseExpiry
  /-- ASYM_PAIR_WINDOW (R294). A pair averaging window completes and new asymmetries apply. -/
  | asymPairWindow (x y : Fin 48)
  /-- REF_ACTIVITY_LOSS (R310). A reference loses activity and becomes ABSENT in every channel. -/
  | refActivityLoss (r : Fin 63)
  /-- REF_ACTIVITY_RETURN (R310). A reference regains activity and starts QUALIFYING. -/
  | refActivityReturn (r : Fin 63)
  /-- REF_MONITOR_UPDATE (R313). Each second the reference frequencies and votes are published and statuses change on limit crossings. -/
  | refMonitorUpdate (freqs : List (Fin 63 × Int))
  /-- QUALIFYING_COMPLETE (R314). A reference within the soft limit for qualify_s becomes QUALIFIED or WTR. -/
  | qualifyingComplete (c : Fin 6) (r : Fin 63)
  /-- DEGRADED_RECOVERY (R314). A DEGRADED reference within the soft limit for qualify_s enters WTR. -/
  | degradedRecovery (c : Fin 6) (r : Fin 63)
  /-- WTR_EXPIRY (R314). A reference's wait-to-restore expires and it becomes QUALIFIED. -/
  | wtrExpiry (c : Fin 6) (r : Fin 63)
  /-- HOLDOVER_RECORD (R328). Each second a qualifying channel records its mean steer and promotes records older than 900 s. -/
  | holdoverRecord (c : Fin 6)
  /-- HOLDOVER_REFIT (R330). Every 15 minutes a trained channel refits its ageing slope and temperature coefficient. -/
  | holdoverRefit (c : Fin 6)
  /-- HOLDOVER_TE_UPDATE (R332). Each second in HOLDOVER the channel publishes its time-error estimate. -/
  | holdoverTeUpdate (c : Fin 6)
  /-- TC_RESET_WRITE (R334). A write to TC_RESET restarts a channel's selector, monitors and loop, holding its DCO. -/
  | tcResetWrite (m : Master) (c : Fin 6) (v : Word)
  /-- TC_RESET_END (R334). After 2 cycles the channel enters FREERUN, HOLDOVER or LOST. -/
  | tcResetEnd (c : Fin 6)
  /-- TC_TDC_CAL_WRITE (R335). A write to TC_TDC_CAL starts a TDC calibration holding the DCO. -/
  | tcTdcCalWrite (m : Master) (c : Fin 6) (v : Word)
  /-- TDC_CAL_END (R335). A channel TDC calibration ends, publishes its quality and raises tdc_cal_done. -/
  | tdcCalEnd (c : Fin 6) (hits : List Nat) (residual : Nat)
  /-- DCO_AT_FREQUENCY (R323). A preset hop or band search ends and the channel enters ACQUIRING or FREERUN. -/
  | dcoAtFrequency (c : Fin 6)
  /-- RAMP_START (R364). A scheduled ramp starts adding its offset at the first loop update at its time. -/
  | rampStart (c : Fin 6)
  /-- RAMP_SEGMENT_END (R363). A ramp segment's duration ends and the next segment or the list end applies. -/
  | rampSegmentEnd (c : Fin 6)
  /-- OU_RAMP_STOP_WRITE (R364). A write to OU_RAMP_STOP ends a channel's ramp. -/
  | ouRampStopWrite (m : Master) (v : Word)
  /-- ESMC_PDU_SEND (R338). Once a second the MP sends an ESMC information PDU on each enabled port. -/
  | esmcPduSend
  /-- ESMC_PDU_RECEIVE (R338). A received ESMC PDU sets the QL of the port's lane references. -/
  | esmcPduReceive (p : Fin 48) (ql : Fin 16)
  /-- ESMC_TIMEOUT (R338). A port with no valid PDU for 5 s sets QL-DNU. -/
  | esmcTimeout (p : Fin 48)
  /-- QL_HOLD_EXPIRY (R339). hold_s after entering HOLDOVER the SyncE QL sent becomes QL-eEEC. -/
  | qlHoldExpiry
  /-- OU_REALIGN_WRITE (R361). A write to OU_REALIGN requests alignment of named generators at the next cycle boundary. -/
  | ouRealignWrite (m : Master) (v : Word)
  /-- PULSE_EDGE (R360). A generator's leading edge is captured against its grid and may set unaligned. -/
  | pulseEdge (g : Fin 18) (back : Fin 104858)
  /-- PATH_DELAY_UPDATE (R354). Each second OU_PATH_DLY is corrected for the lid temperature. -/
  | pathDelayUpdate
  /-- EVT_EDGE (R366). An accepted edge on an EVT input is counted, timestamped and queued. -/
  | evtEdge (i : Fin 8) (falling : Bool) (phase : Fin 4) (bin : Fin 512)
  /-- EV_TS_READ (R366). A read of EV_TS word 0 removes the head timestamp and latches its time. -/
  | evTsRead (m : Master) (i : Fin 8)
  /-- EV_GROUP_RESULT (R367). After S + W the group pairs stops with a start and emits a result, or loses it on overflow. -/
  | evGroupResult (g : Fin 8)
  /-- EV_RES_READ (R369). A read of EV_RES word 0 removes the head result and latches it. -/
  | evResRead (m : Master) (g : Fin 8)
  /-- EV_GRP_CFG_WRITE (R370). A write to EV_GRP_CFG or EV_GRP_WIN discards the group's pending starts. -/
  | evGrpCfgWrite (m : Master) (g : Fin 8) (win : Bool) (v : Word)
  /-- EV_CAL_WRITE (R371). A write to EV_CAL.start starts an event TDC calibration. -/
  | evCalWrite (m : Master) (i : Fin 8) (v : Word)
  /-- EV_CAL_END (R371). An event TDC calibration ends with a new table or keeps the old one. -/
  | evCalEnd (i : Fin 8) (hits : List Nat) (residual : Nat)
  /-- TDC_TABLE_UPDATE (R372). Each second the TDC table in use is interpolated for the lid temperature and a live set may be discarded. -/
  | tdcTableUpdate
  /-- GAL_STATE_RECEIVE (R393). A standby acts on a STATE frame, stepping TB and loading channels when syncing, and forming reference 62 samples. -/
  | galStateReceive (lane : Fin 2) (f : GalFrame) (ing rt : Int) (mon : Option (Fin 4 × Int))
  /-- GAL_DELTA_RECEIVE (R394). A standby applies received learn deltas by key in its engine. `f` is the lane and the frame, here and in the
rows that follow. -/
  | galDeltaReceive (f : Fin 2 × GalFrame)
  /-- GAL_BULK_RECEIVE (R394). A standby inserts BULK MAC entries or keeps holdover records during a resync. -/
  | galBulkReceive (f : Fin 2 × GalFrame)
  /-- GAL_ELECT_RECEIVE (R387). An ELECT frame from an electing partner decides the election by priority and seat. -/
  | galElectReceive (f : Fin 2 × GalFrame)
  /-- GAL_TAKEOVER_RECEIVE (R403). The active receiving TAKEOVER drops ROLE_ACT, gates outputs, holds ports and sends RELEASE. -/
  | galTakeoverReceive (f : Fin 2 × GalFrame)
  /-- GAL_RELEASE_RECEIVE (R405). A partner receiving RELEASE enters ACTIVE. -/
  | galReleaseReceive (f : Fin 2 × GalFrame)
  /-- GAL_REPLY_RECEIVE (R396). The active receives a REPLY with ack, nak, self_ok and δ. -/
  | galReplyReceive (f : Fin 2 × GalFrame)
  /-- GAL_STATE_MISSING (R392). A STATE frame not complete by t0 + 40 µs is missing, transient on the first and lasting on the second. -/
  | galStateMissing
  /-- TW_CHECK_POINT (R397). At t0 + 4 µs and t0 + 66.5 µs the twin unit evaluates MON mismatches, election and fail-over rules. -/
  | twCheckPoint (mon : List (Fin 4 × Int × Bool)) (hb : Option Nat) (gal0 gal1 : Bool)
  /-- ELECT_WAIT_EXPIRY (R387). wait_ms after reset without partner evidence the module becomes SIMPLEX, ACTIVE or FAULTED. -/
  | electWaitExpiry
  /-- HB_IN_LOST (R400). No HB_IN edge for 1.25 ms loses the heartbeat and may make the partner absent. -/
  | hbInLost
  /-- TAKEOVER_RELEASE_WAIT (R403). 20 µs after TAKEOVER without RELEASE the standby enters ACTIVE. -/
  | takeoverReleaseWait
  /-- TW_FORCE_TAKE (R411). A guarded TW_FORCE take makes a standby take over with cause forced. -/
  | twForceTake (m : Master)
  /-- TW_FORCE_RELEASE (R411). A guarded TW_FORCE release makes the active send RELEASE and enter SYNCING. -/
  | twForceRelease (m : Master)
  /-- FAULT_CAUSE_EXPIRY (R402). A FAULTED module whose cause has been absent for 10 s enters SYNCING. -/
  | faultCauseExpiry
  /-- RESYNC_COMPLETE (R394). The standby's resync insertions complete and resync_done is raised. -/
  | resyncComplete
  /-- LACPDU_TEMPLATE_SEND (R408). While mp_running is 0 the twin unit sends each port's periodic LACPDU from its template. -/
  | lacpduTemplateSend (p : Fin 48)
  /-- FU_VERIFY_COMPLETE (R425). Verification ends, the slot header is written and the state becomes VERIFIED, or returns to RECEIVING. -/
  | fuVerifyComplete (flash : Bool)
  /-- TRIAL_WINDOW_EXPIRY (R434). The trial window expires without confirmation and the image reverts. -/
  | trialWindowExpiry (flash : Bool)
  /-- ACTIVATE_RESET (R429). 100 ms after a reset-mode activation is DONE the module resets. -/
  | activateReset
  /-- ABORT_REVERT (R444). 100 ms after FU_ABORT in TRIAL is DONE the trial image reverts. -/
  | abortRevert (flash : Bool)
  /-- SPARE_ROW_REPAIR (R449). HL copies a faulty row into a spare and moves reads to it. -/
  | spareRowRepair (g : Fin 7) (b r : Nat) (zeroed : List Nat)
  /-- DBM_ROW_REPAIR (R452). Once a DRAM row's cells are free HL applies soft post-package repair. -/
  | dbmRowRepair (bank row : Nat)
  /-- MEZZ_TEST (R453). A faulty mezzanine holding no cell is tested and repaired into the spare, or stays faulty. -/
  | mezzTest (m : Fin 17) (faulty : List Nat)
  /-- HL_TDC_AUTOCAL (R456). HL starts a TDC recalibration after a temperature step or period. -/
  | hlTdcAutocal (t : Fin 14)
  /-- TEMP_SAMPLE (R459). Every 1 ms the temperatures are sampled and may raise temp_warn or lasting fault 0x0D. -/
  | tempSample (lid sw timing dbm reg oven : Int)
  /-- SUPPLY_SAMPLE (R460). Every 1 ms the supplies are sampled and a reading out of limits twice is lasting fault 0x0E. -/
  | supplySample (vin vinI vkeep v3p3 v3p3I pin : Nat) (rails : BitVec 16)
  /-- OVEN_FAULT (R460). The oven out of temperature for 1 s is lasting fault 0x13. -/
  | ovenFault
  /-- HELD_FAULT_RELEASE (R446). A held fault whose cause has been absent 10 s is released. -/
  | heldFaultRelease (code inst : Nat)
  /-- WDOG_HOLD_EXPIRY (R462). An hour without a watchdog restart releases held fault 0x0F. -/
  | wdogHoldExpiry
  /-- FAULT_LOG_WRITE (R463). The MP writes a queued fault record to the NOR log. -/
  | faultLogWrite
  /-- V3P3_OUT_LIMIT (R484). After 1 ms in current limit V3P3_OUT turns off. -/
  | v3p3OutLimit (mv : Nat)
  /-- V3P3_OUT_RETRY (R484). Every 100 ms a tripped V3P3_OUT retries. -/
  | v3p3OutRetry
  /-- PM_SNAP_WRITE (R465). A write to PM_SNAP latches every unit's counters. -/
  | pmSnapWrite (m : Master) (v : Word)
  /-- PM_CLR_WRITE (R465). A write to PM_CLR zeroes every live counter and bandwidth result. -/
  | pmClrWrite (m : Master) (v : Word)
  /-- BW_WINDOW_END (R466). A bandwidth window ends on its TB grid, or at a step, and its counts and peaks are published. -/
  | bwWindowEnd (p : Fin 48) (stepped : Bool)
  /-- MP_HIST_ACCUMULATE (R472). Once a second the MP adds every SC_DELAY_HIST bin into its totals. -/
  | mpHistAccumulate
  /-- CONFIG_SPACE_WRITE (R59). A host PCIe configuration write enables or disables MSI-X, masks the function or changes the power state, after which a pending vector sends its message. `c` is
the power state D3hot and the other fields. -/
  | configSpaceWrite (msix mask : Bool) (c : Bool × PcieCfg)
  /-- REMOTE_FAULT_END (R100). Remote-fault ordered sets stop arriving, remote_fault clears and the port may send frames and read link_up again. -/
  | remoteFaultEnd (p : Fin 48)
  /-- REF_EDGE_CAPTURE (R269). A rising edge on the REF pin named by rx_ref is captured in TB time for the ToD message that follows. -/
  | refEdgeCapture (r : Fin 12)
  /-- MP_SRAM_ECC_FAULT (R451). An uncorrectable MP SRAM word is re-read once, and a lasting fault repairs the row and restarts the MP for a code row. -/
  | mpSramEccFault (bank row : Nat) (again codeRow : Bool)
  /-- LOOPBACK_TEST_END (R461). The loop-back test's duration ends, HL restores LN_CTRL, PT_XCONN and TW_CTRL at the next boundary and answers HL_LOOPBACK. -/
  | loopbackTestEnd (sentN errors eye : Nat)
  /-- I2C_TRANSFER_END (R472). An optics I2C read or write completes, or times out after 25 ms, and the MP answers HL_OPTICS_READ or HL_OPTICS_WRITE. -/
  | i2cTransferEnd (bus : Fin 2) (result : I2cResult)
  /-- BLOCK_PROGRAM_END (R421). The NOR erase, program and read-back of a staged block completes, its received mark is set and FU_BLOCK reaches DONE. -/
  | blockProgramEnd (n : Fin 4) (ok : Bool)
  /-- HANDOVER_PAUSE_END (R430). The new image commits the slot pointer and restarts the stacks, or returns to the old image, ending the handover pause. -/
  | handoverPauseEnd (migrate flash : Bool)
  /-- PTP_MESSAGE_SEND (R263). The MP's PTP stack sends a Sync, Announce, Delay_Req or other message at its configured interval, with the values R252 dictates. -/
  | ptpMessageSend (p : Fin 48) (tc : Fin 8) (hdr msg : Bytes) (tsId : Option (Fin 65536)) (dbm : Bool)
  /-- PTP_MESSAGE_RECEIVE (R263). The MP's PTP stack takes a trapped PTP message from its CPU queue and runs BMCA, port state and servo, which may set the FPL role or step TB. -/
  | ptpMessageReceive (c : Fin 32) (ports : List (Fin 48 × Nat × Int)) (after : PtpData) (fresh : Option (Fin 65536))
      (ql : Option (Fin 16) × Fin 65 × Fin 5)
  /-- LACPDU_SEND (R408). While the MP runs, its LACP stack sends each port's periodic LACPDU and updates the port's template. -/
  | lacpduSend (p : Fin 48) (b : Bytes) (fast : Bool)
  /-- LACPDU_RECEIVE (R407). The MP's LACP stack takes a received LACPDU from its CPU queue and updates the partner state and templates. -/
  | lacpduReceive (c : Fin 32) (now : List (Fin 48 × Bytes × Bool))
deriving DecidableEq, Repr

end Sys2Proof
end

