-- ==== Sys2Proof/Machine/Operands.lean ====
section
/-! DEFINITION. Operand forms: bit fields of words, signed numbers, byte strings in either byte order, and the check codes
(R506, R42). -/

namespace Sys2Proof.Machine

/-- Bits [hi:lo] of a word. -/
def bitsOf (w : Word) (hi lo : Nat) : Nat := (w.toNat >>> lo) % 2 ^ (hi + 1 - lo)

/-- The mask of bits [hi:lo]. -/
def maskOf (hi lo : Nat) : Word := BitVec.ofNat 32 ((2 ^ (hi + 1 - lo) - 1) <<< lo)

/-- The word with bits [hi:lo] replaced by the low bits of `v`. -/
def putBits (w : Word) (hi lo v : Nat) : Word :=
  (w &&& ~~~ maskOf hi lo) ||| BitVec.ofNat 32 ((v % 2 ^ (hi + 1 - lo)) <<< lo)

/-- Bit `n` of a number. -/
def bitOf (v n : Nat) : Bool := (v >>> n) % 2 = 1

/-- A flag as a field value. -/
def flag (b : Bool) : Nat := if b then 1 else 0

/-- The signed reading of the low `n` bits of `v`. -/
def signed (n v : Nat) : Int := if v % 2 ^ n < 2 ^ (n - 1) then ((v % 2 ^ n : Nat) : Int) else ((v % 2 ^ n : Nat) : Int) - 2 ^ n

/-- The two's complement of `z` in `n` bits. -/
def twos (n : Nat) (z : Int) : Nat := (z % (2 ^ n : Nat)).toNat

/-- `z` held within the signed range of `n` bits. -/
def satSigned (n : Nat) (z : Int) : Int := max (-(2 ^ (n - 1) : Nat)) (min z ((2 ^ (n - 1) : Nat) - 1))

/-- Byte `i` of a byte string as a number; beyond its end 0. -/
def byteAt (b : Bytes) (i : Nat) : Nat := (b.getD i 0).toNat

/-- The `n` bytes from `i`. -/
def slice (b : Bytes) (i n : Nat) : Bytes := (b.drop i).take n

/-- The number whose bytes are `b`, first byte least significant. -/
def leNum : Bytes → Nat
  | [] => 0
  | x :: xs => x.toNat + 256 * leNum xs

/-- The number whose bytes are `b`, first byte most significant. -/
def beNum (b : Bytes) : Nat := b.foldl (fun a x => 256 * a + x.toNat) 0

/-- The little-endian field of `n` bytes at offset `i` (R63). -/
def leAt (b : Bytes) (i n : Nat) : Nat := leNum (slice b i n)

/-- The field of `n` bytes at offset `i` in network order. -/
def beAt (b : Bytes) (i n : Nat) : Nat := beNum (slice b i n)

/-- `v` as `n` bytes, least significant first. -/
def leBytes : Nat → Nat → Bytes
  | 0, _ => []
  | n + 1, v => BitVec.ofNat 8 v :: leBytes n (v / 256)

/-- `v` as `n` bytes, most significant first. -/
def beBytes (n v : Nat) : Bytes := (leBytes n v).reverse

/-- `n` zero bytes. -/
def zeros (n : Nat) : Bytes := List.replicate n 0

/-- The byte string with `x` laid over it from offset `i`; bytes beyond its end are not added. -/
def overlay (b : Bytes) (i : Nat) (x : Bytes) : Bytes := (b.take i ++ x.take (b.length - i)) ++ b.drop (i + x.length)

/-- A word as four bytes, least significant first (R52: data is little-endian). -/
def wordBytes (w : Word) : Bytes := leBytes 4 w.toNat

/-- The words of a byte string, little-endian, the last one filled with zeros. -/
def bytesWords (b : Bytes) : List Word :=
  (List.range ((b.length + 3) / 4)).map fun i => BitVec.ofNat 32 (leAt b (4 * i) 4)

/-- The bytes as given by numbers. -/
def bytes (l : List Nat) : Bytes := l.map fun n => BitVec.ofNat 8 n

/-- One bit of the reflected CRC-32C: polynomial 0x82F6_3B78 in the register (R506). -/
def crc32cBit (r : Nat) : Nat := if r % 2 = 1 then (r / 2) ^^^ 0x82F63B78 else r / 2

/-- One byte of the CRC-32C, least significant bit first. -/
def crc32cByte (r : Nat) (x : Byte) : Nat :=
  crc32cBit (crc32cBit (crc32cBit (crc32cBit (crc32cBit (crc32cBit (crc32cBit (crc32cBit (r ^^^ x.toNat))))))))

/-- The CRC-32C register after the bytes, from `init`, with no final XOR. -/
def crc32cRaw (init : Nat) (b : Bytes) : Nat := b.foldl crc32cByte init

/-- CRC-32C as RFC 3720 specifies it (R506). -/
def crc32c (b : Bytes) : Nat := crc32cRaw 0xFFFFFFFF b ^^^ 0xFFFFFFFF

/-- One bit of the MSP's CRC-8: polynomial 0x07, not reflected. -/
def crc8Bit (r : Nat) : Nat := if r / 128 % 2 = 1 then ((r * 2) % 256) ^^^ 0x07 else (r * 2) % 256

/-- The MSP's CRC-8: polynomial 0x07, initial value 0, no final XOR (R42). -/
def crc8 (b : Bytes) : Nat :=
  b.foldl (fun r x => crc8Bit (crc8Bit (crc8Bit (crc8Bit (crc8Bit (crc8Bit (crc8Bit (crc8Bit (r ^^^ x.toNat)))))))))
    0

/-- Where `x` stands in a list of powers: the count of set bits of a mask below bit `n`. -/
def bitCount (v n : Nat) : Nat := ((List.range n).filter fun i => bitOf v i).length

/-- The numbers of the set bits of `v` below `n`, rising. -/
def bitsSet (v n : Nat) : List Nat := (List.range n).filter fun i => bitOf v i

/-- `v` held within [lo, hi]. -/
def clamp (lo hi v : Nat) : Nat := max lo (min hi v)

end Sys2Proof.Machine
end

