-- ==== Sys2Proof/Machine/Crypto.lean ====
section
/-! DEFINITION. The hash and the signature of a firmware package (R419, R422): SHA-384, and ECDSA over the curve P-384, as FIPS 180-4 and
FIPS 186-4 define them (log entry 17). -/

namespace Sys2Proof.Machine

/-! ### SHA-384 -/

/-- The first half of the round constants. -/
def shaK0 : List Nat :=
  [0x428A2F98D728AE22, 0x7137449123EF65CD, 0xB5C0FBCFEC4D3B2F, 0xE9B5DBA58189DBBC,
   0x3956C25BF348B538, 0x59F111F1B605D019, 0x923F82A4AF194F9B, 0xAB1C5ED5DA6D8118,
   0xD807AA98A3030242, 0x12835B0145706FBE, 0x243185BE4EE4B28C, 0x550C7DC3D5FFB4E2,
   0x72BE5D74F27B896F, 0x80DEB1FE3B1696B1, 0x9BDC06A725C71235, 0xC19BF174CF692694,
   0xE49B69C19EF14AD2, 0xEFBE4786384F25E3, 0x0FC19DC68B8CD5B5, 0x240CA1CC77AC9C65,
   0x2DE92C6F592B0275, 0x4A7484AA6EA6E483, 0x5CB0A9DCBD41FBD4, 0x76F988DA831153B5,
   0x983E5152EE66DFAB, 0xA831C66D2DB43210, 0xB00327C898FB213F, 0xBF597FC7BEEF0EE4,
   0xC6E00BF33DA88FC2, 0xD5A79147930AA725, 0x06CA6351E003826F, 0x142929670A0E6E70,
   0x27B70A8546D22FFC, 0x2E1B21385C26C926, 0x4D2C6DFC5AC42AED, 0x53380D139D95B3DF,
   0x650A73548BAF63DE, 0x766A0ABB3C77B2A8, 0x81C2C92E47EDAEE6, 0x92722C851482353B]

/-- The second half of the round constants. -/
def shaK1 : List Nat :=
  [0xA2BFE8A14CF10364, 0xA81A664BBC423001, 0xC24B8B70D0F89791, 0xC76C51A30654BE30,
   0xD192E819D6EF5218, 0xD69906245565A910, 0xF40E35855771202A, 0x106AA07032BBD1B8,
   0x19A4C116B8D2D0C8, 0x1E376C085141AB53, 0x2748774CDF8EEB99, 0x34B0BCB5E19B48A8,
   0x391C0CB3C5C95A63, 0x4ED8AA4AE3418ACB, 0x5B9CCA4F7763E373, 0x682E6FF3D6B2B8A3,
   0x748F82EE5DEFB2FC, 0x78A5636F43172F60, 0x84C87814A1F0AB72, 0x8CC702081A6439EC,
   0x90BEFFFA23631E28, 0xA4506CEBDE82BDE9, 0xBEF9A3F7B2C67915, 0xC67178F2E372532B,
   0xCA273ECEEA26619C, 0xD186B8C721C0C207, 0xEADA7DD6CDE0EB1E, 0xF57D4F7FEE6ED178,
   0x06F067AA72176FBA, 0x0A637DC5A2C898A6, 0x113F9804BEF90DAE, 0x1B710B35131C471B,
   0x28DB77F523047D84, 0x32CAAB7B40C72493, 0x3C9EBE0A15C9BEBC, 0x431D67C49C100D4C,
   0x4CC5D4BECB3E42B6, 0x597F299CFC657E2A, 0x5FCB6FAB3AD6FAEC, 0x6C44198C4A475817]

/-- The initial hash value. -/
def shaH0 : List Nat :=
  [0xCBBB9D5DC1059ED8, 0x629A292A367CD507, 0x9159015A3070DD17, 0x152FECD8F70E5939,
   0x67332667FFC00B31, 0x8EB44A8768581511, 0xDB0C2E0D64F98FA7, 0x47B5481DBEFA4FA4]

/-- Rotate a 64-bit word right. -/
def rotr (x n : Nat) : Nat := (x >>> n) ||| ((x <<< (64 - n)) % 2 ^ 64)

/-- The words of the message schedule, newest first, with `n` more. -/
def shaSchedule : Nat → List Nat → List Nat
  | 0, w => w
  | n + 1, w =>
    let a := w.getD 14 0
    let b := w.getD 1 0
    let s0 := rotr a 1 ^^^ rotr a 8 ^^^ (a >>> 7)
    let s1 := rotr b 19 ^^^ rotr b 61 ^^^ (b >>> 6)
    shaSchedule n ((w.getD 15 0 + s0 + w.getD 6 0 + s1) % 2 ^ 64 :: w)

/-- One round. -/
def shaRound (h : List Nat) (kw : Nat × Nat) : List Nat :=
  match h with
  | [a, b, c, d, e, f, g, i] =>
    let t1 := i + (rotr e 14 ^^^ rotr e 18 ^^^ rotr e 41) + ((e &&& f) ^^^ ((2 ^ 64 - 1 - e) &&& g)) + kw.1 + kw.2
    let t2 := (rotr a 28 ^^^ rotr a 34 ^^^ rotr a 39) + ((a &&& b) ^^^ (a &&& c) ^^^ (b &&& c))
    [(t1 + t2) % 2 ^ 64, a, b, c, (d + t1) % 2 ^ 64, e, f, g]
  | _ => h

/-- Add two hash values word by word. -/
def shaAdd : List Nat → List Nat → List Nat
  | x :: xs, y :: ys => (x + y) % 2 ^ 64 :: shaAdd xs ys
  | _, _ => []

/-- One block of 128 bytes. -/
def shaBlock (h : List Nat) (b : Bytes) : List Nat :=
  let w0 := ((List.range 16).map fun i => beAt b (8 * i) 8).reverse
  let w := (shaSchedule 64 w0).reverse
  shaAdd h (((shaK0 ++ shaK1).zip w).foldl shaRound h)

/-- The blocks of a padded message. -/
def shaBlocks : Nat → List Nat → Bytes → List Nat
  | 0, h, _ => h
  | n + 1, h, b => shaBlocks n (shaBlock h (b.take 128)) (b.drop 128)

/-- SHA-384. -/
def sha384 (b : Bytes) : Nat :=
  let pad := b ++ [0x80] ++ zeros ((239 - b.length % 128) % 128) ++ beBytes 16 (8 * b.length)
  ((shaBlocks (pad.length / 128) shaH0 pad).take 6).foldl (fun a x => a * 2 ^ 64 + x) 0

/-! ### ECDSA over P-384 -/

/-- The field prime, the order, the coefficient b and the generator. -/
def p384 : Nat := 2 ^ 384 - 2 ^ 128 - 2 ^ 96 + 2 ^ 32 - 1
def n384 : Nat := 0xFFFFFFFFFFFFFFFFFFFFFFFFFFFFFFFFFFFFFFFFFFFFFFFFC7634D81F4372DDF581A0DB248B0A77AECEC196ACCC52973
def b384 : Nat := 0xB3312FA7E23EE7E4988E056BE3F82D19181D9C6EFE8141120314088F5013875AC656398D8A2ED19D2A85C8EDD3EC2AEF
def g384 : Nat × Nat × Nat :=
  (0xAA87CA22BE8B05378EB1C71EF320AD746E1D3B628BA79B9859F741E082542A385502F25DBF55296C3A545E3872760AB7,
   0x3617DE4A96262C6F5D9E98BF9292DC29F8F41DBD289A147CE9DA3113B5F0B8C00A60B1CE1D7E819D7A431D7C90EA0E5F, 1)

/-- Difference modulo the prime. -/
def subP (a b : Nat) : Nat := (a + p384 - b) % p384

/-- Twice a point in Jacobian coordinates; Z = 0 is the point at infinity. -/
def dblP (q : Nat × Nat × Nat) : Nat × Nat × Nat :=
  let (x, y, z) := q
  let zz := z * z % p384
  let yy := y * y % p384
  let u := 4 * x * yy % p384
  let m := 3 * subP x zz * (x + zz) % p384
  let x' := subP (m * m % p384) (2 * u % p384)
  (x', subP (m * subP u x' % p384) (8 * yy * yy % p384), 2 * y * z % p384)

/-- The sum of two points. -/
def addP (q r : Nat × Nat × Nat) : Nat × Nat × Nat :=
  let (x1, y1, z1) := q
  let (x2, y2, z2) := r
  if z1 = 0 then r
  else if z2 = 0 then q
  else
    let a := z1 * z1 % p384
    let b := z2 * z2 % p384
    let u1 := x1 * b % p384
    let u2 := x2 * a % p384
    let s1 := y1 * z2 * b % p384
    let s2 := y2 * z1 * a % p384
    if u1 = u2 then (if s1 = s2 then dblP q else (1, 1, 0))
    else
      let h := subP u2 u1
      let t := subP s2 s1
      let hh := h * h % p384
      let k := h * hh % p384
      let v := u1 * hh % p384
      let x := subP (subP (t * t % p384) k) (2 * v % p384)
      (x, subP (t * subP v x % p384) (s1 * k % p384), z1 * z2 * h % p384)

/-- u·G + v·Q over the low `n` bits of both, from the highest bit down; `gq` is G + Q. -/
def mulAdd (u v : Nat) (q gq : Nat × Nat × Nat) : Nat → Nat × Nat × Nat → Nat × Nat × Nat
  | 0, acc => acc
  | n + 1, acc =>
    let acc := dblP acc
    let acc := match bitOf u n, bitOf v n with
      | true, true => addP acc gq
      | true, false => addP acc g384
      | false, true => addP acc q
      | false, false => acc
    mulAdd u v q gq n acc

/-- a to the power e modulo m, over the low `n` bits of e. -/
def powMod (a e m : Nat) : Nat → Nat → Nat
  | 0, acc => acc
  | n + 1, acc => powMod a e m n (if bitOf e n then acc * acc % m * a % m else acc * acc % m)

/-- The signature of 96 bytes verifies over the data, under the uncompressed public key of 97 bytes. -/
def ecdsaOk (key sig data : Bytes) : Bool :=
  let x := beAt key 1 48
  let y := beAt key 49 48
  let r := beAt sig 0 48
  let s := beAt sig 48 48
  let onCurve := decide (y * y % p384 = (x * x % p384 * x + 3 * (p384 - x) + b384) % p384)
  if byteAt key 0 = 4 ∧ x < p384 ∧ y < p384 ∧ onCurve ∧ 0 < r ∧ r < n384 ∧ 0 < s ∧ s < n384 then
    let w := powMod s (n384 - 2) n384 384 1
    let q := (x, y, 1)
    let k := mulAdd (sha384 data % n384 * w % n384) (r * w % n384) q (addP g384 q) 384 (1, 1, 0)
    let zz := k.2.2 * k.2.2 % p384
    decide (k.2.2 ≠ 0) && (decide (r * zz % p384 = k.1) || (decide (r + n384 < p384) && decide ((r + n384) * zz % p384 = k.1)))
  else false

end Sys2Proof.Machine
end

