-- ==== Sys2Proof/Config.lean ====
section
/-! DEFINITION. What the spec leaves open: the free values of the model, and the factory data of one unit. -/

namespace Sys2Proof

/-- A value the spec leaves open, one for each place the counter `State.free` has passed (log entry 2). It has no body: a
statement about it holds for every value. -/
opaque Config.freeBits : Nat → BitVec 64

/-- The OVO's frequency offset c(T) at 5 × k °C, in 10⁻¹⁵: the unit's factory table (R329, log entry 6). -/
opaque Config.ovoOffset : Int → Int

/-- The OVO's ageing slope in 10⁻¹⁵ a day: the unit's factory ageing table at its operating age (R329, log entry 6). -/
opaque Config.ovoAgeing : Int

/-- The OVO's random wander σ(t) after t seconds, in 0.001 ns: the unit's factory noise table (R332, log entry 6). -/
opaque Config.ovoNoise : Nat → Nat

/-- The factory width of a bin in 0.001 ps: TDC target, set, bin (R372, log entry 6). -/
opaque Config.tdcWidth : Nat → Nat → Nat → BitVec 16

/-- The factory figures of a bin-width set: TDC target, set; residual in 0.01 ps, first and last used bin (R372, log entry 6). -/
opaque Config.tdcInfo : Nat → Nat → Nat × Nat × Nat

/-- The correction of a lane's latency between calibrations, in 2⁻¹⁶ ns, from the unit's factory temperature coefficients: link, receive
side, and the change of lid temperature since the calibration in 0.125 °C (R291, log entry 6). -/
opaque Config.latencyDrift : Nat → Bool → Int → Int

/-- The factory path delay of an event input in 2⁻¹⁶ ns (R365, log entry 6). -/
opaque Config.evPathDelay : Nat → Int

/-- The unit's PTP clockIdentity (R275, log entry 6). -/
opaque Config.clockIdentity : BitVec 64

end Sys2Proof
end

