-- ==== Sys2Proof/Machine/RegMap.lean ====
section
/-! DEFINITION. The BAR0 register map, transcribed from the register tables and memory layouts of the spec (R48, R10 to R12;
the tables stand in each block's chapter). One row is one register or one array of registers: its BAR0 byte address, up
to two index ranges with their strides, whether it has a shadow copy (R33, R49), which first and second indices are absent
on the FH4824 (R2), reset values of single elements that differ from the row's, and its fields with access code and reset
value. Bits of no field are reserved (R11). Reset fields the spec gives per unit or per part are named in log entry 4. -/

namespace Sys2Proof.Machine

/-- Access codes of R12. -/
inductive Acc where
  | rw | ro | rcr | wo1 | gw | wt
deriving DecidableEq, Repr

/-- A field of a register: bits [hi:lo], access code, reset value. -/
structure Fld where
  name : String
  hi : Nat
  lo : Nat
  acc : Acc
  reset : Nat
deriving DecidableEq, Repr

/-- A row of the register map. -/
structure Reg where
  name : String
  base : Nat
  n1 : Nat
  s1 : Nat
  n2 : Nat
  s2 : Nat
  shadowed : Bool
  absent1 : List (Nat × Nat)
  absent2 : List (Nat × Nat)
  alt : List (Nat × Nat)
  fields : List Fld
deriving DecidableEq, Repr

/-- Registers of SYS, part 1. -/
def regsSys1 : List Reg := [
  ⟨"SYS_DEV_ID", 0x0, 1, 0x4, 1, 0x4, false, [], [], [], [⟨"lane_count", 7, 0, .ro, 0x30⟩, ⟨"silicon_rev", 11, 8, .ro, 1⟩, ⟨"module_rev", 15, 12, .ro, 1⟩, ⟨"part_code", 31, 16, .ro, 0x4848⟩]⟩,
  ⟨"SYS_ROOT_CTRL", 0x40, 1, 0x4, 1, 0x4, false, [], [], [], [⟨"src_sel", 0, 0, .gw, 0⟩]⟩,
  ⟨"SYS_ROOT_STAT", 0x44, 1, 0x4, 1, 0x4, false, [], [], [], [⟨"locked", 0, 0, .ro, 0⟩, ⟨"src_active", 1, 1, .ro, 0⟩, ⟨"xin_absent", 2, 2, .ro, 0⟩, ⟨"lock_lost_sticky", 3, 3, .rcr, 0⟩, ⟨"tx_on_root", 4, 4, .ro, 0⟩]⟩,
  ⟨"SYS_UNLOCK", 0x8, 1, 0x4, 1, 0x4, false, [], [], [], [⟨"key", 31, 0, .wt, 0⟩]⟩,
  ⟨"SYS_GUARD_VIOL", 0x10, 1, 0x4, 1, 0x4, false, [], [], [], [⟨"dw_addr", 23, 0, .rcr, 0⟩, ⟨"more", 28, 28, .rcr, 0⟩, ⟨"bad_key", 29, 29, .rcr, 0⟩, ⟨"port", 30, 30, .rcr, 0⟩, ⟨"valid", 31, 31, .rcr, 0⟩]⟩,
  ⟨"SYS_WO_VIOL", 0x14, 1, 0x4, 1, 0x4, false, [], [], [], [⟨"dw_addr", 23, 0, .rcr, 0⟩, ⟨"taq", 27, 27, .rcr, 0⟩, ⟨"more", 28, 28, .rcr, 0⟩, ⟨"port", 30, 30, .rcr, 0⟩, ⟨"valid", 31, 31, .rcr, 0⟩]⟩,
  ⟨"SYS_BUS_ERR", 0x18, 1, 0x4, 1, 0x4, false, [], [], [], [⟨"dw_addr", 23, 0, .rcr, 0⟩, ⟨"reason", 27, 26, .rcr, 0⟩, ⟨"more", 28, 28, .rcr, 0⟩, ⟨"write", 29, 29, .rcr, 0⟩, ⟨"port", 30, 30, .rcr, 0⟩, ⟨"valid", 31, 31, .rcr, 0⟩]⟩,
  ⟨"SYS_RESET", 0x20, 1, 0x4, 1, 0x4, false, [], [], [], [⟨"module", 0, 0, .gw, 0⟩, ⟨"mp", 1, 1, .gw, 0⟩]⟩,
  ⟨"SYS_SRC_LO", 0x80, 1, 0x4, 1, 0x4, false, [], [], [], [⟨"src", 31, 0, .ro, 0⟩]⟩,
  ⟨"SYS_SRC_HI", 0x84, 1, 0x4, 1, 0x4, false, [], [], [], [⟨"src", 31, 0, .ro, 0⟩]⟩,
  ⟨"SYS_SRC_EN_LO", 0x88, 1, 0x4, 1, 0x4, false, [], [], [], [⟨"en", 31, 0, .rw, 0⟩]⟩,
  ⟨"SYS_SRC_EN_HI", 0x8C, 1, 0x4, 1, 0x4, false, [], [], [], [⟨"en", 31, 0, .rw, 0⟩]⟩,
  ⟨"SYS_VEC_ACK_LO", 0x90, 1, 0x4, 1, 0x4, false, [], [], [], [⟨"ack", 31, 0, .wt, 0⟩]⟩,
  ⟨"SYS_VEC_ACK_HI", 0x94, 1, 0x4, 1, 0x4, false, [], [], [], [⟨"ack", 31, 0, .wt, 0⟩]⟩,
  ⟨"SYS_VEC_MAP", 0x100, 64, 0x4, 1, 0x4, false, [], [], (List.range 64).map fun s => (s, s), [⟨"vector", 5, 0, .rw, 0⟩]⟩,
  ⟨"SYS_VEC_HOLDOFF", 0x200, 64, 0x4, 1, 0x4, false, [], [], [], [⟨"holdoff_us", 15, 0, .rw, 0⟩]⟩]

/-- Registers of SYS, part 2. -/
def regsSys2 : List Reg := [
  ⟨"SYS_INT_STAT", 0x98, 1, 0x4, 1, 0x4, false, [], [], [], [⟨"guard_viol", 0, 0, .rcr, 0⟩, ⟨"wo_viol", 1, 1, .rcr, 0⟩, ⟨"bus_err", 2, 2, .rcr, 0⟩, ⟨"root_lock_lost", 3, 3, .rcr, 0⟩]⟩,
  ⟨"SYS_INT_EN", 0x9C, 1, 0x4, 1, 0x4, false, [], [], [], [⟨"guard_viol", 0, 0, .rw, 0⟩, ⟨"wo_viol", 1, 1, .rw, 0⟩, ⟨"bus_err", 2, 2, .rw, 0⟩, ⟨"root_lock_lost", 3, 3, .rw, 0⟩]⟩,
  ⟨"SYS_MSIX_ADDR_LO", 0xC000, 64, 0x10, 1, 0x4, false, [], [], [], [⟨"addr_lo", 31, 0, .rw, 0⟩]⟩,
  ⟨"SYS_MSIX_ADDR_HI", 0xC004, 64, 0x10, 1, 0x4, false, [], [], [], [⟨"addr_hi", 31, 0, .rw, 0⟩]⟩,
  ⟨"SYS_MSIX_DATA", 0xC008, 64, 0x10, 1, 0x4, false, [], [], [], [⟨"data", 31, 0, .rw, 0⟩]⟩,
  ⟨"SYS_MSIX_CTRL", 0xC00C, 64, 0x10, 1, 0x4, false, [], [], [], [⟨"mask", 0, 0, .rw, 1⟩]⟩,
  ⟨"SYS_PBA", 0xD000, 2, 0x4, 1, 0x4, false, [], [], [], [⟨"pend", 31, 0, .ro, 0⟩]⟩]

/-- Every register of SYS. -/
def regsSys : List Reg := regsSys1 ++ regsSys2

/-- Registers of MB, part 1. -/
def regsMb1 : List Reg := [
  ⟨"MB_EPOCH", 0x10000, 1, 0x4, 1, 0x4, false, [], [], [], [⟨"epoch", 15, 0, .ro, 1⟩, ⟨"mp_running", 16, 16, .ro, 0⟩, ⟨"recovery", 17, 17, .ro, 0⟩]⟩,
  ⟨"MB_OWNER", 0x10004, 1, 0x4, 1, 0x4, false, [], [], [], [⟨"owner", 3, 0, .gw, 8⟩]⟩,
  ⟨"MB_DB", 0x10010, 4, 0x4, 1, 0x4, false, [], [], [], [⟨"ring", 31, 0, .wt, 0⟩]⟩,
  ⟨"MB_STAT", 0x10020, 4, 0x4, 1, 0x4, false, [], [], [], [⟨"state", 1, 0, .ro, 0⟩]⟩,
  ⟨"MB_ERR", 0x10030, 4, 0x4, 1, 0x4, false, [], [], [], [⟨"db_drop", 15, 0, .rcr, 0⟩, ⟨"wr_drop", 31, 16, .rcr, 0⟩]⟩,
  ⟨"MB_ACK", 0x10040, 4, 0x4, 1, 0x4, false, [], [], [], [⟨"ack", 31, 0, .wt, 0⟩]⟩,
  ⟨"MB_INT_STAT", 0x10050, 1, 0x4, 1, 0x4, false, [], [], [], [⟨"resp_ready", 3, 0, .rcr, 0⟩, ⟨"epoch_change", 4, 4, .rcr, 0⟩]⟩,
  ⟨"MB_INT_EN", 0x10054, 1, 0x4, 1, 0x4, false, [], [], [], [⟨"en", 4, 0, .rw, 0⟩]⟩,
  ⟨"MB_REQ", 0x11000, 4, 0x2000, 1024, 0x4, false, [], [], [], [⟨"word", 31, 0, .rw, 0⟩]⟩,
  ⟨"MB_RESP", 0x12000, 4, 0x2000, 1024, 0x4, false, [], [], [], [⟨"word", 31, 0, .ro, 0⟩]⟩]

/-- Every register of MB. -/
def regsMb : List Reg := regsMb1

/-- Registers of PM, part 1. -/
def regsPm1 : List Reg := [
  ⟨"PM_CTRL", 0x20000, 1, 0x4, 1, 0x4, false, [], [], [], [⟨"run", 0, 0, .rw, 0⟩, ⟨"mp_hist", 1, 1, .rw, 0⟩]⟩,
  ⟨"PM_SNAP", 0x20004, 1, 0x4, 1, 0x4, false, [], [], [], [⟨"snap", 31, 0, .wt, 0⟩]⟩,
  ⟨"PM_USER_EN", 0x20008, 1, 0x4, 1, 0x4, false, [], [], [], [⟨"en", 0, 0, .rw, 0⟩]⟩,
  ⟨"PM_CLR", 0x2000C, 1, 0x4, 1, 0x4, false, [], [], [], [⟨"clr", 31, 0, .wt, 0⟩]⟩,
  ⟨"PM_INT_STAT", 0x20010, 1, 0x4, 1, 0x4, false, [], [], [], [⟨"trace_full", 0, 0, .rcr, 0⟩, ⟨"trace_rec", 1, 1, .rcr, 0⟩]⟩,
  ⟨"PM_INT_EN", 0x20014, 1, 0x4, 1, 0x4, false, [], [], [], [⟨"en", 1, 0, .rw, 0⟩]⟩,
  ⟨"PM_TAG_CFG", 0x20020, 1, 0x4, 1, 0x4, false, [], [], [], [⟨"k", 4, 0, .rw, 0x10⟩, ⟨"wrap", 8, 8, .rw, 0⟩, ⟨"enable", 9, 9, .rw, 0⟩]⟩,
  ⟨"PM_TAG_PORTS_LO", 0x20024, 1, 0x4, 1, 0x4, false, [], [], [], [⟨"ports", 31, 0, .rw, 0⟩]⟩,
  ⟨"PM_TAG_PORTS_HI", 0x20028, 1, 0x4, 1, 0x4, false, [], [], [], [⟨"ports", 15, 0, .rw, 0⟩]⟩,
  ⟨"PM_TRACE_STAT", 0x2002C, 1, 0x4, 1, 0x4, false, [], [], [], [⟨"count", 8, 0, .ro, 0⟩, ⟨"next", 23, 16, .ro, 0⟩, ⟨"lost", 31, 24, .rcr, 0⟩]⟩,
  ⟨"PM_SEL", 0x21000, 8, 0x100, 8, 0x4, false, [], [], [], [⟨"event", 7, 0, .rw, 0⟩]⟩,
  ⟨"PM_CYC_LO", 0x21020, 8, 0x100, 1, 0x4, false, [], [], [], [⟨"lo", 31, 0, .ro, 0⟩]⟩,
  ⟨"PM_CYC_HI", 0x21024, 8, 0x100, 1, 0x4, false, [], [], [], [⟨"hi", 31, 0, .ro, 0⟩]⟩,
  ⟨"PM_CNT_LO", 0x21028, 8, 0x100, 8, 0x8, false, [], [], [], [⟨"lo", 31, 0, .ro, 0⟩]⟩,
  ⟨"PM_CNT_HI", 0x2102C, 8, 0x100, 8, 0x8, false, [], [], [], [⟨"hi", 15, 0, .ro, 0⟩]⟩,
  ⟨"PM_SNAP_CYC_LO", 0x21080, 8, 0x100, 1, 0x4, false, [], [], [], [⟨"lo", 31, 0, .ro, 0⟩]⟩]

/-- Registers of PM, part 2. -/
def regsPm2 : List Reg := [
  ⟨"PM_SNAP_CYC_HI", 0x21084, 8, 0x100, 1, 0x4, false, [], [], [], [⟨"hi", 31, 0, .ro, 0⟩]⟩,
  ⟨"PM_SNAP_CNT_LO", 0x21088, 8, 0x100, 8, 0x8, false, [], [], [], [⟨"lo", 31, 0, .ro, 0⟩]⟩,
  ⟨"PM_SNAP_CNT_HI", 0x2108C, 8, 0x100, 8, 0x8, false, [], [], [], [⟨"hi", 15, 0, .ro, 0⟩]⟩,
  ⟨"PM_BW_CFG", 0x22000, 48, 0x10, 1, 0x4, false, [(24, 47)], [], [], [⟨"window_us", 19, 0, .rw, 0x3e8⟩, ⟨"line_mode", 20, 20, .rw, 0⟩, ⟨"step", 31, 31, .ro, 0⟩]⟩,
  ⟨"PM_BW_RX", 0x22004, 48, 0x10, 1, 0x4, false, [(24, 47)], [], [], [⟨"octets4", 31, 0, .ro, 0⟩]⟩,
  ⟨"PM_BW_TX", 0x22008, 48, 0x10, 1, 0x4, false, [(24, 47)], [], [], [⟨"octets4", 31, 0, .ro, 0⟩]⟩,
  ⟨"PM_BW_PEAK", 0x2200C, 48, 0x10, 1, 0x4, false, [(24, 47)], [], [], [⟨"rx_peak", 15, 0, .rcr, 0⟩, ⟨"tx_peak", 31, 16, .rcr, 0⟩]⟩,
  ⟨"PM_TRACE", 0x24000, 256, 0x40, 16, 0x4, false, [], [], [], [⟨"word", 31, 0, .ro, 0⟩]⟩,
  ⟨"PM_USER", 0x2C000, 1024, 0x4, 1, 0x4, false, [], [], [], [⟨"word", 31, 0, .ro, 0⟩]⟩]

/-- Every register of PM. -/
def regsPm : List Reg := regsPm1 ++ regsPm2

/-- Registers of HL, part 1. -/
def regsHl1 : List Reg := [
  ⟨"HL_STAT", 0x30000, 1, 0x4, 1, 0x4, false, [], [], [], [⟨"self_ok", 0, 0, .ro, 1⟩, ⟨"held", 1, 1, .ro, 0⟩, ⟨"temp_warn", 2, 2, .ro, 0⟩, ⟨"temp_crit", 3, 3, .ro, 0⟩, ⟨"supply_fault", 4, 4, .ro, 0⟩, ⟨"spares_low", 5, 5, .ro, 0⟩, ⟨"repair_busy", 6, 6, .ro, 0⟩]⟩,
  ⟨"HL_INT_STAT", 0x30004, 1, 0x4, 1, 0x4, false, [], [], [], [⟨"lasting", 0, 0, .rcr, 0⟩, ⟨"repaired", 1, 1, .rcr, 0⟩, ⟨"retired", 2, 2, .rcr, 0⟩, ⟨"spares_low", 3, 3, .rcr, 0⟩, ⟨"temp_warn", 4, 4, .rcr, 0⟩, ⟨"temp_crit", 5, 5, .rcr, 0⟩, ⟨"supply_fault", 6, 6, .rcr, 0⟩, ⟨"cal_fail", 7, 7, .rcr, 0⟩, ⟨"log_lost", 8, 8, .rcr, 0⟩]⟩,
  ⟨"HL_INT_EN", 0x30008, 1, 0x4, 1, 0x4, false, [], [], [], [⟨"lasting", 0, 0, .rw, 0⟩, ⟨"repaired", 1, 1, .rw, 0⟩, ⟨"retired", 2, 2, .rw, 0⟩, ⟨"spares_low", 3, 3, .rw, 0⟩, ⟨"temp_warn", 4, 4, .rw, 0⟩, ⟨"temp_crit", 5, 5, .rw, 0⟩, ⟨"supply_fault", 6, 6, .rw, 0⟩, ⟨"cal_fail", 7, 7, .rw, 0⟩, ⟨"log_lost", 8, 8, .rw, 0⟩]⟩,
  ⟨"HL_FAULT_LAST", 0x3000C, 1, 0x4, 1, 0x4, false, [], [], [], [⟨"where", 23, 0, .rcr, 0⟩, ⟨"source", 28, 24, .rcr, 0⟩, ⟨"more", 30, 30, .rcr, 0⟩, ⟨"valid", 31, 31, .rcr, 0⟩]⟩,
  ⟨"HL_CNT_TRANSIENT", 0x30010, 1, 0x4, 1, 0x4, false, [], [], [], [⟨"count", 31, 0, .rcr, 0⟩]⟩,
  ⟨"HL_CNT_LASTING", 0x30014, 1, 0x4, 1, 0x4, false, [], [], [], [⟨"count", 31, 0, .rcr, 0⟩]⟩,
  ⟨"HL_CTRL", 0x30018, 1, 0x4, 1, 0x4, false, [], [], [], [⟨"log_transient", 0, 0, .rw, 0⟩]⟩,
  ⟨"HL_ESC", 0x3001C, 1, 0x4, 1, 0x4, false, [], [], [], [⟨"count", 3, 0, .rw, 3⟩, ⟨"window_h", 15, 8, .rw, 0x18⟩]⟩,
  ⟨"HL_CAL_CFG", 0x30020, 1, 0x4, 1, 0x4, false, [], [], [], [⟨"tdc_k", 7, 0, .rw, 0xa⟩, ⟨"tdc_period_h", 23, 8, .rw, 0xa8⟩, ⟨"auto", 24, 24, .rw, 1⟩, ⟨"ev_auto", 25, 25, .rw, 0⟩]⟩,
  ⟨"HL_WDOG", 0x30024, 1, 0x4, 1, 0x4, false, [], [], [], [⟨"restarts", 15, 0, .ro, 0⟩, ⟨"last_cause", 19, 16, .ro, 0⟩]⟩,
  ⟨"HL_LOG", 0x30028, 1, 0x4, 1, 0x4, false, [], [], [], [⟨"backlog", 8, 0, .ro, 0⟩, ⟨"lost", 31, 16, .rcr, 0⟩]⟩,
  ⟨"HL_SPARE", 0x30040, 8, 0x4, 1, 0x4, false, [], [], [], [⟨"used", 15, 0, .ro, 0⟩, ⟨"retired", 31, 16, .ro, 0⟩]⟩,
  ⟨"HL_TEMP", 0x30100, 5, 0x4, 1, 0x4, false, [], [], [], [⟨"now", 15, 0, .ro, 0⟩, ⟨"max", 31, 16, .rcr, 0⟩]⟩,
  ⟨"HL_TEMP_THR", 0x30120, 5, 0x4, 1, 0x4, false, [], [], [(0, 55051040), (1, 65536920), (2, 65536920), (3, 55051000), (4, 68158400)], [⟨"warn", 15, 0, .rw, 0⟩, ⟨"crit", 31, 16, .rw, 0⟩]⟩,
  ⟨"HL_SUPPLY", 0x30140, 6, 0x4, 1, 0x4, false, [], [], [], [⟨"now", 15, 0, .ro, 0⟩, ⟨"max", 31, 16, .rcr, 0⟩]⟩,
  ⟨"HL_SUPPLY_THR", 0x30160, 6, 0x4, 1, 0x4, false, [], [], [(0, 406323780), (1, 1146880000), (2, 36700450), (3, 22675770), (4, 524288000), (5, 81920000)], [⟨"low", 15, 0, .rw, 0⟩, ⟨"high", 31, 16, .rw, 0⟩]⟩]

/-- Registers of HL, part 2. -/
def regsHl2 : List Reg := [
  ⟨"HL_RAIL_OK", 0x30180, 1, 0x4, 1, 0x4, false, [], [], [], [⟨"ok", 15, 0, .ro, 0xffff⟩]⟩]

/-- Every register of HL. -/
def regsHl : List Reg := regsHl1 ++ regsHl2

/-- Registers of LN, part 1. -/
def regsLn1 : List Reg := [
  ⟨"LN_CTRL", 0x100000, 48, 0x200, 1, 0x4, true, [(24, 47)], [], [], [⟨"enable", 0, 0, .rw, 0⟩, ⟨"tx_idle", 1, 1, .rw, 0⟩, ⟨"tx_inv", 2, 2, .rw, 0⟩, ⟨"rx_inv", 3, 3, .rw, 0⟩, ⟨"fec", 5, 4, .rw, 0⟩, ⟨"loop", 10, 8, .rw, 0⟩, ⟨"loop_tx_keep", 12, 12, .rw, 0⟩]⟩,
  ⟨"LN_TXEQ", 0x100004, 48, 0x200, 1, 0x4, true, [(24, 47)], [], [], [⟨"pre", 3, 0, .rw, 2⟩, ⟨"main", 13, 8, .rw, 0x20⟩, ⟨"post", 21, 16, .rw, 6⟩]⟩,
  ⟨"LN_STAT", 0x100010, 48, 0x200, 1, 0x4, false, [(24, 47)], [], [], [⟨"signal", 0, 0, .ro, 0⟩, ⟨"cdr_lock", 1, 1, .ro, 0⟩, ⟨"block_lock", 2, 2, .ro, 0⟩, ⟨"hi_ber", 3, 3, .ro, 0⟩, ⟨"aligned", 4, 4, .ro, 0⟩, ⟨"fec_lock", 5, 5, .ro, 0⟩, ⟨"tx_idle_active", 6, 6, .ro, 1⟩, ⟨"cal_busy", 7, 7, .ro, 0⟩, ⟨"clk_valid", 8, 8, .ro, 0⟩, ⟨"cfg_err", 9, 9, .ro, 0⟩]⟩,
  ⟨"LN_INT_STAT", 0x100014, 48, 0x200, 1, 0x4, false, [(24, 47)], [], [], [⟨"los", 0, 0, .rcr, 0⟩, ⟨"cdr_unlock", 1, 1, .rcr, 0⟩, ⟨"lock_loss_transient", 2, 2, .rcr, 0⟩, ⟨"lock_loss_lasting", 3, 3, .rcr, 0⟩, ⟨"hi_ber", 4, 4, .rcr, 0⟩, ⟨"align_loss", 5, 5, .rcr, 0⟩, ⟨"fec_uncorr", 6, 6, .rcr, 0⟩, ⟨"eye_low", 7, 7, .rcr, 0⟩, ⟨"cal_done", 8, 8, .rcr, 0⟩]⟩,
  ⟨"LN_INT_EN", 0x100018, 48, 0x200, 1, 0x4, false, [(24, 47)], [], [], [⟨"los", 0, 0, .rw, 0⟩, ⟨"cdr_unlock", 1, 1, .rw, 0⟩, ⟨"lock_loss_transient", 2, 2, .rw, 0⟩, ⟨"lock_loss_lasting", 3, 3, .rw, 0⟩, ⟨"hi_ber", 4, 4, .rw, 0⟩, ⟨"align_loss", 5, 5, .rw, 0⟩, ⟨"fec_uncorr", 6, 6, .rw, 0⟩, ⟨"eye_low", 7, 7, .rw, 0⟩, ⟨"cal_done", 8, 8, .rw, 0⟩]⟩,
  ⟨"LN_EYE", 0x100020, 48, 0x200, 1, 0x4, false, [(24, 47)], [], [], [⟨"width", 7, 0, .ro, 0⟩, ⟨"height", 17, 8, .ro, 0⟩, ⟨"stale", 31, 31, .ro, 1⟩]⟩,
  ⟨"LN_EYE_THR", 0x100024, 48, 0x200, 1, 0x4, false, [(24, 47)], [], [], [⟨"width_min", 7, 0, .rw, 0x40⟩]⟩,
  ⟨"LN_CAL", 0x100028, 48, 0x200, 1, 0x4, false, [(24, 47)], [], [], [⟨"start", 0, 0, .wt, 0⟩]⟩,
  ⟨"LN_RESET", 0x10002C, 48, 0x200, 1, 0x4, false, [(24, 47)], [], [], [⟨"reset", 0, 0, .wt, 0⟩]⟩,
  ⟨"LN_FEC_CORR", 0x100030, 48, 0x200, 1, 0x4, false, [(24, 47)], [], [], [⟨"count", 31, 0, .rcr, 0⟩]⟩,
  ⟨"LN_FEC_UNCORR", 0x100034, 48, 0x200, 1, 0x4, false, [(24, 47)], [], [], [⟨"count", 31, 0, .rcr, 0⟩]⟩,
  ⟨"LN_SYM_ERR", 0x100038, 48, 0x200, 1, 0x4, false, [(24, 47)], [], [], [⟨"count", 31, 0, .rcr, 0⟩]⟩,
  ⟨"LN_HDR_ERR", 0x10003C, 48, 0x200, 1, 0x4, false, [(24, 47)], [], [], [⟨"count", 31, 0, .rcr, 0⟩]⟩,
  ⟨"LN_LOCK_LOSS", 0x100040, 48, 0x200, 1, 0x4, false, [(24, 47)], [], [], [⟨"transient", 15, 0, .rcr, 0⟩, ⟨"lasting", 31, 16, .rcr, 0⟩]⟩,
  ⟨"LN_PEND", 0x1001FC, 48, 0x200, 1, 0x4, false, [(24, 47)], [], [], [⟨"pend", 0, 0, .ro, 0⟩]⟩,
  ⟨"LN_BAY_MODE", 0x106000, 12, 0x4, 1, 0x4, true, [(6, 11)], [], [], [⟨"mode", 2, 0, .rw, 1⟩]⟩]

/-- Every register of LN. -/
def regsLn : List Reg := regsLn1

/-- Registers of PT, part 1. -/
def regsPt1 : List Reg := [
  ⟨"PT_CTRL", 0x140000, 48, 0x200, 1, 0x4, true, [(24, 47)], [], [], [⟨"enable", 0, 0, .rw, 0⟩, ⟨"pause_rx", 1, 1, .rw, 0⟩, ⟨"pfc_rx", 2, 2, .rw, 0⟩, ⟨"t_exempt", 3, 3, .rw, 0⟩, ⟨"fault_tx", 4, 4, .rw, 1⟩]⟩,
  ⟨"PT_MAXFRM", 0x140004, 48, 0x200, 1, 0x4, true, [(24, 47)], [], [], [⟨"max", 13, 0, .rw, 0x5f2⟩]⟩,
  ⟨"PT_DRAIN_ON_DISABLE", 0x140008, 48, 0x200, 1, 0x4, true, [(24, 47)], [], [], [⟨"enable", 0, 0, .rw, 0⟩, ⟨"timeout_us", 31, 16, .rw, 0x2710⟩]⟩,
  ⟨"PT_XCONN", 0x14000C, 48, 0x200, 1, 0x4, true, [(24, 47)], [], [], [⟨"enable", 0, 0, .rw, 0⟩, ⟨"peer", 13, 8, .rw, 0⟩]⟩,
  ⟨"PT_TS_ING_ADJ", 0x140010, 48, 0x200, 1, 0x4, true, [(24, 47)], [], [], [⟨"adj", 31, 0, .rw, 0⟩]⟩,
  ⟨"PT_TS_EGR_ADJ", 0x140014, 48, 0x200, 1, 0x4, true, [(24, 47)], [], [], [⟨"adj", 31, 0, .rw, 0⟩]⟩,
  ⟨"PT_IDLE", 0x140020, 48, 0x200, 1, 0x4, false, [(24, 47)], [], [], [⟨"idle", 0, 0, .ro, 1⟩, ⟨"drain_timeout", 1, 1, .ro, 0⟩]⟩,
  ⟨"PT_TXTS_OVF", 0x140030, 48, 0x200, 1, 0x4, false, [(24, 47)], [], [], [⟨"count", 15, 0, .rcr, 0⟩]⟩,
  ⟨"PT_PEND", 0x1401FC, 48, 0x200, 1, 0x4, false, [(24, 47)], [], [], [⟨"pend", 0, 0, .ro, 0⟩]⟩,
  ⟨"PT_STAT", 0x140024, 48, 0x200, 1, 0x4, false, [(24, 47)], [], [], [⟨"link_up", 0, 0, .ro, 0⟩, ⟨"local_fault", 1, 1, .ro, 0⟩, ⟨"remote_fault", 2, 2, .ro, 0⟩, ⟨"paused", 3, 3, .ro, 0⟩, ⟨"draining", 4, 4, .ro, 0⟩, ⟨"looped", 5, 5, .ro, 0⟩]⟩,
  ⟨"PT_INT_STAT", 0x140028, 48, 0x200, 1, 0x4, false, [(24, 47)], [], [], [⟨"link_down", 0, 0, .rcr, 0⟩, ⟨"link_up", 1, 1, .rcr, 0⟩, ⟨"drain_done", 2, 2, .rcr, 0⟩, ⟨"txts_ovf", 3, 3, .rcr, 0⟩, ⟨"remote_fault", 4, 4, .rcr, 0⟩]⟩,
  ⟨"PT_INT_EN", 0x14002C, 48, 0x200, 1, 0x4, false, [(24, 47)], [], [], [⟨"link_down", 0, 0, .rw, 0⟩, ⟨"link_up", 1, 1, .rw, 0⟩, ⟨"drain_done", 2, 2, .rw, 0⟩, ⟨"txts_ovf", 3, 3, .rw, 0⟩, ⟨"remote_fault", 4, 4, .rw, 0⟩]⟩,
  ⟨"PT_FRAMES_TX_OK_LO", 0x150000, 48, 0x200, 1, 0x4, false, [(24, 47)], [], [], [⟨"lo", 31, 0, .ro, 0⟩]⟩,
  ⟨"PT_FRAMES_TX_OK_HI", 0x150004, 48, 0x200, 1, 0x4, false, [(24, 47)], [], [], [⟨"hi", 31, 0, .ro, 0⟩]⟩,
  ⟨"PT_OCTETS_TX_OK_LO", 0x150008, 48, 0x200, 1, 0x4, false, [(24, 47)], [], [], [⟨"lo", 31, 0, .ro, 0⟩]⟩,
  ⟨"PT_OCTETS_TX_OK_HI", 0x15000C, 48, 0x200, 1, 0x4, false, [(24, 47)], [], [], [⟨"hi", 31, 0, .ro, 0⟩]⟩]

/-- Registers of PT, part 2. -/
def regsPt2 : List Reg := [
  ⟨"PT_FRAMES_RX_OK_LO", 0x150010, 48, 0x200, 1, 0x4, false, [(24, 47)], [], [], [⟨"lo", 31, 0, .ro, 0⟩]⟩,
  ⟨"PT_FRAMES_RX_OK_HI", 0x150014, 48, 0x200, 1, 0x4, false, [(24, 47)], [], [], [⟨"hi", 31, 0, .ro, 0⟩]⟩,
  ⟨"PT_OCTETS_RX_OK_LO", 0x150018, 48, 0x200, 1, 0x4, false, [(24, 47)], [], [], [⟨"lo", 31, 0, .ro, 0⟩]⟩,
  ⟨"PT_OCTETS_RX_OK_HI", 0x15001C, 48, 0x200, 1, 0x4, false, [(24, 47)], [], [], [⟨"hi", 31, 0, .ro, 0⟩]⟩,
  ⟨"PT_FCS_ERR_LO", 0x150020, 48, 0x200, 1, 0x4, false, [(24, 47)], [], [], [⟨"lo", 31, 0, .ro, 0⟩]⟩,
  ⟨"PT_FCS_ERR_HI", 0x150024, 48, 0x200, 1, 0x4, false, [(24, 47)], [], [], [⟨"hi", 31, 0, .ro, 0⟩]⟩,
  ⟨"PT_MC_TX_LO", 0x150028, 48, 0x200, 1, 0x4, false, [(24, 47)], [], [], [⟨"lo", 31, 0, .ro, 0⟩]⟩,
  ⟨"PT_MC_TX_HI", 0x15002C, 48, 0x200, 1, 0x4, false, [(24, 47)], [], [], [⟨"hi", 31, 0, .ro, 0⟩]⟩,
  ⟨"PT_BC_TX_LO", 0x150030, 48, 0x200, 1, 0x4, false, [(24, 47)], [], [], [⟨"lo", 31, 0, .ro, 0⟩]⟩,
  ⟨"PT_BC_TX_HI", 0x150034, 48, 0x200, 1, 0x4, false, [(24, 47)], [], [], [⟨"hi", 31, 0, .ro, 0⟩]⟩,
  ⟨"PT_MC_RX_LO", 0x150038, 48, 0x200, 1, 0x4, false, [(24, 47)], [], [], [⟨"lo", 31, 0, .ro, 0⟩]⟩,
  ⟨"PT_MC_RX_HI", 0x15003C, 48, 0x200, 1, 0x4, false, [(24, 47)], [], [], [⟨"hi", 31, 0, .ro, 0⟩]⟩,
  ⟨"PT_BC_RX_LO", 0x150040, 48, 0x200, 1, 0x4, false, [(24, 47)], [], [], [⟨"lo", 31, 0, .ro, 0⟩]⟩,
  ⟨"PT_BC_RX_HI", 0x150044, 48, 0x200, 1, 0x4, false, [(24, 47)], [], [], [⟨"hi", 31, 0, .ro, 0⟩]⟩,
  ⟨"PT_TOO_LONG_LO", 0x150048, 48, 0x200, 1, 0x4, false, [(24, 47)], [], [], [⟨"lo", 31, 0, .ro, 0⟩]⟩,
  ⟨"PT_TOO_LONG_HI", 0x15004C, 48, 0x200, 1, 0x4, false, [(24, 47)], [], [], [⟨"hi", 31, 0, .ro, 0⟩]⟩]

/-- Registers of PT, part 3. -/
def regsPt3 : List Reg := [
  ⟨"PT_RUNT_LO", 0x150050, 48, 0x200, 1, 0x4, false, [(24, 47)], [], [], [⟨"lo", 31, 0, .ro, 0⟩]⟩,
  ⟨"PT_RUNT_HI", 0x150054, 48, 0x200, 1, 0x4, false, [(24, 47)], [], [], [⟨"hi", 31, 0, .ro, 0⟩]⟩,
  ⟨"PT_PAUSE_RX_LO", 0x150058, 48, 0x200, 1, 0x4, false, [(24, 47)], [], [], [⟨"lo", 31, 0, .ro, 0⟩]⟩,
  ⟨"PT_PAUSE_RX_HI", 0x15005C, 48, 0x200, 1, 0x4, false, [(24, 47)], [], [], [⟨"hi", 31, 0, .ro, 0⟩]⟩,
  ⟨"PT_PAUSE_TX_LO", 0x150060, 48, 0x200, 1, 0x4, false, [(24, 47)], [], [], [⟨"lo", 31, 0, .ro, 0⟩]⟩,
  ⟨"PT_PAUSE_TX_HI", 0x150064, 48, 0x200, 1, 0x4, false, [(24, 47)], [], [], [⟨"hi", 31, 0, .ro, 0⟩]⟩,
  ⟨"PT_STOMPED_TX_LO", 0x150068, 48, 0x200, 1, 0x4, false, [(24, 47)], [], [], [⟨"lo", 31, 0, .ro, 0⟩]⟩,
  ⟨"PT_STOMPED_TX_HI", 0x15006C, 48, 0x200, 1, 0x4, false, [(24, 47)], [], [], [⟨"hi", 31, 0, .ro, 0⟩]⟩,
  ⟨"PT_SYM_ERR_FRAMES_LO", 0x150070, 48, 0x200, 1, 0x4, false, [(24, 47)], [], [], [⟨"lo", 31, 0, .ro, 0⟩]⟩,
  ⟨"PT_SYM_ERR_FRAMES_HI", 0x150074, 48, 0x200, 1, 0x4, false, [(24, 47)], [], [], [⟨"hi", 31, 0, .ro, 0⟩]⟩,
  ⟨"PT_DROP_DISABLED_LO", 0x150078, 48, 0x200, 1, 0x4, false, [(24, 47)], [], [], [⟨"lo", 31, 0, .ro, 0⟩]⟩,
  ⟨"PT_DROP_DISABLED_HI", 0x15007C, 48, 0x200, 1, 0x4, false, [(24, 47)], [], [], [⟨"hi", 31, 0, .ro, 0⟩]⟩]

/-- Every register of PT. -/
def regsPt : List Reg := regsPt1 ++ regsPt2 ++ regsPt3

/-- Registers of PR, part 1. -/
def regsPr1 : List Reg := [
  ⟨"PR_CTRL", 0x180000, 1, 0x4, 1, 0x4, true, [], [], [], [⟨"gr_bank", 0, 0, .rw, 0⟩, ⟨"rs_bank", 1, 1, .rw, 0⟩]⟩,
  ⟨"PR_STAT", 0x180004, 1, 0x4, 1, 0x4, false, [], [], [], [⟨"gr_active", 0, 0, .ro, 0⟩, ⟨"rs_active", 1, 1, .ro, 0⟩, ⟨"quiet", 2, 2, .ro, 1⟩]⟩,
  ⟨"PR_RS_DRAINED", 0x180008, 1, 0x4, 1, 0x4, false, [], [], [], [⟨"drained", 0, 0, .ro, 1⟩]⟩,
  ⟨"PR_GR_DRAINED", 0x18000C, 1, 0x4, 1, 0x4, false, [], [], [], [⟨"drained", 0, 0, .ro, 1⟩]⟩,
  ⟨"PR_RS_VER", 0x180010, 2, 0x4, 1, 0x4, false, [], [], [], [⟨"version", 31, 0, .rw, 0⟩]⟩,
  ⟨"PR_RECIRC_AGE", 0x180020, 1, 0x4, 1, 0x4, false, [], [], [], [⟨"age_us", 15, 0, .rw, 0x64⟩]⟩,
  ⟨"PR_BANK_WR_DROP", 0x180024, 1, 0x4, 1, 0x4, false, [], [], [], [⟨"count", 15, 0, .rcr, 0⟩]⟩,
  ⟨"PR_PEND", 0x18003C, 1, 0x4, 1, 0x4, false, [], [], [], [⟨"pend", 0, 0, .ro, 0⟩]⟩,
  ⟨"PR_SYS_Q", 0x180044, 4, 0x4, 1, 0x4, true, [], [], [], [⟨"cpu_q", 4, 0, .rw, 0⟩]⟩,
  ⟨"PR_HASH_GRP", 0x1F0000, 64, 0x10, 1, 0x4, false, [], [], [], [⟨"mode", 0, 0, .rw, 0⟩, ⟨"profile", 3, 1, .rw, 0⟩]⟩,
  ⟨"PR_HASH_SEED", 0x1F0004, 64, 0x10, 1, 0x4, false, [], [], [], [⟨"seed", 31, 0, .rw, 0⟩]⟩,
  ⟨"PR_HASH_PROF", 0x1F0800, 8, 0x10, 4, 0x4, false, [], [], [], [⟨"even", 11, 0, .rw, 0⟩, ⟨"odd", 27, 16, .rw, 0⟩]⟩,
  ⟨"PR_KEY_PROF", 0x1F1000, 2, 0x100, 8, 0x4, false, [], [], [], [⟨"sel0", 4, 0, .rw, 0⟩, ⟨"sel1", 9, 5, .rw, 0⟩, ⟨"sel2", 14, 10, .rw, 0⟩, ⟨"sel3", 19, 15, .rw, 0⟩, ⟨"sel4", 24, 20, .rw, 0⟩, ⟨"sel5", 29, 25, .rw, 0⟩]⟩,
  ⟨"PR_PORT_CFG", 0x180600, 49, 0x4, 1, 0x4, true, [(24, 47)], [], [], [⟨"slow_en", 0, 0, .rw, 0⟩, ⟨"slow_q", 5, 1, .rw, 0⟩, ⟨"key_prof", 8, 6, .rw, 0⟩, ⟨"ptp_trap", 9, 9, .rw, 0⟩, ⟨"fpl_trap", 10, 10, .rw, 0⟩, ⟨"lacp_trap", 11, 11, .rw, 0⟩, ⟨"esmc_trap", 12, 12, .rw, 0⟩]⟩,
  ⟨"PR_INT_STAT", 0x180030, 1, 0x4, 1, 0x4, false, [], [], [], [⟨"rs_drained", 0, 0, .rcr, 0⟩, ⟨"gr_drained", 1, 1, .rcr, 0⟩, ⟨"bank_wr_drop", 2, 2, .rcr, 0⟩, ⟨"parity_transient", 3, 3, .rcr, 0⟩, ⟨"parity_lasting", 4, 4, .rcr, 0⟩, ⟨"recirc_aged", 5, 5, .rcr, 0⟩]⟩,
  ⟨"PR_INT_EN", 0x180034, 1, 0x4, 1, 0x4, false, [], [], [], [⟨"rs_drained", 0, 0, .rw, 0⟩, ⟨"gr_drained", 1, 1, .rw, 0⟩, ⟨"bank_wr_drop", 2, 2, .rw, 0⟩, ⟨"parity_transient", 3, 3, .rw, 0⟩, ⟨"parity_lasting", 4, 4, .rw, 0⟩, ⟨"recirc_aged", 5, 5, .rw, 0⟩]⟩]

/-- Registers of PR, part 2. -/
def regsPr2 : List Reg := [
  ⟨"PR_PARITY_LOG", 0x180038, 1, 0x4, 1, 0x4, false, [], [], [], [⟨"index", 10, 0, .rcr, 0⟩, ⟨"bank", 28, 28, .rcr, 0⟩, ⟨"kind", 29, 29, .rcr, 0⟩, ⟨"more", 30, 30, .rcr, 0⟩, ⟨"valid", 31, 31, .rcr, 0⟩]⟩,
  ⟨"PR_CNT_UNRESOLVED", 0x1F8000, 49, 0x20, 1, 0x4, false, [(24, 47)], [], [], [⟨"unresolved", 31, 0, .rcr, 0⟩]⟩,
  ⟨"PR_CNT_PARSE_DEPTH", 0x1F8004, 49, 0x20, 1, 0x4, false, [(24, 47)], [], [], [⟨"parse_depth", 31, 0, .rcr, 0⟩]⟩,
  ⟨"PR_CNT_LEN_MISMATCH", 0x1F8008, 49, 0x20, 1, 0x4, false, [(24, 47)], [], [], [⟨"len_mismatch", 31, 0, .rcr, 0⟩]⟩,
  ⟨"PR_CNT_LEN_LATE", 0x1F800C, 49, 0x20, 1, 0x4, false, [(24, 47)], [], [], [⟨"len_late", 31, 0, .rcr, 0⟩]⟩,
  ⟨"PR_CNT_RULE_DROP", 0x1F8010, 49, 0x20, 1, 0x4, false, [(24, 47)], [], [], [⟨"rule_drop", 31, 0, .rcr, 0⟩]⟩,
  ⟨"PR_CNT_SLOW_PATH", 0x1F8014, 49, 0x20, 1, 0x4, false, [(24, 47)], [], [], [⟨"slow_path", 31, 0, .rcr, 0⟩]⟩,
  ⟨"PR_CNT_SLOW_OFF", 0x1F8018, 49, 0x20, 1, 0x4, false, [(24, 47)], [], [], [⟨"slow_off", 31, 0, .rcr, 0⟩]⟩,
  ⟨"PR_CNT_RECIRC_AGED", 0x1F801C, 49, 0x20, 1, 0x4, false, [(24, 47)], [], [], [⟨"recirc_aged", 31, 0, .rcr, 0⟩]⟩,
  ⟨"PR_DEF_VERB", 0x180400, 49, 0x4, 1, 0x4, true, [(24, 47)], [], [], [⟨"verb", 20, 0, .rw, 1⟩]⟩,
  ⟨"PR_PERR_VERB", 0x180500, 49, 0x4, 1, 0x4, true, [(24, 47)], [], [], [⟨"verb", 20, 0, .rw, 1⟩]⟩,
  ⟨"PR_CL_HEAD", 0x190000, 128, 0x100, 1, 0x4, false, [], [], [], [⟨"fixed_len", 7, 0, .rw, 0⟩, ⟨"len_mode", 8, 8, .rw, 0⟩, ⟨"accept_on_miss", 9, 9, .rw, 0⟩, ⟨"class_t", 10, 10, .rw, 0⟩, ⟨"sys_class", 13, 11, .rw, 0⟩, ⟨"check_mode", 15, 14, .rw, 0⟩]⟩,
  ⟨"PR_CL_LEN", 0x190004, 128, 0x100, 1, 0x4, false, [], [], [], [⟨"off", 7, 0, .rw, 0⟩, ⟨"bit", 10, 8, .rw, 0⟩, ⟨"width", 15, 11, .rw, 0⟩, ⟨"scale", 18, 16, .rw, 0⟩, ⟨"add", 26, 19, .rw, 0⟩]⟩,
  ⟨"PR_CL_CHK", 0x190008, 128, 0x100, 1, 0x4, false, [], [], [], [⟨"off", 7, 0, .rw, 0⟩, ⟨"bit", 10, 8, .rw, 0⟩, ⟨"width", 15, 11, .rw, 0⟩, ⟨"add", 23, 16, .rw, 0⟩]⟩,
  ⟨"PR_CL_KEY", 0x19000C, 128, 0x100, 1, 0x4, false, [], [], [], [⟨"off", 7, 0, .rw, 0⟩, ⟨"bit", 10, 8, .rw, 0⟩, ⟨"width", 15, 11, .rw, 0⟩, ⟨"valid", 16, 16, .rw, 0⟩]⟩,
  ⟨"PR_CL_NOUN", 0x190010, 128, 0x100, 8, 0x4, false, [], [], [], [⟨"off", 7, 0, .rw, 0⟩, ⟨"bit", 10, 8, .rw, 0⟩, ⟨"width", 15, 11, .rw, 0⟩, ⟨"slot", 20, 16, .rw, 0⟩, ⟨"valid", 31, 31, .rw, 0⟩]⟩]

/-- Registers of PR, part 3. -/
def regsPr3 : List Reg := [
  ⟨"PR_CL_RSV", 0x190030, 128, 0x100, 4, 0x4, false, [], [], [], []⟩,
  ⟨"PR_CL_VALUE", 0x190040, 128, 0x100, 16, 0xC, false, [], [], [], [⟨"value", 31, 0, .rw, 0⟩]⟩,
  ⟨"PR_CL_MASK", 0x190044, 128, 0x100, 16, 0xC, false, [], [], [], [⟨"mask", 31, 0, .rw, 0⟩]⟩,
  ⟨"PR_CL_NEXT", 0x190048, 128, 0x100, 16, 0xC, false, [], [], [], [⟨"next", 5, 0, .rw, 0⟩, ⟨"accept", 6, 6, .rw, 0⟩, ⟨"valid", 7, 7, .rw, 0⟩]⟩,
  ⟨"PR_RULE_VALUE", 0x1A0000, 4096, 0x40, 6, 0x4, false, [], [], [], [⟨"value", 31, 0, .rw, 0⟩]⟩,
  ⟨"PR_RULE_MASK", 0x1A0018, 4096, 0x40, 6, 0x4, false, [], [], [], [⟨"mask", 31, 0, .rw, 0⟩]⟩,
  ⟨"PR_RULE_VERB", 0x1A0030, 4096, 0x40, 1, 0x4, false, [], [], [], [⟨"verb", 20, 0, .rw, 0⟩]⟩,
  ⟨"PR_RULE_META", 0x1A0034, 4096, 0x40, 1, 0x4, false, [], [], [], [⟨"recirc_tag", 15, 0, .rw, 0⟩, ⟨"hash_grp", 21, 16, .rw, 0⟩, ⟨"hash_set", 22, 22, .rw, 0⟩, ⟨"valid", 31, 31, .rw, 0⟩]⟩,
  ⟨"PR_RULE_RSV", 0x1A0038, 4096, 0x40, 2, 0x4, false, [], [], [], []⟩,
  ⟨"PR_IND", 0x1E0000, 64, 0x400, 256, 0x4, false, [], [], [], [⟨"member", 14, 0, .rw, 0⟩, ⟨"kind", 15, 15, .rw, 0⟩]⟩]

/-- Every register of PR. -/
def regsPr : List Reg := regsPr1 ++ regsPr2 ++ regsPr3

/-- Registers of FT, part 1. -/
def regsFt1 : List Reg := [
  ⟨"FT_CTRL", 0x200000, 1, 0x4, 1, 0x4, false, [], [], [], [⟨"learn_en", 0, 0, .rw, 1⟩, ⟨"hit_on_da", 1, 1, .rw, 0⟩]⟩,
  ⟨"FT_STAT", 0x200004, 1, 0x4, 1, 0x4, false, [], [], [], [⟨"mac_count", 19, 0, .ro, 0⟩]⟩,
  ⟨"FT_EPOCH", 0x200008, 1, 0x4, 1, 0x4, false, [], [], [], [⟨"current", 15, 0, .ro, 1⟩]⟩,
  ⟨"FT_EPOCH_ADV", 0x20000C, 1, 0x4, 1, 0x4, false, [], [], [], [⟨"adv", 31, 0, .wt, 0⟩]⟩,
  ⟨"FT_DRAIN_EPOCH", 0x200010, 1, 0x4, 1, 0x4, false, [], [], [], [⟨"value", 15, 0, .ro, 1⟩]⟩,
  ⟨"FT_AGE", 0x200014, 1, 0x4, 1, 0x4, false, [], [], [], [⟨"period_s", 11, 0, .rw, 0x12c⟩]⟩,
  ⟨"FT_MOVE_HOLD", 0x200018, 1, 0x4, 1, 0x4, false, [], [], [], [⟨"hold_ms", 6, 0, .rw, 0xa⟩]⟩,
  ⟨"FT_CUCKOO_CFG", 0x20001C, 1, 0x4, 1, 0x4, false, [], [], [], [⟨"max_moves", 7, 0, .rw, 0x20⟩]⟩,
  ⟨"FT_MAC_SEED", 0x200020, 2, 0x4, 1, 0x4, false, [], [], [(1, 0x5A5A5A5A)], [⟨"seed", 31, 0, .rw, 0⟩]⟩,
  ⟨"FT_LABEL_CFG", 0x200028, 1, 0x4, 1, 0x4, false, [], [], [], [⟨"base", 19, 0, .rw, 0⟩]⟩,
  ⟨"FT_DMA_CFG", 0x20002C, 1, 0x4, 1, 0x4, false, [], [], [], [⟨"lock_us", 15, 0, .rw, 0x64⟩]⟩,
  ⟨"FT_PORT_CFG", 0x200100, 49, 0x4, 1, 0x4, false, [(24, 47)], [], [], [⟨"pvid", 11, 0, .rw, 1⟩, ⟨"learn_en", 12, 12, .rw, 1⟩, ⟨"flow_en", 16, 16, .rw, 0⟩, ⟨"flow_slot", 21, 17, .rw, 0x14⟩, ⟨"flow_half", 22, 22, .rw, 1⟩, ⟨"label_en", 23, 23, .rw, 0⟩, ⟨"lag_grp", 30, 25, .rw, 0⟩, ⟨"lag_en", 31, 31, .rw, 0⟩]⟩,
  ⟨"FT_INT_STAT", 0x200030, 1, 0x4, 1, 0x4, false, [], [], [], [⟨"insert_fail", 0, 0, .rcr, 0⟩, ⟨"parity_transient", 1, 1, .rcr, 0⟩, ⟨"parity_lasting", 2, 2, .rcr, 0⟩, ⟨"drain_adv", 3, 3, .rcr, 0⟩, ⟨"learn_drop", 4, 4, .rcr, 0⟩, ⟨"delta_ovf", 5, 5, .rcr, 0⟩, ⟨"epoch_full", 6, 6, .rcr, 0⟩, ⟨"lock_expired", 7, 7, .rcr, 0⟩, ⟨"seed_locked", 8, 8, .rcr, 0⟩]⟩,
  ⟨"FT_INT_EN", 0x200034, 1, 0x4, 1, 0x4, false, [], [], [], [⟨"insert_fail", 0, 0, .rw, 0⟩, ⟨"parity_transient", 1, 1, .rw, 0⟩, ⟨"parity_lasting", 2, 2, .rw, 0⟩, ⟨"drain_adv", 3, 3, .rw, 0⟩, ⟨"learn_drop", 4, 4, .rw, 0⟩, ⟨"delta_ovf", 5, 5, .rw, 0⟩, ⟨"epoch_full", 6, 6, .rw, 0⟩, ⟨"lock_expired", 7, 7, .rw, 0⟩, ⟨"seed_locked", 8, 8, .rw, 0⟩]⟩,
  ⟨"FT_PARITY_LOG", 0x200038, 1, 0x4, 1, 0x4, false, [], [], [], [⟨"index", 19, 0, .rcr, 0⟩, ⟨"word", 25, 24, .rcr, 0⟩, ⟨"table", 29, 26, .rcr, 0⟩, ⟨"more", 30, 30, .rcr, 0⟩, ⟨"valid", 31, 31, .rcr, 0⟩]⟩,
  ⟨"FT_INSERT_FAIL", 0x200040, 1, 0x4, 1, 0x4, false, [], [], [], [⟨"count", 31, 0, .rcr, 0⟩]⟩]

/-- Registers of FT, part 2. -/
def regsFt2 : List Reg := [
  ⟨"FT_FLAP", 0x200044, 1, 0x4, 1, 0x4, false, [], [], [], [⟨"count", 31, 0, .rcr, 0⟩]⟩,
  ⟨"FT_STATION_MOVE", 0x200048, 1, 0x4, 1, 0x4, false, [], [], [], [⟨"count", 31, 0, .rcr, 0⟩]⟩,
  ⟨"FT_LEARN_DROP", 0x20004C, 1, 0x4, 1, 0x4, false, [], [], [], [⟨"queue_full", 15, 0, .rcr, 0⟩, ⟨"static_conflict", 31, 16, .rcr, 0⟩]⟩,
  ⟨"FT_AGED", 0x200050, 1, 0x4, 1, 0x4, false, [], [], [], [⟨"count", 31, 0, .rcr, 0⟩]⟩,
  ⟨"FT_LEARNED", 0x200054, 1, 0x4, 1, 0x4, false, [], [], [], [⟨"count", 31, 0, .rcr, 0⟩]⟩,
  ⟨"FT_PARITY_CNT", 0x200058, 1, 0x4, 1, 0x4, false, [], [], [], [⟨"transient", 15, 0, .rcr, 0⟩, ⟨"lasting", 31, 16, .rcr, 0⟩]⟩,
  ⟨"FT_VLAN_DROP", 0x20005C, 1, 0x4, 1, 0x4, false, [], [], [], [⟨"count", 31, 0, .rcr, 0⟩]⟩,
  ⟨"FT_LABEL_MISS", 0x200068, 1, 0x4, 1, 0x4, false, [], [], [], [⟨"count", 31, 0, .rcr, 0⟩]⟩,
  ⟨"FT_UNK_UC_DROP", 0x20006C, 1, 0x4, 1, 0x4, false, [], [], [], [⟨"count", 31, 0, .rcr, 0⟩]⟩,
  ⟨"FT_RING_INT_STAT", 0x200060, 1, 0x4, 1, 0x4, false, [], [], [], [⟨"done", 7, 0, .rcr, 0⟩, ⟨"err", 15, 8, .rcr, 0⟩]⟩,
  ⟨"FT_RING_INT_EN", 0x200064, 1, 0x4, 1, 0x4, false, [], [], [], [⟨"en", 15, 0, .rw, 0⟩]⟩,
  ⟨"FT_RING_BASE_LO", 0x201000, 8, 0x40, 1, 0x4, false, [], [], [], [⟨"base_lo", 31, 5, .rw, 0⟩]⟩,
  ⟨"FT_RING_BASE_HI", 0x201004, 8, 0x40, 1, 0x4, false, [], [], [], [⟨"base_hi", 31, 0, .rw, 0⟩]⟩,
  ⟨"FT_RING_CFG", 0x201008, 8, 0x40, 1, 0x4, false, [], [], [], [⟨"enable", 0, 0, .rw, 0⟩, ⟨"size_log2", 4, 1, .rw, 4⟩]⟩,
  ⟨"FT_RING_HEAD", 0x20100C, 8, 0x40, 1, 0x4, false, [], [], [], [⟨"head", 11, 0, .rw, 0⟩]⟩,
  ⟨"FT_RING_TAIL", 0x201010, 8, 0x40, 1, 0x4, false, [], [], [], [⟨"tail", 11, 0, .ro, 0⟩, ⟨"idle", 16, 16, .ro, 1⟩]⟩]

/-- Registers of FT, part 3. -/
def regsFt3 : List Reg := [
  ⟨"FT_RING_STAT", 0x201014, 8, 0x40, 1, 0x4, false, [], [], [], [⟨"dma_err", 0, 0, .rcr, 0⟩, ⟨"lock_held", 1, 1, .ro, 0⟩]⟩]

/-- Every register of FT. -/
def regsFt : List Reg := regsFt1 ++ regsFt2 ++ regsFt3

/-- Registers of SC, part 1. -/
def regsSc1 : List Reg := [
  ⟨"SC_CTRL", 0x400000, 1, 0x4, 1, 0x4, true, [], [], [], [⟨"dlm_en", 0, 0, .rw, 0⟩, ⟨"auto_spare", 1, 1, .rw, 1⟩]⟩,
  ⟨"SC_BUF_CFG", 0x400004, 1, 0x4, 1, 0x4, true, [], [], [], [⟨"sram_reserve", 17, 0, .rw, 0x2000⟩]⟩,
  ⟨"SC_T_RESERVE", 0x400008, 1, 0x4, 1, 0x4, true, [], [], [], [⟨"cells", 17, 0, .rw, 0x800⟩]⟩,
  ⟨"SC_AGE_LIMIT", 0x40000C, 1, 0x4, 1, 0x4, true, [], [], [], [⟨"limit_us", 19, 0, .rw, 0xc350⟩]⟩,
  ⟨"SC_BAL_Q", 0x400010, 1, 0x4, 1, 0x4, true, [], [], [], [⟨"cpu_q", 4, 0, .rw, 0x1f⟩]⟩,
  ⟨"SC_RED_PROF", 0x400100, 16, 0x20, 1, 0x4, true, [], [], [], [⟨"w", 3, 0, .rw, 0⟩]⟩,
  ⟨"SC_RED_MIN", 0x400108, 16, 0x20, 3, 0x8, true, [], [], [], [⟨"min_th", 23, 0, .rw, 0⟩]⟩,
  ⟨"SC_RED_MAX", 0x40010C, 16, 0x20, 3, 0x8, true, [], [], [], [⟨"max_th", 23, 0, .rw, 0⟩, ⟨"max_p", 31, 24, .rw, 0⟩]⟩,
  ⟨"SC_Q_CFG", 0x400800, 424, 0x4, 1, 0x4, true, [(192, 383)], [], [], [⟨"sched", 0, 0, .rw, 0⟩, ⟨"strict", 1, 1, .rw, 0⟩, ⟨"weight", 9, 2, .rw, 1⟩, ⟨"red_prof", 13, 10, .rw, 0⟩, ⟨"red_en", 14, 14, .rw, 0⟩, ⟨"dbm_en", 15, 15, .rw, 0⟩]⟩,
  ⟨"SC_Q_MAX", 0x401000, 424, 0x4, 1, 0x4, true, [(192, 383)], [], [], [⟨"max", 25, 0, .rw, 0x1000⟩]⟩,
  ⟨"SC_PORT_CFG", 0x401800, 48, 0x4, 1, 0x4, true, [(24, 47)], [], [], [⟨"def_tc", 2, 0, .rw, 0⟩, ⟨"dei_yellow", 3, 3, .rw, 0⟩, ⟨"flush_on_down", 4, 4, .rw, 0⟩]⟩,
  ⟨"SC_FC_CFG", 0x401900, 48, 0x10, 1, 0x4, true, [(24, 47)], [], [], [⟨"mode", 1, 0, .rw, 0⟩, ⟨"quanta", 31, 16, .rw, 0xffff⟩]⟩,
  ⟨"SC_FC_XOFF", 0x401904, 48, 0x10, 1, 0x4, true, [(24, 47)], [], [], [⟨"xoff", 17, 0, .rw, 0x1000⟩]⟩,
  ⟨"SC_FC_XON", 0x401908, 48, 0x10, 1, 0x4, true, [(24, 47)], [], [], [⟨"xon", 17, 0, .rw, 0xc00⟩]⟩,
  ⟨"SC_BAL_CFG", 0x401C00, 48, 0x4, 1, 0x4, true, [(24, 47)], [], [], [⟨"n_minus_1", 23, 0, .rw, 0⟩, ⟨"ing", 24, 24, .rw, 0⟩, ⟨"egr", 25, 25, .rw, 0⟩, ⟨"random", 26, 26, .rw, 0⟩]⟩,
  ⟨"SC_DLM_RES", 0x402000, 12, 0x40, 16, 0x4, true, [(6, 11)], [], [], [⟨"bay", 3, 0, .rw, 0⟩, ⟨"valid", 4, 4, .rw, 0⟩]⟩]

/-- Registers of SC, part 2. -/
def regsSc2 : List Reg := [
  ⟨"SC_CPUQ_CFG", 0x402400, 32, 0x4, 1, 0x4, true, [], [], ((List.range 8).map fun c => (c + 24, 0x3)), [⟨"dest", 0, 0, .rw, 0⟩, ⟨"weight", 8, 1, .rw, 1⟩]⟩,
  ⟨"SC_STAT", 0x410000, 1, 0x4, 1, 0x4, false, [], [], [], [⟨"dlm_degraded", 0, 0, .ro, 0⟩]⟩,
  ⟨"SC_PEND", 0x41000C, 1, 0x4, 1, 0x4, false, [], [], [], [⟨"pend", 0, 0, .ro, 0⟩]⟩,
  ⟨"SC_BUF_STAT", 0x410010, 1, 0x4, 1, 0x4, false, [], [], [], [⟨"sram_free", 17, 0, .ro, 0x28000⟩]⟩,
  ⟨"SC_DBM_STAT", 0x410014, 1, 0x4, 1, 0x4, false, [], [], [], [⟨"dbm_free", 25, 0, .ro, 0⟩]⟩,
  ⟨"SC_MEZZ_STAT", 0x410018, 1, 0x4, 1, 0x4, false, [], [], [], [⟨"faulty", 16, 0, .ro, 0⟩, ⟨"spare_for", 20, 17, .ro, 0⟩, ⟨"spare_in_use", 21, 21, .ro, 0⟩, ⟨"swap_busy", 22, 22, .ro, 0⟩]⟩,
  ⟨"SC_MEZZ_IDLE", 0x41001C, 1, 0x4, 1, 0x4, false, [], [], [], [⟨"idle", 15, 0, .ro, 0⟩]⟩,
  ⟨"SC_MEZZ_SWAP", 0x410020, 1, 0x4, 1, 0x4, false, [], [], [], [⟨"pos", 3, 0, .gw, 0⟩, ⟨"go", 4, 4, .gw, 0⟩]⟩,
  ⟨"SC_ECC_CNT", 0x410024, 1, 0x4, 1, 0x4, false, [], [], [], [⟨"corrected", 9, 0, .rcr, 0⟩, ⟨"transient", 20, 10, .rcr, 0⟩, ⟨"lasting", 31, 21, .rcr, 0⟩]⟩,
  ⟨"SC_BAL_LOST", 0x410028, 1, 0x4, 1, 0x4, false, [], [], [], [⟨"count", 31, 0, .rcr, 0⟩]⟩,
  ⟨"SC_DLM_LATE", 0x41002C, 1, 0x4, 1, 0x4, false, [], [], [], [⟨"count", 31, 0, .rcr, 0⟩]⟩,
  ⟨"SC_DLM_MISS", 0x410030, 1, 0x4, 1, 0x4, false, [], [], [], [⟨"count", 31, 0, .rcr, 0⟩]⟩,
  ⟨"SC_CPUQ_INT_STAT", 0x410034, 1, 0x4, 1, 0x4, false, [], [], [], [⟨"done", 31, 0, .rcr, 0⟩]⟩,
  ⟨"SC_CPUQ_INT_EN", 0x410038, 1, 0x4, 1, 0x4, false, [], [], [], [⟨"en", 31, 0, .rw, 0⟩]⟩,
  ⟨"SC_DISABLE_DISCARD", 0x410100, 48, 0x4, 1, 0x4, false, [(24, 47)], [], [], [⟨"count", 31, 0, .rcr, 0⟩]⟩,
  ⟨"SC_MC_PARTIAL", 0x410200, 48, 0x4, 1, 0x4, false, [(24, 47)], [], [], [⟨"count", 31, 0, .rcr, 0⟩]⟩]

/-- Registers of SC, part 3. -/
def regsSc3 : List Reg := [
  ⟨"SC_Q_OCC", 0x410400, 472, 0x4, 1, 0x4, false, [(192, 383), (448, 471)], [], [], [⟨"cells", 25, 0, .ro, 0⟩]⟩,
  ⟨"SC_Q_PEAK", 0x410C00, 472, 0x4, 1, 0x4, false, [(192, 383), (448, 471)], [], [], [⟨"cells", 25, 0, .rcr, 0⟩]⟩,
  ⟨"SC_DROP", 0x420000, 473, 0x40, 16, 0x4, false, [(192, 383), (448, 471)], [], [], [⟨"count", 31, 0, .rcr, 0⟩]⟩,
  ⟨"SC_DELAY_HIST", 0x430000, 472, 0x40, 16, 0x4, false, [(192, 383), (448, 471)], [], [], [⟨"count", 31, 0, .rcr, 0⟩]⟩,
  ⟨"SC_INT_STAT", 0x410004, 1, 0x4, 1, 0x4, false, [], [], [], [⟨"txr_done", 7, 0, .rcr, 0⟩, ⟨"txr_err", 8, 8, .rcr, 0⟩, ⟨"ecc_transient", 9, 9, .rcr, 0⟩, ⟨"ecc_lasting", 10, 10, .rcr, 0⟩, ⟨"mezz_swap_done", 11, 11, .rcr, 0⟩, ⟨"mezz_idle", 12, 12, .rcr, 0⟩, ⟨"landing_timeout", 13, 13, .rcr, 0⟩, ⟨"buffer_full", 14, 14, .rcr, 0⟩, ⟨"dlm_late", 15, 15, .rcr, 0⟩, ⟨"res_conflict", 16, 16, .rcr, 0⟩, ⟨"bal_lost", 17, 17, .rcr, 0⟩]⟩,
  ⟨"SC_INT_EN", 0x410008, 1, 0x4, 1, 0x4, false, [], [], [], [⟨"txr_done", 7, 0, .rw, 0⟩, ⟨"txr_err", 8, 8, .rw, 0⟩, ⟨"ecc_transient", 9, 9, .rw, 0⟩, ⟨"ecc_lasting", 10, 10, .rw, 0⟩, ⟨"mezz_swap_done", 11, 11, .rw, 0⟩, ⟨"mezz_idle", 12, 12, .rw, 0⟩, ⟨"landing_timeout", 13, 13, .rw, 0⟩, ⟨"buffer_full", 14, 14, .rw, 0⟩, ⟨"dlm_late", 15, 15, .rw, 0⟩, ⟨"res_conflict", 16, 16, .rw, 0⟩, ⟨"bal_lost", 17, 17, .rw, 0⟩]⟩,
  ⟨"SC_CPUQ_RING_BASE_LO", 0x412000, 32, 0x20, 1, 0x4, false, [], [], [], [⟨"base_lo", 31, 5, .rw, 0⟩]⟩,
  ⟨"SC_CPUQ_RING_BASE_HI", 0x412004, 32, 0x20, 1, 0x4, false, [], [], [], [⟨"base_hi", 31, 0, .rw, 0⟩]⟩,
  ⟨"SC_CPUQ_RING_CFG", 0x412008, 32, 0x20, 1, 0x4, false, [], [], [], [⟨"enable", 0, 0, .rw, 0⟩, ⟨"size_log2", 4, 1, .rw, 4⟩]⟩,
  ⟨"SC_CPUQ_RING_HEAD", 0x41200C, 32, 0x20, 1, 0x4, false, [], [], [], [⟨"head", 11, 0, .rw, 0⟩]⟩,
  ⟨"SC_CPUQ_RING_TAIL", 0x412010, 32, 0x20, 1, 0x4, false, [], [], [], [⟨"tail", 11, 0, .ro, 0⟩, ⟨"idle", 16, 16, .ro, 1⟩]⟩,
  ⟨"SC_CPUQ_RING_STAT", 0x412014, 32, 0x20, 1, 0x4, false, [], [], [], [⟨"dma_err", 0, 0, .rcr, 0⟩]⟩,
  ⟨"SC_TXR_BASE_LO", 0x412400, 8, 0x20, 1, 0x4, false, [], [], [], [⟨"base_lo", 31, 5, .rw, 0⟩]⟩,
  ⟨"SC_TXR_BASE_HI", 0x412404, 8, 0x20, 1, 0x4, false, [], [], [], [⟨"base_hi", 31, 0, .rw, 0⟩]⟩,
  ⟨"SC_TXR_CFG", 0x412408, 8, 0x20, 1, 0x4, false, [], [], [], [⟨"enable", 0, 0, .rw, 0⟩, ⟨"size_log2", 4, 1, .rw, 4⟩]⟩,
  ⟨"SC_TXR_HEAD", 0x41240C, 8, 0x20, 1, 0x4, false, [], [], [], [⟨"head", 11, 0, .rw, 0⟩]⟩]

/-- Registers of SC, part 4. -/
def regsSc4 : List Reg := [
  ⟨"SC_TXR_TAIL", 0x412410, 8, 0x20, 1, 0x4, false, [], [], [], [⟨"tail", 11, 0, .ro, 0⟩, ⟨"idle", 16, 16, .ro, 1⟩]⟩,
  ⟨"SC_TXR_STAT", 0x412414, 8, 0x20, 1, 0x4, false, [], [], [], [⟨"dma_err", 0, 0, .rcr, 0⟩]⟩]

/-- Every register of SC. -/
def regsSc : List Reg := regsSc1 ++ regsSc2 ++ regsSc3 ++ regsSc4

/-- Registers of GT, part 1. -/
def regsGt1 : List Reg := [
  ⟨"GT_CTRL", 0x600000, 48, 0x200, 1, 0x4, true, [(24, 47)], [], [], [⟨"enable", 0, 0, .rw, 0⟩, ⟨"bank", 1, 1, .rw, 0⟩]⟩,
  ⟨"GT_FLIGHT", 0x600004, 48, 0x200, 1, 0x4, true, [(24, 47)], [], [], [⟨"flight", 29, 0, .rw, 0x4c4b4⟩]⟩,
  ⟨"GT_BASE_SEC", 0x600008, 48, 0x200, 1, 0x4, true, [(24, 47)], [], [], [⟨"sec_lo", 31, 0, .rw, 0⟩]⟩,
  ⟨"GT_BASE_W1", 0x60000C, 48, 0x200, 1, 0x4, true, [(24, 47)], [], [], [⟨"sec_hi", 15, 0, .rw, 0⟩, ⟨"frac", 31, 16, .rw, 0⟩]⟩,
  ⟨"GT_BASE_NS", 0x600010, 48, 0x200, 1, 0x4, true, [(24, 47)], [], [], [⟨"ns", 29, 0, .rw, 0⟩]⟩,
  ⟨"GT_FORCE", 0x600014, 48, 0x200, 1, 0x4, true, [(24, 47)], [], [], [⟨"close", 7, 0, .rw, 0⟩, ⟨"open", 15, 8, .rw, 0⟩]⟩,
  ⟨"GT_STAT", 0x600020, 48, 0x200, 1, 0x4, false, [(24, 47)], [], [], [⟨"active", 0, 0, .ro, 0⟩, ⟨"bank_active", 1, 1, .ro, 0⟩, ⟨"tread", 13, 4, .ro, 0⟩]⟩,
  ⟨"GT_POS", 0x600024, 48, 0x200, 1, 0x4, false, [(24, 47)], [], [], [⟨"pos", 29, 0, .ro, 0⟩]⟩,
  ⟨"GT_FLIGHT_CNT", 0x600028, 48, 0x200, 1, 0x4, false, [(24, 47)], [], [], [⟨"count", 31, 0, .ro, 0⟩]⟩,
  ⟨"GT_GATES", 0x60002C, 48, 0x200, 1, 0x4, false, [(24, 47)], [], [], [⟨"gates", 7, 0, .ro, 0xff⟩]⟩,
  ⟨"GT_MARK_SEC", 0x600030, 48, 0x200, 1, 0x4, false, [(24, 47)], [], [], [⟨"sec_lo", 31, 0, .ro, 0⟩]⟩,
  ⟨"GT_MARK_NS", 0x600034, 48, 0x200, 1, 0x4, false, [(24, 47)], [], [], [⟨"ns", 29, 0, .ro, 0⟩, ⟨"suspect", 31, 31, .ro, 0⟩]⟩,
  ⟨"GT_WIN_MAX", 0x600040, 48, 0x200, 8, 0x4, false, [(24, 47)], [], [], [⟨"win", 29, 0, .ro, 0x3fffffff⟩]⟩,
  ⟨"GT_PEND", 0x6001FC, 48, 0x200, 1, 0x4, false, [(24, 47)], [], [], [⟨"pend", 0, 0, .ro, 0⟩]⟩,
  ⟨"GT_INT_STAT", 0x606000, 1, 0x4, 1, 0x4, false, [], [], [], [⟨"swap_done", 0, 0, .rcr, 0⟩, ⟨"bank_wr_drop", 1, 1, .rcr, 0⟩, ⟨"mark", 2, 2, .rcr, 0⟩, ⟨"parity_transient", 3, 3, .rcr, 0⟩, ⟨"parity_lasting", 4, 4, .rcr, 0⟩, ⟨"taq_done", 5, 5, .rcr, 0⟩, ⟨"taq_dropped", 6, 6, .rcr, 0⟩, ⟨"taq_group_done", 7, 7, .rcr, 0⟩]⟩,
  ⟨"GT_INT_EN", 0x606004, 1, 0x4, 1, 0x4, false, [], [], [], [⟨"swap_done", 0, 0, .rw, 0⟩, ⟨"bank_wr_drop", 1, 1, .rw, 0⟩, ⟨"mark", 2, 2, .rw, 0⟩, ⟨"parity_transient", 3, 3, .rw, 0⟩, ⟨"parity_lasting", 4, 4, .rw, 0⟩, ⟨"taq_done", 5, 5, .rw, 0⟩, ⟨"taq_dropped", 6, 6, .rw, 0⟩, ⟨"taq_group_done", 7, 7, .rw, 0⟩]⟩]

/-- Registers of GT, part 2. -/
def regsGt2 : List Reg := [
  ⟨"GT_SWAP_DONE_LO", 0x606008, 1, 0x4, 1, 0x4, false, [], [], [], [⟨"ports", 31, 0, .rcr, 0⟩]⟩,
  ⟨"GT_SWAP_DONE_HI", 0x60600C, 1, 0x4, 1, 0x4, false, [], [], [], [⟨"ports", 15, 0, .rcr, 0⟩]⟩,
  ⟨"GT_MARK_LO", 0x606010, 1, 0x4, 1, 0x4, false, [], [], [], [⟨"ports", 31, 0, .rcr, 0⟩]⟩,
  ⟨"GT_MARK_HI", 0x606014, 1, 0x4, 1, 0x4, false, [], [], [], [⟨"ports", 15, 0, .rcr, 0⟩]⟩,
  ⟨"GT_WR_DROP", 0x606018, 1, 0x4, 1, 0x4, false, [], [], [], [⟨"bank", 15, 0, .rcr, 0⟩, ⟨"taq", 31, 16, .rcr, 0⟩]⟩,
  ⟨"GT_PARITY", 0x60601C, 1, 0x4, 1, 0x4, false, [], [], [], [⟨"tread", 9, 0, .rcr, 0⟩, ⟨"transient", 19, 10, .rcr, 0⟩, ⟨"port", 25, 20, .rcr, 0⟩, ⟨"bank", 29, 29, .rcr, 0⟩, ⟨"more", 30, 30, .rcr, 0⟩, ⟨"valid", 31, 31, .rcr, 0⟩]⟩,
  ⟨"GT_TAQ_ARM", 0x606020, 1, 0x4, 1, 0x4, false, [], [], [], [⟨"index", 7, 0, .wt, 0⟩]⟩,
  ⟨"GT_TAQ_ARM_G", 0x606024, 1, 0x4, 1, 0x4, false, [], [], [], [⟨"index", 7, 0, .gw, 0⟩]⟩,
  ⟨"GT_TAQ_ARM_STAT", 0x606028, 1, 0x4, 1, 0x4, false, [], [], [], [⟨"index", 7, 0, .ro, 0⟩, ⟨"result", 10, 8, .ro, 0⟩, ⟨"port", 30, 30, .ro, 0⟩, ⟨"valid", 31, 31, .ro, 0⟩]⟩,
  ⟨"GT_TAQ_CANCEL", 0x60602C, 1, 0x4, 1, 0x4, false, [], [], [], [⟨"index", 7, 0, .wt, 0⟩]⟩,
  ⟨"GT_TAQ_CANCEL_GRP", 0x606030, 1, 0x4, 1, 0x4, false, [], [], [], [⟨"group", 15, 0, .wt, 0⟩]⟩,
  ⟨"GT_TAQ_STAT", 0x606034, 1, 0x4, 1, 0x4, false, [], [], [], [⟨"armed", 8, 0, .ro, 0⟩, ⟨"next", 23, 16, .ro, 0⟩, ⟨"next_valid", 24, 24, .ro, 0⟩]⟩,
  ⟨"GT_TAQ_GRP_LAST", 0x606038, 1, 0x4, 1, 0x4, false, [], [], [], [⟨"group", 15, 0, .rcr, 0⟩, ⟨"more", 16, 16, .rcr, 0⟩]⟩,
  ⟨"GT_TAQ_DONE", 0x606040, 8, 0x4, 1, 0x4, false, [], [], [], [⟨"entries", 31, 0, .rcr, 0⟩]⟩,
  ⟨"GT_TREAD_DUR", 0x610000, 48, 0x4000, 2048, 0x8, false, [(24, 47)], [], [], [⟨"duration", 29, 0, .rw, 0⟩, ⟨"mark", 31, 31, .rw, 0⟩]⟩,
  ⟨"GT_TREAD_GATES", 0x610004, 48, 0x4000, 2048, 0x8, false, [(24, 47)], [], [], [⟨"gates", 7, 0, .rw, 0⟩]⟩]

/-- Registers of GT, part 3. -/
def regsGt3 : List Reg := [
  ⟨"GT_TAQ_ADDR", 0x6E0000, 256, 0x40, 1, 0x4, false, [], [], [], [⟨"addr", 25, 0, .rw, 0⟩]⟩,
  ⟨"GT_TAQ_VALUE", 0x6E0004, 256, 0x40, 1, 0x4, false, [], [], [], [⟨"value", 31, 0, .rw, 0⟩]⟩,
  ⟨"GT_TAQ_MASK", 0x6E0008, 256, 0x40, 1, 0x4, false, [], [], [], [⟨"mask", 31, 0, .rw, 0⟩]⟩,
  ⟨"GT_TAQ_SEC", 0x6E000C, 256, 0x40, 1, 0x4, false, [], [], [], [⟨"sec_lo", 31, 0, .rw, 0⟩]⟩,
  ⟨"GT_TAQ_NS", 0x6E0010, 256, 0x40, 1, 0x4, false, [], [], [], [⟨"ns", 31, 0, .rw, 0⟩]⟩,
  ⟨"GT_TAQ_W5", 0x6E0014, 256, 0x40, 1, 0x4, false, [], [], [], [⟨"frac", 15, 0, .rw, 0⟩, ⟨"sec_hi", 31, 16, .rw, 0⟩]⟩,
  ⟨"GT_TAQ_TAG", 0x6E0018, 256, 0x40, 1, 0x4, false, [], [], [], [⟨"group", 15, 0, .rw, 0⟩, ⟨"late_drop", 16, 16, .rw, 0⟩, ⟨"suspect_drop", 17, 17, .rw, 0⟩]⟩,
  ⟨"GT_TAQ_STATE", 0x6E001C, 256, 0x40, 1, 0x4, false, [], [], [], [⟨"state", 2, 0, .ro, 0⟩]⟩,
  ⟨"GT_TAQ_XSEC", 0x6E0020, 256, 0x40, 1, 0x4, false, [], [], [], [⟨"x_sec_lo", 31, 0, .ro, 0⟩]⟩,
  ⟨"GT_TAQ_XNS", 0x6E0024, 256, 0x40, 1, 0x4, false, [], [], [], [⟨"x_ns", 31, 0, .ro, 0⟩]⟩,
  ⟨"GT_TAQ_XW2", 0x6E0028, 256, 0x40, 1, 0x4, false, [], [], [], [⟨"x_frac", 15, 0, .ro, 0⟩, ⟨"x_suspect", 16, 16, .ro, 0⟩]⟩,
  ⟨"GT_TAQ_RSV", 0x6E002C, 256, 0x40, 5, 0x4, false, [], [], [], []⟩]

/-- Every register of GT. -/
def regsGt : List Reg := regsGt1 ++ regsGt2 ++ regsGt3

/-- Registers of TB, part 1. -/
def regsTb1 : List Reg := [
  ⟨"TB_CTRL", 0x700000, 1, 0x4, 1, 0x4, false, [], [], [], [⟨"suspect_clr", 0, 0, .gw, 0⟩]⟩,
  ⟨"TB_STAT", 0x700004, 1, 0x4, 1, 0x4, false, [], [], [], [⟨"suspect", 0, 0, .ro, 1⟩, ⟨"cause_root", 1, 1, .ro, 0⟩, ⟨"cause_restart", 2, 2, .ro, 1⟩, ⟨"tc_state", 6, 4, .ro, 0⟩, ⟨"time_ch", 10, 8, .ro, 0⟩]⟩,
  ⟨"TB_SNAP", 0x700008, 1, 0x4, 1, 0x4, false, [], [], [], [⟨"snap", 31, 0, .wt, 0⟩]⟩,
  ⟨"TB_SNAP_SEC_LO", 0x700010, 3, 0x10, 1, 0x4, false, [], [], [], [⟨"sec_lo", 31, 0, .ro, 0⟩]⟩,
  ⟨"TB_SNAP_W1", 0x700014, 3, 0x10, 1, 0x4, false, [], [], [], [⟨"sec_hi", 15, 0, .ro, 0⟩, ⟨"frac", 31, 16, .ro, 0⟩]⟩,
  ⟨"TB_SNAP_NS", 0x700018, 3, 0x10, 1, 0x4, false, [], [], [], [⟨"ns", 29, 0, .ro, 0⟩, ⟨"suspect", 31, 31, .ro, 0⟩]⟩,
  ⟨"TB_INCR_LO", 0x700040, 1, 0x4, 1, 0x4, false, [], [], [], [⟨"incr_lo", 31, 0, .rw, 0x9999999a⟩]⟩,
  ⟨"TB_INCR_HI", 0x700044, 1, 0x4, 1, 0x4, false, [], [], [], [⟨"incr_hi", 7, 0, .rw, 1⟩]⟩,
  ⟨"TB_OWN_VIOL", 0x700048, 1, 0x4, 1, 0x4, false, [], [], [], [⟨"more", 28, 28, .rcr, 0⟩, ⟨"taq", 29, 29, .rcr, 0⟩, ⟨"port", 30, 30, .rcr, 0⟩, ⟨"valid", 31, 31, .rcr, 0⟩]⟩,
  ⟨"TB_STEP_SEC_LO", 0x700050, 1, 0x4, 1, 0x4, false, [], [], [], [⟨"sec_lo", 31, 0, .rw, 0⟩]⟩,
  ⟨"TB_STEP_W1", 0x700054, 1, 0x4, 1, 0x4, false, [], [], [], [⟨"sec_hi", 15, 0, .rw, 0⟩, ⟨"frac", 31, 16, .rw, 0⟩]⟩,
  ⟨"TB_STEP_NS", 0x700058, 1, 0x4, 1, 0x4, false, [], [], [], [⟨"ns", 29, 0, .rw, 0⟩, ⟨"neg", 31, 31, .rw, 0⟩]⟩,
  ⟨"TB_STEP", 0x70005C, 1, 0x4, 1, 0x4, false, [], [], [], [⟨"go", 0, 0, .gw, 0⟩]⟩,
  ⟨"TB_STEP_CNT", 0x700060, 1, 0x4, 1, 0x4, false, [], [], [], [⟨"count", 31, 0, .ro, 0⟩]⟩,
  ⟨"TB_INT_STAT", 0x700064, 1, 0x4, 1, 0x4, false, [], [], [], [⟨"suspect_set", 0, 0, .rcr, 0⟩, ⟨"suspect_clear", 1, 1, .rcr, 0⟩, ⟨"step_done", 2, 2, .rcr, 0⟩, ⟨"step_bad", 3, 3, .rcr, 0⟩, ⟨"own_viol", 4, 4, .rcr, 0⟩, ⟨"incr_bad", 5, 5, .rcr, 0⟩, ⟨"tod_transient", 6, 6, .rcr, 0⟩, ⟨"tod_lasting", 7, 7, .rcr, 0⟩, ⟨"tod_sec_mismatch", 8, 8, .rcr, 0⟩, ⟨"ptp_mod_err", 9, 9, .rcr, 0⟩]⟩,
  ⟨"TB_INT_EN", 0x700068, 1, 0x4, 1, 0x4, false, [], [], [], [⟨"suspect_set", 0, 0, .rw, 0⟩, ⟨"suspect_clear", 1, 1, .rw, 0⟩, ⟨"step_done", 2, 2, .rw, 0⟩, ⟨"step_bad", 3, 3, .rw, 0⟩, ⟨"own_viol", 4, 4, .rw, 0⟩, ⟨"incr_bad", 5, 5, .rw, 0⟩, ⟨"tod_transient", 6, 6, .rw, 0⟩, ⟨"tod_lasting", 7, 7, .rw, 0⟩, ⟨"tod_sec_mismatch", 8, 8, .rw, 0⟩, ⟨"ptp_mod_err", 9, 9, .rw, 0⟩]⟩]

/-- Registers of TB, part 2. -/
def regsTb2 : List Reg := [
  ⟨"TB_PTP_CFG", 0x700100, 1, 0x4, 1, 0x4, false, [], [], [], [⟨"ptp_clause", 5, 0, .rw, 0xb⟩, ⟨"udp_clause", 13, 8, .rw, 8⟩, ⟨"ipv4_clause", 21, 16, .rw, 5⟩, ⟨"ipv6_clause", 29, 24, .rw, 6⟩]⟩,
  ⟨"TB_PTP_ERR", 0x700104, 1, 0x4, 1, 0x4, false, [], [], [], [⟨"short", 7, 0, .rcr, 0⟩, ⟨"ipv6_nofix", 15, 8, .rcr, 0⟩, ⟨"owner_miss", 23, 16, .rcr, 0⟩, ⟨"step_straddle", 31, 24, .rcr, 0⟩]⟩,
  ⟨"TB_TOD_CFG", 0x700200, 1, 0x4, 1, 0x4, false, [], [], [], [⟨"baud", 2, 0, .rw, 4⟩, ⟨"tx_en", 4, 4, .rw, 0⟩, ⟨"rx_en", 5, 5, .rw, 0⟩, ⟨"tx_delay_ms", 16, 8, .rw, 0xa⟩, ⟨"rx_ref", 23, 20, .rw, 0⟩]⟩,
  ⟨"TB_TOD_STAT", 0x700204, 1, 0x4, 1, 0x4, false, [], [], [], [⟨"rx_qual", 0, 0, .ro, 0⟩, ⟨"rx_fault", 1, 1, .ro, 0⟩, ⟨"sec_diff", 31, 16, .ro, 0⟩]⟩,
  ⟨"TB_TOD_CNT", 0x700208, 1, 0x4, 1, 0x4, false, [], [], [], [⟨"crc_err", 7, 0, .rcr, 0⟩, ⟨"missing", 15, 8, .rcr, 0⟩, ⟨"untimed", 23, 16, .rcr, 0⟩, ⟨"sec_mismatch", 31, 24, .rcr, 0⟩]⟩,
  ⟨"TB_PTP_PORT", 0x701000, 48, 0x4, 1, 0x4, false, [(24, 47)], [], [], [⟨"mode", 1, 0, .rw, 0⟩, ⟨"one_step", 2, 2, .rw, 0⟩, ⟨"ipv6_fix", 3, 3, .rw, 0⟩, ⟨"txts_owner", 4, 4, .rw, 0⟩]⟩,
  ⟨"TB_TXTS", 0x702000, 48, 0x10, 1, 0x4, false, [(24, 47)], [], [], [⟨"ts_id", 15, 0, .rcr, 0⟩, ⟨"dropped", 16, 16, .rcr, 0⟩, ⟨"suspect", 17, 17, .rcr, 0⟩, ⟨"remaining", 28, 24, .rcr, 0⟩, ⟨"valid", 31, 31, .rcr, 0⟩]⟩,
  ⟨"TB_TXTS_SEC", 0x702004, 48, 0x10, 1, 0x4, false, [(24, 47)], [], [], [⟨"sec_lo", 31, 0, .ro, 0⟩]⟩,
  ⟨"TB_TXTS_W2", 0x702008, 48, 0x10, 1, 0x4, false, [(24, 47)], [], [], [⟨"sec_hi", 15, 0, .ro, 0⟩, ⟨"frac", 31, 16, .ro, 0⟩]⟩,
  ⟨"TB_TXTS_NS", 0x70200C, 48, 0x10, 1, 0x4, false, [(24, 47)], [], [], [⟨"ns", 29, 0, .ro, 0⟩]⟩]

/-- Every register of TB. -/
def regsTb : List Reg := regsTb1 ++ regsTb2

/-- Registers of PX, part 1. -/
def regsPx1 : List Reg := [
  ⟨"PX_LINK_CTRL", 0x740000, 48, 0x200, 1, 0x4, true, [(24, 47)], [], [], [⟨"enable", 0, 0, .rw, 0⟩, ⟨"role", 5, 4, .rw, 2⟩, ⟨"interval_log", 8, 6, .rw, 3⟩, ⟨"auto_cal", 9, 9, .rw, 1⟩, ⟨"asym_src", 11, 10, .rw, 0⟩]⟩,
  ⟨"PX_LINK_ASYM", 0x740004, 48, 0x200, 1, 0x4, true, [(24, 47)], [], [], [⟨"asym", 31, 0, .rw, 0⟩]⟩,
  ⟨"PX_PAIR", 0x740008, 48, 0x200, 1, 0x4, true, [(24, 47)], [], [], [⟨"port", 5, 0, .rw, 0⟩, ⟨"valid", 31, 31, .rw, 0⟩]⟩,
  ⟨"PX_WL_TX", 0x74000C, 48, 0x200, 1, 0x4, true, [(24, 47)], [], [], [⟨"w", 31, 0, .rw, 0⟩]⟩,
  ⟨"PX_WL_RX", 0x740010, 48, 0x200, 1, 0x4, true, [(24, 47)], [], [], [⟨"w", 31, 0, .rw, 0⟩]⟩,
  ⟨"PX_FAR", 0x740024, 48, 0x200, 1, 0x4, false, [(24, 47)], [], [], [⟨"node", 15, 0, .ro, 0⟩, ⟨"port", 23, 16, .ro, 0⟩]⟩,
  ⟨"PX_PHASE_TX", 0x740028, 48, 0x200, 1, 0x4, false, [(24, 47)], [], [], [⟨"psi", 19, 0, .ro, 0⟩, ⟨"valid", 31, 31, .ro, 0⟩]⟩,
  ⟨"PX_PHASE_RX", 0x74002C, 48, 0x200, 1, 0x4, false, [(24, 47)], [], [], [⟨"chi", 19, 0, .ro, 0⟩, ⟨"valid", 31, 31, .ro, 0⟩]⟩,
  ⟨"PX_FREQ", 0x740030, 48, 0x200, 1, 0x4, false, [(24, 47)], [], [], [⟨"f", 31, 0, .ro, 0⟩]⟩,
  ⟨"PX_SEQ", 0x740034, 48, 0x200, 1, 0x4, false, [(24, 47)], [], [], [⟨"m", 15, 0, .ro, 0⟩]⟩,
  ⟨"PX_RT_LO", 0x740038, 48, 0x200, 1, 0x4, false, [(24, 47)], [], [], [⟨"rt_lo", 31, 0, .ro, 0⟩]⟩,
  ⟨"PX_RT_HI", 0x74003C, 48, 0x200, 1, 0x4, false, [(24, 47)], [], [], [⟨"rt_hi", 31, 0, .ro, 0⟩]⟩,
  ⟨"PX_DELAY_LO", 0x740040, 48, 0x200, 1, 0x4, false, [(24, 47)], [], [], [⟨"d_ud_lo", 31, 0, .ro, 0⟩]⟩,
  ⟨"PX_DELAY_HI", 0x740044, 48, 0x200, 1, 0x4, false, [(24, 47)], [], [], [⟨"d_ud_hi", 31, 0, .ro, 0⟩]⟩,
  ⟨"PX_OFFSET_LO", 0x740048, 48, 0x200, 1, 0x4, false, [(24, 47)], [], [], [⟨"off_lo", 31, 0, .ro, 0⟩]⟩,
  ⟨"PX_OFFSET_HI", 0x74004C, 48, 0x200, 1, 0x4, false, [(24, 47)], [], [], [⟨"off_hi", 31, 0, .ro, 0⟩]⟩]

/-- Registers of PX, part 2. -/
def regsPx2 : List Reg := [
  ⟨"PX_ASYM_USED", 0x740050, 48, 0x200, 1, 0x4, false, [(24, 47)], [], [], [⟨"asym", 31, 0, .ro, 0⟩]⟩,
  ⟨"PX_CAL_TX", 0x740054, 48, 0x200, 1, 0x4, false, [(24, 47)], [], [], [⟨"l_tx", 31, 0, .ro, 0⟩]⟩,
  ⟨"PX_CAL_RX", 0x740058, 48, 0x200, 1, 0x4, false, [(24, 47)], [], [], [⟨"l_rx", 31, 0, .ro, 0⟩]⟩,
  ⟨"PX_CAL_Q", 0x74005C, 48, 0x200, 1, 0x4, false, [(24, 47)], [], [], [⟨"residual", 15, 0, .ro, 0xffff⟩, ⟨"temp", 31, 16, .ro, 0⟩]⟩,
  ⟨"PX_CNT_EXCH", 0x740060, 48, 0x200, 1, 0x4, false, [(24, 47)], [], [], [⟨"count", 31, 0, .rcr, 0⟩]⟩,
  ⟨"PX_CNT_MISS", 0x740064, 48, 0x200, 1, 0x4, false, [(24, 47)], [], [], [⟨"transient", 15, 0, .rcr, 0⟩, ⟨"lasting", 31, 16, .rcr, 0⟩]⟩,
  ⟨"PX_CNT_DISC", 0x740068, 48, 0x200, 1, 0x4, false, [(24, 47)], [], [], [⟨"stepped", 5, 0, .rcr, 0⟩, ⟨"suspect", 11, 6, .rcr, 0⟩, ⟨"root", 17, 12, .rcr, 0⟩, ⟨"bad_msg", 23, 18, .rcr, 0⟩, ⟨"wrap_err", 27, 24, .rcr, 0⟩, ⟨"fine_fail", 31, 28, .rcr, 0⟩]⟩,
  ⟨"PX_STAT", 0x740020, 48, 0x200, 1, 0x4, false, [(24, 47)], [], [], [⟨"state", 2, 0, .ro, 0⟩, ⟨"downstream", 3, 3, .ro, 0⟩, ⟨"syntonised", 4, 4, .ro, 0⟩, ⟨"cal_valid", 5, 5, .ro, 0⟩, ⟨"cal_stale", 6, 6, .ro, 1⟩, ⟨"far_fine", 7, 7, .ro, 0⟩, ⟨"far_suspect", 8, 8, .ro, 0⟩, ⟨"asym_stale", 9, 9, .ro, 0⟩, ⟨"delivering", 10, 10, .ro, 0⟩, ⟨"role_conflict", 11, 11, .ro, 0⟩]⟩,
  ⟨"PX_CTRL", 0x746000, 1, 0x4, 1, 0x4, true, [], [], [], [⟨"node_id", 15, 0, .rw, 0⟩, ⟨"domain", 23, 16, .rw, 0⟩]⟩,
  ⟨"PX_MAC_LO", 0x746004, 1, 0x4, 1, 0x4, true, [], [], [], [⟨"mac_lo", 31, 0, .rw, 0⟩]⟩,
  ⟨"PX_MAC_HI", 0x746008, 1, 0x4, 1, 0x4, true, [], [], [], [⟨"mac_hi", 15, 0, .rw, 0⟩]⟩,
  ⟨"PX_REF", 0x74600C, 1, 0x4, 1, 0x4, true, [], [], [], [⟨"link", 5, 0, .rw, 0x3f⟩, ⟨"lease_ms", 31, 16, .rw, 0x3e8⟩]⟩,
  ⟨"PX_CAL_CFG", 0x746010, 1, 0x4, 1, 0x4, true, [], [], [], [⟨"temp_k", 7, 0, .rw, 0xa⟩, ⟨"asym_avg_s", 23, 8, .rw, 0x40⟩]⟩,
  ⟨"PX_REF_RENEW", 0x750000, 1, 0x4, 1, 0x4, false, [], [], [], [⟨"renew", 31, 0, .wt, 0⟩]⟩,
  ⟨"PX_REF_STAT", 0x750004, 1, 0x4, 1, 0x4, false, [], [], [], [⟨"lease_ok", 0, 0, .ro, 0⟩, ⟨"delivering", 1, 1, .ro, 0⟩, ⟨"link", 13, 8, .ro, 0x3f⟩]⟩,
  ⟨"PX_EVT_LO", 0x750018, 1, 0x4, 1, 0x4, false, [], [], [], [⟨"links", 31, 0, .rcr, 0⟩]⟩]

/-- Registers of PX, part 3. -/
def regsPx3 : List Reg := [
  ⟨"PX_EVT_HI", 0x75001C, 1, 0x4, 1, 0x4, false, [], [], [], [⟨"links", 15, 0, .rcr, 0⟩]⟩,
  ⟨"PX_PEND", 0x750020, 1, 0x4, 1, 0x4, false, [], [], [], [⟨"pend", 0, 0, .ro, 0⟩]⟩,
  ⟨"PX_INT_STAT", 0x750010, 1, 0x4, 1, 0x4, false, [], [], [], [⟨"state_chg", 0, 0, .rcr, 0⟩, ⟨"cal_done", 1, 1, .rcr, 0⟩, ⟨"miss_lasting", 2, 2, .rcr, 0⟩, ⟨"miss_transient", 3, 3, .rcr, 0⟩, ⟨"role_conflict", 4, 4, .rcr, 0⟩, ⟨"asym_upd", 5, 5, .rcr, 0⟩, ⟨"lease_exp", 6, 6, .rcr, 0⟩, ⟨"discard", 7, 7, .rcr, 0⟩]⟩,
  ⟨"PX_INT_EN", 0x750014, 1, 0x4, 1, 0x4, false, [], [], [], [⟨"state_chg", 0, 0, .rw, 0⟩, ⟨"cal_done", 1, 1, .rw, 0⟩, ⟨"miss_lasting", 2, 2, .rw, 0⟩, ⟨"miss_transient", 3, 3, .rw, 0⟩, ⟨"role_conflict", 4, 4, .rw, 0⟩, ⟨"asym_upd", 5, 5, .rw, 0⟩, ⟨"lease_exp", 6, 6, .rw, 0⟩, ⟨"discard", 7, 7, .rw, 0⟩]⟩]

/-- Every register of PX. -/
def regsPx : List Reg := regsPx1 ++ regsPx2 ++ regsPx3

/-- Registers of TC, part 1. -/
def regsTc1 : List Reg := [
  ⟨"TC_CTRL", 0x780000, 6, 0x1000, 1, 0x4, true, [(4, 5)], [], [], [⟨"enable", 0, 0, .rw, 1⟩, ⟨"revertive", 1, 1, .rw, 1⟩, ⟨"ql_mode", 2, 2, .rw, 0⟩, ⟨"switch_mode", 3, 3, .rw, 0⟩]⟩,
  ⟨"TC_LOOP", 0x780004, 6, 0x1000, 1, 0x4, true, [(4, 5)], [], [], [⟨"bw", 4, 0, .rw, 7⟩, ⟨"lock_win", 15, 8, .rw, 0x14⟩]⟩,
  ⟨"TC_DCO_NOM_LO", 0x780008, 6, 0x1000, 1, 0x4, true, [(4, 5)], [], [], [⟨"f_lo", 31, 0, .rw, 0x540be400⟩]⟩,
  ⟨"TC_DCO_NOM_HI", 0x78000C, 6, 0x1000, 1, 0x4, true, [(4, 5)], [], [], [⟨"f_hi", 3, 0, .rw, 2⟩]⟩,
  ⟨"TC_SOFT", 0x780010, 6, 0x1000, 1, 0x4, true, [(4, 5)], [], [], [⟨"soft", 23, 0, .rw, 0x3e8⟩]⟩,
  ⟨"TC_HARD", 0x780014, 6, 0x1000, 1, 0x4, true, [(4, 5)], [], [], [⟨"hard", 23, 0, .rw, 0x704e0⟩]⟩,
  ⟨"TC_QUAL", 0x780018, 6, 0x1000, 1, 0x4, true, [(4, 5)], [], [], [⟨"qualify_s", 7, 0, .rw, 0xa⟩, ⟨"win", 9, 8, .rw, 1⟩, ⟨"wtr_s", 27, 16, .rw, 0x12c⟩]⟩,
  ⟨"TC_SLEW", 0x78001C, 6, 0x1000, 1, 0x4, true, [(4, 5)], [], [], [⟨"limit", 12, 0, .rw, 0x32⟩]⟩,
  ⟨"TC_PHASE_OFS", 0x780020, 6, 0x1000, 1, 0x4, true, [(4, 5)], [], [], [⟨"ofs", 31, 0, .rw, 0⟩]⟩,
  ⟨"TC_HO_CFG", 0x780024, 6, 0x1000, 1, 0x4, true, [(4, 5)], [], [], [⟨"avg_s", 11, 0, .rw, 0x384⟩, ⟨"ensemble", 12, 12, .rw, 0⟩]⟩,
  ⟨"TC_HO_LIMIT", 0x780028, 6, 0x1000, 1, 0x4, true, [(4, 5)], [], [], [⟨"te_limit_ns", 23, 0, .rw, 0⟩, ⟨"max_h", 31, 24, .rw, 0⟩]⟩,
  ⟨"TC_FORCE", 0x78002C, 6, 0x1000, 1, 0x4, true, [(4, 5)], [], [], [⟨"mode", 1, 0, .rw, 0⟩, ⟨"ref", 13, 8, .rw, 0x3f⟩]⟩,
  ⟨"TC_REF_PRIO", 0x780040, 6, 0x1000, 8, 0x4, true, [(4, 5)], [], [], [⟨"prio", 31, 0, .rw, 0⟩]⟩,
  ⟨"TC_FREQ", 0x780084, 6, 0x1000, 1, 0x4, false, [(4, 5)], [], [], [⟨"y", 31, 0, .ro, 0⟩]⟩,
  ⟨"TC_PHASE_ERR", 0x780088, 6, 0x1000, 1, 0x4, false, [(4, 5)], [], [], [⟨"err", 31, 0, .ro, 0⟩]⟩,
  ⟨"TC_DCO_WORD", 0x78008C, 6, 0x1000, 1, 0x4, false, [(4, 5)], [], [], [⟨"band", 7, 0, .ro, 0⟩, ⟨"fine", 31, 8, .ro, 0⟩]⟩]

/-- Registers of TC, part 2. -/
def regsTc2 : List Reg := [
  ⟨"TC_ABSORBED", 0x780090, 6, 0x1000, 1, 0x4, false, [(4, 5)], [], [], [⟨"ofs", 31, 0, .ro, 0⟩]⟩,
  ⟨"TC_HO_STAT", 0x780094, 6, 0x1000, 1, 0x4, false, [(4, 5)], [], [], [⟨"elapsed_s", 23, 0, .ro, 0⟩, ⟨"trained_h", 31, 24, .ro, 0⟩]⟩,
  ⟨"TC_HO_TE", 0x780098, 6, 0x1000, 1, 0x4, false, [(4, 5)], [], [], [⟨"te_est", 31, 0, .ro, 0xffffffff⟩]⟩,
  ⟨"TC_SW_CNT", 0x78009C, 6, 0x1000, 1, 0x4, false, [(4, 5)], [], [], [⟨"switches", 15, 0, .rcr, 0⟩, ⟨"disq", 31, 16, .rcr, 0⟩]⟩,
  ⟨"TC_RESET", 0x7800A8, 6, 0x1000, 1, 0x4, false, [(4, 5)], [], [], [⟨"reset", 0, 0, .wt, 0⟩]⟩,
  ⟨"TC_TDC_CAL", 0x7800AC, 6, 0x1000, 1, 0x4, false, [(4, 5)], [], [], [⟨"start", 0, 0, .wt, 0⟩]⟩,
  ⟨"TC_TDC_Q", 0x7800B0, 6, 0x1000, 1, 0x4, false, [(4, 5)], [], [], [⟨"residual", 15, 0, .ro, 0xffff⟩, ⟨"temp", 31, 16, .ro, 0⟩]⟩,
  ⟨"TC_PRESET_LO", 0x780100, 6, 0x1000, 16, 0x8, false, [(4, 5)], [], [], [⟨"f_lo", 31, 0, .rw, 0⟩]⟩,
  ⟨"TC_PRESET_HI", 0x780104, 6, 0x1000, 16, 0x8, false, [(4, 5)], [], [], [⟨"f_hi", 3, 0, .rw, 0⟩, ⟨"band", 15, 8, .rw, 0⟩, ⟨"valid", 31, 31, .rw, 0⟩]⟩,
  ⟨"TC_REF_STAT", 0x780400, 6, 0x1000, 63, 0x4, false, [(4, 5)], [(36, 59)], [], [⟨"status", 2, 0, .ro, 0⟩, ⟨"dev", 31, 8, .ro, 0⟩]⟩,
  ⟨"TC_PEND", 0x780FFC, 6, 0x1000, 1, 0x4, false, [(4, 5)], [], [], [⟨"pend", 0, 0, .ro, 0⟩]⟩,
  ⟨"TC_STAT", 0x780080, 6, 0x1000, 1, 0x4, false, [(4, 5)], [], [], [⟨"state", 2, 0, .ro, 0⟩, ⟨"sel_ref", 9, 4, .ro, 0x3f⟩, ⟨"switching", 10, 10, .ro, 0⟩, ⟨"slewing", 11, 11, .ro, 0⟩, ⟨"stale", 12, 12, .ro, 0⟩, ⟨"tdc_cal", 13, 13, .ro, 0⟩, ⟨"resetting", 14, 14, .ro, 0⟩, ⟨"cfg_err", 15, 15, .ro, 0⟩, ⟨"bw_eff", 20, 16, .ro, 7⟩, ⟨"hist_valid", 21, 21, .ro, 0⟩, ⟨"trained", 22, 22, .ro, 0⟩, ⟨"ensemble", 23, 23, .ro, 0⟩]⟩,
  ⟨"TC_INT_STAT", 0x7800A0, 6, 0x1000, 1, 0x4, false, [(4, 5)], [], [], [⟨"state_chg", 0, 0, .rcr, 0⟩, ⟨"switch_done", 1, 1, .rcr, 0⟩, ⟨"band_search", 2, 2, .rcr, 0⟩, ⟨"ref_disq", 3, 3, .rcr, 0⟩, ⟨"ref_degraded", 4, 4, .rcr, 0⟩, ⟨"ho_lost", 5, 5, .rcr, 0⟩, ⟨"tdc_cal_done", 6, 6, .rcr, 0⟩]⟩,
  ⟨"TC_INT_EN", 0x7800A4, 6, 0x1000, 1, 0x4, false, [(4, 5)], [], [], [⟨"state_chg", 0, 0, .rw, 0⟩, ⟨"switch_done", 1, 1, .rw, 0⟩, ⟨"band_search", 2, 2, .rw, 0⟩, ⟨"ref_disq", 3, 3, .rw, 0⟩, ⟨"ref_degraded", 4, 4, .rw, 0⟩, ⟨"ho_lost", 5, 5, .rw, 0⟩, ⟨"tdc_cal_done", 6, 6, .rw, 0⟩]⟩,
  ⟨"TC_ROLES", 0x786000, 1, 0x4, 1, 0x4, true, [], [], [], [⟨"time_ch", 2, 0, .rw, 0⟩, ⟨"synce_ch", 6, 4, .rw, 1⟩]⟩,
  ⟨"TC_REF_CFG", 0x786100, 12, 0x8, 1, 0x4, true, [], [], [], [⟨"freq_hz", 29, 0, .rw, 0⟩]⟩]

/-- Registers of TC, part 3. -/
def regsTc3 : List Reg := [
  ⟨"TC_REF_MUL", 0x786104, 12, 0x8, 1, 0x4, true, [], [], [], [⟨"ref_mul", 1, 0, .rw, 0⟩, ⟨"falling", 2, 2, .rw, 0⟩]⟩,
  ⟨"TC_REF_QL", 0x786200, 8, 0x4, 1, 0x4, true, [], [], [], [⟨"ql", 31, 0, .rw, 0⟩]⟩,
  ⟨"TC_OVO", 0x790000, 1, 0x4, 1, 0x4, false, [], [], [], [⟨"oven_ok", 0, 0, .ro, 0⟩, ⟨"temp", 31, 16, .ro, 0⟩]⟩,
  ⟨"TC_PTP_OFS_LO", 0x790008, 1, 0x4, 1, 0x4, false, [], [], [], [⟨"ofs_lo", 31, 0, .wt, 0⟩]⟩,
  ⟨"TC_PTP_OFS_HI", 0x79000C, 1, 0x4, 1, 0x4, false, [], [], [], [⟨"ofs_hi", 31, 0, .wt, 0⟩]⟩,
  ⟨"TC_REF_FREQ", 0x790100, 63, 0x4, 1, 0x4, false, [(36, 59)], [], [], [⟨"e", 23, 0, .ro, 0⟩, ⟨"active", 30, 30, .ro, 0⟩, ⟨"valid", 31, 31, .ro, 0⟩]⟩]

/-- Every register of TC. -/
def regsTc : List Reg := regsTc1 ++ regsTc2 ++ regsTc3

/-- Registers of OU, part 1. -/
def regsOu1 : List Reg := [
  ⟨"OU_CTRL", 0x7C0000, 16, 0x400, 1, 0x4, true, [(8, 15)], [], [], [⟨"enable", 0, 0, .rw, 0⟩, ⟨"channel", 3, 1, .rw, 1⟩, ⟨"mode", 4, 4, .rw, 0⟩, ⟨"format", 7, 5, .rw, 0⟩, ⟨"off_state", 8, 8, .rw, 1⟩, ⟨"comp_en", 9, 9, .rw, 0⟩, ⟨"invert", 10, 10, .rw, 0⟩]⟩,
  ⟨"OU_DIV_N", 0x7C0004, 18, 0x400, 1, 0x4, true, [(8, 15)], [], [], [⟨"n", 31, 0, .rw, 0x40⟩]⟩,
  ⟨"OU_DIV_NUM", 0x7C0008, 18, 0x400, 1, 0x4, true, [(8, 15)], [], [], [⟨"num", 23, 0, .rw, 0⟩]⟩,
  ⟨"OU_DIV_DEN", 0x7C000C, 18, 0x400, 1, 0x4, true, [(8, 15)], [], [], [⟨"den", 23, 0, .rw, 1⟩]⟩,
  ⟨"OU_DELAY", 0x7C0010, 18, 0x400, 1, 0x4, true, [(8, 15)], [], [], [⟨"fine", 5, 0, .rw, 0⟩, ⟨"coarse", 29, 6, .rw, 0⟩]⟩,
  ⟨"OU_PULSE_PER", 0x7C0014, 18, 0x400, 1, 0x4, true, [(8, 15)], [], [], [⟨"period_ns", 31, 0, .rw, 0x3b9aca00⟩]⟩,
  ⟨"OU_PULSE_W", 0x7C0018, 18, 0x400, 1, 0x4, true, [(8, 15)], [], [], [⟨"width_ns", 31, 0, .rw, 0x5f5e100⟩]⟩,
  ⟨"OU_PULSE_OFS_NS", 0x7C001C, 18, 0x400, 1, 0x4, true, [(8, 15)], [], [], [⟨"ofs_ns", 31, 0, .rw, 0⟩]⟩,
  ⟨"OU_PULSE_OFS_FRAC", 0x7C0020, 18, 0x400, 1, 0x4, true, [(8, 15)], [], [], [⟨"ofs_frac", 15, 0, .rw, 0⟩]⟩,
  ⟨"OU_PULSE_THR", 0x7C0024, 18, 0x400, 1, 0x4, true, [(8, 15)], [], [], [⟨"thr_ps", 15, 0, .rw, 0x3e8⟩]⟩,
  ⟨"OU_PULSE_ERR", 0x7C0084, 18, 0x400, 1, 0x4, false, [(8, 15)], [], [], [⟨"err", 31, 0, .ro, 0⟩]⟩,
  ⟨"OU_PATH_DLY", 0x7C0088, 18, 0x400, 1, 0x4, false, [(8, 15)], [], [], [⟨"dly", 31, 0, .ro, 0⟩]⟩,
  ⟨"OU_PEND", 0x7C03FC, 18, 0x400, 1, 0x4, false, [(8, 15)], [], [], [⟨"pend", 0, 0, .ro, 0⟩]⟩,
  ⟨"OU_STAT", 0x7C0080, 18, 0x400, 1, 0x4, false, [(8, 15)], [], [], [⟨"active", 0, 0, .ro, 0⟩, ⟨"stale", 1, 1, .ro, 0⟩, ⟨"cfg_err", 2, 2, .ro, 0⟩, ⟨"unaligned", 3, 3, .ro, 1⟩, ⟨"aligned_suspect", 4, 4, .ro, 0⟩, ⟨"ramping", 5, 5, .ro, 0⟩, ⟨"realign_pending", 6, 6, .ro, 0⟩]⟩,
  ⟨"OU_INT_STAT", 0x7D0004, 1, 0x4, 1, 0x4, false, [], [], [], [⟨"stale_set", 0, 0, .rcr, 0⟩, ⟨"stale_clear", 1, 1, .rcr, 0⟩, ⟨"unaligned", 2, 2, .rcr, 0⟩, ⟨"realign_done", 3, 3, .rcr, 0⟩, ⟨"ramp_end", 4, 4, .rcr, 0⟩, ⟨"ramp_clamp", 5, 5, .rcr, 0⟩, ⟨"cfg_err", 6, 6, .rcr, 0⟩, ⟨"wr_drop", 7, 7, .rcr, 0⟩]⟩,
  ⟨"OU_INT_EN", 0x7D0008, 1, 0x4, 1, 0x4, false, [], [], [], [⟨"stale_set", 0, 0, .rw, 0⟩, ⟨"stale_clear", 1, 1, .rw, 0⟩, ⟨"unaligned", 2, 2, .rw, 0⟩, ⟨"realign_done", 3, 3, .rw, 0⟩, ⟨"ramp_end", 4, 4, .rw, 0⟩, ⟨"ramp_clamp", 5, 5, .rw, 0⟩, ⟨"cfg_err", 6, 6, .rw, 0⟩, ⟨"wr_drop", 7, 7, .rw, 0⟩]⟩]

/-- Registers of OU, part 2. -/
def regsOu2 : List Reg := [
  ⟨"OU_REALIGN", 0x7D0000, 1, 0x4, 1, 0x4, false, [], [], [], [⟨"gen", 17, 0, .wt, 0⟩]⟩,
  ⟨"OU_EVT", 0x7D000C, 1, 0x4, 1, 0x4, false, [], [], [], [⟨"gen", 17, 0, .rcr, 0⟩]⟩,
  ⟨"OU_RAMP_STOP", 0x7D0010, 1, 0x4, 1, 0x4, false, [], [], [], [⟨"ch", 5, 0, .wt, 0⟩]⟩,
  ⟨"OU_RAMP_STAT", 0x7D0020, 6, 0x4, 1, 0x4, false, [(4, 5)], [], [], [⟨"running", 0, 0, .ro, 0⟩, ⟨"profile", 3, 1, .ro, 0⟩, ⟨"segment", 9, 4, .ro, 0⟩, ⟨"y_r", 31, 10, .ro, 0⟩]⟩,
  ⟨"OU_WR_DROP", 0x7D0040, 1, 0x4, 1, 0x4, false, [], [], [], [⟨"count", 15, 0, .rcr, 0⟩]⟩,
  ⟨"OU_RAMP_CFG", 0x7D0100, 8, 0x4, 1, 0x4, false, [], [], [], [⟨"end_mode", 0, 0, .rw, 0⟩]⟩,
  ⟨"OU_RAMP_DUR", 0x7D8000, 8, 0x200, 64, 0x8, false, [], [], [], [⟨"duration_ms", 23, 0, .rw, 0⟩]⟩,
  ⟨"OU_RAMP_SLOPE", 0x7D8004, 8, 0x200, 64, 0x8, false, [], [], [], [⟨"slope", 31, 0, .rw, 0⟩]⟩,
  ⟨"OU_PPS_CTRL", 0x7C4000, 2, 0x400, 1, 0x4, true, [], [], [], [⟨"enable", 0, 0, .rw, 0⟩, ⟨"channel", 3, 1, .rw, 0⟩, ⟨"mode", 4, 4, .rw, 0⟩, ⟨"format", 7, 5, .rw, 0⟩, ⟨"off_state", 8, 8, .rw, 1⟩, ⟨"comp_en", 9, 9, .rw, 0⟩, ⟨"invert", 10, 10, .rw, 0⟩]⟩]

/-- Every register of OU. -/
def regsOu : List Reg := regsOu1 ++ regsOu2

/-- Registers of EV, part 1. -/
def regsEv1 : List Reg := [
  ⟨"EV_IN_CFG", 0x7E0000, 8, 0x400, 1, 0x4, false, [(4, 7)], [], [], [⟨"enable", 0, 0, .rw, 0⟩, ⟨"edge", 2, 1, .rw, 0⟩, ⟨"ts_fifo", 3, 3, .rw, 0⟩, ⟨"decim", 27, 8, .rw, 0⟩]⟩,
  ⟨"EV_TS", 0x7E0010, 8, 0x400, 1, 0x4, false, [(4, 7)], [], [], [⟨"seq", 15, 0, .rcr, 0⟩, ⟨"falling", 16, 16, .rcr, 0⟩, ⟨"suspect", 17, 17, .rcr, 0⟩, ⟨"remaining", 29, 24, .rcr, 0⟩, ⟨"valid", 31, 31, .rcr, 0⟩]⟩,
  ⟨"EV_TS_SEC", 0x7E0014, 8, 0x400, 1, 0x4, false, [(4, 7)], [], [], [⟨"sec_lo", 31, 0, .ro, 0⟩]⟩,
  ⟨"EV_TS_W2", 0x7E0018, 8, 0x400, 1, 0x4, false, [(4, 7)], [], [], [⟨"sec_hi", 15, 0, .ro, 0⟩, ⟨"frac", 31, 16, .ro, 0⟩]⟩,
  ⟨"EV_TS_NS", 0x7E001C, 8, 0x400, 1, 0x4, false, [(4, 7)], [], [], [⟨"ns", 29, 0, .ro, 0⟩]⟩,
  ⟨"EV_IN_ADJ", 0x7E0004, 8, 0x400, 1, 0x4, false, [(4, 7)], [], [], [⟨"adj", 31, 0, .rw, 0⟩]⟩,
  ⟨"EV_EDGES", 0x7E0020, 8, 0x400, 1, 0x4, false, [(4, 7)], [], [], [⟨"count", 31, 0, .ro, 0⟩]⟩,
  ⟨"EV_CNT", 0x7E0024, 8, 0x400, 1, 0x4, false, [(4, 7)], [], [], [⟨"overrun", 15, 0, .rcr, 0⟩, ⟨"fifo_ovf", 31, 16, .rcr, 0⟩]⟩,
  ⟨"EV_CAL_LOST", 0x7E0028, 8, 0x400, 1, 0x4, false, [(4, 7)], [], [], [⟨"count", 31, 0, .rcr, 0⟩]⟩,
  ⟨"EV_STAT", 0x7E0030, 8, 0x400, 1, 0x4, false, [(4, 7)], [], [], [⟨"cal_busy", 0, 0, .ro, 0⟩, ⟨"cal_stale", 1, 1, .ro, 0⟩, ⟨"live_set", 2, 2, .ro, 0⟩, ⟨"fifo_count", 22, 16, .ro, 0⟩]⟩,
  ⟨"EV_CAL_Q", 0x7E0034, 8, 0x400, 1, 0x4, false, [(4, 7)], [], [], [⟨"residual", 15, 0, .ro, 0⟩, ⟨"temp", 31, 16, .ro, 0⟩]⟩,
  ⟨"EV_CAL", 0x7E0038, 8, 0x400, 1, 0x4, false, [(4, 7)], [], [], [⟨"start", 0, 0, .wt, 0⟩]⟩,
  ⟨"EV_GRP_CFG", 0x7E4000, 8, 0x100, 1, 0x4, false, [], [], [], [⟨"enable", 0, 0, .rw, 0⟩, ⟨"start", 3, 1, .rw, 0⟩, ⟨"stop_mask", 15, 8, .rw, 0⟩, ⟨"cfg_err", 16, 16, .ro, 0⟩]⟩,
  ⟨"EV_GRP_WIN", 0x7E4004, 8, 0x100, 1, 0x4, false, [], [], [], [⟨"window_ns", 29, 0, .rw, 0x3e8⟩]⟩,
  ⟨"EV_GRP_OVF", 0x7E4008, 8, 0x100, 1, 0x4, false, [], [], [], [⟨"count", 31, 0, .rcr, 0⟩]⟩,
  ⟨"EV_RES_RDY", 0x7E6008, 1, 0x4, 1, 0x4, false, [], [], [], [⟨"grp", 7, 0, .ro, 0⟩]⟩]

/-- Registers of EV, part 2. -/
def regsEv2 : List Reg := [
  ⟨"EV_INT_STAT", 0x7E6000, 1, 0x4, 1, 0x4, false, [], [], [], [⟨"res_ready", 0, 0, .rcr, 0⟩, ⟨"overrun", 1, 1, .rcr, 0⟩, ⟨"fifo_ovf", 2, 2, .rcr, 0⟩, ⟨"res_ovf", 3, 3, .rcr, 0⟩, ⟨"cal_done", 4, 4, .rcr, 0⟩, ⟨"cal_fail", 5, 5, .rcr, 0⟩]⟩,
  ⟨"EV_INT_EN", 0x7E6004, 1, 0x4, 1, 0x4, false, [], [], [], [⟨"res_ready", 0, 0, .rw, 0⟩, ⟨"overrun", 1, 1, .rw, 0⟩, ⟨"fifo_ovf", 2, 2, .rw, 0⟩, ⟨"res_ovf", 3, 3, .rw, 0⟩, ⟨"cal_done", 4, 4, .rw, 0⟩, ⟨"cal_fail", 5, 5, .rw, 0⟩]⟩,
  ⟨"EV_RES", 0x7E4040, 8, 0x100, 1, 0x4, false, [], [], [], [⟨"seq", 15, 0, .rcr, 0⟩, ⟨"remaining", 23, 16, .rcr, 0⟩, ⟨"stale", 28, 28, .rcr, 0⟩, ⟨"stepped", 29, 29, .rcr, 0⟩, ⟨"suspect", 30, 30, .rcr, 0⟩, ⟨"valid", 31, 31, .rcr, 0⟩]⟩,
  ⟨"EV_RES_SEC", 0x7E4044, 8, 0x100, 1, 0x4, false, [], [], [], [⟨"sec_lo", 31, 0, .ro, 0⟩]⟩,
  ⟨"EV_RES_W2", 0x7E4048, 8, 0x100, 1, 0x4, false, [], [], [], [⟨"sec_hi", 15, 0, .ro, 0⟩, ⟨"frac", 31, 16, .ro, 0⟩]⟩,
  ⟨"EV_RES_NS", 0x7E404C, 8, 0x100, 1, 0x4, false, [], [], [], [⟨"ns", 29, 0, .ro, 0⟩]⟩,
  ⟨"EV_RES_MAG_LO", 0x7E4050, 8, 0x100, 8, 0x8, false, [], [], [], [⟨"mag_lo", 31, 0, .ro, 0⟩]⟩,
  ⟨"EV_RES_MAG_HI", 0x7E4054, 8, 0x100, 8, 0x8, false, [], [], [], [⟨"mag_hi", 15, 0, .ro, 0⟩, ⟨"sign", 16, 16, .ro, 0⟩, ⟨"coincident", 17, 17, .ro, 0⟩, ⟨"missing", 18, 18, .ro, 0⟩]⟩]

/-- Every register of EV. -/
def regsEv : List Reg := regsEv1 ++ regsEv2

/-- Registers of TW, part 1. -/
def regsTw1 : List Reg := [
  ⟨"TW_CTRL", 0x800000, 1, 0x4, 1, 0x4, true, [], [], [], [⟨"enable", 0, 0, .rw, 1⟩, ⟨"prio", 5, 2, .rw, 8⟩, ⟨"out_gate", 6, 6, .rw, 0⟩, ⟨"px_seed", 7, 7, .rw, 0⟩, ⟨"gal_loop", 9, 8, .rw, 0⟩, ⟨"lag_en", 10, 10, .rw, 0⟩]⟩,
  ⟨"TW_ELECT", 0x800004, 1, 0x4, 1, 0x4, true, [], [], [], [⟨"wait_ms", 15, 0, .rw, 0x1f4⟩]⟩,
  ⟨"TW_CH_MASK", 0x800008, 1, 0x4, 1, 0x4, true, [], [], [], [⟨"ch", 5, 0, .rw, 0x3f⟩]⟩,
  ⟨"TW_OUT_MASK", 0x80000C, 1, 0x4, 1, 0x4, true, [], [], [], [⟨"out", 17, 0, .rw, 0⟩]⟩,
  ⟨"TW_MON_CFG", 0x800010, 4, 0x4, 1, 0x4, true, [], [], [], [⟨"enable", 0, 0, .rw, 0⟩, ⟨"out", 5, 1, .rw, 0⟩, ⟨"time_fine", 6, 6, .rw, 0⟩, ⟨"thr", 23, 8, .rw, 0x64⟩]⟩,
  ⟨"TW_MON_ADJ", 0x800020, 4, 0x4, 1, 0x4, true, [], [], [], [⟨"adj", 31, 0, .rw, 0⟩]⟩,
  ⟨"TW_GAL_ASYM", 0x800030, 1, 0x4, 1, 0x4, true, [], [], [], [⟨"asym", 31, 0, .rw, 0⟩]⟩,
  ⟨"TW_LAG_LO", 0x800034, 1, 0x4, 1, 0x4, true, [], [], [], [⟨"ports", 31, 0, .rw, 0⟩]⟩,
  ⟨"TW_LAG_HI", 0x800038, 1, 0x4, 1, 0x4, true, [], [], [], [⟨"ports", 15, 0, .rw, 0⟩]⟩,
  ⟨"TW_STAT", 0x810000, 1, 0x4, 1, 0x4, false, [], [], [], [⟨"state", 2, 0, .ro, 1⟩, ⟨"seat", 8, 8, .ro, 0⟩, ⟨"role_act", 9, 9, .ro, 0⟩, ⟨"partner_state", 12, 10, .ro, 7⟩, ⟨"gal0_up", 13, 13, .ro, 0⟩, ⟨"gal1_up", 14, 14, .ro, 0⟩, ⟨"hb_ok", 15, 15, .ro, 0⟩, ⟨"hb_partner_active", 16, 16, .ro, 0⟩, ⟨"partner_self_ok", 17, 17, .ro, 0⟩, ⟨"resync_busy", 18, 18, .ro, 0⟩, ⟨"split_brain", 19, 19, .ro, 0⟩, ⟨"fault_cause", 23, 20, .ro, 0⟩]⟩,
  ⟨"TW_FORCE", 0x810004, 1, 0x4, 1, 0x4, false, [], [], [], [⟨"role", 1, 0, .gw, 0⟩]⟩,
  ⟨"TW_MON_STAT", 0x810010, 4, 0x4, 1, 0x4, false, [], [], [], [⟨"dphi", 23, 0, .ro, 0⟩, ⟨"mismatch", 29, 29, .ro, 0⟩, ⟨"active", 30, 30, .ro, 0⟩, ⟨"valid", 31, 31, .ro, 0⟩]⟩,
  ⟨"TW_DELTA", 0x810020, 1, 0x4, 1, 0x4, false, [], [], [], [⟨"delta", 31, 0, .ro, 0⟩]⟩,
  ⟨"TW_CNT_GAL", 0x810024, 1, 0x4, 1, 0x4, false, [], [], [], [⟨"transient", 15, 0, .rcr, 0⟩, ⟨"lasting", 31, 16, .rcr, 0⟩]⟩,
  ⟨"TW_CNT_MON", 0x810028, 1, 0x4, 1, 0x4, false, [], [], [], [⟨"transient", 15, 0, .rcr, 0⟩, ⟨"lasting", 31, 16, .rcr, 0⟩]⟩,
  ⟨"TW_FO", 0x81002C, 1, 0x4, 1, 0x4, false, [], [], [], [⟨"count", 15, 0, .ro, 0⟩, ⟨"cause", 19, 16, .ro, 0⟩]⟩]

/-- Registers of TW, part 2. -/
def regsTw2 : List Reg := [
  ⟨"TW_PEND", 0x810030, 1, 0x4, 1, 0x4, false, [], [], [], [⟨"pend", 0, 0, .ro, 0⟩]⟩,
  ⟨"TW_FO_TIME", 0x810034, 1, 0x4, 1, 0x4, false, [], [], [], [⟨"sec_lo", 31, 0, .ro, 0⟩]⟩,
  ⟨"TW_FO_TIME_NS", 0x810038, 1, 0x4, 1, 0x4, false, [], [], [], [⟨"ns", 29, 0, .ro, 0⟩, ⟨"suspect", 31, 31, .ro, 0⟩]⟩,
  ⟨"TW_RESYNC", 0x81003C, 1, 0x4, 1, 0x4, false, [], [], [], [⟨"entries", 19, 0, .ro, 0⟩, ⟨"loop_ok", 31, 20, .rcr, 0⟩]⟩,
  ⟨"TW_LAG_DISC", 0x810100, 48, 0x4, 1, 0x4, false, [(24, 47)], [], [], [⟨"count", 31, 0, .rcr, 0⟩]⟩,
  ⟨"TW_PX_COPY", 0x811000, 48, 0x20, 1, 0x4, false, [(24, 47)], [], [], [⟨"state", 2, 0, .ro, 0⟩, ⟨"cal_valid", 3, 3, .ro, 0⟩, ⟨"far_node", 23, 8, .ro, 0⟩, ⟨"far_port", 31, 24, .ro, 0⟩]⟩,
  ⟨"TW_PX_COPY_L_TX", 0x811004, 48, 0x20, 1, 0x4, false, [(24, 47)], [], [], [⟨"v", 31, 0, .ro, 0⟩]⟩,
  ⟨"TW_PX_COPY_L_RX", 0x811008, 48, 0x20, 1, 0x4, false, [(24, 47)], [], [], [⟨"v", 31, 0, .ro, 0⟩]⟩,
  ⟨"TW_PX_COPY_RT_LO", 0x81100C, 48, 0x20, 1, 0x4, false, [(24, 47)], [], [], [⟨"v", 31, 0, .ro, 0⟩]⟩,
  ⟨"TW_PX_COPY_RT_HI", 0x811010, 48, 0x20, 1, 0x4, false, [(24, 47)], [], [], [⟨"v", 31, 0, .ro, 0⟩]⟩,
  ⟨"TW_PX_COPY_DUD_LO", 0x811014, 48, 0x20, 1, 0x4, false, [(24, 47)], [], [], [⟨"v", 31, 0, .ro, 0⟩]⟩,
  ⟨"TW_PX_COPY_DUD_HI", 0x811018, 48, 0x20, 1, 0x4, false, [(24, 47)], [], [], [⟨"v", 31, 0, .ro, 0⟩]⟩,
  ⟨"TW_PX_COPY_ASYM", 0x81101C, 48, 0x20, 1, 0x4, false, [(24, 47)], [], [], [⟨"v", 31, 0, .ro, 0⟩]⟩,
  ⟨"TW_INT_STAT", 0x810008, 1, 0x4, 1, 0x4, false, [], [], [], [⟨"state_chg", 0, 0, .rcr, 0⟩, ⟨"takeover", 1, 1, .rcr, 0⟩, ⟨"released", 2, 2, .rcr, 0⟩, ⟨"mon_lasting", 3, 3, .rcr, 0⟩, ⟨"mon_undecided", 4, 4, .rcr, 0⟩, ⟨"gal_transient", 5, 5, .rcr, 0⟩, ⟨"gal_lasting", 6, 6, .rcr, 0⟩, ⟨"hb_lost", 7, 7, .rcr, 0⟩, ⟨"resync_done", 8, 8, .rcr, 0⟩, ⟨"cfg_mismatch", 9, 9, .rcr, 0⟩, ⟨"split_brain", 10, 10, .rcr, 0⟩, ⟨"partner_absent", 11, 11, .rcr, 0⟩]⟩,
  ⟨"TW_INT_EN", 0x81000C, 1, 0x4, 1, 0x4, false, [], [], [], [⟨"state_chg", 0, 0, .rw, 0⟩, ⟨"takeover", 1, 1, .rw, 0⟩, ⟨"released", 2, 2, .rw, 0⟩, ⟨"mon_lasting", 3, 3, .rw, 0⟩, ⟨"mon_undecided", 4, 4, .rw, 0⟩, ⟨"gal_transient", 5, 5, .rw, 0⟩, ⟨"gal_lasting", 6, 6, .rw, 0⟩, ⟨"hb_lost", 7, 7, .rw, 0⟩, ⟨"resync_done", 8, 8, .rw, 0⟩, ⟨"cfg_mismatch", 9, 9, .rw, 0⟩, ⟨"split_brain", 10, 10, .rw, 0⟩, ⟨"partner_absent", 11, 11, .rw, 0⟩]⟩]

/-- Every register of TW. -/
def regsTw : List Reg := regsTw1 ++ regsTw2

/-- Registers of FU, part 1. -/
def regsFu1 : List Reg := [
  ⟨"FU_STAT", 0x900000, 1, 0x4, 1, 0x4, false, [], [], [], [⟨"state", 3, 0, .ro, 0⟩, ⟨"last_result", 7, 4, .ro, 0⟩, ⟨"trial", 8, 8, .ro, 0⟩, ⟨"running_slot", 9, 9, .ro, 0⟩, ⟨"otp_pending", 10, 10, .ro, 0⟩, ⟨"recovery", 11, 11, .ro, 0⟩, ⟨"boots", 13, 12, .ro, 0⟩, ⟨"progress", 23, 16, .ro, 0⟩]⟩,
  ⟨"FU_OTP", 0x900004, 1, 0x4, 1, 0x4, false, [], [], [], [⟨"svn", 6, 0, .ro, 0⟩, ⟨"key0_revoked", 8, 8, .ro, 0⟩]⟩,
  ⟨"FU_TRIAL_LEFT", 0x900008, 1, 0x4, 1, 0x4, false, [], [], [], [⟨"seconds", 31, 0, .ro, 0⟩]⟩,
  ⟨"FU_VER_RUN", 0x90000C, 1, 0x4, 1, 0x4, false, [], [], [], [⟨"release", 31, 0, .ro, 0⟩]⟩,
  ⟨"FU_VER_OTHER", 0x900010, 1, 0x4, 1, 0x4, false, [], [], [], [⟨"release", 31, 0, .ro, 0⟩]⟩,
  ⟨"FU_SVN_SLOTS", 0x900014, 1, 0x4, 1, 0x4, false, [], [], [], [⟨"svn_a", 6, 0, .ro, 0⟩, ⟨"valid_a", 7, 7, .ro, 0⟩, ⟨"svn_b", 14, 8, .ro, 0⟩, ⟨"valid_b", 15, 15, .ro, 0⟩]⟩,
  ⟨"FU_INT_STAT", 0x900020, 1, 0x4, 1, 0x4, false, [], [], [], [⟨"verify_done", 0, 0, .rcr, 0⟩, ⟨"verify_fail", 1, 1, .rcr, 0⟩, ⟨"activated", 2, 2, .rcr, 0⟩, ⟨"reverted", 3, 3, .rcr, 0⟩, ⟨"confirmed", 4, 4, .rcr, 0⟩, ⟨"otp_fail", 5, 5, .rcr, 0⟩, ⟨"staging_discard", 6, 6, .rcr, 0⟩, ⟨"flash_fail", 7, 7, .rcr, 0⟩]⟩,
  ⟨"FU_INT_EN", 0x900024, 1, 0x4, 1, 0x4, false, [], [], [], [⟨"verify_done", 0, 0, .rw, 0⟩, ⟨"verify_fail", 1, 1, .rw, 0⟩, ⟨"activated", 2, 2, .rw, 0⟩, ⟨"reverted", 3, 3, .rw, 0⟩, ⟨"confirmed", 4, 4, .rw, 0⟩, ⟨"otp_fail", 5, 5, .rw, 0⟩, ⟨"staging_discard", 6, 6, .rw, 0⟩, ⟨"flash_fail", 7, 7, .rw, 0⟩]⟩]

/-- Every register of FU. -/
def regsFu : List Reg := regsFu1

end Sys2Proof.Machine
end

