-- ==== Sys2Proof/Machine/RegNames.lean ====
section
/-! DEFINITION. Names for register addresses (R48: block base + instance × stride + offset) and for their fields, as the spec
spells them: LN_STAT l is the BAR0 byte address of LN_STAT[l], LN_STAT_block_lock l its field block_lock. -/

namespace Sys2Proof.Machine

/-- A field of one register: its BAR0 byte address and its bits [hi:lo]. -/
structure FRef where
  addr : Nat
  hi : Nat
  lo : Nat
deriving DecidableEq, Repr

def SYS_DEV_ID : Nat := 0x0
def SYS_ROOT_CTRL : Nat := 0x40
def SYS_ROOT_STAT : Nat := 0x44
def SYS_UNLOCK : Nat := 0x8
def SYS_GUARD_VIOL : Nat := 0x10
def SYS_WO_VIOL : Nat := 0x14
def SYS_BUS_ERR : Nat := 0x18
def SYS_RESET : Nat := 0x20
def SYS_SRC_LO : Nat := 0x80
def SYS_SRC_HI : Nat := 0x84
def SYS_SRC_EN_LO : Nat := 0x88
def SYS_SRC_EN_HI : Nat := 0x8C
def SYS_VEC_ACK_LO : Nat := 0x90
def SYS_VEC_ACK_HI : Nat := 0x94
def SYS_VEC_MAP (i : Nat) : Nat := 0x100 + 0x4 * i
def SYS_VEC_HOLDOFF (i : Nat) : Nat := 0x200 + 0x4 * i
def SYS_INT_STAT : Nat := 0x98
def SYS_INT_EN : Nat := 0x9C
def MB_EPOCH : Nat := 0x10000
def MB_OWNER : Nat := 0x10004
def MB_DB (i : Nat) : Nat := 0x10010 + 0x4 * i
def MB_STAT (i : Nat) : Nat := 0x10020 + 0x4 * i
def MB_ERR (i : Nat) : Nat := 0x10030 + 0x4 * i
def MB_ACK (i : Nat) : Nat := 0x10040 + 0x4 * i
def MB_INT_STAT : Nat := 0x10050
def MB_INT_EN : Nat := 0x10054
def LN_CTRL (i : Nat) : Nat := 0x100000 + 0x200 * i
def LN_TXEQ (i : Nat) : Nat := 0x100004 + 0x200 * i
def LN_STAT (i : Nat) : Nat := 0x100010 + 0x200 * i
def LN_INT_STAT (i : Nat) : Nat := 0x100014 + 0x200 * i
def LN_INT_EN (i : Nat) : Nat := 0x100018 + 0x200 * i
def LN_EYE (i : Nat) : Nat := 0x100020 + 0x200 * i
def LN_EYE_THR (i : Nat) : Nat := 0x100024 + 0x200 * i
def LN_CAL (i : Nat) : Nat := 0x100028 + 0x200 * i
def LN_RESET (i : Nat) : Nat := 0x10002C + 0x200 * i
def LN_FEC_CORR (i : Nat) : Nat := 0x100030 + 0x200 * i
def LN_FEC_UNCORR (i : Nat) : Nat := 0x100034 + 0x200 * i
def LN_SYM_ERR (i : Nat) : Nat := 0x100038 + 0x200 * i
def LN_HDR_ERR (i : Nat) : Nat := 0x10003C + 0x200 * i
def LN_LOCK_LOSS (i : Nat) : Nat := 0x100040 + 0x200 * i
def LN_PEND (i : Nat) : Nat := 0x1001FC + 0x200 * i
def LN_BAY_MODE (i : Nat) : Nat := 0x106000 + 0x4 * i
def PT_CTRL (i : Nat) : Nat := 0x140000 + 0x200 * i
def PT_MAXFRM (i : Nat) : Nat := 0x140004 + 0x200 * i
def PT_DRAIN_ON_DISABLE (i : Nat) : Nat := 0x140008 + 0x200 * i
def PT_XCONN (i : Nat) : Nat := 0x14000C + 0x200 * i
def PT_TS_ING_ADJ (i : Nat) : Nat := 0x140010 + 0x200 * i
def PT_TS_EGR_ADJ (i : Nat) : Nat := 0x140014 + 0x200 * i
def PT_IDLE (i : Nat) : Nat := 0x140020 + 0x200 * i
def PT_TXTS_OVF (i : Nat) : Nat := 0x140030 + 0x200 * i
def PT_PEND (i : Nat) : Nat := 0x1401FC + 0x200 * i
def PT_STAT (i : Nat) : Nat := 0x140024 + 0x200 * i
def PT_INT_STAT (i : Nat) : Nat := 0x140028 + 0x200 * i
def PT_INT_EN (i : Nat) : Nat := 0x14002C + 0x200 * i
def PT_FRAMES_TX_OK_LO (i : Nat) : Nat := 0x150000 + 0x200 * i
def PT_FRAMES_TX_OK_HI (i : Nat) : Nat := 0x150004 + 0x200 * i
def PT_OCTETS_TX_OK_LO (i : Nat) : Nat := 0x150008 + 0x200 * i
def PT_OCTETS_TX_OK_HI (i : Nat) : Nat := 0x15000C + 0x200 * i
def PT_FRAMES_RX_OK_LO (i : Nat) : Nat := 0x150010 + 0x200 * i
def PT_FRAMES_RX_OK_HI (i : Nat) : Nat := 0x150014 + 0x200 * i
def PT_OCTETS_RX_OK_LO (i : Nat) : Nat := 0x150018 + 0x200 * i
def PT_OCTETS_RX_OK_HI (i : Nat) : Nat := 0x15001C + 0x200 * i
def PT_FCS_ERR_LO (i : Nat) : Nat := 0x150020 + 0x200 * i
def PT_FCS_ERR_HI (i : Nat) : Nat := 0x150024 + 0x200 * i
def PT_MC_TX_LO (i : Nat) : Nat := 0x150028 + 0x200 * i
def PT_MC_TX_HI (i : Nat) : Nat := 0x15002C + 0x200 * i
def PT_BC_TX_LO (i : Nat) : Nat := 0x150030 + 0x200 * i
def PT_BC_TX_HI (i : Nat) : Nat := 0x150034 + 0x200 * i
def PT_MC_RX_LO (i : Nat) : Nat := 0x150038 + 0x200 * i
def PT_MC_RX_HI (i : Nat) : Nat := 0x15003C + 0x200 * i
def PT_BC_RX_LO (i : Nat) : Nat := 0x150040 + 0x200 * i
def PT_BC_RX_HI (i : Nat) : Nat := 0x150044 + 0x200 * i
def PT_TOO_LONG_LO (i : Nat) : Nat := 0x150048 + 0x200 * i
def PT_TOO_LONG_HI (i : Nat) : Nat := 0x15004C + 0x200 * i
def PT_RUNT_LO (i : Nat) : Nat := 0x150050 + 0x200 * i
def PT_RUNT_HI (i : Nat) : Nat := 0x150054 + 0x200 * i
def PT_PAUSE_RX_LO (i : Nat) : Nat := 0x150058 + 0x200 * i
def PT_PAUSE_RX_HI (i : Nat) : Nat := 0x15005C + 0x200 * i
def PT_PAUSE_TX_LO (i : Nat) : Nat := 0x150060 + 0x200 * i
def PT_PAUSE_TX_HI (i : Nat) : Nat := 0x150064 + 0x200 * i
def PT_STOMPED_TX_LO (i : Nat) : Nat := 0x150068 + 0x200 * i
def PT_STOMPED_TX_HI (i : Nat) : Nat := 0x15006C + 0x200 * i
def PT_SYM_ERR_FRAMES_LO (i : Nat) : Nat := 0x150070 + 0x200 * i
def PT_SYM_ERR_FRAMES_HI (i : Nat) : Nat := 0x150074 + 0x200 * i
def PT_DROP_DISABLED_LO (i : Nat) : Nat := 0x150078 + 0x200 * i
def PT_DROP_DISABLED_HI (i : Nat) : Nat := 0x15007C + 0x200 * i
def PR_CTRL : Nat := 0x180000
def PR_STAT : Nat := 0x180004
def PR_RS_DRAINED : Nat := 0x180008
def PR_GR_DRAINED : Nat := 0x18000C
def PR_RS_VER (i : Nat) : Nat := 0x180010 + 0x4 * i
def PR_RECIRC_AGE : Nat := 0x180020
def PR_BANK_WR_DROP : Nat := 0x180024
def PR_PEND : Nat := 0x18003C
def PR_SYS_Q (i : Nat) : Nat := 0x180040 + 0x4 * i
def PR_HASH_GRP (i : Nat) : Nat := 0x1F0000 + 0x10 * i
def PR_HASH_SEED (i : Nat) : Nat := 0x1F0004 + 0x10 * i
def PR_HASH_PROF (i : Nat) (j : Nat) : Nat := 0x1F0800 + 0x10 * i + 0x4 * j
def PR_KEY_PROF (i : Nat) (j : Nat) : Nat := 0x1F1000 + 0x100 * i + 0x4 * j
def PR_PORT_CFG (i : Nat) : Nat := 0x180600 + 0x4 * i
def PR_INT_STAT : Nat := 0x180030
def PR_INT_EN : Nat := 0x180034
def PR_PARITY_LOG : Nat := 0x180038
def PR_CNT_UNRESOLVED (i : Nat) : Nat := 0x1F8000 + 0x20 * i
def PR_CNT_PARSE_DEPTH (i : Nat) : Nat := 0x1F8004 + 0x20 * i
def PR_CNT_LEN_MISMATCH (i : Nat) : Nat := 0x1F8008 + 0x20 * i
def PR_CNT_LEN_LATE (i : Nat) : Nat := 0x1F800C + 0x20 * i
def PR_CNT_RULE_DROP (i : Nat) : Nat := 0x1F8010 + 0x20 * i
def PR_CNT_SLOW_PATH (i : Nat) : Nat := 0x1F8014 + 0x20 * i
def PR_CNT_SLOW_OFF (i : Nat) : Nat := 0x1F8018 + 0x20 * i
def PR_CNT_RECIRC_AGED (i : Nat) : Nat := 0x1F801C + 0x20 * i
def FT_CTRL : Nat := 0x200000
def FT_STAT : Nat := 0x200004
def FT_EPOCH : Nat := 0x200008
def FT_EPOCH_ADV : Nat := 0x20000C
def FT_DRAIN_EPOCH : Nat := 0x200010
def FT_AGE : Nat := 0x200014
def FT_MOVE_HOLD : Nat := 0x200018
def FT_CUCKOO_CFG : Nat := 0x20001C
def FT_MAC_SEED (i : Nat) : Nat := 0x200020 + 0x4 * i
def FT_LABEL_CFG : Nat := 0x200028
def FT_PORT_CFG (i : Nat) : Nat := 0x200100 + 0x4 * i
def FT_INT_STAT : Nat := 0x200030
def FT_INT_EN : Nat := 0x200034
def FT_PARITY_LOG : Nat := 0x200038
def FT_INSERT_FAIL : Nat := 0x200040
def FT_FLAP : Nat := 0x200044
def FT_STATION_MOVE : Nat := 0x200048
def FT_LEARN_DROP : Nat := 0x20004C
def FT_AGED : Nat := 0x200050
def FT_LEARNED : Nat := 0x200054
def FT_PARITY_CNT : Nat := 0x200058
def FT_VLAN_DROP : Nat := 0x20005C
def FT_LABEL_MISS : Nat := 0x200068
def FT_UNK_UC_DROP : Nat := 0x20006C
def FT_RING_INT_STAT : Nat := 0x200060
def FT_RING_INT_EN : Nat := 0x200064
def FT_RING_BASE_LO (i : Nat) : Nat := 0x201000 + 0x40 * i
def FT_RING_BASE_HI (i : Nat) : Nat := 0x201004 + 0x40 * i
def FT_RING_CFG (i : Nat) : Nat := 0x201008 + 0x40 * i
def FT_RING_HEAD (i : Nat) : Nat := 0x20100C + 0x40 * i
def FT_RING_TAIL (i : Nat) : Nat := 0x201010 + 0x40 * i
def FT_RING_STAT (i : Nat) : Nat := 0x201014 + 0x40 * i
def SC_CTRL : Nat := 0x400000
def SC_BUF_CFG : Nat := 0x400004
def SC_T_RESERVE : Nat := 0x400008
def SC_AGE_LIMIT : Nat := 0x40000C
def SC_BAL_Q : Nat := 0x400010
def SC_RED_PROF (i : Nat) : Nat := 0x400100 + 0x20 * i
def SC_RED_MIN (i : Nat) (j : Nat) : Nat := 0x400108 + 0x20 * i + 0x8 * j
def SC_RED_MAX (i : Nat) (j : Nat) : Nat := 0x40010C + 0x20 * i + 0x8 * j
def SC_Q_CFG (i : Nat) : Nat := 0x400800 + 0x4 * i
def SC_Q_MAX (i : Nat) : Nat := 0x401000 + 0x4 * i
def SC_PORT_CFG (i : Nat) : Nat := 0x401800 + 0x4 * i
def SC_FC_CFG (i : Nat) : Nat := 0x401900 + 0x10 * i
def SC_FC_XOFF (i : Nat) : Nat := 0x401904 + 0x10 * i
def SC_FC_XON (i : Nat) : Nat := 0x401908 + 0x10 * i
def SC_BAL_CFG (i : Nat) : Nat := 0x401C00 + 0x4 * i
def SC_DLM_RES (i : Nat) (j : Nat) : Nat := 0x402000 + 0x40 * i + 0x4 * j
def SC_CPUQ_CFG (i : Nat) : Nat := 0x402400 + 0x4 * i
def SC_STAT : Nat := 0x410000
def SC_PEND : Nat := 0x41000C
def SC_BUF_STAT : Nat := 0x410010
def SC_DBM_STAT : Nat := 0x410014
def SC_MEZZ_STAT : Nat := 0x410018
def SC_MEZZ_IDLE : Nat := 0x41001C
def SC_MEZZ_SWAP : Nat := 0x410020
def SC_ECC_CNT : Nat := 0x410024
def SC_BAL_LOST : Nat := 0x410028
def SC_DLM_LATE : Nat := 0x41002C
def SC_DLM_MISS : Nat := 0x410030
def SC_CPUQ_INT_STAT : Nat := 0x410034
def SC_CPUQ_INT_EN : Nat := 0x410038
def SC_DISABLE_DISCARD (i : Nat) : Nat := 0x410100 + 0x4 * i
def SC_MC_PARTIAL (i : Nat) : Nat := 0x410200 + 0x4 * i
def SC_Q_OCC (i : Nat) : Nat := 0x410400 + 0x4 * i
def SC_Q_PEAK (i : Nat) : Nat := 0x410C00 + 0x4 * i
def SC_DROP (i : Nat) (j : Nat) : Nat := 0x420000 + 0x40 * i + 0x4 * j
def SC_DELAY_HIST (i : Nat) (j : Nat) : Nat := 0x430000 + 0x40 * i + 0x4 * j
def SC_INT_STAT : Nat := 0x410004
def SC_INT_EN : Nat := 0x410008
def GT_CTRL (i : Nat) : Nat := 0x600000 + 0x200 * i
def GT_FLIGHT (i : Nat) : Nat := 0x600004 + 0x200 * i
def GT_BASE_SEC (i : Nat) : Nat := 0x600008 + 0x200 * i
def GT_BASE_W1 (i : Nat) : Nat := 0x60000C + 0x200 * i
def GT_BASE_NS (i : Nat) : Nat := 0x600010 + 0x200 * i
def GT_FORCE (i : Nat) : Nat := 0x600014 + 0x200 * i
def GT_STAT (i : Nat) : Nat := 0x600020 + 0x200 * i
def GT_POS (i : Nat) : Nat := 0x600024 + 0x200 * i
def GT_FLIGHT_CNT (i : Nat) : Nat := 0x600028 + 0x200 * i
def GT_GATES (i : Nat) : Nat := 0x60002C + 0x200 * i
def GT_MARK_SEC (i : Nat) : Nat := 0x600030 + 0x200 * i
def GT_MARK_NS (i : Nat) : Nat := 0x600034 + 0x200 * i
def GT_WIN_MAX (i : Nat) (j : Nat) : Nat := 0x600040 + 0x200 * i + 0x4 * j
def GT_PEND (i : Nat) : Nat := 0x6001FC + 0x200 * i
def GT_INT_STAT : Nat := 0x606000
def GT_INT_EN : Nat := 0x606004
def GT_SWAP_DONE_LO : Nat := 0x606008
def GT_SWAP_DONE_HI : Nat := 0x60600C
def GT_MARK_LO : Nat := 0x606010
def GT_MARK_HI : Nat := 0x606014
def GT_WR_DROP : Nat := 0x606018
def GT_PARITY : Nat := 0x60601C
def GT_TAQ_ARM : Nat := 0x606020
def GT_TAQ_ARM_G : Nat := 0x606024
def GT_TAQ_ARM_STAT : Nat := 0x606028
def GT_TAQ_CANCEL : Nat := 0x60602C
def GT_TAQ_CANCEL_GRP : Nat := 0x606030
def GT_TAQ_STAT : Nat := 0x606034
def GT_TAQ_GRP_LAST : Nat := 0x606038
def GT_TAQ_DONE (i : Nat) : Nat := 0x606040 + 0x4 * i
def TB_CTRL : Nat := 0x700000
def TB_STAT : Nat := 0x700004
def TB_SNAP : Nat := 0x700008
def TB_SNAP_SEC_LO (i : Nat) : Nat := 0x700010 + 0x10 * i
def TB_SNAP_W1 (i : Nat) : Nat := 0x700014 + 0x10 * i
def TB_SNAP_NS (i : Nat) : Nat := 0x700018 + 0x10 * i
def TB_INCR_LO : Nat := 0x700040
def TB_INCR_HI : Nat := 0x700044
def TB_OWN_VIOL : Nat := 0x700048
def TB_STEP_SEC_LO : Nat := 0x700050
def TB_STEP_W1 : Nat := 0x700054
def TB_STEP_NS : Nat := 0x700058
def TB_STEP : Nat := 0x70005C
def TB_STEP_CNT : Nat := 0x700060
def TB_INT_STAT : Nat := 0x700064
def TB_INT_EN : Nat := 0x700068
def TB_PTP_CFG : Nat := 0x700100
def TB_PTP_ERR : Nat := 0x700104
def TB_TOD_CFG : Nat := 0x700200
def TB_TOD_STAT : Nat := 0x700204
def TB_TOD_CNT : Nat := 0x700208
def TB_PTP_PORT (i : Nat) : Nat := 0x701000 + 0x4 * i
def TB_TXTS (i : Nat) : Nat := 0x702000 + 0x10 * i
def TB_TXTS_SEC (i : Nat) : Nat := 0x702004 + 0x10 * i
def TB_TXTS_W2 (i : Nat) : Nat := 0x702008 + 0x10 * i
def TB_TXTS_NS (i : Nat) : Nat := 0x70200C + 0x10 * i
def PX_LINK_CTRL (i : Nat) : Nat := 0x740000 + 0x200 * i
def PX_LINK_ASYM (i : Nat) : Nat := 0x740004 + 0x200 * i
def PX_PAIR (i : Nat) : Nat := 0x740008 + 0x200 * i
def PX_WL_TX (i : Nat) : Nat := 0x74000C + 0x200 * i
def PX_WL_RX (i : Nat) : Nat := 0x740010 + 0x200 * i
def PX_FAR (i : Nat) : Nat := 0x740024 + 0x200 * i
def PX_PHASE_TX (i : Nat) : Nat := 0x740028 + 0x200 * i
def PX_PHASE_RX (i : Nat) : Nat := 0x74002C + 0x200 * i
def PX_FREQ (i : Nat) : Nat := 0x740030 + 0x200 * i
def PX_SEQ (i : Nat) : Nat := 0x740034 + 0x200 * i
def PX_RT_LO (i : Nat) : Nat := 0x740038 + 0x200 * i
def PX_RT_HI (i : Nat) : Nat := 0x74003C + 0x200 * i
def PX_DELAY_LO (i : Nat) : Nat := 0x740040 + 0x200 * i
def PX_DELAY_HI (i : Nat) : Nat := 0x740044 + 0x200 * i
def PX_OFFSET_LO (i : Nat) : Nat := 0x740048 + 0x200 * i
def PX_OFFSET_HI (i : Nat) : Nat := 0x74004C + 0x200 * i
def PX_ASYM_USED (i : Nat) : Nat := 0x740050 + 0x200 * i
def PX_CAL_TX (i : Nat) : Nat := 0x740054 + 0x200 * i
def PX_CAL_RX (i : Nat) : Nat := 0x740058 + 0x200 * i
def PX_CAL_Q (i : Nat) : Nat := 0x74005C + 0x200 * i
def PX_CNT_EXCH (i : Nat) : Nat := 0x740060 + 0x200 * i
def PX_CNT_MISS (i : Nat) : Nat := 0x740064 + 0x200 * i
def PX_CNT_DISC (i : Nat) : Nat := 0x740068 + 0x200 * i
def PX_STAT (i : Nat) : Nat := 0x740020 + 0x200 * i
def PX_CTRL : Nat := 0x746000
def PX_MAC_LO : Nat := 0x746004
def PX_MAC_HI : Nat := 0x746008
def PX_REF : Nat := 0x74600C
def PX_CAL_CFG : Nat := 0x746010
def PX_REF_RENEW : Nat := 0x750000
def PX_REF_STAT : Nat := 0x750004
def PX_EVT_LO : Nat := 0x750018
def PX_EVT_HI : Nat := 0x75001C
def PX_PEND : Nat := 0x750020
def PX_INT_STAT : Nat := 0x750010
def PX_INT_EN : Nat := 0x750014
def TC_CTRL (i : Nat) : Nat := 0x780000 + 0x1000 * i
def TC_LOOP (i : Nat) : Nat := 0x780004 + 0x1000 * i
def TC_DCO_NOM_LO (i : Nat) : Nat := 0x780008 + 0x1000 * i
def TC_DCO_NOM_HI (i : Nat) : Nat := 0x78000C + 0x1000 * i
def TC_SOFT (i : Nat) : Nat := 0x780010 + 0x1000 * i
def TC_HARD (i : Nat) : Nat := 0x780014 + 0x1000 * i
def TC_QUAL (i : Nat) : Nat := 0x780018 + 0x1000 * i
def TC_SLEW (i : Nat) : Nat := 0x78001C + 0x1000 * i
def TC_PHASE_OFS (i : Nat) : Nat := 0x780020 + 0x1000 * i
def TC_HO_CFG (i : Nat) : Nat := 0x780024 + 0x1000 * i
def TC_HO_LIMIT (i : Nat) : Nat := 0x780028 + 0x1000 * i
def TC_FORCE (i : Nat) : Nat := 0x78002C + 0x1000 * i
def TC_REF_PRIO (i : Nat) (j : Nat) : Nat := 0x780040 + 0x1000 * i + 0x4 * j
def TC_FREQ (i : Nat) : Nat := 0x780084 + 0x1000 * i
def TC_PHASE_ERR (i : Nat) : Nat := 0x780088 + 0x1000 * i
def TC_DCO_WORD (i : Nat) : Nat := 0x78008C + 0x1000 * i
def TC_ABSORBED (i : Nat) : Nat := 0x780090 + 0x1000 * i
def TC_HO_STAT (i : Nat) : Nat := 0x780094 + 0x1000 * i
def TC_HO_TE (i : Nat) : Nat := 0x780098 + 0x1000 * i
def TC_SW_CNT (i : Nat) : Nat := 0x78009C + 0x1000 * i
def TC_RESET (i : Nat) : Nat := 0x7800A8 + 0x1000 * i
def TC_TDC_CAL (i : Nat) : Nat := 0x7800AC + 0x1000 * i
def TC_TDC_Q (i : Nat) : Nat := 0x7800B0 + 0x1000 * i
def TC_PRESET_LO (i : Nat) (j : Nat) : Nat := 0x780100 + 0x1000 * i + 0x8 * j
def TC_PRESET_HI (i : Nat) (j : Nat) : Nat := 0x780104 + 0x1000 * i + 0x8 * j
def TC_REF_STAT (i : Nat) (j : Nat) : Nat := 0x780400 + 0x1000 * i + 0x4 * j
def TC_PEND (i : Nat) : Nat := 0x780FFC + 0x1000 * i
def TC_STAT (i : Nat) : Nat := 0x780080 + 0x1000 * i
def TC_INT_STAT (i : Nat) : Nat := 0x7800A0 + 0x1000 * i
def TC_INT_EN (i : Nat) : Nat := 0x7800A4 + 0x1000 * i
def TC_ROLES : Nat := 0x786000
def TC_REF_CFG (i : Nat) : Nat := 0x786100 + 0x8 * i
def TC_REF_MUL (i : Nat) : Nat := 0x786104 + 0x8 * i
def TC_REF_QL (i : Nat) : Nat := 0x786200 + 0x4 * i
def TC_OVO : Nat := 0x790000
def TC_PTP_OFS_LO : Nat := 0x790008
def TC_PTP_OFS_HI : Nat := 0x79000C
def TC_REF_FREQ (i : Nat) : Nat := 0x790100 + 0x4 * i
def OU_CTRL (i : Nat) : Nat := 0x7C0000 + 0x400 * i
def OU_DIV_N (i : Nat) : Nat := 0x7C0004 + 0x400 * i
def OU_DIV_NUM (i : Nat) : Nat := 0x7C0008 + 0x400 * i
def OU_DIV_DEN (i : Nat) : Nat := 0x7C000C + 0x400 * i
def OU_DELAY (i : Nat) : Nat := 0x7C0010 + 0x400 * i
def OU_PULSE_PER (i : Nat) : Nat := 0x7C0014 + 0x400 * i
def OU_PULSE_W (i : Nat) : Nat := 0x7C0018 + 0x400 * i
def OU_PULSE_OFS_NS (i : Nat) : Nat := 0x7C001C + 0x400 * i
def OU_PULSE_OFS_FRAC (i : Nat) : Nat := 0x7C0020 + 0x400 * i
def OU_PULSE_THR (i : Nat) : Nat := 0x7C0024 + 0x400 * i
def OU_PULSE_ERR (i : Nat) : Nat := 0x7C0084 + 0x400 * i
def OU_PATH_DLY (i : Nat) : Nat := 0x7C0088 + 0x400 * i
def OU_PEND (i : Nat) : Nat := 0x7C03FC + 0x400 * i
def OU_STAT (i : Nat) : Nat := 0x7C0080 + 0x400 * i
def OU_INT_STAT : Nat := 0x7D0004
def OU_INT_EN : Nat := 0x7D0008
def OU_REALIGN : Nat := 0x7D0000
def OU_EVT : Nat := 0x7D000C
def OU_RAMP_STOP : Nat := 0x7D0010
def OU_RAMP_STAT (i : Nat) : Nat := 0x7D0020 + 0x4 * i
def OU_WR_DROP : Nat := 0x7D0040
def OU_RAMP_CFG (i : Nat) : Nat := 0x7D0100 + 0x4 * i
def EV_IN_CFG (i : Nat) : Nat := 0x7E0000 + 0x400 * i
def EV_TS (i : Nat) : Nat := 0x7E0010 + 0x400 * i
def EV_TS_SEC (i : Nat) : Nat := 0x7E0014 + 0x400 * i
def EV_TS_W2 (i : Nat) : Nat := 0x7E0018 + 0x400 * i
def EV_TS_NS (i : Nat) : Nat := 0x7E001C + 0x400 * i
def EV_IN_ADJ (i : Nat) : Nat := 0x7E0004 + 0x400 * i
def EV_EDGES (i : Nat) : Nat := 0x7E0020 + 0x400 * i
def EV_CNT (i : Nat) : Nat := 0x7E0024 + 0x400 * i
def EV_CAL_LOST (i : Nat) : Nat := 0x7E0028 + 0x400 * i
def EV_STAT (i : Nat) : Nat := 0x7E0030 + 0x400 * i
def EV_CAL_Q (i : Nat) : Nat := 0x7E0034 + 0x400 * i
def EV_CAL (i : Nat) : Nat := 0x7E0038 + 0x400 * i
def EV_GRP_CFG (i : Nat) : Nat := 0x7E4000 + 0x100 * i
def EV_GRP_WIN (i : Nat) : Nat := 0x7E4004 + 0x100 * i
def EV_GRP_OVF (i : Nat) : Nat := 0x7E4008 + 0x100 * i
def EV_RES_RDY : Nat := 0x7E6008
def EV_INT_STAT : Nat := 0x7E6000
def EV_INT_EN : Nat := 0x7E6004
def TW_CTRL : Nat := 0x800000
def TW_ELECT : Nat := 0x800004
def TW_CH_MASK : Nat := 0x800008
def TW_OUT_MASK : Nat := 0x80000C
def TW_MON_CFG (i : Nat) : Nat := 0x800010 + 0x4 * i
def TW_MON_ADJ (i : Nat) : Nat := 0x800020 + 0x4 * i
def TW_GAL_ASYM : Nat := 0x800030
def TW_LAG_LO : Nat := 0x800034
def TW_LAG_HI : Nat := 0x800038
def TW_STAT : Nat := 0x810000
def TW_FORCE : Nat := 0x810004
def TW_MON_STAT (i : Nat) : Nat := 0x810010 + 0x4 * i
def TW_DELTA : Nat := 0x810020
def TW_CNT_GAL : Nat := 0x810024
def TW_CNT_MON : Nat := 0x810028
def TW_FO : Nat := 0x81002C
def TW_PEND : Nat := 0x810030
def TW_FO_TIME : Nat := 0x810034
def TW_FO_TIME_NS : Nat := 0x810038
def TW_RESYNC : Nat := 0x81003C
def TW_LAG_DISC (i : Nat) : Nat := 0x810100 + 0x4 * i
def TW_PX_COPY (i : Nat) : Nat := 0x811000 + 0x20 * i
def TW_PX_COPY_L_TX (i : Nat) : Nat := 0x811004 + 0x20 * i
def TW_PX_COPY_L_RX (i : Nat) : Nat := 0x811008 + 0x20 * i
def TW_PX_COPY_RT_LO (i : Nat) : Nat := 0x81100C + 0x20 * i
def TW_PX_COPY_RT_HI (i : Nat) : Nat := 0x811010 + 0x20 * i
def TW_PX_COPY_DUD_LO (i : Nat) : Nat := 0x811014 + 0x20 * i
def TW_PX_COPY_DUD_HI (i : Nat) : Nat := 0x811018 + 0x20 * i
def TW_PX_COPY_ASYM (i : Nat) : Nat := 0x81101C + 0x20 * i
def TW_INT_STAT : Nat := 0x810008
def TW_INT_EN : Nat := 0x81000C
def FU_STAT : Nat := 0x900000
def FU_OTP : Nat := 0x900004
def FU_TRIAL_LEFT : Nat := 0x900008
def FU_VER_RUN : Nat := 0x90000C
def FU_VER_OTHER : Nat := 0x900010
def FU_SVN_SLOTS : Nat := 0x900014
def FU_INT_STAT : Nat := 0x900020
def FU_INT_EN : Nat := 0x900024
def HL_STAT : Nat := 0x30000
def HL_INT_STAT : Nat := 0x30004
def HL_INT_EN : Nat := 0x30008
def HL_FAULT_LAST : Nat := 0x3000C
def HL_CNT_TRANSIENT : Nat := 0x30010
def HL_CNT_LASTING : Nat := 0x30014
def HL_CTRL : Nat := 0x30018
def HL_ESC : Nat := 0x3001C
def HL_CAL_CFG : Nat := 0x30020
def HL_WDOG : Nat := 0x30024
def HL_LOG : Nat := 0x30028
def HL_SPARE (i : Nat) : Nat := 0x30040 + 0x4 * i
def HL_TEMP (i : Nat) : Nat := 0x30100 + 0x4 * i
def HL_TEMP_THR (i : Nat) : Nat := 0x30120 + 0x4 * i
def HL_SUPPLY (i : Nat) : Nat := 0x30140 + 0x4 * i
def HL_SUPPLY_THR (i : Nat) : Nat := 0x30160 + 0x4 * i
def HL_RAIL_OK : Nat := 0x30180
def PM_CTRL : Nat := 0x20000
def PM_SNAP : Nat := 0x20004
def PM_USER_EN : Nat := 0x20008
def PM_CLR : Nat := 0x2000C
def PM_INT_STAT : Nat := 0x20010
def PM_INT_EN : Nat := 0x20014
def PM_TAG_CFG : Nat := 0x20020
def PM_TAG_PORTS_LO : Nat := 0x20024
def PM_TAG_PORTS_HI : Nat := 0x20028
def PM_TRACE_STAT : Nat := 0x2002C
def PM_SEL (i : Nat) (j : Nat) : Nat := 0x21000 + 0x100 * i + 0x4 * j
def PM_CYC_LO (i : Nat) : Nat := 0x21020 + 0x100 * i
def PM_CYC_HI (i : Nat) : Nat := 0x21024 + 0x100 * i
def PM_CNT_LO (i : Nat) (j : Nat) : Nat := 0x21028 + 0x100 * i + 0x8 * j
def PM_CNT_HI (i : Nat) (j : Nat) : Nat := 0x2102C + 0x100 * i + 0x8 * j
def PM_SNAP_CYC_LO (i : Nat) : Nat := 0x21080 + 0x100 * i
def PM_SNAP_CYC_HI (i : Nat) : Nat := 0x21084 + 0x100 * i
def PM_SNAP_CNT_LO (i : Nat) (j : Nat) : Nat := 0x21088 + 0x100 * i + 0x8 * j
def PM_SNAP_CNT_HI (i : Nat) (j : Nat) : Nat := 0x2108C + 0x100 * i + 0x8 * j
def PM_BW_CFG (i : Nat) : Nat := 0x22000 + 0x10 * i
def PM_BW_RX (i : Nat) : Nat := 0x22004 + 0x10 * i
def PM_BW_TX (i : Nat) : Nat := 0x22008 + 0x10 * i
def PM_BW_PEAK (i : Nat) : Nat := 0x2200C + 0x10 * i
def SYS_MSIX_ADDR_LO (i : Nat) : Nat := 0xC000 + 0x10 * i
def SYS_MSIX_ADDR_HI (i : Nat) : Nat := 0xC004 + 0x10 * i
def SYS_MSIX_DATA (i : Nat) : Nat := 0xC008 + 0x10 * i
def SYS_MSIX_CTRL (i : Nat) : Nat := 0xC00C + 0x10 * i
def SYS_PBA (i : Nat) : Nat := 0xD000 + 0x4 * i
def MB_REQ (i : Nat) (j : Nat) : Nat := 0x11000 + 0x2000 * i + 0x4 * j
def MB_RESP (i : Nat) (j : Nat) : Nat := 0x12000 + 0x2000 * i + 0x4 * j
def PR_DEF_VERB (i : Nat) : Nat := 0x180400 + 0x4 * i
def PR_PERR_VERB (i : Nat) : Nat := 0x180500 + 0x4 * i
def PR_CL_HEAD (i : Nat) (j : Nat) : Nat := 0x190000 + 0x100 * i + 0x4 * j
def PR_CL_LEN (i : Nat) (j : Nat) : Nat := 0x190004 + 0x100 * i + 0x4 * j
def PR_CL_CHK (i : Nat) (j : Nat) : Nat := 0x190008 + 0x100 * i + 0x4 * j
def PR_CL_KEY (i : Nat) (j : Nat) : Nat := 0x19000C + 0x100 * i + 0x4 * j
def PR_CL_NOUN (i : Nat) (j : Nat) : Nat := 0x190010 + 0x100 * i + 0x4 * j
def PR_CL_VALUE (i : Nat) (j : Nat) : Nat := 0x190040 + 0x100 * i + 0xC * j
def PR_CL_MASK (i : Nat) (j : Nat) : Nat := 0x190044 + 0x100 * i + 0xC * j
def PR_CL_NEXT (i : Nat) (j : Nat) : Nat := 0x190048 + 0x100 * i + 0xC * j
def PR_RULE_VALUE (i : Nat) (j : Nat) : Nat := 0x1A0000 + 0x40 * i + 0x4 * j
def PR_RULE_MASK (i : Nat) (j : Nat) : Nat := 0x1A0018 + 0x40 * i + 0x4 * j
def PR_RULE_VERB (i : Nat) (j : Nat) : Nat := 0x1A0030 + 0x40 * i + 0x4 * j
def PR_RULE_META (i : Nat) (j : Nat) : Nat := 0x1A0034 + 0x40 * i + 0x4 * j
def PR_IND (i : Nat) (j : Nat) : Nat := 0x1E0000 + 0x400 * i + 0x4 * j
def GT_TREAD_DUR (i : Nat) (j : Nat) : Nat := 0x610000 + 0x4000 * i + 0x8 * j
def GT_TREAD_GATES (i : Nat) (j : Nat) : Nat := 0x610004 + 0x4000 * i + 0x8 * j
def GT_TAQ_ADDR (i : Nat) : Nat := 0x6E0000 + 0x40 * i
def GT_TAQ_VALUE (i : Nat) : Nat := 0x6E0004 + 0x40 * i
def GT_TAQ_MASK (i : Nat) : Nat := 0x6E0008 + 0x40 * i
def GT_TAQ_SEC (i : Nat) : Nat := 0x6E000C + 0x40 * i
def GT_TAQ_NS (i : Nat) : Nat := 0x6E0010 + 0x40 * i
def GT_TAQ_W5 (i : Nat) : Nat := 0x6E0014 + 0x40 * i
def GT_TAQ_TAG (i : Nat) : Nat := 0x6E0018 + 0x40 * i
def GT_TAQ_STATE (i : Nat) : Nat := 0x6E001C + 0x40 * i
def GT_TAQ_XSEC (i : Nat) : Nat := 0x6E0020 + 0x40 * i
def GT_TAQ_XNS (i : Nat) : Nat := 0x6E0024 + 0x40 * i
def GT_TAQ_XW2 (i : Nat) : Nat := 0x6E0028 + 0x40 * i
def OU_RAMP_DUR (i : Nat) (j : Nat) : Nat := 0x7D8000 + 0x200 * i + 0x8 * j
def OU_RAMP_SLOPE (i : Nat) (j : Nat) : Nat := 0x7D8004 + 0x200 * i + 0x8 * j
def EV_RES (i : Nat) : Nat := 0x7E4040 + 0x100 * i
def EV_RES_SEC (i : Nat) : Nat := 0x7E4044 + 0x100 * i
def EV_RES_W2 (i : Nat) : Nat := 0x7E4048 + 0x100 * i
def EV_RES_NS (i : Nat) : Nat := 0x7E404C + 0x100 * i
def EV_RES_MAG_LO (i : Nat) (j : Nat) : Nat := 0x7E4050 + 0x100 * i + 0x8 * j
def EV_RES_MAG_HI (i : Nat) (j : Nat) : Nat := 0x7E4054 + 0x100 * i + 0x8 * j
def PM_TRACE (i : Nat) (j : Nat) : Nat := 0x24000 + 0x40 * i + 0x4 * j
def PM_USER (i : Nat) : Nat := 0x2C000 + 0x4 * i
def SC_CPUQ_RING_BASE_LO (i : Nat) : Nat := 0x412000 + 0x20 * i
def SC_CPUQ_RING_BASE_HI (i : Nat) : Nat := 0x412004 + 0x20 * i
def SC_CPUQ_RING_CFG (i : Nat) : Nat := 0x412008 + 0x20 * i
def SC_CPUQ_RING_HEAD (i : Nat) : Nat := 0x41200C + 0x20 * i
def SC_CPUQ_RING_TAIL (i : Nat) : Nat := 0x412010 + 0x20 * i
def SC_CPUQ_RING_STAT (i : Nat) : Nat := 0x412014 + 0x20 * i
def SC_TXR_BASE_LO (i : Nat) : Nat := 0x412400 + 0x20 * i
def SC_TXR_BASE_HI (i : Nat) : Nat := 0x412404 + 0x20 * i
def SC_TXR_CFG (i : Nat) : Nat := 0x412408 + 0x20 * i
def SC_TXR_HEAD (i : Nat) : Nat := 0x41240C + 0x20 * i
def SC_TXR_TAIL (i : Nat) : Nat := 0x412410 + 0x20 * i
def SC_TXR_STAT (i : Nat) : Nat := 0x412414 + 0x20 * i

def SYS_DEV_ID_silicon_rev : FRef := ⟨SYS_DEV_ID, 11, 8⟩
def SYS_DEV_ID_module_rev : FRef := ⟨SYS_DEV_ID, 15, 12⟩
def SYS_ROOT_CTRL_src_sel : FRef := ⟨SYS_ROOT_CTRL, 0, 0⟩
def SYS_ROOT_STAT_locked : FRef := ⟨SYS_ROOT_STAT, 0, 0⟩
def SYS_ROOT_STAT_src_active : FRef := ⟨SYS_ROOT_STAT, 1, 1⟩
def SYS_ROOT_STAT_xin_absent : FRef := ⟨SYS_ROOT_STAT, 2, 2⟩
def SYS_ROOT_STAT_lock_lost_sticky : FRef := ⟨SYS_ROOT_STAT, 3, 3⟩
def SYS_ROOT_STAT_tx_on_root : FRef := ⟨SYS_ROOT_STAT, 4, 4⟩
def SYS_VEC_MAP_vector (i : Nat) : FRef := ⟨SYS_VEC_MAP i, 5, 0⟩
def SYS_VEC_HOLDOFF_holdoff_us (i : Nat) : FRef := ⟨SYS_VEC_HOLDOFF i, 15, 0⟩
def SYS_INT_STAT_guard_viol : FRef := ⟨SYS_INT_STAT, 0, 0⟩
def SYS_INT_STAT_wo_viol : FRef := ⟨SYS_INT_STAT, 1, 1⟩
def SYS_INT_STAT_bus_err : FRef := ⟨SYS_INT_STAT, 2, 2⟩
def SYS_INT_STAT_root_lock_lost : FRef := ⟨SYS_INT_STAT, 3, 3⟩
def MB_EPOCH_epoch : FRef := ⟨MB_EPOCH, 15, 0⟩
def MB_EPOCH_mp_running : FRef := ⟨MB_EPOCH, 16, 16⟩
def MB_EPOCH_recovery : FRef := ⟨MB_EPOCH, 17, 17⟩
def MB_STAT_state (i : Nat) : FRef := ⟨MB_STAT i, 1, 0⟩
def MB_ERR_db_drop (i : Nat) : FRef := ⟨MB_ERR i, 15, 0⟩
def MB_ERR_wr_drop (i : Nat) : FRef := ⟨MB_ERR i, 31, 16⟩
def MB_INT_STAT_epoch_change : FRef := ⟨MB_INT_STAT, 4, 4⟩
def LN_CTRL_enable (i : Nat) : FRef := ⟨LN_CTRL i, 0, 0⟩
def LN_CTRL_tx_idle (i : Nat) : FRef := ⟨LN_CTRL i, 1, 1⟩
def LN_CTRL_fec (i : Nat) : FRef := ⟨LN_CTRL i, 5, 4⟩
def LN_CTRL_loop (i : Nat) : FRef := ⟨LN_CTRL i, 10, 8⟩
def LN_CTRL_loop_tx_keep (i : Nat) : FRef := ⟨LN_CTRL i, 12, 12⟩
def LN_TXEQ_pre (i : Nat) : FRef := ⟨LN_TXEQ i, 3, 0⟩
def LN_TXEQ_main (i : Nat) : FRef := ⟨LN_TXEQ i, 13, 8⟩
def LN_TXEQ_post (i : Nat) : FRef := ⟨LN_TXEQ i, 21, 16⟩
def LN_STAT_signal (i : Nat) : FRef := ⟨LN_STAT i, 0, 0⟩
def LN_STAT_cdr_lock (i : Nat) : FRef := ⟨LN_STAT i, 1, 1⟩
def LN_STAT_block_lock (i : Nat) : FRef := ⟨LN_STAT i, 2, 2⟩
def LN_STAT_hi_ber (i : Nat) : FRef := ⟨LN_STAT i, 3, 3⟩
def LN_STAT_aligned (i : Nat) : FRef := ⟨LN_STAT i, 4, 4⟩
def LN_STAT_fec_lock (i : Nat) : FRef := ⟨LN_STAT i, 5, 5⟩
def LN_STAT_tx_idle_active (i : Nat) : FRef := ⟨LN_STAT i, 6, 6⟩
def LN_STAT_cal_busy (i : Nat) : FRef := ⟨LN_STAT i, 7, 7⟩
def LN_STAT_clk_valid (i : Nat) : FRef := ⟨LN_STAT i, 8, 8⟩
def LN_STAT_cfg_err (i : Nat) : FRef := ⟨LN_STAT i, 9, 9⟩
def LN_INT_STAT_los (i : Nat) : FRef := ⟨LN_INT_STAT i, 0, 0⟩
def LN_INT_STAT_cdr_unlock (i : Nat) : FRef := ⟨LN_INT_STAT i, 1, 1⟩
def LN_INT_STAT_lock_loss_transient (i : Nat) : FRef := ⟨LN_INT_STAT i, 2, 2⟩
def LN_INT_STAT_lock_loss_lasting (i : Nat) : FRef := ⟨LN_INT_STAT i, 3, 3⟩
def LN_INT_STAT_hi_ber (i : Nat) : FRef := ⟨LN_INT_STAT i, 4, 4⟩
def LN_INT_STAT_align_loss (i : Nat) : FRef := ⟨LN_INT_STAT i, 5, 5⟩
def LN_INT_STAT_fec_uncorr (i : Nat) : FRef := ⟨LN_INT_STAT i, 6, 6⟩
def LN_INT_STAT_eye_low (i : Nat) : FRef := ⟨LN_INT_STAT i, 7, 7⟩
def LN_INT_STAT_cal_done (i : Nat) : FRef := ⟨LN_INT_STAT i, 8, 8⟩
def LN_EYE_width (i : Nat) : FRef := ⟨LN_EYE i, 7, 0⟩
def LN_EYE_height (i : Nat) : FRef := ⟨LN_EYE i, 17, 8⟩
def LN_EYE_stale (i : Nat) : FRef := ⟨LN_EYE i, 31, 31⟩
def LN_EYE_THR_width_min (i : Nat) : FRef := ⟨LN_EYE_THR i, 7, 0⟩
def LN_FEC_CORR_count (i : Nat) : FRef := ⟨LN_FEC_CORR i, 31, 0⟩
def LN_FEC_UNCORR_count (i : Nat) : FRef := ⟨LN_FEC_UNCORR i, 31, 0⟩
def LN_SYM_ERR_count (i : Nat) : FRef := ⟨LN_SYM_ERR i, 31, 0⟩
def LN_HDR_ERR_count (i : Nat) : FRef := ⟨LN_HDR_ERR i, 31, 0⟩
def LN_LOCK_LOSS_transient (i : Nat) : FRef := ⟨LN_LOCK_LOSS i, 15, 0⟩
def LN_LOCK_LOSS_lasting (i : Nat) : FRef := ⟨LN_LOCK_LOSS i, 31, 16⟩
def LN_BAY_MODE_mode (i : Nat) : FRef := ⟨LN_BAY_MODE i, 2, 0⟩
def PT_CTRL_enable (i : Nat) : FRef := ⟨PT_CTRL i, 0, 0⟩
def PT_CTRL_pause_rx (i : Nat) : FRef := ⟨PT_CTRL i, 1, 1⟩
def PT_CTRL_pfc_rx (i : Nat) : FRef := ⟨PT_CTRL i, 2, 2⟩
def PT_CTRL_t_exempt (i : Nat) : FRef := ⟨PT_CTRL i, 3, 3⟩
def PT_CTRL_fault_tx (i : Nat) : FRef := ⟨PT_CTRL i, 4, 4⟩
def PT_MAXFRM_max (i : Nat) : FRef := ⟨PT_MAXFRM i, 13, 0⟩
def PT_DRAIN_ON_DISABLE_enable (i : Nat) : FRef := ⟨PT_DRAIN_ON_DISABLE i, 0, 0⟩
def PT_DRAIN_ON_DISABLE_timeout_us (i : Nat) : FRef := ⟨PT_DRAIN_ON_DISABLE i, 31, 16⟩
def PT_XCONN_enable (i : Nat) : FRef := ⟨PT_XCONN i, 0, 0⟩
def PT_XCONN_peer (i : Nat) : FRef := ⟨PT_XCONN i, 13, 8⟩
def PT_IDLE_idle (i : Nat) : FRef := ⟨PT_IDLE i, 0, 0⟩
def PT_IDLE_drain_timeout (i : Nat) : FRef := ⟨PT_IDLE i, 1, 1⟩
def PT_TXTS_OVF_count (i : Nat) : FRef := ⟨PT_TXTS_OVF i, 15, 0⟩
def PT_STAT_link_up (i : Nat) : FRef := ⟨PT_STAT i, 0, 0⟩
def PT_STAT_local_fault (i : Nat) : FRef := ⟨PT_STAT i, 1, 1⟩
def PT_STAT_remote_fault (i : Nat) : FRef := ⟨PT_STAT i, 2, 2⟩
def PT_STAT_paused (i : Nat) : FRef := ⟨PT_STAT i, 3, 3⟩
def PT_STAT_draining (i : Nat) : FRef := ⟨PT_STAT i, 4, 4⟩
def PT_STAT_looped (i : Nat) : FRef := ⟨PT_STAT i, 5, 5⟩
def PT_INT_STAT_link_down (i : Nat) : FRef := ⟨PT_INT_STAT i, 0, 0⟩
def PT_INT_STAT_link_up (i : Nat) : FRef := ⟨PT_INT_STAT i, 1, 1⟩
def PT_INT_STAT_drain_done (i : Nat) : FRef := ⟨PT_INT_STAT i, 2, 2⟩
def PT_INT_STAT_txts_ovf (i : Nat) : FRef := ⟨PT_INT_STAT i, 3, 3⟩
def PT_INT_STAT_remote_fault (i : Nat) : FRef := ⟨PT_INT_STAT i, 4, 4⟩
def PR_CTRL_gr_bank : FRef := ⟨PR_CTRL, 0, 0⟩
def PR_CTRL_rs_bank : FRef := ⟨PR_CTRL, 1, 1⟩
def PR_STAT_gr_active : FRef := ⟨PR_STAT, 0, 0⟩
def PR_STAT_rs_active : FRef := ⟨PR_STAT, 1, 1⟩
def PR_RS_DRAINED_drained : FRef := ⟨PR_RS_DRAINED, 0, 0⟩
def PR_GR_DRAINED_drained : FRef := ⟨PR_GR_DRAINED, 0, 0⟩
def PR_RECIRC_AGE_age_us : FRef := ⟨PR_RECIRC_AGE, 15, 0⟩
def PR_BANK_WR_DROP_count : FRef := ⟨PR_BANK_WR_DROP, 15, 0⟩
def PR_SYS_Q_cpu_q (i : Nat) : FRef := ⟨PR_SYS_Q i, 4, 0⟩
def PR_HASH_GRP_mode (i : Nat) : FRef := ⟨PR_HASH_GRP i, 0, 0⟩
def PR_HASH_GRP_profile (i : Nat) : FRef := ⟨PR_HASH_GRP i, 3, 1⟩
def PR_PORT_CFG_slow_en (i : Nat) : FRef := ⟨PR_PORT_CFG i, 0, 0⟩
def PR_PORT_CFG_slow_q (i : Nat) : FRef := ⟨PR_PORT_CFG i, 5, 1⟩
def PR_PORT_CFG_key_prof (i : Nat) : FRef := ⟨PR_PORT_CFG i, 8, 6⟩
def PR_PORT_CFG_ptp_trap (i : Nat) : FRef := ⟨PR_PORT_CFG i, 9, 9⟩
def PR_PORT_CFG_fpl_trap (i : Nat) : FRef := ⟨PR_PORT_CFG i, 10, 10⟩
def PR_PORT_CFG_lacp_trap (i : Nat) : FRef := ⟨PR_PORT_CFG i, 11, 11⟩
def PR_PORT_CFG_esmc_trap (i : Nat) : FRef := ⟨PR_PORT_CFG i, 12, 12⟩
def PR_INT_STAT_rs_drained : FRef := ⟨PR_INT_STAT, 0, 0⟩
def PR_INT_STAT_gr_drained : FRef := ⟨PR_INT_STAT, 1, 1⟩
def PR_INT_STAT_bank_wr_drop : FRef := ⟨PR_INT_STAT, 2, 2⟩
def PR_INT_STAT_parity_transient : FRef := ⟨PR_INT_STAT, 3, 3⟩
def PR_INT_STAT_parity_lasting : FRef := ⟨PR_INT_STAT, 4, 4⟩
def PR_INT_STAT_recirc_aged : FRef := ⟨PR_INT_STAT, 5, 5⟩
def PR_CNT_UNRESOLVED_unresolved (i : Nat) : FRef := ⟨PR_CNT_UNRESOLVED i, 31, 0⟩
def PR_CNT_PARSE_DEPTH_parse_depth (i : Nat) : FRef := ⟨PR_CNT_PARSE_DEPTH i, 31, 0⟩
def PR_CNT_LEN_MISMATCH_len_mismatch (i : Nat) : FRef := ⟨PR_CNT_LEN_MISMATCH i, 31, 0⟩
def PR_CNT_LEN_LATE_len_late (i : Nat) : FRef := ⟨PR_CNT_LEN_LATE i, 31, 0⟩
def PR_CNT_RULE_DROP_rule_drop (i : Nat) : FRef := ⟨PR_CNT_RULE_DROP i, 31, 0⟩
def PR_CNT_SLOW_PATH_slow_path (i : Nat) : FRef := ⟨PR_CNT_SLOW_PATH i, 31, 0⟩
def PR_CNT_SLOW_OFF_slow_off (i : Nat) : FRef := ⟨PR_CNT_SLOW_OFF i, 31, 0⟩
def PR_CNT_RECIRC_AGED_recirc_aged (i : Nat) : FRef := ⟨PR_CNT_RECIRC_AGED i, 31, 0⟩
def FT_CTRL_learn_en : FRef := ⟨FT_CTRL, 0, 0⟩
def FT_CTRL_hit_on_da : FRef := ⟨FT_CTRL, 1, 1⟩
def FT_STAT_mac_count : FRef := ⟨FT_STAT, 19, 0⟩
def FT_EPOCH_current : FRef := ⟨FT_EPOCH, 15, 0⟩
def FT_DRAIN_EPOCH_value : FRef := ⟨FT_DRAIN_EPOCH, 15, 0⟩
def FT_AGE_period_s : FRef := ⟨FT_AGE, 11, 0⟩
def FT_MOVE_HOLD_hold_ms : FRef := ⟨FT_MOVE_HOLD, 6, 0⟩
def FT_CUCKOO_CFG_max_moves : FRef := ⟨FT_CUCKOO_CFG, 7, 0⟩
def FT_LABEL_CFG_base : FRef := ⟨FT_LABEL_CFG, 19, 0⟩
def FT_PORT_CFG_pvid (i : Nat) : FRef := ⟨FT_PORT_CFG i, 11, 0⟩
def FT_PORT_CFG_learn_en (i : Nat) : FRef := ⟨FT_PORT_CFG i, 12, 12⟩
def FT_PORT_CFG_flow_en (i : Nat) : FRef := ⟨FT_PORT_CFG i, 16, 16⟩
def FT_PORT_CFG_flow_slot (i : Nat) : FRef := ⟨FT_PORT_CFG i, 21, 17⟩
def FT_PORT_CFG_flow_half (i : Nat) : FRef := ⟨FT_PORT_CFG i, 22, 22⟩
def FT_PORT_CFG_label_en (i : Nat) : FRef := ⟨FT_PORT_CFG i, 23, 23⟩
def FT_PORT_CFG_lag_grp (i : Nat) : FRef := ⟨FT_PORT_CFG i, 30, 25⟩
def FT_PORT_CFG_lag_en (i : Nat) : FRef := ⟨FT_PORT_CFG i, 31, 31⟩
def FT_INT_STAT_insert_fail : FRef := ⟨FT_INT_STAT, 0, 0⟩
def FT_INT_STAT_parity_transient : FRef := ⟨FT_INT_STAT, 1, 1⟩
def FT_INT_STAT_parity_lasting : FRef := ⟨FT_INT_STAT, 2, 2⟩
def FT_INT_STAT_drain_adv : FRef := ⟨FT_INT_STAT, 3, 3⟩
def FT_INT_STAT_learn_drop : FRef := ⟨FT_INT_STAT, 4, 4⟩
def FT_INT_STAT_delta_ovf : FRef := ⟨FT_INT_STAT, 5, 5⟩
def FT_INT_STAT_epoch_full : FRef := ⟨FT_INT_STAT, 6, 6⟩
def FT_INT_STAT_lock_expired : FRef := ⟨FT_INT_STAT, 7, 7⟩
def FT_INT_STAT_seed_locked : FRef := ⟨FT_INT_STAT, 8, 8⟩
def FT_INSERT_FAIL_count : FRef := ⟨FT_INSERT_FAIL, 31, 0⟩
def FT_FLAP_count : FRef := ⟨FT_FLAP, 31, 0⟩
def FT_STATION_MOVE_count : FRef := ⟨FT_STATION_MOVE, 31, 0⟩
def FT_LEARN_DROP_queue_full : FRef := ⟨FT_LEARN_DROP, 15, 0⟩
def FT_LEARN_DROP_static_conflict : FRef := ⟨FT_LEARN_DROP, 31, 16⟩
def FT_AGED_count : FRef := ⟨FT_AGED, 31, 0⟩
def FT_LEARNED_count : FRef := ⟨FT_LEARNED, 31, 0⟩
def FT_PARITY_CNT_transient : FRef := ⟨FT_PARITY_CNT, 15, 0⟩
def FT_PARITY_CNT_lasting : FRef := ⟨FT_PARITY_CNT, 31, 16⟩
def FT_VLAN_DROP_count : FRef := ⟨FT_VLAN_DROP, 31, 0⟩
def FT_LABEL_MISS_count : FRef := ⟨FT_LABEL_MISS, 31, 0⟩
def FT_UNK_UC_DROP_count : FRef := ⟨FT_UNK_UC_DROP, 31, 0⟩
def FT_RING_CFG_enable (i : Nat) : FRef := ⟨FT_RING_CFG i, 0, 0⟩
def FT_RING_CFG_size_log2 (i : Nat) : FRef := ⟨FT_RING_CFG i, 4, 1⟩
def FT_RING_HEAD_head (i : Nat) : FRef := ⟨FT_RING_HEAD i, 11, 0⟩
def FT_RING_TAIL_idle (i : Nat) : FRef := ⟨FT_RING_TAIL i, 16, 16⟩
def FT_RING_STAT_lock_held (i : Nat) : FRef := ⟨FT_RING_STAT i, 1, 1⟩
def SC_CTRL_dlm_en : FRef := ⟨SC_CTRL, 0, 0⟩
def SC_CTRL_auto_spare : FRef := ⟨SC_CTRL, 1, 1⟩
def SC_BUF_CFG_sram_reserve : FRef := ⟨SC_BUF_CFG, 17, 0⟩
def SC_T_RESERVE_cells : FRef := ⟨SC_T_RESERVE, 17, 0⟩
def SC_AGE_LIMIT_limit_us : FRef := ⟨SC_AGE_LIMIT, 19, 0⟩
def SC_BAL_Q_cpu_q : FRef := ⟨SC_BAL_Q, 4, 0⟩
def SC_RED_PROF_w (i : Nat) : FRef := ⟨SC_RED_PROF i, 3, 0⟩
def SC_RED_MIN_min_th (i : Nat) (j : Nat) : FRef := ⟨SC_RED_MIN i j, 23, 0⟩
def SC_RED_MAX_max_th (i : Nat) (j : Nat) : FRef := ⟨SC_RED_MAX i j, 23, 0⟩
def SC_RED_MAX_max_p (i : Nat) (j : Nat) : FRef := ⟨SC_RED_MAX i j, 31, 24⟩
def SC_Q_CFG_sched (i : Nat) : FRef := ⟨SC_Q_CFG i, 0, 0⟩
def SC_Q_CFG_strict (i : Nat) : FRef := ⟨SC_Q_CFG i, 1, 1⟩
def SC_Q_CFG_weight (i : Nat) : FRef := ⟨SC_Q_CFG i, 9, 2⟩
def SC_Q_CFG_red_prof (i : Nat) : FRef := ⟨SC_Q_CFG i, 13, 10⟩
def SC_Q_CFG_red_en (i : Nat) : FRef := ⟨SC_Q_CFG i, 14, 14⟩
def SC_Q_CFG_dbm_en (i : Nat) : FRef := ⟨SC_Q_CFG i, 15, 15⟩
def SC_Q_MAX_max (i : Nat) : FRef := ⟨SC_Q_MAX i, 25, 0⟩
def SC_PORT_CFG_def_tc (i : Nat) : FRef := ⟨SC_PORT_CFG i, 2, 0⟩
def SC_PORT_CFG_dei_yellow (i : Nat) : FRef := ⟨SC_PORT_CFG i, 3, 3⟩
def SC_PORT_CFG_flush_on_down (i : Nat) : FRef := ⟨SC_PORT_CFG i, 4, 4⟩
def SC_FC_CFG_mode (i : Nat) : FRef := ⟨SC_FC_CFG i, 1, 0⟩
def SC_FC_CFG_quanta (i : Nat) : FRef := ⟨SC_FC_CFG i, 31, 16⟩
def SC_FC_XOFF_xoff (i : Nat) : FRef := ⟨SC_FC_XOFF i, 17, 0⟩
def SC_FC_XON_xon (i : Nat) : FRef := ⟨SC_FC_XON i, 17, 0⟩
def SC_BAL_CFG_n_minus_1 (i : Nat) : FRef := ⟨SC_BAL_CFG i, 23, 0⟩
def SC_BAL_CFG_ing (i : Nat) : FRef := ⟨SC_BAL_CFG i, 24, 24⟩
def SC_BAL_CFG_egr (i : Nat) : FRef := ⟨SC_BAL_CFG i, 25, 25⟩
def SC_BAL_CFG_random (i : Nat) : FRef := ⟨SC_BAL_CFG i, 26, 26⟩
def SC_DLM_RES_bay (i : Nat) (j : Nat) : FRef := ⟨SC_DLM_RES i j, 3, 0⟩
def SC_DLM_RES_valid (i : Nat) (j : Nat) : FRef := ⟨SC_DLM_RES i j, 4, 4⟩
def SC_CPUQ_CFG_dest (i : Nat) : FRef := ⟨SC_CPUQ_CFG i, 0, 0⟩
def SC_CPUQ_CFG_weight (i : Nat) : FRef := ⟨SC_CPUQ_CFG i, 8, 1⟩
def SC_STAT_dlm_degraded : FRef := ⟨SC_STAT, 0, 0⟩
def SC_BUF_STAT_sram_free : FRef := ⟨SC_BUF_STAT, 17, 0⟩
def SC_MEZZ_STAT_spare_for : FRef := ⟨SC_MEZZ_STAT, 20, 17⟩
def SC_MEZZ_STAT_spare_in_use : FRef := ⟨SC_MEZZ_STAT, 21, 21⟩
def SC_MEZZ_STAT_swap_busy : FRef := ⟨SC_MEZZ_STAT, 22, 22⟩
def SC_ECC_CNT_corrected : FRef := ⟨SC_ECC_CNT, 9, 0⟩
def SC_ECC_CNT_transient : FRef := ⟨SC_ECC_CNT, 20, 10⟩
def SC_ECC_CNT_lasting : FRef := ⟨SC_ECC_CNT, 31, 21⟩
def SC_BAL_LOST_count : FRef := ⟨SC_BAL_LOST, 31, 0⟩
def SC_DLM_LATE_count : FRef := ⟨SC_DLM_LATE, 31, 0⟩
def SC_DLM_MISS_count : FRef := ⟨SC_DLM_MISS, 31, 0⟩
def SC_DISABLE_DISCARD_count (i : Nat) : FRef := ⟨SC_DISABLE_DISCARD i, 31, 0⟩
def SC_MC_PARTIAL_count (i : Nat) : FRef := ⟨SC_MC_PARTIAL i, 31, 0⟩
def SC_Q_OCC_cells (i : Nat) : FRef := ⟨SC_Q_OCC i, 25, 0⟩
def SC_Q_PEAK_cells (i : Nat) : FRef := ⟨SC_Q_PEAK i, 25, 0⟩
def SC_DROP_count (i : Nat) (j : Nat) : FRef := ⟨SC_DROP i j, 31, 0⟩
def SC_DELAY_HIST_count (i : Nat) (j : Nat) : FRef := ⟨SC_DELAY_HIST i j, 31, 0⟩
def SC_INT_STAT_txr_err : FRef := ⟨SC_INT_STAT, 8, 8⟩
def SC_INT_STAT_ecc_transient : FRef := ⟨SC_INT_STAT, 9, 9⟩
def SC_INT_STAT_ecc_lasting : FRef := ⟨SC_INT_STAT, 10, 10⟩
def SC_INT_STAT_mezz_swap_done : FRef := ⟨SC_INT_STAT, 11, 11⟩
def SC_INT_STAT_mezz_idle : FRef := ⟨SC_INT_STAT, 12, 12⟩
def SC_INT_STAT_landing_timeout : FRef := ⟨SC_INT_STAT, 13, 13⟩
def SC_INT_STAT_buffer_full : FRef := ⟨SC_INT_STAT, 14, 14⟩
def SC_INT_STAT_dlm_late : FRef := ⟨SC_INT_STAT, 15, 15⟩
def SC_INT_STAT_res_conflict : FRef := ⟨SC_INT_STAT, 16, 16⟩
def SC_INT_STAT_bal_lost : FRef := ⟨SC_INT_STAT, 17, 17⟩
def GT_CTRL_enable (i : Nat) : FRef := ⟨GT_CTRL i, 0, 0⟩
def GT_CTRL_bank (i : Nat) : FRef := ⟨GT_CTRL i, 1, 1⟩
def GT_FLIGHT_flight (i : Nat) : FRef := ⟨GT_FLIGHT i, 29, 0⟩
def GT_BASE_SEC_sec_lo (i : Nat) : FRef := ⟨GT_BASE_SEC i, 31, 0⟩
def GT_BASE_W1_sec_hi (i : Nat) : FRef := ⟨GT_BASE_W1 i, 15, 0⟩
def GT_BASE_W1_frac (i : Nat) : FRef := ⟨GT_BASE_W1 i, 31, 16⟩
def GT_BASE_NS_ns (i : Nat) : FRef := ⟨GT_BASE_NS i, 29, 0⟩
def GT_FORCE_close (i : Nat) : FRef := ⟨GT_FORCE i, 7, 0⟩
def GT_FORCE_open (i : Nat) : FRef := ⟨GT_FORCE i, 15, 8⟩
def GT_STAT_active (i : Nat) : FRef := ⟨GT_STAT i, 0, 0⟩
def GT_STAT_bank_active (i : Nat) : FRef := ⟨GT_STAT i, 1, 1⟩
def GT_STAT_tread (i : Nat) : FRef := ⟨GT_STAT i, 13, 4⟩
def GT_FLIGHT_CNT_count (i : Nat) : FRef := ⟨GT_FLIGHT_CNT i, 31, 0⟩
def GT_GATES_gates (i : Nat) : FRef := ⟨GT_GATES i, 7, 0⟩
def GT_MARK_SEC_sec_lo (i : Nat) : FRef := ⟨GT_MARK_SEC i, 31, 0⟩
def GT_MARK_NS_ns (i : Nat) : FRef := ⟨GT_MARK_NS i, 29, 0⟩
def GT_MARK_NS_suspect (i : Nat) : FRef := ⟨GT_MARK_NS i, 31, 31⟩
def GT_WIN_MAX_win (i : Nat) (j : Nat) : FRef := ⟨GT_WIN_MAX i j, 29, 0⟩
def GT_INT_STAT_swap_done : FRef := ⟨GT_INT_STAT, 0, 0⟩
def GT_INT_STAT_bank_wr_drop : FRef := ⟨GT_INT_STAT, 1, 1⟩
def GT_INT_STAT_mark : FRef := ⟨GT_INT_STAT, 2, 2⟩
def GT_INT_STAT_parity_transient : FRef := ⟨GT_INT_STAT, 3, 3⟩
def GT_INT_STAT_parity_lasting : FRef := ⟨GT_INT_STAT, 4, 4⟩
def GT_INT_STAT_taq_done : FRef := ⟨GT_INT_STAT, 5, 5⟩
def GT_INT_STAT_taq_dropped : FRef := ⟨GT_INT_STAT, 6, 6⟩
def GT_INT_STAT_taq_group_done : FRef := ⟨GT_INT_STAT, 7, 7⟩
def GT_WR_DROP_bank : FRef := ⟨GT_WR_DROP, 15, 0⟩
def GT_WR_DROP_taq : FRef := ⟨GT_WR_DROP, 31, 16⟩
def GT_PARITY_tread : FRef := ⟨GT_PARITY, 9, 0⟩
def GT_PARITY_transient : FRef := ⟨GT_PARITY, 19, 10⟩
def GT_PARITY_port : FRef := ⟨GT_PARITY, 25, 20⟩
def GT_PARITY_bank : FRef := ⟨GT_PARITY, 29, 29⟩
def GT_PARITY_more : FRef := ⟨GT_PARITY, 30, 30⟩
def GT_PARITY_valid : FRef := ⟨GT_PARITY, 31, 31⟩
def GT_TAQ_GRP_LAST_group : FRef := ⟨GT_TAQ_GRP_LAST, 15, 0⟩
def GT_TAQ_GRP_LAST_more : FRef := ⟨GT_TAQ_GRP_LAST, 16, 16⟩
def TB_STAT_suspect : FRef := ⟨TB_STAT, 0, 0⟩
def TB_STAT_cause_root : FRef := ⟨TB_STAT, 1, 1⟩
def TB_STAT_cause_restart : FRef := ⟨TB_STAT, 2, 2⟩
def TB_STAT_tc_state : FRef := ⟨TB_STAT, 6, 4⟩
def TB_STAT_time_ch : FRef := ⟨TB_STAT, 10, 8⟩
def TB_SNAP_SEC_LO_sec_lo (i : Nat) : FRef := ⟨TB_SNAP_SEC_LO i, 31, 0⟩
def TB_SNAP_W1_sec_hi (i : Nat) : FRef := ⟨TB_SNAP_W1 i, 15, 0⟩
def TB_SNAP_W1_frac (i : Nat) : FRef := ⟨TB_SNAP_W1 i, 31, 16⟩
def TB_SNAP_NS_ns (i : Nat) : FRef := ⟨TB_SNAP_NS i, 29, 0⟩
def TB_SNAP_NS_suspect (i : Nat) : FRef := ⟨TB_SNAP_NS i, 31, 31⟩
def TB_INCR_HI_incr_hi : FRef := ⟨TB_INCR_HI, 7, 0⟩
def TB_OWN_VIOL_port : FRef := ⟨TB_OWN_VIOL, 30, 30⟩
def TB_OWN_VIOL_valid : FRef := ⟨TB_OWN_VIOL, 31, 31⟩
def TB_STEP_SEC_LO_sec_lo : FRef := ⟨TB_STEP_SEC_LO, 31, 0⟩
def TB_STEP_W1_sec_hi : FRef := ⟨TB_STEP_W1, 15, 0⟩
def TB_STEP_W1_frac : FRef := ⟨TB_STEP_W1, 31, 16⟩
def TB_STEP_NS_ns : FRef := ⟨TB_STEP_NS, 29, 0⟩
def TB_STEP_NS_neg : FRef := ⟨TB_STEP_NS, 31, 31⟩
def TB_STEP_CNT_count : FRef := ⟨TB_STEP_CNT, 31, 0⟩
def TB_INT_STAT_suspect_set : FRef := ⟨TB_INT_STAT, 0, 0⟩
def TB_INT_STAT_suspect_clear : FRef := ⟨TB_INT_STAT, 1, 1⟩
def TB_INT_STAT_step_done : FRef := ⟨TB_INT_STAT, 2, 2⟩
def TB_INT_STAT_step_bad : FRef := ⟨TB_INT_STAT, 3, 3⟩
def TB_INT_STAT_own_viol : FRef := ⟨TB_INT_STAT, 4, 4⟩
def TB_INT_STAT_incr_bad : FRef := ⟨TB_INT_STAT, 5, 5⟩
def TB_INT_STAT_tod_transient : FRef := ⟨TB_INT_STAT, 6, 6⟩
def TB_INT_STAT_tod_lasting : FRef := ⟨TB_INT_STAT, 7, 7⟩
def TB_INT_STAT_tod_sec_mismatch : FRef := ⟨TB_INT_STAT, 8, 8⟩
def TB_INT_STAT_ptp_mod_err : FRef := ⟨TB_INT_STAT, 9, 9⟩
def TB_PTP_CFG_ptp_clause : FRef := ⟨TB_PTP_CFG, 5, 0⟩
def TB_PTP_CFG_udp_clause : FRef := ⟨TB_PTP_CFG, 13, 8⟩
def TB_PTP_CFG_ipv4_clause : FRef := ⟨TB_PTP_CFG, 21, 16⟩
def TB_PTP_CFG_ipv6_clause : FRef := ⟨TB_PTP_CFG, 29, 24⟩
def TB_PTP_ERR_short : FRef := ⟨TB_PTP_ERR, 7, 0⟩
def TB_PTP_ERR_ipv6_nofix : FRef := ⟨TB_PTP_ERR, 15, 8⟩
def TB_PTP_ERR_owner_miss : FRef := ⟨TB_PTP_ERR, 23, 16⟩
def TB_PTP_ERR_step_straddle : FRef := ⟨TB_PTP_ERR, 31, 24⟩
def TB_TOD_CFG_baud : FRef := ⟨TB_TOD_CFG, 2, 0⟩
def TB_TOD_CFG_tx_en : FRef := ⟨TB_TOD_CFG, 4, 4⟩
def TB_TOD_CFG_rx_en : FRef := ⟨TB_TOD_CFG, 5, 5⟩
def TB_TOD_CFG_tx_delay_ms : FRef := ⟨TB_TOD_CFG, 16, 8⟩
def TB_TOD_CFG_rx_ref : FRef := ⟨TB_TOD_CFG, 23, 20⟩
def TB_TOD_STAT_rx_qual : FRef := ⟨TB_TOD_STAT, 0, 0⟩
def TB_TOD_STAT_rx_fault : FRef := ⟨TB_TOD_STAT, 1, 1⟩
def TB_TOD_STAT_sec_diff : FRef := ⟨TB_TOD_STAT, 31, 16⟩
def TB_TOD_CNT_crc_err : FRef := ⟨TB_TOD_CNT, 7, 0⟩
def TB_TOD_CNT_missing : FRef := ⟨TB_TOD_CNT, 15, 8⟩
def TB_TOD_CNT_untimed : FRef := ⟨TB_TOD_CNT, 23, 16⟩
def TB_TOD_CNT_sec_mismatch : FRef := ⟨TB_TOD_CNT, 31, 24⟩
def TB_PTP_PORT_mode (i : Nat) : FRef := ⟨TB_PTP_PORT i, 1, 0⟩
def TB_PTP_PORT_one_step (i : Nat) : FRef := ⟨TB_PTP_PORT i, 2, 2⟩
def TB_PTP_PORT_ipv6_fix (i : Nat) : FRef := ⟨TB_PTP_PORT i, 3, 3⟩
def TB_PTP_PORT_txts_owner (i : Nat) : FRef := ⟨TB_PTP_PORT i, 4, 4⟩
def TB_TXTS_SEC_sec_lo (i : Nat) : FRef := ⟨TB_TXTS_SEC i, 31, 0⟩
def TB_TXTS_W2_sec_hi (i : Nat) : FRef := ⟨TB_TXTS_W2 i, 15, 0⟩
def TB_TXTS_W2_frac (i : Nat) : FRef := ⟨TB_TXTS_W2 i, 31, 16⟩
def TB_TXTS_NS_ns (i : Nat) : FRef := ⟨TB_TXTS_NS i, 29, 0⟩
def PX_LINK_CTRL_enable (i : Nat) : FRef := ⟨PX_LINK_CTRL i, 0, 0⟩
def PX_LINK_CTRL_role (i : Nat) : FRef := ⟨PX_LINK_CTRL i, 5, 4⟩
def PX_LINK_CTRL_interval_log (i : Nat) : FRef := ⟨PX_LINK_CTRL i, 8, 6⟩
def PX_LINK_CTRL_auto_cal (i : Nat) : FRef := ⟨PX_LINK_CTRL i, 9, 9⟩
def PX_LINK_CTRL_asym_src (i : Nat) : FRef := ⟨PX_LINK_CTRL i, 11, 10⟩
def PX_LINK_ASYM_asym (i : Nat) : FRef := ⟨PX_LINK_ASYM i, 31, 0⟩
def PX_PAIR_port (i : Nat) : FRef := ⟨PX_PAIR i, 5, 0⟩
def PX_PAIR_valid (i : Nat) : FRef := ⟨PX_PAIR i, 31, 31⟩
def PX_WL_TX_w (i : Nat) : FRef := ⟨PX_WL_TX i, 31, 0⟩
def PX_WL_RX_w (i : Nat) : FRef := ⟨PX_WL_RX i, 31, 0⟩
def PX_FAR_node (i : Nat) : FRef := ⟨PX_FAR i, 15, 0⟩
def PX_FAR_port (i : Nat) : FRef := ⟨PX_FAR i, 23, 16⟩
def PX_PHASE_TX_psi (i : Nat) : FRef := ⟨PX_PHASE_TX i, 19, 0⟩
def PX_PHASE_TX_valid (i : Nat) : FRef := ⟨PX_PHASE_TX i, 31, 31⟩
def PX_PHASE_RX_chi (i : Nat) : FRef := ⟨PX_PHASE_RX i, 19, 0⟩
def PX_PHASE_RX_valid (i : Nat) : FRef := ⟨PX_PHASE_RX i, 31, 31⟩
def PX_FREQ_f (i : Nat) : FRef := ⟨PX_FREQ i, 31, 0⟩
def PX_SEQ_m (i : Nat) : FRef := ⟨PX_SEQ i, 15, 0⟩
def PX_ASYM_USED_asym (i : Nat) : FRef := ⟨PX_ASYM_USED i, 31, 0⟩
def PX_CAL_TX_l_tx (i : Nat) : FRef := ⟨PX_CAL_TX i, 31, 0⟩
def PX_CAL_RX_l_rx (i : Nat) : FRef := ⟨PX_CAL_RX i, 31, 0⟩
def PX_CAL_Q_residual (i : Nat) : FRef := ⟨PX_CAL_Q i, 15, 0⟩
def PX_CAL_Q_temp (i : Nat) : FRef := ⟨PX_CAL_Q i, 31, 16⟩
def PX_CNT_EXCH_count (i : Nat) : FRef := ⟨PX_CNT_EXCH i, 31, 0⟩
def PX_CNT_MISS_transient (i : Nat) : FRef := ⟨PX_CNT_MISS i, 15, 0⟩
def PX_CNT_MISS_lasting (i : Nat) : FRef := ⟨PX_CNT_MISS i, 31, 16⟩
def PX_CNT_DISC_stepped (i : Nat) : FRef := ⟨PX_CNT_DISC i, 5, 0⟩
def PX_CNT_DISC_suspect (i : Nat) : FRef := ⟨PX_CNT_DISC i, 11, 6⟩
def PX_CNT_DISC_root (i : Nat) : FRef := ⟨PX_CNT_DISC i, 17, 12⟩
def PX_CNT_DISC_bad_msg (i : Nat) : FRef := ⟨PX_CNT_DISC i, 23, 18⟩
def PX_CNT_DISC_wrap_err (i : Nat) : FRef := ⟨PX_CNT_DISC i, 27, 24⟩
def PX_CNT_DISC_fine_fail (i : Nat) : FRef := ⟨PX_CNT_DISC i, 31, 28⟩
def PX_STAT_state (i : Nat) : FRef := ⟨PX_STAT i, 2, 0⟩
def PX_STAT_downstream (i : Nat) : FRef := ⟨PX_STAT i, 3, 3⟩
def PX_STAT_syntonised (i : Nat) : FRef := ⟨PX_STAT i, 4, 4⟩
def PX_STAT_cal_valid (i : Nat) : FRef := ⟨PX_STAT i, 5, 5⟩
def PX_STAT_cal_stale (i : Nat) : FRef := ⟨PX_STAT i, 6, 6⟩
def PX_STAT_far_fine (i : Nat) : FRef := ⟨PX_STAT i, 7, 7⟩
def PX_STAT_far_suspect (i : Nat) : FRef := ⟨PX_STAT i, 8, 8⟩
def PX_STAT_asym_stale (i : Nat) : FRef := ⟨PX_STAT i, 9, 9⟩
def PX_STAT_delivering (i : Nat) : FRef := ⟨PX_STAT i, 10, 10⟩
def PX_STAT_role_conflict (i : Nat) : FRef := ⟨PX_STAT i, 11, 11⟩
def PX_CTRL_node_id : FRef := ⟨PX_CTRL, 15, 0⟩
def PX_CTRL_domain : FRef := ⟨PX_CTRL, 23, 16⟩
def PX_MAC_LO_mac_lo : FRef := ⟨PX_MAC_LO, 31, 0⟩
def PX_MAC_HI_mac_hi : FRef := ⟨PX_MAC_HI, 15, 0⟩
def PX_REF_link : FRef := ⟨PX_REF, 5, 0⟩
def PX_CAL_CFG_temp_k : FRef := ⟨PX_CAL_CFG, 7, 0⟩
def PX_REF_STAT_lease_ok : FRef := ⟨PX_REF_STAT, 0, 0⟩
def PX_REF_STAT_delivering : FRef := ⟨PX_REF_STAT, 1, 1⟩
def PX_REF_STAT_link : FRef := ⟨PX_REF_STAT, 13, 8⟩
def PX_INT_STAT_state_chg : FRef := ⟨PX_INT_STAT, 0, 0⟩
def PX_INT_STAT_cal_done : FRef := ⟨PX_INT_STAT, 1, 1⟩
def PX_INT_STAT_miss_lasting : FRef := ⟨PX_INT_STAT, 2, 2⟩
def PX_INT_STAT_miss_transient : FRef := ⟨PX_INT_STAT, 3, 3⟩
def PX_INT_STAT_role_conflict : FRef := ⟨PX_INT_STAT, 4, 4⟩
def PX_INT_STAT_asym_upd : FRef := ⟨PX_INT_STAT, 5, 5⟩
def PX_INT_STAT_lease_exp : FRef := ⟨PX_INT_STAT, 6, 6⟩
def PX_INT_STAT_discard : FRef := ⟨PX_INT_STAT, 7, 7⟩
def TC_CTRL_enable (i : Nat) : FRef := ⟨TC_CTRL i, 0, 0⟩
def TC_CTRL_revertive (i : Nat) : FRef := ⟨TC_CTRL i, 1, 1⟩
def TC_CTRL_ql_mode (i : Nat) : FRef := ⟨TC_CTRL i, 2, 2⟩
def TC_CTRL_switch_mode (i : Nat) : FRef := ⟨TC_CTRL i, 3, 3⟩
def TC_LOOP_bw (i : Nat) : FRef := ⟨TC_LOOP i, 4, 0⟩
def TC_LOOP_lock_win (i : Nat) : FRef := ⟨TC_LOOP i, 15, 8⟩
def TC_DCO_NOM_LO_f_lo (i : Nat) : FRef := ⟨TC_DCO_NOM_LO i, 31, 0⟩
def TC_DCO_NOM_HI_f_hi (i : Nat) : FRef := ⟨TC_DCO_NOM_HI i, 3, 0⟩
def TC_SOFT_soft (i : Nat) : FRef := ⟨TC_SOFT i, 23, 0⟩
def TC_HARD_hard (i : Nat) : FRef := ⟨TC_HARD i, 23, 0⟩
def TC_QUAL_qualify_s (i : Nat) : FRef := ⟨TC_QUAL i, 7, 0⟩
def TC_QUAL_win (i : Nat) : FRef := ⟨TC_QUAL i, 9, 8⟩
def TC_QUAL_wtr_s (i : Nat) : FRef := ⟨TC_QUAL i, 27, 16⟩
def TC_SLEW_limit (i : Nat) : FRef := ⟨TC_SLEW i, 12, 0⟩
def TC_PHASE_OFS_ofs (i : Nat) : FRef := ⟨TC_PHASE_OFS i, 31, 0⟩
def TC_HO_CFG_avg_s (i : Nat) : FRef := ⟨TC_HO_CFG i, 11, 0⟩
def TC_HO_CFG_ensemble (i : Nat) : FRef := ⟨TC_HO_CFG i, 12, 12⟩
def TC_HO_LIMIT_te_limit_ns (i : Nat) : FRef := ⟨TC_HO_LIMIT i, 23, 0⟩
def TC_HO_LIMIT_max_h (i : Nat) : FRef := ⟨TC_HO_LIMIT i, 31, 24⟩
def TC_FORCE_mode (i : Nat) : FRef := ⟨TC_FORCE i, 1, 0⟩
def TC_FORCE_ref (i : Nat) : FRef := ⟨TC_FORCE i, 13, 8⟩
def TC_FREQ_y (i : Nat) : FRef := ⟨TC_FREQ i, 31, 0⟩
def TC_PHASE_ERR_err (i : Nat) : FRef := ⟨TC_PHASE_ERR i, 31, 0⟩
def TC_DCO_WORD_band (i : Nat) : FRef := ⟨TC_DCO_WORD i, 7, 0⟩
def TC_DCO_WORD_fine (i : Nat) : FRef := ⟨TC_DCO_WORD i, 31, 8⟩
def TC_ABSORBED_ofs (i : Nat) : FRef := ⟨TC_ABSORBED i, 31, 0⟩
def TC_HO_STAT_elapsed_s (i : Nat) : FRef := ⟨TC_HO_STAT i, 23, 0⟩
def TC_HO_STAT_trained_h (i : Nat) : FRef := ⟨TC_HO_STAT i, 31, 24⟩
def TC_HO_TE_te_est (i : Nat) : FRef := ⟨TC_HO_TE i, 31, 0⟩
def TC_SW_CNT_switches (i : Nat) : FRef := ⟨TC_SW_CNT i, 15, 0⟩
def TC_SW_CNT_disq (i : Nat) : FRef := ⟨TC_SW_CNT i, 31, 16⟩
def TC_TDC_Q_residual (i : Nat) : FRef := ⟨TC_TDC_Q i, 15, 0⟩
def TC_TDC_Q_temp (i : Nat) : FRef := ⟨TC_TDC_Q i, 31, 16⟩
def TC_PRESET_LO_f_lo (i : Nat) (j : Nat) : FRef := ⟨TC_PRESET_LO i j, 31, 0⟩
def TC_PRESET_HI_f_hi (i : Nat) (j : Nat) : FRef := ⟨TC_PRESET_HI i j, 3, 0⟩
def TC_PRESET_HI_band (i : Nat) (j : Nat) : FRef := ⟨TC_PRESET_HI i j, 15, 8⟩
def TC_PRESET_HI_valid (i : Nat) (j : Nat) : FRef := ⟨TC_PRESET_HI i j, 31, 31⟩
def TC_REF_STAT_status (i : Nat) (j : Nat) : FRef := ⟨TC_REF_STAT i j, 2, 0⟩
def TC_REF_STAT_dev (i : Nat) (j : Nat) : FRef := ⟨TC_REF_STAT i j, 31, 8⟩
def TC_STAT_state (i : Nat) : FRef := ⟨TC_STAT i, 2, 0⟩
def TC_STAT_sel_ref (i : Nat) : FRef := ⟨TC_STAT i, 9, 4⟩
def TC_STAT_switching (i : Nat) : FRef := ⟨TC_STAT i, 10, 10⟩
def TC_STAT_slewing (i : Nat) : FRef := ⟨TC_STAT i, 11, 11⟩
def TC_STAT_stale (i : Nat) : FRef := ⟨TC_STAT i, 12, 12⟩
def TC_STAT_tdc_cal (i : Nat) : FRef := ⟨TC_STAT i, 13, 13⟩
def TC_STAT_resetting (i : Nat) : FRef := ⟨TC_STAT i, 14, 14⟩
def TC_STAT_cfg_err (i : Nat) : FRef := ⟨TC_STAT i, 15, 15⟩
def TC_STAT_bw_eff (i : Nat) : FRef := ⟨TC_STAT i, 20, 16⟩
def TC_STAT_hist_valid (i : Nat) : FRef := ⟨TC_STAT i, 21, 21⟩
def TC_STAT_trained (i : Nat) : FRef := ⟨TC_STAT i, 22, 22⟩
def TC_STAT_ensemble (i : Nat) : FRef := ⟨TC_STAT i, 23, 23⟩
def TC_INT_STAT_state_chg (i : Nat) : FRef := ⟨TC_INT_STAT i, 0, 0⟩
def TC_INT_STAT_switch_done (i : Nat) : FRef := ⟨TC_INT_STAT i, 1, 1⟩
def TC_INT_STAT_band_search (i : Nat) : FRef := ⟨TC_INT_STAT i, 2, 2⟩
def TC_INT_STAT_ref_disq (i : Nat) : FRef := ⟨TC_INT_STAT i, 3, 3⟩
def TC_INT_STAT_ref_degraded (i : Nat) : FRef := ⟨TC_INT_STAT i, 4, 4⟩
def TC_INT_STAT_ho_lost (i : Nat) : FRef := ⟨TC_INT_STAT i, 5, 5⟩
def TC_INT_STAT_tdc_cal_done (i : Nat) : FRef := ⟨TC_INT_STAT i, 6, 6⟩
def TC_ROLES_time_ch : FRef := ⟨TC_ROLES, 2, 0⟩
def TC_ROLES_synce_ch : FRef := ⟨TC_ROLES, 6, 4⟩
def TC_REF_CFG_freq_hz (i : Nat) : FRef := ⟨TC_REF_CFG i, 29, 0⟩
def TC_REF_MUL_ref_mul (i : Nat) : FRef := ⟨TC_REF_MUL i, 1, 0⟩
def TC_OVO_oven_ok : FRef := ⟨TC_OVO, 0, 0⟩
def TC_OVO_temp : FRef := ⟨TC_OVO, 31, 16⟩
def TC_REF_FREQ_e (i : Nat) : FRef := ⟨TC_REF_FREQ i, 23, 0⟩
def TC_REF_FREQ_active (i : Nat) : FRef := ⟨TC_REF_FREQ i, 30, 30⟩
def TC_REF_FREQ_valid (i : Nat) : FRef := ⟨TC_REF_FREQ i, 31, 31⟩
def OU_CTRL_enable (i : Nat) : FRef := ⟨OU_CTRL i, 0, 0⟩
def OU_CTRL_channel (i : Nat) : FRef := ⟨OU_CTRL i, 3, 1⟩
def OU_CTRL_mode (i : Nat) : FRef := ⟨OU_CTRL i, 4, 4⟩
def OU_CTRL_format (i : Nat) : FRef := ⟨OU_CTRL i, 7, 5⟩
def OU_CTRL_off_state (i : Nat) : FRef := ⟨OU_CTRL i, 8, 8⟩
def OU_CTRL_comp_en (i : Nat) : FRef := ⟨OU_CTRL i, 9, 9⟩
def OU_CTRL_invert (i : Nat) : FRef := ⟨OU_CTRL i, 10, 10⟩
def OU_DIV_N_n (i : Nat) : FRef := ⟨OU_DIV_N i, 31, 0⟩
def OU_DIV_NUM_num (i : Nat) : FRef := ⟨OU_DIV_NUM i, 23, 0⟩
def OU_DIV_DEN_den (i : Nat) : FRef := ⟨OU_DIV_DEN i, 23, 0⟩
def OU_DELAY_fine (i : Nat) : FRef := ⟨OU_DELAY i, 5, 0⟩
def OU_DELAY_coarse (i : Nat) : FRef := ⟨OU_DELAY i, 29, 6⟩
def OU_PULSE_PER_period_ns (i : Nat) : FRef := ⟨OU_PULSE_PER i, 31, 0⟩
def OU_PULSE_W_width_ns (i : Nat) : FRef := ⟨OU_PULSE_W i, 31, 0⟩
def OU_PULSE_OFS_NS_ofs_ns (i : Nat) : FRef := ⟨OU_PULSE_OFS_NS i, 31, 0⟩
def OU_PULSE_OFS_FRAC_ofs_frac (i : Nat) : FRef := ⟨OU_PULSE_OFS_FRAC i, 15, 0⟩
def OU_PULSE_THR_thr_ps (i : Nat) : FRef := ⟨OU_PULSE_THR i, 15, 0⟩
def OU_PULSE_ERR_err (i : Nat) : FRef := ⟨OU_PULSE_ERR i, 31, 0⟩
def OU_PATH_DLY_dly (i : Nat) : FRef := ⟨OU_PATH_DLY i, 31, 0⟩
def OU_STAT_active (i : Nat) : FRef := ⟨OU_STAT i, 0, 0⟩
def OU_STAT_stale (i : Nat) : FRef := ⟨OU_STAT i, 1, 1⟩
def OU_STAT_cfg_err (i : Nat) : FRef := ⟨OU_STAT i, 2, 2⟩
def OU_STAT_unaligned (i : Nat) : FRef := ⟨OU_STAT i, 3, 3⟩
def OU_STAT_aligned_suspect (i : Nat) : FRef := ⟨OU_STAT i, 4, 4⟩
def OU_STAT_ramping (i : Nat) : FRef := ⟨OU_STAT i, 5, 5⟩
def OU_STAT_realign_pending (i : Nat) : FRef := ⟨OU_STAT i, 6, 6⟩
def OU_INT_STAT_stale_set : FRef := ⟨OU_INT_STAT, 0, 0⟩
def OU_INT_STAT_stale_clear : FRef := ⟨OU_INT_STAT, 1, 1⟩
def OU_INT_STAT_unaligned : FRef := ⟨OU_INT_STAT, 2, 2⟩
def OU_INT_STAT_realign_done : FRef := ⟨OU_INT_STAT, 3, 3⟩
def OU_INT_STAT_ramp_end : FRef := ⟨OU_INT_STAT, 4, 4⟩
def OU_INT_STAT_ramp_clamp : FRef := ⟨OU_INT_STAT, 5, 5⟩
def OU_INT_STAT_cfg_err : FRef := ⟨OU_INT_STAT, 6, 6⟩
def OU_INT_STAT_wr_drop : FRef := ⟨OU_INT_STAT, 7, 7⟩
def OU_RAMP_STAT_running (i : Nat) : FRef := ⟨OU_RAMP_STAT i, 0, 0⟩
def OU_RAMP_STAT_profile (i : Nat) : FRef := ⟨OU_RAMP_STAT i, 3, 1⟩
def OU_RAMP_STAT_segment (i : Nat) : FRef := ⟨OU_RAMP_STAT i, 9, 4⟩
def OU_RAMP_STAT_y_r (i : Nat) : FRef := ⟨OU_RAMP_STAT i, 31, 10⟩
def OU_WR_DROP_count : FRef := ⟨OU_WR_DROP, 15, 0⟩
def OU_RAMP_CFG_end_mode (i : Nat) : FRef := ⟨OU_RAMP_CFG i, 0, 0⟩
def EV_IN_CFG_enable (i : Nat) : FRef := ⟨EV_IN_CFG i, 0, 0⟩
def EV_IN_CFG_edge (i : Nat) : FRef := ⟨EV_IN_CFG i, 2, 1⟩
def EV_IN_CFG_ts_fifo (i : Nat) : FRef := ⟨EV_IN_CFG i, 3, 3⟩
def EV_IN_CFG_decim (i : Nat) : FRef := ⟨EV_IN_CFG i, 27, 8⟩
def EV_TS_SEC_sec_lo (i : Nat) : FRef := ⟨EV_TS_SEC i, 31, 0⟩
def EV_TS_W2_sec_hi (i : Nat) : FRef := ⟨EV_TS_W2 i, 15, 0⟩
def EV_TS_W2_frac (i : Nat) : FRef := ⟨EV_TS_W2 i, 31, 16⟩
def EV_TS_NS_ns (i : Nat) : FRef := ⟨EV_TS_NS i, 29, 0⟩
def EV_IN_ADJ_adj (i : Nat) : FRef := ⟨EV_IN_ADJ i, 31, 0⟩
def EV_EDGES_count (i : Nat) : FRef := ⟨EV_EDGES i, 31, 0⟩
def EV_CNT_overrun (i : Nat) : FRef := ⟨EV_CNT i, 15, 0⟩
def EV_CNT_fifo_ovf (i : Nat) : FRef := ⟨EV_CNT i, 31, 16⟩
def EV_CAL_LOST_count (i : Nat) : FRef := ⟨EV_CAL_LOST i, 31, 0⟩
def EV_STAT_cal_busy (i : Nat) : FRef := ⟨EV_STAT i, 0, 0⟩
def EV_STAT_cal_stale (i : Nat) : FRef := ⟨EV_STAT i, 1, 1⟩
def EV_STAT_live_set (i : Nat) : FRef := ⟨EV_STAT i, 2, 2⟩
def EV_STAT_fifo_count (i : Nat) : FRef := ⟨EV_STAT i, 22, 16⟩
def EV_CAL_Q_residual (i : Nat) : FRef := ⟨EV_CAL_Q i, 15, 0⟩
def EV_CAL_Q_temp (i : Nat) : FRef := ⟨EV_CAL_Q i, 31, 16⟩
def EV_GRP_CFG_enable (i : Nat) : FRef := ⟨EV_GRP_CFG i, 0, 0⟩
def EV_GRP_CFG_start (i : Nat) : FRef := ⟨EV_GRP_CFG i, 3, 1⟩
def EV_GRP_CFG_stop_mask (i : Nat) : FRef := ⟨EV_GRP_CFG i, 15, 8⟩
def EV_GRP_CFG_cfg_err (i : Nat) : FRef := ⟨EV_GRP_CFG i, 16, 16⟩
def EV_GRP_WIN_window_ns (i : Nat) : FRef := ⟨EV_GRP_WIN i, 29, 0⟩
def EV_GRP_OVF_count (i : Nat) : FRef := ⟨EV_GRP_OVF i, 31, 0⟩
def EV_INT_STAT_res_ready : FRef := ⟨EV_INT_STAT, 0, 0⟩
def EV_INT_STAT_overrun : FRef := ⟨EV_INT_STAT, 1, 1⟩
def EV_INT_STAT_fifo_ovf : FRef := ⟨EV_INT_STAT, 2, 2⟩
def EV_INT_STAT_res_ovf : FRef := ⟨EV_INT_STAT, 3, 3⟩
def EV_INT_STAT_cal_done : FRef := ⟨EV_INT_STAT, 4, 4⟩
def EV_INT_STAT_cal_fail : FRef := ⟨EV_INT_STAT, 5, 5⟩
def TW_CTRL_enable : FRef := ⟨TW_CTRL, 0, 0⟩
def TW_CTRL_prio : FRef := ⟨TW_CTRL, 5, 2⟩
def TW_CTRL_out_gate : FRef := ⟨TW_CTRL, 6, 6⟩
def TW_CTRL_px_seed : FRef := ⟨TW_CTRL, 7, 7⟩
def TW_CTRL_gal_loop : FRef := ⟨TW_CTRL, 9, 8⟩
def TW_CTRL_lag_en : FRef := ⟨TW_CTRL, 10, 10⟩
def TW_ELECT_wait_ms : FRef := ⟨TW_ELECT, 15, 0⟩
def TW_CH_MASK_ch : FRef := ⟨TW_CH_MASK, 5, 0⟩
def TW_OUT_MASK_out : FRef := ⟨TW_OUT_MASK, 17, 0⟩
def TW_MON_CFG_enable (i : Nat) : FRef := ⟨TW_MON_CFG i, 0, 0⟩
def TW_MON_CFG_out (i : Nat) : FRef := ⟨TW_MON_CFG i, 5, 1⟩
def TW_MON_CFG_time_fine (i : Nat) : FRef := ⟨TW_MON_CFG i, 6, 6⟩
def TW_MON_CFG_thr (i : Nat) : FRef := ⟨TW_MON_CFG i, 23, 8⟩
def TW_MON_ADJ_adj (i : Nat) : FRef := ⟨TW_MON_ADJ i, 31, 0⟩
def TW_GAL_ASYM_asym : FRef := ⟨TW_GAL_ASYM, 31, 0⟩
def TW_LAG_LO_ports : FRef := ⟨TW_LAG_LO, 31, 0⟩
def TW_LAG_HI_ports : FRef := ⟨TW_LAG_HI, 15, 0⟩
def TW_STAT_state : FRef := ⟨TW_STAT, 2, 0⟩
def TW_STAT_seat : FRef := ⟨TW_STAT, 8, 8⟩
def TW_STAT_role_act : FRef := ⟨TW_STAT, 9, 9⟩
def TW_STAT_partner_state : FRef := ⟨TW_STAT, 12, 10⟩
def TW_STAT_gal0_up : FRef := ⟨TW_STAT, 13, 13⟩
def TW_STAT_gal1_up : FRef := ⟨TW_STAT, 14, 14⟩
def TW_STAT_hb_ok : FRef := ⟨TW_STAT, 15, 15⟩
def TW_STAT_hb_partner_active : FRef := ⟨TW_STAT, 16, 16⟩
def TW_STAT_partner_self_ok : FRef := ⟨TW_STAT, 17, 17⟩
def TW_STAT_resync_busy : FRef := ⟨TW_STAT, 18, 18⟩
def TW_STAT_split_brain : FRef := ⟨TW_STAT, 19, 19⟩
def TW_STAT_fault_cause : FRef := ⟨TW_STAT, 23, 20⟩
def TW_MON_STAT_dphi (i : Nat) : FRef := ⟨TW_MON_STAT i, 23, 0⟩
def TW_MON_STAT_mismatch (i : Nat) : FRef := ⟨TW_MON_STAT i, 29, 29⟩
def TW_MON_STAT_active (i : Nat) : FRef := ⟨TW_MON_STAT i, 30, 30⟩
def TW_MON_STAT_valid (i : Nat) : FRef := ⟨TW_MON_STAT i, 31, 31⟩
def TW_DELTA_delta : FRef := ⟨TW_DELTA, 31, 0⟩
def TW_CNT_GAL_transient : FRef := ⟨TW_CNT_GAL, 15, 0⟩
def TW_CNT_GAL_lasting : FRef := ⟨TW_CNT_GAL, 31, 16⟩
def TW_CNT_MON_transient : FRef := ⟨TW_CNT_MON, 15, 0⟩
def TW_CNT_MON_lasting : FRef := ⟨TW_CNT_MON, 31, 16⟩
def TW_FO_count : FRef := ⟨TW_FO, 15, 0⟩
def TW_FO_cause : FRef := ⟨TW_FO, 19, 16⟩
def TW_FO_TIME_sec_lo : FRef := ⟨TW_FO_TIME, 31, 0⟩
def TW_FO_TIME_NS_ns : FRef := ⟨TW_FO_TIME_NS, 29, 0⟩
def TW_FO_TIME_NS_suspect : FRef := ⟨TW_FO_TIME_NS, 31, 31⟩
def TW_RESYNC_entries : FRef := ⟨TW_RESYNC, 19, 0⟩
def TW_RESYNC_loop_ok : FRef := ⟨TW_RESYNC, 31, 20⟩
def TW_LAG_DISC_count (i : Nat) : FRef := ⟨TW_LAG_DISC i, 31, 0⟩
def TW_PX_COPY_state (i : Nat) : FRef := ⟨TW_PX_COPY i, 2, 0⟩
def TW_PX_COPY_cal_valid (i : Nat) : FRef := ⟨TW_PX_COPY i, 3, 3⟩
def TW_PX_COPY_far_node (i : Nat) : FRef := ⟨TW_PX_COPY i, 23, 8⟩
def TW_PX_COPY_far_port (i : Nat) : FRef := ⟨TW_PX_COPY i, 31, 24⟩
def TW_PX_COPY_L_TX_v (i : Nat) : FRef := ⟨TW_PX_COPY_L_TX i, 31, 0⟩
def TW_PX_COPY_L_RX_v (i : Nat) : FRef := ⟨TW_PX_COPY_L_RX i, 31, 0⟩
def TW_PX_COPY_ASYM_v (i : Nat) : FRef := ⟨TW_PX_COPY_ASYM i, 31, 0⟩
def TW_INT_STAT_state_chg : FRef := ⟨TW_INT_STAT, 0, 0⟩
def TW_INT_STAT_takeover : FRef := ⟨TW_INT_STAT, 1, 1⟩
def TW_INT_STAT_released : FRef := ⟨TW_INT_STAT, 2, 2⟩
def TW_INT_STAT_mon_lasting : FRef := ⟨TW_INT_STAT, 3, 3⟩
def TW_INT_STAT_mon_undecided : FRef := ⟨TW_INT_STAT, 4, 4⟩
def TW_INT_STAT_gal_transient : FRef := ⟨TW_INT_STAT, 5, 5⟩
def TW_INT_STAT_gal_lasting : FRef := ⟨TW_INT_STAT, 6, 6⟩
def TW_INT_STAT_hb_lost : FRef := ⟨TW_INT_STAT, 7, 7⟩
def TW_INT_STAT_resync_done : FRef := ⟨TW_INT_STAT, 8, 8⟩
def TW_INT_STAT_cfg_mismatch : FRef := ⟨TW_INT_STAT, 9, 9⟩
def TW_INT_STAT_split_brain : FRef := ⟨TW_INT_STAT, 10, 10⟩
def TW_INT_STAT_partner_absent : FRef := ⟨TW_INT_STAT, 11, 11⟩
def FU_STAT_state : FRef := ⟨FU_STAT, 3, 0⟩
def FU_STAT_last_result : FRef := ⟨FU_STAT, 7, 4⟩
def FU_STAT_trial : FRef := ⟨FU_STAT, 8, 8⟩
def FU_STAT_running_slot : FRef := ⟨FU_STAT, 9, 9⟩
def FU_STAT_otp_pending : FRef := ⟨FU_STAT, 10, 10⟩
def FU_STAT_recovery : FRef := ⟨FU_STAT, 11, 11⟩
def FU_STAT_boots : FRef := ⟨FU_STAT, 13, 12⟩
def FU_STAT_progress : FRef := ⟨FU_STAT, 23, 16⟩
def FU_OTP_svn : FRef := ⟨FU_OTP, 6, 0⟩
def FU_OTP_key0_revoked : FRef := ⟨FU_OTP, 8, 8⟩
def FU_VER_RUN_release : FRef := ⟨FU_VER_RUN, 31, 0⟩
def FU_VER_OTHER_release : FRef := ⟨FU_VER_OTHER, 31, 0⟩
def FU_SVN_SLOTS_svn_a : FRef := ⟨FU_SVN_SLOTS, 6, 0⟩
def FU_SVN_SLOTS_valid_a : FRef := ⟨FU_SVN_SLOTS, 7, 7⟩
def FU_SVN_SLOTS_svn_b : FRef := ⟨FU_SVN_SLOTS, 14, 8⟩
def FU_SVN_SLOTS_valid_b : FRef := ⟨FU_SVN_SLOTS, 15, 15⟩
def FU_INT_STAT_verify_done : FRef := ⟨FU_INT_STAT, 0, 0⟩
def FU_INT_STAT_verify_fail : FRef := ⟨FU_INT_STAT, 1, 1⟩
def FU_INT_STAT_activated : FRef := ⟨FU_INT_STAT, 2, 2⟩
def FU_INT_STAT_reverted : FRef := ⟨FU_INT_STAT, 3, 3⟩
def FU_INT_STAT_confirmed : FRef := ⟨FU_INT_STAT, 4, 4⟩
def FU_INT_STAT_otp_fail : FRef := ⟨FU_INT_STAT, 5, 5⟩
def FU_INT_STAT_staging_discard : FRef := ⟨FU_INT_STAT, 6, 6⟩
def FU_INT_STAT_flash_fail : FRef := ⟨FU_INT_STAT, 7, 7⟩
def HL_STAT_self_ok : FRef := ⟨HL_STAT, 0, 0⟩
def HL_STAT_held : FRef := ⟨HL_STAT, 1, 1⟩
def HL_STAT_temp_warn : FRef := ⟨HL_STAT, 2, 2⟩
def HL_STAT_temp_crit : FRef := ⟨HL_STAT, 3, 3⟩
def HL_STAT_supply_fault : FRef := ⟨HL_STAT, 4, 4⟩
def HL_STAT_spares_low : FRef := ⟨HL_STAT, 5, 5⟩
def HL_STAT_repair_busy : FRef := ⟨HL_STAT, 6, 6⟩
def HL_INT_STAT_lasting : FRef := ⟨HL_INT_STAT, 0, 0⟩
def HL_INT_STAT_repaired : FRef := ⟨HL_INT_STAT, 1, 1⟩
def HL_INT_STAT_retired : FRef := ⟨HL_INT_STAT, 2, 2⟩
def HL_INT_STAT_spares_low : FRef := ⟨HL_INT_STAT, 3, 3⟩
def HL_INT_STAT_temp_warn : FRef := ⟨HL_INT_STAT, 4, 4⟩
def HL_INT_STAT_temp_crit : FRef := ⟨HL_INT_STAT, 5, 5⟩
def HL_INT_STAT_supply_fault : FRef := ⟨HL_INT_STAT, 6, 6⟩
def HL_INT_STAT_cal_fail : FRef := ⟨HL_INT_STAT, 7, 7⟩
def HL_INT_STAT_log_lost : FRef := ⟨HL_INT_STAT, 8, 8⟩
def HL_CNT_TRANSIENT_count : FRef := ⟨HL_CNT_TRANSIENT, 31, 0⟩
def HL_CNT_LASTING_count : FRef := ⟨HL_CNT_LASTING, 31, 0⟩
def HL_CTRL_log_transient : FRef := ⟨HL_CTRL, 0, 0⟩
def HL_ESC_count : FRef := ⟨HL_ESC, 3, 0⟩
def HL_ESC_window_h : FRef := ⟨HL_ESC, 15, 8⟩
def HL_CAL_CFG_tdc_k : FRef := ⟨HL_CAL_CFG, 7, 0⟩
def HL_CAL_CFG_tdc_period_h : FRef := ⟨HL_CAL_CFG, 23, 8⟩
def HL_CAL_CFG_auto : FRef := ⟨HL_CAL_CFG, 24, 24⟩
def HL_CAL_CFG_ev_auto : FRef := ⟨HL_CAL_CFG, 25, 25⟩
def HL_WDOG_restarts : FRef := ⟨HL_WDOG, 15, 0⟩
def HL_WDOG_last_cause : FRef := ⟨HL_WDOG, 19, 16⟩
def HL_LOG_backlog : FRef := ⟨HL_LOG, 8, 0⟩
def HL_LOG_lost : FRef := ⟨HL_LOG, 31, 16⟩
def HL_SPARE_used (i : Nat) : FRef := ⟨HL_SPARE i, 15, 0⟩
def HL_SPARE_retired (i : Nat) : FRef := ⟨HL_SPARE i, 31, 16⟩
def HL_TEMP_now (i : Nat) : FRef := ⟨HL_TEMP i, 15, 0⟩
def HL_TEMP_max (i : Nat) : FRef := ⟨HL_TEMP i, 31, 16⟩
def HL_TEMP_THR_warn (i : Nat) : FRef := ⟨HL_TEMP_THR i, 15, 0⟩
def HL_TEMP_THR_crit (i : Nat) : FRef := ⟨HL_TEMP_THR i, 31, 16⟩
def HL_SUPPLY_now (i : Nat) : FRef := ⟨HL_SUPPLY i, 15, 0⟩
def HL_SUPPLY_max (i : Nat) : FRef := ⟨HL_SUPPLY i, 31, 16⟩
def HL_SUPPLY_THR_low (i : Nat) : FRef := ⟨HL_SUPPLY_THR i, 15, 0⟩
def HL_SUPPLY_THR_high (i : Nat) : FRef := ⟨HL_SUPPLY_THR i, 31, 16⟩
def HL_RAIL_OK_ok : FRef := ⟨HL_RAIL_OK, 15, 0⟩
def PM_CTRL_run : FRef := ⟨PM_CTRL, 0, 0⟩
def PM_CTRL_mp_hist : FRef := ⟨PM_CTRL, 1, 1⟩
def PM_USER_EN_en : FRef := ⟨PM_USER_EN, 0, 0⟩
def PM_INT_STAT_trace_full : FRef := ⟨PM_INT_STAT, 0, 0⟩
def PM_INT_STAT_trace_rec : FRef := ⟨PM_INT_STAT, 1, 1⟩
def PM_TAG_CFG_k : FRef := ⟨PM_TAG_CFG, 4, 0⟩
def PM_TAG_CFG_wrap : FRef := ⟨PM_TAG_CFG, 8, 8⟩
def PM_TAG_CFG_enable : FRef := ⟨PM_TAG_CFG, 9, 9⟩
def PM_TRACE_STAT_count : FRef := ⟨PM_TRACE_STAT, 8, 0⟩
def PM_TRACE_STAT_next : FRef := ⟨PM_TRACE_STAT, 23, 16⟩
def PM_TRACE_STAT_lost : FRef := ⟨PM_TRACE_STAT, 31, 24⟩
def PM_SEL_event (i : Nat) (j : Nat) : FRef := ⟨PM_SEL i j, 7, 0⟩
def PM_CNT_HI_hi (i : Nat) (j : Nat) : FRef := ⟨PM_CNT_HI i j, 15, 0⟩
def PM_SNAP_CNT_HI_hi (i : Nat) (j : Nat) : FRef := ⟨PM_SNAP_CNT_HI i j, 15, 0⟩
def PM_BW_CFG_window_us (i : Nat) : FRef := ⟨PM_BW_CFG i, 19, 0⟩
def PM_BW_CFG_line_mode (i : Nat) : FRef := ⟨PM_BW_CFG i, 20, 20⟩
def PM_BW_CFG_step (i : Nat) : FRef := ⟨PM_BW_CFG i, 31, 31⟩
def PM_BW_RX_octets4 (i : Nat) : FRef := ⟨PM_BW_RX i, 31, 0⟩
def PM_BW_TX_octets4 (i : Nat) : FRef := ⟨PM_BW_TX i, 31, 0⟩
def PM_BW_PEAK_rx_peak (i : Nat) : FRef := ⟨PM_BW_PEAK i, 15, 0⟩
def PM_BW_PEAK_tx_peak (i : Nat) : FRef := ⟨PM_BW_PEAK i, 31, 16⟩
def SYS_MSIX_CTRL_mask (i : Nat) : FRef := ⟨SYS_MSIX_CTRL i, 0, 0⟩
def GT_TREAD_DUR_duration (i : Nat) (j : Nat) : FRef := ⟨GT_TREAD_DUR i j, 29, 0⟩
def GT_TREAD_DUR_mark (i : Nat) (j : Nat) : FRef := ⟨GT_TREAD_DUR i j, 31, 31⟩
def GT_TREAD_GATES_gates (i : Nat) (j : Nat) : FRef := ⟨GT_TREAD_GATES i j, 7, 0⟩
def GT_TAQ_ADDR_addr (i : Nat) : FRef := ⟨GT_TAQ_ADDR i, 25, 0⟩
def GT_TAQ_SEC_sec_lo (i : Nat) : FRef := ⟨GT_TAQ_SEC i, 31, 0⟩
def GT_TAQ_NS_ns (i : Nat) : FRef := ⟨GT_TAQ_NS i, 31, 0⟩
def GT_TAQ_W5_frac (i : Nat) : FRef := ⟨GT_TAQ_W5 i, 15, 0⟩
def GT_TAQ_W5_sec_hi (i : Nat) : FRef := ⟨GT_TAQ_W5 i, 31, 16⟩
def GT_TAQ_TAG_group (i : Nat) : FRef := ⟨GT_TAQ_TAG i, 15, 0⟩
def GT_TAQ_TAG_late_drop (i : Nat) : FRef := ⟨GT_TAQ_TAG i, 16, 16⟩
def GT_TAQ_TAG_suspect_drop (i : Nat) : FRef := ⟨GT_TAQ_TAG i, 17, 17⟩
def GT_TAQ_STATE_state (i : Nat) : FRef := ⟨GT_TAQ_STATE i, 2, 0⟩
def GT_TAQ_XSEC_x_sec_lo (i : Nat) : FRef := ⟨GT_TAQ_XSEC i, 31, 0⟩
def GT_TAQ_XNS_x_ns (i : Nat) : FRef := ⟨GT_TAQ_XNS i, 31, 0⟩
def GT_TAQ_XW2_x_frac (i : Nat) : FRef := ⟨GT_TAQ_XW2 i, 15, 0⟩
def GT_TAQ_XW2_x_suspect (i : Nat) : FRef := ⟨GT_TAQ_XW2 i, 16, 16⟩
def OU_RAMP_DUR_duration_ms (i : Nat) (j : Nat) : FRef := ⟨OU_RAMP_DUR i j, 23, 0⟩
def EV_RES_SEC_sec_lo (i : Nat) : FRef := ⟨EV_RES_SEC i, 31, 0⟩
def EV_RES_W2_sec_hi (i : Nat) : FRef := ⟨EV_RES_W2 i, 15, 0⟩
def EV_RES_W2_frac (i : Nat) : FRef := ⟨EV_RES_W2 i, 31, 16⟩
def EV_RES_NS_ns (i : Nat) : FRef := ⟨EV_RES_NS i, 29, 0⟩
def EV_RES_MAG_LO_mag_lo (i : Nat) (j : Nat) : FRef := ⟨EV_RES_MAG_LO i j, 31, 0⟩
def EV_RES_MAG_HI_mag_hi (i : Nat) (j : Nat) : FRef := ⟨EV_RES_MAG_HI i j, 15, 0⟩
def EV_RES_MAG_HI_sign (i : Nat) (j : Nat) : FRef := ⟨EV_RES_MAG_HI i j, 16, 16⟩
def EV_RES_MAG_HI_coincident (i : Nat) (j : Nat) : FRef := ⟨EV_RES_MAG_HI i j, 17, 17⟩
def EV_RES_MAG_HI_missing (i : Nat) (j : Nat) : FRef := ⟨EV_RES_MAG_HI i j, 18, 18⟩
def SC_CPUQ_RING_CFG_enable (i : Nat) : FRef := ⟨SC_CPUQ_RING_CFG i, 0, 0⟩
def SC_CPUQ_RING_CFG_size_log2 (i : Nat) : FRef := ⟨SC_CPUQ_RING_CFG i, 4, 1⟩
def SC_CPUQ_RING_HEAD_head (i : Nat) : FRef := ⟨SC_CPUQ_RING_HEAD i, 11, 0⟩
def SC_CPUQ_RING_TAIL_idle (i : Nat) : FRef := ⟨SC_CPUQ_RING_TAIL i, 16, 16⟩
def SC_TXR_CFG_enable (i : Nat) : FRef := ⟨SC_TXR_CFG i, 0, 0⟩
def SC_TXR_CFG_size_log2 (i : Nat) : FRef := ⟨SC_TXR_CFG i, 4, 1⟩
def SC_TXR_HEAD_head (i : Nat) : FRef := ⟨SC_TXR_HEAD i, 11, 0⟩
def SC_TXR_TAIL_idle (i : Nat) : FRef := ⟨SC_TXR_TAIL i, 16, 16⟩

end Sys2Proof.Machine
end

