-- ==== Sys2Proof/Machine/Tab.lean ====
section
/-! DEFINITION. Sparse tables: a list of (key, value) pairs in one canonical form, keys strictly rising and no entry equal to
what an unlisted key reads as. The register file, the FT tables and the memories of the block are held this way, so that
equal contents are equal data. -/

namespace Sys2Proof.Machine

/-- A sparse table. -/
abbrev Tab (α : Type) := List (Nat × α)

/-- The value at key `k`; an unlisted key reads as `d`. -/
def Tab.get {α : Type} (d : α) : Tab α → Nat → α
  | [], _ => d
  | (k, v) :: t, q => if k = q then v else Tab.get d t q

/-- The table without key `q`. -/
def Tab.drop {α : Type} : Tab α → Nat → Tab α
  | [], _ => []
  | (k, v) :: t, q => if k = q then Tab.drop t q else (k, v) :: Tab.drop t q

/-- The table with (q, w) placed before the first larger key. -/
def Tab.place {α : Type} : Tab α → Nat → α → Tab α
  | [], q, w => [(q, w)]
  | (k, v) :: t, q, w => if q < k then (q, w) :: (k, v) :: t else (k, v) :: Tab.place t q w

/-- Write `w` at key `q`, where an unlisted `q` reads as `d`: writing `d` removes the entry. -/
def Tab.put {α : Type} [DecidableEq α] (d : α) (t : Tab α) (q : Nat) (w : α) : Tab α :=
  if w = d then Tab.drop t q else Tab.place (Tab.drop t q) q w

/-- Every key of the table is above `lo`, and keys rise strictly. -/
def Tab.rises {α : Type} : Option Nat → Tab α → Bool
  | _, [] => true
  | lo, (k, _) :: t => (match lo with | none => true | some m => decide (m < k)) && Tab.rises (some k) t

/-- The canonical form: keys strictly rising, no entry equal to what its key reads as unlisted. -/
def Tab.wf {α : Type} [DecidableEq α] (d : Nat → α) (t : Tab α) : Bool :=
  Tab.rises none t && t.all fun e => decide (e.2 ≠ d e.1)

end Sys2Proof.Machine
end

