-- ==== Sys2Proof/Machine/State.lean ====
section
/-! DEFINITION. The state of the block, as plain data. Registers live in one sparse register file (`regs`), every address
reading as its reset value until something else is written; what the spec gives the block beside its registers lives in one
record for each subsystem. -/

namespace Sys2Proof.Machine

/-- No command of this block ends in a fault: the type has no value. -/
inductive Fault where
deriving DecidableEq, Repr

/-- Refusals. `notModelled` is raised by an arm of `exec` whose command has no meaning yet (safe). -/
inductive Refusal where
  | notModelled (mnemonic : String)
deriving DecidableEq, Repr

/-- The two variants (R1). -/
inductive Variant where
  | fh4848 | fh4824
deriving DecidableEq, Repr

/-- What the block has sent to the outside world: the model's own record of its outputs, newest first (log entry 3). -/
inductive Sent where
  /-- Completion of a read; no data stands for Unsupported Request (R53). -/
  | readData (m : Master) (addr : Nat) (data : Option Word)
  /-- A PCIe write dropped as Unsupported Request (R53). -/
  | writeUr (addr : Nat)
  /-- The bytes of one MSP response on MSP_SDO (R42). -/
  | msp (b : Bytes)
  /-- An MSI-X message: vector, address, data (R59). -/
  | msix (vector : Nat) (addr : Nat) (data : Word)
  /-- A write to host memory by DMA (R41). -/
  | dma (addr : Nat) (b : Bytes)
  /-- A frame on port `p`, without FCS; `good` is false where its FCS is inverted (R99). -/
  | frame (p : Nat) (b : Bytes) (good : Bool)
  /-- A gallery frame on a gallery lane, and the bytes that it is there (R388). -/
  | gal (lane : Nat) (f : GalFrame) (b : Bytes)
  /-- Port `p` begins or ceases to send remote-fault ordered sets (R100). -/
  | remoteFault (p : Nat) (on : Bool)
  /-- A ToD message (R267). -/
  | tod (b : Bytes)
  /-- A PTP message of the MP's stack on port `p`, with its transport header and ts_id (R263). -/
  | ptp (p : Nat) (b : Bytes)
  /-- Output `o` restarts: its first rising edge at the balls comes so many DCO periods after its channel's common edge (R353, R354). -/
  | clock (o : Nat) (after : Rat)
  /-- A pulse of generator `o`: leading edge falling, width in ns (R358). -/
  | pulse (o : Nat) (falling : Bool) (width : Nat)
  /-- A PAUSE or PFC frame on port `p` (R201): classes, quanta. -/
  | pause (p : Nat) (pfc : Bool) (cls quanta : Nat)
deriving DecidableEq, Repr

/-- TB: 48-bit seconds, nanoseconds below 10⁹, and 32 bits of fraction of a nanosecond (R242). -/
structure Time where
  sec : Nat
  ns : Nat
  frac : Nat
deriving DecidableEq, Repr

/-- Supplies, resets and straps (R46, R481 to R491). -/
structure Power where
  /-- VIN is within its running range. -/
  vin : Bool
  /-- VIN has been lost to overvoltage and not fallen below 61.5 V since (R481). -/
  tripped : Bool
  /-- V3P3_OUT is on (R484). -/
  v3p3 : Bool
  /-- The VKEEP domain runs. -/
  keep : Bool
  /-- The module is in module reset. -/
  inReset : Bool
  /-- The PCIe core is in reset. -/
  pcieReset : Bool
  /-- PERST# is low. -/
  perst : Bool
  /-- PWR_OK is high. -/
  pwrOk : Bool
  /-- The oven has reached temperature since power-up and is monitored (R489). -/
  ovenWatched : Bool
  /-- The TWIN_SEAT strap reads seat B. -/
  seatB : Bool
  /-- The action of the root's lasting fault has been taken for this loss of lock (R32). -/
  rootDone : Bool
deriving DecidableEq, Repr

/-- The PCIe side of the host port, the guards and the interrupt vectors (R56, R59, R60). -/
structure HostPort where
  guardPcie : Bool
  guardMsp : Bool
  /-- Vectors that are not armed, rising. -/
  disarmed : List Nat
  /-- Vectors whose holdoff runs, rising. -/
  holding : List Nat
  /-- Configuration space: MSI-X enable, function mask, power state D3hot. -/
  msixEnable : Bool
  funcMask : Bool
  d3hot : Bool
  /-- The other fields of the configuration space (R39). -/
  cfg : PcieCfg
  /-- The link: generation and lanes; 0 and 0 while it is down (R39). -/
  linkGen : Nat
  linkWidth : Nat
  /-- WO1 fields written since reset: address and lowest bit (R55). -/
  woWritten : List (Nat × Nat)
deriving DecidableEq, Repr

/-- A mailbox request as the MP has read it (R63). -/
structure MbReq where
  opcode : Nat
  seq : Nat
  flags : Nat
  epoch : Nat
  crc : Nat
  payload : Bytes
deriving DecidableEq, Repr

/-- What a mailbox holds beside its registers (R62 to R69). -/
structure Mbox where
  /-- The request TAKEN, complete, whose opcode has yet to be executed or answered. -/
  taken : Option MbReq
  /-- The request TAKEN is being executed: its answer comes with a later event. -/
  waiting : Bool
  /-- The PCIe side was reset while TAKEN: the answer is discarded (R47). -/
  discard : Bool
  /-- The segments received so far: opcode, sequence, epoch, bytes, how many (R68). -/
  segs : Option (Nat × Nat × Nat × Bytes × Nat)
  /-- The last completed request and its stored response (R67). -/
  last : Option (Nat × Nat × Nat × Nat × Bytes)
  /-- The request last answered BUSY, and the core clock before which its repeat answers BUSY again (R69). -/
  busy : Option (Nat × Nat × Nat × Nat)
deriving DecidableEq, Repr

/-- An empty mailbox. -/
def Mbox.empty : Mbox := ⟨none, false, false, none, none, none⟩

/-- The management processor (R29). -/
structure Mp where
  hung : Bool
  restarting : Bool
  /-- mp_running has read 1 since module reset (R125). -/
  booted : Bool
  /-- Core clock of the last start. -/
  startClk : Nat
  /-- Mailboxes whose request has not been answered, in the order of their doorbells (R71). -/
  order : List Nat
deriving DecidableEq, Repr

/-- What the one-time-programmable memory of this unit holds beside its security version: serial number (R5), and the hashes of
key 0 and key 1 (R424). -/
structure UnitData where
  serial : Nat
  key0 : Bytes
  key1 : Bytes
deriving DecidableEq, Repr

/-- A firmware slot in the NOR (R418): its header, none while it is erased, and its image. The image that the factory has put into a
slot is not given byte by byte: `factory` stands for its hash and signature (log entry 18). -/
structure FwSlot where
  header : Option Bytes
  image : Bytes
  factory : Bool
deriving DecidableEq, Repr

/-- A valid slot pointer record (R427): slots are 0 and 1, the recovery loader 0xFF. -/
structure PtrRec where
  gen : Nat
  active : Nat
  trial : Bool
  boots : Nat
  fallback : Nat
  window : Nat
  result : Nat
deriving DecidableEq, Repr

/-- A block of the staging area (R421): recorded CRC, data once programmed, received mark. -/
structure FwBlock where
  crc : Nat
  data : Option Bytes
  received : Bool
deriving DecidableEq, Repr

/-- A record of the settings store (R433): schema, generation, and the register words it keeps. -/
structure SetRec where
  schema : Nat
  gen : Nat
  data : Tab Word
deriving DecidableEq, Repr

/-- The firmware update (R418 to R444): what the module NOR and the OTP hold of it, and what is under way. -/
structure Fu where
  slotA : FwSlot
  slotB : FwSlot
  ptr0 : Option PtrRec
  ptr1 : Option PtrRec
  /-- The staged header; the blocks; the update state that the NOR keeps (R426). -/
  staged : Option Bytes
  blocks : Tab (Option FwBlock)
  upd : Nat
  /-- The slot that holds the running image; 0xFF is the recovery loader. -/
  running : Nat
  /-- OTP: security version, key 0 revoked (R423, R424). -/
  otp : Nat
  revoked : Bool
  /-- Records of the settings store. -/
  store : List SetRec
  /-- The window asked for by a handover under way, and the core clock at which its pause began (R430). -/
  act : Option Nat
  pause : Option Nat
  /-- 100 ms run towards a module reset (R429), and towards a revert (R444). -/
  resetDue : Bool
  revertDue : Bool
  /-- Core clock of the start of the trial image (R434). -/
  trialClk : Nat
deriving DecidableEq, Repr

/-- A fault log record (R463). -/
structure LogRec where
  sec : Nat
  ns : Nat
  code : Nat
  cls : Nat
  inst : Nat
  row : Nat
  detail : Nat
  suspect : Bool
  /-- Made while the MP was stopped. -/
  late : Bool
  num : Nat
deriving DecidableEq, Repr

/-- A loop-back test in progress (R461): mailbox, target kind, depth, index, peer, and the register values to restore. -/
structure LoopTest where
  mb : Nat
  kind : Nat
  depth : Nat
  index : Nat
  peer : Nat
  saved : List (Nat × Word)
deriving DecidableEq, Repr

/-- The health unit beside its registers (R445 to R463). -/
structure Health where
  /-- Faults held: source code and instance (R446). -/
  held : List (Nat × Nat)
  /-- Causes present of faults that can be held. -/
  causes : List (Nat × Nat)
  /-- Transient faults still inside the escalation window: code, instance, row, core clock (R445). -/
  recent : List (Nat × Nat × Nat × Nat)
  /-- Records waiting for the MP, oldest first (R463). -/
  buf : List LogRec
  /-- Records in the NOR, oldest first. -/
  nor : List LogRec
  /-- The number of the next record. -/
  nextNum : Nat
  /-- Counts since the MP started (R472): transient, lasting. -/
  sinceStart : Nat × Nat
  /-- Rows served by a spare row: group, bank, row (R449). -/
  spares : List (Nat × Nat × Nat)
  /-- Retired rows: group, bank, row (R450). -/
  retired : List (Nat × Nat × Nat)
  /-- The repair queue, oldest first (R450). -/
  queue : List (Nat × Nat × Nat)
  /-- DRAM rows recorded for hard repair, and the banks whose hard resource is used (R452). -/
  hardWait : List (Nat × Nat)
  hardDone : List Nat
  /-- TDC targets whose automatic calibration has stopped, and those whose calibration is being retried (R456). -/
  calStopped : List Nat
  calRetry : List Nat
  /-- Lid temperature and core clock of the last calibration of each TDC target (R456). -/
  calAt : Tab (Int × Nat)
  /-- The TDC target under calibration by HL, if any. -/
  calBusy : Option Nat
  test : Option LoopTest
  /-- I²C transfers in progress: bus, mailbox (R472). -/
  i2c : List (Nat × Nat)
  /-- Core clocks of watchdog restarts (R462). -/
  wdog : List Nat
  /-- Sensors and supplies whose last sample was out of limits (R459, R460). -/
  hot : List Nat
  off : List Nat
  /-- Lanes marked degraded, and the core clock of each lane's last repair (R445). -/
  degraded : List Nat
  repairedAt : Tab Nat
  /-- The MP's 64-bit delay histogram totals: key 16 × queue + bin (R472). -/
  hist : Tab Nat
  /-- Rows of MP SRAM that hold code and whose repair is queued: bank, row. The MP restarts when one is repaired (R451). -/
  codeRows : List (Nat × Nat)
  /-- A retired row of MP SRAM lies in the load section: every later start boots the recovery loader (R450). -/
  badCode : Bool
deriving DecidableEq, Repr

/-- Octets and frames of a port in its current bandwidth window (R466). -/
structure Bandwidth where
  rx : Nat
  tx : Nat
  rxFrames : Nat
  txFrames : Nat
deriving DecidableEq, Repr

/-- Where a lane stands after a loss of block lock (R84): no loss, being retried, lock returned and not yet stable, lasting. -/
inductive Loss where
  | none | retry | returned | lasting
deriving DecidableEq, Repr

/-- A lane beside its registers. -/
structure Lane where
  loss : Loss
  /-- A write of LN_RESET waits for the frame boundary (R109). -/
  resetReq : Bool
  inReset : Bool
  /-- HL calibrates the receiver once a signal is there (R445). -/
  calWanted : Bool
  /-- The equaliser taps last applied were reduced (R88). -/
  tapsCut : Bool
  /-- Block lock has been lost and has not come back: the port has a local fault (R81). Lane 4b tells it for port 4b. -/
  lost : Bool
deriving DecidableEq, Repr

/-- A lane with no loss and no reset. -/
def Lane.quiet : Lane := ⟨.none, false, false, false, false, false⟩

/-- A port beside its registers. -/
structure Port where
  /-- link_down has been raised and link_up not since (R84). -/
  down : Bool
  /-- A received PAUSE is in force; the classes a received PFC holds (R101). -/
  pauseAll : Bool
  pfc : Nat
  /-- Alignment has been lost (R81). -/
  alignLost : Bool
  /-- The port sends remote-fault ordered sets (R100). -/
  sendsFault : Bool
deriving DecidableEq, Repr

/-- A port at rest. -/
def Port.quiet : Port := ⟨false, false, 0, false, false⟩

/-- An FT entry or record: four words (R142). -/
structure Ent where
  w0 : Word
  w1 : Word
  w2 : Word
  w3 : Word
deriving DecidableEq, Repr

/-- An entry of zeros. -/
def Ent.zero : Ent := ⟨0, 0, 0, 0⟩

/-- One copy of a frame: its egress queue, the next-hop record that edits it, and what a CPU queue's descriptor tells of it
(R123, R145, R188). A copy for a Class T FIFO names index 424 + p. -/
structure Copy where
  q : Nat
  nh : Option Nat
  reason : Nat
  detail : Nat
deriving DecidableEq, Repr

/-- What a tagged frame records (R467): the core clock of S0, the clocks from S0 to S1 to S5 reached so far, the hash index, and
the logical mezzanine of its first cell. -/
structure Trace where
  s0 : Nat
  d1 : Option Nat
  d2 : Option Nat
  d3 : Option Nat
  d4 : Option Nat
  hash : Nat
  mezz : Nat
deriving DecidableEq, Repr

/-- A frame in the module. -/
structure Pkt where
  /-- The frame from its destination address, without FCS; its length with FCS (R97). -/
  bytes : Bytes
  len : Nat
  /-- Its last cell carries the error mark (R99). -/
  err : Bool
  /-- Ingress port; 48 is bay 12. -/
  port : Nat
  ts : Time
  suspect : Bool
  /-- TB_STEP_CNT when its ingress timestamp was taken (R258). -/
  steps : Nat
  /-- 1 on the second pass; banks; version of the rule bank; what recirculation carries (R136). -/
  pass : Nat
  /-- The peer of the cross-connect that was enabled at its reception (R96). -/
  xc : Option Nat
  /-- The class of its transmit descriptor (R189). -/
  defTc : Nat
  gr : Nat
  rs : Nat
  rsVer : Word
  recircTag : Nat
  since : Nat
  /-- What the walk gave (R113, R114, R128): Class T, sys_class, clause and header start of each level, places of the outer
  tag's TCI and of the top label, and slots 21 and 22. -/
  classT : Bool
  sysClass : Nat
  levels : List (Nat × Nat)
  tagAt : Option Nat
  labelAt : Option Nat
  etherAt : Option Nat
  ptpWords : Word × Word
  verb : Word
  tc : Nat
  colour : Nat
  /-- The snapshot (R147). -/
  vlan : Ent
  mac : Ent
  flow : Ent
  label : Ent
  member : Option Nat
  epoch : Option Nat
  /-- The label entry decided the destination and edits the frame. -/
  labelled : Bool
  sched : Bool
  /-- The module sends the frame on its own behalf: the MP (R263); ts_id where a transmit timestamp is asked for (R260). -/
  fromMp : Bool
  tsReq : Option Nat
  /-- A PING, or a PONG where true, of PX with its sequence number (R287). -/
  fpl : Option (Nat × Bool)
  copies : List Copy
  /-- The multicast group record that replication reads (R147). -/
  group : Option Nat
  /-- More than one copy was made (R197). -/
  multi : Bool
  /-- A late length check is due, and its outcome (R119). -/
  lateDue : Bool
  lateBad : Bool
  trace : Option Trace
  /-- Path through the halls: ingress bay, egress bay, space, first sequence number, cells. -/
  src : Nat
  dst : Nat
  space : Nat
  seq0 : Nat
  n : Nat
  /-- Stored: 0 not, 1 in SRAM, 2 in DBM; copies that still hold it; every cell stored. -/
  store : Nat
  refs : Nat
  whole : Bool
  /-- The pointers of the cells that hold it; whether the egress side has fetched it from DBM (R184, R186). -/
  ptrs : List Nat
  fetched : Bool
  /-- A scheduled frame that its release instant has not reached (R209). -/
  early : Bool
  /-- Ports that transmit it while its cells still arrive, with the bytes they send (R186). -/
  tx : List (Nat × Bytes)
deriving DecidableEq, Repr

/-- No frame. -/
def Pkt.none : Pkt where
  bytes := []
  len := 0
  err := false
  port := 0
  ts := ⟨0, 0, 0⟩
  suspect := false
  steps := 0
  pass := 0
  xc := Option.none
  defTc := 0
  gr := 0
  rs := 0
  rsVer := 0
  recircTag := 0
  since := 0
  classT := false
  sysClass := 0
  levels := []
  tagAt := Option.none
  labelAt := Option.none
  etherAt := Option.none
  ptpWords := (0, 0)
  verb := 0
  tc := 0
  colour := 0
  vlan := Ent.zero
  mac := Ent.zero
  flow := Ent.zero
  label := Ent.zero
  member := Option.none
  epoch := Option.none
  labelled := false
  sched := false
  fromMp := false
  tsReq := Option.none
  fpl := Option.none
  copies := []
  group := Option.none
  multi := false
  lateDue := false
  lateBad := false
  trace := Option.none
  src := 0
  dst := 0
  space := 0
  seq0 := 0
  n := 0
  store := 0
  refs := 0
  whole := false
  ptrs := []
  fetched := false
  early := false
  tx := []

/-- A cell of a frame (R173): frame, place in it, last mark, ingress and egress bay, sequence space (0 ordinary, 1 urgent, 2
scheduled) and number. -/
structure Cell where
  id : Nat
  idx : Nat
  last : Bool
  src : Nat
  dst : Nat
  space : Nat
  seq : Nat
deriving DecidableEq, Repr

/-- A swap of a logical position onto the spare (R179): position, old and new mezzanine, and whether its slot pattern boundary
has come. -/
structure MezzSwap where
  pos : Nat
  old : Nat
  new : Nat
  started : Bool
deriving DecidableEq, Repr

/-- A PAUSE or PFC frame to be sent (R201): PFC or PAUSE, classes, quanta. -/
structure FlowFrame where
  pfc : Bool
  cls : Nat
  quanta : Nat
deriving DecidableEq, Repr

/-- The switch core beside its registers (R172 to R212). -/
structure Switch where
  /-- Frames in the module, and the number of the next one. -/
  frames : Tab Pkt
  nextId : Nat
  /-- Frames in the two ingress pipelines, oldest first. -/
  pipe : List Nat
  /-- Cells in each bay ingress, oldest first, and its rotation over egress bays. -/
  ingress : Tab (List Cell)
  rot : Tab Nat
  /-- Cells in each physical mezzanine, oldest first. -/
  mezz : Tab (List Cell)
  /-- Physical mezzanine of each logical position; the free spare. -/
  map : List Nat
  spare : Option Nat
  swap : Option MezzSwap
  slot : Nat
  /-- Next number to give and next number expected, by (ingress bay × 16 + egress bay) × 3 + space. -/
  seqOut : Tab Nat
  seqIn : Tab Nat
  /-- Cells each landing holds. -/
  land : Tab (List Cell)
  /-- Queues, CPU queues, recirculation queues and Class T FIFOs by index: frame and core clock of admission. -/
  queues : Tab (List (Nat × Nat))
  /-- RED averages, DWRR deficits, and for each server the queue it visits and whether its weight has been added. -/
  avg : Tab Int
  deficit : Tab Nat
  visit : Tab (Nat × Bool)
  /-- The frame each port transmits while its cells still arrive. -/
  sending : Tab (Option Nat)
  dbmUsed : Nat
  /-- Store cells held by frames of ingress port p and class t, by 8p + t (R201); the classes above xoff, bit 8 for PAUSE;
  flow control frames to send. -/
  heldCells : Tab Nat
  above : Tab Nat
  flowOut : Tab (List FlowFrame)
  /-- Frames since the last balcony sample, by 2p + direction (R206). -/
  sampled : Tab Nat
  /-- The transmit ring to serve next (R203). -/
  txTurn : Nat
deriving DecidableEq, Repr

/-- The switch core after reset. -/
def Switch.reset : Switch where
  frames := []
  nextId := 0
  pipe := []
  ingress := []
  rot := []
  mezz := []
  map := [0, 1, 2, 3, 4, 5, 6, 7, 8, 9, 10, 11, 12, 13, 14, 15]
  spare := some 16
  swap := none
  slot := 0
  seqOut := []
  seqIn := []
  land := []
  queues := []
  avg := []
  deficit := []
  visit := []
  sending := []
  dbmUsed := 0
  heldCells := []
  above := []
  flowOut := []
  sampled := []
  txTurn := 0

/-- A swap of a grammar or rule bank that waits or is being applied (R134): bank, core clock of the write, ports that have
applied it, and whether the first has. -/
structure BankSwap where
  bank : Nat
  at' : Nat
  done : List Nat
  started : Bool
deriving DecidableEq, Repr

/-- The parser beside its registers (R134, R135): swaps of each kind in order, the bank each port uses, the old bank, and clauses
and rules that fail with a lasting parity fault (bank × 64 + clause, bank × 2048 + rule). -/
structure Parser where
  grSwap : List BankSwap
  rsSwap : List BankSwap
  grOf : Tab Nat
  rsOf : Tab Nat
  grOld : Nat
  rsOld : Nat
  badClause : List Nat
  badRule : List Nat
deriving DecidableEq, Repr

/-- An event in the learn queue (R157, R162): kind 0 LEARN, 1 REFRESH, 2 destination refresh; FID, address, and the port
identity as a destination word. -/
structure LearnEv where
  kind : Nat
  fid : Nat
  mac : Nat
  ident : Nat
deriving DecidableEq, Repr

/-- A learn delta (R160): FID, address, and the entry as it now stands; an invalid entry stands for a removal. -/
structure Delta where
  fid : Nat
  mac : Nat
  ent : Ent
deriving DecidableEq, Repr

/-- A DMA lock (R168): table and slots held. -/
structure DmaLock where
  table : Nat
  slots : List Nat
deriving DecidableEq, Repr

/-- An entry with a lasting parity fault (R163): table, index, faulty word, and the bank and row that hold it. -/
structure BadEnt where
  table : Nat
  index : Nat
  word : Nat
  bank : Nat
  row : Nat
deriving DecidableEq, Repr

/-- The forwarding tables beside their registers (R142 to R170). The MAC table is keyed half × 2¹⁸ + way × 2¹⁶ + bucket. -/
structure Tables where
  mac : Tab Ent
  vlan : Tab Ent
  flow : Tab Ent
  label : Tab Ent
  nextHop : Tab Ent
  group : Tab Ent
  stack : Tab Ent
  /-- The learn queue, the side buffer of held slots, and the fail filter, oldest first. -/
  queue : List LearnEv
  side : List LearnEv
  filter : List (Nat × Nat)
  /-- The slot the sweeper visits next. -/
  sweep : Nat
  /-- Deltas of this cycle, oldest first, and whether more than 512 came (R160). -/
  deltas : List Delta
  deltaOvf : Bool
  /-- The lock each ring holds, and its expired locks whose LOCK_EXPIRED is still to come (R168). -/
  locks : Tab (Option DmaLock)
  lapsed : Tab (List DmaLock)
  /-- The moves of the engine's last insertion: origin, destination, core clock (R155, R156). -/
  moved : List (Nat × Nat × Nat)
  /-- Entries with a lasting parity fault, until their row is repaired. -/
  bad : List BadEnt
  /-- The ring to serve next (R164). -/
  turn : Nat
deriving DecidableEq, Repr

/-- A transmit-timestamp entry (R260). -/
structure TxStamp where
  tsId : Nat
  time : Time
  suspect : Bool
  dropped : Bool
deriving DecidableEq, Repr

/-- TB beside its registers (R242 to R251). -/
structure TimeUnit where
  /-- The staged low word of TB_INCR; the increment committed and not yet in force (R246). -/
  lo : Word
  incr : Option Nat
  /-- The step that the next tick executes, in units of 2⁻³² ns (R248). -/
  step : Option Int
  /-- Snapshot sets that the next tick latches (R245). -/
  snaps : List Nat
  /-- References of channels that have passed qualification since TB_SUSPECT was last set: channel, reference (R251). -/
  passed : List (Nat × Nat)
  /-- A step was executed since the last second boundary (R267). -/
  secStepped : Bool
  /-- Consecutive monitor updates within the soft limit since then, by 64 × channel + reference (R251). -/
  okRun : Tab Nat
  /-- The step of the last tick: TB before and after it (R37, R225). -/
  jump : Option (Time × Time)
  /-- The last tick reached a cycle boundary, which CYCLE_BOUNDARY has not taken yet (R27, R37). -/
  atCycle : Bool
deriving DecidableEq, Repr

/-- TB's companions after reset. -/
def TimeUnit.reset : TimeUnit := ⟨0x9999999A, none, none, [], [], false, [], none, false⟩

/-- A mean being built (R328): its place in time, the sums and how many records they hold. -/
structure HoBin where
  bin : Nat
  y : Int
  temp : Int
  n : Nat
deriving DecidableEq, Repr

/-- No record yet. -/
def HoBin.empty : HoBin := ⟨0, 0, 0, 0⟩

/-- Probation buffer and committed history of a channel, each oldest first: the 16-second and the 15-minute means with the one
being built (R328). -/
structure History where
  prob : List HoRec
  bin16 : HoBin
  h16 : List HoRec
  bin15 : HoBin
  h15 : List HoRec
deriving DecidableEq, Repr

/-- An empty history. -/
def History.empty : History := ⟨[], HoBin.empty, [], HoBin.empty, []⟩

/-- The holdover model in force (R329): ȳ in 10⁻¹⁵, s in 10⁻¹⁵ a day, t_m in cycles of 125 µs; and the end, the length in
seconds and the oven temperature of its look-back window (R346). -/
structure HoModel where
  mean : Int
  slope : Int
  mid : Nat
  endT : Nat
  len : Nat
  temp : Int
deriving DecidableEq, Repr

/-- A ramp scheduled or running on a channel (R363, R364): profile, start time in units of 2⁻³² ns, segment, whether the list has
ended and holds, and y_r in 10⁻¹⁸. -/
structure Ramp where
  profile : Nat
  start : Nat
  running : Bool
  seg : Nat
  holding : Bool
  yr : Int
  /-- OU_RAMP_STOP or TC_RESET has named the channel: the ramp ends at the next loop update. -/
  stop : Bool
deriving DecidableEq, Repr

/-- A switch in progress (R318): loop updates since its start, whether the reference has failed, whether it was forced. -/
structure Switching where
  count : Nat
  failed : Bool
  forced : Bool
deriving DecidableEq, Repr

/-- A timing channel beside its registers. -/
structure Chan where
  /-- The steer in 10⁻¹⁵, and the fraction of TB_INCR carried forward, over 10¹⁵ (R308). -/
  y : Int
  carry : Nat
  /-- Steer and fine word of the last 8 loop updates, newest first (R318). -/
  recent : List (Int × Int)
  /-- Proportional and integral terms of the filter, in 10⁻¹⁵: their sum is the loop's steer (R321, R337). -/
  prop : Int
  integ : Int
  /-- The loop's zero, in 2⁻¹⁶ ns: the phase against the selected reference that the loop holds while it absorbs offsets (R319, R325). -/
  zero : Int
  sw : Option Switching
  /-- Consecutive loop updates above 4 × lock_win (R324). -/
  wideErr : Nat
  /-- The state before a reset in progress, and whether TC stale still stands from a reset (R334). -/
  resetFrom : Option Nat
  rstStale : Bool
  /-- The DCO hops to a preset, or searches its band; a band has been found (R323, R347). -/
  hop : Option (Option Nat)
  searched : Bool
  /-- A full band search has ended since module reset (R347). -/
  bandDone : Bool
  /-- A force of a reference has been accepted, and its switch is to start (R345). -/
  forceNew : Bool
  /-- The QL of the last selected reference, and whether hold_s has passed since the channel entered HOLDOVER (R339). -/
  lastQl : Nat
  qlExpired : Bool
  /-- References that have been QUALIFIED or DEGRADED before their last loss (R314). -/
  had : List Nat
  /-- A standby holds the channel on reference 62 (R393). -/
  hold62 : Bool
  /-- The steers of this second, and whether it may be recorded; recording is stopped by a soft-limit crossing (R328). -/
  sumY : Int
  nY : Nat
  clean : Bool
  barred : Bool
  hist : History
  /-- Slope in 10⁻¹⁵ a day and residual temperature coefficient in 10⁻¹⁸ per 0.125 °C of the last refit (R330). -/
  fit : Option (Int × Int)
  model : HoModel
  /-- The copied model, converted at a takeover, with whether it counts as trained (R404). -/
  copied : Option (HoModel × Bool)
  /-- The model in force counts as trained (R332, R404). -/
  trainedBy : Bool
  /-- Oven temperature at entry into HOLDOVER; ∫|ΔT| dt in 0.125 K·s (R332). -/
  entryTemp : Int
  dT : Nat
  /-- The partner's prediction, in 10⁻¹⁵ (R333). -/
  partner : Option Int
  /-- Seconds of probation discarded at the last crossing; discarded, and committed, in this cycle (R337, R346). -/
  discarded : Nat
  discardNow : Bool
  commitNow : List HoRec
  /-- Seconds of the channel's own records committed last, newest first: a copied record of one of them is not needed (R396). -/
  owned : List Nat
  /-- Switches completed since the MP started (R342). -/
  switches : Nat
  ramp : Option Ramp
deriving DecidableEq, Repr

/-- A channel after module reset. -/
def Chan.reset : Chan where
  y := 0
  carry := 0
  recent := []
  prop := 0
  integ := 0
  zero := 0
  sw := none
  wideErr := 0
  resetFrom := none
  rstStale := false
  hop := none
  searched := false
  bandDone := false
  forceNew := false
  lastQl := 7
  qlExpired := false
  had := []
  hold62 := false
  sumY := 0
  nY := 0
  clean := false
  barred := false
  hist := History.empty
  fit := none
  model := ⟨0, 0, 0, 0, 0, 0⟩
  copied := none
  trainedBy := false
  entryTemp := 0
  dT := 0
  partner := none
  discarded := 0
  discardNow := false
  commitNow := []
  owned := []
  switches := 0
  ramp := none

/-- What all channels share: the offset sample of reference 60 that waits for the loop update, in 2⁻¹⁶ ns, with TB_STEP_CNT as it was when
its measurement interval began (R249), the staged low word, and samples per second of reference 60 while the MP gives it (R311). -/
structure Samples where
  ofs60 : Option Int
  from60 : Nat
  stagedLo : Word
  rate60 : Nat
deriving DecidableEq, Repr

/-- ESMC (R338, R339, R349): on, enhanced SSM TLV, hold_s, ports that send and that accept, the QL last sent (and 16 times one more
than the port that sent QL-DNU, where one did). -/
structure Esmc where
  on : Bool
  tlv : Bool
  holdS : Nat
  send : Nat
  accept : Nat
  sent : Nat
deriving DecidableEq, Repr

/-- A pulse generator beside its registers (R359, R361). -/
structure Gen where
  /-- The offset O of its last alignment, in 2⁻¹⁶ ns. -/
  ofs : Int
  /-- An alignment on its way: the grid line G_k and its offset, in 2⁻¹⁶ ns. -/
  align : Option (Int × Int)
  /-- It sends pulses: it has been aligned since it was enabled. -/
  live : Bool
  /-- Its count of its channel's DCO at the last leading edge, in 1/64 periods from the alignment, with the fractional remainder in 10⁻⁹. -/
  count : Nat
  rest : Nat
deriving DecidableEq, Repr

/-- A generator that has not been aligned. -/
def Gen.idle : Gen := ⟨0, none, false, 0, 0⟩

/-- The outputs beside their registers. -/
structure Outs where
  /-- Outputs failed by a new DCO frequency (R351). -/
  failed : List Nat
  /-- The pulse generators (R359). -/
  gens : Tab Gen
  /-- Alignments that wait: mask and core clock of the write (R361). -/
  realign : List (Nat × Nat)
  /-- The core clock from which an output runs: its restart, ahead while it holds its low level; none while it is in its off state (R353). -/
  start : Tab (Option Nat)
  /-- The core clock to which a period that was current at a boundary lasts (R353). -/
  tail : Tab Nat
deriving DecidableEq, Repr

/-- A bin-width set of a TDC (R372, R380): temperature in 0.125 °C, residual in 0.01 ps, first and last used bin, widths in
0.001 ps. -/
structure BinSet where
  temp : Int
  residual : Nat
  first : Nat
  last : Nat
  widths : List Nat
deriving DecidableEq, Repr

/-- The TDCs: targets 0 to 7 are the event inputs, 8 to 13 the channels. Sets that differ from the factory's, by 8 × target + set
(set 6 is the live set); lid temperature of the table in use; targets being calibrated with the core clock of the start. -/
structure TdcUnit where
  sets : Tab (Option BinSet)
  temp : Tab Int
  run : Tab (Option Nat)
  /-- Sets of channel TDCs that the host has given, to apply at the next cycle boundary (R381): target, set. -/
  wait : List (Nat × Nat × BinSet)
deriving DecidableEq, Repr

/-- An event timestamp (R365): TB in 2⁻¹⁶ ns, EV_EDGES count, falling edge, suspect, TB_STEP_CNT. -/
structure Stamp where
  t : Int
  seq : Nat
  falling : Bool
  suspect : Bool
  steps : Nat
deriving DecidableEq, Repr

/-- An event input: time of the last accepted edge in 0.001 ps of the core clock, accepted edges since the last timestamped one, FIFO oldest first,
timestamped edges kept for pairing, and its calibrations: from, and to where it has ended (R366, R367, R368). -/
structure EvIn where
  last : Option Int
  skipped : Nat
  fifo : List Stamp
  kept : List Stamp
  cals : List (Int × Option Int)
deriving DecidableEq, Repr

/-- An input at rest. -/
def EvIn.quiet : EvIn := ⟨none, 0, [], [], []⟩

/-- A measured interval of one stop (R368): magnitude, sign, coincident, missing. -/
structure Interval where
  mag : Nat
  sign : Bool
  coincident : Bool
  missing : Bool
deriving DecidableEq, Repr

/-- A result of a measurement group (R367 to R369). -/
structure EvResult where
  seq : Nat
  start : Int
  suspect : Bool
  stepped : Bool
  stale : Bool
  stops : List Interval
deriving DecidableEq, Repr

/-- A measurement group: starts whose results have not been emitted, and its result FIFO, oldest first. -/
structure EvGrp where
  starts : List Stamp
  fifo : List EvResult
deriving DecidableEq, Repr

/-- A template of an LACPDU (R408): from the subtype octet on, its period being 1 s, and core clock of the last one sent. -/
structure Template where
  pdu : Bytes
  fast : Bool
  at' : Nat
deriving DecidableEq, Repr

/-- The twin unit beside its registers (R382 to R417). -/
structure Twin where
  /-- The partner's latest frame header, whether that frame was an ELECT, and its digest where it gave one. -/
  hdr : Option GalHdr
  elect : Bool
  digest : Option Nat
  /-- The latest STATE frame, and self_ok per channel of the latest STATE or REPLY. -/
  copy : Option GalState
  okCh : Nat
  /-- A lasting gallery loss stands (R392); consecutive STATE frames missing; the cycle whose DELTA frames are asked for. -/
  galLost : Bool
  missed : Nat
  nak : Option Nat
  /-- Cycle of the last STATE or REPLY received complete. -/
  ack : Nat
  /-- The first STATE frame since SYNCING was entered is still to come (R393). -/
  needSync : Bool
  /-- Deltas of the last 2 cycles sent: cycle and deltas (R392). -/
  sentDeltas : List (Nat × List Delta)
  /-- The active's resync: next slot to send, and next BULK sequence (R394). -/
  bulkNext : Option Nat
  bulkSeq : Nat
  /-- DELTA frames to be sent again: cycle (R392). -/
  resend : Option Nat
  /-- Consecutive check points at which a MON input has had a mismatch (R397). -/
  monRun : Tab Nat
  /-- The mean phase of each MON input at the last check point, less TW_MON_ADJ, in 2⁻¹⁶ ns (R397). -/
  monPhase : Tab Int
  /-- TAKEOVER has been sent with this cause, RELEASE not received (R403). -/
  taking : Option Nat
  /-- A lasting mismatch, or an event, has made the partner absent; wait_ms has passed without evidence (R400). -/
  partnerGone : Bool
  /-- The next STATE declares the receiver faulted (R402). -/
  declare : Bool
  /-- δ of each second paired, newest first, in 10⁻¹², the running sum of this second, and seconds paired (R404). -/
  deltaS : List Int
  deltaSum : Int
  deltaN : Nat
  paired : Nat
  /-- What TW_LAG_CONFIG gave: system priority, system identifier, key, fast timeout (R417). -/
  sysPrio : Nat
  sysId : Bytes
  key : Nat
  fast : Bool
  templates : Tab (Option Template)
  /-- Asymmetry of links seeded from the copy, in 2⁻¹⁶ ns, until a pair window completes (R404). -/
  seeded : Tab (Option Int)
  /-- The sample of reference 62 that waits for the loop update, in 2⁻¹⁶ ns (R395). -/
  ofs62 : Option Int
  /-- TB seconds of the last role change, and role changes, in full (R414). -/
  foSec : Nat
  foCount : Nat
  /-- Core clock of the last valid gallery frame, or of leaving reset; core clock since which HB_IN reads active while the module
  is active (R400, R406). -/
  frameAt : Nat
  hbSince : Option Nat
  /-- The active has served the standby's resync in progress (R394). -/
  served : Bool
  /-- First copies of frames whose second copy may still come: lane and frame (R388). -/
  copies : List (Nat × GalFrame)
  /-- Gallery errors: frames of a type from 0x8 to 0xF (R390). -/
  errors : Nat
  /-- The STATE of this cycle was missing and the next has come: its deltas are awaited (R392). -/
  late : Option Nat
deriving DecidableEq, Repr

/-- The twin unit after module reset. -/
def Twin.reset : Twin where
  hdr := none
  elect := false
  digest := none
  copy := none
  okCh := 0
  galLost := false
  missed := 0
  nak := none
  ack := 0
  needSync := false
  sentDeltas := []
  bulkNext := none
  bulkSeq := 0
  resend := none
  monRun := []
  monPhase := []
  taking := none
  partnerGone := false
  declare := false
  deltaS := []
  deltaSum := 0
  deltaN := 0
  paired := 0
  sysPrio := 0
  sysId := [0, 0, 0, 0, 0, 0]
  key := 0
  fast := false
  templates := []
  seeded := []
  ofs62 := none
  foSec := 0
  foCount := 0
  frameAt := 0
  hbSince := none
  served := false
  copies := []
  errors := 0
  late := none

/-- An exchange that an end of an FPL link holds (R287): number, cycle, its two timestamps in 2⁻¹⁶ ns (t1 and t4 upstream, t2 and
t3 downstream), the phases of its cycle in P / 2²⁰ where valid, TB_STEP_CNT, and whether a PING has reported it. -/
structure Exch where
  seq : Nat
  cycle : Nat
  a : Int
  b : Option Int
  psi : Option Nat
  chi : Option Nat
  steps : Nat
  reported : Bool
deriving DecidableEq, Repr

/-- A result that waits for the next t0 + 2 µs (R288): exchange, round trip, delay, Δ, offset, in 2⁻¹⁶ ns; whether its offset may
go to the time channel, and TB_STEP_CNT when the exchange began. -/
structure PxResult where
  m : Nat
  rt : Int
  delay : Int
  asym : Int
  off : Int
  deliver : Bool
  steps : Nat
deriving DecidableEq, Repr

/-- An FPL link beside its registers (R277 to R300). -/
structure Link where
  /-- The role in force: none, upstream (false) or downstream (true); what the MP has set for role 0x2 (R280). -/
  role : Option Bool
  ptpRole : Option Bool
  /-- Next exchange number; count of other messages sent. -/
  next : Nat
  msgs : Nat
  /-- The last exchanges, newest first. -/
  recs : List Exch
  /-- χ of the last cycle, where valid; consecutive cycles within 2 ppb, to 8 (R279). -/
  chi : Option Nat
  syn : Nat
  /-- Flags of the far end's latest message; core clock of its latest one with calibrating = 1 (R282, R284). -/
  far : Nat
  farCal : Option Nat
  /-- Consecutive exchanges that meet, and that fail, the fine conditions (R281); both phases of the last one were valid. -/
  good : Nat
  bad : Nat
  phases : Bool
  /-- The last exchange was missed; lasting misses since COARSE was entered (R282, R304). -/
  missed : Bool
  lasting : Nat
  pub : Option PxResult
  /-- Asymmetry source of the results (R286); Δ of the last pair window; rt summed over the window, and how many (R294). -/
  src : Nat
  pair : Int
  sumRt : Int
  nRt : Nat
  /-- The last exchange computed raised a wrap error (R281). -/
  wrapped : Bool
  /-- A message with calibrating = 1 has been sent since CALIBRATING was entered (R291). -/
  calTold : Bool
  /-- exchangeLog of the upstream end's latest message (R284). -/
  farLog : Option Nat
deriving DecidableEq, Repr

/-- A link after module reset. -/
def Link.reset : Link where
  role := none
  ptpRole := none
  next := 0
  msgs := 0
  recs := []
  chi := none
  syn := 0
  far := 0
  farCal := none
  good := 0
  bad := 0
  phases := false
  missed := false
  lasting := 0
  pub := none
  src := 0
  pair := 0
  sumRt := 0
  nRt := 0
  wrapped := false
  calTold := false
  farLog := none

/-- A port of the PTP instance (R273): transport, delay mechanism (1 delay request-response, 2 peer delay), intervals, role, local
priority, delayAsymmetry in 2⁻¹⁶ ns; portState as IEEE 1588 numbers it, and the peer mean path delay in 2⁻¹⁶ ns. -/
structure PtpPort where
  transport : Nat
  delay : Nat
  logSync : Int
  logDelay : Int
  logAnnounce : Int
  role : Nat
  prio : Nat
  asym : Int
  st : Nat
  peerDelay : Int
deriving DecidableEq, Repr

/-- The PTP instance of the MP (R263, R272): what PTP_SET_PROFILE gave, the ports in the instance, the servo state (0 idle, 1 stepping,
2 tracking), the datasets, the management messages discarded (R264), and the grantees and grantors of unicast negotiation (R263). -/
structure Ptp where
  profile : Nat
  domain : Nat
  clockType : Nat
  prio1 : Nat
  prio2 : Nat
  localPrio : Nat
  gmClass : Nat
  twoStep : Bool
  steps : Bool
  stepNs : Nat
  ports : Tab (Option PtpPort)
  servo : Nat
  data : PtpData
  mgmt : Nat
  grantees : Nat
  grantors : Nat
deriving DecidableEq, Repr

/-- ToD (R266 to R270): whether TOD_CONFIG offers the received time, in force and from the next second boundary on; TB_TOD_CFG in
force; the latched message, and the next sequence number; the latest edge of the REF pin; consecutive valid messages,
CRC failures and seconds without a message, and the last difference with how often in a row it came. -/
structure Tod where
  offered : Bool
  offerNext : Bool
  cfg : Word
  latched : Option Bytes
  seq : Nat
  edge : Option Time
  valid : Nat
  fails : Nat
  missed : Nat
  diff : Int
  same : Nat
deriving DecidableEq, Repr

/-- What the VKEEP retention memory holds of a channel (R32, R337): DCO word, filter terms and history. -/
structure Retain where
  /-- TC_STAT, with the state and the switching and slewing flags; the selected reference; TC_DCO_WORD. -/
  stat : Word
  sel : Nat
  word : Word
  prop : Int
  integ : Int
  absorbed : Word
  /-- The model ȳ, s and t_m, and the trained hours. -/
  model : HoModel
  trainedH : Nat
  /-- Records committed in the cycle, and the whole committed history. -/
  commits : List HoRec
  hist : History
deriving DecidableEq, Repr

/-- Nothing retained. -/
def Retain.empty : Retain := ⟨0, 63, 0, 0, 0, 0, ⟨0, 0, 0, 0, 0, 0⟩, 0, [], History.empty⟩

/-- The timed action queue beside its entries (R235, R237, R239): entries that are due and wait for their turn; entries that were
late when armed; of those due, the ones that fell due while TB was suspect; a group has been captured since the last read of
GT_TAQ_GRP_LAST. -/
structure TaqUnit where
  due : List Nat
  late : List Nat
  suspect : List Nat
  grpSeen : Bool
deriving DecidableEq, Repr

/-- The whole state. -/
structure State where
  /-- Commands waiting, first in first out. -/
  pending : List Instr
  /-- The variant of this part. -/
  variant : Variant
  /-- Register file: what differs from the reset values. -/
  regs : Tab Word
  /-- Shadow writes waiting for their boundary, oldest first: address, value, core clock (R34, R35). -/
  pend : List (Nat × Word × Nat)
  /-- Core clocks since reset (R18). -/
  clk : Nat
  /-- Free values drawn so far (the model's own field, log entry 2). -/
  free : Nat
  /-- Outputs, newest first (the model's own field, log entry 3). -/
  sent : List Sent
  tb : Time
  power : Power
  host : HostPort
  /-- A change of MB_OWNER that waits for its mailboxes to be IDLE (R62). -/
  ownerNext : Nat
  mbox : Tab Mbox
  mp : Mp
  hl : Health
  bw : Tab Bandwidth
  lane : Tab Lane
  port : Tab Port
  sc : Switch
  pr : Parser
  ft : Tables
  /-- Transmit-timestamp queues, oldest first (R260). -/
  txts : Tab (List TxStamp)
  /-- Gates that a port keeps after a lasting tread fault, until its flight boundary (R227). -/
  frozen : Tab (Option Nat)
  /-- The gates of the tread that each port has last read cleanly; all open before any is read (R227). -/
  treadRead : Tab Nat
  taq : TaqUnit
  time : TimeUnit
  chan : Tab Chan
  smp : Samples
  esmc : Esmc
  ou : Outs
  tdc : TdcUnit
  evIn : Tab EvIn
  evGrp : Tab EvGrp
  tw : Twin
  px : Tab Link
  ptp : Ptp
  tod : Tod
  /-- The VKEEP retention memory, by channel. -/
  retain : Tab Retain
  fu : Fu
  unit : UnitData
deriving DecidableEq, Repr

/-- `n` zero bytes. -/
def zeroBytes (n : Nat) : Bytes := List.replicate n 0

/-- The update of a unit as it ships: a release in slot A, an empty slot B, staging area and settings store, and no pointer record. -/
def Fu.shipped : Fu where
  slotA := ⟨some (zeroBytes 1024), [], true⟩
  slotB := ⟨none, [], false⟩
  ptr0 := none
  ptr1 := none
  staged := none
  blocks := []
  upd := 0
  running := 0
  otp := 0
  revoked := false
  store := []
  act := none
  pause := none
  resetDue := false
  revertDue := false
  trialClk := 0

/-- The state right after reset. -/
def State.reset : State where
  pending := []
  variant := .fh4848
  regs := [(0x44, 0x1), (0x900014, 0x80)]
  pend := []
  clk := 0
  free := 0
  sent := []
  tb := ⟨0, 0, 0⟩
  power := ⟨true, false, true, true, false, false, false, true, false, false, false⟩
  host := ⟨false, false, [], [], false, false, false, PcieCfg.reset, 4, 4, []⟩
  ownerNext := 8
  mbox := []
  mp := ⟨false, false, false, 0, []⟩
  hl := ⟨[], [], [], [], [], 0, (0, 0), [], [], [], [], [], [], [], [], none, none, [], [], [], [], [], [], [], [], false⟩
  bw := []
  lane := []
  port := []
  sc := Switch.reset
  pr := ⟨[], [], [], [], 0, 0, [], []⟩
  ft := ⟨[], [], [], [], [], [], [], [], [], [], 0, [], false, [], [], [], [], 0⟩
  txts := []
  frozen := []
  treadRead := []
  taq := ⟨[], [], [], false⟩
  time := TimeUnit.reset
  chan := []
  smp := ⟨none, 0, 0, 16⟩
  esmc := ⟨false, false, 0, 0, 0, 7⟩
  ou := ⟨[], [], [], [], []⟩
  tdc := ⟨[], [], [], []⟩
  evIn := []
  evGrp := []
  tw := Twin.reset
  px := []
  ptp := ⟨0, 0, 0, 0, 0, 0, 0, false, false, 1000, [], 0, ⟨0, 0, 0, List.replicate 10 0, false, 0, 0, 0, 0, 0, 0, 0, List.replicate 8 0, 0, 0, 0, 0, 0, 0⟩, 0, 0, 0⟩
  tod := ⟨false, false, 0x00000A04, none, 0, none, 0, 0, 0, 0, 0⟩
  retain := []
  fu := Fu.shipped
  unit := ⟨0, zeroBytes 48, zeroBytes 48⟩

end Sys2Proof.Machine
end

