-- ==== Sys2Proof/Machine/Ops.lean ====
section
/-! DEFINITION. The named operations every meaning is built from: finding a register in the map, reading and writing the
register file, shadow writes and boundaries (R33 to R36), counters and causes (R54), free values, outputs, and the time
base's arithmetic. -/

namespace Sys2Proof.Machine

/-! ### The register map -/

/-- The map rows that may hold the BAR0 address `a` (R48). -/
def regsAt (a : Nat) : List Reg :=
  if a < 0x10000 then regsSys else if a < 0x20000 then regsMb else if a < 0x30000 then regsPm
  else if a < 0x100000 then regsHl else if a < 0x140000 then regsLn else if a < 0x180000 then regsPt
  else if a < 0x200000 then regsPr else if a < 0x400000 then regsFt else if a < 0x600000 then regsSc
  else if a < 0x700000 then regsGt else if a < 0x740000 then regsTb else if a < 0x780000 then regsPx
  else if a < 0x7C0000 then regsTc else if a < 0x7E0000 then regsOu else if a < 0x800000 then regsEv
  else if a < 0x900000 then regsTw else regsFu

/-- The element of row `r` at address `a`, by its two indices. -/
def Reg.find (r : Reg) (a : Nat) : Option (Nat × Nat) :=
  if a < r.base then none else
  let d := a - r.base
  let i := d / r.s1
  let j := d % r.s1 / r.s2
  if i < r.n1 ∧ j < r.n2 ∧ d % r.s1 % r.s2 = 0 then some (i, j) else none

/-- The register at address `a`: its row and indices. -/
def regFind (a : Nat) : Option (Reg × Nat × Nat) :=
  (regsAt a).findSome? fun r => (r.find a).map fun ij => (r, ij.1, ij.2)

/-- The bits of a row whose access code is `c`. -/
def Reg.mask (r : Reg) (c : Acc) : Word :=
  r.fields.foldl (fun m f => if f.acc = c then m ||| maskOf f.hi f.lo else m) 0

/-- The reset value of element `i` of a row. -/
def Reg.resetAt (r : Reg) (i : Nat) : Word :=
  match r.alt.find? fun e => e.1 = i with
  | some e => BitVec.ofNat 32 e.2
  | none => BitVec.ofNat 32 (r.fields.foldl (fun w f => w + f.reset * 2 ^ f.lo) 0)

/-- Every bit of a row that belongs to a field; the others are reserved (R11). -/
def Reg.bits (r : Reg) : Word := r.fields.foldl (fun m f => m ||| maskOf f.hi f.lo) 0

/-- The bits of the word at address `a` that belong to a field; an unmapped word has none. -/
def fieldBits (a : Nat) : Word :=
  match regFind a with
  | some (r, _, _) => r.bits
  | none => 0

/-- What the word at address `a` holds after reset. -/
def resetWord (a : Nat) : Word :=
  match regFind a with
  | some (r, i, _) => r.resetAt i
  | none => 0

/-! ### The register file -/

/-- The word stored at address `a`. -/
def State.rd (s : State) (a : Nat) : Word := s.regs.get (resetWord a) a

/-- Store `w` at address `a`; reserved bits hold nothing and read 0 (R11). -/
def State.wr (s : State) (a : Nat) (w : Word) : State := { s with regs := s.regs.put (resetWord a) a (w &&& fieldBits a) }

/-- The value of a field. -/
def State.get (s : State) (f : FRef) : Nat := bitsOf (s.rd f.addr) f.hi f.lo

/-- Is a one-bit field 1? -/
def State.on (s : State) (f : FRef) : Bool := s.get f = 1

/-- Store `v` in a field. -/
def State.set (s : State) (f : FRef) (v : Nat) : State := s.wr f.addr (putBits (s.rd f.addr) f.hi f.lo v)

/-- Set a one-bit field. -/
def State.raise (s : State) (f : FRef) : State := s.set f 1

/-- Store a flag. -/
def State.setB (s : State) (f : FRef) (b : Bool) : State := s.set f (flag b)

/-- Add `n` to a counter that saturates at its maximum (R54). -/
def State.add (s : State) (f : FRef) (n : Nat) : State := s.set f (min (2 ^ (f.hi + 1 - f.lo) - 1) (s.get f + n))

/-- Count one in a saturating counter (R54). -/
def State.inc (s : State) (f : FRef) : State := s.add f 1

/-- Add `n` to a counter that wraps. -/
def State.addWrap (s : State) (f : FRef) (n : Nat) : State := s.set f (s.get f + n)

/-- A 64-bit register of two words, low word first (R111). -/
def State.rd64 (s : State) (lo hi : Nat) : Nat := (s.rd lo).toNat + (s.rd hi).toNat * 2 ^ 32

/-- Store a 64-bit register of two words. -/
def State.wr64 (s : State) (lo hi v : Nat) : State :=
  (s.wr lo (BitVec.ofNat 32 v)).wr hi (BitVec.ofNat 32 (v / 2 ^ 32))

/-- Add to a 64-bit counter. -/
def State.add64 (s : State) (lo hi n : Nat) : State := s.wr64 lo hi (s.rd64 lo hi + n)

/-- Bit `n` of the word at `a`. -/
def State.bit (s : State) (a n : Nat) : Bool := bitOf (s.rd a).toNat n

/-- Set bit `n` of the word at `a`. -/
def State.setBit (s : State) (a n : Nat) : State := s.set ⟨a, n, n⟩ 1

/-- Set bit `n` of a pair of words that hold bits 0 to 31 and 32 to 63. -/
def State.setBit2 (s : State) (lo hi n : Nat) : State := if n < 32 then s.setBit lo n else s.setBit hi (n - 32)

/-- Bit `n` of a pair of words. -/
def State.bit2 (s : State) (lo hi n : Nat) : Bool := if n < 32 then s.bit lo n else s.bit hi (n - 32)

/-- Store the words `ws` from address `a` upward. -/
def State.wrs (s : State) (a : Nat) : List Word → State
  | [] => s
  | w :: ws => (s.wr a w).wrs (a + 4) ws

/-! ### Shadows and boundaries -/

/-- What a boundary belongs to (R33): a lane, a port, the parser, the switch core, a stairway, the links, a timing channel,
an output, the twin unit. Writes outside these take effect on completion. -/
inductive Group where
  | lane (l : Nat) | port (p : Nat) | parser | switch | stair (p : Nat) | links | chan (c : Nat) | out (o : Nat) | twin
deriving DecidableEq, Repr

/-- The boundary group of a shadowed address. -/
def groupOf (a : Nat) : Group :=
  if a < 0x106000 then .lane ((a - 0x100000) / 0x200)
  else if a < 0x140000 then .lane (4 * ((a - 0x106000) / 4))
  else if a < 0x180000 then .port ((a - 0x140000) / 0x200)
  else if a < 0x200000 then .parser
  else if a < 0x600000 then .switch
  else if a < 0x700000 then .stair ((a - 0x600000) / 0x200)
  else if a < 0x780000 then .links
  else if a < 0x786000 then .chan ((a - 0x780000) / 0x1000)
  else if a < 0x7C0000 then .chan 0
  else if a < 0x7E0000 then .out ((a - 0x7C0000) / 0x400)
  else .twin

/-- The shadow value at address `a`: the last write that waits, or the active value (R49). -/
def State.shadow (s : State) (a : Nat) : Word :=
  (s.pend.foldl (fun w e => if e.1 = a then some e.2.1 else w) none).getD (s.rd a)

/-- Add a shadow write (R34). -/
def State.pendWrite (s : State) (a : Nat) (w : Word) : State := { s with pend := s.pend ++ [(a, w, s.clk)] }

/-- Does the group have a pending shadow write? -/
def State.pends (s : State) (g : Group) : Bool := s.pend.any fun e => groupOf e.1 = g

/-- Is the write captured by a boundary that falls now? The capture point lies 32 core clocks (25.6 ns) before it (R35). -/
def captured (clk : Nat) (e : Nat × Word × Nat) : Bool := decide (e.2.2 + 32 < clk)

/-- Store the captured writes whose address satisfies `p`, in the order of the writes, and keep the others pending. -/
def State.applyPend (s : State) (p : Nat → Bool) : State :=
  let now := s.pend.filter fun e => p e.1 && captured s.clk e
  let later := s.pend.filter fun e => !(p e.1 && captured s.clk e)
  now.foldl (fun t e => t.wr e.1 e.2.1) { s with pend := later }

/-- Take out the captured writes whose address satisfies `p`, without storing them. -/
def State.takePend (s : State) (p : Nat → Bool) : List (Nat × Word × Nat) × State :=
  (s.pend.filter fun e => p e.1 && captured s.clk e,
   { s with pend := s.pend.filter fun e => !(p e.1 && captured s.clk e) })

/-- Write the bits `m` of the register at `a` with `w`: into the shadow where it has one, else at once (R33). -/
def State.store (s : State) (a : Nat) (m w : Word) : State :=
  match regFind a with
  | none => s
  | some (r, _, _) =>
    if r.shadowed then s.pendWrite a ((s.shadow a &&& ~~~ m) ||| (w &&& m))
    else s.wr a ((s.rd a &&& ~~~ m) ||| (w &&& m))

/-- The module's own write of a field, by the rules of a register write (R33): to the shadow where there is one. -/
def State.put (s : State) (f : FRef) (v : Nat) : State :=
  s.store f.addr (maskOf f.hi f.lo) (BitVec.ofNat 32 ((v % 2 ^ (f.hi + 1 - f.lo)) <<< f.lo))

/-- The MP's write of a whole register. -/
def State.putW (s : State) (a v : Nat) : State := s.store a 0xFFFFFFFF (BitVec.ofNat 32 v)

/-! ### Outputs and free values -/

/-- Record an output. -/
def State.emit (s : State) (x : Sent) : State := { s with sent := x :: s.sent }

/-- The `k`-th free value from here, as a number of `n` bits (log entry 2). -/
def State.freeAt (s : State) (k n : Nat) : Nat := (Config.freeBits (s.free + k)).toNat % 2 ^ n

/-- A number of `n` bits that the spec leaves open, and the state that has drawn it. -/
def State.draw (s : State) (n : Nat) : Nat × State := (s.freeAt 0 n, { s with free := s.free + 1 })

/-! ### Performance counters -/

/-- Count `n` events of code `ev` in PM unit `u`: every counter of the unit that selects the event adds them, modulo 2⁴⁸,
while PM runs (R464). -/
def State.pm (s : State) (u ev n : Nat) : State :=
  if s.on PM_CTRL_run then
    (List.range 8).foldl (fun s k =>
      if s.get (PM_SEL_event u k) = ev then s.wr64 (PM_CNT_LO u k) (PM_CNT_HI u k) ((s.rd64 (PM_CNT_LO u k) (PM_CNT_HI u k) + n) % 2 ^ 48)
      else s) s
  else s

/-! ### Variant -/

/-- Lanes and ports present (R1). -/
def State.lanes (s : State) : Nat := match s.variant with | .fh4848 => 48 | .fh4824 => 24

/-- Bays in use (R1). -/
def State.bays (s : State) : Nat := match s.variant with | .fh4848 => 12 | .fh4824 => 6

/-- Timing channels present (R1). -/
def State.chans (s : State) : Nat := match s.variant with | .fh4848 => 6 | .fh4824 => 4

/-- Clock outputs present (R1). -/
def State.outs (s : State) : Nat := match s.variant with | .fh4848 => 16 | .fh4824 => 8

/-- Event inputs present (R1). -/
def State.evts (s : State) : Nat := match s.variant with | .fh4848 => 8 | .fh4824 => 4

/-- The part code of SYS_DEV_ID. -/
def State.partCode (s : State) : Nat := match s.variant with | .fh4848 => 0x4848 | .fh4824 => 0x4824

/-- Is output or pulse generator `o` present? Generators 16 and 17 are PPS_OUT0 and PPS_OUT1, present on both (R1). -/
def State.outHere (s : State) (o : Nat) : Bool := decide (o < s.outs) || decide (o = 16) || decide (o = 17)

/-! ### Time base arithmetic -/

/-- One second in units of 2⁻³² ns. -/
def tbSecond : Nat := 1000000000 * 2 ^ 32

/-- A time as one number in units of 2⁻³² ns. -/
def Time.toNat (t : Time) : Nat := (t.sec * 1000000000 + t.ns) * 2 ^ 32 + t.frac

/-- The time `n` units of 2⁻³² ns after zero, seconds modulo 2⁴⁸. -/
def Time.ofNat (n : Nat) : Time where
  sec := n / tbSecond % 2 ^ 48
  ns := n / 2 ^ 32 % 1000000000
  frac := n % 2 ^ 32

/-- The time moved by `d` units, wrapping at 2⁴⁸ s. -/
def Time.move (t : Time) (d : Int) : Time :=
  Time.ofNat ((((t.toNat : Int) + d) % ((2 ^ 48 * tbSecond : Nat) : Int)).toNat)

/-- The 16 bits of fraction that timestamps and registers carry (2⁻¹⁶ ns). -/
def Time.frac16 (t : Time) : Nat := t.frac / 2 ^ 16

/-- The number of the 125 µs cycle of network time that holds `t` (R27). -/
def Time.cycle (t : Time) : Nat := t.sec * 8000 + t.ns / 125000

/-- Milliseconds since reset, modulo 2³² (one millisecond is 1 250 000 core clocks). -/
def State.ms (s : State) : Nat := s.clk / 1250000 % 2 ^ 32

/-- A sorted list without repeats, with `v` added. -/
def insertN (v : Nat) : List Nat → List Nat
  | [] => [v]
  | x :: xs => if v < x then v :: x :: xs else if v = x then x :: xs else x :: insertN v xs

end Sys2Proof.Machine
end

