-- ==== Sys2Proof/Machine/Flags.lean ====
section
/-! DEFINITION. Interrupt causes, sources, vectors and messages (R58 to R60), and the records that keep the first event after
their last read (SYS_GUARD_VIOL and its like, R57). Every meaning ends in `finish`, which delivers what has become due. -/

namespace Sys2Proof.Machine

/-- Has the status register at `st` a cause set that the register at `en` enables? -/
def State.cause (s : State) (st en : Nat) : Bool := decide (s.rd st &&& s.rd en ≠ 0)

/-- As `cause`, over the bits [hi:lo] only. -/
def State.causeIn (s : State) (st en hi lo : Nat) : Bool := decide (bitsOf (s.rd st &&& s.rd en) hi lo ≠ 0)

/-- Interrupt source `n` reads 1 (R58). -/
def State.source (s : State) (n : Nat) : Bool :=
  if n < 4 then s.causeIn MB_INT_STAT MB_INT_EN n n
  else if n = 4 then s.cause SYS_INT_STAT SYS_INT_EN
  else if n = 5 then s.cause HL_INT_STAT HL_INT_EN
  else if n = 6 then s.cause TB_INT_STAT TB_INT_EN
  else if n = 7 then s.cause PX_INT_STAT PX_INT_EN
  else if n < 14 then decide (n - 8 < s.chans) && s.cause (TC_INT_STAT (n - 8)) (TC_INT_EN (n - 8))
  else if n = 14 then s.cause OU_INT_STAT OU_INT_EN
  else if n = 15 then s.cause EV_INT_STAT EV_INT_EN
  else if n = 16 then s.cause TW_INT_STAT TW_INT_EN
  else if n = 17 then s.cause FU_INT_STAT FU_INT_EN
  else if n = 18 then s.cause PM_INT_STAT PM_INT_EN
  else if n = 19 then s.cause GT_INT_STAT GT_INT_EN
  else if n = 20 then s.cause SC_INT_STAT SC_INT_EN
  else if n = 21 then s.cause FT_INT_STAT FT_INT_EN
  else if n = 22 then s.cause PR_INT_STAT PR_INT_EN
  else if n = 23 then s.causeIn MB_INT_STAT MB_INT_EN 4 4
  else if n < 36 then
    decide (n - 24 < s.bays) && (List.range 4).any fun k => s.cause (PT_INT_STAT (4 * (n - 24) + k)) (PT_INT_EN (4 * (n - 24) + k))
  else if n < 48 then
    decide (n - 36 < s.bays) && (List.range 4).any fun k => s.cause (LN_INT_STAT (4 * (n - 36) + k)) (LN_INT_EN (4 * (n - 36) + k))
  else if n < 56 then
    s.causeIn FT_RING_INT_STAT FT_RING_INT_EN (n - 48) (n - 48) || s.causeIn FT_RING_INT_STAT FT_RING_INT_EN (n - 40) (n - 40)
  else s.causeIn SC_CPUQ_INT_STAT SC_CPUQ_INT_EN (4 * (n - 56) + 3) (4 * (n - 56))

/-- The word of sources 32·k to 32·k + 31 (SYS_SRC_LO, SYS_SRC_HI). -/
def State.sourceWord (s : State) (k : Nat) : Word :=
  BitVec.ofNat 32 ((List.range 32).foldl (fun w n => if s.source (32 * k + n) then w + 2 ^ n else w) 0)

/-- An enabled source mapped to vector `v` reads 1 (R59). -/
def State.vecWants (s : State) (v : Nat) : Bool :=
  (List.range 64).any fun n => s.bit2 SYS_SRC_EN_LO SYS_SRC_EN_HI n && decide (s.get (SYS_VEC_MAP_vector n) = v) && s.source n

/-- A message of vector `v` can leave the PCIe port (R59). -/
def State.vecOpen (s : State) (v : Nat) : Bool :=
  s.power.vin && !s.power.pcieReset && !s.power.inReset && s.host.msixEnable && !s.host.funcMask && !s.on (SYS_MSIX_CTRL_mask v)

/-- Vector `v` is armed. -/
def State.armed (s : State) (v : Nat) : Bool := !s.host.disarmed.contains v

/-- Send the message of vector `v`: it disarms the vector and starts its holdoff (R59, R60). -/
def State.sendVec (s : State) (v : Nat) : State :=
  let s1 := s.emit (.msix v ((s.rd (SYS_MSIX_ADDR_LO v)).toNat + (s.rd (SYS_MSIX_ADDR_HI v)).toNat * 2 ^ 32) (s.rd (SYS_MSIX_DATA v)))
  { s1 with host := { s1.host with
      disarmed := insertN v s1.host.disarmed
      holding := if s.get (SYS_VEC_HOLDOFF_holdoff_us v) = 0 then s1.host.holding else insertN v s1.host.holding } }

/-- Serve vector `v`: an armed vector with a source reading 1 sends its message once its holdoff is over and the way is
open; while it is masked the message stays pending in the PBA (R59). -/
def State.serveVec (s : State) (v : Nat) : State :=
  let due := s.armed v && s.vecWants v && !s.host.holding.contains v
  let s := if due && s.vecOpen v then s.sendVec v else s
  let wait := due && !s.vecOpen v && s.host.msixEnable && !s.power.pcieReset
  if wait = s.bit (SYS_PBA (v / 32)) (v % 32) then s
  else s.set ⟨SYS_PBA (v / 32), v % 32, v % 32⟩ (flag wait)

/-- Deliver every interrupt that is due. With no source enabled and no message pending nothing is due. -/
def State.deliver (s : State) : State :=
  if s.rd SYS_SRC_EN_LO = 0 ∧ s.rd SYS_SRC_EN_HI = 0 ∧ s.rd (SYS_PBA 0) = 0 ∧ s.rd (SYS_PBA 1) = 0 then s
  else (List.range 64).foldl State.serveVec s

/-- The end of every meaning: the next state, with due interrupts delivered. -/
def finish (s : State) : Host.Outcome State Fault Refusal := .next s.deliver

/-- The module runs: VIN is present and module reset has ended. Else only supplies, resets and the time tick act (R28, R46, R485). -/
def State.up (s : State) : Bool := s.power.vin && !s.power.inReset

/-- A command of a running module. -/
def whenUp (s : State) (o : Host.Outcome State Fault Refusal) : Host.Outcome State Fault Refusal := if s.up then o else .next s

/-- An event changes the state only where the spec says it occurs (log entry 5). -/
def finishIf (c : Bool) (s t : State) : Host.Outcome State Fault Refusal := if c && s.up then finish t else .next s

/-- As `finishIf`, for supplies, resets and the tick, which do not wait for the module to run. -/
def finishAny (c : Bool) (s t : State) : Host.Outcome State Fault Refusal := if c then finish t else .next s

/-- Record an event in a register that keeps the first after its last read: bit 31 is valid, bit `more` tells of further
ones. -/
def State.captureAt (s : State) (more a : Nat) (w : Word) : State :=
  if s.bit a 31 then s.setBit a more else s.wr a (w ||| 0x80000000)

/-- As `captureAt`, with the further ones told by bit 28. -/
def State.capture (s : State) (a : Nat) (w : Word) : State := s.captureAt 28 a w

/-- The port bit of a capture register: 1 for the MSP, 0 for PCIe (R57). For the MP and the TAQ the spec names no value; the model records 0 (log
entry 58). -/
def portBit : Master → Nat
  | .msp => 1
  | _ => 0

/-- Capture a guard violation (R57). -/
def State.guardViol (s : State) (m : Master) (badKey : Bool) (a : Nat) : State :=
  (s.capture SYS_GUARD_VIOL (BitVec.ofNat 32 (a / 4 % 2 ^ 24 + flag badKey * 2 ^ 29 + portBit m * 2 ^ 30))).raise
    SYS_INT_STAT_guard_viol

/-- Capture a WO1 violation (R55); bit 27 tells of a write by the TAQ (R507). -/
def State.woViol (s : State) (m : Master) (a : Nat) : State :=
  (s.capture SYS_WO_VIOL (BitVec.ofNat 32 (a / 4 % 2 ^ 24 + flag (m = .taq) * 2 ^ 27 + portBit m * 2 ^ 30))).raise
    SYS_INT_STAT_wo_viol

/-- Capture a bus error and report it to its master (R53). -/
def State.busErr (s : State) (m : Master) (write : Bool) (reason a : Nat) : State :=
  (s.capture SYS_BUS_ERR (BitVec.ofNat 32 (a / 4 % 2 ^ 24 + reason * 2 ^ 26 + flag write * 2 ^ 29 + portBit m * 2 ^ 30))).raise
    SYS_INT_STAT_bus_err

end Sys2Proof.Machine
end

