-- ==== Sys2Proof/Machine/Bays.lean ====
section
/-! DEFINITION. Bays, lanes and ports: which lanes carry which port, and whether a port is on (R77, R78, R94, R106, R109). -/

namespace Sys2Proof.Machine

/-- The mode of a bay; every value that names no mode acts as off, 7 (R77). -/
def State.bayMode (s : State) (b : Nat) : Nat :=
  let m := s.get (LN_BAY_MODE_mode b)
  if m ≤ 3 then m else 7

/-- What port `p` holds beside its registers. -/
def State.portOf (s : State) (p : Nat) : Port := s.port.get Port.quiet p

/-- Store it. -/
def State.setPort (s : State) (p : Nat) (x : Port) : State := { s with port := s.port.put Port.quiet p x }

/-- What lane `l` holds beside its registers. -/
def State.laneOf (s : State) (l : Nat) : Lane := s.lane.get Lane.quiet l

/-- Store it. -/
def State.setLane (s : State) (l : Nat) (x : Lane) : State := { s with lane := s.lane.put Lane.quiet l x }

/-- Modes 0x2 and 0x3 carry the whole bay on port 4b (R77). -/
def State.wide (s : State) (l : Nat) : Bool := decide (s.bayMode (l / 4) = 2) || decide (s.bayMode (l / 4) = 3)

/-- The lane that records the losses of lane `l`'s port, and whose settings act on it (R78, R84, R94). -/
def State.headLane (s : State) (l : Nat) : Nat := if s.wide l then 4 * (l / 4) else l

/-- The lanes of port `p` (R77). -/
def State.lanesOf (s : State) (p : Nat) : List Nat :=
  if s.wide p then (if p % 4 = 0 then [p, p + 1, p + 2, p + 3] else [])
  else if s.bayMode (p / 4) = 7 then [] else [p]

/-- The loop depth in force on lane `l`: values 0x5 to 0x7 act as none (R94). -/
def State.loopOf (s : State) (l : Nat) : Nat :=
  let v := s.get (LN_CTRL_loop (s.headLane l))
  if v ≤ 4 then v else 0

/-- Port `p` is an upper port of a bay in mode 0x2 or 0x3: its control fields have no effect (R78, R220). -/
def State.upper (s : State) (p : Nat) : Bool := s.wide p && decide (p % 4 ≠ 0)

/-- The port is off: disabled, or a lane of it disabled or in reset (R106, R109). -/
def State.portOff (s : State) (p : Nat) : Bool :=
  !s.on (PT_CTRL_enable p) || (s.lanesOf p).any (fun l => !s.on (LN_CTRL_enable l) || (s.laneOf l).inReset)
    || s.upper p

/-- No MAC carries port `p`: the upper ports of a bay in mode 0x2 or 0x3, and every port of a bay that is off (R77, R78). -/
def State.noMac (s : State) (p : Nat) : Bool :=
  s.upper p || decide (s.bayMode (p / 4) = 7)

/-- Port `p` is a present port (R1). -/
def State.portHere (s : State) (p : Nat) : Bool := decide (p < s.lanes)

/-- Count one in drop_disabled of port `p` (R94, R96, R106). -/
def State.dropDisabled (s : State) (p : Nat) : State := s.add64 (PT_DROP_DISABLED_LO p) (PT_DROP_DISABLED_HI p) 1

/-- Port `p` is a member of the twin LAG (R407). -/
def State.lagMember (s : State) (p : Nat) : Bool := s.on TW_CTRL_lag_en && decide (p < 48) && s.bit2 TW_LAG_LO TW_LAG_HI p

/-- The module has the role: DISABLED, SIMPLEX or ACTIVE (R384). -/
def State.hasRole (s : State) : Bool := [0, 2, 3].contains (s.get TW_STAT_state)

/-- Port `p` is held: a member of the twin LAG on a module without the role (R409). -/
def State.twHeld (s : State) (p : Nat) : Bool := s.lagMember p && !s.hasRole

end Sys2Proof.Machine
end

