-- ==== Sys2Proof/Machine/Health.lean ====
section
/-! DEFINITION. How the health unit takes a fault: counting, escalation, capture, the log and held faults (R445 to R447,
R463), the spare rows (R448 to R450), and the settings store (R433). The meanings of HL's own commands stand in Hl.lean. -/

namespace Sys2Proof.Machine

/-- The MP firmware serves: it has started and has not hung (R29). -/
def State.mpRuns (s : State) : Bool := s.on MB_EPOCH_mp_running && !s.mp.hung

/-- The MP's protocol stacks and health polling run: they stop in the pause of a handover (R430). -/
def State.stacksRun (s : State) : Bool := s.mpRuns && s.fu.pause.isNone

/-- Queue a log record; with 256 waiting it is lost (R463). -/
def State.hlLog (s : State) (code cls inst row detail : Nat) : State :=
  if 256 ≤ s.hl.buf.length then (s.inc HL_LOG_lost).raise HL_INT_STAT_log_lost
  else
    let r : LogRec := ⟨s.tb.sec, s.tb.ns, code, cls, inst, row, detail, s.on TB_STAT_suspect, !s.mpRuns, 0⟩
    let s := { s with hl := { s.hl with buf := s.hl.buf ++ [r] } }
    s.set HL_LOG_backlog s.hl.buf.length

/-- Sources whose lasting faults are held as timing faults (R445). -/
def heldTiming (code : Nat) : Bool := [0x0B, 0x0C, 0x0D, 0x0E, 0x13].contains code

/-- HL_STAT.held and the module's self_ok follow the held faults (R446). -/
def State.hlHeld (s : State) : State :=
  (s.setB HL_STAT_held !s.hl.held.isEmpty).setB HL_STAT_self_ok s.hl.held.isEmpty

/-- Hold a fault until its cause has been absent for 10 s (R446). -/
def State.hlHold (s : State) (code inst : Nat) : State :=
  if s.hl.held.contains (code, inst) then s
  else ({ s with hl := { s.hl with held := s.hl.held ++ [(code, inst)] } }.hlHeld).hlLog code 6 inst 0xFFFF 0

/-- A lasting fault: counted, captured, logged, and held where its row says so (R445 to R447). -/
def State.hlLastingAs (s : State) (cls code inst row detail : Nat) : State :=
  let s := (s.inc HL_CNT_LASTING_count).raise HL_INT_STAT_lasting
  let s := { s with hl := { s.hl with sinceStart := (s.hl.sinceStart.1, s.hl.sinceStart.2 + 1) } }
  let s := s.captureAt 30 HL_FAULT_LAST (BitVec.ofNat 32 (code * 2 ^ 24 + inst % 2 ^ 12 * 2 ^ 12 + row % 2 ^ 12))
  let s := s.hlLog code cls inst row detail
  if heldTiming code then
    ({ s with hl := { s.hl with causes := if s.hl.causes.contains (code, inst) then s.hl.causes else s.hl.causes ++ [(code, inst)] } }).hlHold code inst
  else s

/-- A fault that recurred on its retry (R445). -/
def State.hlLasting (s : State) (code inst row detail : Nat) : State := s.hlLastingAs 2 code inst row detail

/-- The recurrences that make a transient fault lasting; none when escalation is off (R445). -/
def State.escCount (s : State) : Option Nat :=
  match s.get HL_ESC_count with
  | 0 => none
  | n => some (max 2 n)

/-- The escalation window in core clocks. -/
def State.escWindow (s : State) : Nat := max 1 (s.get HL_ESC_window_h) * 3600 * 1250000000

/-- A transient fault: counted, logged when asked for, and made lasting when it has recurred often enough within the window.
Answers whether it was made lasting (R445, R447). -/
def State.hlTransient (s : State) (code inst row detail : Nat) : Bool × State :=
  let s := s.inc HL_CNT_TRANSIENT_count
  let s := { s with hl := { s.hl with sinceStart := (s.hl.sinceStart.1 + 1, s.hl.sinceStart.2) } }
  let s := if s.on HL_CTRL_log_transient then s.hlLog code 1 inst row detail else s
  let live := s.hl.recent.filter fun e => decide (s.clk < e.2.2.2 + s.escWindow)
  let same := live.filter fun e => e.1 = code ∧ e.2.1 = inst ∧ e.2.2.1 = row
  match s.escCount with
  | some n =>
    if n ≤ same.length + 1 then
      (true, { s with hl := { s.hl with recent := live.filter fun e => ¬(e.1 = code ∧ e.2.1 = inst ∧ e.2.2.1 = row) } }.hlLastingAs 3 code inst row detail)
    else (false, { s with hl := { s.hl with recent := live ++ [(code, inst, row, s.clk)] } })
  | none => (false, { s with hl := { s.hl with recent := live } })

/-- Release a held fault (R446). -/
def State.hlRelease (s : State) (code inst : Nat) : State :=
  ({ s with hl := { s.hl with held := s.hl.held.filter (· ≠ (code, inst)) } }.hlHeld).hlLog code 7 inst 0xFFFF 0

/-- The cause of a fault that can be held has gone. -/
def State.hlCauseEnds (s : State) (code inst : Nat) : State :=
  { s with hl := { s.hl with causes := s.hl.causes.filter (· ≠ (code, inst)) } }

/-- Spare rows of a bank in use (R448): four to a bank. -/
def State.spareUse (s : State) (g b : Nat) : Nat := (s.hl.spares.filter fun e => e.1 = g ∧ e.2.1 = b).length

/-- Spare rows of a bank that are taken: in use, or for a repair that is queued. -/
def State.spareTaken (s : State) (g b : Nat) : Nat := s.spareUse g b + (s.hl.queue.filter fun e => e.1 = g ∧ e.2.1 = b).length

/-- The two cells of a store row, and the eight of a DRAM row, in the order of banks and rows (R448, R450, log entry 60). -/
def rowCells (g b r : Nat) : List Nat :=
  match g with
  | 0 => (List.range 2).map (2 * (128 * b + r) + ·)
  | 7 => (List.range 8).map (0x2000000 + 8 * (16384 * b + r) + ·)
  | _ => []

/-- The cells that frames hold (R184). -/
def State.cellsHeld (s : State) : List Nat := (s.sc.frames.map fun e => e.2.ptrs).flatten

/-- Cells that are out of the free lists: of retired rows, and of DRAM rows whose repair is queued (R450, R452). -/
def State.cellsOut (s : State) : List Nat :=
  ((s.hl.retired ++ s.hl.queue.filter fun e => e.1 = 7).map fun e => rowCells e.1 e.2.1 e.2.2).flatten

/-- Of these cells, the number that no frame holds. -/
def State.unheld (s : State) (l : List Nat) : Nat := (l.filter fun c => !s.cellsHeld.contains c).length

/-- Retire a row: no spare is free or the queue is full. Its cells leave the free list, those that frames hold as they become free (R450). -/
def State.hlRetire (s : State) (g b r : Nat) : State :=
  let s := { s with hl := { s.hl with retired := s.hl.retired ++ [(g, b, r)], queue := s.hl.queue.filter (· ≠ (g, b, r)) } }
  let s := (s.add (HL_SPARE_retired g) 1).raise HL_INT_STAT_retired
  let s := if g = 0 then s.set SC_BUF_STAT_sram_free (s.get SC_BUF_STAT_sram_free - s.unheld (rowCells 0 b r)) else s
  s.hlLog 0 5 g r b

/-- A bank with at most one free spare: HL_STAT.spares_low, and its cause (R450). -/
def State.sparesLow (s : State) : State := (s.raise HL_STAT_spares_low).raise HL_INT_STAT_spares_low

/-- Queue the repair of a faulty row; a row already queued joins its repair (R450). -/
def State.hlQueueRow (s : State) (g b r : Nat) : State :=
  if s.hl.queue.contains (g, b, r) ∨ s.hl.retired.contains (g, b, r) then s
  else if (g ≠ 7 ∧ 4 ≤ s.spareTaken g b) ∨ 32 ≤ s.hl.queue.length then s.hlRetire g b r
  else
    let s := { s with hl := { s.hl with queue := s.hl.queue ++ [(g, b, r)] } }.raise HL_STAT_repair_busy
    if g ≠ 7 ∧ 3 ≤ s.spareUse g b then s.sparesLow else s

/-! ### The settings store (R433) -/

/-- Which slot the code names. -/
def State.fwSlot (s : State) (k : Nat) : FwSlot := if k = 0 then s.fu.slotA else s.fu.slotB

/-- A field of a slot's header; 0 where the slot has none. -/
def FwSlot.fld (x : FwSlot) (i n : Nat) : Nat := match x.header with | some h => leAt h i n | none => 0

/-- The later of two 32-bit generations, compared as R149 compares epochs. -/
def laterGen (a b : Nat) : Bool := decide (a ≠ b) && decide ((a + 2 ^ 32 - b) % 2 ^ 32 < 2 ^ 31)

/-- The record with the latest generation. -/
def latestRec : List SetRec → Option SetRec
  | [] => none
  | r :: l => match latestRec l with | some q => some (if laterGen q.gen r.gen then q else r) | none => some r

/-- The record that firmware of schema `k` uses. -/
def State.record (s : State) (k : Nat) : Option SetRec := latestRec (s.fu.store.filter fun r => decide (r.schema ≤ k))

/-- The schema of the running firmware; the recovery loader goes by the record in the store (log entry 18). -/
def State.schema (s : State) : Nat :=
  if s.fu.running < 2 then (s.fwSlot s.fu.running).fld 44 2 else match latestRec s.fu.store with | some r => r.schema | none => 0

/-- Write a record of schema `k` with the next generation in place of the one of that schema. -/
def State.writeRecord (s : State) (k : Nat) (data : Tab Word) : State :=
  let gen := match latestRec s.fu.store with | some r => (r.gen + 1) % 2 ^ 32 | none => 1
  { s with fu := { s.fu with store := (s.fu.store.filter fun r => decide (r.schema ≠ k)) ++ [⟨k, gen, data⟩] } }

/-- Keep register words in the store. -/
def State.saveSettings (s : State) (l : List (Nat × Word)) : State :=
  let data := match s.record s.schema with | some r => r.data | none => []
  s.writeRecord s.schema (l.foldl (fun t e => t.put 0 e.1 e.2) data)

end Sys2Proof.Machine
end

