-- ==== Sys2Proof/Machine/Mailbox.lean ====
section
/-! DEFINITION. The Miarn mailboxes (R62 to R74, R508): ownership, states, taking a request, answering it, and the frame in
which every opcode runs its own checks and effect. -/

namespace Sys2Proof.Machine

/-- The mailbox states of R62. -/
def mbIdle : Nat := 0
def mbPosted : Nat := 1
def mbTaken : Nat := 2
def mbDone : Nat := 3

/-- What mailbox `n` holds beside its registers. -/
def State.mb (s : State) (n : Nat) : Mbox := s.mbox.get Mbox.empty n

/-- Store it. -/
def State.setMb (s : State) (n : Nat) (m : Mbox) : State := { s with mbox := s.mbox.put Mbox.empty n m }

/-- The state of mailbox `n`. -/
def State.mbState (s : State) (n : Nat) : Nat := s.get (MB_STAT_state n)

/-- The master owns mailbox `n`: PCIe where its owner bit is 0, the MSP where it is 1 (R62). -/
def State.mbOwns (s : State) (m : Master) (n : Nat) : Bool :=
  match m with
  | .pcie => !s.bit MB_OWNER n
  | .msp => s.bit MB_OWNER n
  | _ => false

/-- A change of MB_OWNER takes effect for each mailbox that is IDLE (R62). -/
def State.ownerApply (s : State) : State :=
  (List.range 4).foldl (fun s n =>
    if s.mbState n = mbIdle ∧ s.bit MB_OWNER n ≠ bitOf s.ownerNext n then s.set ⟨MB_OWNER, n, n⟩ (flag (bitOf s.ownerNext n))
    else s) s

/-- The request of mailbox `n` is answered or dropped: it leaves the order of the doorbells (R71). -/
def State.mbLeave (s : State) (n : Nat) : State := { s with mp := { s.mp with order := s.mp.order.filter (· ≠ n) } }

/-- Mailbox `n` returns to IDLE. -/
def State.mbToIdle (s : State) (n : Nat) : State := ((s.mbLeave n).set (MB_STAT_state n) mbIdle).ownerApply

/-- The words of a message: header and payload (R63). -/
def mbWords (opcode seq flags epoch : Nat) (payload : Bytes) : List Word :=
  bytesWords (leBytes 2 opcode ++ leBytes 2 seq ++ leBytes 4 payload.length ++ leBytes 2 flags ++ leBytes 2 epoch
    ++ leBytes 4 (crc32c payload) ++ payload)

/-- The 8-byte status word of R64 followed by data. -/
def mbPayload (status detail value : Nat) (data : Bytes) : Bytes :=
  leBytes 2 status ++ leBytes 2 detail ++ leBytes 4 value ++ data

/-- Write the response of request `r` and reach DONE; after a reset of the PCIe side the response is discarded and the
mailbox passes to IDLE with no source (R47, R62, R63). -/
def State.mbAnswerRaw (s : State) (n : Nat) (r : MbReq) (payload : Bytes) : State :=
  let b := s.mb n
  let s := s.setMb n { b with taken := none, waiting := false, discard := false }
  if b.discard then s.mbToIdle n
  else
    let s := s.wrs (MB_RESP n 0) (mbWords r.opcode r.seq (1 + r.flags / 2 % 4 * 2) (s.get MB_EPOCH_epoch) payload)
    ((s.mbLeave n).set (MB_STAT_state n) mbDone).setBit MB_INT_STAT n

/-- Answer request `r` of mailbox `n`. Unless the answer is BUSY, ABORTED or BAD_CRC it becomes the last completed request,
with its response stored (R64, R67). -/
def State.mbAnswer (s : State) (n : Nat) (r : MbReq) (status detail value : Nat) (data : Bytes) : State :=
  let p := mbPayload status detail value data
  let s := s.mbAnswerRaw n r p
  if status = 1 ∨ status = 3 ∨ status = 5 then s
  else s.setMb n { s.mb n with last := some (r.opcode, r.seq, r.crc, r.epoch, p) }

/-- REJECTED with a reason (R64). -/
def State.mbReject (s : State) (n : Nat) (r : MbReq) (reason : Nat) : State := s.mbAnswer n r 2 reason 0 []

/-- The common reasons of R64. -/
def noInstance : Nat := 1
def badLength : Nat := 2
def badParam : Nat := 3
def badState : Nat := 4
def segOrder : Nat := 5
def inRecovery : Nat := 6

/-- The valid opcodes (R74). -/
def opcodes : List Nat :=
  [0x0100, 0x0101, 0x1000, 0x1001, 0x1002, 0x1003, 0x1004, 0x1005, 0x1006, 0x1007, 0x1100, 0x1101, 0x1102,
   0x1200, 0x1201, 0x1202, 0x1203, 0x2000, 0x2001, 0x2002, 0x2003, 0x2004, 0x2100, 0x2101, 0x2102, 0x2103,
   0x3000, 0x3001, 0x3002, 0x3003, 0x4000, 0x4001, 0x4002, 0x4003, 0x4004, 0x4005, 0x4006,
   0x5000, 0x5001, 0x5002, 0x5003, 0x5004, 0x5005, 0x6000, 0x6001]

/-- The bytes of the first `k` words of the request buffer of mailbox `n`. -/
def State.mbBytes (s : State) (n k : Nat) : Bytes :=
  ((List.range k).map fun w => wordBytes (s.rd (MB_REQ n w))).flatten

/-- Check 7: the segment rules of R68. A segment that is not the last is answered OK; the last one completes the message. -/
def State.mbSegment (s : State) (n : Nat) (r : MbReq) : State :=
  let b := s.mb n
  let isLast := bitOf r.flags 2
  let rejectSeg := (s.setMb n { b with segs := none }).mbReject n r segOrder
  match b.segs with
  | none =>
    if isLast then rejectSeg
    else (s.setMb n { b with segs := some (r.opcode, r.seq, r.epoch, r.payload, 1) }).mbAnswer n r 0 0 0 []
  | some (op, seq, ep, data, k) =>
    if op = r.opcode ∧ seq = r.seq ∧ ep = r.epoch ∧ k < 32 then
      if isLast then s.setMb n { b with segs := none, taken := some { r with payload := data ++ r.payload } }
      else (s.setMb n { b with segs := some (op, seq, ep, data ++ r.payload, k + 1) }).mbAnswer n r 0 0 0 []
    else rejectSeg

/-- Checks 3 to 7 of R508 on a request whose length and CRC are good. Of the flags only bits 1 and 2 are looked at: a request that breaks
R63 in bit 0 or bits [15:3], or sets bit 2 without bit 1, is served as if it did not (log entry 58). -/
def State.mbChecks (s : State) (n : Nat) (r : MbReq) : State :=
  if r.epoch ≠ s.get MB_EPOCH_epoch then s.mbAnswer n r 3 1 (s.get MB_EPOCH_epoch) []
  else
    let stored := match (s.mb n).last with
      | some (op, seq, crc, ep, p) => if op = r.opcode ∧ seq = r.seq ∧ crc = r.crc ∧ ep = r.epoch then some p else none
      | none => none
    match stored with
    | some p => s.mbAnswerRaw n r p
    | none =>
      if ¬ opcodes.contains r.opcode then s.mbAnswer n r 4 0 0 []
      else if s.on MB_EPOCH_recovery ∧ r.opcode / 256 ≠ 0x01 ∧ r.opcode / 256 ≠ 0x40 then s.mbReject n r inRecovery
      else if bitOf r.flags 1 then s.mbSegment n r
      else s

/-- The core clock until which a request taken now is BUSY: in the pause of a handover, 100 000 µs after its start (R431); with a full
queue, after the time that the MP gives (R69). -/
def State.busyTill (s : State) (busyUs : Option Nat) : Option Nat :=
  match s.fu.pause with
  | some at' => some (at' + 100000 * 1250)
  | none => busyUs.map fun u => s.clk + u * 1250

/-- Take a POSTED request: `misread` tells that the first reading of the buffer was corrupted (R65), `busyUs` that a queue of
the MP is full and for how long (R69). -/
def State.mbTakeReq (s : State) (n : Nat) (misread : Bool) (busyUs : Option Nat) : State :=
  let h := s.mbBytes n 4
  let len := leAt h 4 4
  let r : MbReq := ⟨leAt h 0 2, leAt h 2 2, leAt h 8 2, leAt h 10 2, leAt h 12 4, []⟩
  let b := s.mb n
  let s := (s.set (MB_STAT_state n) mbTaken).pm 7 0x72 1
  let s := s.setMb n { b with taken := some r, waiting := false,
                              segs := if bitOf r.flags 1 then b.segs else none,
                              busy := match s.busyTill busyUs with | some t => some (r.opcode, r.seq, r.crc, t) | none => b.busy }
  if 4080 < len then s.mbReject n r badLength
  else
    let payload := (s.mbBytes n (4 + (len + 3) / 4)).drop 16 |>.take len
    let r := { r with payload := payload }
    if crc32c payload ≠ r.crc then s.mbAnswer n r 5 0 0 []
    else
      let s := s.setMb n { s.mb n with taken := some r }
      let s := if misread then (s.hlTransient 0x08 n 0xFFFF r.crc).2 else s
      s.mbChecks n r

/-- What an opcode answers to its request: a rejection with its reason, BUSY, the response data with the state it leaves, or
a rejection after an attempt, with the state that leaves, or an answer that comes with a later event. -/
inductive Answer where
  | reject (reason : Nat)
  | busy (us : Nat)
  | ok (data : Bytes) (s : State)
  | failed (reason : Nat) (s : State)
  | later (s : State)
deriving DecidableEq, Repr

/-- The µs for which request `r` of mailbox `n` is still BUSY (R69). -/
def State.mbBusyUs (s : State) (n : Nat) (r : MbReq) : Nat :=
  match (s.mb n).busy with
  | some (op, seq, crc, t) => if op = r.opcode ∧ seq = r.seq ∧ crc = r.crc then (t - s.clk + 1249) / 1250 else 0
  | none => 0

/-- Serve the request TAKEN in mailbox `n` where its opcode is `op`: checks 8 and 9 of R508, then the effect. While the
mailbox's retry-after runs, a request that passes check 8 is BUSY with the remaining time, whether or not the resource is free again (R69). -/
def State.mbServe (s : State) (n op : Nat) (k : MbReq → State → Answer) : State :=
  match (s.mb n).taken with
  | none => s
  | some r =>
    if s.mbState n = mbTaken ∧ r.opcode = op ∧ (s.mb n).waiting = false ∧ s.mpRuns then
      match k r s with
      | .reject reason => s.mbReject n r reason
      | .busy us =>
        if 0 < s.mbBusyUs n r then s.mbAnswer n r 1 0 (s.mbBusyUs n r) []
        else (s.setMb n { s.mb n with busy := some (r.opcode, r.seq, r.crc, s.clk + us * 1250) }).mbAnswer n r 1 0 us []
      | .ok data t =>
        if 0 < s.mbBusyUs n r then s.mbAnswer n r 1 0 (s.mbBusyUs n r) [] else t.mbAnswer n r 0 0 0 data
      | .failed reason t =>
        if 0 < s.mbBusyUs n r then s.mbAnswer n r 1 0 (s.mbBusyUs n r) [] else t.mbReject n r reason
      | .later t =>
        if 0 < s.mbBusyUs n r then s.mbAnswer n r 1 0 (s.mbBusyUs n r) [] else t.setMb n { t.mb n with waiting := true }
    else s

/-- The opcode of the request that mailbox `n` holds: taken, or POSTED and still in its buffer. -/
def State.mbOpcode (s : State) (n : Nat) : Nat :=
  match (s.mb n).taken with
  | some r => r.opcode
  | none => leAt (s.mbBytes n 1) 0 2

/-- A request whose doorbell rang before that of mailbox `n`, in another mailbox, waits for the same resource (R71). Two opcodes act on one
resource where they are of one group of R74 (log entry 59). -/
def State.mbBehind (s : State) (n op : Nat) : Bool :=
  (s.mp.order.takeWhile (· ≠ n)).any fun k =>
    decide (k < 4) && !(s.mb k).waiting && decide (s.mbState k = mbPosted ∨ s.mbState k = mbTaken) && decide (s.mbOpcode k / 256 = op / 256)

/-- Can the request be served now: TAKEN with this opcode, not yet executing, its turn come, the MP running? -/
def State.mbReady (s : State) (n op : Nat) : Bool :=
  match (s.mb n).taken with
  | none => false
  | some r => decide (s.mbState n = mbTaken) && decide (r.opcode = op) && !(s.mb n).waiting && s.mpRuns && !s.mbBehind n op

/-- The meaning of an opcode's row: serve its request where one is ready. -/
def State.mbRow (s : State) (n op : Nat) (k : MbReq → State → Answer) : Host.Outcome State Fault Refusal :=
  finishIf (s.mbReady n op) s (s.mbServe n op k)

/-- Answer every request that waits for an event and satisfies `p`; `a` gives the answer: status REJECTED with a reason, or
OK with data. -/
def State.mbAnswerWaiting (s : State) (p : MbReq → Bool) (a : Nat ⊕ Bytes) : State :=
  (List.range 4).foldl (fun s n =>
    match (s.mb n).taken with
    | some r =>
      if (s.mb n).waiting ∧ p r ∧ s.mbState n = mbTaken then
        match a with
        | .inl reason => s.mbReject n r reason
        | .inr data => s.mbAnswer n r 0 0 0 data
      else s
    | none => s) s

/-- Is a request waiting that satisfies `p`? -/
def State.mbWaits (s : State) (p : MbReq → Bool) : Bool :=
  (List.range 4).any fun n =>
    match (s.mb n).taken with
    | some r => (s.mb n).waiting && p r
    | none => false

/-! ### Writes by the owner -/

/-- Write word `w` of the request buffer of mailbox `n` (R62). -/
def State.mbWrite (s : State) (m : Master) (n w : Nat) (v : Word) : State :=
  if s.mbOwns m n ∧ s.mbState n = mbIdle then s.wr (MB_REQ n w) v else s.inc (MB_ERR_wr_drop n)

/-- Ring the doorbell of mailbox `n` (R62). -/
def State.mbDoorbell (s : State) (m : Master) (n : Nat) : State :=
  if s.mbOwns m n ∧ s.mbState n = mbIdle then
    { s.set (MB_STAT_state n) mbPosted with mp := { s.mp with order := s.mp.order.filter (· ≠ n) ++ [n] } }
  else s.inc (MB_ERR_db_drop n)

/-- Acknowledge mailbox `n` (R62). -/
def State.mbAckIt (s : State) (m : Master) (n : Nat) : State :=
  if s.mbOwns m n ∧ s.mbState n = mbDone then s.mbToIdle n else s

/-! ### Commands -/

/-- MB_TAKE (R508): the MP takes a POSTED request. -/
def execMbTake (n : Fin 4) (misread : Bool) (busyUs : Option Nat) (s : State) : Host.Outcome State Fault Refusal :=
  finishIf (s.mpRuns && decide (s.mbState n = mbPosted)) s (s.mbTakeReq n misread busyUs)

/-- SYS_ECHO (R76). -/
def execSysEcho (n : Fin 4) (s : State) : Host.Outcome State Fault Refusal :=
  s.mbRow n 0x0101 fun r s => if 4072 < r.payload.length then .reject badLength else .ok r.payload s

end Sys2Proof.Machine
end

