-- ==== Sys2Proof/Machine/PxLink.lean ====
section
/-! DEFINITION. The state of FPL links: roles, the fall back to WAIT, calibration validity and the delivery of the reference (R280,
R281, R290, R292, R295). The lanes and ports act on links through these operations; the exchanges stand in Px.lean. -/

namespace Sys2Proof.Machine

/-- Link `l` beside its registers. -/
def State.linkOf (s : State) (l : Nat) : Link := s.px.get Link.reset l

/-- Store it. -/
def State.setLink (s : State) (l : Nat) (x : Link) : State := { s with px := s.px.put Link.reset l x }

/-- The cycle of a time in 2⁻¹⁶ ns. -/
def cycleOf (t : Int) : Nat := (t / (125000 * 65536)).toNat

/-- The link's records with a new one, 4 in all. -/
def State.addExch (s : State) (l : Nat) (e : Exch) : State := s.setLink l { s.linkOf l with recs := (e :: (s.linkOf l).recs).take 4 }

/-- The frame of PING(n) or PONG(n) leaves port `l` at `t`: a PING's departure is t1(n), a PONG's t3(n) (R283, R287). -/
def State.fplDeparts (s : State) (l : Nat) (m : Option (Nat × Bool)) (t : Time) : State :=
  let at' : Int := ((t.toNat / 2 ^ 16 : Nat) : Int)
  match m with
  | none => s
  | some (n, false) => s.addExch l ⟨n, cycleOf at', at', none, none, none, s.get TB_STEP_CNT_count, false⟩
  | some (n, true) =>
    s.setLink l { s.linkOf l with recs := (s.linkOf l).recs.map fun e => if e.seq = n ∧ e.b.isNone then { e with b := some at' } else e }

/-- The state of link `l`: 0 DISABLED, 1 WAIT, 2 COARSE, 3 CALIBRATING, 4 FINE. -/
def State.linkState (s : State) (l : Nat) : Nat := s.get (PX_STAT_state l)

/-- Raise a cause of link `l`. -/
def State.pxCause (s : State) (l : Nat) (f : FRef) : State := (s.raise f).setBit2 PX_EVT_LO PX_EVT_HI l

/-- The role in force is downstream. -/
def State.linkDown (s : State) (l : Nat) : Bool := decide ((s.linkOf l).role = some true)

/-- The link exchanges messages: COARSE, CALIBRATING or FINE. -/
def State.linkUp (s : State) (l : Nat) : Bool := decide (2 ≤ s.linkState l)

/-- The exchanges of link `l` feed the time channel: it is COARSE or FINE (R295). -/
def State.linkFeeds (s : State) (l : Nat) : Bool := decide (s.linkState l = 2) || decide (s.linkState l = 4)

/-- PX_REF_STAT and PX_STAT.delivering: the link in force, downstream, and COARSE or FINE, while the lease holds (R295, R296). -/
def State.pxRef (s : State) : State :=
  let r := s.get PX_REF_STAT_link
  let on := s.on PX_REF_STAT_lease_ok && decide (r < s.lanes) && s.linkFeeds r && s.linkDown r
  let s := s.setB PX_REF_STAT_delivering on
  (List.range s.lanes).foldl (fun s l => s.setB (PX_STAT_delivering l) (on && decide (l = r))) s

/-- The pair window of link `l` starts again (R294). -/
def State.pairRestart (s : State) (l : Nat) : State :=
  let s := s.setLink l { s.linkOf l with sumRt := 0, nRt := 0 }
  if s.get (PX_LINK_CTRL_asym_src l) = 2 then s.raise (PX_STAT_asym_stale l) else s

/-- Link `l` enters state `st`. Leaving FINE restarts the pair windows of the link and of its pair. A PX_CALIBRATE whose calibration does not end,
because the link has left CALIBRATING for WAIT or DISABLED, is answered BAD_STATE (log entry 14). -/
def State.linkEnter (s : State) (l st : Nat) : State :=
  let old := s.linkState l
  if old = st then s
  else
    let s := (s.set (PX_STAT_state l) st).pxCause l PX_INT_STAT_state_chg
    let s := s.setLink l { s.linkOf l with good := 0, bad := 0, calTold := false }
    let s := if old = 3 ∧ st < 2 then
      s.mbAnswerWaiting (fun q => decide (q.opcode = 0x2101) && decide (byteAt q.payload 0 = l)) (.inl badState) else s
    let s := if old = 4 then
        let s := s.pairRestart l
        if s.on (PX_PAIR_valid l) ∧ s.get (PX_PAIR_port l) < s.lanes then s.pairRestart (s.get (PX_PAIR_port l)) else s
      else s
    let s := if st = 2 ∧ old < 2 then s.setLink l { s.linkOf l with lasting := 0, missed := false, recs := [] } else s
    s.pxRef

/-- The link falls to WAIT, its published results held and flagged calibration stale (R281). -/
def State.linkWait (s : State) (l : Nat) : State :=
  if s.linkState l = 0 then s
  else
    let s := s.setLink l { s.linkOf l with recs := [], pub := none, phases := false, missed := false }
    (s.raise (PX_STAT_cal_stale l)).linkEnter l 1

/-- cal_valid clears, and the published results are calibration stale (R292). -/
def State.calLost (s : State) (l : Nat) : State := (s.set (PX_STAT_cal_valid l) 0).raise (PX_STAT_cal_stale l)

/-- The lane of link `l` withdraws its clock: WAIT, unless the link itself calibrates (R281). -/
def State.linkClockLost (s : State) (l : Nat) : State := if s.linkState l = 3 then s else s.linkWait l

/-- PT_STAT.link_up of port `p` reads 0, or the port is disabled or looped: WAIT. A loss of lock alone, in the outage of the link's own
calibration, leaves it in CALIBRATING (R281, R291). -/
def State.linkPortLost (s : State) (p : Nat) : State :=
  if s.linkState p = 3 ∧ ¬ s.portOff p ∧ s.loopOf p = 0 then s else s.linkWait p

end Sys2Proof.Machine
end

