-- ==== Sys2Proof/Machine/Outs.lean ====
section
/-! DEFINITION. The clock outputs and pulse generators (R350 to R361, R373 to R377). Outputs 16 and 17 name PPS_OUT0 and
PPS_OUT1. -/

namespace Sys2Proof.Machine

/-! ### Channels as the outputs see them -/

/-- Channel `c` beside its registers. -/
def State.chanOf (s : State) (c : Nat) : Chan := s.chan.get Chan.reset c

/-- Store it. -/
def State.setChan (s : State) (c : Nat) (k : Chan) : State := { s with chan := s.chan.put Chan.reset c k }

/-- TC_DCO_NOM of channel `c` in Hz. -/
def State.dcoNom (s : State) (c : Nat) : Nat := s.get (TC_DCO_NOM_LO_f_lo c) + s.get (TC_DCO_NOM_HI_f_hi c) * 2 ^ 32

/-- The DCO of channel `c` runs at frequency: present, enabled, neither hopping nor searching its band. -/
def State.dcoRuns (s : State) (c : Nat) : Bool :=
  decide (c < s.chans) && s.on (TC_CTRL_enable c) && (s.chanOf c).hop.isNone

/-- Channel `c` is TC stale: from a reset, or through a TDC calibration (R334, R335). -/
def State.tcStale (s : State) (c : Nat) : Bool := (s.chanOf c).rstStale || s.on (TC_STAT_tdc_cal c)

/-- The steer with the ramp, in 10⁻¹⁵. -/
def State.fullSteer (s : State) (c : Nat) : Int :=
  (s.chanOf c).y + (match (s.chanOf c).ramp with | some r => if r.running then r.yr / 1000 else 0 | none => 0)

/-- The actual frequency of channel `c`'s DCO in Hz, its offset and a ramp included (R350, R18). -/
def State.dcoHz (s : State) (c : Nat) : Rat := (s.dcoNom c : Rat) * (1 + (s.fullSteer c : Rat) / 10 ^ 15)

/-! ### Status of an output -/

/-- The channel of output `o`. -/
def State.outCh (s : State) (o : Nat) : Nat := s.get (OU_CTRL_channel o)

/-- Is `o` a pulse generator (R358)? -/
def State.isGen (s : State) (o : Nat) : Bool := decide (16 ≤ o) || s.on (OU_CTRL_mode o)

/-- The output is in its off state because the module is not active (R403, TW_CTRL.out_gate). -/
def State.gated (s : State) (o : Nat) : Bool := s.on TW_CTRL_out_gate && s.bit TW_OUT_MASK o && !s.on TW_STAT_role_act

/-- The output may run: enabled, not failed under R351, and fed by a channel whose DCO runs (R356). -/
def State.outRuns (s : State) (o : Nat) : Bool :=
  s.on (OU_CTRL_enable o) && !s.ou.failed.contains o && s.dcoRuns (s.outCh o)

/-- Generator `o` beside its registers. -/
def State.genOf (s : State) (o : Nat) : Gen := s.ou.gens.get Gen.idle o

/-- Store it. -/
def State.setGen (s : State) (o : Nat) (g : Gen) : State := { s with ou := { s.ou with gens := s.ou.gens.put Gen.idle o g } }

/-- The output has restarted: the common edge lies behind (R353). -/
def State.outStarted (s : State) (o : Nat) : Bool :=
  match s.ou.start.get none o with
  | some t => decide (t ≤ s.clk)
  | none => false

/-- The output toggles or pulses: a generator once it is aligned; a clock from its restart, or to the end of a period that was current when
it stopped (R353, R356, R361). -/
def State.outActive (s : State) (o : Nat) : Bool :=
  !s.gated o && (if s.isGen o then s.outRuns o && (s.genOf o).live
    else (s.outRuns o && s.outStarted o) || decide (s.clk < s.ou.tail.get 0 o))

/-- The output is OU stale (R357): its channel is stale or its DCO does not run, or it ran not and the output has yet to restart. -/
def State.outStale (s : State) (o : Nat) : Bool :=
  s.tcStale (s.outCh o) || !s.dcoRuns (s.outCh o) || (s.on (OU_STAT_stale o) && s.outRuns o && !s.isGen o && !s.outStarted o)

/-- A clock output that begins to run restarts 1 µs later, at once with the others of its channel; one that no longer runs is in its off
state (R353). -/
def State.outFollow (s : State) (o : Nat) : State :=
  let t := if ¬ s.outRuns o then none
    else if s.isGen o then some s.clk
    else match s.ou.start.get none o with
      | some t => some t
      | none => some (s.clk + 1250)
  { s with ou := { s.ou with start := s.ou.start.put none o t } }

/-- Raise a cause of output `o`. -/
def State.ouCause (s : State) (o : Nat) (f : FRef) : State := (s.raise f).setBit OU_EVT o

/-- OU_STAT of output `o` follows its channel; a change of stale raises its cause (R357). -/
def State.ouRefresh (s : State) (o : Nat) : State :=
  let s := s.outFollow o
  let was := s.on (OU_STAT_stale o)
  let now := s.outStale o
  let s := (s.setB (OU_STAT_active o) (s.outActive o)).setB (OU_STAT_stale o) now
  let s := s.setB (OU_STAT_ramping o) (match (s.chanOf (s.outCh o)).ramp with | some r => r.running | none => false)
  if now && !was then s.ouCause o OU_INT_STAT_stale_set
  else if was && !now then s.ouCause o OU_INT_STAT_stale_clear
  else s

/-- The outputs present. -/
def State.outList (s : State) : List Nat := (List.range 18).filter s.outHere

/-- OU_STAT of every output. -/
def State.ouRefreshAll (s : State) : State := s.outList.foldl State.ouRefresh s

/-! ### Pins (R355, R356) -/

/-- What a pin of an output shows. -/
inductive Pin where
  /-- High impedance with the weak pull-down. -/
  | highZ
  | low
  | high
  /-- The output's waveform, or its complement. -/
  | signal
  | complement
deriving DecidableEq, Repr

/-- The format in use: PPS_OUT0 and PPS_OUT1 have one pin each, LVCMOS (R355). -/
def State.formatOf (s : State) (o : Nat) : Nat := if 16 ≤ o then 5 else s.get (OU_CTRL_format o)

/-- The pins OUTn_P and OUTn_N in the off state: high impedance, or logic 0, where a differential output drives OUTn_N high (R356). -/
def State.offPins (s : State) (o : Nat) : Pin × Pin :=
  if s.on (OU_CTRL_off_state o) then (.highZ, .highZ) else (.low, if s.formatOf o < 3 then .high else .low)

/-- The pins by format, while the output shows its waveform `on`, or holds its low level (R353, R355). -/
def State.onPins (s : State) (o : Nat) (on : Bool) : Pin × Pin :=
  let p : Pin := if on then .signal else .low
  match s.formatOf o with
  | 3 => (p, p)
  | 5 => (p, (s.offPins o).2)
  | _ => (p, if on then .complement else .high)

/-- The pins of output `o`: high impedance in reset; waveform, low level before a restart, or off state (R353, R355, R356). -/
def State.pins (s : State) (o : Nat) : Pin × Pin :=
  if ¬ s.up then (.highZ, .highZ)
  else if s.outActive o then s.onPins o true
  else if s.outRuns o && !s.gated o && !s.isGen o then s.onPins o false
  else s.offPins o

/-! ### Values (R350, R351, R355, R358) -/

/-- The greatest frequency of a format in Hz (R355). -/
def formatMax (fmt : Nat) : Nat :=
  match fmt with
  | 0 => 1250000000
  | 1 => 400000000
  | 2 => 1250000000
  | _ => 250000000

/-- The denominator as it acts. -/
def actDen (d : Nat) : Nat := if d = 0 then 1 else d

/-- The ratio N + num / den of output `o` (R350). -/
def State.divRatio (s : State) (o : Nat) : Rat :=
  (s.get (OU_DIV_N_n o) : Rat) + (s.get (OU_DIV_NUM_num o) : Rat) / (actDen (s.get (OU_DIV_DEN_den o)) : Rat)

/-- f_out of output `o` in Hz, from the actual DCO (R350). -/
def State.outHz (s : State) (o : Nat) : Rat := s.dcoHz (s.outCh o) / s.divRatio o

/-- What OU_PATH_DLY takes off an output's edges, in DCO periods: always all of it on a generator; modulo the output period in integer mode
with comp_en = 1 (R354, R362). -/
def State.outComp (s : State) (o : Nat) : Rat :=
  let d : Rat := (s.get (OU_PATH_DLY_dly o) : Rat) / 65536 / 10 ^ 9 * s.dcoHz (s.outCh o)
  if s.isGen o then d
  else if s.on (OU_CTRL_comp_en o) ∧ s.get (OU_DIV_NUM_num o) = 0 then d - s.divRatio o * ((d / s.divRatio o).floor : Rat)
  else 0

/-- The delay of OU_DELAY in DCO periods (R354). -/
def State.outDelay (s : State) (o : Nat) : Rat := (s.get (OU_DELAY_coarse o) : Rat) + (s.get (OU_DELAY_fine o) : Rat) / 64

/-- Rising edge `k` of output `o` within the module, in DCO periods after its channel's common edge (R353, R354, R362). -/
def State.edgePos (s : State) (o k : Nat) : Rat := (k : Rat) * s.divRatio o + s.outDelay o - s.outComp o

/-- The period of output `o` in core clocks, rounded up (R18). -/
def State.periodClk (s : State) (o : Nat) : Nat := (1250000000 / s.outHz o).ceil.toNat

/-- Period and width within their ranges (R358). -/
def pulseOk (p w : Nat) : Bool := decide (1000 ≤ p ∧ p ≤ 4000000000 ∧ 8 ≤ w ∧ w + 8 ≤ p)

/-- Do the values that `rd` gives for the registers of output `o` pass the checks of R351? -/
def State.outOk (s : State) (o : Nat) (rd : Nat → Word) : Bool :=
  let v := fun (f : FRef) => bitsOf (rd f.addr) f.hi f.lo
  let c := v (OU_CTRL_channel o)
  let n := v (OU_DIV_N_n o)
  let num := v (OU_DIV_NUM_num o)
  let den := actDen (v (OU_DIV_DEN_den o))
  let fmt := v (OU_CTRL_format o)
  decide (c < s.chans) && pulseOk (v (OU_PULSE_PER_period_ns o)) (v (OU_PULSE_W_width_ns o)) &&
    (decide (16 ≤ o) ||
      (decide (num < den ∧ 8 ≤ n ∧ fmt ≤ 5) &&
        (decide (v (OU_CTRL_mode o) = 1) || decide (s.dcoNom c * den ≤ formatMax fmt * (n * den + num)))))

/-! ### Alignment (R358, R361) -/

/-- The offset O that OU_PULSE_OFS gives generator `o`, in 2⁻¹⁶ ns. -/
def State.gridOfs (s : State) (o : Nat) : Int :=
  signed 32 (s.get (OU_PULSE_OFS_NS_ofs_ns o)) * 65536 + s.get (OU_PULSE_OFS_FRAC_ofs_frac o)

/-- The period of generator `o` in 2⁻¹⁶ ns. -/
def State.gridPer (s : State) (o : Nat) : Int := s.get (OU_PULSE_PER_period_ns o) * 65536

/-- Generator `o` takes the first grid line 2 µs or more after the boundary of this cycle, with the current O (step 1). -/
def State.alignGen (s : State) (o : Nat) : State :=
  let from' : Int := (s.tb.cycle * 125000 + 2000) * 65536
  let p := s.gridPer o
  let g := s.gridOfs o + p * (-((s.gridOfs o - from') / p))
  s.setGen o { s.genOf o with align := some (g, s.gridOfs o) }

/-- The leading edge of generator `o` is placed on its grid line, and it counts from there (step 4). -/
def State.genPlaced (s : State) (o : Nat) (ofs : Int) : State :=
  let s := s.setGen o ⟨ofs, none, true, 0, 0⟩
  let s := (s.set (OU_STAT_unaligned o) 0).setB (OU_STAT_aligned_suspect o) (s.on TB_STAT_suspect)
  s.ouCause o OU_INT_STAT_realign_done

/-- The alignments of this boundary: the captured requests, for the generators named that are enabled. -/
def State.realignBoundary (s : State) : State :=
  let due := s.ou.realign.filter fun e => decide (e.2 + 32 < s.clk)
  let later := s.ou.realign.filter fun e => !decide (e.2 + 32 < s.clk)
  let s := { s with ou := { s.ou with realign := later } }
  s.outList.foldl (fun s o =>
    if due.any fun e => bitOf e.1 o then
      let s := s.setB (OU_STAT_realign_pending o) (later.any fun e => bitOf e.1 o)
      if s.isGen o && s.on (OU_CTRL_enable o) then s.alignGen o else s
    else s) s

/-- A write of OU_REALIGN waits for the next cycle boundary (R35, R361). -/
def State.realignReq (s : State) (v : Nat) : State :=
  let s := { s with ou := { s.ou with realign := s.ou.realign ++ [(v % 2 ^ 18, s.clk)] } }
  s.outList.foldl (fun s o =>
    if bitOf v o && s.isGen o && s.on (OU_CTRL_enable o) then s.raise (OU_STAT_realign_pending o) else s) s

/-! ### The cycle boundary (R351, R353) -/

/-- Apply the captured values of output `o`, or drop them where they fail; check the values in force against the frequencies
that now apply. -/
def State.outBoundary (s : State) (o : Nat) : State :=
  let (now, s) := s.takePend fun a => groupOf a = .out o
  let rd := fun a => (now.foldl (fun w e => if e.1 = a then some e.2.1 else w) none).getD (s.rd a)
  let was := s.on (OU_CTRL_enable o) && s.isGen o
  let bad := !now.isEmpty && !s.outOk o rd
  let s :=
    if now.isEmpty then s
    else if bad then (s.raise (OU_STAT_cfg_err o)).ouCause o OU_INT_STAT_cfg_err
    else
      let s := (now.foldl (fun s e => s.wr e.1 e.2.1) s).set (OU_STAT_cfg_err o) 0
      if !(s.on (OU_CTRL_enable o) && s.isGen o) then s.setGen o Gen.idle else if !was then s.alignGen o else s
  if !s.outOk o s.rd then
    if s.ou.failed.contains o then s
    else ({ s with ou := { s.ou with failed := insertN o s.ou.failed } }.raise (OU_STAT_cfg_err o)).ouCause o OU_INT_STAT_cfg_err
  else if s.ou.failed.contains o then
    let s := { s with ou := { s.ou with failed := s.ou.failed.filter (· ≠ o) } }
    if bad then s else s.set (OU_STAT_cfg_err o) 0
  else s

/-- What R353 has an output restart for: OU_CTRL, the divider registers and OU_DELAY. -/
def State.outVals (s : State) (o : Nat) : List Word := [OU_CTRL o, OU_DIV_N o, OU_DIV_NUM o, OU_DIV_DEN o, OU_DELAY o].map s.rd

/-- Clock output `o`, which toggled before this boundary, ends its current period: at a time within one period, which the spec leaves open
(log entry 46). -/
def State.outTail (was s : State) (o : Nat) : State :=
  if ¬ was.outActive o ∨ was.isGen o then s
  else
    let (v, s) := s.draw 32
    { s with ou := { s.ou with tail := s.ou.tail.put 0 o (s.clk + v % (was.periodClk o + 1)) } }

/-- The restarts of a boundary (R353): the clock outputs whose values changed end their period, and those that run restart together by
channel, 1 µs after the boundary or at the end of the last of those periods. -/
def State.outRestarts (was s : State) : State :=
  let changed := s.outList.filter fun o => decide (was.outVals o ≠ s.outVals o)
  let s := changed.foldl (fun s o => State.outTail was s o) s
  let fresh := changed.filter fun o => s.outRuns o && !s.isGen o
  let due := fun c => fresh.foldl (fun t o => if s.outCh o = c then max t (s.ou.tail.get 0 o) else t) (s.clk + 1250)
  fresh.foldl (fun (t : State) o => { t with ou := { t.ou with start := t.ou.start.put none o (some (due (s.outCh o))) } }) s

/-- The boundary of every output. -/
def State.ouBoundary (s : State) : State := ((State.outRestarts s (s.outList.foldl State.outBoundary s)).realignBoundary).ouRefreshAll

/-- Clock output `o` restarts on this tick. -/
def State.outStartsNow (s : State) (o : Nat) : Bool :=
  !s.isGen o && s.outRuns o && (match s.ou.start.get none o with | some t => decide (t ≤ s.clk ∧ s.clk < t + 2) | none => false)

/-- A tick: outputs whose common edge has come restart, and periods that were current end (R353). -/
def State.ouTick (s : State) : State :=
  if ¬ s.up then s
  else
    let fresh := s.outList.filter s.outStartsNow
    if fresh.isEmpty && s.ou.tail.isEmpty then s
    else
      let s := fresh.foldl (fun s o => s.emit (.clock o (s.edgePos o 0))) s
      { s with ou := { s.ou with tail := s.ou.tail.filter fun e => decide (s.clk < e.2) } }.ouRefreshAll

/-! ### Commands -/

/-- A leading edge of generator `g` at TB `cap`: its count moves on by P × TC_DCO_NOM with the remainder kept (R359), the pulse leaves, and e is
taken against the nearest grid line (R360). Gated off, it is not seen at the balls (R403). -/
def State.pulseAt (s : State) (g : Nat) (cap : Int) : State :=
  let k := s.genOf g
  let n := s.get (OU_PULSE_PER_period_ns g) * s.dcoNom (s.outCh g) * 64 + k.rest
  let s := s.setGen g { k with count := k.count + n / 1000000000, rest := n % 1000000000 }
  if s.gated g then s
  else
    let s := s.emit (.pulse g (s.on (OU_CTRL_invert g)) (s.get (OU_PULSE_W_width_ns g)))
    let p := s.gridPer g
    let e := (cap - k.ofs + p / 2) % p - p / 2
    let s := s.set (OU_PULSE_ERR_err g) (twos 32 (satSigned 32 e))
    if s.get (OU_PULSE_THR_thr_ps g) * 65536 < e.natAbs * 1000 ∧ ¬ s.on (OU_STAT_unaligned g) then
      (s.raise (OU_STAT_unaligned g)).ouCause g OU_INT_STAT_unaligned
    else s

/-- TB at this tick in 2⁻¹⁶ ns. -/
def State.tb16 (s : State) : Int := ((s.tb.toNat / 2 ^ 16 : Nat) : Int)

/-- The edges before this time belong to the old phase of a generator that is being placed on `line`: G_k − (W + 8 ns) (R361). -/
def State.oldPhaseEnd (s : State) (g : Nat) (line : Int) : Int := line - (s.get (OU_PULSE_W_width_ns g) + 8) * 65536

/-- PULSE_EDGE (R360): a leading edge of generator `g` comes `back` (in 2⁻¹⁶ ns, within a tick) before this tick. While an alignment is on
its way, the pulses before G_k − (W + 8 ns) are of the old phase, and the next is the one placed on G_k (R361). -/
def execPulseEdge (g : Fin 18) (back : Fin 104858) (s : State) : Host.Outcome State Fault Refusal :=
  finishIf (s.outHere g && s.isGen g && s.outRuns g) s (
    let cap := s.tb16 - back.val
    match (s.genOf g).align with
    | some (line, ofs) =>
      if s.oldPhaseEnd g line ≤ cap then (((s.genPlaced g ofs).pulseAt g cap).ouRefresh g)
      else if (s.genOf g).live then s.pulseAt g cap else s
    | none => if (s.genOf g).live then s.pulseAt g cap else s)

/-- PATH_DELAY_UPDATE (R354): OU_PATH_DLY is corrected for the lid temperature, from the unit's data. -/
def execPathDelayUpdate (s : State) : Host.Outcome State Fault Refusal :=
  whenUp s (
  finish (s.outList.foldl (fun s o => let (v, s) := s.draw 32; s.set (OU_PATH_DLY_dly o) v) s))

/-- The check of an output and a channel number in a request: 0 to 17, 0 to 5, present. -/
def State.outCheck (s : State) (o c : Nat) : Option Nat :=
  if 17 < o ∨ 5 < c then some badParam
  else if ¬ s.outHere o ∨ s.chans ≤ c then some noInstance
  else none

/-- The mailbox's write of an output's control fields. -/
def State.planCtrl (s : State) (o c mode fmt fl : Nat) : State :=
  let s := ((s.put (OU_CTRL_channel o) c).put (OU_CTRL_mode o) mode).put (OU_CTRL_format o) fmt
  let s := (s.put (OU_CTRL_enable o) (fl % 2)).put (OU_CTRL_comp_en o) (fl / 2 % 2)
  (s.put (OU_CTRL_off_state o) (fl / 4 % 2)).put (OU_CTRL_invert o) (fl / 8 % 2)

/-- OU_SET_PLAN (R375). -/
def execOuSetPlan (n : Fin 4) (s : State) : Host.Outcome State Fault Refusal :=
  s.mbRow n 0x1100 fun r s =>
    let o := byteAt r.payload 0
    let c := byteAt r.payload 1
    let mode := byteAt r.payload 2
    let fmt := byteAt r.payload 3
    let fl := byteAt r.payload 4
    if r.payload.length ≠ 24 then .reject badLength
    else match s.outCheck o c with
    | some e => .reject e
    | none =>
      if 1 < mode ∨ 5 < fmt ∨ 15 < fl ∨ leAt r.payload 5 3 ≠ 0 ∨ leAt r.payload 20 4 ≠ 0 then .reject badParam
      else if mode = 1 then
        let p := leAt r.payload 8 4
        let w := leAt r.payload 12 4
        if ¬ pulseOk p w ∨ leAt r.payload 16 4 ≠ 0 then .reject badParam
        else
          let s := ((s.planCtrl o c mode fmt fl).put (OU_PULSE_PER_period_ns o) p).put (OU_PULSE_W_width_ns o) w
          .ok (leBytes 4 (s.get (OU_DIV_N_n o)) ++ leBytes 4 (s.get (OU_DIV_NUM_num o)) ++ leBytes 4 (s.get (OU_DIV_DEN_den o))) s
      else
        let f := leAt r.payload 8 8
        let d := leAt r.payload 16 4
        if 16 ≤ o ∨ f = 0 ∨ d = 0 then .reject badParam
        else
          let top := s.dcoNom c * d
          let div := top / f
          let g := Nat.gcd (top % f) f
          let den := f / g
          let num := top % f / g
          if div < 8 ∨ 4294967295 < div ∨ 16777215 < den then .reject 0x0100
          else if formatMax fmt * d < f then .reject 0x0101
          else
            let s := (((s.planCtrl o c mode fmt fl).put (OU_DIV_N_n o) div).put (OU_DIV_NUM_num o) num).put (OU_DIV_DEN_den o) den
            .ok (leBytes 4 div ++ leBytes 4 num ++ leBytes 4 den) s

/-- OU_REALIGN (R376). -/
def execOuRealignCmd (n : Fin 4) (s : State) : Host.Outcome State Fault Refusal :=
  s.mbRow n 0x1101 fun r s =>
    if r.payload.length ≠ 4 then .reject badLength
    else if byteAt r.payload 3 ≠ 0 ∨ 2 ^ 18 ≤ leAt r.payload 0 3 then .reject badParam
    else if (List.range 18).any (fun o => bitOf (leAt r.payload 0 3) o && !s.outHere o) then .reject noInstance
    else .ok [] (s.realignReq (leAt r.payload 0 3))

/-- OU_GET_STATUS (R377). -/
def execOuGetStatus (n : Fin 4) (s : State) : Host.Outcome State Fault Refusal :=
  s.mbRow n 0x1102 fun r s =>
    let o := byteAt r.payload 0
    if r.payload.length ≠ 4 then .reject badLength
    else match s.outCheck o 0 with
    | some e => .reject e
    | none => if leAt r.payload 1 3 ≠ 0 then .reject badParam else
      .ok (leBytes 1 (bitsOf (s.rd (OU_STAT o)) 6 0) ++ leBytes 1 (s.outCh o) ++ leBytes 1 (flag (s.isGen o))
        ++ leBytes 1 (s.get (OU_CTRL_format o)) ++ leBytes 4 (s.get (OU_DIV_N_n o)) ++ leBytes 4 (s.get (OU_DIV_NUM_num o))
        ++ leBytes 4 (s.get (OU_DIV_DEN_den o)) ++ leBytes 4 (twos 32 (signed 32 (s.get (OU_PULSE_ERR_err o)) * 1000 / 65536))
        ++ leBytes 4 (s.get (OU_PATH_DLY_dly o) * 1000 / 65536)) s

end Sys2Proof.Machine
end

