-- ==== Sys2Proof/Machine/Refs.lean ====
section
/-! DEFINITION. The references of the timing channels: their activity and their statuses (R309, R310, R314). -/

namespace Sys2Proof.Machine

/-- Reference `r` is present: below 63, and not the lane of an absent instance (R309). -/
def State.refHere (s : State) (r : Nat) : Bool := decide (r < 63) && (decide (r < 12) || decide (60 ≤ r) || decide (r - 12 < s.lanes))

/-- The priority of reference `r` in channel `c`; 0 is never. -/
def State.refPrio (s : State) (c r : Nat) : Nat :=
  if s.refHere r then bitsOf (s.rd (TC_REF_PRIO c (r / 8))) (4 * (r % 8) + 3) (4 * (r % 8)) else 0

/-- The status of reference `r` in channel `c`: 0 ABSENT, 1 DISQUALIFIED, 2 QUALIFYING, 3 WTR, 4 QUALIFIED, 5 DEGRADED. -/
def State.refStatus (s : State) (c r : Nat) : Nat := s.get (TC_REF_STAT_status c r)

/-- The selected reference of channel `c`; 63 is none. -/
def State.selRef (s : State) (c : Nat) : Nat := s.get (TC_STAT_sel_ref c)

/-- QUALIFIED or DEGRADED. -/
def passedStatus (st : Nat) : Bool := decide (st = 4) || decide (st = 5)

/-- The selected reference crossed its soft limit: the probation buffer is discarded and recording stops (R328). -/
def State.probDiscard (s : State) (c : Nat) : State :=
  let k := s.chanOf c
  s.setChan c { k with discarded := k.hist.prob.length, discardNow := true, barred := true, clean := false, hist := { k.hist with prob := [] } }

/-- What a change of status of the selected reference brings (R328, R341). -/
def State.selStatus (s : State) (c old st : Nat) : State :=
  let s := s.setChan c { s.chanOf c with clean := false }
  let s := if old = 4 ∧ (st = 5 ∨ st = 1) then s.probDiscard c else s
  if passedStatus old ∧ ¬ passedStatus st then (s.raise (TC_INT_STAT_ref_disq c)).inc (TC_SW_CNT_disq c) else s

/-- Reference `r` of channel `c` takes status `st`. -/
def State.setStatus (s : State) (c r st : Nat) : State :=
  let old := s.refStatus c r
  if old = st then s
  else
    let s := s.set (TC_REF_STAT_status c r) st
    let s := if passedStatus st then s.setChan c { s.chanOf c with had := insertN r (s.chanOf c).had } else s
    let s := if st = 5 then s.raise (TC_INT_STAT_ref_degraded c) else s
    if s.selRef c = r then s.selStatus c old st else s

/-- Reference `r` is active. -/
def State.refActive (s : State) (r : Nat) : Bool := s.on (TC_REF_FREQ_active r)

/-- Reference `r` loses its activity: ABSENT in every channel, at once (R310, R314). -/
def State.refLoss (s : State) (r : Nat) : State :=
  if ¬ s.refActive r then s
  else
    let s := (s.set (TC_REF_FREQ_active r) 0).set (TC_REF_FREQ_valid r) 0
    let s := { s with time := { s.time with okRun := s.time.okRun.filter fun e => decide (e.1 % 64 ≠ r) } }
    (List.range s.chans).foldl (fun s c => s.setStatus c r 0) s

/-- Reference `r` becomes active: it starts qualifying in every channel that is not being reset. -/
def State.refReturn (s : State) (r : Nat) : State :=
  if s.refActive r then s
  else
    let s := s.set (TC_REF_FREQ_active r) 1
    (List.range s.chans).foldl (fun s c => s.setStatus c r 2) s

/-- Reference `r` starts again from QUALIFYING (R310, R334). -/
def State.refRestart (s : State) (c r : Nat) : State := if s.refActive r then s.setStatus c r 2 else s

end Sys2Proof.Machine
end

