-- ==== Sys2Proof/Machine/Pm.lean ====
section
/-! DEFINITION. Performance counters, bandwidth windows, the trace buffer and the 0x60 mailbox group (R464 to R472). -/

namespace Sys2Proof.Machine

/-- PM_SNAP_WRITE (R465): every unit's clock count and counters go to the snapshot registers. -/
def State.pmSnap (s : State) : State :=
  (List.range 8).foldl (fun s u =>
    let s := s.wr64 (PM_SNAP_CYC_LO u) (PM_SNAP_CYC_HI u) (s.rd64 (PM_CYC_LO u) (PM_CYC_HI u))
    (List.range 8).foldl (fun s n =>
      s.wr64 (PM_SNAP_CNT_LO u n) (PM_SNAP_CNT_HI u n) (s.rd64 (PM_CNT_LO u n) (PM_CNT_HI u n))) s) s

/-- PM_CLR_WRITE (R465): every live counter and every bandwidth result becomes 0. -/
def State.pmClear (s : State) : State :=
  let s := (List.range 8).foldl (fun s u =>
    let s := s.wr64 (PM_CYC_LO u) (PM_CYC_HI u) 0
    (List.range 8).foldl (fun s n => s.wr64 (PM_CNT_LO u n) (PM_CNT_HI u n) 0) s) s
  (List.range 48).foldl (fun s p => ((s.wr (PM_BW_RX p) 0).wr (PM_BW_TX p) 0).wr (PM_BW_PEAK p) 0) s

/-- A counter of unit `u` selects the event `ev`. -/
def State.pmSelects (s : State) (u ev : Nat) : Bool := (List.range 8).any fun k => decide (s.get (PM_SEL_event u k) = ev)

/-- Events whose number in a clock the spec leaves to the implementation: clocks of a pipeline without a frame, busy clocks of the engine, and
the MP's instructions and stalls, none while it is stopped. A number of clocks is at most the clocks that passed (R464, log entry 2). -/
def State.pmFree (s : State) (n : Nat) (e : Nat × Nat) : State :=
  if ¬ s.pmSelects e.1 e.2 then s
  else
    let (v, s) := s.draw 16
    let v := if e.2 = 0x70 then v else v % (n + 1)
    s.pm e.1 e.2 (if e.1 = 7 ∧ ¬ s.on MB_EPOCH_mp_running then 0 else v)

/-- The clock count of every unit advances by `n` core clocks while PM runs; code 0x01 counts them too (R464). -/
def State.pmClocks (s : State) (n : Nat) : State :=
  if s.on PM_CTRL_run then
    let s := (List.range 8).foldl (fun s u => (s.add64 (PM_CYC_LO u) (PM_CYC_HI u) n).pm u 0x01 n) s
    [(0, 0x17), (1, 0x17), (2, 0x24), (7, 0x70), (7, 0x71)].foldl (fun s e => s.pmFree n e) s
  else s

/-- The running bandwidth counts of port `p`. -/
def State.bwOf (s : State) (p : Nat) : Bandwidth := s.bw.get ⟨0, 0, 0, 0⟩ p

/-- Count a frame of `len` octets received on port `p`, or sent from it (R466). -/
def State.bwCount (s : State) (p len : Nat) (rx : Bool) : State :=
  let b := s.bwOf p
  let b := if rx then { b with rx := b.rx + len, rxFrames := b.rxFrames + 1 }
    else { b with tx := b.tx + len, txFrames := b.txFrames + 1 }
  { s with bw := s.bw.put ⟨0, 0, 0, 0⟩ p b }

/-- A bandwidth window of port `p` ends on its TB grid, or at a TB step (R466). -/
def State.bwEnd (s : State) (p : Nat) (stepped : Bool) : State :=
  let b := s.bwOf p
  let line := if s.on (PM_BW_CFG_line_mode p) then 20 else 0
  let us := clamp 1 1000000 (s.get (PM_BW_CFG_window_us p))
  let rx := b.rx + line * b.rxFrames
  let tx := b.tx + line * b.txFrames
  let s := ((s.set (PM_BW_RX_octets4 p) (rx / 4)).set (PM_BW_TX_octets4 p) (tx / 4)).setB (PM_BW_CFG_step p) stepped
  let s := if stepped then s else
    (s.set (PM_BW_PEAK_rx_peak p) (min 0xFFFF (max (s.get (PM_BW_PEAK_rx_peak p)) (rx * 8 / (us * 10))))).set
      (PM_BW_PEAK_tx_peak p) (min 0xFFFF (max (s.get (PM_BW_PEAK_tx_peak p)) (tx * 8 / (us * 10))))
  { s with bw := s.bw.put ⟨0, 0, 0, 0⟩ p ⟨0, 0, 0, 0⟩ }

/-- The last tick stepped TB. -/
def State.tickStepped (s : State) : Bool := s.time.jump.isSome

/-- A bandwidth window of port `p` ends on this tick: TB has stepped, or has reached a whole multiple of the window (R466). -/
def State.bwDue (s : State) (p : Nat) : Bool :=
  let w := clamp 1 1000000 (s.get (PM_BW_CFG_window_us p)) * 1000 * 2 ^ 32
  s.tickStepped || decide ((s.tb.toNat - (s.get TB_INCR_HI_incr_hi * 2 ^ 32 + (s.rd TB_INCR_LO).toNat)) / w < s.tb.toNat / w)

/-- BW_WINDOW_END (R466): at any other TB no window of the port ends; `stepped` tells that it ends at a step. -/
def execBwWindowEnd (p : Fin 48) (stepped : Bool) (s : State) : Host.Outcome State Fault Refusal :=
  finishIf (decide (p.val < s.lanes) && s.bwDue p && s.tickStepped == stepped) s (s.bwEnd p stepped)

/-- MP_HIST_ACCUMULATE (R472): the MP reads every SC_DELAY_HIST bin, which clears it, and adds it to its totals. -/
def execMpHistAccumulate (s : State) : Host.Outcome State Fault Refusal :=
  finishIf (s.on PM_CTRL_mp_hist && s.stacksRun) s (
    let lo := SC_DELAY_HIST 0 0
    let hi := SC_DELAY_HIST 472 0
    let bins := s.regs.filter fun e => decide (lo ≤ e.1) && decide (e.1 < hi)
    let hist := bins.foldl (fun h e =>
      let k := (e.1 - lo) / 4
      h.put 0 k ((h.get 0 k + e.2.toNat) % 2 ^ 64)) s.hl.hist
    bins.foldl (fun s e => s.wr e.1 0) { s with hl := { s.hl with hist := hist } })

/-- Write a record to the trace buffer (R468). -/
def State.pmTrace (s : State) (rcd : List Word) : State :=
  let count := s.get PM_TRACE_STAT_count
  let next := s.get PM_TRACE_STAT_next
  if count = 256 ∧ ¬ s.on PM_TAG_CFG_wrap then (s.inc PM_TRACE_STAT_lost)
  else
    let s := (s.wrs (PM_TRACE next 0) rcd).raise PM_INT_STAT_trace_rec
    let s := (s.set PM_TRACE_STAT_count (min 256 (count + 1))).set PM_TRACE_STAT_next (next + 1)
    if count = 255 ∧ ¬ s.on PM_TAG_CFG_wrap then s.raise PM_INT_STAT_trace_full else s

/-- PM_GET_TRACE (R472): records from an entry on, in buffer order. -/
def execPmGetTrace (n : Fin 4) (s : State) : Host.Outcome State Fault Refusal :=
  s.mbRow n 0x6000 fun r s =>
    let first := leAt r.payload 0 2
    let count := leAt r.payload 2 2
    if r.payload.length ≠ 4 then .reject badLength
    else if 255 < first ∨ count = 0 ∨ 63 < count then .reject badParam
    else .ok (((List.range count).map fun k =>
      ((List.range 16).map fun w => wordBytes (s.rd (PM_TRACE ((first + k) % 256) w))).flatten).flatten) s

/-- PM_GET_HISTOGRAM (R472): the 16 totals of a queue, zeroed after reading where asked. -/
def execPmGetHistogram (n : Fin 4) (s : State) : Host.Outcome State Fault Refusal :=
  s.mbRow n 0x6001 fun r s =>
    let q := leAt r.payload 0 2
    let clear := byteAt r.payload 2
    if r.payload.length ≠ 4 then .reject badLength
    else if 471 < q ∨ 1 < clear ∨ byteAt r.payload 3 ≠ 0 then .reject badParam
    else if s.variant = .fh4824 ∧ ((192 ≤ q ∧ q ≤ 383) ∨ 448 ≤ q) then .reject noInstance
    else if ¬ s.on PM_CTRL_mp_hist then .reject badState
    else
      let data := ((List.range 16).map fun k => leBytes 8 (s.hl.hist.get 0 (16 * q + k))).flatten
      .ok data (if clear = 1 then
        { s with hl := { s.hl with hist := (List.range 16).foldl (fun h k => h.put 0 (16 * q + k) 0) s.hl.hist } } else s)

end Sys2Proof.Machine
end

