-- ==== Sys2Proof/Machine/Switch.lean ====
section
/-! DEFINITION. The switch core: cells and halls, mezzanines and the spare, landings, the store, admission, RED, drops,
queues, multicast, flow control, delay bins and deterministic latency mode (R172 to R212). -/

namespace Sys2Proof.Machine

/-! ### Frames and queues -/

/-- The frame numbered `id`. -/
def State.pkt (s : State) (id : Nat) : Pkt := s.sc.frames.get Pkt.none id

/-- Store it. -/
def State.setPkt (s : State) (id : Nat) (x : Pkt) : State :=
  { s with sc := { s.sc with frames := s.sc.frames.put Pkt.none id x } }

/-- Is there a frame numbered `id` in the module? -/
def State.isPkt (s : State) (id : Nat) : Bool := decide (s.pkt id ≠ Pkt.none)

/-- The bay a frame enters the core from (R172). -/
def srcBay (x : Pkt) : Nat := if x.pass = 1 then 13 else if x.port < 48 then x.port / 4 else 12

/-- The late length check of a long frame has failed: it counts, whatever has become of the frame's copies (R119). -/
def State.lateFail (s : State) (x : Pkt) : State :=
  ((s.inc (PR_CNT_LEN_MISMATCH_len_mismatch x.port)).inc (PR_CNT_LEN_LATE_len_late x.port)).pm (srcBay x % 2) 0x14 1

/-- The frame leaves the module. One whose late length check is still due and will fail counts that failure. -/
def State.dropPkt (s : State) (id : Nat) : State :=
  let x := s.pkt id
  (if x.lateDue && x.lateBad then s.lateFail x else s).setPkt id Pkt.none

/-- A new frame. -/
def State.newPkt (s : State) (x : Pkt) : State :=
  { s.setPkt s.sc.nextId x with sc := { (s.setPkt s.sc.nextId x).sc with nextId := s.sc.nextId + 1 } }

/-- The cells of a frame of `len` bytes (R173). -/
def cellsOf (len : Nat) : Nat := (len + 255) / 256

/-- The frames of queue `q`, oldest first, with their core clocks of admission. -/
def State.queueOf (s : State) (q : Nat) : List (Nat × Nat) := s.sc.queues.get [] q

/-- The egress port of queue `q`, or of the Class T FIFO with index `q` (R188). -/
def portOfQ (q : Nat) : Option Nat := if q < 384 then some (q / 8) else if 424 ≤ q ∧ q < 472 then some (q - 424) else none

/-- The egress bay of queue `q` (R172). -/
def bayOfQ (q : Nat) : Nat := if q < 384 then q / 32 else if q < 416 then 12 else if q < 424 then 13 else (q - 424) / 4

/-- The queue a traced frame is traced along: that of its lowest-numbered egress port, else its first (R467). -/
def tracedQ (x : Pkt) : Option Nat :=
  let ports := x.copies.filter fun c => (portOfQ c.q).isSome
  match ports with
  | [] => x.copies.head?.map Copy.q
  | c :: cs => some (cs.foldl (fun q d => if (portOfQ d.q).getD 99 < (portOfQ q).getD 99 then d.q else q) c.q)

/-- Clocks from S0 to now. -/
def State.sinceS0 (s : State) (t : Trace) : Nat := s.clk - t.s0

/-- Record S4 for the frame at the head of queue `q` (R467). -/
def State.markHead (s : State) (q : Nat) : State :=
  match s.queueOf q with
  | [] => s
  | (id, _) :: _ =>
    let x := s.pkt id
    match x.trace with
    | some t => if t.d4.isNone && decide (tracedQ x = some q) then s.setPkt id { x with trace := some { t with d4 := some (s.sinceS0 t) } } else s
    | none => s

/-- The egress side fetches a whole DBM frame once it is among the first 4 of queue `q` (R186). -/
def State.fetch (s : State) (q : Nat) : State :=
  ((s.queueOf q).take 4).foldl (fun s e =>
    let x := s.pkt e.1
    if x.store = 2 ∧ x.whole ∧ ¬ x.fetched then (s.setPkt e.1 { x with fetched := true }).pm 4 0x46 x.n else s) s

/-- Store the frames of queue `q`; a queue that becomes empty has its deficit set to 0 (R195). -/
def State.setQueue (s : State) (q : Nat) (l : List (Nat × Nat)) : State :=
  let s := { s with sc := { s.sc with queues := s.sc.queues.put [] q l, deficit := if l.isEmpty then s.sc.deficit.put 0 q 0 else s.sc.deficit } }
  (s.markHead q).fetch q

/-- Every cell of the frame is stored. -/
def State.wholeNow (s : State) (id : Nat) : State :=
  let x := s.pkt id
  x.copies.foldl (fun s c => s.fetch c.q) (s.setPkt id { x with whole := true })

/-- Occupancy of index `q` in cells (R190). -/
def State.occ (s : State) (q : Nat) : Nat := s.get (SC_Q_OCC_cells q)

/-- Change it; the peak follows. -/
def State.setOcc (s : State) (q n : Nat) : State :=
  (s.set (SC_Q_OCC_cells q) n).set (SC_Q_PEAK_cells q) (max n (s.get (SC_Q_PEAK_cells q)))

/-! ### Trace records (R467, R468) -/

/-- A stage of a trace record; a stage not reached reads all ones. -/
def stage (d : Option Nat) : Word := match d with | some n => BitVec.ofNat 32 n | none => 0xFFFFFFFF

/-- Write the trace record of a frame that leaves by `out` (63: none) from queue `q`, or is discarded with a code. -/
def State.traceOut (s : State) (id : Nat) (out q : Nat) (drop : Option Nat) (d5 : Option Nat) : State :=
  let x := s.pkt id
  match x.trace with
  | none => s
  | some t =>
    let w0 := x.port % 64 + out % 64 * 2 ^ 6 + x.tc * 2 ^ 12 + flag x.classT * 2 ^ 15 + x.len * 2 ^ 16 + flag drop.isSome * 2 ^ 30 + 2 ^ 31
    let w1 := q % 512 + drop.getD 0 * 2 ^ 9 + x.gr * 2 ^ 13 + x.rs * 2 ^ 14 + flag x.suspect * 2 ^ 15 + flag x.multi * 2 ^ 16
    let s := s.setPkt id { x with trace := none }
    s.pmTrace [BitVec.ofNat 32 w0, BitVec.ofNat 32 w1, x.rsVer, x.verb, BitVec.ofNat 32 x.ts.sec, BitVec.ofNat 32 x.ts.ns,
      BitVec.ofNat 32 x.ts.frac16, stage t.d1, stage t.d2, stage t.d3, stage t.d4, stage d5,
      BitVec.ofNat 32 (t.hash + t.mezz * 2 ^ 8), 0, 0, 0]

/-- A frame that its verb or the tables drop has no queue and no drop code: those fields of its record are open. -/
def State.traceVerbDrop (s : State) (id : Nat) : State :=
  if (s.pkt id).trace.isSome then
    let (q, s) := s.draw 9
    let (c, s) := s.draw 4
    s.traceOut id 63 q (some c) none
  else s

/-! ### Drops (R192) -/

/-- Count a refusal or discard of index `q` with `code`. -/
def State.countDrop (s : State) (q code : Nat) : State :=
  let s := s.inc (SC_DROP_count q code)
  let s := if code = 3 then s.raise SC_INT_STAT_buffer_full else s
  match portOfQ q with
  | some p => if code = 4 then s.inc (SC_DISABLE_DISCARD_count p) else s
  | none => s

/-- The index that counts a frame refused before its egress queue is known (R192). -/
def entryIndex (x : Pkt) : Nat := if x.port < 48 then 8 * x.port + x.tc else 472

/-! ### Transmit timestamps (R260, R261) -/

/-- Port `p` makes a transmit-timestamp entry for a frame that asks for one; an owner that does not match makes none. -/
def State.txStamp (s : State) (p : Nat) (x : Pkt) (t : Option Time) : State :=
  match x.tsReq with
  | none => s
  | some id =>
    if s.on (TB_PTP_PORT_txts_owner p) ≠ x.fromMp then s.inc TB_PTP_ERR_owner_miss
    else
      let l := s.txts.get [] p
      if 16 ≤ l.length then (s.inc (PT_TXTS_OVF_count p)).raise (PT_INT_STAT_txts_ovf p)
      else
        let e : TxStamp := match t with
          | some t => ⟨id, t, s.on TB_STAT_suspect, false⟩
          | none => ⟨id, ⟨0, 0, 0⟩, false, true⟩
        { s with txts := s.txts.put [] p (l ++ [e]) }.pm 6 0x61 1

/-- A discarded frame that asked for a timestamp makes a dropped entry at its egress port (R260). -/
def State.txDropped (s : State) (q : Nat) (x : Pkt) : State :=
  match portOfQ q with
  | some p => s.txStamp p x none
  | none => s

/-! ### Flow control (R201) -/

/-- The store cells held by frames of ingress port `p`: of class `t`, or of all classes where `t` is 8 (R201). -/
def State.flowHeld (s : State) (p t : Nat) : Nat :=
  let held (k : Nat) := s.sc.heldCells.get 0 (8 * p + k)
  if t < 8 then held t else (List.range 8).foldl (fun a k => a + held k) 0

/-- Another mode of flow control has come into force on port `p`: what was above its threshold in the old mode counts no more (R201). -/
def State.flowMode (s : State) (p was : Nat) : State :=
  if s.get (SC_FC_CFG_mode p) = was then s else { s with sc := { s.sc with above := s.sc.above.put 0 p 0 } }

/-- Compare the cells held by ingress port `p` with its thresholds: PFC by class, PAUSE over all classes (bit 8). -/
def State.flowCheck (s : State) (p t : Nat) : State :=
  let mode := s.get (SC_FC_CFG_mode p)
  if mode ≠ 1 ∧ mode ≠ 2 then s
  else
    let b := if mode = 2 then t else 8
    let c := s.flowHeld p b
    let cls := if mode = 2 then 2 ^ t else 0
    let above := s.sc.above.get 0 p
    let send (quanta : Nat) (up : Bool) : State :=
      { s with sc := { s.sc with
          above := s.sc.above.put 0 p (if up then above + 2 ^ b else above - 2 ^ b)
          flowOut := s.sc.flowOut.put [] p (s.sc.flowOut.get [] p ++ [⟨decide (mode = 2), cls, quanta⟩]) } }
    if ¬ bitOf above b ∧ s.get (SC_FC_XOFF_xoff p) < c then send (s.get (SC_FC_CFG_quanta p)) true
    else if bitOf above b ∧ c ≤ s.get (SC_FC_XON_xon p) then send 0 false
    else s

/-- A frame's cells begin or cease to be held for its ingress port and class; Class T frames are not counted. -/
def State.hold (s : State) (x : Pkt) (add : Bool) : State :=
  if x.classT ∨ 48 ≤ x.port then s
  else
    let k := 8 * x.port + x.tc
    let n := s.sc.heldCells.get 0 k
    { s with sc := { s.sc with heldCells := s.sc.heldCells.put 0 k (if add then n + x.n else n - x.n) } }.flowCheck x.port x.tc

/-! ### The store (R184, R185, R198) -/

/-- DBM cells of this part (R184). -/
def State.dbmCells (s : State) : Nat := match s.variant with | .fh4848 => 33554432 | .fh4824 => 16777216

/-- DBM cells that are free: those of retired DRAM rows, and of rows under repair, are not (R450, R452). -/
def State.dbmFree (s : State) : Nat := s.dbmCells - s.sc.dbmUsed - s.unheld (s.cellsOut.filter fun c => decide (0x2000000 ≤ c))

/-- The first number from `k` on, modulo `size`, that is not in `used`; at most `n` are passed over. -/
def freeFrom (used : List Nat) (size k : Nat) : Nat → Nat
  | 0 => k % size
  | n + 1 => if used.contains (k % size) then freeFrom used size (k + 1) n else k % size

/-- Take `n` more cells of a memory of `size` cells: which free cells these are is left open (log entry 60). -/
def State.takeFrom (s : State) (size : Nat) (used : List Nat) : Nat → List Nat × State
  | 0 => ([], s)
  | n + 1 =>
    let (r, s) := s.draw 26
    let c := freeFrom used size r used.length
    let (cs, s) := s.takeFrom size (c :: used) n
    (c :: cs, s)

/-- The pointers of `n` free cells of memory `m`: 1 SRAM, 2 DBM (R184). -/
def State.takeCells (s : State) (m n : Nat) : List Nat × State :=
  let all := s.cellsHeld ++ s.cellsOut
  if m = 2 then
    let (l, s) := s.takeFrom s.dbmCells ((all.filter fun c => decide (0x2000000 ≤ c)).map (· - 0x2000000)) n
    (l.map (· + 0x2000000), s)
  else s.takeFrom 163840 (all.filter fun c => decide (c < 163840)) n

/-- A copy no longer holds the frame: with the last copy its cells are freed and it leaves the module (R198). -/
def State.unref (s : State) (id : Nat) : State :=
  let x := s.pkt id
  if 1 < x.refs then s.setPkt id { x with refs := x.refs - 1 }
  else
    let s := s.dropPkt id
    let s := if x.store = 1 then
        s.set SC_BUF_STAT_sram_free (s.get SC_BUF_STAT_sram_free + x.n - (x.ptrs.filter fun c => s.cellsOut.contains c).length)
      else if x.store = 2 then { s with sc := { s.sc with dbmUsed := s.sc.dbmUsed - x.n } } else s
    if x.store = 0 then s else s.hold x false

/-- Take the frame out of queue `q`. -/
def State.dequeue (s : State) (id q : Nat) : State :=
  (s.setOcc q (s.occ q - (s.pkt id).n)).setQueue q ((s.queueOf q).filter fun e => e.1 ≠ id)

/-- Discard the copy in queue `q` with a drop code. -/
def State.discard (s : State) (id q code : Nat) : State :=
  let x := s.pkt id
  let s := (s.dequeue id q).countDrop q code
  let s := if tracedQ x = some q then s.traceOut id ((portOfQ q).getD 63) q (some code) none else s
  (s.txDropped q x).unref id

/-- Is a copy of the frame in queue `q`? -/
def State.inQueue (s : State) (id q : Nat) : Bool := (s.queueOf q).any fun e => e.1 = id

/-- The queues of port `p`: its eight classes and its Class T FIFO. -/
def queuesOf (p : Nat) : List Nat := (List.range 8).map (8 * p + ·) ++ [424 + p]

/-- Discard every queued frame of port `p` (R106, R199). -/
def State.scDiscardPort (s : State) (p code : Nat) : State :=
  (queuesOf p).foldl (fun s q => (s.queueOf q).foldl (fun s e => s.discard e.1 q code) s) s

/-- Does port `p` hold a frame, queued or in transmission? -/
def State.scHasPort (s : State) (p : Nat) : Bool :=
  (queuesOf p).any (fun q => !(s.queueOf q).isEmpty) || (s.sc.sending.get none p).isSome

/-! ### Admission (R190, R191) -/

/-- The average of queue `q` follows the occupancy before the frame, at every admission decision of the queue, whichever row of R190 ends
it and whether or not RED is enabled (R191). A Class T FIFO has none. -/
def State.redAvg (s : State) (q : Nat) : State :=
  if 424 ≤ q then s
  else
    let old := s.sc.avg.get 0 q
    let avg := old + ((s.occ q : Int) - old) / (2 : Int) ^ s.get (SC_RED_PROF_w (s.get (SC_Q_CFG_red_prof q)))
    { s with sc := { s.sc with avg := s.sc.avg.put 0 q avg } }

/-- RED for queue `q`: the colour's thresholds decide on the average. -/
def State.red (s : State) (x : Pkt) (q : Nat) : Option Nat × State :=
  let k := s.get (SC_Q_CFG_red_prof q)
  let c := x.colour - 1
  let avg := s.sc.avg.get 0 q
  let lo := s.get (SC_RED_MIN_min_th k c)
  let hi := s.get (SC_RED_MAX_max_th k c)
  if hi ≤ lo then (some 2, s)
  else if avg < (lo : Int) then (none, s)
  else if (hi : Int) ≤ avg then (some 2, s)
  else
    let p16 := s.get (SC_RED_MAX_max_p k c) * (avg.toNat - lo) * 256 / (hi - lo)
    let (r, s) := s.draw 16
    (if r < p16 then some 1 else none, s)

/-- A CPU queue bound for the host whose ring is disabled, or with PCIe in reset (R190 row 1). -/
def State.hostDown (s : State) (c : Nat) : Bool :=
  !s.on (SC_CPUQ_CFG_dest c) && (!s.on (SC_CPUQ_RING_CFG_enable c) || s.power.pcieReset)

/-- Rows 1 to 6 of R190 for a copy bound for index `q`. -/
def State.refuses (s : State) (x : Pkt) (q : Nat) : Option Nat × State :=
  let fifo := decide (424 ≤ q)
  let port : Option Nat := match portOfQ q with
    | some p =>
      if s.portOff p ∨ s.noMac p ∨ (s.twHeld p ∧ ¬ x.classT ∧ x.port ≠ 48) then some 4
      else if ¬ s.on (PT_STAT_link_up p) ∧ s.on (SC_PORT_CFG_flush_on_down p) then some 0xC
      else if s.get (PT_MAXFRM_max p) < x.len then some 0xA
      else none
    | none => if 384 ≤ q ∧ q < 416 ∧ s.hostDown (q - 384) then some 0xF else none
  match port with
  | some c => (some c, s)
  | none =>
    if fifo ∧ 64 ≤ (s.queueOf q).length then (some 0, s)
    else if ¬ fifo ∧ s.get (SC_Q_MAX_max q) < s.occ q + x.n then (some 0, s)
    else if ¬ fifo ∧ s.on (SC_Q_CFG_red_en q) then s.red x q
    else (none, s)

/-- Where the frame is placed: 1 SRAM, 2 DBM, none for BUFFER_FULL (R185). `dbm` tells whether DBM's write rate allows it. -/
def State.place (s : State) (x : Pkt) (q : Nat) (dbm : Bool) : Option Nat :=
  let f := s.get SC_BUF_STAT_sram_free
  let kept := s.get SC_T_RESERVE_cells
  if x.classT then (if x.n ≤ f then some 1 else none)
  else if (decide (q < 424) && s.on (SC_Q_CFG_sched q)) || (decide (384 ≤ q) && decide (q < 416)) || x.multi then
    (if kept + x.n ≤ f then some 1 else none)
  else if s.on (SC_Q_CFG_dbm_en q) then
    if s.get SC_BUF_CFG_sram_reserve + x.n ≤ f then some 1
    else if dbm ∧ x.n ≤ s.dbmFree then some 2 else none
  else if kept + x.n ≤ f then some 1 else none

/-- A copy is refused. -/
def State.refuse (s : State) (id : Nat) (x : Pkt) (q code : Nat) : State :=
  let s := (s.countDrop q code).pm 4 0x44 1
  let s := match portOfQ q with
    | some p => if x.multi then s.inc (SC_MC_PARTIAL_count p) else s
    | none => s
  let s := if tracedQ x = some q then s.traceOut id ((portOfQ q).getD 63) q (some code) none else s
  s.txDropped q x

/-- The decision for one copy: refused, or admitted to memory 1 or 2. -/
def State.decide' (s : State) (id : Nat) (x : Pkt) (dbm : Bool) (c : Copy) : Option Nat × State :=
  match (s.redAvg c.q).refuses x c.q with
  | (some code, s) => (none, s.refuse id x c.q code)
  | (none, s) =>
    match s.place x c.q dbm with
    | some m => (some m, s.pm 4 0x43 1)
    | none => (none, s.refuse id x c.q 3)

/-- MAC and VLAN entry, next-hop and multicast group record: in use. -/
def Ent.valid1 (e : Ent) : Bool := bitOf e.w1.toNat 31

/-- Entry `i` of table `t` has a lasting parity fault. -/
def State.entBad (s : State) (t i : Nat) : Bool := s.ft.bad.any fun e => e.table = t ∧ e.index = i

/-- Is port `p` a member of the VLAN or of the multicast group? Port 48 is a member of every VLAN (R144). -/
def Ent.member (e : Ent) (p : Nat) : Bool :=
  decide (48 ≤ p) || (if p < 32 then bitOf e.w0.toNat p else bitOf e.w1.toNat (p - 32))

/-- The multicast group record as it now stands: the ports it names, or the drop code of an invalid or faulty one (R145, R163). -/
def State.groupPorts (s : State) (i : Nat) : Nat ⊕ List Nat :=
  let e := s.ft.group.get Ent.zero i
  if s.entBad 5 i then .inl 0xB
  else if e.valid1 then .inr ((List.range s.lanes).filter e.member)
  else .inl 7

/-- Replication (R147): the copies of a frame for a multicast group are those its record names now, beside the copy for a CPU queue. An
invalid or faulty record makes none and is counted. -/
def State.replicate (s : State) (id : Nat) : State :=
  let x := s.pkt id
  match x.group with
  | none => s
  | some i =>
    let own := x.copies.filter fun c => (portOfQ c.q).isNone
    match s.groupPorts i with
    | .inl code => (s.countDrop (entryIndex x) code).setPkt id { x with copies := own, multi := false }
    | .inr l =>
      let all := l.map (fun p => (⟨if x.classT then 424 + p else 8 * p + x.tc, none, 0, 0⟩ : Copy)) ++ own
      s.setPkt id { x with copies := all, multi := decide (1 < all.length) }

/-- Admission of every copy of the frame (R183, R190, R197, R198). -/
def State.admitFrame (s : State) (id : Nat) (dbm : Bool) : State :=
  let s := s.replicate id
  let s := match (s.pkt id).trace with
    | some t => s.setPkt id { s.pkt id with trace := some { t with d3 := some (s.sinceS0 t) } }
    | none => s
  let x := s.pkt id
  let r := x.copies.foldl (fun (a : (List Copy × Nat) × State) c =>
    match a.2.decide' id x dbm c with
    | (some m, s) => ((a.1.1 ++ [c], m), s)
    | (none, s) => (a.1, s)) (([], 0), s)
  let (won, mem) := r.1
  let s := r.2
  if won.isEmpty then s.dropPkt id
  else
    let (ptrs, s) := s.takeCells mem x.n
    let s := s.setPkt id { s.pkt id with store := mem, refs := won.length, early := x.sched, ptrs := ptrs }
    let s := if mem = 1 then s.set SC_BUF_STAT_sram_free (s.get SC_BUF_STAT_sram_free - x.n)
      else ({ s with sc := { s.sc with dbmUsed := s.sc.dbmUsed + x.n } }).pm 4 0x45 x.n
    let s := if x.multi then s.pm 4 0x47 won.length else s
    let s := won.foldl (fun s c => (s.setOcc c.q (s.occ c.q + x.n)).setQueue c.q (s.queueOf c.q ++ [(id, s.clk)])) s
    s.hold x true

/-! ### Transmission ends -/

/-- The frame leaves port `p`: the statistics of R111 and the bandwidth window count it. A frame with an inverted FCS counts as
stomped only. -/
def State.sendOut (s : State) (p : Nat) (b : Bytes) (good : Bool) : State :=
  let s := s.emit (.frame p b good)
  let n := b.length + 4
  let s := s.bwCount p n false
  if good then
    let s := s.add64 (PT_FRAMES_TX_OK_LO p) (PT_FRAMES_TX_OK_HI p) 1
    let s := s.add64 (PT_OCTETS_TX_OK_LO p) (PT_OCTETS_TX_OK_HI p) (n - 18)
    if beAt b 0 6 = 0xFFFFFFFFFFFF then s.add64 (PT_BC_TX_LO p) (PT_BC_TX_HI p) 1
    else if byteAt b 0 % 2 = 1 then s.add64 (PT_MC_TX_LO p) (PT_MC_TX_HI p) 1 else s
  else s.add64 (PT_STOMPED_TX_LO p) (PT_STOMPED_TX_HI p) 1

/-- Every port that transmits the frame while its cells arrive ends it now. -/
def State.endSending (s : State) (id : Nat) (good : Bool) : State :=
  let tx := (s.pkt id).tx
  let s := s.setPkt id { s.pkt id with tx := [] }
  tx.foldl (fun s e =>
    let s := s.sendOut e.1 e.2 good
    { s with sc := { s.sc with sending := s.sc.sending.put none e.1 none } }.unref id) s

/-- Discard every copy still queued with `code`, and end with an inverted FCS every transmission under way (R99, R182, R187). -/
def State.killPkt (s : State) (id code : Nat) : State :=
  let x := s.pkt id
  if x.store = 0 then
    (x.copies.foldl (fun s c => (if tracedQ x = some c.q then s.traceOut id ((portOfQ c.q).getD 63) c.q (some code) none else s).countDrop c.q code |>.txDropped c.q x) s).dropPkt id
  else
    let s := s.endSending id false
    x.copies.foldl (fun s c => if s.inQueue id c.q then s.discard id c.q code else s) s

/-! ### Cells, halls and landings -/

/-- Path key: ingress bay, egress bay, space (R181). -/
def pathKey (src dst space : Nat) : Nat := (src * 16 + dst) * 3 + space

/-- The cells of a bay ingress. -/
def State.bayCells (s : State) (b : Nat) : List Cell := s.sc.ingress.get [] b

/-- The frame is cut into cells at bay ingress `src`, or discarded with BAY_FULL where they do not fit (R173, R176, R197). -/
def State.formCells (s : State) (id src : Nat) : State :=
  let x := s.pkt id
  let dst := x.copies.foldl (fun b c => min b (bayOfQ c.q)) 15
  let space := if x.sched then 2 else if x.classT then 1 else 0
  let n := cellsOf x.len
  let cells := s.bayCells src
  if (if space = 0 then 960 else 1024) < cells.length + n then
    let s := s.setPkt id { x with n := n }
    (s.killPkt id 8).pm 3 0x35 1
  else
    let k := pathKey src dst space
    let q0 := s.sc.seqOut.get 0 k
    let new := (List.range n).map fun i => (⟨id, i, decide (i + 1 = n), src, dst, space, (q0 + i) % 65536⟩ : Cell)
    let s := s.setPkt id { x with n := n, src := src, dst := dst, space := space, seq0 := q0 }
    let s := { s with sc := { s.sc with ingress := s.sc.ingress.put [] src (cells ++ new), seqOut := s.sc.seqOut.put 0 k ((q0 + n) % 65536) } }
    let s := s.pm 3 0x30 n
    if space = 2 then s.pm 3 0x34 n else if space = 1 then s.pm 3 0x33 n else s

/-- The landing releases a cell: the first decides admission, the last completes the frame; a frame with the error mark is
discarded, or completed with its FCS inverted (R183). -/
def State.releaseCell (s : State) (dbm : Bool) (c : Cell) : State :=
  if !s.isPkt c.id then s
  else
    let s := s.pm 4 0x40 1
    let s := if c.idx = 0 then s.admitFrame c.id dbm else s
    if !c.last || !s.isPkt c.id then s
    else if (s.pkt c.id).err then s.killPkt c.id 9
    else (s.wholeNow c.id).endSending c.id true

/-- Cells that egress bay `e` holds. -/
def State.landed (s : State) (e : Nat) : List Cell := s.sc.land.get [] e

/-- Release held cells of a path while the next expected number is among them; at most `n`. -/
def State.releaseHeld (s : State) (dbm : Bool) (e key : Nat) : Nat → State
  | 0 => s
  | n + 1 =>
    let exp := s.sc.seqIn.get 0 key
    match (s.landed e).find? fun c => pathKey c.src c.dst c.space = key ∧ c.seq = exp with
    | none => s
    | some c =>
      let s := { s with sc := { s.sc with land := s.sc.land.put [] e ((s.landed e).filter (· ≠ c)), seqIn := s.sc.seqIn.put 0 key ((exp + 1) % 65536) } }
      (s.releaseCell dbm c).releaseHeld dbm e key n

/-- A cell reaches the landing of its egress bay: released when it is the next expected number, held when it is ahead, and
discarded when its number was declared lost (R181, R182). -/
def State.arrive (s : State) (dbm : Bool) (c : Cell) : State :=
  let key := pathKey c.src c.dst c.space
  let exp := s.sc.seqIn.get 0 key
  if (c.seq + 65536 - exp) % 65536 < 32768 then
    let s := { s with sc := { s.sc with land := s.sc.land.put [] c.dst (s.landed c.dst ++ [c]) } }
    s.releaseHeld dbm c.dst key (s.landed c.dst).length
  else s

/-- A reservation of the pair (b, e) that is usable: valid, on a position not quarantined (R207, R208). -/
def State.dlmUsable (s : State) (b e : Nat) : Bool :=
  (List.range 16).any fun k => s.on (SC_DLM_RES_valid b k) && decide (s.get (SC_DLM_RES_bay b k) = e) && !s.bit SC_MEZZ_IDLE ((b + k) % 16)

/-- SC_STAT.dlm_degraded: a valid reservation is unusable (R208). -/
def State.dlmCheck (s : State) : State :=
  s.setB SC_STAT_dlm_degraded ((List.range 12).any fun b => (List.range 16).any fun k =>
    s.on (SC_DLM_RES_valid b k) && s.bit SC_MEZZ_IDLE ((b + k) % 16))

/-! ### Mezzanines (R177 to R180) -/

/-- Cells of a physical mezzanine. -/
def State.mezzCells (s : State) (m : Nat) : List Cell := s.sc.mezz.get [] m

/-- How many it holds. -/
def State.mezzHolds (s : State) (m : Nat) : Nat := (s.mezzCells m).length

/-- Store its cells. -/
def State.setMezz (s : State) (m : Nat) (l : List Cell) : State := { s with sc := { s.sc with mezz := s.sc.mezz.put [] m l } }

/-- The physical mezzanine of a logical position. -/
def State.mezzAt (s : State) (l : Nat) : Nat := s.sc.map.getD l l

/-- The swap of a position onto the spare starts; ignored while one is busy or with no spare free (R179). -/
def State.swapStart (s : State) (pos : Nat) : State :=
  match s.sc.spare with
  | some sp =>
    if s.sc.swap.isSome then s
    else
      let s := { s with sc := { s.sc with swap := some ⟨pos, s.mezzAt pos, sp, false⟩, spare := none } }
      ((s.set SC_MEZZ_STAT_swap_busy 1).set SC_MEZZ_STAT_spare_in_use 1).set SC_MEZZ_STAT_spare_for pos
  | none => s

/-- Quarantine of a position: the cells of its mezzanine, and of the one it is being swapped onto, are lost, and its slots stay
empty in both halls (R180). -/
def State.quarantine (s : State) (pos : Nat) : State :=
  let s := match s.sc.swap with
    | some w => if w.pos = pos then s.setMezz w.new [] else s
    | none => s
  (((s.setMezz (s.mezzAt pos) []).setBit SC_MEZZ_IDLE pos).raise SC_INT_STAT_mezz_idle).dlmCheck

/-- Physical mezzanine `m` is declared faulty: swapped onto the spare, or quarantined where no spare is free (R178 to R180). -/
def State.mezzFaulty (s : State) (m : Nat) : State :=
  if s.bit SC_MEZZ_STAT m then s
  else
    let s := s.setBit SC_MEZZ_STAT m
    if s.sc.spare = some m then { s with sc := { s.sc with spare := none } }
    else
      match s.sc.swap with
      | some w => if w.old = m then s
        else if w.new = m then s.quarantine w.pos
        else match s.sc.map.findIdx? (· = m) with
          | some l => s.quarantine l
          | none => s
      | none =>
        match s.sc.map.findIdx? (· = m) with
        | none => s
        | some l =>
          if s.sc.spare.isNone then s.quarantine l
          else if s.on SC_CTRL_auto_spare then s.swapStart l else s

/-- A repaired mezzanine is the free spare; the lowest quarantined position is swapped onto it (R453). -/
def State.mezzReturned (s : State) (m : Nat) : State :=
  let s := { s with sc := { s.sc with spare := some m } }.set SC_MEZZ_STAT_spare_in_use 0
  match (List.range 16).find? fun l => s.bit SC_MEZZ_IDLE l with
  | some l => s.swapStart l
  | none => s

/-- A word of mezzanine `m` read with an error: true where the cell is lost (R178). -/
def State.mezzEcc (s : State) (m : Nat) (e : Ecc) : Bool × State :=
  match e with
  | .corrected => (false, s.inc SC_ECC_CNT_corrected)
  | .transient =>
    let s := (s.inc SC_ECC_CNT_transient).raise SC_INT_STAT_ecc_transient
    let (esc, s) := s.hlTransient 0x04 m 0xFFFF 0
    (false, if esc then s.mezzFaulty m else s)
  | .lasting =>
    let s := (s.inc SC_ECC_CNT_lasting).raise SC_INT_STAT_ecc_lasting
    (true, (s.hlLasting 0x04 m 0xFFFF 0).mezzFaulty m)

/-- Is this the reserved meeting of a scheduled cell on logical position `l` (R208)? -/
def State.reserved (s : State) (l : Nat) (c : Cell) : Bool :=
  decide (c.space = 2) && s.on (SC_DLM_RES_valid c.src ((l + 16 - c.src) % 16)) && decide (s.get (SC_DLM_RES_bay c.src ((l + 16 - c.src) % 16)) = c.dst)

/-- The cell that a mezzanine in position `l` sends to egress bay `e`: a scheduled one whose reserved meeting this is, then the oldest
urgent one, scheduled cells among them, then the oldest other (R175, R177). -/
def State.pickUpper (s : State) (k : List Cell) (l e : Nat) : Option Cell :=
  match k.find? fun c => decide (c.dst = e) && s.reserved l c with
  | some c => some c
  | none => match k.find? fun c => c.dst = e ∧ c.space ≠ 0 with
    | some c => some c
    | none => k.find? fun c => c.dst = e

/-- The upper-hall connection of logical position `l` in this slot (R174, R177, R179). -/
def State.upperHall (s : State) (dbm : Bool) (ecc : List (Fin 17 × Ecc)) (l : Nat) : State :=
  if s.bit SC_MEZZ_IDLE l then s
  else
    let e := (l + s.sc.slot) % 16
    let from' : Nat × Option Cell := match s.sc.swap with
      | some w =>
        if w.started ∧ w.pos = l then
          match s.pickUpper (s.mezzCells w.old) l e with
          | some c => (w.old, some c)
          | none => (w.new, s.pickUpper (s.mezzCells w.new) l e)
        else (s.mezzAt l, s.pickUpper (s.mezzCells (s.mezzAt l)) l e)
      | none => (s.mezzAt l, s.pickUpper (s.mezzCells (s.mezzAt l)) l e)
    match from' with
    | (_, none) => s
    | (m, some c) =>
      let s := s.setMezz m ((s.mezzCells m).filter (· ≠ c))
      match ecc.find? fun x => x.1.val = m with
      | none => s.arrive dbm c
      | some (_, k) =>
        let (lost, s) := s.mezzEcc m k
        if lost then s else s.arrive dbm c

/-- Cells a position holds for egress bay `e`, in both mezzanines during a swap (R179). -/
def State.roomUsed (s : State) (l e : Nat) : Nat :=
  let count (m : Nat) := ((s.mezzCells m).filter fun c => c.dst = e).length
  match s.sc.swap with
  | some w => if w.started ∧ w.pos = l ∧ w.old ≠ w.new then count w.old + count w.new else count (s.mezzAt l)
  | none => count (s.mezzAt l)

/-- May the cell cross to position `l`? Queues hold 8 cells, 2 of them kept for urgent cells (R177); the last cell of a frame
waits for its late length check. -/
def State.mayCross (s : State) (l : Nat) (c : Cell) : Bool :=
  decide (s.roomUsed l c.dst < (if c.space = 0 then 6 else 8)) && !(c.last && (s.pkt c.id).lateDue)

/-- The first cell, in rotation over egress bays after `r`, that satisfies `p`. -/
def rotate (l : List Cell) (r : Nat) (p : Cell → Bool) : Option Cell :=
  (List.range 16).findSome? fun k => l.find? fun c => decide (c.dst = (r + 1 + k) % 16) && p c

/-- The cell that bay ingress `b` sends to position `l` in this slot (R175). -/
def State.pickLower (s : State) (b l : Nat) : Option Cell :=
  let cells := s.bayCells b
  let slot := s.sc.slot
  let res : Option Cell :=
    if b < 12 ∧ s.on (SC_DLM_RES_valid b slot) then
      cells.find? fun c => decide (c.space = 2) && decide (c.dst = s.get (SC_DLM_RES_bay b slot)) && s.mayCross l c
    else none
  match res with
  | some c => some c
  | none =>
    match rotate cells (s.sc.rot.get 0 b) (fun c => decide (c.space ≠ 0) && s.mayCross l c) with
    | some c => some c
    | none => rotate cells (s.sc.rot.get 0 b) (fun c => s.mayCross l c)

/-- The lower-hall connection of ingress bay `b` in this slot (R174, R175, R180). -/
def State.lowerHall (s : State) (b : Nat) : State :=
  let l := (b + s.sc.slot) % 16
  if s.bit SC_MEZZ_IDLE l then s
  else
    match s.pickLower b l with
    | none => if (s.bayCells b).isEmpty then s else s.pm 3 0x32 1
    | some c =>
      let m := match s.sc.swap with
        | some w => if w.started ∧ w.pos = l then w.new else s.mezzAt l
        | none => s.mezzAt l
      let s := { s with sc := { s.sc with ingress := s.sc.ingress.put [] b ((s.bayCells b).filter (· ≠ c)), rot := s.sc.rot.put 0 b c.dst } }
      let s := (s.setMezz m (s.mezzCells m ++ [c])).pm 3 0x31 1
      match (s.pkt c.id).trace with
      | some t => if c.idx = 0 then s.setPkt c.id { s.pkt c.id with trace := some { t with d2 := some (s.sinceS0 t), mezz := l } } else s
      | none => s

/-- The code and the group of a fault in the memory that holds a frame: DBM (R452) or the store SRAM (R187). -/
def State.storeSource (s : State) (id : Nat) : Nat × Nat := if (s.pkt id).store = 2 then (0x06, 7) else (0x05, 0)

/-- A store word read with an error (R187, R452): a lasting fault discards the frame and HL repairs the row. A symbol that DBM corrects is
not counted (log entry 36). -/
def State.storeEcc (s : State) (f : StoreFault) : State :=
  let (code, g) := s.storeSource f.frame
  match f.ecc with
  | .corrected => if g = 0 then s.inc SC_ECC_CNT_corrected else s
  | .transient =>
    let s := (s.inc SC_ECC_CNT_transient).raise SC_INT_STAT_ecc_transient
    let (esc, s) := s.hlTransient code f.bank f.row 0
    if esc then s.hlQueueRow g f.bank f.row else s
  | .lasting =>
    let s := if (s.pkt f.frame).store = 0 then s else s.killPkt f.frame 0xD
    let s := ((s.inc SC_ECC_CNT_lasting).raise SC_INT_STAT_ecc_lasting).hlLasting code f.bank f.row 0
    s.hlQueueRow g f.bank f.row

/-! ### Commands -/

/-- The frames of a path that hold one of the numbers from `lo` to before `hi`. -/
def State.lostFrames (s : State) (src dst space lo hi : Nat) : List Nat :=
  let gap := (hi + 65536 - lo) % 65536
  (s.sc.frames.filter fun e => decide (e.2.src = src) && decide (e.2.dst = dst) && decide (e.2.space = space) && decide (e.2.n ≠ 0) && !e.2.whole
    && (List.range e.2.n).any fun i => decide ((e.2.seq0 + i + 65536 - lo) % 65536 < gap)).map Prod.fst

/-- The captured SC writes of a boundary, with reservations apart: the entries named first become invalid, then each valid one
is stored unless it conflicts with an entry in force (R208). -/
def State.applyRes (s : State) (l : List (Nat × Word × Nat)) : State :=
  let base := SC_DLM_RES 0 0
  let at' (e : Nat × Word × Nat) : Nat × Nat := ((e.1 - base) / 64, (e.1 - base) % 64 / 4)
  let s := l.foldl (fun s e => s.set (SC_DLM_RES_valid (at' e).1 (at' e).2) 0) s
  l.foldl (fun s e =>
    let (b, k) := at' e
    let bay := bitsOf e.2.1 3 0
    let clash := (List.range 12).any fun b' => (List.range 16).any fun k' =>
      decide ((b', k') ≠ (b, k)) && s.on (SC_DLM_RES_valid b' k') && decide ((b' + k') % 16 = (b + k) % 16) && decide (s.get (SC_DLM_RES_bay b' k') = bay)
    if bitOf e.2.1.toNat 4 ∧ clash then (s.wr e.1 (putBits e.2.1 4 4 0)).raise SC_INT_STAT_res_conflict else s.wr e.1 e.2.1) s

/-- Is `a` a reservation? -/
def isRes (a : Nat) : Bool := decide (SC_DLM_RES 0 0 ≤ a) && decide (a < SC_DLM_RES 12 0)

/-- SLOT_PATTERN_BOUNDARY (R174, R33): pending SC values apply, and a swap that waits begins (R179). -/
def execSlotPatternBoundary (s : State) : Host.Outcome State Fault Refusal :=
  finishIf (decide (s.sc.slot = 0)) s (
    let (res, s) := s.takePend isRes
    let modes := (List.range 48).map fun p => s.get (SC_FC_CFG_mode p)
    let s := s.applyPend fun a => decide (groupOf a = .switch)
    let s := (List.range 48).foldl (fun s p => s.flowMode p (modes.getD p 0)) s
    let s := s.applyRes res
    let s := match s.sc.swap with
      | some w => if w.started then s else
        let s := { s with sc := { s.sc with swap := some { w with started := true } } }
        s.set ⟨SC_MEZZ_IDLE, w.pos, w.pos⟩ 0
      | none => s
    s.dlmCheck)

/-- MEZZ_SWAP_COMPLETE (R179): the old mezzanine is empty. -/
def execMezzSwapComplete (s : State) : Host.Outcome State Fault Refusal :=
  match s.sc.swap with
  | some w =>
    finishIf (w.started && (decide (w.old = w.new) || decide (s.mezzHolds w.old = 0))) s (
      let s := { s with sc := { s.sc with swap := none, map := s.sc.map.set w.pos w.new } }
      (s.set SC_MEZZ_STAT_swap_busy 0).raise SC_INT_STAT_mezz_swap_done)
  | none => .next s

/-- PFC_REPEAT (R201): a count still above xon repeats its PFC or PAUSE frame in the mode in force. `t` is a class, or 8 for PAUSE. -/
def execPfcRepeat (p : Fin 48) (t : Fin 9) (s : State) : Host.Outcome State Fault Refusal :=
  finishIf (bitOf (s.sc.above.get 0 p) t && decide (s.get (SC_FC_CFG_mode p) = if t.val < 8 then 2 else 1)
      && decide (s.get (SC_FC_XON_xon p) < s.flowHeld p t)) s
    { s with sc := { s.sc with
        flowOut := s.sc.flowOut.put [] p (s.sc.flowOut.get [] p ++ [⟨decide (t.val < 8), if t.val < 8 then 2 ^ t.val else 0, s.get (SC_FC_CFG_quanta p)⟩]) } }

/-! ### Delay bins and service (R195, R212) -/

/-- The bin of a delay of `d` core clocks of 0.8 ns. -/
def delayBin (d : Nat) : Nat :=
  ((List.range 15).filter fun k => decide (100 * 2 ^ (k + 1) * 5 ≤ 4 * d)).length

/-- A frame leaves index `q` after `d` core clocks. -/
def State.countDelay (s : State) (q d : Nat) : State := s.inc (SC_DELAY_HIST_count q (delayBin d))

/-- A frame of `len` bytes has been sent from queue `q`: its counter falls (R195). -/
def State.charge (s : State) (q len : Nat) : State :=
  { s with sc := { s.sc with deficit := s.sc.deficit.put 0 q (s.sc.deficit.get 0 q - len) } }

/-- Deficit weighted round robin over the queues `qs` (R195): from the queue being visited, the first whose head `ready` fits the
counter. Answers the queue and the state of the server; `n` bounds the visits. The length is charged once the head has been sent. -/
def State.dwrr (s : State) (srv : Nat) (qs : List Nat) (ready : Nat → Bool) (weight : Nat → Nat) : Nat → Option Nat × State
  | 0 => (none, s)
  | n + 1 =>
    let (i, added) := s.sc.visit.get (0, false) srv
    let q := qs.getD (i % max 1 qs.length) 0
    let next (s : State) : State := { s with sc := { s.sc with visit := s.sc.visit.put (0, false) srv ((i + 1) % max 1 qs.length, false) } }
    match s.queueOf q with
    | [] => (next s).dwrr srv qs ready weight n
    | (id, _) :: _ =>
      if !ready q then (next s).dwrr srv qs ready weight n
      else
        let d := s.sc.deficit.get 0 q
        let d := if added then d else d + max 1 (weight q) * 256
        let s := { s with sc := { s.sc with deficit := s.sc.deficit.put 0 q d, visit := s.sc.visit.put (0, false) srv (i % max 1 qs.length, true) } }
        let len := (s.pkt id).len
        if len ≤ d then (some q, s)
        else (next s).dwrr srv qs ready weight n

end Sys2Proof.Machine
end

