-- ==== Sys2Proof/Machine/Lanes.lean ====
section
/-! DEFINITION. Line lanes and the link state of ports (R77 to R96, R100, R101, R106 to R109): bay modes, receive conditions,
the classified loss of block lock, calibration, loops, disable and drain, lane reset, and the frame boundary of LN and PT. -/

namespace Sys2Proof.Machine

/-- Is the FEC choice allowed in the bay's mode (R77)? -/
def fecAllowed (mode fec : Nat) : Bool :=
  match mode, fec with
  | _, 0 => true
  | _, 3 => true
  | 0, 1 => true
  | 1, 1 => true
  | 1, 2 => true
  | 2, 1 => true
  | 3, 2 => true
  | _, _ => false

/-- The FEC in force on lane `l`: 0 none, 1 BASE-R, 2 RS-FEC (R77, R78). -/
def State.fecOf (s : State) (l : Nat) : Nat :=
  let f := s.get (LN_CTRL_fec (s.headLane l))
  if fecAllowed (s.bayMode (l / 4)) f ∧ f ≤ 2 then f else 0

/-- Raise a lane cause; a disabled lane sets none (R109). -/
def State.laneCause (s : State) (l : Nat) (f : FRef) : State := if s.on (LN_CTRL_enable l) then s.raise f else s

/-- Every lane of port `p` is locked, and aligned in modes 0x2 and 0x3 (R82, R100). -/
def State.rxLocked (s : State) (p : Nat) : Bool :=
  !(s.lanesOf p).isEmpty && (s.lanesOf p).all (fun l => s.on (LN_STAT_block_lock l)) && (!s.wide p || s.on (LN_STAT_aligned p))

/-! ### Derived status -/

/-- LN_STAT.clk_valid (R85). A lane that withdraws its clock takes it from the timing channels and from its link; a loss of lock, a
lane reset and a receive calibration also end the link's calibration; in the outage of the link's own calibration a loss of lock does neither
(R281, R291, R292). -/
def State.laneClk (s : State) (l : Nat) : State :=
  let ok := s.on (LN_STAT_signal l) && s.on (LN_STAT_cdr_lock l) && s.on (LN_STAT_block_lock l)
    && decide (s.loopOf l = 0) && !s.on (LN_STAT_cal_busy l)
  let s := s.setB (LN_STAT_clk_valid l) ok
  if ok then s
  else
    let s := s.refLoss (12 + l)
    if s.headLane l ≠ l then s
    else if s.linkState l = 3 then
      let s := if s.on (LN_STAT_cal_busy l) ∨ (s.laneOf l).inReset then s.calLost l else s
      if s.loopOf l ≠ 0 then s.linkWait l else s
    else
      let s := if s.on (LN_STAT_block_lock l) ∧ ¬ s.on (LN_STAT_cal_busy l) then s else s.calLost l
      s.linkClockLost l

/-- LN_STAT.tx_idle_active (R89, R94). -/
def State.laneTx (s : State) (l : Nat) : State :=
  s.setB (LN_STAT_tx_idle_active l) (!s.on (LN_CTRL_enable l) || s.on (LN_CTRL_tx_idle l) || (s.laneOf l).inReset
    || decide (s.bayMode (l / 4) = 7)
    || ((decide (s.loopOf l = 1) || decide (s.loopOf l = 2)) && !s.on (LN_CTRL_loop_tx_keep (s.headLane l))))

/-- A port whose link goes down ends its drain at once, and flushes its queues where asked to (R107, R199). -/
def State.portDown (s : State) (p : Nat) : State :=
  let s := if s.on (PT_STAT_draining p) then
    ((((s.scDiscardPort p 0x4).set (PT_STAT_draining p) 0).set (PT_IDLE_idle p) 1).raise (PT_INT_STAT_drain_done p)) else s
  if s.on (SC_PORT_CFG_flush_on_down p) then s.scDiscardPort p 0xC else s

/-- What the transmitter of a port sends: electrical idle (R89), the far end's own blocks at loop depth 3 (R94), remote-fault ordered sets,
idle control blocks without frames, or frames among idles (R100, R106). -/
inductive TxLine where
  | electricalIdle | farEnd | remoteFault | idles | frames
deriving DecidableEq, Repr

/-- What port `p` sends now. -/
def State.txLine (s : State) (p : Nat) : TxLine :=
  if s.noMac p ∨ s.on (LN_STAT_tx_idle_active (s.headLane p)) then .electricalIdle
  else if s.loopOf p = 3 then .farEnd
  else if s.loopOf p = 4 then .idles
  else if s.portOff p ∧ ¬ s.on (PT_STAT_draining p) then .idles
  else if s.on (PT_STAT_local_fault p) ∧ s.on (PT_CTRL_fault_tx p) then .remoteFault
  else if s.on (PT_STAT_link_up p) then .frames
  else .idles

/-- Port `p` begins or ceases to send remote-fault ordered sets (R100). -/
def State.faultTx (s : State) (p : Nat) : State :=
  let on := decide (s.txLine p = .remoteFault)
  if (s.portOf p).sendsFault = on then s else (s.setPort p { s.portOf p with sendsFault := on }).emit (.remoteFault p on)

/-- A port that comes up after a lasting loss raises link_up (R84). -/
def State.portUp (s : State) (p : Nat) : State :=
  if (s.portOf p).down then (s.raise (PT_INT_STAT_link_up p)).setPort p { s.portOf p with down := false } else s

/-- PT_STAT's fault and link bits (R81, R100), and what a link that comes up or goes down brings with it; it is down where link_up reads 0
(R84, R199). -/
def State.portLink (s : State) (p : Nat) : State :=
  let was := s.on (PT_STAT_link_up p)
  let fault := (s.lanesOf p).any (fun l => s.on (LN_STAT_hi_ber l)) || (s.portOf p).alignLost || (s.laneOf p).lost
  let s := s.setB (PT_STAT_local_fault p) fault
  let s := s.setB (PT_STAT_link_up p) (s.rxLocked p && !fault && !s.on (PT_STAT_remote_fault p))
  let s := if s.on (PT_STAT_link_up p) then s.portUp p else (if was then s.portDown p else s).linkPortLost p
  s.faultTx p

/-- The cross-connect of port `p` is enabled (R78, R96). -/
def State.crossed (s : State) (p : Nat) : Bool := s.on (PT_XCONN_enable p) && !s.upper p

/-- PT_STAT.looped (R95, R96). -/
def State.portLooped (s : State) (p : Nat) : State :=
  s.setB (PT_STAT_looped p) ((s.lanesOf p).any (fun l => decide (s.loopOf l ≠ 0)) || s.crossed p)

/-- The receive path of port `p` is out of service: one of its lanes calibrates its receiver (R93). -/
def State.rxOut (s : State) (p : Nat) : Bool := (s.lanesOf p).any fun l => s.on (LN_STAT_cal_busy l)

/-! ### Losses of block lock (R84) -/

/-- Start a receive calibration (R93); a start while one runs is ignored. -/
def State.lnCalBegin (s : State) (l : Nat) : State :=
  if s.on (LN_STAT_cal_busy l) then s
  else (((s.raise (LN_STAT_cal_busy l)).raise (LN_EYE_stale l)).setLane l { s.laneOf l with calWanted := false }).laneClk l

/-- HL's repair of a lane after a lasting loss: a receive calibration once there is a signal, and the degraded mark on a
second lasting loss within 1 h of that repair (R445). -/
def State.laneRepair (s : State) (l : Nat) : State :=
  let at' := s.hl.repairedAt.get 0 l
  let s := if at' ≠ 0 ∧ s.clk < at' + 3600 * 1250000000 then
    { s with hl := { s.hl with degraded := insertN l s.hl.degraded } } else s
  if s.on (LN_STAT_signal l) then s.lnCalBegin l else s.setLane l { s.laneOf l with calWanted := true }

/-- A loss that has become lasting (R84). -/
def State.lossLasting (s : State) (h : Nat) : State :=
  let s := s.setLane h { s.laneOf h with loss := .lasting }
  let s := (s.inc (LN_LOCK_LOSS_lasting h)).laneCause h (LN_INT_STAT_lock_loss_lasting h)
  let s := (s.raise (PT_INT_STAT_link_down h)).setPort h { s.portOf h with down := true }
  (s.hlLasting 0x01 h 0xFFFF 0).laneRepair h

/-- Block lock of lane `l` has ended, or alignment of its port: the loss is retried, or is lasting where it is a second failure
after a return; during a calibration of the lane or of its link it is not classified (R84, R93, R291). In every case it is a local fault
(R81). -/
def State.lockEnds (s : State) (l : Nat) : State :=
  let h := s.headLane l
  let s := s.setLane h { s.laneOf h with lost := true }
  let x := s.laneOf h
  let s := if (s.lanesOf h).any (fun k => s.on (LN_STAT_cal_busy k)) ∨ s.linkState h = 3 then s else
    match x.loss with
    | .none => s.setLane h { x with loss := .retry }
    | .returned => s.lossLasting h
    | _ => s
  (s.laneClk l).portLink h

/-- The port's lock is back: a loss being retried has returned, and a lasting one has ended (R84). -/
def State.lockReturns (s : State) (h : Nat) : State :=
  if s.rxLocked h then
    let x := s.laneOf h
    let loss : Loss := match x.loss with | .retry => .returned | .lasting => .none | k => k
    (s.setLane h { x with loss := loss, lost := false }).portLink h
  else s.portLink h

/-- What port `h` has under way of a loss is dropped: it is not classified (R79, R95, R109). -/
def State.lossForget (s : State) (h : Nat) : State :=
  let s := s.setLane h { s.laneOf h with loss := .none, lost := false }
  (s.setPort h { s.portOf h with alignLost := false }).set (LN_STAT_aligned h) 0

/-- The receive side of lane `l` starts again from signal acquisition; the loss this causes is not classified, and in modes 0x2 and 0x3
the whole port starts again (R79, R95, R109). -/
def State.laneRestart (s : State) (l : Nat) : State :=
  let s := [LN_STAT_cdr_lock l, LN_STAT_block_lock l, LN_STAT_aligned l, LN_STAT_fec_lock l, LN_STAT_hi_ber l].foldl
    (fun s f => s.set f 0) s
  ((s.lossForget l).lossForget (s.headLane l)).laneClk l

/-- A lane whose enable clears: its receiver is powered down (R109). -/
def State.lanePowerDown (s : State) (l : Nat) : State :=
  ((s.laneRestart l).set (LN_STAT_signal l) 0).laneClk l |>.laneTx l

/-! ### Disable, drain, idle (R106 to R109) -/

/-- The last frame has gone: PT_IDLE.idle sets and drain_done is raised (R106). -/
def State.portIdle (s : State) (p : Nat) : State :=
  (((s.set (PT_STAT_draining p) 0).set (PT_IDLE_idle p) 1).raise (PT_INT_STAT_drain_done p))

/-- A port stops: its queued frames are drained, or discarded as DISABLE_DISCARD (R106, R109). R107 ends a drain when the link goes down; one
that begins with the link down already waits for its timeout (log entry 58). -/
def State.portStop (s : State) (p : Nat) (drain : Bool) : State :=
  let s := s.linkWait p
  if s.on (PT_IDLE_idle p) then s
  else if drain && s.scHasPort p then
    (s.set (PT_STAT_draining p) 1).set (PT_IDLE_drain_timeout p) 0
  else (((s.scDiscardPort p 0x4).set (PT_IDLE_drain_timeout p) 0).portIdle p)

/-- PT_IDLE.idle falls once the port is on. -/
def State.portStart (s : State) (p : Nat) : State := if s.portOff p then s else s.set (PT_IDLE_idle p) 0

/-! ### The frame boundary of LN and PT (R33, R35, R36) -/

/-- The taps after the limit of 40, and whether they were reduced (R88). -/
def txTaps (pre main post : Nat) : (Nat × Nat) × Bool :=
  if 40 < pre + post then ((0, 40 - pre), true)
  else if 40 < pre + main + post then ((40 - pre - post, post), true)
  else ((main, post), false)

/-- New taps of lane `l` apply, reduced where they exceed the limit (R88). -/
def State.laneTaps (s : State) (l : Nat) : State :=
  let t := txTaps (s.get (LN_TXEQ_pre l)) (s.get (LN_TXEQ_main l)) (s.get (LN_TXEQ_post l))
  ((s.set (LN_TXEQ_main l) t.1.1).set (LN_TXEQ_post l) t.1.2).setLane l { s.laneOf l with tapsCut := t.2 }

/-- LN_STAT.cfg_err follows the values in force (R77, R88). -/
def State.laneCheck (s : State) (l : Nat) : State :=
  let bad := !fecAllowed (s.bayMode (l / 4)) (s.get (LN_CTRL_fec (s.headLane l)))
  s.setB (LN_STAT_cfg_err l) ((s.laneOf l).tapsCut || bad)

/-- The lane registers of `l`, the bay mode apart. -/
def isLaneReg (l a : Nat) : Bool := decide (LN_CTRL l ≤ a) && decide (a < LN_CTRL (l + 1))

/-- Pending values of lane `l` apply: a change of enable, of the loop or of idle takes its effect. A lane in reset keeps them
pending (R38). -/
def State.laneApply (s : State) (l : Nat) : State :=
  if (s.laneOf l).inReset then s
  else
    let wasOn := s.on (LN_CTRL_enable l)
    let loop := s.loopOf l
    let had := s.pends (.lane l)
    let taps := s.pend.any fun e => decide (e.1 = LN_TXEQ l) && captured s.clk e
    let s := s.applyPend (isLaneReg l)
    if ¬ had then s
    else
      let isOn := s.on (LN_CTRL_enable l)
      let s := (if taps then s.laneTaps l else s).laneCheck l
      let s := if wasOn ∧ ¬ isOn then (s.lanePowerDown l).portStop (s.headLane l) false
        else if (¬ wasOn ∧ isOn) ∨ (loop ≠ 0 ∧ s.loopOf l = 0) then s.laneRestart l else s
      (((s.laneClk l).laneTx l).portLooped (s.headLane l)).portLink (s.headLane l)

/-- Lane `l` of a bay in mode 0x2 or 0x3 follows the setting of lane 4b, whose loop was `was` (R78, R94, R95). -/
def State.laneFollow (s : State) (l was : Nat) : State :=
  let s := s.laneCheck l
  if s.loopOf l = was then s else ((if was ≠ 0 ∧ s.loopOf l = 0 then s.laneRestart l else s).laneClk l).laneTx l

/-- A reset asked for with LN_RESET stops the lane at its boundary (R109). -/
def State.laneResetAt (s : State) (l : Nat) : State :=
  if (s.laneOf l).resetReq then
    let s := s.setLane l { s.laneOf l with resetReq := false, inReset := true }
    (((s.laneRestart l).portStop (s.headLane l) false).laneTx l).portLink (s.headLane l)
  else s

/-- Does an enable of port `p` have to wait, because its last disable has not reached idle (R108)? -/
def State.enableWaits (s : State) (p : Nat) : Bool := !s.on (PT_CTRL_enable p) && !s.on (PT_IDLE_idle p)

/-- The port registers of `p` that apply now. -/
def State.portRegNow (s : State) (p a : Nat) : Bool :=
  decide (groupOf a = .port p) && !(decide (a = PT_CTRL p) && s.enableWaits p && bitOf (s.shadow a).toNat 0)

/-- The frame boundary of port `p` for its lanes and its own registers. -/
def State.lnPtBoundary (s : State) (p : Nat) : State :=
  let lanes := if s.wide p then (if p % 4 = 0 then [p, p + 1, p + 2, p + 3] else []) else [p]
  let loop := s.loopOf p
  let s := lanes.foldl (fun s l => (s.laneApply l).laneResetAt l) s
  let s := if lanes.length ≤ 1 then s else (lanes.drop 1).foldl (fun s l => s.laneFollow l loop) s
  let s := if s.loopOf p = loop then s else s.portLink p
  let wasOn := s.on (PT_CTRL_enable p)
  let s := s.applyPend (s.portRegNow p)
  let s := s.portLooped p
  let s := if wasOn ∧ ¬ s.on (PT_CTRL_enable p) then s.portStop p (s.on (PT_DRAIN_ON_DISABLE_enable p)) else s
  (s.portStart p).faultTx p

/-! ### Receive conditions -/

/-- LOSS_OF_SIGNAL (R81): input below the threshold for 1 µs. -/
def execLossOfSignal (l : Fin 48) (s : State) : Host.Outcome State Fault Refusal :=
  finishIf (s.on (LN_CTRL_enable l) && s.on (LN_STAT_signal l)) s (
    let locked := s.on (LN_STAT_block_lock l)
    let s := (s.set (LN_STAT_signal l) 0).laneCause l (LN_INT_STAT_los l)
    let s := [LN_STAT_cdr_lock l, LN_STAT_block_lock l, LN_STAT_fec_lock l].foldl (fun s f => s.set f 0) s
    if locked then s.lockEnds l else s.laneClk l)

/-- SIGNAL_DETECT (R81): input above the threshold for 1 µs; acquisition begins, and a repair that waits for a signal. -/
def execSignalDetect (l : Fin 48) (s : State) : Host.Outcome State Fault Refusal :=
  finishIf (decide (l.val < s.lanes) && s.on (LN_CTRL_enable l) && !(s.laneOf l).inReset && !s.on (LN_STAT_signal l)) s (
    let s := s.raise (LN_STAT_signal l)
    if (s.laneOf l).calWanted then s.lnCalBegin l else s)

/-- CDR_LOSS_OF_LOCK (R81): the recovered frequency is more than 300 ppm off over 10 µs. -/
def execCdrLossOfLock (l : Fin 48) (s : State) : Host.Outcome State Fault Refusal :=
  finishIf (s.on (LN_STAT_cdr_lock l)) s (
    let locked := s.on (LN_STAT_block_lock l)
    let s := (s.set (LN_STAT_cdr_lock l) 0).laneCause l (LN_INT_STAT_cdr_unlock l)
    let s := (s.set (LN_STAT_block_lock l) 0).set (LN_STAT_fec_lock l) 0
    if locked then s.lockEnds l else s.laneClk l)

/-- CDR_LOCK (R81, R83). -/
def execCdrLock (l : Fin 48) (s : State) : Host.Outcome State Fault Refusal :=
  finishIf (s.on (LN_STAT_signal l) && !s.on (LN_STAT_cdr_lock l)) s ((s.raise (LN_STAT_cdr_lock l)).laneClk l)

/-- BLOCK_LOCK_LOSS (R81, R84): 16 invalid headers within 64, or codeword lock lost. -/
def execBlockLockLoss (l : Fin 48) (s : State) : Host.Outcome State Fault Refusal :=
  finishIf (s.on (LN_STAT_block_lock l)) s (((s.set (LN_STAT_block_lock l) 0).set (LN_STAT_fec_lock l) 0).lockEnds l)

/-- BLOCK_LOCK (R82, R84): 64 valid headers in a row at one position, or codeword lock with RS-FEC. -/
def execBlockLock (l : Fin 48) (s : State) : Host.Outcome State Fault Refusal :=
  finishIf (s.on (LN_STAT_cdr_lock l) && !s.on (LN_STAT_block_lock l)) s (
    let s := (s.raise (LN_STAT_block_lock l)).setB (LN_STAT_fec_lock l) (decide (s.fecOf l = 2))
    (s.laneClk l).lockReturns (s.headLane l))

/-- BLOCK_LOCK_RETRY_EXPIRY (R84): lock has not returned 1 ms after the loss. -/
def execBlockLockRetryExpiry (l : Fin 48) (s : State) : Host.Outcome State Fault Refusal :=
  finishIf (decide ((s.laneOf l).loss = .retry)) s ((s.lossLasting l).portLink l)

/-- BLOCK_LOCK_STABLE_EXPIRY (R84): lock has held 10 ms after its return; the loss was transient, unless escalation makes it
lasting (R445). -/
def execBlockLockStableExpiry (l : Fin 48) (s : State) : Host.Outcome State Fault Refusal :=
  finishIf (decide ((s.laneOf l).loss = .returned)) s (
    let s := s.setLane l { s.laneOf l with loss := .none }
    let s := (s.inc (LN_LOCK_LOSS_transient l)).laneCause l (LN_INT_STAT_lock_loss_transient l)
    let (esc, s) := s.hlTransient 0x01 l 0xFFFF 0
    if esc then s.laneRepair l else s)

/-- HI_BER_WINDOW (R81, R86): a 125 µs window ends with so many invalid headers, and corrected and uncorrectable codewords and
corrected symbols of the FEC decoder, which in mode 0x3 are recorded on lane 4b. -/
def execHiBerWindow (l : Fin 48) (invalid corr uncorr sym : Nat) (s : State) : Host.Outcome State Fault Refusal :=
  finishIf (s.on (LN_CTRL_enable l)) s (
    let f := if s.bayMode (l / 4) = 3 then s.headLane l else l.val
    let s := if s.on (LN_STAT_block_lock l) then s.add (LN_HDR_ERR_count l) invalid else s
    let s := ((s.add (LN_FEC_CORR_count f) corr).add (LN_FEC_UNCORR_count f) uncorr).add (LN_SYM_ERR_count f) sym
    let s := if 0 < uncorr then s.laneCause f (LN_INT_STAT_fec_uncorr f) else s
    let high := if s.fecOf l = 2 then decide (4 ≤ uncorr) else decide (16 ≤ invalid)
    let s := if high ∧ ¬ s.on (LN_STAT_hi_ber l) then s.laneCause l (LN_INT_STAT_hi_ber l) else s
    (s.setB (LN_STAT_hi_ber l) high).portLink (s.headLane l))

/-- ALIGNMENT_LOSS (R81): four alignment markers in a row missing on a PCS lane of port 4b. -/
def execAlignmentLoss (b : Fin 12) (s : State) : Host.Outcome State Fault Refusal :=
  let h := 4 * b.val
  finishIf (s.wide h && s.on (LN_STAT_aligned h)) s (
    let s := (s.set (LN_STAT_aligned h) 0).laneCause h (LN_INT_STAT_align_loss h)
    (s.setPort h { s.portOf h with alignLost := true }).lockEnds h)

/-- ALIGNMENT (R81, R83): markers found on every PCS lane for two marker periods. -/
def execAlignment (b : Fin 12) (s : State) : Host.Outcome State Fault Refusal :=
  let h := 4 * b.val
  finishIf (s.wide h && (s.lanesOf h).all (fun l => s.on (LN_STAT_block_lock l)) && !s.on (LN_STAT_aligned h)) s (
    let s := (s.raise (LN_STAT_aligned h)).setPort h { s.portOf h with alignLost := false }
    s.lockReturns h)

/-- REMOTE_FAULT_RECEIVE (R100). -/
def execRemoteFaultReceive (p : Fin 48) (s : State) : Host.Outcome State Fault Refusal :=
  finishIf (s.rxLocked p && !s.rxOut p && !s.on (PT_STAT_remote_fault p)) s (
    ((s.raise (PT_STAT_remote_fault p)).raise (PT_INT_STAT_remote_fault p)).portLink p)

/-- REMOTE_FAULT_END (R100). -/
def execRemoteFaultEnd (p : Fin 48) (s : State) : Host.Outcome State Fault Refusal :=
  finishIf (s.on (PT_STAT_remote_fault p)) s ((s.set (PT_STAT_remote_fault p) 0).portLink p)

/-! ### Bay modes, calibration, eye, reset -/

/-- BAY_MODE_APPLY (R79): the pending mode applies once every port of the bay is idle, and the four lanes restart from signal
acquisition; the bay's link results become calibration stale. -/
def execBayModeApply (b : Fin 12) (s : State) : Host.Outcome State Fault Refusal :=
  let a := LN_BAY_MODE b
  let ready := (s.pend.any fun e => decide (e.1 = a) && captured s.clk e)
    && (List.range 4).all fun k => s.on (PT_IDLE_idle (4 * b.val + k))
  finishIf ready s (
    let s := s.applyPend fun x => decide (x = a)
    let s := (List.range 4).foldl (fun (s : State) (k : Nat) =>
      let l := 4 * b.val + k
      let s := (((s.set (LN_STAT_signal l) 0).laneRestart l).laneCheck l).laneTx l
      (s.calLost l).linkWait l) s
    (List.range 4).foldl (fun (s : State) (k : Nat) => (s.portLooped (4 * b.val + k)).portLink (4 * b.val + k)) s)

/-- The receiver of lane `l` publishes a new eye figure (R92): stale clears, and a width below the threshold raises eye_low. -/
def State.eyePublish (s : State) (l width height : Nat) : State :=
  let s := ((s.set (LN_EYE_width l) width).set (LN_EYE_height l) height).set (LN_EYE_stale l) 0
  if s.get (LN_EYE_width l) < s.get (LN_EYE_THR_width_min l) then s.laneCause l (LN_INT_STAT_eye_low l) else s

/-- LN_CAL_END (R93): the calibration ends and publishes the eye. -/
def execLnCalEnd (l : Fin 48) (width height : Nat) (s : State) : Host.Outcome State Fault Refusal :=
  finishIf (s.on (LN_STAT_cal_busy l)) s (
    let s := (s.set (LN_STAT_cal_busy l) 0).laneCause l (LN_INT_STAT_cal_done l)
    let s := s.eyePublish l width height
    let s := { s with hl := { s.hl with repairedAt := s.hl.repairedAt.put 0 l s.clk } }
    (s.laneClk l).mbAnswerWaiting (fun q => q.opcode = 0x5002 ∧ byteAt q.payload 0 = 1 ∧ leAt q.payload 4 4 = l.val) (.inr []))

/-- EYE_PUBLISH (R92): once a second the receiver publishes its eye. -/
def execEyePublish (l : Fin 48) (width height : Nat) (s : State) : Host.Outcome State Fault Refusal :=
  finishIf (s.on (LN_CTRL_enable l) && !s.on (LN_STAT_cal_busy l)) s (s.eyePublish l width height)

/-- LANE_RESET_END (R109): after 1 µs the lane starts acquisition with its shadow contents (R38). -/
def execLaneResetEnd (l : Fin 48) (s : State) : Host.Outcome State Fault Refusal :=
  finishIf (s.laneOf l).inReset s (
    let s := s.setLane l { s.laneOf l with inReset := false }
    let now := s.pend.filter fun e => isLaneReg l e.1
    let s := { s with pend := s.pend.filter fun e => !isLaneReg l e.1 }
    let s := now.foldl (fun s e => s.wr e.1 e.2.1) s
    let s := if now.any fun e => decide (e.1 = LN_TXEQ l) then s.laneTaps l else s
    let s := (((s.set (LN_STAT_signal l) 0).laneRestart l).laneCheck l).laneTx l
    ((s.portLooped (s.headLane l)).portLink (s.headLane l)).portStart (s.headLane l))

/-! ### Pause (R101) -/

/-- PT_STAT.paused follows the pauses in force. -/
def State.portPaused (s : State) (p : Nat) : State :=
  s.setB (PT_STAT_paused p) ((s.portOf p).pauseAll || decide ((s.portOf p).pfc ≠ 0))

/-- A PAUSE or PFC frame from the far end reaches the MAC of port `p`: not at loop depths 1 to 3, and not while the receive path is out of
service; at depth 4 and on a port that is off it is discarded and counted as drop_disabled (R93, R94, R106). -/
def State.farFlow (s : State) (p : Nat) (k : State → State) : State :=
  if s.portOff p ∨ s.loopOf p = 4 then s.dropDisabled p
  else k (s.add64 (PT_PAUSE_RX_LO p) (PT_PAUSE_RX_HI p) 1)

/-- The far end's frames can be received on port `p`. -/
def State.farHeard (s : State) (p : Nat) : Bool := s.rxLocked p && !s.rxOut p && (decide (s.loopOf p = 0) || decide (s.loopOf p = 4))

/-- A received PAUSE frame acts: with pause_rx = 1, unless PFC applies; quanta 0 ends the pause (R101). -/
def State.pauseTake (s : State) (p quanta : Nat) : State :=
  if s.on (PT_CTRL_pause_rx p) ∧ ¬ s.on (PT_CTRL_pfc_rx p) then
    (s.setPort p { s.portOf p with pauseAll := decide (0 < quanta) }).portPaused p
  else s

/-- A received PFC frame acts with pfc_rx = 1; `vector` names the classes, `zero` those whose quanta is 0 (R101). -/
def State.pfcTake (s : State) (p : Nat) (vector zero : BitVec 8) : State :=
  if s.on (PT_CTRL_pfc_rx p) then
    let old := BitVec.ofNat 8 (s.portOf p).pfc
    (s.setPort p { s.portOf p with pfc := ((old ||| vector) &&& ~~~ (vector &&& zero)).toNat }).portPaused p
  else s

/-- PAUSE_FRAME_RECEIVE (R101). -/
def execPauseFrameReceive (p : Fin 48) (quanta : Nat) (s : State) : Host.Outcome State Fault Refusal :=
  finishIf (s.farHeard p) s (s.farFlow p fun s => s.pauseTake p quanta)

/-- PFC_FRAME_RECEIVE (R101). -/
def execPfcFrameReceive (p : Fin 48) (vector zero : BitVec 8) (s : State) : Host.Outcome State Fault Refusal :=
  finishIf (s.farHeard p) s (s.farFlow p fun s => s.pfcTake p vector zero)

/-- PAUSE_EXPIRY (R101): a received pause time runs out, the port's own or that of some classes. -/
def execPauseExpiry (p : Fin 48) (all : Bool) (classes : BitVec 8) (s : State) : Host.Outcome State Fault Refusal :=
  finishIf (s.on (PT_STAT_paused p)) s (
    let x := s.portOf p
    (s.setPort p { x with pauseAll := x.pauseAll && !all, pfc := (BitVec.ofNat 8 x.pfc &&& ~~~ classes).toNat }).portPaused p)

/-! ### Drains (R106, R107) -/

/-- DRAIN_DONE (R106): the last queued frame of a draining port has left. -/
def execDrainDone (p : Fin 48) (s : State) : Host.Outcome State Fault Refusal :=
  finishIf (s.on (PT_STAT_draining p) && !s.scHasPort p) s (s.portIdle p)

/-- DRAIN_TIMEOUT (R107): the drain's timeout has elapsed. -/
def execDrainTimeout (p : Fin 48) (s : State) : Host.Outcome State Fault Refusal :=
  finishIf (s.on (PT_STAT_draining p) && decide (0 < s.get (PT_DRAIN_ON_DISABLE_timeout_us p))) s (
    ((s.scDiscardPort p 0x4).set (PT_IDLE_drain_timeout p) 1).portIdle p)

end Sys2Proof.Machine
end

