-- ==== Sys2Proof/Machine/Tables.lean ====
section
/-! DEFINITION. The forwarding tables: entries, the cuckoo MAC table, parity, epochs, learning and ageing (R142 to R163). -/

namespace Sys2Proof.Machine

/-! ### Entries (R170) -/

/-- Flow and label entry: in use. -/
def Ent.valid0 (e : Ent) : Bool := bitOf e.w0.toNat 31

/-- Label-stack record: in use. -/
def Ent.valid2 (e : Ent) : Bool := bitOf e.w2.toNat 31

/-- FID of a MAC or VLAN entry. -/
def Ent.fid (e : Ent) : Nat := bitsOf e.w1 27 16

/-- The address of a MAC entry. -/
def Ent.addr (e : Ent) : Nat := e.w0.toNat + bitsOf e.w1 15 0 * 2 ^ 32

/-- A MAC entry is static. -/
def Ent.fixed (e : Ent) : Bool := bitOf e.w1.toNat 28

/-- MAC entry: hit. -/
def Ent.hit (e : Ent) : Bool := bitOf e.w1.toNat 29

/-- MAC entry: aged_once. -/
def Ent.agedOnce (e : Ent) : Bool := bitOf e.w1.toNat 30

/-- MAC entry: the destination word. -/
def Ent.dest (e : Ent) : Nat := bitsOf e.w2 16 0

/-- MAC entry: cand_valid. -/
def Ent.candValid (e : Ent) : Bool := bitOf e.w2.toNat 25

/-- MAC entry: the candidate as a destination word. -/
def Ent.cand (e : Ent) : Nat := bitsOf e.w2 22 17 + (if bitOf e.w2.toNat 26 then 3 * 2 ^ 15 else 0)

/-- MAC entry with bit `n` of word 1 set to `b`. -/
def Ent.with1 (e : Ent) (n : Nat) (b : Bool) : Ent := { e with w1 := putBits e.w1 n n (flag b) }

/-- MAC entry without a candidate. -/
def Ent.noCand (e : Ent) : Ent := { e with w2 := putBits e.w2 25 25 0 }

/-- MAC entry with a pending candidate: identity, count, ms (R159). -/
def Ent.setCand (e : Ent) (ident count ms : Nat) : Ent :=
  { e with w2 := putBits (putBits (putBits (putBits (putBits e.w2 22 17 ident) 24 23 count) 25 25 1) 26 26 (flag (ident / 2 ^ 15 = 3))) 31 27 ms }

/-- A fresh MAC entry made by learning. -/
def Ent.learned (fid mac ident ms : Nat) : Ent :=
  ⟨BitVec.ofNat 32 mac, BitVec.ofNat 32 (mac / 2 ^ 32 % 2 ^ 16 + fid % 2 ^ 12 * 2 ^ 16 + 2 ^ 29 + 2 ^ 31), BitVec.ofNat 32 ident, BitVec.ofNat 32 ms⟩

/-! ### Tables by code (R142) -/

/-- Entries of the table with code `t`; 0 for a code that does not exist. -/
def tableSize (t : Nat) : Nat :=
  match t with
  | 0 => 524288
  | 1 => 4096
  | 2 => 65536
  | 3 => 65536
  | 4 => 32768
  | 5 => 4096
  | 6 => 8192
  | _ => 0

/-- The table with code `t`. -/
def State.table (s : State) (t : Nat) : Tab Ent :=
  match t with
  | 0 => s.ft.mac
  | 1 => s.ft.vlan
  | 2 => s.ft.flow
  | 3 => s.ft.label
  | 4 => s.ft.nextHop
  | 5 => s.ft.group
  | 6 => s.ft.stack
  | _ => []

/-- Entry `i` of table `t`. -/
def State.ent (s : State) (t i : Nat) : Ent := (s.table t).get Ent.zero i

/-- Store entry `i` of table `t`; FT_STAT.mac_count follows. -/
def State.setEnt (s : State) (t i : Nat) (e : Ent) : State :=
  let tab := (s.table t).put Ent.zero i e
  match t with
  | 0 =>
    let was := (s.ent 0 i).valid1
    let n := s.get FT_STAT_mac_count
    let s := { s with ft := { s.ft with mac := tab } }
    if was ∧ ¬ e.valid1 then s.set FT_STAT_mac_count (n - 1) else if ¬ was ∧ e.valid1 then s.set FT_STAT_mac_count (n + 1) else s
  | 1 => { s with ft := { s.ft with vlan := tab } }
  | 2 => { s with ft := { s.ft with flow := tab } }
  | 3 => { s with ft := { s.ft with label := tab } }
  | 4 => { s with ft := { s.ft with nextHop := tab } }
  | 5 => { s with ft := { s.ft with group := tab } }
  | 6 => { s with ft := { s.ft with stack := tab } }
  | _ => s

/-! ### MAC locations and lookup (R152) -/

/-- The key: two bytes of FID, six of address, in network order. -/
def macKey (fid mac : Nat) : Bytes := beBytes 2 (fid % 2 ^ 12) ++ beBytes 6 mac

/-- FT_MAC_SEED[h]. -/
def State.macSeed (s : State) (h : Nat) : Nat := (s.rd (FT_MAC_SEED h)).toNat

/-- The bucket of a key in half `h`. -/
def State.bucket (s : State) (h fid mac : Nat) : Nat :=
  let c := crc32cRaw (s.macSeed h) (macKey fid mac)
  (c / 2 ^ 16) ^^^ (c % 2 ^ 16)

/-- A location: half, way, bucket. -/
def macLoc (h w b : Nat) : Nat := h * 2 ^ 18 + w * 2 ^ 16 + b

/-- The eight locations a key can stand at, half 0 first. -/
def State.ways (s : State) (fid mac : Nat) : List Nat :=
  let b0 := s.bucket 0 fid mac
  let b1 := s.bucket 1 fid mac
  (List.range 4).map (macLoc 0 · b0) ++ (List.range 4).map (macLoc 1 · b1)

/-- Does the slot hold the key? A slot with a lasting fault is a miss (R163). -/
def State.holdsKey (s : State) (fid mac loc : Nat) : Bool :=
  let e := s.ent 0 loc
  e.valid1 && decide (e.fid = fid) && decide (e.addr = mac) && !s.entBad 0 loc

/-- Where the key stands, if anywhere; of two copies the half 0 copy (R155). -/
def State.macFind (s : State) (fid mac : Nat) : Option Nat := (s.ways fid mac).find? (s.holdsKey fid mac)

/-! ### Locks (R168) -/

/-- The lock of ring `r`. -/
def State.lockOf (s : State) (r : Nat) : Option DmaLock := s.ft.locks.get none r

/-- A lock addresses one of the slots `own` of table `t`. -/
def DmaLock.covers (l : DmaLock) (t : Nat) (own : List Nat) : Bool := decide (l.table = t) && l.slots.any own.contains

/-- Ring `r` holds slot `i` of table `t`. -/
def State.ringHolds (s : State) (r t i : Nat) : Bool :=
  match s.lockOf r with
  | some l => l.covers t [i]
  | none => false

/-- The expired locks of ring `r` whose LOCK_EXPIRED is still to come. -/
def State.lapsedOf (s : State) (r : Nat) : List DmaLock := s.ft.lapsed.get [] r

/-- Some ring holds slot `i` of table `t`. -/
def State.held (s : State) (t i : Nat) : Bool := (List.range 8).any fun r => s.ringHolds r t i

/-- A ring other than `r` holds it. -/
def State.heldByOther (s : State) (r t i : Nat) : Bool := (List.range 8).any fun k => decide (k ≠ r) && s.ringHolds k t i

/-! ### Deltas (R160) -/

/-- Record a learn delta. -/
def State.delta (s : State) (fid mac : Nat) (e : Ent) : State :=
  if 512 ≤ s.ft.deltas.length then { s with ft := { s.ft with deltaOvf := true } }.raise FT_INT_STAT_delta_ovf
  else { s with ft := { s.ft with deltas := s.ft.deltas ++ [⟨fid, mac, e⟩] } }

/-- Invalidate the MAC slot, with a delta. -/
def State.macRemove (s : State) (loc : Nat) : State :=
  let e := s.ent 0 loc
  (s.setEnt 0 loc (e.with1 31 false)).delta e.fid e.addr (e.with1 31 false)

/-! ### Insertion (R154, R155) -/

/-- A slot that the engine may not move or fill: static, held, or with a lasting fault. -/
def State.pinned (s : State) (loc : Nat) : Bool :=
  ((s.ent 0 loc).valid1 && (s.ent 0 loc).fixed) || s.held 0 loc || s.entBad 0 loc

/-- The ways of an entry's bucket in the other half. -/
def State.otherWays (s : State) (loc : Nat) : List Nat :=
  let e := s.ent 0 loc
  let h := if loc < 2 ^ 18 then 1 else 0
  let b := s.bucket h e.fid e.addr
  (List.range 4).map (macLoc h · b)

/-- A way that is invalid and may be filled. -/
def State.freeWay (s : State) (l : List Nat) : Option Nat := l.find? fun k => !(s.ent 0 k).valid1 && !s.held 0 k && !s.entBad 0 k

/-- Breadth-first search for a path of moves to a free way; each path lists its slots, the last first. `n` bounds the moves. -/
def State.path (s : State) : Nat → List (List Nat) → List Nat → Option (List Nat)
  | 0, _, _ => none
  | n + 1, front, seen =>
    let live := front.filter fun p => match p with | k :: _ => !s.pinned k | [] => false
    match live.findSome? fun p => match p with | k :: _ => (s.freeWay (s.otherWays k)).map (· :: p) | [] => none with
    | some p => some p
    | none =>
      let next := live.foldl (fun (a : List (List Nat) × List Nat) p => match p with
        | k :: _ =>
          let new := (s.otherWays k).filter fun j => !a.2.contains j
          (a.1 ++ new.map (· :: p), a.2 ++ new)
        | [] => a) ([], seen)
      if next.1.isEmpty then none else s.path n next.1 next.2

/-- The move register names the origin `o` and the destination `d` in the core clocks of this move (R155). -/
def State.moveNote (s : State) (o d : Nat) : State := { s with ft := { s.ft with moved := s.ft.moved ++ [(o, d, s.clk)] } }

/-- Make the moves of a path, from its end backwards; every move is a copy then a removal. -/
def State.moves (s : State) : List Nat → State
  | d :: o :: rest =>
    (((((s.setEnt 0 d (s.ent 0 o)).setEnt 0 o ((s.ent 0 o).with1 31 false)).moveNote o d).pm 2 0x25 1)).moves (o :: rest)
  | _ => s

/-- Where the move register, in the clocks of a move out of slot `loc`, says that its entry goes: the engine's last insertion has
moved it at this same core clock (R156). -/
def State.movingTo (s : State) (loc : Nat) : Option Nat :=
  (s.ft.moved.find? fun m => decide (m.1 = loc) && decide (m.2.2 = s.clk)).map fun m => m.2.1

/-- Place `e` under its key: in place, in a free way, or after moves. Answers its location, or none where there is no room. -/
def State.macInsert (s : State) (e : Ent) : Option Nat × State :=
  match s.macFind e.fid e.addr with
  | some loc => (some loc, s.setEnt 0 loc e)
  | none =>
    let ways := s.ways e.fid e.addr
    match s.freeWay ways with
    | some loc => (some loc, s.setEnt 0 loc e)
    | none =>
      match s.path (clamp 1 128 (s.get FT_CUCKOO_CFG_max_moves)) (ways.map (fun k => [k])) ways with
      | some p =>
        let first := p.getLastD 0
        (some first, ({ s with ft := { s.ft with moved := [] } }.moves p).setEnt 0 first e)
      | none => (none, s.pm 2 0x27 1)

/-! ### Parity (R163) -/

/-- A parity error found in a read. -/
def State.ftFault (s : State) (f : FtFault) : State :=
  if f.lasting then
    let s := (s.inc FT_PARITY_CNT_lasting).raise FT_INT_STAT_parity_lasting
    let s := s.captureAt 30 FT_PARITY_LOG (BitVec.ofNat 32 (f.table % 16 * 2 ^ 26 + f.word % 4 * 2 ^ 24 + f.index % 2 ^ 20))
    let s := (s.hlLasting 0x03 f.bank f.row 0).hlQueueRow 3 f.bank f.row
    let s := if s.entBad f.table f.index then s
      else { s with ft := { s.ft with bad := s.ft.bad ++ [⟨f.table, f.index, f.word % 4, f.bank, f.row⟩] } }
    if f.table = 0 ∧ (s.ent 0 f.index).valid1 then s.macRemove f.index else s
  else
    let s := (s.inc FT_PARITY_CNT_transient).raise FT_INT_STAT_parity_transient
    let (esc, s) := s.hlTransient 0x03 f.bank f.row 0
    if esc then s.hlQueueRow 3 f.bank f.row else s

/-- Word `w` of an entry becomes zero. -/
def Ent.zeroWord (e : Ent) (w : Nat) : Ent :=
  match w with
  | 0 => { e with w0 := 0 }
  | 1 => { e with w1 := 0 }
  | 2 => { e with w2 := 0 }
  | _ => { e with w3 := 0 }

/-- A row of the FT memories has been repaired: the words that failed read zero with valid parity (R449). -/
def State.ftRepaired (s : State) (bank row : Nat) : State :=
  let here (e : BadEnt) : Bool := decide (e.bank = bank) && decide (e.row = row)
  let s := (s.ft.bad.filter here).foldl (fun s e => s.setEnt e.table e.index ((s.ent e.table e.index).zeroWord e.word)) s
  { s with ft := { s.ft with bad := s.ft.bad.filter fun e => !here e } }

/-! ### Epochs (R148 to R151) -/

/-- Advance the epoch, or refuse: false where it is refused. -/
def State.epochAdvance (s : State) : Bool × State :=
  let c := s.get FT_EPOCH_current
  if (c + 1 + 65536 - s.get FT_DRAIN_EPOCH_value) % 65536 = 32768 then (false, s.raise FT_INT_STAT_epoch_full)
  else (true, s.set FT_EPOCH_current (c + 1))

/-- The frame carries a stamp: it is stamped, and some copy of it is elsewhere than in a CPU queue (R149). -/
def State.stamped (s : State) (e : Nat × Pkt) : Bool :=
  e.2.epoch.isSome && (decide (e.2.store = 0) || !e.2.tx.isEmpty
    || e.2.copies.any fun c => s.inQueue e.1 c.q && !(decide (384 ≤ c.q) && decide (c.q < 416)))

/-- The oldest stamp in the module, or the current epoch (R149). -/
def State.oldestEpoch (s : State) : Nat :=
  let c := s.get FT_EPOCH_current
  let age (e : Nat) := (c + 65536 - e) % 65536
  (s.sc.frames.filter s.stamped).foldl (fun o e => if age o < age (e.2.epoch.getD c) then e.2.epoch.getD c else o) c

/-- DRAIN_EPOCH_ADVANCE (R149): the oldest stamped frame has left, and the value changes. -/
def execDrainEpochAdvance (s : State) : Host.Outcome State Fault Refusal :=
  finishIf (decide (s.oldestEpoch ≠ s.get FT_DRAIN_EPOCH_value)) s
    ((s.set FT_DRAIN_EPOCH_value s.oldestEpoch).raise FT_INT_STAT_drain_adv)

/-! ### Learning (R157 to R161) -/

/-- The port identity of a frame as a destination word (R146). -/
def State.identity (s : State) (p : Nat) : Nat :=
  if s.on (FT_PORT_CFG_lag_en p) then 3 * 2 ^ 15 + s.get (FT_PORT_CFG_lag_grp p) else p

/-- An event enters the learn queue of 1024, or is discarded and counted (R158). -/
def State.learnPut (s : State) (e : LearnEv) : State :=
  if 1024 ≤ s.ft.queue.length then (s.inc FT_LEARN_DROP_queue_full).raise FT_INT_STAT_learn_drop
  else { s with ft := { s.ft with queue := s.ft.queue ++ [e] } }.pm 2 0x23 1

/-- The event that a good frame issues, chosen from its snapshot (R157). -/
def State.learnIssue (s : State) (fid mac ident : Nat) (src : Option Ent) : State :=
  if mac / 2 ^ 40 % 2 = 1 ∨ mac = 0 then s
  else
    match src with
    | none => s.learnPut ⟨0, fid, mac, ident⟩
    | some e =>
      if e.dest = ident then (if ¬ e.hit ∨ e.candValid then s.learnPut ⟨1, fid, mac, ident⟩ else s)
      else if e.candValid ∧ e.cand = ident ∧ bitsOf e.w2 31 27 = s.ms % 32 then s
      else s.learnPut ⟨0, fid, mac, ident⟩

/-- The move hold in ms (R159). -/
def State.holdMs (s : State) : Nat := clamp 1 100 (s.get FT_MOVE_HOLD_hold_ms)

/-- Milliseconds since an entry was learned, modulo 2³². -/
def State.sinceLearn (s : State) (e : Ent) : Nat := (s.ms + 2 ^ 32 - e.w3.toNat) % 2 ^ 32

/-- The entry moves to a new identity (R159). -/
def State.station (s : State) (loc ident : Nat) : State :=
  let e := s.ent 0 loc
  let e := ({ e with w2 := putBits e.w2 16 0 ident, w3 := BitVec.ofNat 32 s.ms }.with1 29 true).noCand
  ((s.setEnt 0 loc e).inc FT_STATION_MOVE_count).delta e.fid e.addr e

/-- A LEARN executes (R159, R161). One that finds a static entry on the frame's own identity counts nothing (log entry 58). -/
def State.doLearn (s : State) (v : LearnEv) : State :=
  if s.ft.filter.contains (v.fid, v.mac) then s else
  match s.macFind v.fid v.mac with
  | none =>
    let e := Ent.learned v.fid v.mac v.ident s.ms
    match s.macInsert e with
    | (some _, s) => (s.inc FT_LEARNED_count).delta v.fid v.mac e
    | (none, s) =>
      let s := (s.inc FT_INSERT_FAIL_count).raise FT_INT_STAT_insert_fail
      let f := if 64 ≤ s.ft.filter.length then s.ft.filter.drop 1 else s.ft.filter
      { s with ft := { s.ft with filter := f ++ [(v.fid, v.mac)] } }
  | some loc =>
    let e := s.ent 0 loc
    if e.fixed then (if e.dest = v.ident then s else s.inc FT_LEARN_DROP_static_conflict)
    else if e.dest = v.ident then s
    else if s.holdMs ≤ s.sinceLearn e then s.station loc v.ident
    else if e.candValid ∧ e.cand = v.ident then
      let n := bitsOf e.w2 24 23 + 1
      if n = 3 then s.station loc v.ident else s.setEnt 0 loc (e.setCand v.ident n (s.ms % 32))
    else (s.setEnt 0 loc (e.setCand v.ident 0 (s.ms % 32))).inc FT_FLAP_count

/-- A REFRESH executes (R159). -/
def State.doRefresh (s : State) (v : LearnEv) : State :=
  match s.macFind v.fid v.mac with
  | none => s
  | some loc =>
    let e := s.ent 0 loc
    if e.dest = v.ident then s.setEnt 0 loc (((e.with1 29 true).with1 30 false).noCand) else s

/-- A destination refresh executes (R162). -/
def State.doDestRefresh (s : State) (v : LearnEv) : State :=
  match s.macFind v.fid v.mac with
  | none => s
  | some loc => s.setEnt 0 loc (((s.ent 0 loc).with1 29 true).with1 30 false)

/-- Execute one event, which waits in the side buffer of 16 where its slot is held under a DMA lock (R168). -/
def State.doEvent (s : State) (v : LearnEv) : State :=
  let waits := match s.macFind v.fid v.mac with | some loc => s.held 0 loc | none => false
  if waits then
    if 16 ≤ s.ft.side.length then (s.inc FT_LEARN_DROP_queue_full).raise FT_INT_STAT_learn_drop
    else { s with ft := { s.ft with side := s.ft.side ++ [v] } }
  else if v.kind = 0 then s.doLearn v else if v.kind = 1 then s.doRefresh v else s.doDestRefresh v

/-- The side buffer executes once a hold has ended; events of slots still held stay. -/
def State.runSide (s : State) : State :=
  let l := s.ft.side
  l.foldl State.doEvent { s with ft := { s.ft with side := [] } }

/-- The event of kind `k` at the head of the learn queue executes. -/
def State.learnHead (s : State) (k : Nat) : Host.Outcome State Fault Refusal :=
  match s.ft.queue with
  | [] => .next s
  | v :: rest => if v.kind = k then finishIf true s ({ s with ft := { s.ft with queue := rest } }.doEvent v) else .next s

/-- LEARN (R159): the head of the learn queue is a LEARN. -/
def execLearn (s : State) : Host.Outcome State Fault Refusal := s.learnHead 0

/-- REFRESH (R159). -/
def execRefresh (s : State) : Host.Outcome State Fault Refusal := s.learnHead 1

/-- DEST_REFRESH (R162). -/
def execDestRefresh (s : State) : Host.Outcome State Fault Refusal := s.learnHead 2

/-- What the sweeper does with a slot (R162). -/
def State.age (s : State) (loc : Nat) : State :=
  let e := s.ent 0 loc
  if ¬ e.valid1 ∨ e.fixed ∨ s.held 0 loc then s
  else
    let e := if e.candValid ∧ s.holdMs ≤ s.sinceLearn e then e.noCand else e
    let e := if 2 ^ 31 ≤ s.sinceLearn e then { e with w3 := BitVec.ofNat 32 (s.ms + 2 ^ 31) } else e
    if e.hit then s.setEnt 0 loc ((e.with1 29 false).with1 30 false)
    else if e.agedOnce then ((s.setEnt 0 loc e).macRemove loc).inc FT_AGED_count
    else s.setEnt 0 loc (e.with1 30 true)

/-- AGE_EVENT (R162): the sweeper visits its next slot; a period of 0 stops it. -/
def execAgeEvent (s : State) : Host.Outcome State Fault Refusal :=
  finishIf (decide (s.get FT_AGE_period_s ≠ 0)) s (
    let s := s.age s.ft.sweep
    { s with ft := { s.ft with sweep := (s.ft.sweep + 1) % 524288 } })

/-- FAIL_FILTER_EXPIRY (R161): the oldest key leaves the fail filter. -/
def execFailFilterExpiry (s : State) : Host.Outcome State Fault Refusal :=
  match s.ft.filter with
  | [] => .next s
  | _ :: rest => finishIf true s { s with ft := { s.ft with filter := rest } }

end Sys2Proof.Machine
end

