-- ==== Sys2Proof/Machine/Mac.lean ====
section
/-! DEFINITION. The port MACs: reception (R97 to R99, R103, R104), what leaves a MAC and how a loop turns it back (R94, R111), and injection
into a port's queue or Class T FIFO (R172, R205). -/

namespace Sys2Proof.Machine

/-- The grammar bank port `p` uses for new frames, and the rule bank (R134). -/
def State.grBank (s : State) (p : Nat) : Nat := s.pr.grOf.get 0 p
def State.rsBank (s : State) (p : Nat) : Nat := s.pr.rsOf.get 0 p

/-! ### Reception -/

/-- Is a frame received on port `p` tagged for tracing (R467)? -/
def State.tag (s : State) (p : Nat) : Bool × State :=
  if ¬ s.on PM_TAG_CFG_enable ∨ 48 ≤ p ∨ ¬ s.bit2 PM_TAG_PORTS_LO PM_TAG_PORTS_HI p then (false, s)
  else
    let k := min 24 (s.get PM_TAG_CFG_k)
    let (r, s) := s.draw k
    (decide (r = 0), s)

/-- Core clocks in `n` units of 2⁻¹⁶ ns. -/
def fracClocks (n : Nat) : Nat := n * 5 / (4 * 2 ^ 16)

/-- The signed 32-bit timestamp adjustment of a register, in units of 2⁻³² ns (R104). -/
def State.adj (s : State) (a : Nat) : Int := signed 32 (s.rd a).toNat * 2 ^ 16

/-- The statistics of a received frame of `n` bytes with destination address `da` (R111). -/
def State.countRx (s : State) (p n da : Nat) : State :=
  let s := s.add64 (PT_FRAMES_RX_OK_LO p) (PT_FRAMES_RX_OK_HI p) 1
  let s := s.add64 (PT_OCTETS_RX_OK_LO p) (PT_OCTETS_RX_OK_HI p) (n - 18)
  if da = 0xFFFFFFFFFFFF then s.add64 (PT_BC_RX_LO p) (PT_BC_RX_HI p) 1
  else if da / 2 ^ 40 % 2 = 1 then s.add64 (PT_MC_RX_LO p) (PT_MC_RX_HI p) 1 else s

/-- An FPL frame (R283). -/
def isFpl (b : Bytes) : Bool := decide (beAt b 0 6 = 0x0180C200000E) && decide (beAt b 12 2 = 0x88B5)

/-- The peer of an enabled cross-connect of port `p` (R96); a port whose control fields have no effect has none (R78). -/
def State.xconn (s : State) (p : Nat) : Option Nat :=
  if s.crossed p then some (s.get (PT_XCONN_peer p)) else none

/-- The MAC of port `p` has taken in a whole frame `b`, FCS included, whose SFD crossed the balls `ago` units of 2⁻¹⁶ ns before
the present TB; `fcs` tells whether its FCS is right, `bad` whether an error control block ended it (R97 to R99, R103). A cross-connect
takes every frame, FPL frames among them (R96). A frame shorter than 64 bytes counts as a runt only, whatever else is wrong with it (log
entry 58). -/
def State.macReceive (s : State) (p : Nat) (b : Bytes) (fcs bad : Bool) (ago : Nat) : State :=
  let xc := s.xconn p
  if s.portOff p ∨ xc.any (fun k => decide (k = p) || !s.portHere k) then s.dropDisabled p
  else if b.length < 64 then s.add64 (PT_RUNT_LO p) (PT_RUNT_HI p) 1
  else
    let limit := s.get (PT_MAXFRM_max p)
    let long := decide (limit < b.length)
    let n := if long then limit + 1 else b.length
    let err := long || bad || !fcs
    let s := if long then s.add64 (PT_TOO_LONG_LO p) (PT_TOO_LONG_HI p) 1
      else if err then s.add64 (PT_FCS_ERR_LO p) (PT_FCS_ERR_HI p) 1
      else s.countRx p n (beAt b 0 6)
    let s := if bad ∧ ¬ long then s.add64 (PT_SYM_ERR_FRAMES_LO p) (PT_SYM_ERR_FRAMES_HI p) 1 else s
    let s := s.bwCount p n true
    let suspect := s.on TB_STAT_suspect
    let s := (s.pm 6 0x60 1).pm 6 0x65 (flag suspect)
    if err ∧ n ≤ 256 then s
    else if ¬ err ∧ isFpl b ∧ s.linkState p ≠ 0 ∧ xc.isNone then s
    else
      let (tagged, s) := s.tag p
      let x := { Pkt.none with
        bytes := b.take (n - 4), len := n, err := err, port := p, xc := xc
        ts := s.tb.move (-((ago * 2 ^ 16 : Nat) : Int) - s.adj (PT_TS_ING_ADJ p)), suspect := suspect
        steps := s.get TB_STEP_CNT_count, gr := s.grBank p, rs := s.rsBank p
        trace := if tagged then some ⟨s.clk - fracClocks ago, none, none, none, none, 0, 0⟩ else none }
      let id := s.sc.nextId
      let s := s.newPkt x
      { s with sc := { s.sc with pipe := s.sc.pipe ++ [id] } }

/-! ### Transmission -/

/-- The MAC of port `p` sends a frame `b`, which `out` puts on the line: at loop depths 1 and 2 it comes back and also goes out where loop_tx_keep =
1, at depth 3 it is discarded, at depth 4 it is turned back (R94). While the receive path is out of service it does not come back through
the lane (R93). -/
def State.macOut (s : State) (p : Nat) (b : Bytes) (good : Bool) (out : State → State) : State :=
  let back (s : State) : State := s.macReceive p (b ++ zeros 4) good false 0
  match s.loopOf p with
  | 0 => out s
  | 3 => s.dropDisabled p
  | 4 => back s
  | _ =>
    let s := if s.on (LN_CTRL_loop_tx_keep (s.headLane p)) then out s else s
    if s.rxOut p then s else back s

/-- A frame with its statistics (R111). -/
def State.macSend (s : State) (p : Nat) (b : Bytes) (good : Bool) : State := s.macOut p b good fun s => s.sendOut p b good

/-- Frames may leave port `p`: its link is up, and it is on (R100, R106, R199). -/
def State.portSends (s : State) (p : Nat) : Bool := s.portHere p && s.on (PT_STAT_link_up p) && !s.portOff p && !s.noMac p

/-- A slow-protocol frame of the module's own with subtype and content `b`: an LACPDU or an ESMC PDU. The spec gives it no source address:
free (log entry 13). -/
def State.slowFrame (s : State) (b : Bytes) : Bytes × State :=
  let (sa, s) := s.draw 48
  let f := beBytes 6 0x0180C2000002 ++ beBytes 6 sa ++ beBytes 2 0x8809 ++ b
  (f ++ zeros (60 - f.length), s)

/-- It leaves port `p`, where frames may leave it. -/
def State.slowSend (s : State) (p : Nat) (b : Bytes) : State :=
  if s.portSends p then
    let (f, s) := s.slowFrame b
    s.macSend p f true
  else s

/-! ### Injection -/

/-- Inject a frame (R172, R205): straight to queue `t` of port `p`, or to its Class T FIFO. `tsId` asks for a transmit timestamp; what
`base` holds of parse records the frame carries. -/
def State.injectAs (s : State) (base : Pkt) (p t : Nat) (classT fromMp : Bool) (tsId : Option Nat) (b : Bytes) (dbm : Bool) : State :=
  let q := if classT then 424 + p else 8 * p + t
  let x := { base with
    bytes := b, len := b.length + 4, port := 48, ts := s.tb, suspect := s.on TB_STAT_suspect, steps := s.get TB_STEP_CNT_count
    classT := classT, tc := t, colour := 1, fromMp := fromMp, tsReq := tsId, copies := [⟨q, none, 0, 0⟩], n := cellsOf (b.length + 4)
    whole := true }
  let id := s.sc.nextId
  (s.newPkt x).admitFrame id dbm

/-- Inject a frame without parse records. -/
def State.inject (s : State) (p t : Nat) (classT fromMp : Bool) (tsId : Option Nat) (b : Bytes) (dbm : Bool) : State :=
  s.injectAs Pkt.none p t classT fromMp tsId b dbm

end Sys2Proof.Machine
end

