-- ==== Sys2Proof/Machine/Parser.lean ====
section
/-! DEFINITION. The parser and classifier: banks and swaps (R132 to R135), the grammar walk and its length checks (R112 to R119),
parity (R124), rules and verbs (R120 to R123, R129 to R131) and the load-spreading hash (R137 to R140). -/

namespace Sys2Proof.Machine

/-! ### Banks and swaps (R133 to R135) -/

/-- Frames that may still take another pass: in a pipeline, on their way to recirculation, or waiting for it. -/
def State.livePkts (s : State) : List Pkt :=
  (s.sc.frames.filter fun e => s.sc.pipe.contains e.1 || e.2.copies.any fun c => decide (416 ≤ c.q) && decide (c.q < 424)).map Prod.snd

/-- PR_STAT.quiet (R133). -/
def State.prQuiet (s : State) : Bool := s.livePkts.isEmpty && (List.range s.lanes).all fun p => s.on (PT_IDLE_idle p)

/-- The ports that take a swap: those present, and port 48. -/
def State.prPorts (s : State) : List Nat := List.range s.lanes ++ [48]

/-- A grammar bank is write-locked (R133). -/
def State.grLocked (s : State) (b : Nat) : Bool :=
  !s.prQuiet && (s.prPorts.any (fun p => decide (s.grBank p = b)) || s.pr.grSwap.any (fun w => decide (w.bank = b))
    || (!s.on PR_GR_DRAINED_drained && decide (s.pr.grOld = b)))

/-- A rule bank, its key profiles and version, is write-locked (R133). -/
def State.rsLocked (s : State) (b : Nat) : Bool :=
  !s.prQuiet && (s.prPorts.any (fun p => decide (s.rsBank p = b)) || s.pr.rsSwap.any (fun w => decide (w.bank = b))
    || (!s.on PR_RS_DRAINED_drained && decide (s.pr.rsOld = b)))

/-- A write of a bank bit: a swap where it names another bank than the one in use and none waits, or than the last one that waits (R134). -/
def swapWrite (l : List BankSwap) (active b clk : Nat) : List BankSwap :=
  let base := match l.getLast? with | some w => w.bank | none => active
  if b = base then l else l ++ [⟨b, clk, [], false⟩]

/-- Of the swaps that have not started and were written before the capture point of this boundary the last one counts; where it names the
bank in use it is no swap (R35, R134). Later writes wait for the next boundary. -/
def swapCapture (l : List BankSwap) (active clk : Nat) : List BankSwap :=
  if l.any BankSwap.started then l
  else
    let before := l.filter fun w => decide (w.at' + 32 < clk)
    let after := l.filter fun w => !decide (w.at' + 32 < clk)
    match before.getLast? with
    | none => l
    | some w => if w.bank = active then after else w :: after

/-- PR_CTRL is written (R134). -/
def State.prSwap (s : State) (v : Word) : State :=
  { s with pr := { s.pr with
      grSwap := swapWrite s.pr.grSwap (s.get PR_STAT_gr_active) (bitsOf v 0 0) s.clk
      rsSwap := swapWrite s.pr.rsSwap (s.get PR_STAT_rs_active) (bitsOf v 1 1) s.clk } }

/-- The shadow of PR_CTRL: the banks named last. -/
def State.prCtrlShadow (s : State) : Word :=
  let b (l : List BankSwap) (a : Nat) := match l.getLast? with | some w => w.bank | none => a
  BitVec.ofNat 32 (b s.pr.grSwap (s.get PR_STAT_gr_active) + 2 * b s.pr.rsSwap (s.get PR_STAT_rs_active))

/-- Port `p` takes the first swap of a list at its frame boundary, where its capture point has passed and, for the first port, the
drain flag reads 1. Answers the list, whether the port applies the swap, and whether it is the first. -/
def swapAt (l : List BankSwap) (p clk : Nat) (drained : Bool) : List BankSwap × Option Nat × Bool :=
  match l with
  | [] => ([], none, false)
  | w :: rest =>
    if w.done.contains p ∨ ¬ w.at' + 32 < clk ∨ (¬ w.started ∧ ¬ drained) then (l, none, false)
    else ({ w with done := insertN p w.done, started := true } :: rest, some w.bank, !w.started)

/-- Has every port applied the first swap? -/
def State.swapDone (s : State) (l : List BankSwap) : Bool :=
  match l with
  | w :: _ => w.started && s.prPorts.all w.done.contains
  | [] => false

/-- The swaps apply at port `p` (R134): the drain flag clears at the first port, and the bank is in use for new frames once
every port has applied it. -/
def State.prSwapAt (s : State) (p : Nat) : State :=
  let g := swapAt (swapCapture s.pr.grSwap (s.get PR_STAT_gr_active) s.clk) p s.clk (s.on PR_GR_DRAINED_drained)
  let r := swapAt (swapCapture s.pr.rsSwap (s.get PR_STAT_rs_active) s.clk) p s.clk (s.on PR_RS_DRAINED_drained)
  let s := { s with pr := { s.pr with grSwap := g.1, rsSwap := r.1 } }
  let s := match g.2.1 with
    | some b =>
      let s := if g.2.2 then { s with pr := { s.pr with grOld := s.get PR_STAT_gr_active } }.set PR_GR_DRAINED_drained 0 else s
      { s with pr := { s.pr with grOf := s.pr.grOf.put 0 p b } }
    | none => s
  let s := match r.2.1 with
    | some b =>
      let s := if r.2.2 then { s with pr := { s.pr with rsOld := s.get PR_STAT_rs_active } }.set PR_RS_DRAINED_drained 0 else s
      { s with pr := { s.pr with rsOf := s.pr.rsOf.put 0 p b } }
    | none => s
  let s := if s.swapDone s.pr.grSwap then
      let b := (s.pr.grSwap.head?.map BankSwap.bank).getD 0
      (({ s with pr := { s.pr with grSwap := s.pr.grSwap.drop 1 } }).set PR_STAT_gr_active b).set PR_CTRL_gr_bank b
    else s
  if s.swapDone s.pr.rsSwap then
    let b := (s.pr.rsSwap.head?.map BankSwap.bank).getD 0
    (({ s with pr := { s.pr with rsSwap := s.pr.rsSwap.drop 1 } }).set PR_STAT_rs_active b).set PR_CTRL_rs_bank b
  else s

/-- Is `a` an address whose shadow the frame boundary of PR applies? -/
def prOf (a : Nat) : Bool := decide (groupOf a = .parser)

/-- The frame boundary of port `p` for PR. PR has one PR_PEND, and what waits in it applies together (R34); the spec does not say which port's
frame boundary this is, and the model takes the first of any port (log entry 58). A swap applies at each port's own (R134). -/
def State.prBoundary (s : State) (p : Nat) : State := (s.applyPend prOf).prSwapAt p

/-- PR_DRAIN_COMPLETE (R135): every port has applied a swap and no packet that used the old bank can take another pass. Both
kinds are looked at. -/
def execPrDrainComplete (s : State) : Host.Outcome State Fault Refusal :=
  let applied (l : List BankSwap) : Bool := match l with | w :: _ => !w.started | [] => true
  let gr := !s.on PR_GR_DRAINED_drained && applied s.pr.grSwap && s.livePkts.all fun x => decide (x.gr ≠ s.pr.grOld)
  let rs := !s.on PR_RS_DRAINED_drained && applied s.pr.rsSwap && s.livePkts.all fun x => decide (x.rs ≠ s.pr.rsOld)
  finishIf (gr || rs) s (
    let s := if gr then (s.set PR_GR_DRAINED_drained 1).raise PR_INT_STAT_gr_drained else s
    if rs then (s.set PR_RS_DRAINED_drained 1).raise PR_INT_STAT_rs_drained else s)

/-- A write to a locked bank is dropped (R133). -/
def State.bankDrop (s : State) : State := (s.inc PR_BANK_WR_DROP_count).raise PR_INT_STAT_bank_wr_drop

/-! ### The walk (R112 to R119) -/

/-- How a walk ends. -/
inductive WalkEnd where
  | resolved | unresolved | depth (detail : Nat) | length (level : Nat) | parity (clause : Nat)
deriving DecidableEq, Repr

/-- What a walk gives. `slots` lists the nouns written, the last first: slot, value, offset in the frame. -/
structure Walk where
  slots : List (Nat × Word × Nat)
  levels : List (Nat × Nat)
  classT : Bool
  sysClass : Nat
  out : WalkEnd
deriving DecidableEq, Repr

/-- A walk that has read nothing. -/
def Walk.start : Walk := ⟨[], [], false, 0, .unresolved⟩

/-- The value of a slot; one never written reads 0. -/
def Walk.slot (w : Walk) (n : Nat) : Word := ((w.slots.find? fun e => e.1 = n).map fun e => e.2.1).getD 0

/-- Was the slot written, and where does its field stand? -/
def Walk.placeOf (w : Walk) (n : Nat) : Option Nat := (w.slots.find? fun e => e.1 = n).map fun e => e.2.2

/-- A field to read: byte and bit offset, width. -/
structure Field where
  off : Nat
  bit : Nat
  width : Nat
deriving DecidableEq, Repr

/-- A field of a clause word, where width `z` stands for 0 and for the widths above `z`. -/
def Field.of (w : Word) (z : Nat) : Field :=
  let n := bitsOf w 15 11
  ⟨bitsOf w 7 0, bitsOf w 10 8, if n = 0 ∨ z < n then z else n⟩

/-- The first byte after the field, in a header that starts at `h`. -/
def Field.fin (f : Field) (h : Nat) : Nat := h + f.off + (f.bit + f.width + 7) / 8

/-- The field's value (R114). -/
def Field.read (f : Field) (b : Bytes) (h : Nat) : Nat :=
  let n := (f.bit + f.width + 7) / 8
  beAt b (h + f.off) n / 2 ^ (8 * n - f.bit - f.width) % 2 ^ f.width

/-- One clause of a bank, as R116 lays it out. -/
structure Clause where
  fixedLen : Nat
  lenMode : Bool
  acceptOnMiss : Bool
  classT : Bool
  sysClass : Nat
  check : Nat
  len : Field
  scale : Nat
  add : Nat
  chk : Field
  chkAdd : Nat
  key : Option Field
  nouns : List (Field × Nat)
deriving DecidableEq, Repr

/-- Read clause `i` (bank × 64 + clause). -/
def State.clause (s : State) (i : Nat) : Clause :=
  let w0 := s.rd (PR_CL_HEAD i 0)
  let w1 := s.rd (PR_CL_LEN i 0)
  let w2 := s.rd (PR_CL_CHK i 0)
  let w3 := s.rd (PR_CL_KEY i 0)
  let sys := bitsOf w0 13 11
  let chk := bitsOf w0 15 14
  { fixedLen := bitsOf w0 7 0, lenMode := bitOf w0.toNat 8, acceptOnMiss := bitOf w0.toNat 9, classT := bitOf w0.toNat 10
    sysClass := if sys ≤ 4 then sys else 0, check := if chk ≤ 2 then chk else 0
    len := Field.of w1 16, scale := bitsOf w1 18 16, add := bitsOf w1 26 19
    chk := Field.of w2 16, chkAdd := bitsOf w2 23 16
    key := if bitOf w3.toNat 16 then some (Field.of w3 32) else none
    nouns := (List.range 8).filterMap fun n =>
      let w := s.rd (PR_CL_NOUN i n)
      if bitOf w.toNat 31 ∧ bitsOf w 20 16 < 24 then some (Field.of w 32, bitsOf w 20 16) else none }

/-- The fields a clause reads, in the order in which it reads them (R113). -/
def Clause.fields (c : Clause) : List Field :=
  (if c.lenMode then [c.len] else []) ++ c.nouns.map Prod.fst ++ c.key.toList ++ (if c.check ≠ 0 then [c.chk] else [])

/-- The first transition entry that is valid and matches: next clause, accept (R113). -/
def State.transition (s : State) (i key : Nat) : Option (Nat × Bool) :=
  (List.range 16).findSome? fun e =>
    let x := s.rd (PR_CL_NEXT i e)
    if bitOf x.toNat 7 ∧ BitVec.ofNat 32 key &&& s.rd (PR_CL_MASK i e) = s.rd (PR_CL_VALUE i e) &&& s.rd (PR_CL_MASK i e) then
      some (bitsOf x 5 0, bitOf x.toNat 6)
    else none

/-- The walk from clause `c` of bank `g`, with header start `h` at `level`, over frame `b` of `len` bytes (R113 to R118). `f` is the
frame end where the checks that involve it are made, `encl` the last claimed end accepted; `n` bounds the levels. -/
def State.walk (s : State) (g : Nat) (b : Bytes) (len : Nat) (f : Option Nat) : Nat → Nat → Nat → Nat → Option Nat → Walk → Walk
  | 0, _, _, _, _, w => w
  | n + 1, c, h, level, encl, w =>
    let i := g * 64 + c
    if s.pr.badClause.contains i then { w with out := .parity c }
    else
      let x := s.clause i
      let w := { w with levels := w.levels ++ [(c, h)], classT := w.classT || x.classT, sysClass := if x.sysClass = 0 then w.sysClass else x.sysClass }
      let beyond (y : Field) : Bool := decide (128 < y.fin h)
      if x.lenMode ∧ beyond x.len then { w with out := .depth 1 }
      else
        let good := x.nouns.takeWhile fun y => !beyond y.1
        let w := good.foldl (fun w y => { w with slots := (y.2, BitVec.ofNat 32 (y.1.read b h), h + y.1.off) :: w.slots }) w
        if x.fields.any beyond then { w with out := .depth 1 }
        else
          let hl := if x.lenMode then x.len.read b h * 2 ^ x.scale + x.add else x.fixedLen
          let far := x.fields.foldl (fun m y => max m (y.fin h)) 0
          let hEnd := h + hl
          let claim := h + x.chk.read b h + x.chkAdd
          let bound : Option Nat := match encl with | some e => some e | none => f
          let above (e : Nat) : Bool := match bound with | some m => decide (m < e) | none => false
          let short : Bool := match bound with
            | some m => decide (claim < m) && !(decide (f = some m) && decide (len ≤ 68))
            | none => false
          let bad := above hEnd || (match f with | some m => decide (m < far) | none => false)
            || (x.lenMode && decide (hEnd < far))
            || (decide (x.check ≠ 0) && (decide (claim < hEnd) || above claim))
            || (decide (x.check = 1) && short)
          if bad then { w with out := .length level }
          else
            let encl := if x.check ≠ 0 then some claim else encl
            let miss : WalkEnd := if x.acceptOnMiss then .resolved else .unresolved
            match x.key with
            | none => { w with out := miss }
            | some k =>
              match s.transition i (k.read b h) with
              | none => { w with out := miss }
              | some (_, true) => { w with out := .resolved }
              | some (next, false) =>
                if level = 16 then { w with out := .depth 2 }
                else if 128 ≤ hEnd then { w with out := .depth 1 }
                else s.walk g b len f n next hEnd (level + 1) encl w

/-- The whole walk of a frame. -/
def State.parse (s : State) (g : Nat) (b : Bytes) (len : Nat) (f : Option Nat) : Walk := s.walk g b len f 16 0 0 1 none Walk.start

/-! ### Parity (R124) -/

/-- A parity error in a clause or rule word read for a frame. -/
def State.prFault (s : State) (bank : Nat) (x : PrFault) : State :=
  if x.lasting then
    let s := s.raise PR_INT_STAT_parity_lasting
    let s := s.captureAt 30 PR_PARITY_LOG (BitVec.ofNat 32 (flag x.rule * 2 ^ 29 + bank % 2 * 2 ^ 28 + x.index % 2 ^ 11))
    let s := (s.hlLasting 0x02 x.bank x.row 0).hlQueueRow 4 x.bank x.row
    if x.rule then { s with pr := { s.pr with badRule := insertN (bank * 2048 + x.index) s.pr.badRule } }
    else { s with pr := { s.pr with badClause := insertN (bank * 64 + x.index) s.pr.badClause } }
  else
    let s := s.raise PR_INT_STAT_parity_transient
    let (esc, s) := s.hlTransient 0x02 x.bank x.row 0
    if esc then s.hlQueueRow 4 x.bank x.row else s

/-! ### Rules (R129 to R131) -/

/-- The meta word (R130). -/
def metaWord (x : Pkt) (w : Walk) : Word :=
  BitVec.ofNat 32 (x.port + x.pass * 2 ^ 6 + flag w.classT * 2 ^ 7 + w.sysClass * 2 ^ 8 + (if x.pass = 1 then x.recircTag else 0) * 2 ^ 16)

/-- The word a selector names: a noun slot, the meta word, or zero. -/
def selWord (x : Pkt) (w : Walk) (n : Nat) : Word := if n < 24 then w.slot n else if n = 24 then metaWord x w else 0

/-- Key words 0 to 5 under the port's profile. -/
def State.keyWords (s : State) (x : Pkt) (w : Walk) : List Word :=
  let prof := s.rd (PR_KEY_PROF x.rs (s.get (PR_PORT_CFG_key_prof x.port)))
  (List.range 6).map fun n => selWord x w (bitsOf prof (5 * n + 4) (5 * n))

/-- The rules in use of bank `b`, rising: those whose valid bit has been written. -/
def State.rulesOf (s : State) (b : Nat) : List Nat :=
  s.regs.filterMap fun e =>
    let i := (e.1 - PR_RULE_META 0 0) / 0x40
    if PR_RULE_META 0 0 ≤ e.1 ∧ e.1 < PR_RULE_META 4096 0 ∧ (e.1 - PR_RULE_META 0 0) % 0x40 = 0 ∧ i / 2048 = b ∧ bitOf e.2.toNat 31 then some (i % 2048) else none

/-- The lowest-index matching rule of bank `b` (R131). -/
def State.ruleMatch (s : State) (b : Nat) (key : List Word) : Option Nat :=
  (s.rulesOf b).find? fun i => (List.range 6).all fun n =>
    let m := s.rd (PR_RULE_MASK (b * 2048 + i) n)
    decide (key.getD n 0 &&& m = s.rd (PR_RULE_VALUE (b * 2048 + i) n) &&& m)

/-! ### The load-spreading hash (R137 to R139) -/

/-- The used entries of a hash profile: type (1 single, 2 pair, 3 halves), slots a and b. -/
def State.hashEntries (s : State) (q : Nat) : List (Nat × Nat × Nat) :=
  (List.range 8).filterMap fun e =>
    let w := s.rd (PR_HASH_PROF q (e / 2))
    let v := if e % 2 = 0 then bitsOf w 15 0 else bitsOf w 31 16
    if v / 2 ^ 10 % 4 = 0 then none else some (v / 2 ^ 10 % 4, v % 32, v / 2 ^ 5 % 32)

/-- The index of a frame in group `g` (R138, R139). -/
def State.hashIndex (s : State) (x : Pkt) (w : Walk) (g : Nat) : Nat :=
  let es := s.hashEntries (s.get (PR_HASH_GRP_profile g))
  let seed := s.rd (PR_HASH_SEED g)
  if s.on (PR_HASH_GRP_mode g) then
    let h := es.foldl (fun h e =>
      let a := selWord x w e.2.1
      h ^^^ (if e.1 = 1 then a else if e.1 = 2 then a ^^^ selWord x w e.2.2 else (a >>> 16) ^^^ (a &&& 0xFFFF))) seed
    let h16 := bitsOf h 31 16 ^^^ bitsOf h 15 0
    (h16 / 256) ^^^ (h16 % 256)
  else
    let key := (es.map fun e => beBytes 4 (selWord x w e.2.1).toNat ++ (if e.1 = 2 then beBytes 4 (selWord x w e.2.2).toNat else [])).flatten
    let c := crc32cRaw seed.toNat key
    (c / 2 ^ 24) ^^^ (c / 2 ^ 16 % 256) ^^^ (c / 2 ^ 8 % 256) ^^^ (c % 256)

/-! ### The verb (R120 to R123) -/

/-- The verb of a frame, its slow-path reason and detail, and what a rule adds: index of the rule. A detail that the spec does
not state is none. -/
structure Verdict where
  verb : Word
  reason : Nat
  detail : Option Nat
  rule : Option Nat
  /-- R122 does not govern a system trap. -/
  sys : Bool
deriving DecidableEq, Repr

/-- A TRAP verb to CPU queue `q`. -/
def trapTo (q : Nat) : Word := BitVec.ofNat 32 (2 + q % 32 * 2 ^ 10)

/-- A frame's trap enable for sys_class `k` on port `p`. -/
def State.sysTrap (s : State) (p k : Nat) : Bool := decide (1 ≤ k) && decide (k ≤ 4) && s.bit (PR_PORT_CFG p) (8 + k)

/-- The verb by the rows of R120. -/
def State.verdict (s : State) (x : Pkt) (w : Walk) : Verdict :=
  let p := x.port
  match w.out with
  | .length n => ⟨s.rd (PR_PERR_VERB p), 2, some n, none, false⟩
  | .parity c => ⟨s.rd (PR_PERR_VERB p), 7, some c, none, false⟩
  | .depth d =>
    if s.on (PR_PORT_CFG_slow_en p) then ⟨trapTo (s.get (PR_PORT_CFG_slow_q p)), 1, some d, none, false⟩
    else ⟨s.rd (PR_DEF_VERB p), 1, some d, none, false⟩
  | .unresolved => ⟨s.rd (PR_DEF_VERB p), 3, none, none, false⟩
  | .resolved =>
    match s.pr.badRule.find? fun i => i / 2048 = x.rs with
    | some i => ⟨s.rd (PR_PERR_VERB p), 7, some (i % 2048), none, false⟩
    | none =>
      if s.sysTrap p w.sysClass then ⟨trapTo (s.get (PR_SYS_Q_cpu_q w.sysClass)), 4, some w.sysClass, none, true⟩
      else
        match s.ruleMatch x.rs (s.keyWords x w) with
        | some i => ⟨s.rd (PR_RULE_VERB (x.rs * 2048 + i) 0), 5, some i, some i, false⟩
        | none => ⟨0, 0, none, none, false⟩

/-- The action of a verb word: values above 0x5 act as DROP, and so does REDIRECT to a port that is not there (R121). -/
def State.action (s : State) (v : Word) : Nat :=
  let a := bitsOf v 3 0
  if 5 < a then 1 else if a = 4 ∧ ¬ s.portHere (bitsOf v 9 4) then 1 else a

end Sys2Proof.Machine
end

