-- ==== Sys2Proof/Machine/Pipeline.lean ====
section
/-! DEFINITION. The ingress pipelines: lookups and destination (R143 to R147), traffic class and colour (R189), replication
(R197), sampling and tagging (R206, R467), late length checks (R119) and recirculation (R136). -/

namespace Sys2Proof.Machine

/-! ### Sampling -/

/-- A frame of port `p` is due for a balcony sample (R206); `dir` is 0 at ingress, 1 at egress. -/
def State.sampleDue (s : State) (p dir : Nat) : Bool × State :=
  let n := s.get (SC_BAL_CFG_n_minus_1 p) + 1
  if ¬ s.on (if dir = 0 then SC_BAL_CFG_ing p else SC_BAL_CFG_egr p) then (false, s)
  else if s.on (SC_BAL_CFG_random p) then
    let (r, s) := s.draw 24
    (decide (r % n = 0), s)
  else
    let k := 2 * p + dir
    let c := s.sc.sampled.get 0 k + 1
    (decide (n ≤ c), { s with sc := { s.sc with sampled := s.sc.sampled.put 0 k (if n ≤ c then 0 else c) } })

/-- A sample of frame `x` with timestamp `ts` goes to the balcony's CPU queue, or is lost where the queue or the store has no room (R204,
R206). -/
def State.sample (s : State) (x : Pkt) (p dir : Nat) (ts : Time) (suspect : Bool) : State :=
  let (due, s) := s.sampleDue p dir
  if ¬ due then s
  else
    let q := 384 + s.get SC_BAL_Q_cpu_q
    if s.get (SC_Q_MAX_max q) < s.occ q + 1 ∨ s.hostDown (q - 384) ∨ s.get SC_BUF_STAT_sram_free < s.get SC_T_RESERVE_cells + 1 then
      (s.inc SC_BAL_LOST_count).raise SC_INT_STAT_bal_lost
    else
      let (ptrs, s) := s.takeCells 1 1
      let y := { Pkt.none with
        bytes := x.bytes.take 128, len := x.len, port := x.port, ts := ts, suspect := suspect, tc := x.tc, classT := x.classT
        copies := [⟨q, none, 8, p + 64 * dir⟩], n := 1, store := 1, refs := 1, whole := true, ptrs := ptrs }
      let id := s.sc.nextId
      let s := (s.newPkt y).set SC_BUF_STAT_sram_free (s.get SC_BUF_STAT_sram_free - 1)
      ((s.setOcc q (s.occ q + 1)).setQueue q (s.queueOf q ++ [(id, s.clk)])).hold y true

/-! ### Lookups (R143, R144) -/

/-- What the lookups of a frame give. -/
structure Look where
  vlan : Ent
  /-- The MAC source entry; none on a miss. -/
  src : Option Ent
  mac : Option Ent
  flow : Option Ent
  /-- The label entry where the lookup was performed and the entry is valid. -/
  label : Option Ent
  labelDone : Bool
  fid : Nat
  sa : Nat
  da : Nat
deriving DecidableEq, Repr

/-- An entry of a direct table, with a lasting fault as an invalid one (R163). -/
def State.direct (s : State) (t i : Nat) : Ent := if s.entBad t i then Ent.zero else s.ent t i

/-- The lookups of a frame (R143). -/
def State.look (s : State) (x : Pkt) (w : Walk) : Look :=
  let p := x.port
  let vid := bitsOf (w.slot 4) 11 0
  let vlan := s.direct 1 (if vid = 0 then s.get (FT_PORT_CFG_pvid p) else vid)
  let sa := (w.slot 2).toNat * 2 ^ 16 + bitsOf (w.slot 3) 15 0
  let da := (w.slot 0).toNat * 2 ^ 16 + bitsOf (w.slot 1) 15 0
  let slot := s.get (FT_PORT_CFG_flow_slot p)
  let flow : Option Ent :=
    if s.on (FT_PORT_CFG_flow_en p) ∧ (w.placeOf slot).isSome then
      let e := s.direct 2 (if s.on (FT_PORT_CFG_flow_half p) then bitsOf (w.slot slot) 31 16 else bitsOf (w.slot slot) 15 0)
      if e.valid0 then some e else none
    else none
  let done := s.on (FT_PORT_CFG_label_en p) && (w.placeOf 7).isSome
  let lab := bitsOf (w.slot 7) 31 12
  let base := s.get FT_LABEL_CFG_base
  let label : Option Ent :=
    if done ∧ base ≤ lab ∧ lab < base + 65536 ∧ (s.direct 3 (lab - base)).valid0 then some (s.direct 3 (lab - base)) else none
  { vlan := vlan, src := (s.macFind vlan.fid sa).map (s.ent 0), mac := (s.macFind vlan.fid da).map (s.ent 0)
    flow := flow, label := label, labelDone := done, fid := vlan.fid, sa := sa, da := da }

/-- The index of a frame's flow entry where its lookup hit. -/
def State.flowIndex (s : State) (x : Pkt) (w : Walk) : Nat :=
  let v := w.slot (s.get (FT_PORT_CFG_flow_slot x.port))
  if s.on (FT_PORT_CFG_flow_half x.port) then bitsOf v 31 16 else bitsOf v 15 0

/-- Where the tables send a frame: ports with the next-hop record that edits each copy, or a drop with its code (R192), or with
none where an FT counter counts it. `label` tells that a label entry decided, and `group` names the multicast group record, which is read
again at replication (R147). -/
inductive Dest where
  | ports (l : List (Nat × Option Nat)) (label : Bool) (group : Option Nat := none)
  | drop (code : Option Nat)
deriving DecidableEq, Repr

/-- A destination word resolved (R145); `idx` is the frame's hash index and `grp` the group its rule names. -/
def State.resolve (s : State) (word : Nat) (grp : Option Nat) (hash : Nat → Nat) (label : Bool) : Dest :=
  let i := word % 2 ^ 15
  let port (p : Nat) (nh : Option Nat) : Dest := if s.portHere p then .ports [(p, nh)] label else .drop (some 7)
  let hop (k : Nat) : Dest :=
    if s.entBad 4 k then .drop (some 0xB)
    else if (s.ent 4 k).valid1 then port (bitsOf (s.ent 4 k).w1 21 16) (some k) else .drop (some 7)
  match word / 2 ^ 15 % 4 with
  | 0 => port i none
  | 1 => hop i
  | 2 =>
    if 4096 ≤ i then .drop (some 7)
    else match s.groupPorts i with
    | .inl code => .drop (some code)
    | .inr l => .ports (l.map fun p => (p, none)) label (some i)
  | _ =>
    let g := grp.getD i
    if 64 ≤ g then .drop (some 7)
    else
      let m := s.rd (PR_IND g (hash g))
      if bitOf m.toNat 15 then hop (bitsOf m 14 0) else port (bitsOf m 5 0) none

/-- A flood goes to every member port but the ingress port and the other ports of its group (R145). -/
def State.flood (s : State) (p : Nat) (vlan : Ent) : Dest :=
  .ports (((List.range s.lanes).filter fun k => vlan.member k && decide (k ≠ p)
    && !(s.on (FT_PORT_CFG_lag_en p) && s.on (FT_PORT_CFG_lag_en k)
      && decide (s.get (FT_PORT_CFG_lag_grp p) = s.get (FT_PORT_CFG_lag_grp k)))).map fun k => (k, none)) false

/-- Row 1 of R144: the VLAN drops the frame. -/
def vlanDrops (p : Nat) (vlan : Ent) : Bool :=
  !vlan.valid1 || (!vlan.member p && bitOf vlan.w1.toNat 30)

/-- The destination of a frame whose verb is FORWARD, COPY or REDIRECT (`redirect` is the verb's port), and the FT counters
that count a drop (R144). -/
def State.destination (s : State) (x : Pkt) (l : Look) (redirect : Option Nat) (grp : Option Nat) (hash : Nat → Nat) : Dest × State :=
  if vlanDrops x.port l.vlan then (.drop none, s.inc FT_VLAN_DROP_count)
  else
    match redirect with
    | some p => (.ports [(p, none)] false, s)
    | none =>
      match l.flow with
      | some e => (if bitOf e.w0.toNat 17 then .drop none else s.resolve (bitsOf e.w0 16 0) grp hash false, s)
      | none =>
        match l.label with
        | some e => (s.resolve (bitsOf e.w0 16 0) grp hash true, s)
        | none =>
          if l.labelDone then (.drop none, s.inc FT_LABEL_MISS_count)
          else
            match l.mac with
            | some e => (s.resolve e.dest grp hash false, s.pm 2 0x21 1)
            | none =>
              if l.da / 2 ^ 40 % 2 = 1 ∨ ¬ bitOf l.vlan.w1.toNat 29 then (s.flood x.port l.vlan, s.pm 2 0x22 1)
              else (.drop none, s.inc FT_UNK_UC_DROP_count)

/-! ### Class, colour, scheduled frames -/

/-- The traffic class (R189). -/
def State.classOf (s : State) (x : Pkt) (w : Walk) (l : Look) (verb : Word) : Nat :=
  let set (e : Option Ent) : Option Nat := match e with | some e => if bitOf e.w0.toNat 22 then some (bitsOf e.w0 21 19) else none | none => none
  if bitOf verb.toNat 18 then bitsOf verb 17 15
  else match set l.flow with
    | some t => t
    | none => match set l.label with
      | some t => t
      | none => if (w.placeOf 4).isSome then bitsOf (w.slot 4) 15 13
        else if x.port < 48 then s.get (SC_PORT_CFG_def_tc x.port) else x.defTc

/-- The colour: 1 green, 2 yellow, 3 red (R189). -/
def State.colourOf (s : State) (x : Pkt) (w : Walk) (verb : Word) : Nat :=
  if bitsOf verb 20 19 ≠ 0 then bitsOf verb 20 19
  else if (w.placeOf 4).isSome ∧ bitOf (w.slot 4).toNat 12 ∧ x.port < 48 ∧ s.on (SC_PORT_CFG_dei_yellow x.port) then 2 else 1

/-- A frame whose flow entry has sched = 1 is scheduled under the conditions of R207. -/
def State.schedules (s : State) (x : Pkt) (classT : Bool) (tc : Nat) (ports : List (Nat × Option Nat)) : Bool :=
  match ports with
  | [(p, _)] => s.on SC_CTRL_dlm_en && !classT && decide (x.port < 48) && decide (s.bayMode (x.port / 4) = 1) && decide (s.bayMode (p / 4) = 1)
      && s.on (SC_Q_CFG_sched (8 * p + tc)) && s.dlmUsable (x.port / 4) (p / 4)
  | _ => false

/-! ### A pass through a pipeline -/

/-- The frame leaves the pipeline with no copy. -/
def State.endDropped (s : State) (id : Nat) (code : Option Nat) : State :=
  let x := s.pkt id
  let s := match code with
    | some c => (s.countDrop (entryIndex x) c).traceOut id 63 (entryIndex x) (some c) none
    | none => s.traceVerbDrop id
  s.dropPkt id

/-- Count the outcome of a walk (R121, R464). The second pass of a recirculated packet counts its own outcome again (log entry 58). -/
def State.countOutcome (s : State) (x : Pkt) (w : Walk) : State :=
  let u := srcBay x % 2
  let s := (s.pm u 0x10 1).pm u 0x16 x.pass
  match w.out with
  | .resolved => s.pm u 0x11 1
  | .unresolved => (s.pm u 0x12 1).inc (PR_CNT_UNRESOLVED_unresolved x.port)
  | .depth _ => (s.pm u 0x13 1).inc (PR_CNT_PARSE_DEPTH_parse_depth x.port)
  | .length _ => (s.pm u 0x14 1).inc (PR_CNT_LEN_MISMATCH_len_mismatch x.port)
  | .parity _ => s

/-- What a verdict does to a frame once R122 and the second pass have been taken into account: action, CPU queue, reason,
detail. A rule's TRAP that acts as DROP counts in slow_off alone, and not in rule_drop (log entry 58). -/
def State.effective (s : State) (x : Pkt) (v : Verdict) : (Nat × Nat × Nat × Option Nat) × State :=
  let a := s.action v.verb
  let limit := decide (a = 5) && decide (x.pass = 1)
  let act := if limit then 2 else a
  let q := if limit then s.get (PR_PORT_CFG_slow_q x.port) else bitsOf v.verb 14 10
  let reason := if limit then 6 else v.reason
  let detail := if limit then none else v.detail
  if (act = 2 ∨ act = 3) ∧ ¬ v.sys ∧ ¬ s.on (PR_PORT_CFG_slow_en x.port) then
    ((if act = 2 then 1 else 0, q, reason, detail), s.inc (PR_CNT_SLOW_OFF_slow_off x.port))
  else ((act, q, reason, detail), s)

/-- The learning that a good frame does (R143, R144, R157). -/
def State.learnFrom (s : State) (x : Pkt) (l : Look) (act : Nat) : State :=
  let takes := decide (act = 0) || decide (act = 2) || decide (act = 3) || decide (act = 4)
  if x.err ∨ 48 ≤ x.port ∨ ¬ takes ∨ ¬ l.vlan.valid1 ∨ (act ≠ 2 ∧ vlanDrops x.port l.vlan) then s
  else
    if s.on FT_CTRL_learn_en ∧ s.on (FT_PORT_CFG_learn_en x.port) ∧ bitOf l.vlan.w1.toNat 28 then
      s.learnIssue l.fid l.sa (s.identity x.port) l.src else s

/-- The destination refresh of a good frame, from any port and whatever its verb, once per frame: on its first pass (R143, R162).
A frame whose VLAN entry is invalid has no FID, and hits nothing. -/
def State.refreshFrom (s : State) (x : Pkt) (l : Look) : State :=
  match l.mac with
  | some e => if x.err ∨ x.pass ≠ 0 ∨ ¬ l.vlan.valid1 ∨ ¬ s.on FT_CTRL_hit_on_da ∨ e.hit then s else s.learnPut ⟨2, l.fid, l.da, 0⟩
  | none => s

/-- One pass of frame `id` (R120, R143, R136): parse, classify, hash, look up; then its cells form or it is dropped. `pf` and `ff`
are the parity errors that its reads meet. -/
def State.pass (s : State) (id : Nat) (pf : List PrFault) (ff : List FtFault) : State :=
  let x0 := s.pkt id
  let s := pf.foldl (fun s f => s.prFault (if f.rule then x0.rs else x0.gr) f) s
  let s := ff.foldl State.ftFault s
  let f := x0.len - 4
  let long := decide (256 < x0.len) && decide (x0.pass = 0)
  let w := s.parse x0.gr x0.bytes x0.len (if long then none else some f)
  let isLen (e : WalkEnd) : Bool := match e with | .length _ => true | _ => false
  let late := long && isLen (s.parse x0.gr x0.bytes x0.len (some f)).out && !isLen w.out
  if x0.pass = 0 ∧ s.twHeld x0.port ∧ ¬ w.classT ∧ ¬ (w.sysClass = 3 ∨ w.sysClass = 4) then
    (s.inc (TW_LAG_DISC_count x0.port)).dropPkt id
  else
  let s := s.countOutcome x0 w
  let v := s.verdict x0 w
  let s := if v.rule.isSome then s.pm (srcBay x0 % 2) 0x15 1 else s
  let s := if v.rule.isSome ∧ s.action v.verb = 1 then s.inc (PR_CNT_RULE_DROP_rule_drop x0.port) else s
  let ((act, cpuq, reason, detail), s) := s.effective x0 v
  let l := s.look x0 w
  let s := s.pm 2 0x20 1
  let s := match l.flow with
    | some e => s.setEnt 2 (s.flowIndex x0 w) { e with w1 := e.w1 + 1 }
    | none => s
  let meta' := v.rule.map fun i => s.rd (PR_RULE_META (x0.rs * 2048 + i) 0)
  let grp : Option Nat := match meta' with | some m => if bitOf m.toNat 22 then some (bitsOf m 21 16) else none | none => none
  let hash := s.hashIndex x0 w
  let fwd := decide (act = 0) || decide (act = 3) || decide (act = 4)
  let (dest, s) := if fwd then s.destination x0 l (if act = 4 then some (bitsOf v.verb 9 4) else none) grp hash else (.ports [] false, s)
  let s := (s.learnFrom x0 l act).refreshFrom x0 l
  let tc := s.classOf x0 w l v.verb
  let ports : List (Nat × Option Nat) := match dest with | .ports ps _ _ => ps | .drop _ => []
  let wantsSched : Bool := match l.flow with | some e => bitOf e.w0.toNat 18 && fwd && !ports.isEmpty | none => false
  let sched := wantsSched && s.schedules x0 w.classT tc ports
  let s := if wantsSched && !sched then s.inc SC_DLM_MISS_count else s
  let toCpu := decide (act = 2) || decide (act = 3)
  let (det, s) := match detail with | some d => (d, s) | none => if toCpu then s.draw 16 else (0, s)
  let s := if toCpu then s.inc (PR_CNT_SLOW_PATH_slow_path x0.port) else s
  let copies := (ports.map fun e => (⟨if w.classT then 424 + e.1 else 8 * e.1 + tc, e.2, 0, 0⟩ : Copy))
    ++ (if toCpu then [⟨384 + cpuq, none, reason, det⟩] else []) ++ (if act = 5 then [⟨416 + tc, none, 0, 0⟩] else [])
  let x : Pkt := { x0 with
    rsVer := s.rd (PR_RS_VER x0.rs), recircTag := if act = 5 then bitsOf (meta'.getD 0) 15 0 else x0.recircTag, since := s.clk
    classT := w.classT, sysClass := w.sysClass, levels := w.levels, tagAt := w.placeOf 4, labelAt := w.placeOf 7, etherAt := w.placeOf 6
    ptpWords := (w.slot 21, w.slot 22), verb := v.verb, tc := tc, colour := s.colourOf x0 w v.verb
    vlan := l.vlan, mac := l.mac.getD Ent.zero, flow := l.flow.getD Ent.zero, label := l.label.getD Ent.zero
    epoch := some (s.get FT_EPOCH_current), labelled := match dest with | .ports _ b _ => b | .drop _ => false
    sched := sched, copies := copies, multi := decide (1 < copies.length), group := match dest with | .ports _ _ g => g | .drop _ => none, lateDue := long, lateBad := late
    trace := x0.trace.map fun t => { t with d1 := some (s.sinceS0 t), hash := hash (grp.getD 0) } }
  let s := s.setPkt id x
  let s := if x0.pass = 0 ∧ x0.port < 48 then s.sample x x0.port 0 x0.ts x0.suspect else s
  if copies.isEmpty then s.endDropped id (match dest with | .drop c => c | .ports _ _ _ => none)
  else
    let s := match dest with | .drop (some c) => s.countDrop (entryIndex x) c | _ => s
    s.formCells id (srcBay x0)

/-- A frame received while its port is cross-connected goes to queue 0 of the peer without lookups (R96). -/
def State.crossConnect (s : State) (id peer : Nat) : State :=
  let x := s.pkt id
  let y := { x with copies := [⟨8 * peer, none, 0, 0⟩], colour := 1, tc := 0 }
  ((s.sample y x.port 0 x.ts x.suspect).setPkt id y).formCells id (srcBay x)

/-- PARSE_CLASSIFY (R120, R22): the oldest frame of pipeline `k` passes through it. -/
def execParseClassify (k : Fin 2) (pf : List PrFault) (ff : List FtFault) (s : State) : Host.Outcome State Fault Refusal :=
  whenUp s (
  match s.sc.pipe.find? fun id => srcBay (s.pkt id) % 2 = k.val with
  | none => .next s
  | some id =>
    let s := { s with sc := { s.sc with pipe := s.sc.pipe.filter (· ≠ id) } }
    finish (match (s.pkt id).xc with | some peer => s.crossConnect id peer | none => s.pass id pf ff))

/-- LATE_LENGTH_CHECK (R119): the end of a long frame of port `p`; a failure marks its last cell. -/
def execLateLengthCheck (p : Fin 49) (s : State) : Host.Outcome State Fault Refusal :=
  whenUp s (
  match s.sc.frames.find? fun e => e.2.lateDue && decide (e.2.port = p.val) with
  | none => .next s
  | some (id, x) =>
    let s := s.setPkt id { x with lateDue := false, err := x.err || x.lateBad }
    finish (if x.lateBad then s.lateFail x else s))

/-- RECIRC_SECOND_PASS (R136, R196): the head of the highest recirculation queue takes its second pass. R136 sends the packet as edited by its
first pass, and no rule has a first pass edit one that it recirculates: its bytes stand as received (log entry 58). -/
def execRecircSecondPass (pf : List PrFault) (ff : List FtFault) (s : State) : Host.Outcome State Fault Refusal :=
  match (List.range 8).findSome? fun k => match s.queueOf (423 - k) with | [] => none | e :: _ => some (423 - k, e) with
  | none => .next s
  | some (q, id, t) =>
    finishIf (s.pkt id).whole s (
      let x := s.pkt id
      let s := (s.dequeue id q).countDelay q (s.clk - t)
      let s := s.unref id
      let s := s.setPkt id { x with
        pass := 1, copies := [], store := 0, refs := 0, whole := false, epoch := none, multi := false, ptrs := [], fetched := false
        trace := x.trace.map fun (t : Trace) => { t with d4 := none } }
      s.pass id pf ff)

/-- RECIRC_AGE_EXPIRY (R136): the oldest frame of recirculation queue `r` has waited longer than age_us, where 0 acts as 1. -/
def execRecircAgeExpiry (r : Fin 8) (s : State) : Host.Outcome State Fault Refusal :=
  match s.queueOf (416 + r) with
  | [] => .next s
  | (id, since) :: _ =>
    finishIf (decide (max 1 (s.get PR_RECIRC_AGE_age_us) * 1250 ≤ s.clk - since)) s (
      let x := s.pkt id
      let s := (s.inc (PR_CNT_RECIRC_AGED_recirc_aged x.port)).raise PR_INT_STAT_recirc_aged
      let s := s.traceVerbDrop id
      (s.dequeue id (416 + r)).unref id)

end Sys2Proof.Machine
end

