-- ==== Sys2Proof/Machine/Edit.lean ====
section
/-! DEFINITION. Egress editing (R147, R170) and the PTP engine's changes at egress (R255 to R259). -/

namespace Sys2Proof.Machine

/-! ### Editing a copy -/

/-- A frame being edited: bytes, the shifts made so far (original offset, and by how much offsets from there on have moved), and
whether a byte pair the spec leaves open has been written. -/
structure Edited where
  b : Bytes
  shifts : List (Nat × Int)
  open' : Bool
deriving DecidableEq, Repr

/-- Where a byte of the original frame now stands. -/
def Edited.at' (e : Edited) (off : Nat) : Nat :=
  (e.shifts.foldl (fun (o : Int) sh => if sh.1 ≤ off then o + sh.2 else o) (off : Int)).toNat

/-- Remove `n` bytes that stood at original offset `off`. -/
def Edited.cut (e : Edited) (off n : Nat) : Edited :=
  let k := e.at' off
  { e with b := e.b.take k ++ e.b.drop (k + n), shifts := e.shifts ++ [(off + n, -(n : Int))] }

/-- Insert bytes before the one that stood at original offset `off`. -/
def Edited.insert (e : Edited) (off : Nat) (x : Bytes) : Edited :=
  let k := e.at' off
  { e with b := e.b.take k ++ x ++ e.b.drop k, shifts := e.shifts ++ [(off, (x.length : Int))] }

/-- Overwrite bytes from where original offset `off` now stands. -/
def Edited.put (e : Edited) (off : Nat) (x : Bytes) : Edited := { e with b := overlay e.b (e.at' off) x }

/-- The label operation of the frame's label entry (R170): 1 swap, 2 keep, else pop. The EtherType after the last label has been
popped is open: `free`. -/
def labelEdit (x : Pkt) (free : Nat) (e : Edited) : Edited :=
  match x.labelAt with
  | none => e
  | some a =>
    match bitsOf x.label.w0 18 17 with
    | 1 =>
      let old := beAt x.bytes a 4
      e.put a (beBytes 4 (bitsOf x.label.w1 19 0 * 2 ^ 12 + old % 2 ^ 12))
    | 2 => e
    | _ =>
      if byteAt x.bytes (a + 2) % 2 = 1 then { (e.put (a - 2) (beBytes 2 free)).cut a 4 with open' := true } else e.cut a 4

/-- Push label entries: before the top label where one remains, else after the innermost EtherType, which becomes 0x8847. -/
def pushEdit (x : Pkt) (labels : Bytes) (e : Edited) : Edited :=
  match x.labelAt, x.etherAt with
  | some a, _ =>
    let gone := x.labelled && decide (bitsOf x.label.w0 18 17 ≠ 1) && decide (bitsOf x.label.w0 18 17 ≠ 2)
    if gone then { (e.put (a - 2) (beBytes 2 0x8847)).insert (a + 4) labels with open' := false } else e.insert a labels
  | none, some t => (e.put t (beBytes 2 0x8847)).insert (t + 2) labels
  | none, none => e.insert 14 labels

/-- A port bit of a VLAN entry's untag map. -/
def Ent.untag (e : Ent) (p : Nat) : Bool := if p < 32 then bitOf e.w2.toNat p else bitOf e.w3.toNat (p - 32)

/-- The copy as it leaves port `p`, or the drop code of a record fault: an invalid record, or one with a lasting parity fault
(R145, R163). -/
def State.edit (s : State) (x : Pkt) (p : Nat) (c : Copy) : Nat ⊕ Edited :=
  let e : Edited := ⟨x.bytes, [], false⟩
  let e := if x.labelled then labelEdit x (s.freeAt 0 16) e else e
  let hop : Nat ⊕ Edited := match c.nh with
    | none => .inr e
    | some k =>
      let r := s.ent 4 k
      if s.entBad 4 k then .inl 0xB
      else if ¬ r.valid1 then .inl 7
      else
        let i := bitsOf r.w2 25 13
        let st := s.ent 6 i
        let push := bitOf r.w2.toNat 12
        if push ∧ s.entBad 6 i then .inl 0xB
        else if push ∧ ¬ st.valid2 then .inl 7
        else
          let e := if push then
            pushEdit x (if bitsOf st.w2 1 0 = 2 then beBytes 4 st.w0.toNat ++ beBytes 4 st.w1.toNat else beBytes 4 st.w0.toNat) e else e
          let e := match x.tagAt with
            | some t => if bitOf r.w1.toNat 23 then e.put t (beBytes 2 (beAt x.bytes t 2 / 2 ^ 12 * 2 ^ 12 + bitsOf r.w2 11 0)) else e
            | none => e
          .inr (if bitOf r.w1.toNat 22 then e.put 0 (beBytes 6 (r.w0.toNat + bitsOf r.w1 15 0 * 2 ^ 32)) else e)
  match hop with
  | .inl code => .inl code
  | .inr e =>
    match x.tagAt with
    | some t => .inr (if x.vlan.valid1 ∧ x.vlan.untag p then e.cut (t - 2) 4 else e)
    | none => .inr e

/-- The copy of frame `id` bound for index `q`. -/
def State.copyOf (s : State) (id q : Nat) : Copy := ((s.pkt id).copies.find? fun c => c.q = q).getD ⟨q, none, 0, 0⟩

/-- The length that the copy in queue `q` has on the line (R97, R217). -/
def State.outLen (s : State) (id q : Nat) : Nat :=
  match s.edit (s.pkt id) ((portOfQ q).getD 0) (s.copyOf id q) with
  | .inl _ => (s.pkt id).len
  | .inr e => e.b.length + 4

/-! ### The PTP engine at egress -/

/-- The header start of clause `c` on the walk, where it now stands. -/
def ptpAt (x : Pkt) (e : Edited) (c : Nat) : Option Nat := (x.levels.find? fun l => l.1 = c).map fun l => e.at' l.2

/-- The one's complement sum of 16-bit words in network order. -/
def onesSum (b : Bytes) : Nat :=
  let t := ((List.range ((b.length + 1) / 2)).map fun i => beAt (b ++ [0]) (2 * i) 2).foldl (· + ·) 0
  if t = 0 then 0 else (t - 1) % 65535 + 1

/-- Rewrite the last two bytes of a UDP datagram of `n` bytes at `u` so that its sum is again that of `before` (R259). -/
def udpFix (b before : Bytes) (u n : Nat) : Bytes :=
  let blank := overlay (slice b u n) (n - 2) [0, 0]
  let x := (65535 + onesSum before - onesSum blank % 65535) % 65535
  let w := if n % 2 = 0 then x else x % 256 * 256 + x / 256
  overlay b (u + n - 2) (beBytes 2 w)

/-- A frame that the engine could not change: sent unmodified and counted (R259). -/
def State.ptpErr (s : State) (f : FRef) : State := (s.inc f).raise TB_INT_STAT_ptp_mod_err

/-- What the engine does with a frame at egress on port `p` at `egr` (R256 to R259). -/
def State.ptpEgress (s : State) (x : Pkt) (p : Nat) (e : Edited) (egr : Time) : Bytes × State :=
  let mode := s.get (TB_PTP_PORT_mode p)
  let kind := bitsOf x.ptpWords.1 27 24
  let orig := decide (48 ≤ x.port)
  let sync := orig && decide (kind = 0) && !bitOf x.ptpWords.2.toNat 9 && s.on (TB_PTP_PORT_one_step p)
  let transit := !orig && decide (mode = 2) && decide (kind ≤ 1)
  match ptpAt x e (s.get TB_PTP_CFG_ptp_clause) with
  | none => (e.b, s)
  | some h =>
    if (mode ≠ 1 ∧ mode ≠ 2) ∨ (¬ sync ∧ ¬ transit) then (e.b, s)
    else if e.b.length < h + (if sync then 44 else 16) then (e.b, s.ptpErr TB_PTP_ERR_short)
    else
      let udp := ptpAt x e (s.get TB_PTP_CFG_udp_clause)
      let v4 := (ptpAt x e (s.get TB_PTP_CFG_ipv4_clause)).isSome
      let v6 := (ptpAt x e (s.get TB_PTP_CFG_ipv6_clause)).isSome
      let u := udp.getD 0
      let n := beAt e.b (u + 4) 2
      let over6 := udp.isSome && v6
      if over6 ∧ (¬ s.on (TB_PTP_PORT_ipv6_fix p) ∨ n < 10 ∨ e.b.length < u + n ∨ u + n - 2 < h + bitsOf x.ptpWords.1 15 0) then
        (e.b, s.ptpErr TB_PTP_ERR_ipv6_nofix)
      else
        let cf := signed 64 (beAt e.b (h + 8) 8)
        let add : Int := if sync then (egr.frac16 : Int)
          else ((egr.toNat / 2 ^ 16 : Nat) : Int) - ((x.ts.toNat / 2 ^ 16 : Nat) : Int)
        let sum := cf + add
        let sum := if -(2 ^ 63 : Int) ≤ sum ∧ sum < 2 ^ 63 then sum else 2 ^ 63 - 1
        let b := overlay e.b (h + 8) (beBytes 8 (twos 64 sum))
        let b := if sync then overlay b (h + 34) (beBytes 6 egr.sec ++ beBytes 4 egr.ns) else b
        let b := if udp.isSome ∧ v4 then overlay b (u + 6) [0, 0] else if over6 then udpFix b (slice e.b u n) u n else b
        let s := if transit ∧ x.steps ≠ s.get TB_STEP_CNT_count then s.inc TB_PTP_ERR_step_straddle else s
        (b, s.pm 6 (if sync then 0x62 else 0x63) 1)

end Sys2Proof.Machine
end

