-- ==== Sys2Proof/Machine/Stair.lean ====
section
/-! DEFINITION. Stairways: treads and flights in network time, gates, fit and longest windows, flight boundaries and steps
(R213 to R229). Instants and lengths are kept in fifths of 2⁻³² ns, of which 1.6 ns holds a whole number. -/

namespace Sys2Proof.Machine

/-- 1.6 ns in fifths of 2⁻³² ns. -/
def unit16 : Nat := 8 * 2 ^ 32

/-- An instant in fifths of 2⁻³² ns. -/
def Time.fifths (t : Time) : Nat := 5 * t.toNat

/-- The line time of a frame of `len` bytes on port `p`: 0.8, 0.32, 0.2 or 0.08 ns a byte (R77, R217). -/
def State.lineTime (s : State) (p len : Nat) : Nat :=
  let bytes := (len + 8) * 2 ^ 32
  match s.bayMode (p / 4) with
  | 0 => 4 * bytes
  | 1 => (8 * bytes + 4) / 5
  | 2 => bytes
  | _ => (2 * bytes + 4) / 5

/-- The flight of port `p` in units of 1.6 ns (R241). -/
def State.flight (s : State) (p : Nat) : Nat := clamp 625 625000000 (s.get (GT_FLIGHT_flight p))

/-- The base of port `p` in fifths of 2⁻³² ns. -/
def State.gtBase (s : State) (p : Nat) : Nat :=
  let sec := s.get (GT_BASE_SEC_sec_lo p) + s.get (GT_BASE_W1_sec_hi p) * 2 ^ 32
  5 * ((sec * 1000000000 + s.get (GT_BASE_NS_ns p)) * 2 ^ 32 + s.get (GT_BASE_W1_frac p) * 2 ^ 16)

/-- The position in the flight at an instant (R215). -/
def State.position (s : State) (p at' : Nat) : Nat :=
  (((at' : Int) - (s.gtBase p : Int)) % ((s.flight p * unit16 : Nat) : Int)).toNat

/-- The number of the flight that holds an instant. -/
def State.flightNo (s : State) (p at' : Nat) : Int := ((at' : Int) - (s.gtBase p : Int)) / ((s.flight p * unit16 : Nat) : Int)

/-- The stairway of port `p` runs; the registers of an upper port of a wide bay have no effect (R220). -/
def State.stairOn (s : State) (p : Nat) : Bool := s.on (GT_CTRL_enable p) && !s.upper p

/-- The treads of a bank in order: duration, gates, mark (R213, R214). -/
def State.treads (s : State) (p bank : Nat) : List (Nat × Nat × Bool) :=
  ((List.range 1024).map fun i => (s.get (GT_TREAD_DUR_duration p (bank * 1024 + i)), s.get (GT_TREAD_GATES_gates p (bank * 1024 + i)),
    s.on (GT_TREAD_DUR_mark p (bank * 1024 + i)))).takeWhile fun e => decide (e.1 ≠ 0)

/-- The windows of a flight in units of 1.6 ns: start, end, tread, tread gates. The last tread stays in force until the flight
ends, and treads beyond it are never reached. -/
def windows (flight : Nat) : Nat → Nat → List (Nat × Nat × Bool) → List (Nat × Nat × Nat × Nat)
  | _, _, [] => []
  | i, at', [e] => if at' < flight then [(at', flight, i, e.2.1)] else []
  | i, at', e :: es =>
    let fin := min flight (at' + max 8 e.1)
    if at' < flight then (at', fin, i, e.2.1) :: windows flight (i + 1) fin es else []

/-- The windows of port `p` under its active bank; a list whose first tread has duration 0 is one tread with every gate closed; a port without an active stairway
has every gate open (R214, R216). -/
def State.windowsOf (s : State) (p : Nat) : List (Nat × Nat × Nat × Nat) :=
  let f := s.flight p
  if s.stairOn p then
    match s.treads p (s.get (GT_CTRL_bank p)) with
    | [] => [(0, f, 0, 0)]
    | l => windows f 0 0 l
  else [(0, f, 0, 0xFF)]

/-- The gate of class `t` under tread gates `g` (R216). -/
def State.gate (s : State) (p t g : Nat) : Bool :=
  (bitOf g t || bitOf (s.get (GT_FORCE_open p)) t) && !bitOf (s.get (GT_FORCE_close p)) t

/-- The window in force at a position. -/
def windowAt (l : List (Nat × Nat × Nat × Nat)) (pos : Nat) : Nat × Nat × Nat × Nat :=
  (l.find? fun w => decide (w.1 * unit16 ≤ pos) && decide (pos < w.2.1 * unit16)).getD (l.getLastD (0, 0, 0, 0))

/-- The windows with gates held by a lasting tread fault in force (R227). -/
def State.gateWindows (s : State) (p : Nat) : List (Nat × Nat × Nat × Nat) :=
  match s.frozen.get none p with
  | some g => [(0, s.flight p, 0, g)]
  | none => s.windowsOf p

/-- How long the gate of class `t` stays open from an instant on; none where it never closes. -/
def State.openFor (s : State) (p t at' : Nat) : Option Nat :=
  let l := s.gateWindows p
  let isOpen (w : Nat × Nat × Nat × Nat) : Bool := s.gate p t w.2.2.2
  if l.all isOpen then none
  else
    let pos := s.position p at'
    let rest := (l.filter fun w => decide (pos < w.2.1 * unit16)).map fun w => (max pos (w.1 * unit16), w.2.1 * unit16, isOpen w)
    let again := l.map fun w => (w.1 * unit16, w.2.1 * unit16, isOpen w)
    some ((((rest ++ again).takeWhile fun w => w.2.2).map fun w => w.2.1 - w.1).foldl (· + ·) 0)

/-- A frame of `len` bytes of class `t` that reaches the balls at `at'` fits (R217). -/
def State.fits (s : State) (p t at' len : Nat) : Bool :=
  match s.openFor p t at' with
  | none => true
  | some n => decide (s.lineTime p len ≤ n)

/-- The gate of class `t` opens within `n` of an instant, or is open at it (R194). -/
def State.opensWithin (s : State) (p t at' n : Nat) : Bool :=
  let l := s.gateWindows p
  let pos := s.position p at'
  let f := s.flight p * unit16
  l.any fun w => s.gate p t w.2.2.2 &&
    ((decide (w.1 * unit16 < pos + n) && decide (pos < w.2.1 * unit16)) || decide (w.1 * unit16 + f < pos + n))

/-- The longest run of open windows, with an interval across the end of the flight counted as one (R218). -/
def longest (l : List (Nat × Nat × Bool)) : Nat :=
  ((l ++ l).foldl (fun (a : Nat × Nat) w =>
    let run := if w.2.2 then a.1 + (w.2.1 - w.1) else 0
    (run, max a.2 run)) (0, 0)).2

/-- GT_WIN_MAX of class `t` (R218). -/
def State.winMax (s : State) (p t : Nat) : Nat :=
  let l := (s.windowsOf p).map fun w => (w.1, w.2.1, s.gate p t w.2.2.2)
  if l.all fun w => w.2.2 then 0x3FFFFFFF else longest l

/-- The tread in force on port `p` at the present TB has been read cleanly, and its status registers follow it: GT_STAT, GT_GATES. -/
def State.stairNow (s : State) (p : Nat) : State :=
  let w := windowAt (s.windowsOf p) (s.position p s.tb.fifths)
  let g := match s.frozen.get none p with | some g => g | none => w.2.2.2
  let gates := (List.range 8).foldl (fun n t => if s.gate p t g then n + 2 ^ t else n) 0
  let s := if gates = s.get (GT_GATES_gates p) then s else (s.set (GT_GATES_gates p) gates).pm 5 0x50 1
  let s := if (s.frozen.get none p).isSome then s else { s with treadRead := s.treadRead.put 0xFF p w.2.2.2 }
  s.set (GT_STAT_tread p) w.2.2.1

/-- Discard head frames that fit in no window of their queue (R218). -/
def State.noFit (s : State) (p : Nat) : State :=
  (List.range 8).foldl (fun s t =>
    let win := s.get (GT_WIN_MAX_win p t)
    if win = 0x3FFFFFFF ∨ bitOf (s.get (GT_FORCE_close p)) t then s
    else
      let heads := (s.queueOf (8 * p + t)).takeWhile fun e => decide (win * unit16 < s.lineTime p (s.outLen e.1 (8 * p + t)))
      heads.foldl (fun s e => (s.discard e.1 (8 * p + t) 0xE).pm 5 0x54 1) s) s

/-- Discard them on every port that has a frame queued: the discard takes place when the frame reaches the head of its queue. -/
def State.noFitAll (s : State) : State :=
  ((s.sc.queues.map fun e => e.1 / 8).dedup.filter fun p => decide (p < 48)).foldl State.noFit s

/-- A tread word read with a parity error on port `p` (R227): after a lasting one the gates keep the state of the last tread read cleanly. -/
def State.treadFault (s : State) (p tread : Nat) (lasting : Bool) (bank row : Nat) : State :=
  if lasting then
    let s := s.raise GT_INT_STAT_parity_lasting
    let s := if s.on GT_PARITY_valid then s.raise GT_PARITY_more
      else (((s.raise GT_PARITY_valid).set GT_PARITY_bank (s.get (GT_CTRL_bank p))).set GT_PARITY_port p).set GT_PARITY_tread tread
    let s := (s.hlLasting 0x07 bank row 0).hlQueueRow 5 bank row
    { s with frozen := s.frozen.put none p (some (s.treadRead.get 0xFF p)) }
  else
    let s := (s.inc GT_PARITY_transient).raise GT_INT_STAT_parity_transient
    let (esc, s) := s.hlTransient 0x07 bank row 0
    if esc then s.hlQueueRow 5 bank row else s

/-- The tread in force on port `p` is read; `fault` is a parity error in its words: lasting, bank, row (R227). -/
def State.treadTake (s : State) (p : Nat) (fault : Option (Bool × Nat × Nat)) : State :=
  let s := match fault with
    | some (lasting, b, r) => if ¬ s.stairOn p then s else s.treadFault p (windowAt (s.windowsOf p) (s.position p s.tb.fifths)).2.2.1 lasting b r
    | none => s
  if (s.frozen.get none p).isSome then s else s.stairNow p

/-- Pending values of port `p` apply together at its flight boundary (R222, R227); `fault` is a parity error in the tread then in force. The
registers of an upper port of a wide bay apply too, and have no effect (R220). -/
def State.stairApply (s : State) (p : Nat) (fault : Option (Bool × Nat × Nat)) : State :=
  let swap := s.pend.any fun e => decide (e.1 = GT_CTRL p) && captured s.clk e
  let s := s.applyPend fun a => decide (groupOf a = .stair p)
  if s.upper p then s
  else
  let s := if (s.frozen.get none p).isSome then
    let s := { s with frozen := s.frozen.put none p none, pend := s.pend.map fun (e : Nat × Word × Nat) => if e.1 = GT_CTRL p then (e.1, putBits e.2.1 0 0 0, e.2.2) else e }
    s.set (GT_CTRL_enable p) 0 else s
  let s := (s.setB (GT_STAT_active p) (s.stairOn p)).set (GT_STAT_bank_active p) (s.get (GT_CTRL_bank p))
  let s := (List.range 8).foldl (fun s t => s.set (GT_WIN_MAX_win p t) (s.winMax p t)) s
  let s := if swap then (s.setBit2 GT_SWAP_DONE_LO GT_SWAP_DONE_HI p).raise GT_INT_STAT_swap_done else s
  (s.treadTake p fault).noFit p

/-- FLIGHT_BOUNDARY (R222, R227): the flight of port `p.1` ends; `p.2` is a parity error in the words of the tread that is then read. -/
def execFlightBoundary (p : Fin 48 × Option (Bool × Nat × Nat)) (s : State) : Host.Outcome State Fault Refusal :=
  finishIf (s.stairOn p.1) s ((s.addWrap (GT_FLIGHT_CNT_count p.1) 1).stairApply p.1 p.2)

/-- Every port without an active stairway takes its flight boundary at a cycle boundary (R36). -/
def State.stairCycle (s : State) : State :=
  (List.range 48).foldl (fun s p => if !s.stairOn p && (s.pends (.stair p) || (s.frozen.get none p).isSome) then s.stairApply p none else s) s

/-- A TB step from `from'` to `to'` has moved every stairway: flight boundaries that a forward step carries TB across count, and pending
values apply once (R225). -/
def State.stairStep (s : State) (from' to' : Time) : State :=
  (List.range 48).foldl (fun s p =>
    if s.stairOn p then
      let n := s.flightNo p to'.fifths - s.flightNo p from'.fifths
      if 0 < n then (s.addWrap (GT_FLIGHT_CNT_count p) n.toNat).stairApply p none else s.stairNow p
    else s) s

/-- TREAD_START (R215): a new tread of port `p` is in force at the present TB; a marked one records its start (R213, R244).
`fault` is a parity error in its words: lasting, bank, row. -/
def execTreadStart (p : Fin 48) (fault : Option (Bool × Nat × Nat)) (s : State) : Host.Outcome State Fault Refusal :=
  let w := windowAt (s.windowsOf p) (s.position p s.tb.fifths)
  finishIf (s.stairOn p && (s.frozen.get none p.val).isNone) s (
    let s := s.treadTake p fault
    if (s.frozen.get none p.val).isSome then s
    else
      let mark := match (s.treads p (s.get (GT_CTRL_bank p)))[w.2.2.1]? with | some e => e.2.2 | none => false
      if mark then
        let t := Time.ofNat ((s.tb.fifths - (s.position p s.tb.fifths - w.1 * unit16)) / 5)
        let s := (s.set (GT_MARK_SEC_sec_lo p) t.sec).set (GT_MARK_NS_ns p) t.ns
        let s := s.setB (GT_MARK_NS_suspect p) (s.on TB_STAT_suspect)
        (s.setBit2 GT_MARK_LO GT_MARK_HI p).raise GT_INT_STAT_mark
      else s)

end Sys2Proof.Machine
end

