-- ==== Sys2Proof/Machine/Ports.lean ====
section
/-! DEFINITION. The port MACs: reception (R97 to R99, R103), the frame boundary (R35, R106, R108, R134), service order and
transmission (R193 to R195, R216 to R218), and the release of scheduled frames (R209, R210). -/

namespace Sys2Proof.Machine

/-! ### Reception -/

/-- FRAME_RECEIVE (R97): a frame arrives from the far end. At loop depths 1 to 3 it does not reach the MAC, at depth 4 it is
discarded and counted (R94). -/
def execFrameReceive (p : Fin 48) (b : Bytes) (fcs bad : Bool) (ago : Nat) (s : State) : Host.Outcome State Fault Refusal :=
  let loop := s.loopOf p
  finishIf (s.portHere p && s.farHeard p && !s.on (PT_STAT_local_fault p)) s (
    if loop = 4 then s.dropDisabled p else s.macReceive p b fcs bad ago)

/-! ### The frame boundary -/

/-- Pending LN, PT and PR values apply at the frame boundary of port `p`; port 48 has PR values only. -/
def State.frameBoundary (s : State) (p : Nat) : State :=
  let s := if p < 48 then s.lnPtBoundary p else s
  s.prBoundary p

/-- Port `p` is between frames. -/
def State.between (s : State) (p : Nat) : Bool := (s.sc.sending.get none p).isNone && (decide (p = 48) || s.portHere p)

/-- FRAME_BOUNDARY (R35). -/
def execFrameBoundary (p : Fin 49) (s : State) : Host.Outcome State Fault Refusal :=
  finishIf (s.between p) s (s.frameBoundary p)

/-- A captured write of PT_CTRL waits that would change enable. -/
def State.enableChange (s : State) (p : Nat) (on : Bool) : Bool :=
  (s.pend.any fun e => decide (e.1 = PT_CTRL p) && captured s.clk e) && decide (s.on (PT_CTRL_enable p) ≠ on) && decide (bitOf (s.shadow (PT_CTRL p)).toNat 0 = on)

/-- PORT_DISABLE (R106): PT_CTRL.enable = 0 applies at the frame boundary. -/
def execPortDisable (p : Fin 48) (s : State) : Host.Outcome State Fault Refusal :=
  finishIf (s.between p && s.enableChange p false) s (s.frameBoundary p)

/-- PORT_ENABLE (R108): PT_CTRL.enable = 1 applies at the frame boundary, once the port is idle. -/
def execPortEnable (p : Fin 48) (s : State) : Host.Outcome State Fault Refusal :=
  finishIf (s.between p && s.enableChange p true && !s.enableWaits p) s (s.frameBoundary p)

/-! ### Service order -/

/-- The head of queue `q` of port `p` can be sent: a frame in DBM has been fetched, a scheduled one has reached its release instant (R186,
R209). -/
def State.headReady (s : State) (q : Nat) : Bool :=
  match s.queueOf q with
  | [] => false
  | (id, _) :: _ => !(s.pkt id).early && (decide ((s.pkt id).store = 1) || (s.pkt id).fetched)

/-- A received pause holds class `t` (R101, R193). -/
def State.paused (s : State) (p t : Nat) : Bool := (s.portOf p).pauseAll || bitOf (s.portOf p).pfc t

/-- The length of the head of queue `q`. -/
def State.headLen (s : State) (q : Nat) : Nat := match s.queueOf q with | [] => 0 | (id, _) :: _ => s.outLen id q

/-- The head of class `t` fits its gate from instant `at'` on (R217). -/
def State.headFits (s : State) (p t at' : Nat) : Bool := s.fits p t at' (s.headLen (8 * p + t))

/-- A queue that may send at orders 2 to 4 (R193). -/
def State.eligible (s : State) (p t at' : Nat) : Bool := s.headReady (8 * p + t) && !s.paused p t && s.headFits p t at'

/-- A Class T frame of `len` bytes is held back by a scheduled queue whose gate is open before it would end (R194). -/
def State.classTHeld (s : State) (p at' len : Nat) : Bool :=
  (List.range 8).any fun t => s.on (SC_Q_CFG_sched (8 * p + t)) && !(s.queueOf (8 * p + t)).isEmpty
    && s.opensWithin p t at' (s.lineTime p len)

/-- The queue that port `p` serves at a frame boundary, for a first bit at the balls at `at'` (R193 to R195). -/
def State.serve (s : State) (p at' : Nat) : Option Nat × State :=
  let fifo := 424 + p
  let tOk := s.headReady fifo && (!(s.portOf p).pauseAll || s.on (PT_CTRL_t_exempt p)) && !s.classTHeld p at' (s.headLen fifo)
  if tOk then (some fifo, s)
  else
    let down := [7, 6, 5, 4, 3, 2, 1, 0]
    match down.find? fun t => s.on (SC_Q_CFG_sched (8 * p + t)) && s.eligible p t at' with
    | some t => (some (8 * p + t), s)
    | none =>
      match down.find? fun t => !s.on (SC_Q_CFG_sched (8 * p + t)) && s.on (SC_Q_CFG_strict (8 * p + t)) && s.eligible p t at' with
      | some t => (some (8 * p + t), s)
      | none =>
        let qs := ((List.range 8).map (8 * p + ·))
        let ready (q : Nat) : Bool := !s.on (SC_Q_CFG_sched q) && !s.on (SC_Q_CFG_strict q) && s.eligible p (q - 8 * p) at'
        if qs.any ready then s.dwrr p qs ready (fun q => s.get (SC_Q_CFG_weight q)) 400 else (none, s)

/-! ### Transmission -/

/-- Queue `q` is served by deficit weighted round robin (R193). -/
def State.weighted (s : State) (q : Nat) : Bool := decide (q < 384) && !s.on (SC_Q_CFG_sched q) && !s.on (SC_Q_CFG_strict q)

/-- Port `p` starts frame `id` of queue `q`, whose first bit reaches the balls `lead` units of 2⁻¹⁶ ns after the present TB; false where
a record fault discards it. `cut` ends it with an inverted FCS. -/
def State.startFrame (s : State) (p q id since lead : Nat) (cut : Bool) : Bool × State :=
  let x := s.pkt id
  match s.edit x p (s.copyOf id q) with
  | .inl code => (false, s.discard id q code)
  | .inr e =>
    let s := if e.open' then (s.draw 16).2 else s
    let egr := s.tb.move (((lead * 2 ^ 16 : Nat) : Int) + s.adj (PT_TS_EGR_ADJ p))
    let (b, s) := s.ptpEgress x p e egr
    let s := if s.weighted q then s.charge q x.len else s
    let s := s.dequeue id q
    let s := if s.loopOf p = 3 then s else s.countDelay q (s.clk - since + fracClocks lead)
    let s := (s.sample { x with bytes := b, len := b.length + 4 } p 1 egr (s.on TB_STAT_suspect)).txStamp p x (some egr)
    let s := if s.linkUp p then s.fplDeparts p x.fpl egr else s
    let s := if tracedQ x = some q then
        let t := x.trace
        s.traceOut id p q none (t.map fun t => s.sinceS0 t + fracClocks lead)
      else s
    (true,
      if x.whole ∨ cut ∨ s.loopOf p ≠ 0 then (s.macSend p b (!cut && !x.err)).unref id
      else
        let s := s.setPkt id { s.pkt id with tx := (s.pkt id).tx ++ [(p, b)] }
        { s with sc := { s.sc with sending := s.sc.sending.put none p (some id) } })

/-- Serve port `p` until a frame has started or nothing is eligible; heads with a record fault are discarded on the way. -/
def State.serveFrom (s : State) (p lead : Nat) : Nat → State
  | 0 => s
  | n + 1 =>
    let at' := (s.tb.move (((lead * 2 ^ 16 : Nat) : Int) + s.adj (PT_TS_EGR_ADJ p))).fifths
    match s.serve p at' with
    | (none, s) => s.pm 5 0x51 ((List.range 8).filter fun t => s.headReady (8 * p + t) && !s.headFits p t at').length
    | (some q, s) =>
      match s.queueOf q with
      | [] => s
      | (id, since) :: _ =>
        match s.startFrame p q id since lead false with
        | (true, s) => s
        | (false, s) => s.serveFrom p lead n

/-- Port `p` may send: its link is up, and it is on or draining (R100, R106, R199). -/
def State.maySend (s : State) (p : Nat) : Bool :=
  s.portHere p && s.on (PT_STAT_link_up p) && (!s.portOff p || s.on (PT_STAT_draining p)) && !s.noMac p
    && (s.sc.sending.get none p).isNone

/-- A PAUSE or PFC frame leaves the MAC of port `p` (R201), or is turned back by a loop as any other frame is (R94). -/
def State.flowSend (s : State) (p : Nat) (f : FlowFrame) : State :=
  let count (s : State) : State := (s.add64 (PT_PAUSE_TX_LO p) (PT_PAUSE_TX_HI p) 1).pm 6 0x64 1
  let out (s : State) : State := count (s.emit (.pause p f.pfc f.cls f.quanta))
  let back (s : State) : State :=
    let s := s.add64 (PT_PAUSE_RX_LO p) (PT_PAUSE_RX_HI p) 1
    if f.pfc then s.pfcTake p (BitVec.ofNat 8 f.cls) (if f.quanta = 0 then BitVec.ofNat 8 f.cls else 0) else s.pauseTake p f.quanta
  match s.loopOf p with
  | 0 => out s
  | 3 => s.dropDisabled p
  | 4 => back s
  | _ =>
    let s := if s.on (LN_CTRL_loop_tx_keep (s.headLane p)) then out s else s
    if s.rxOut p then s else back s

/-- FRAME_TRANSMIT (R193): at a frame boundary the port sends a waiting PAUSE or PFC frame (R201), or starts the first eligible
frame. `lead` is the time from now to the first bit at the balls, `sf` and `ff` are errors met in the store and in the records. -/
def execFrameTransmit (p : Fin 48) (lead : Nat) (sf : List StoreFault) (ff : List FtFault) (s : State) : Host.Outcome State Fault Refusal :=
  finishIf (s.maySend p) s (
    let s := sf.foldl State.storeEcc s
    let s := ff.foldl State.ftFault s
    match s.sc.flowOut.get [] p with
    | f :: rest =>
      { s with sc := { s.sc with flowOut := s.sc.flowOut.put [] p rest } }.flowSend p f
    | [] => (s.noFit p).serveFrom p lead 64 |>.noFitAll)

/-- DLM_RELEASE (R209, R210): the release instant of the first scheduled frame of port `p`. It starts where its gate is open and no
frame is in transmission; otherwise it starts at the first instant allowed and counts as late. `absent`: a cell of it is missing
when the MAC needs it. -/
def execDlmRelease (p : Fin 48) (lead : Nat) (absent : Bool) (s : State) : Host.Outcome State Fault Refusal :=
  whenUp s (match [7, 6, 5, 4, 3, 2, 1, 0].findSome? fun t => match s.queueOf (8 * p + t) with
    | (id, since) :: _ => if (s.pkt id).early then some (t, id, since) else none
    | [] => none with
  | none => .next s
  | some (t, id, since) =>
    let s := s.setPkt id { s.pkt id with early := false }
    let at' := (s.tb.move (((lead * 2 ^ 16 : Nat) : Int) + s.adj (PT_TS_EGR_ADJ p))).fifths
    if s.maySend p ∧ s.headFits p t at' ∧ ¬ s.paused p t then finish (s.startFrame p (8 * p + t) id since lead absent).2.noFitAll
    else finish ((s.inc SC_DLM_LATE_count).raise SC_INT_STAT_dlm_late))

/-! ### The core's commands that may bring a frame to the head of a queue -/

/-- SLOT_CROSSING (R174 to R183): one slot of both halls. `dbm` tells whether DBM's write rate allows a frame, `ecc` which
mezzanines read a word with an error, `faults` which store words do. -/
def execSlotCrossing (dbm : Bool) (ecc : List (Fin 17 × Ecc)) (faults : List StoreFault) (s : State) : Host.Outcome State Fault Refusal :=
  whenUp s (
  let s := (List.range 16).foldl (fun s l => s.upperHall dbm ecc l) s
  let s := (List.range 15).foldl State.lowerHall s
  let s := faults.foldl State.storeEcc s
  let s := s.pm 4 0x41 ((List.range 16).foldl (fun n e => n + (s.landed e).length) 0 * 16)
  finish ({ s with sc := { s.sc with slot := (s.sc.slot + 1) % 16 } }).noFitAll)

/-- LANDING_TIMEOUT (R182): cells of one ingress bay and space, `space.1`, have been held 2 µs behind a missing number. `space.2` tells whether DBM's
write rate allows a frame (R185). -/
def execLandingTimeout (src : Fin 15) (dst : Fin 15) (space : Fin 3 × Bool) (s : State) : Host.Outcome State Fault Refusal :=
  whenUp s (
  let key := pathKey src dst space.1
  let exp := s.sc.seqIn.get 0 key
  let ahead := ((s.landed dst).filter fun c => pathKey c.src c.dst c.space = key).map fun c => (c.seq + 65536 - exp) % 65536
  match ahead with
  | [] => .next s
  | a :: as =>
    let low := (as.foldl min a + exp) % 65536
    let s := (s.lostFrames src dst space.1 exp low).foldl (fun s id => s.killPkt id 6) s
    let s := (s.raise SC_INT_STAT_landing_timeout).pm 4 0x42 1
    let s := { s with sc := { s.sc with seqIn := s.sc.seqIn.put 0 key low } }
    finish (s.releaseHeld space.2 dst key (s.landed dst).length).noFitAll)

/-- AGE_LIMIT (R200): the oldest frame of index `q` reaches the queue age limit. -/
def execAgeLimit (q : Fin 472) (s : State) : Host.Outcome State Fault Refusal :=
  match s.queueOf q with
  | [] => .next s
  | (id, since) :: _ =>
    finishIf (decide (clamp 10 1000000 (s.get SC_AGE_LIMIT_limit_us) * 1250 ≤ s.clk - since)) s (s.discard id q 5).noFitAll

end Sys2Proof.Machine
end

