-- ==== Sys2Proof/Machine/Gallery.lean ====
section
/-! DEFINITION. Gallery frames as they stand on a lane (R388 to R391, R396). Where the spec gives a section's size and not the place of a field in
it, the place is the model's (log entry 16). -/

namespace Sys2Proof.Machine

/-- The type of a frame (R390). -/
def galType : GalBody → Nat
  | .state _ => 1
  | .delta _ => 2
  | .bulkMac .. => 3
  | .bulkHo .. => 3
  | .elect _ => 4
  | .takeover => 5
  | .release _ => 6
  | .reply .. => 7
  | .other t _ => 8 + t.val

/-- A time in the TB format of R390: seconds, nanoseconds, fraction. -/
def stamp16Bytes (x : Stamp16) : Bytes := leBytes 6 x.sec ++ leBytes 4 (x.sub / 65536) ++ leBytes 2 (x.sub % 65536)

/-- A MAC entry of 16 bytes, the embedded address in network order (R170, R388, R390). -/
def entryBytes (w : Word × Word × Word × Word) : Bytes :=
  beBytes 6 (w.1.toNat + bitsOf w.2.1 15 0 * 2 ^ 32) ++ leBytes 2 (bitsOf w.2.1 31 16) ++ wordBytes w.2.2.1 ++ wordBytes w.2.2.2

/-- A holdover record of 16 bytes. -/
def recordBytes (c : Nat) (long : Bool) (r : HoRec) : Bytes :=
  leBytes 6 r.t ++ leBytes 6 (twos 48 r.y) ++ leBytes 2 (twos 16 r.temp) ++ leBytes 1 c ++ leBytes 1 (flag long)

/-- The 80 bytes of a channel (R391). -/
def chanBytes (c : Nat) (g : GalChan) : Bytes :=
  wordBytes g.stat ++ leBytes 1 g.sel ++ leBytes 1 g.trainedH ++ leBytes 1 (flag g.discarded) ++ leBytes 1 0 ++ wordBytes g.word
    ++ leBytes 8 (twos 64 g.prop) ++ leBytes 8 (twos 64 g.integ) ++ wordBytes g.absorbed ++ leBytes 8 (twos 64 g.mean)
    ++ leBytes 8 (twos 64 g.slope) ++ leBytes 8 g.mid ++ (match g.record with | some r => recordBytes c false r | none => zeros 16) ++ zeros 8

/-- The 12 bytes of a stairway (R391). -/
def stairBytes (g : GalStair) : Bytes :=
  leBytes 2 (g.active + 2 * g.bank) ++ leBytes 2 g.tread ++ leBytes 4 g.flights ++ leBytes 4 g.pos

/-- The 32 bytes of a link (R391). -/
def linkBytes (g : GalLink) : Bytes :=
  leBytes 1 (g.state + 8 * flag g.calValid) ++ leBytes 1 g.port ++ leBytes 2 g.node ++ leBytes 4 g.calTx ++ leBytes 4 g.calRx
    ++ leBytes 8 g.rt ++ leBytes 8 g.delay ++ leBytes 4 g.asym

/-- The 2644 bytes of a STATE payload (R391). -/
def stateBytes (x : GalState) : Bytes :=
  leBytes 6 x.tbSec ++ leBytes 4 x.tbNs ++ leBytes 4 x.tbFrac ++ leBytes 5 x.incr ++ zeros 5
    ++ (x.chans.zipIdx.map fun e => chanBytes e.2 e.1).flatten ++ (x.stairs.map stairBytes).flatten ++ (x.links.map linkBytes).flatten
    ++ leBytes 4 x.digest ++ leBytes 1 x.okCh ++ leBytes 4 (twos 32 x.yho) ++ zeros 7 ++ stamp16Bytes x.egress

/-- A payload (R390, R396). -/
def galPayload : GalBody → Bytes
  | .state x => stateBytes x
  | .delta l => leBytes 4 l.length ++ (l.map entryBytes).flatten
  | .bulkMac q l => leBytes 4 0 ++ leBytes 4 q ++ (l.map entryBytes).flatten
  | .bulkHo q c long l => leBytes 4 1 ++ leBytes 4 q ++ (l.map (recordBytes c long)).flatten
  | .elect d => leBytes 4 d ++ zeros 12
  | .takeover => []
  | .release c => leBytes 4 c
  | .reply okCh delta yho egress => leBytes 4 okCh ++ leBytes 4 (twos 32 delta) ++ leBytes 4 (twos 32 yho) ++ stamp16Bytes egress
  | .other _ b => b

/-- The header of 20 bytes (R389). -/
def galHeader (h : GalHdr) (type len : Nat) : Bytes :=
  leBytes 1 (0x10 + type) ++ leBytes 1 (flag h.seat + 2 * flag h.selfOk + 4 * flag h.resync + 8 * flag h.suspect + 16 * flag h.fault)
    ++ leBytes 2 len ++ leBytes 4 h.cycle ++ leBytes 4 h.ack ++ leBytes 4 h.nak ++ leBytes 1 h.state ++ leBytes 1 h.prio ++ leBytes 2 h.part

/-- The address of a seat (R388). -/
def seatAddr (seatB : Bool) : Nat := if seatB then 0x02000000000B else 0x02000000000A

/-- A frame from its destination address on, without FCS (R388): untagged, toward the other seat. -/
def galWire (f : GalFrame) : Bytes :=
  beBytes 6 (seatAddr (!f.hdr.seat)) ++ beBytes 6 (seatAddr f.hdr.seat) ++ beBytes 2 0x88B6
    ++ galHeader f.hdr (galType f.body) (galPayload f.body).length ++ galPayload f.body

/-- Send a frame: on both lanes (R388). -/
def State.galPut (s : State) (f : GalFrame) : State := (s.emit (.gal 0 f (galWire f))).emit (.gal 1 f (galWire f))

end Sys2Proof.Machine
end

