-- ==== Sys2Proof/Machine/TimeBase.lean ====
section
/-! DEFINITION. The time base: the counter, its increment, steps, snapshots, TB_SUSPECT and the transmit-timestamp queues (R242 to
R251, R260 to R262). -/

namespace Sys2Proof.Machine

/-! ### The time channel -/

/-- The channel that is the time channel (R306). -/
def State.timeCh (s : State) : Nat := s.get TC_ROLES_time_ch

/-- The state of channel `c`: 0 FREERUN, 1 ACQUIRING, 2 LOCKED, 3 HOLDOVER, 4 LOST. -/
def State.tcState (s : State) (c : Nat) : Nat := s.get (TC_STAT_state c)

/-- The root is in lock. -/
def State.rootLocked (s : State) : Bool := s.on SYS_ROOT_STAT_locked

/-! ### TB_SUSPECT (R251) -/

/-- An event sets TB_SUSPECT. -/
def State.suspectSet (s : State) (cause : FRef) : State :=
  let s := ((s.raise TB_STAT_suspect).raise cause).raise TB_INT_STAT_suspect_set
  { s with time := { s.time with passed := [], okRun := [] } }

/-- TB_SUSPECT clears. -/
def State.suspectClear (s : State) : State :=
  if ¬ s.on TB_STAT_suspect then s
  else (((s.set TB_STAT_suspect 0).set TB_STAT_cause_root 0).set TB_STAT_cause_restart 0).raise TB_INT_STAT_suspect_clear

/-- The clearing at a cycle boundary. -/
def State.suspectCheck (s : State) : State :=
  let c := s.timeCh
  if s.rootLocked ∧ s.tcState c = 2 ∧ s.time.passed.contains (c, s.get (TC_STAT_sel_ref c)) then s.suspectClear else s

/-- A write of TB_CTRL.suspect_clr = 1 acts only while the root is in lock. -/
def State.suspectClrWrite (s : State) (v : Word) : State := if bitOf v.toNat 0 ∧ s.rootLocked then s.suspectClear else s

/-! ### Increment (R246, R25, R308) -/

/-- TB_INCR in force. -/
def State.tbIncr (s : State) : Nat := (s.rd TB_INCR_LO).toNat + s.get TB_INCR_HI_incr_hi * 2 ^ 32

/-- The range of nominal ± 500 ppm. -/
def incrMin : Nat := 0x199652BD4
def incrMax : Nat := 0x199CE0760

/-- An increment applies on the next tick. -/
def State.incrNext (s : State) (v : Nat) : State := { s with time := { s.time with incr := some v } }

/-- A write of TB_INCR_LO stages. -/
def State.incrStage (s : State) (v : Word) : State := { s with time := { s.time with lo := v } }

/-- A write of TB_INCR_HI commits: dropped while the time channel is LOCKED (R25), and where the value is out of range. -/
def State.incrCommit (s : State) (m : Master) (v : Word) : State :=
  let n := s.time.lo.toNat + bitsOf v 7 0 * 2 ^ 32
  if s.tcState s.timeCh = 2 then
    (s.capture TB_OWN_VIOL (BitVec.ofNat 32 (portBit m * 2 ^ 30 + flag (m = .taq) * 2 ^ 29))).raise TB_INT_STAT_own_viol
  else if n < incrMin ∨ incrMax < n then s.raise TB_INT_STAT_incr_bad
  else s.incrNext n

/-! ### Steps (R248) -/

/-- A step of `d` units of 2⁻³² ns on the next tick. -/
def State.stepNext (s : State) (d : Int) : State := { s with time := { s.time with step := some (d + s.time.step.getD 0) } }

/-- A write of go = 1: the staged step is executed on the next tick, or dropped. -/
def State.stepGo (s : State) (v : Word) : State :=
  if ¬ bitOf v.toNat 0 then s
  else
    let ns := s.get TB_STEP_NS_ns
    let size : Nat := ((s.get TB_STEP_SEC_LO_sec_lo + s.get TB_STEP_W1_sec_hi * 2 ^ 32) * 1000000000 + ns) * 2 ^ 32 + s.get TB_STEP_W1_frac * 2 ^ 16
    if 999999999 < ns then s.raise TB_INT_STAT_step_bad
    else s.stepNext (if s.on TB_STEP_NS_neg then -(size : Int) else (size : Int))

/-- The step of this tick is executed on TB as it stands after the increment, or dropped where TB would fall below zero. -/
def State.stepTick (s : State) : State :=
  match s.time.step with
  | none => s
  | some d =>
    let s := { s with time := { s.time with step := none } }
    if (s.tb.toNat : Int) + d < 0 then s.raise TB_INT_STAT_step_bad
    else
      let s := { s with
        tb := s.tb.move d, time := { s.time with secStepped := true, jump := some (s.tb, s.tb.move d) } }
      (s.addWrap TB_STEP_CNT_count 1).raise TB_INT_STAT_step_done

/-! ### Snapshots (R245) -/

/-- The snapshot set of a master. The TAQ has no set of its own. -/
def snapSet (m : Master) : Option Nat :=
  match m with
  | .pcie => some 0
  | .msp => some 1
  | .mp => some 2
  | .taq => none

/-- A write of TB_SNAP: the next tick latches TB into the writer's set. -/
def State.snapWrite (s : State) (m : Master) : State :=
  match snapSet m with
  | some k => { s with time := { s.time with snaps := insertN k s.time.snaps } }
  | none => s

/-- Latch TB into set `k`. -/
def State.snap (s : State) (k : Nat) : State :=
  let s := s.set (TB_SNAP_SEC_LO_sec_lo k) s.tb.sec
  let s := (s.set (TB_SNAP_W1_sec_hi k) (s.tb.sec / 2 ^ 32)).set (TB_SNAP_W1_frac k) s.tb.frac16
  (s.set (TB_SNAP_NS_ns k) s.tb.ns).setB (TB_SNAP_NS_suspect k) (s.on TB_STAT_suspect)

/-! ### The tick -/

/-- A committed increment comes into force. -/
def State.incrTick (s : State) : State :=
  match s.time.incr with
  | none => s
  | some v =>
    let s := { s with time := { s.time with incr := none } }
    (s.wr TB_INCR_LO (BitVec.ofNat 32 v)).set TB_INCR_HI_incr_hi (v / 2 ^ 32)

/-! ### Transmit-timestamp queues (R262) -/

/-- The word 0 that a read of TB_TXTS[p] returns to its owner. -/
def txWord (e : TxStamp) (remaining : Nat) : Word :=
  BitVec.ofNat 32 (e.tsId % 2 ^ 16 + flag e.dropped * 2 ^ 16 + flag e.suspect * 2 ^ 17 + remaining * 2 ^ 24 + 2 ^ 31)

/-- The owner of the queue: the MP, or the host over PCIe and the MSP. The TAQ owns none. -/
def State.txtsOwns (s : State) (m : Master) (p : Nat) : Bool :=
  match m with
  | .mp => s.on (TB_PTP_PORT_txts_owner p)
  | .pcie => !s.on (TB_PTP_PORT_txts_owner p)
  | .msp => !s.on (TB_PTP_PORT_txts_owner p)
  | .taq => false

/-- What word 0 of TB_TXTS[p] reads as for master `m`. -/
def State.txtsView (s : State) (m : Master) (p : Nat) : Word :=
  match s.txts.get [] p with
  | [] => 0
  | e :: l => if s.txtsOwns m p then txWord e l.length else 0

/-- A read by the owner removes the head entry and latches its time. -/
def State.txtsPop (s : State) (m : Master) (p : Nat) : State :=
  match s.txts.get [] p with
  | [] => s
  | e :: l =>
    if ¬ s.txtsOwns m p then s
    else
      let s := { s with txts := s.txts.put [] p l }
      let s := s.set (TB_TXTS_SEC_sec_lo p) e.time.sec
      let s := (s.set (TB_TXTS_W2_sec_hi p) (e.time.sec / 2 ^ 32)).set (TB_TXTS_W2_frac p) e.time.frac16
      s.set (TB_TXTS_NS_ns p) e.time.ns

/-- A change of txts_owner discards the queued entries. -/
def State.txtsOwnerChange (s : State) (p : Nat) : State := { s with txts := s.txts.put [] p [] }

end Sys2Proof.Machine
end

