-- ==== Sys2Proof/Machine/Role.lean ====
section
/-! DEFINITION. The twin role: states, self_ok, taking and giving up the role, LACPDUs from the templates, and the release by a
lasting fault (R384, R394, R398, R403 to R409). The twin unit's own commands stand in Tw.lean. -/

namespace Sys2Proof.Machine

/-! ### States and health -/

/-- The state of the twin unit: 0 DISABLED, 1 ELECTING, 2 SIMPLEX, 3 ACTIVE, 4 SYNCING, 5 STANDBY, 6 FAULTED (R384). -/
def State.twState (s : State) : Nat := s.get TW_STAT_state

/-- A standby of any kind: SYNCING, STANDBY or FAULTED. -/
def State.isStandby (s : State) : Bool := [4, 5, 6].contains s.twState

/-- The module's own self_ok (R398). -/
def State.selfOk (s : State) : Bool := s.rootLocked && s.hl.held.isEmpty

/-- HL_STAT as it reads: bit 0 is the module's self_ok (R398). -/
def State.hlStat (s : State) : Word := putBits (s.rd HL_STAT) 0 0 (flag s.selfOk)

/-- self_ok of channel `c` (R398). -/
def State.chOk (s : State) (c : Nat) : Bool :=
  s.rootLocked && !s.tcStale c && !(s.hl.held.any fun e => heldTiming e.1) &&
    (if s.isStandby && s.bit TW_CH_MASK c then decide (s.tcState c = 2) && decide (s.get (TC_STAT_sel_ref c) = 62)
     else decide (s.tcState c = 2) || decide (s.tcState c = 3))

/-- self_ok of the channels as one byte (R391). -/
def State.chOkByte (s : State) : Nat :=
  (List.range 6).foldl (fun w c => if decide (c < s.chans) && s.chOk c then w + 2 ^ c else w) 0

/-- The high time of HB_OUT in its period of 1 ms, in ns: 50 % for an active module, 25 % for any other that takes part; none where HB_OUT is held
low, by a DISABLED module, or is still, in a module without supply or in reset (R384, R385, R493). -/
def State.hbOut (s : State) : Option Nat :=
  if ¬ s.power.vin ∨ s.power.inReset then none
  else match s.twState with
    | 0 => none
    | 2 => some 500000
    | 3 => some 500000
    | _ => some 250000

/-- What the pattern of HB_IN reads as, by its high time in ns: an active or a non-active partner, or no valid pattern (R384). -/
def hbReads (high : Option Nat) : Option Bool :=
  match high with
  | some t => if 400000 ≤ t ∧ t ≤ 600000 then some true else if 200000 ≤ t ∧ t ≤ 300000 then some false else none
  | none => none

/-! ### Frames (R386, R389) -/

/-- The digest of R386. -/
def State.twDigest (s : State) : Nat :=
  crc32c (wordBytes (s.rd (FT_MAC_SEED 0)) ++ wordBytes (s.rd (FT_MAC_SEED 1)) ++ wordBytes (s.rd TW_CH_MASK &&& BitVec.ofNat 32 (2 ^ s.chans - 1))
    ++ wordBytes (s.rd TW_LAG_LO) ++ wordBytes (s.rd TW_LAG_HI) ++ s.tw.sysId.reverse ++ leBytes 2 s.tw.sysPrio ++ leBytes 2 s.tw.key)

/-- The header of a frame sent now (R389). -/
def State.galHdr (s : State) : GalHdr where
  seat := s.on TW_STAT_seat
  selfOk := s.selfOk
  resync := s.on TW_STAT_resync_busy
  suspect := s.on TB_STAT_suspect
  fault := s.tw.declare
  cycle := s.tb.cycle % 2 ^ 32
  ack := s.tw.ack
  nak := s.tw.nak.getD 0xFFFFFFFF
  state := s.twState
  prio := s.get TW_CTRL_prio
  part := s.partCode

/-- Send a gallery frame on both lanes. A DISABLED module sends none (R385). -/
def State.galSend (s : State) (b : GalBody) : State := if s.twState = 0 then s else s.galPut ⟨s.galHdr, b⟩

/-- The four words of an entry. -/
def Ent.words (e : Ent) : Word × Word × Word × Word := (e.w0, e.w1, e.w2, e.w3)

/-- DELTA frames of a cycle, of 256 entries each. -/
def State.galDeltas (s : State) (cycle : Nat) (l : List Delta) : State :=
  let send := fun (s : State) (part : List Delta) =>
    if part.isEmpty then s else s.galPut ⟨{ s.galHdr with cycle := cycle }, .delta (part.map fun (d : Delta) => d.ent.words)⟩
  send (send s (l.take 256)) (l.drop 256)

/-- The deltas of cycle `k` once more, of the last 2 cycles (R392). -/
def State.galAgain (s : State) (k : Nat) : State :=
  match s.tw.sentDeltas.find? fun (e : Nat × List Delta) => e.1 = k with
  | some e => s.galDeltas k e.2
  | none => s

/-! ### LACPDUs (R407, R408) -/

/-- The LACPDU of port `p`: on a member, the actor state bits Aggregation, Synchronization, Collecting and Distributing follow the
module's state. -/
def State.lacpPdu (s : State) (p : Nat) (b : Bytes) : Bytes :=
  if s.lagMember p then
    let v := byteAt b 18
    overlay b 18 [BitVec.ofNat 8 (v % 4 + v / 64 * 64 + (if s.twState = 2 ∨ s.twState = 3 then 0x3C else 0x04))]
  else b

/-- The LACPDU of port `p` leaves from its template, where frames may leave the port. -/
def State.lacpNow (s : State) (p : Nat) : State :=
  match s.tw.templates.get none p with
  | none => s
  | some t =>
    if s.portSends p then
      { s with tw := { s.tw with templates := s.tw.templates.put none p (some { t with at' := s.clk }) } }.slowSend p (s.lacpPdu p t.pdu)
    else s

/-- The next LACPDU of port `p` is overdue: its period is 1 s at the fast rate, else 30 s. -/
def State.lacpOverdue (s : State) (p : Nat) : Bool :=
  match s.tw.templates.get none p with
  | some t => decide (t.at' + (if t.fast then 1 else 30) * 1250000000 ≤ s.clk)
  | none => false

/-- One LACPDU on every member port at a role change. -/
def State.lacpRole (s : State) : State :=
  (List.range 48).foldl (fun s p => if s.lagMember p && s.portHere p then s.lacpNow p else s) s

/-! ### Changes of state -/

/-- Enter a state: ROLE_ACT and the gated outputs follow it (R384). -/
def State.twEnter (s : State) (st : Nat) : State :=
  if s.twState = st then s
  else
    let s := (s.set TW_STAT_state st).raise TW_INT_STAT_state_chg
    (s.setB TW_STAT_role_act ([0, 2, 3].contains st)).ouRefreshAll

/-- Record a role change (R403). -/
def State.roleCount (s : State) (cause : Nat) : State :=
  let s := { s with tw := { s.tw with foSec := s.tb.sec, foCount := (s.tw.foCount + 1) % 2 ^ 32 } }
  let s := (s.addWrap TW_FO_count 1).set TW_FO_cause cause
  ((s.set TW_FO_TIME_sec_lo s.tb.sec).set TW_FO_TIME_NS_ns s.tb.ns).setB TW_FO_TIME_NS_suspect (s.on TB_STAT_suspect)

/-! ### The holdover model of a new active (R404) -/

/-- Seconds that the committed history spans without a gap longer than 1 h, from its newest mean back (R330). -/
def History.spanBack : Nat → List HoRec → Nat
  | t, [] => t
  | t, r :: rs => if r.t + 3600 < t then t else History.spanBack r.t rs

/-- The seconds of committed history that training counts (R330). -/
def History.span (h : History) : Nat :=
  match h.h15.reverse with
  | [] => 0
  | r :: rs => r.t + 900 - History.spanBack r.t rs

/-- The history spans 72 h (R330). -/
def History.trained (h : History) : Bool := decide (259200 ≤ h.span)

/-- Mean of δ over the look-back window, in 10⁻¹² (R404). -/
def State.meanDelta (s : State) (n : Nat) : Int :=
  let l := s.tw.deltaS.take n
  if l.isEmpty then 0 else l.foldl (· + ·) 0 / (l.length : Int)

/-- The model that channel `c` takes at a takeover. The slope of δ is a value the spec does not compute: it is free (log entry 7). -/
def State.takeModel (s : State) (c : Nat) : State :=
  let k := s.chanOf c
  let avg := clamp 60 3600 (s.get (TC_HO_CFG_avg_s c))
  let g : Option GalChan := match s.tw.copy with | some x => x.chans[c]? | none => none
  if k.hist.trained then s.setChan c { k with copied := none }
  else
    match g with
    | none => s.setChan c { k with copied := none }
    | some g =>
      if s.tw.paired < avg then s.setChan c { k with copied := none }
      else
        let day := decide (86400 ≤ s.tw.paired)
        let (f, s) := if day then s.draw 40 else (0, s)
        let m : HoModel := ⟨g.mean + 1000 * s.meanDelta avg, g.slope + (if day then signed 40 f else 0), g.mid, s.tb.sec, avg, signed 16 (s.get TC_OVO_temp)⟩
        s.setChan c { k with copied := some (m, decide (72 ≤ g.trainedH) && day) }

/-- With px_seed, a downstream link whose pair result is stale takes the copied asymmetry (R404). -/
def State.pxSeed (s : State) : State :=
  match s.tw.copy with
  | none => s
  | some x =>
    if ¬ s.on TW_CTRL_px_seed then s
    else (List.range s.lanes).foldl (fun s l =>
      if s.on (PX_STAT_downstream l) ∧ s.on (PX_STAT_asym_stale l) ∧ s.get (PX_LINK_CTRL_asym_src l) = 2 then
        match x.links[l]? with
        | some g => { s with tw := { s.tw with seeded := s.tw.seeded.put none l (some (signed 32 g.asym)) } }
        | none => s
      else s) s

/-- Entry into ACTIVE or SIMPLEX from a state without the role (R403, R404). -/
def State.takeRole (s : State) (st cause : Nat) : State :=
  let s := ((s.twEnter st).roleCount cause).raise TW_INT_STAT_takeover
  let s := (List.range s.chans).foldl (fun s c =>
    if s.bit TW_CH_MASK c then
      let s := s.takeModel c
      s.setChan c { s.chanOf c with hold62 := false }
    else s.setChan c { s.chanOf c with hold62 := false }) s
  let s := ((s.refLoss 62).pxSeed.set TW_STAT_fault_cause 0).set TW_STAT_resync_busy 0
  let s := { s with tw := { s.tw with taking := none, needSync := false, missed := 0, nak := none, late := none } }
  let s := s.lacpRole
  s.mbAnswerWaiting (fun q => q.opcode = 0x3002) (.inr [])

/-! ### Entry into SYNCING (R393, R394) -/

/-- A resync begins: every non-static entry of the MAC table becomes invalid. -/
def State.resyncBegin (s : State) : State :=
  let s := s.ft.mac.foldl (fun s e => if e.2.valid1 && !e.2.fixed then s.setEnt 0 e.1 (e.2.with1 31 false) else s) s
  (s.raise TW_STAT_resync_busy).set TW_RESYNC_entries 0

/-- Enter SYNCING: the first STATE frame is acted on, and the MAC table is resynced. -/
def State.enterSyncing (s : State) : State :=
  let s := (s.twEnter 4).set TW_STAT_fault_cause 0
  let s := { s with tw := { s.tw with needSync := true, missed := 0, nak := none, late := none, deltaS := [], deltaSum := 0, deltaN := 0, paired := 0, bulkNext := none } }
  s.resyncBegin

/-- Enter FAULTED with a cause: 1 gallery, 2 self, 3 cfg_digest, 4 cfg_seat, 5 cfg_variant (R402). -/
def State.enterFaulted (s : State) (cause : Nat) : State := (s.twEnter 6).set TW_STAT_fault_cause cause

/-! ### Giving up the role -/

/-- The module gives up the role and enters SYNCING, or FAULTED with a cause (R403, R405, R406). -/
def State.giveRole (s : State) (fault : Option Nat) (cause : Nat) : State :=
  let s := match fault with | none => s.enterSyncing | some f => s.enterFaulted f
  let s := ((s.roleCount cause).raise TW_INT_STAT_released).lacpRole
  s.mbAnswerWaiting (fun q => q.opcode = 0x3002) (.inr [])

/-- A partner is there in a state from which it can take the role (R405): its latest frame shows a standby, and the gallery is not lost. -/
def State.partnerThere (s : State) : Bool :=
  !s.tw.galLost && !s.tw.partnerGone && (match s.tw.hdr with | some h => [4, 5, 6].contains h.state | none => false)

/-- The partner takes the role (R405): it is there and its root is in lock. Its frames tell that the root is in lock where self_ok, of the
module or of a channel, reads 1; where none does, whether the root is in lock is free (log entry 57). -/
def State.partnerTakes (s : State) : Bool × State :=
  if ¬ s.partnerThere then (false, s)
  else if (match s.tw.hdr with | some h => h.selfOk | none => false) || decide (s.tw.okCh ≠ 0) then (true, s)
  else
    let (x, s) := s.draw 1
    (decide (x = 1), s)

/-- Every lane goes into electrical idle, in the active value and in the shadow (R89, R32). -/
def State.lanesIdle (s : State) : State :=
  (List.range s.lanes).foldl (fun s l =>
    let s := s.set (LN_CTRL_tx_idle l) 1
    let s := if s.pend.any (fun e => e.1 = LN_CTRL l) then s.put (LN_CTRL_tx_idle l) 1 else s
    s.laneTx l) s

/-- An active module whose own self_ok reads 0 because of a lasting fault releases the role (R405). -/
def State.twSelfFault (s : State) : State :=
  if s.twState = 3 ∧ ¬ s.hl.held.isEmpty then
    let (able, s) := s.partnerTakes
    let s := (s.galSend (.release 4)).giveRole (some 2) 4
    if able then s else s.lanesIdle
  else s

/-- The module has no partner (R32): DISABLED, SIMPLEX, or ELECTING with neither a gallery frame nor a valid HB_IN from one (log entry
57). -/
def State.partnerless (s : State) : Bool :=
  decide (s.twState = 0) || decide (s.twState = 2) || (decide (s.twState = 1) && s.tw.hdr.isNone && !s.on TW_STAT_hb_ok)

/-- The action of a lasting root fault (R32), once for a loss of lock: a module without a partner idles its lanes, and an active twin hands
the role to its partner. -/
def State.rootAction (s : State) : State :=
  let s := { s with power := { s.power with rootDone := true } }
  if s.partnerless then s.lanesIdle else s.twSelfFault

end Sys2Proof.Machine
end

