-- ==== Sys2Proof/Machine/Tdc.lean ====
section
/-! DEFINITION. The bin calibration of the time-to-digital converters (R335, R371, R372, R379 to R381, R456). Targets 0 to 7
are the event inputs, 8 to 13 the channels. -/

namespace Sys2Proof.Machine

/-- The target that a code of R379 names. -/
def tdcIndex (code : Nat) : Option Nat :=
  if code < 8 then some code else if 16 ≤ code ∧ code ≤ 21 then some (code - 8) else none

/-- The code of a target. -/
def tdcCode (t : Nat) : Nat := if t < 8 then t else t + 8

/-- Is target `t` a channel's? -/
def tdcIsChannel (t : Nat) : Bool := decide (8 ≤ t)

/-- Target `t` is present. -/
def State.tdcHere (s : State) (t : Nat) : Bool := if t < 8 then decide (t < s.evts) else decide (t - 8 < s.chans)

/-- The check of a target code in a request. -/
def State.tdcTargetCheck (s : State) (code : Nat) : Option Nat :=
  match tdcIndex code with
  | none => some badParam
  | some t => if s.tdcHere t then none else some noInstance

/-- The lid temperature in 0.125 °C. -/
def State.lid (s : State) : Int := signed 16 (s.get (HL_TEMP_now 0))

/-! ### Tables (R372) -/

/-- The temperatures of the five sets, in 0.125 °C. -/
def setTemp (k : Nat) : Int := [-320, 0, 320, 680, 840].getD k 840

/-- Set `k` of target `t`: the factory's until a calibration or the host has replaced it. -/
def State.binSet (s : State) (t k : Nat) : BinSet :=
  match s.tdc.sets.get none (8 * t + k) with
  | some b => b
  | none =>
    let i := Config.tdcInfo t k
    ⟨setTemp k, i.1 % 2 ^ 16, i.2.1 % 512, i.2.2 % 512, (List.range 512).map fun b => (Config.tdcWidth t k b).toNat⟩

/-- The live set. -/
def State.liveSet (s : State) (t : Nat) : Option BinSet := s.tdc.sets.get none (8 * t + 6)

/-- Store or drop a set. -/
def State.setBins (s : State) (t k : Nat) (b : Option BinSet) : State :=
  { s with tdc := { s.tdc with sets := s.tdc.sets.put none (8 * t + k) b } }

/-- The set below a temperature within the range. -/
def setBelow (temp : Int) : Nat := if temp < 0 then 0 else if temp < 320 then 1 else if temp < 680 then 2 else 3

/-- The table between two sets, bin by bin. -/
def betweenSets (a b : BinSet) (ta tb temp : Int) : BinSet :=
  ⟨temp, max a.residual b.residual, min a.first b.first, max a.last b.last,
   List.zipWith (fun (x y : Nat) => ((x : Int) + ((y : Int) - (x : Int)) * (temp - ta) / (tb - ta)).toNat) a.widths b.widths⟩

/-- The table in use: the live set, or the sets that bracket the temperature of the last update. -/
def State.tableInUse (s : State) (t : Nat) : BinSet :=
  match s.liveSet t with
  | some b => b
  | none =>
    let temp := s.tdc.temp.get 0 t
    if temp ≤ -320 then s.binSet t 0
    else if 840 ≤ temp then s.binSet t 4
    else betweenSets (s.binSet t (setBelow temp)) (s.binSet t (setBelow temp + 1)) (setTemp (setBelow temp)) (setTemp (setBelow temp + 1)) temp

/-- The live set of target `t` comes or goes; EV_STAT.live_set tells of an input's. -/
def State.setLive (s : State) (t : Nat) (b : Option BinSet) : State :=
  let s := s.setBins t 6 b
  if t < 8 then s.setB (EV_STAT_live_set t) b.isSome else s

/-- The set within 10 K of a temperature, if any. -/
def nearSet (temp : Int) : Option Nat := (List.range 5).find? fun k => decide ((temp - setTemp k).natAbs ≤ 80)

/-- A calibration made at the lid temperature is stored (R372). -/
def State.storeBins (s : State) (t : Nat) (b : BinSet) : State :=
  let s := s.setLive t none
  match nearSet b.temp with
  | some k => s.setBins t k (some b)
  | none => s.setLive t (some b)

/-! ### Start and end -/

/-- Target `t` is being calibrated. -/
def State.tdcBusy (s : State) (t : Nat) : Bool := (s.tdc.run.get none t).isSome

/-- A calibration can start: none runs on the target, and its channel is not in reset (R335, R371). -/
def State.tdcFree (s : State) (t : Nat) : Bool :=
  s.tdcHere t && !s.tdcBusy t && (decide (t < 8) || !s.on (TC_STAT_resetting (t - 8)))

/-- HL may start one: one at a time, and not on a channel that is switching, ACQUIRING or resetting (R456). -/
def State.tdcMayStart (s : State) (t : Nat) : Bool :=
  s.tdcFree t && s.hl.calBusy.isNone && (decide (t < 8) || (!s.on (TC_STAT_switching (t - 8)) && decide (s.tcState (t - 8) ≠ 1)))

/-- Start a calibration. -/
def State.tdcStart (s : State) (t : Nat) : State :=
  let s := { s with tdc := { s.tdc with run := s.tdc.run.put none t (some s.clk) } }
  if t < 8 then
    let e := s.evIn.get EvIn.quiet t
    let now : Int := s.tb.toNat / 2 ^ 16
    let s := { s with evIn := s.evIn.put EvIn.quiet t { e with cals := e.cals ++ [(now, none)] } }
    (s.raise (EV_STAT_cal_busy t)).raise (EV_STAT_cal_stale t)
  else
    let c := t - 8
    let s := s.setChan c { s.chanOf c with clean := false }
    ((s.raise (TC_STAT_tdc_cal c)).raise (TC_STAT_stale c)).ouRefreshAll

/-- A start that is ignored while one runs, or during a reset. -/
def State.tdcTry (s : State) (t : Nat) : State := if s.tdcFree t then s.tdcStart t else s

/-- The span of a target in 0.001 ps: 400 ps of an event TDC, one DCO period of a channel's (log entry 8). -/
def State.tdcSpan (s : State) (t : Nat) : Nat := if t < 8 then 400000 else 10 ^ 15 / max 1 (s.dcoNom (t - 8))

/-- The result is good: every used bin was hit, and the residual is at most 3.0 ps. -/
def State.tdcGood (s : State) (t : Nat) (hits : List Nat) (residual : Nat) : Bool :=
  let b := s.tableInUse t
  decide (residual ≤ 300) && (List.range 512).all fun k => decide (k < b.first) || decide (b.last < k) || decide (0 < hits.getD k 0)

/-- The calibration of target `t` ends: a good result is stored, and HL follows R456. -/
def State.tdcFinish (s : State) (t : Nat) (hits : List Nat) (residual : Nat) : State :=
  let good := s.tdcGood t hits residual
  let b := s.tableInUse t
  let total := hits.foldl (· + ·) 0
  let lid := s.lid
  let w := (List.range 512).map fun k => hits.getD k 0 * s.tdcSpan t / max 1 total % 2 ^ 16
  let s := { s with tdc := { s.tdc with run := s.tdc.run.put none t none } }
  let s := if good then s.storeBins t ⟨lid, residual, b.first, b.last, w⟩ else s
  let byHl := s.hl.calBusy = some t
  let again := s.hl.calRetry.contains t
  let s := { s with hl := { s.hl with
    calAt := s.hl.calAt.put (0, 0) t (lid, s.clk)
    calBusy := if byHl then none else s.hl.calBusy
    calRetry := if byHl ∧ ¬ good ∧ ¬ again then insertN t s.hl.calRetry else s.hl.calRetry.filter (· ≠ t)
    calStopped := if byHl ∧ ¬ good ∧ again then insertN t s.hl.calStopped else s.hl.calStopped } }
  let s :=
    if good then s.hlCauseEnds 0x0B (tdcCode t)
    else if byHl ∧ again then ((s.hlLasting 0x0B (tdcCode t) 0xFFFF residual).raise HL_INT_STAT_cal_fail).twSelfFault
    else if byHl then
      let (esc, s) := s.hlTransient 0x0B (tdcCode t) 0xFFFF residual
      if ¬ esc then s
      else
        let s := { s with hl := { s.hl with calRetry := s.hl.calRetry.filter (· ≠ t), calStopped := insertN t s.hl.calStopped } }
        (s.raise HL_INT_STAT_cal_fail).twSelfFault
    else s
  s.mbAnswerWaiting (fun q => q.opcode = 0x5002 ∧ byteAt q.payload 0 = 2 ∧ leAt q.payload 4 4 = tdcCode t) (.inr [])

/-- The sets given for channel TDCs apply at the cycle boundary (R381). -/
def State.tdcBoundary (s : State) : State :=
  s.tdc.wait.foldl (fun s e => s.setBins e.1 e.2.1 (some e.2.2)) { s with tdc := { s.tdc with wait := [] } }

/-! ### Commands -/

/-- EV_CAL_END (R371): the calibration of event input `i` ends with these hits in its 512 bins and this residual in 0.01 ps. -/
def execEvCalEnd (i : Fin 8) (hits : List Nat) (residual : Nat) (s : State) : Host.Outcome State Fault Refusal :=
  finishIf (s.tdcBusy i) s (
    let good := s.tdcGood i hits residual
    let e := s.evIn.get EvIn.quiet i
    let now : Int := s.tb.toNat / 2 ^ 16
    let s := { s with evIn := s.evIn.put EvIn.quiet i { e with cals := e.cals.map fun (x : Int × Option Int) => if x.2.isNone then (x.1, some now) else x } }
    let s := (s.set (EV_STAT_cal_busy i) 0).set (EV_STAT_cal_stale i) 0
    let s := (s.set (EV_CAL_Q_residual i) (min residual 0xFFFF)).set (EV_CAL_Q_temp i) (twos 16 s.lid)
    let s := if good then s.raise EV_INT_STAT_cal_done else s.raise EV_INT_STAT_cal_fail
    s.tdcFinish i hits residual)

/-- TDC_CAL_END (R335): the calibration of channel `c`'s TDC ends. -/
def execTdcCalEnd (c : Fin 6) (hits : List Nat) (residual : Nat) (s : State) : Host.Outcome State Fault Refusal :=
  finishIf (s.tdcBusy (8 + c)) s (
    let s := (s.set (TC_TDC_Q_residual c) (min residual 0xFFFF)).set (TC_TDC_Q_temp c) (twos 16 s.lid)
    let s := s.tdcFinish (8 + c) hits residual
    let s := (s.set (TC_STAT_tdc_cal c) 0).raise (TC_INT_STAT_tdc_cal_done c)
    let s := s.setChan c { s.chanOf c with clean := false }
    (s.setB (TC_STAT_stale c) (s.tcStale c)).ouRefreshAll)

/-- TDC_TABLE_UPDATE (R372): each second the tables follow the lid temperature, and a live set whose band the lid has left is
discarded. -/
def execTdcTableUpdate (s : State) : Host.Outcome State Fault Refusal :=
  whenUp s (
  finish ((List.range 14).foldl (fun s t =>
    let s := { s with tdc := { s.tdc with temp := s.tdc.temp.put 0 t s.lid } }
    match s.liveSet t with
    | some b => if 40 < (s.lid - b.temp).natAbs then s.setLive t none else s
    | none => s) s))

/-- The time that a running calibration has left at most, in µs (R379). -/
def State.tdcLeft (s : State) (t : Nat) : Nat :=
  match s.tdc.run.get none t with
  | none => 0
  | some at' => ((at' + (if t < 8 then 10000000 else 6250000)) - s.clk + 1249) / 1250

/-- EV_CAL_START (R379). -/
def execEvCalStartCmd (n : Fin 4) (s : State) : Host.Outcome State Fault Refusal :=
  s.mbRow n 0x1201 fun r s =>
    let code := byteAt r.payload 0
    if r.payload.length ≠ 4 then .reject badLength
    else match s.tdcTargetCheck code, tdcIndex code with
    | some e, _ => .reject e
    | none, none => .reject badParam
    | none, some t =>
      if leAt r.payload 1 3 ≠ 0 then .reject badParam
      else if s.tdcBusy t then .busy (s.tdcLeft t)
      else if s.tdcFree t then .ok [] (s.tdcStart t)
      else .reject badState

/-- EV_GET_CAL_TABLE (R380). -/
def execEvGetCalTable (n : Fin 4) (s : State) : Host.Outcome State Fault Refusal :=
  s.mbRow n 0x1202 fun r s =>
    let code := byteAt r.payload 0
    let k := byteAt r.payload 1
    if r.payload.length ≠ 4 then .reject badLength
    else match s.tdcTargetCheck code, tdcIndex code with
    | some e, _ => .reject e
    | none, none => .reject badParam
    | none, some t =>
      let data := fun (b : BinSet) => leBytes 2 (twos 16 b.temp) ++ leBytes 2 b.residual ++ leBytes 2 b.first ++ leBytes 2 b.last
        ++ (b.widths.map fun w => leBytes 2 w).flatten
      if 6 < k ∨ leAt r.payload 2 2 ≠ 0 then .reject badParam
      else if k = 6 then match s.liveSet t with | none => .reject badState | some b => .ok (data b) s
      else if k = 5 then .ok (data (s.tableInUse t)) s
      else .ok (data (s.binSet t k)) s

/-- EV_SET_CAL_TABLE (R381). -/
def execEvSetCalTable (n : Fin 4) (s : State) : Host.Outcome State Fault Refusal :=
  s.mbRow n 0x1203 fun r s =>
    let code := byteAt r.payload 0
    let k := byteAt r.payload 1
    if r.payload.length ≠ 1032 then .reject badLength
    else match s.tdcTargetCheck code, tdcIndex code with
    | some e, _ => .reject e
    | none, none => .reject badParam
    | none, some t =>
      let first := leAt r.payload 4 2
      let last := leAt r.payload 6 2
      let w := (List.range 512).map fun b => leAt r.payload (8 + 2 * b) 2
      let sum := w.foldl (· + ·) 0
      let span := s.tdcSpan t
      if 4 < k ∨ leAt r.payload 2 2 ≠ 0 ∨ 511 < first ∨ 511 < last ∨ last < first then .reject badParam
      else if s.tdcBusy t then .busy (s.tdcLeft t)
      else if sum * 100 < span * 95 ∨ span * 105 < sum * 100 then .reject 0x0102
      else
        let b : BinSet := ⟨setTemp k, (s.binSet t k).residual, first, last, w⟩
        .ok [] (if t < 8 then s.setBins t k (some b) else { s with tdc := { s.tdc with wait := s.tdc.wait ++ [(t, k, b)] } })

end Sys2Proof.Machine
end

