-- ==== Sys2Proof/Machine/Hold.lean ====
section
/-! DEFINITION. Holdover: the history of each channel, its model, the predicted steer, and the time-error estimate (R328 to
R333). Steers are in 10⁻¹⁵, temperatures in 0.125 °C. Quotients are rounded down (log entry 9). -/

namespace Sys2Proof.Machine

/-! ### History (R328) -/

/-- The mean that a bin holds, at the start of its bin of `len` seconds. -/
def HoBin.mean (b : HoBin) (len : Nat) : HoRec := ⟨b.bin * len, b.y / (max 1 b.n : Nat), b.temp / (max 1 b.n : Nat)⟩

/-- Add a record to a bin. -/
def HoBin.add (b : HoBin) (r : HoRec) (len : Nat) : HoBin :=
  if b.n = 0 ∨ b.bin ≠ r.t / len then ⟨r.t / len, r.y, r.temp, 1⟩ else { b with y := b.y + r.y, temp := b.temp + r.temp, n := b.n + 1 }

/-- Append the mean of a full bin, keeping the last `span` seconds. -/
def keepMeans (l : List HoRec) (b : HoBin) (len span : Nat) : List HoRec :=
  if b.n = 0 then l else (l ++ [b.mean len]).filter fun r => decide (b.bin * len < r.t + span)

/-- Commit a record. -/
def History.commit (h : History) (r : HoRec) : History :=
  { h with
    h16 := if h.bin16.n ≠ 0 ∧ h.bin16.bin ≠ r.t / 16 then keepMeans h.h16 h.bin16 16 4080 else h.h16
    bin16 := h.bin16.add r 16
    h15 := if h.bin15.n ≠ 0 ∧ h.bin15.bin ≠ r.t / 900 then keepMeans h.h15 h.bin15 900 345600 else h.h15
    bin15 := h.bin15.add r 900 }

/-- Commit a list of records. -/
def History.commitAll (h : History) (l : List HoRec) : History := l.foldl History.commit h

/-- Close the 16-second mean being built, so that the window reaches the last record committed. -/
def History.close (h : History) : History := { h with h16 := keepMeans h.h16 h.bin16 16 4080, bin16 := HoBin.empty }

/-- Commit the whole probation buffer (R328). -/
def History.flush (h : History) : History := ({ h with prob := [] }.commitAll h.prob).close

/-- The seconds of own records committed last, with those of a list that is committed now. -/
def Chan.owns (k : Chan) (l : List HoRec) : List Nat := ((l.map fun r => r.t).reverse ++ k.owned).take 1024

/-- The look-back in seconds. -/
def State.avgS (s : State) (c : Nat) : Nat := clamp 60 3600 (s.get (TC_HO_CFG_avg_s c))

/-- The end of the committed 16-second means, in TB seconds. -/
def History.endT (h : History) : Nat := match h.h16.getLast? with | some r => r.t + 16 | none => 0

/-- The committed history spans `n` seconds. -/
def History.spans (h : History) (n : Nat) : Bool :=
  match h.h16.head? with
  | some r => decide (r.t + n ≤ h.endT)
  | none => false

/-- TC_STAT and TC_HO_STAT follow the history (R328, R330). -/
def State.histStat (s : State) (c : Nat) : State :=
  let h := (s.chanOf c).hist
  let s := (s.setB (TC_STAT_hist_valid c) (h.spans (s.avgS c))).setB (TC_STAT_trained c) h.trained
  let all := match h.h15.head?, h.h15.getLast? with | some a, some b => b.t + 900 - a.t | _, _ => 0
  s.set (TC_HO_STAT_trained_h c) (min 255 (all / 3600))

/-! ### The model (R329, R330) -/

/-- The oven temperature. -/
def State.oven (s : State) : Int := signed 16 (s.get TC_OVO_temp)

/-- c(T) of the factory table, interpolated linearly between its steps of 5 K. -/
def ovoAt (temp : Int) : Int :=
  let k := temp / 40
  Config.ovoOffset k + (Config.ovoOffset (k + 1) - Config.ovoOffset k) * (temp - 40 * k) / 40

/-- c(T) of the root's source. While XIN takes the OVO's place the factory tables do not apply, and there is none (R503, log entry 9). -/
def State.sourceAt (s : State) (temp : Int) : Int := if s.on SYS_ROOT_STAT_src_active then 0 else ovoAt temp

/-- The ageing slope of the root's source, likewise. -/
def State.sourceAgeing (s : State) : Int := if s.on SYS_ROOT_STAT_src_active then 0 else Config.ovoAgeing

/-- c(T) of channel `c`, with its residual coefficient. -/
def State.chanAt (s : State) (c : Nat) (temp : Int) : Int :=
  s.sourceAt temp + (match (s.chanOf c).fit with | some f => f.2 * temp / 1000 | none => 0)

/-- The mean of y + c(T) over records. -/
def State.meanOf (s : State) (c : Nat) (l : List HoRec) : Int :=
  if l.isEmpty then 0 else l.foldl (fun a r => a + r.y + s.chanAt c r.temp) 0 / (l.length : Int)

/-- The model at entry into HOLDOVER. -/
def State.buildModel (s : State) (c : Nat) : HoModel × Bool :=
  let k := s.chanOf c
  match k.hist.trained, k.copied with
  | false, some m => m
  | _, _ =>
    let n := s.avgS c
    let e := k.hist.endT
    let w := k.hist.h16.filter fun r => decide (e < r.t + 16 + n)
    let slope := match k.hist.trained, k.fit with | true, some f => f.1 | _, _ => s.sourceAgeing
    (⟨s.meanOf c w, slope, (2 * e - n) * 4000, e, n, match w.getLast? with | some r => r.temp | none => s.oven⟩, k.hist.trained)

/-- ȳ + s × (t − t_m) at the present cycle. -/
def State.modelAt (s : State) (mean slope : Int) (mid : Nat) : Int := mean + slope * ((s.tb.cycle : Int) - mid) / (86400 * 8000)

/-- The module's own prediction for channel `c`, in 10⁻¹⁵, from the model in force or the one it would take now. -/
def State.predict (s : State) (c : Nat) : Int :=
  let m := if s.tcState c = 3 then (s.chanOf c).model else (s.buildModel c).1
  s.modelAt m.mean m.slope m.mid - s.chanAt c s.oven

/-- The predicted steer y_ho (R329), and with the ensemble the mean with the partner's (R333). -/
def State.yHo (s : State) (c : Nat) : Int :=
  let k := s.chanOf c
  let own := s.modelAt k.model.mean k.model.slope k.model.mid - s.chanAt c s.oven
  match k.partner with
  | some p => if s.on (TC_STAT_ensemble c) then (own + p) / 2 else own
  | none => own

/-- Sums over the points of a fit. -/
def sumOver (l : List (Int × Int × Int)) (f : Int × Int × Int → Int) : Int := l.foldl (fun a p => a + f p) 0

/-- The least-squares fit over the last 72 h: slope in 10⁻¹⁵ a day, and coefficient in 10⁻¹⁸ per 0.125 °C (R330). -/
def State.fitOf (s : State) (l : List HoRec) : Int × Int :=
  let p : List (Int × Int × Int) := l.map fun r => ((r.t : Int), r.temp, r.y + s.sourceAt r.temp)
  let n : Int := l.length
  let st := sumOver p (·.1)
  let sq := sumOver p (·.2.1)
  let sz := sumOver p (·.2.2)
  let tt := n * sumOver p (fun x => x.1 * x.1) - st * st
  let tq := n * sumOver p (fun x => x.1 * x.2.1) - st * sq
  let qq := n * sumOver p (fun x => x.2.1 * x.2.1) - sq * sq
  let tz := n * sumOver p (fun x => x.1 * x.2.2) - st * sz
  let qz := n * sumOver p (fun x => x.2.1 * x.2.2) - sq * sz
  let det := tt * qq - tq * tq
  if det = 0 then (if tt = 0 then 0 else tz * 86400 / tt, 0)
  else ((tz * qq - qz * tq) * 86400 / det, -((qz * tt - tz * tq) * 1000 / det))

/-! ### The estimate (R332) -/

/-- te_est in 0.001 ns after `t` seconds, with ∫|ΔT| dt in 0.125 K·s; with the ensemble in use the random term falls by √2 (R333), its inverse
taken as 0.70710678 (log entry 9). -/
def teEst (trained ensemble : Bool) (t dT : Nat) : Nat :=
  let ye := if trained then 10 else 100
  let ae := if trained then 40 else 500
  let noise := 196 * Config.ovoNoise t / 100
  (if ensemble then noise * 70710678 / 10 ^ 8 else noise) + (10000 + ye * t + 5 * 1157 * ae * t * t / 10 ^ 9 + 3 * dT / 16)

end Sys2Proof.Machine
end

