-- ==== Sys2Proof/Machine/Tc.lean ====
section
/-! DEFINITION. The timing channels: selection, switching, the loop update, states and the steer of TB (R306 to R334, R363,
R364), and the monitors of the references (R312 to R315). -/

namespace Sys2Proof.Machine

/-! ### Small readings -/

/-- The SyncE channel (R306). -/
def State.synceCh (s : State) : Nat := s.get TC_ROLES_synce_ch

/-- The QL code of reference `r`. -/
def State.refQl (s : State) (r : Nat) : Nat := bitsOf (s.rd (TC_REF_QL (r / 8))) (4 * (r % 8) + 3) (4 * (r % 8))

/-- The QL usable in QL mode: codes 1 to 8, which are their own ranks (R340). -/
def qlUsable (q : Nat) : Bool := decide (1 ≤ q ∧ q ≤ 8)

/-- The soft and hard limits in 0.01 ppb. -/
def State.softOf (s : State) (c : Nat) : Nat := s.get (TC_SOFT_soft c)
def State.hardOf (s : State) (c : Nat) : Nat := s.get (TC_HARD_hard c)

/-- Deviation of reference `r` in channel `c`, in 0.01 ppb. -/
def State.refDev (s : State) (c r : Nat) : Int := signed 24 (s.get (TC_REF_STAT_dev c r))

/-- The deviation is within the soft limit. -/
def State.withinSoft (s : State) (c r : Nat) : Bool := decide ((s.refDev c r).natAbs ≤ s.softOf c)

/-- qualify_s as it acts. -/
def State.qualifyS (s : State) (c : Nat) : Nat := max 1 (s.get (TC_QUAL_qualify_s c))

/-- Phase error of the last loop update, in 2⁻¹⁶ ns. -/
def State.phaseErr (s : State) (c : Nat) : Int := signed 32 (s.get (TC_PHASE_ERR_err c))

/-- |phase error| ≤ `k` × lock_win, the window being in 0.1 ns (R324). -/
def State.withinWin (s : State) (c k : Nat) : Bool :=
  decide ((s.phaseErr c).natAbs * 10 ≤ k * s.get (TC_LOOP_lock_win c) * 65536)

/-- The channel runs its loop: enabled, its DCO at frequency, in no reset and no TDC calibration. -/
def State.loopRuns (s : State) (c : Nat) : Bool :=
  s.dcoRuns c && !s.on (TC_STAT_resetting c) && !s.on (TC_STAT_tdc_cal c)

/-! ### Bandwidth (R321, R322) -/

/-- Bandwidths of codes 0x00 to 0x15 in 0.1 mHz. -/
def bwTable : List Nat :=
  [5, 10, 20, 50, 100, 200, 500, 1000, 2000, 5000, 10000] ++
  [20000, 50000, 100000, 200000, 500000, 1000000, 2000000, 5000000, 10000000, 20000000, 40000000]

/-- Samples per second of reference `r`, as a pair of numerator and denominator. -/
def State.sampleRate (s : State) (r : Nat) : Nat × Nat :=
  let clock := fun (n d : Nat) =>
    let k := max 1 ((n + 50000000 * d - 1) / (50000000 * d))
    (n, d * k)
  if r < 12 then
    let f := s.get (TC_REF_CFG_freq_hz r)
    if f < 1000 then (f, 1)
    else match s.get (TC_REF_MUL_ref_mul r) with
      | 1 => clock (2 * f) 1
      | 2 => clock f 2
      | _ => clock f 1
  else if r < 60 then clock 156250000 1
  else if r = 60 then
    if s.on PX_REF_STAT_delivering then (8000, 2 ^ s.get (PX_LINK_CTRL_interval_log (s.get PX_REF_STAT_link))) else (s.smp.rate60, 1)
  else if r = 61 then (1, 1)
  else (8000, 1)

/-- The bandwidth code in force. -/
def State.bwEff (s : State) (c : Nat) : Nat :=
  let code := min 0x15 (s.get (TC_LOOP_bw c))
  let r := s.selRef c
  if 63 ≤ r then code
  else
    let f := s.sampleRate r
    (((List.range (code + 1)).reverse).find? fun k => decide (bwTable.getD k 0 * 20 * f.2 ≤ f.1 * 10000)).getD 0

/-! ### Selection (R316) -/

/-- Reference `r` is usable by channel `c`. -/
def State.refUsable (s : State) (c r : Nat) : Bool :=
  decide (s.refPrio c r ≠ 0) && passedStatus (s.refStatus c r) && (!s.on (TC_CTRL_ql_mode c) || qlUsable (s.refQl r))

/-- rank(r) as one number: degraded, QL rank, priority, reference. -/
def State.refRank (s : State) (c r : Nat) : Nat :=
  ((flag (s.refStatus c r = 5) * 16 + (if s.on (TC_CTRL_ql_mode c) then s.refQl r else 0)) * 16 + s.refPrio c r) * 64 + r

/-- The best usable reference. -/
def State.refBest (s : State) (c : Nat) : Option Nat :=
  (List.range 63).foldl (fun b r =>
    if s.refUsable c r then
      match b with
      | none => some r
      | some q => if s.refRank c r < s.refRank c q then some r else some q
    else b) none

/-- A forced reference is active and within the hard limit (R317). -/
def State.forceUsable (s : State) (c r : Nat) : Bool := decide (r < 63) && decide (2 ≤ s.refStatus c r)

/-! ### States (R327) -/

/-- TB_STAT shows the time channel. -/
def State.tbStatTc (s : State) : State := (s.set TB_STAT_time_ch s.timeCh).set TB_STAT_tc_state (s.tcState s.timeCh)

/-- Channel `c` enters state `st`. TC stale from a reset clears in LOCKED and HOLDOVER (R30). -/
def State.tcEnter (s : State) (c st : Nat) : State :=
  if s.tcState c = st then s
  else
    let s := (s.set (TC_STAT_state c) st).raise (TC_INT_STAT_state_chg c)
    let k := { s.chanOf c with clean := false }
    let k := if st = 2 ∨ st = 3 then { k with rstStale := false } else k
    let k := if st = 2 then
        { k with wideErr := 0, copied := none, barred := k.barred && decide (s.refStatus c (s.selRef c) ≠ 4) }
      else k
    let s := s.setChan c k
    let s := if st = 3 then s.setChan c { s.chanOf c with qlExpired := decide (s.esmc.holdS = 0) } else s
    ((s.setB (TC_STAT_stale c) (s.tcStale c)).ouRefreshAll).tbStatTc

/-- The QL that the selected reference of channel `c` gives: QL-eEEC where it is unset (R339). -/
def State.selQl (s : State) (c : Nat) : Nat := if s.refQl (s.selRef c) = 0 then 7 else s.refQl (s.selRef c)

/-- No reference steers channel `c`: the QL of the one that was selected is kept (R339). -/
def State.tcRelease (s : State) (c : Nat) : State :=
  let k := s.chanOf c
  let s := s.setChan c { k with sw := none, lastQl := if s.selRef c = 63 then k.lastQl else s.selQl c }
  ((s.set (TC_STAT_sel_ref c) 63).set (TC_STAT_switching c) 0).set (TC_STAT_slewing c) 0

/-- The history is valid, or the channel holds a copied model (R328, R404). -/
def State.histValid (s : State) (c : Nat) : Bool := (s.chanOf c).hist.spans (s.avgS c) || (s.chanOf c).copied.isSome

/-- HOLDOVER, or LOST without a valid history (R327, R328). -/
def State.holdOrLost (s : State) (c : Nat) : State :=
  let k := s.chanOf c
  let s := if k.barred then s
    else s.setChan c { k with hist := k.hist.flush, commitNow := k.commitNow ++ k.hist.prob, owned := k.owns k.hist.prob }
  let s := (s.histStat c).tcRelease c
  if s.histValid c then
    let m := s.buildModel c
    let s := s.setChan c { s.chanOf c with model := m.1, trainedBy := m.2, entryTemp := s.oven, dT := 0 }
    (s.set (TC_HO_STAT_elapsed_s c) 0).tcEnter c 3
  else s.tcEnter c 4

/-- FREERUN with nothing selected (R317). -/
def State.freerun (s : State) (c : Nat) : State := (s.tcRelease c).tcEnter c 0

/-- A switch to reference `n` starts (R318). -/
def State.switchTo (s : State) (c n : Nat) (forced : Bool) : State :=
  let s := s.setChan c { s.chanOf c with sw := some ⟨0, false, forced⟩, clean := false, forceNew := false }
  let s := ((s.set (TC_STAT_sel_ref c) n).set (TC_STAT_switching c) 1).set (TC_STAT_slewing c) 0
  if s.tcState c = 0 ∨ s.tcState c = 3 ∨ s.tcState c = 4 then s.tcEnter c 1 else s

/-- ACQUIRING or LOCKED. -/
def State.tracking (s : State) (c : Nat) : Bool := decide (s.tcState c = 1) || decide (s.tcState c = 2)

/-- Force reference `r` (R317). Each accepted force starts a switch, to a reference that is selected already too (R345). -/
def State.selectForced (s : State) (c r : Nat) : State :=
  if s.forceUsable c r then if s.selRef c = r ∧ s.tracking c ∧ ¬ (s.chanOf c).forceNew then s else s.switchTo c r true
  else if s.tracking c then s.holdOrLost c
  else s

/-- Selection among the usable references (R316). -/
def State.selectBest (s : State) (c : Nat) : State :=
  let cur := s.selRef c
  match s.refBest c with
  | none => if s.tracking c then s.holdOrLost c else s
  | some b =>
    if cur = 63 ∨ ¬ s.refUsable c cur then s.switchTo c b false
    else if s.refRank c b < s.refRank c cur ∧ (s.on (TC_CTRL_revertive c) ∨ s.refStatus c cur = 5) then s.switchTo c b false
    else s

/-- Selection of a channel that is not switching. A standby holds its channels on reference 62 (R393). -/
def State.select (s : State) (c : Nat) : State :=
  if (s.chanOf c).hold62 then s.selectForced c 62
  else match s.get (TC_FORCE_mode c) with
    | 1 => s.selectForced c (s.get (TC_FORCE_ref c))
    | 2 => if s.tracking c ∨ (s.tcState c = 0 ∧ s.histValid c) then s.holdOrLost c else s
    | 3 => if s.tcState c = 0 then s else s.freerun c
    | _ => s.selectBest c

/-- A loop update during a switch (R318, R320): the eighth one ends a switch that has failed; one that has not failed completes by
SWITCH_COMPLETE. -/
def State.switchUpdate (s : State) (c : Nat) (w : Switching) : State :=
  let n := s.selRef c
  let ok := if w.forced then s.forceUsable c n else s.refUsable c n
  let w : Switching := { w with count := min 8 (w.count + 1), failed := w.failed || !ok }
  if w.count = 8 ∧ w.failed then ((s.tcRelease c).select c) else s.setChan c { s.chanOf c with sw := some w }

/-! ### Ramps (R363, R364) -/

/-- The clamp in 10⁻¹⁸. -/
def rampMax : Int := 10 ^ 14

/-- OU_RAMP_STAT of channel `c`. -/
def State.rampStat (s : State) (c : Nat) : State :=
  match (s.chanOf c).ramp with
  | none => s.wr (OU_RAMP_STAT c) 0
  | some r =>
    if ¬ r.running then s.wr (OU_RAMP_STAT c) 0
    else
      let s := (s.set (OU_RAMP_STAT_running c) 1).set (OU_RAMP_STAT_profile c) r.profile
      (s.set (OU_RAMP_STAT_segment c) r.seg).set (OU_RAMP_STAT_y_r c) (twos 22 (r.yr / 10 ^ 8))

/-- The ramp of channel `c` ends. -/
def State.rampEnd (s : State) (c : Nat) : State :=
  let ran := match (s.chanOf c).ramp with | some r => r.running | none => false
  let s := (s.setChan c { s.chanOf c with ramp := none }).rampStat c
  if ran then (s.raise OU_INT_STAT_ramp_end).ouRefreshAll else s

/-- FREERUN or forced HOLDOVER (R327). -/
def State.rampHome (s : State) (c : Nat) : Bool :=
  decide (s.tcState c = 0) || (decide (s.tcState c = 3) && decide (s.get (TC_FORCE_mode c) = 2))

/-- One loop update of the ramp of channel `c`. -/
def State.rampUpdate (s : State) (c : Nat) : State :=
  match (s.chanOf c).ramp with
  | none => s
  | some r =>
    if r.stop ∨ ¬ s.rampHome c then s.rampEnd c
    else if ¬ r.running ∨ r.holding then s
    else
      let z := r.yr + signed 32 (s.rd (OU_RAMP_SLOPE r.profile r.seg)).toNat * 125
      let yr := max (-rampMax) (min rampMax z)
      let s := s.setChan c { s.chanOf c with ramp := some { r with yr := yr } }
      (if rampMax ≤ z.natAbs ∧ r.yr.natAbs < rampMax then s.raise OU_INT_STAT_ramp_clamp else s).rampStat c

/-! ### The steer -/

/-- Mean of the steers and fine words of the last 8 updates. -/
def meanSteer (l : List (Int × Int)) : Int × Int :=
  let n : Int := l.length
  (l.foldl (fun a x => a + x.1) 0 / n, l.foldl (fun a x => a + x.2) 0 / n)

/-- Set the steer and the fine word of channel `c`; outside a switch the update is one of the last 8. -/
def State.putSteer (s : State) (c : Nat) (y fine : Int) (keep : Bool) : State :=
  let k := s.chanOf c
  let s := s.setChan c { k with y := y, recent := if keep then ((y, fine) :: k.recent).take 8 else k.recent }
  s.set (TC_DCO_WORD_fine c) (twos 24 fine)

/-- TC_SLEW.limit as it acts, in 0.1 ns/s (R341). -/
def State.slewLimit (s : State) (c : Nat) : Nat := clamp 5 5000 (s.get (TC_SLEW_limit c))

/-- What the phase correction `p`, in 10⁻¹⁵, may be: while the channel slews, the output, or TB, moves toward its target at no more than
TC_SLEW.limit (R307, R319). -/
def State.slewed (s : State) (c : Nat) (p : Int) : Int :=
  let m : Int := s.slewLimit c * 100000
  if s.on (TC_STAT_slewing c) then max (-m) (min m p) else p

/-- The loop's steer from a reference: its integral and proportional terms, which are values that the spec does not compute, as is the
fine word (log entry 2). -/
def State.loopSteer (s : State) (c : Nat) : State :=
  let (i, s) := s.draw 40
  let (p, s) := s.draw 40
  let (fine, s) := s.draw 24
  let p := s.slewed c (signed 40 p)
  let s := s.putSteer c (signed 40 i + p) (signed 24 fine) true
  s.setChan c { s.chanOf c with prop := p, integ := signed 40 i }

/-- The steer and the fine word stay, and are those of this update. -/
def State.sameSteer (s : State) (c : Nat) : State := s.putSteer c (s.chanOf c).y (signed 24 (s.get (TC_DCO_WORD_fine c))) true

/-- The sample of reference 60 is discarded: its measurement interval contains a TB step (R249, R311). -/
def State.sampleStepped (s : State) (c : Nat) : Bool :=
  decide (c = s.timeCh) && decide (s.selRef c = 60) && s.smp.ofs60.isSome && decide (s.smp.from60 ≠ s.get TB_STEP_CNT_count)

/-- The steer that a state gives without a reference; the fine word that carries it is free (log entry 2). -/
def State.ownSteer (s : State) (c : Nat) (y : Int) : State :=
  let (fine, s) := s.draw 24
  s.putSteer c y (signed 24 fine) true

/-- What steers channel `c` at this update. A discarded sample leaves steer and integrators (R249); LOST holds its last word (R327). -/
def State.steer (s : State) (c : Nat) : State :=
  let k := s.chanOf c
  if k.sw.isSome then
    if k.recent.isEmpty then s else s.putSteer c (meanSteer k.recent).1 (meanSteer k.recent).2 false
  else if s.sampleStepped c then s.sameSteer c
  else match s.tcState c with
    | 0 => s.ownSteer c 0
    | 1 => s.loopSteer c
    | 2 => s.loopSteer c
    | 3 => s.ownSteer c (s.yHo c)
    | _ => s.sameSteer c

/-- The time channel writes TB_INCR (R308): the fraction left after rounding is carried forward; frozen while the root is out
of lock (R336). -/
def State.tbSteer (s : State) (c : Nat) : State :=
  if ¬ s.rootLocked ∨ ¬ [1, 2, 3].contains (s.tcState c) then s
  else
    let total := 0x19999999A * ((10 : Int) ^ 15 + s.fullSteer c) + (s.chanOf c).carry
    let v := total / 10 ^ 15
    let w := max (incrMin : Int) (min incrMax v)
    let s := s.setChan c { s.chanOf c with carry := if w = v then (total % 10 ^ 15).toNat else 0 }
    (if w = v then s else s.raise (TC_STAT_cfg_err c)).incrNext w.toNat

/-! ### The loop update -/

/-- The channel aligns its output, or TB, with the reference: the time channel, and a channel with switch_mode = 1 (R307). -/
def State.aligns (s : State) (c : Nat) : Bool := decide (c = s.timeCh) || s.on (TC_CTRL_switch_mode c)

/-- The phase against the selected reference that the loop holds: TC_PHASE_OFS with alignment, and else its own zero (R319, R325). -/
def State.loopTarget (s : State) (c : Nat) : Int := if s.aligns c then signed 32 (s.get (TC_PHASE_OFS_ofs c)) else (s.chanOf c).zero

/-- The phase error of channel `c` where its phase against the selected reference is `x`. -/
def State.phaseIs (s : State) (c : Nat) (x : Int) : State := s.set (TC_PHASE_ERR_err c) (twos 32 (satSigned 32 (x - s.loopTarget c)))

/-- The offset sample of the time channel: of reference 60, or of reference 62 (R395). -/
def State.offsetSample (s : State) (c : Nat) : Option Int :=
  if c ≠ s.timeCh then none
  else if s.selRef c = 60 then (if s.sampleStepped c then none else s.smp.ofs60)
  else if s.selRef c = 62 then s.tw.ofs62
  else none

/-- The phase error of the time channel follows its offset sample. -/
def State.timeSample (s : State) (c : Nat) : State :=
  match s.offsetSample c with
  | some x => s.phaseIs c x
  | none => s

/-- The ensemble is in use (R333): in HOLDOVER, with a partner that is neither absent nor SIMPLEX and has given its prediction. -/
def State.ensembleOn (s : State) (c : Nat) : Bool :=
  decide (s.tcState c = 3) && s.on (TC_HO_CFG_ensemble c) && (s.chanOf c).partner.isSome && !s.tw.galLost
    && [3, 4, 5, 6].contains (s.get TW_STAT_partner_state)

/-- Loss of lock, and the end of a slew (R319, R324). -/
def State.lockCheck (s : State) (c : Nat) : State :=
  if (s.chanOf c).sw.isSome then s
  else
    let s := if s.on (TC_STAT_slewing c) ∧ s.withinWin c 1 then s.set (TC_STAT_slewing c) 0 else s
    if s.tcState c ≠ 2 then s
    else
      let k := s.chanOf c
      let wideErr := if s.withinWin c 4 then 0 else k.wideErr + 1
      let s := s.setChan c { k with wideErr := wideErr }
      if 2 ≤ wideErr then s.tcEnter c 1 else s

/-- This second may still be recorded (R328); none is while oven_ok reads 0 (R489). -/
def State.recordable (s : State) (c : Nat) : Bool :=
  decide (s.tcState c = 2) && !s.on (TC_STAT_switching c) && !s.on (TC_STAT_slewing c) && !s.on (TC_STAT_tdc_cal c)
    && decide (s.refStatus c (s.selRef c) = 4) && s.rootLocked && !(s.chanOf c).barred
    && s.on TC_OVO_oven_ok

/-- Add the steer to the mean of this second. -/
def State.addToSecond (s : State) (c : Nat) : State :=
  let k := s.chanOf c
  s.setChan c { k with sumY := k.sumY + k.y, nY := k.nY + 1, clean := k.clean && s.recordable c }

/-- Selection of one channel at its update: a switch completes first (R316, R320). -/
def State.selectUpdate (s : State) (c : Nat) : State :=
  match (s.chanOf c).sw with
  | some w => s.switchUpdate c w
  | none => s.select c

/-- The steer of channel `c` at this update, and what follows it. -/
def State.steerUpdate (s : State) (c : Nat) : State :=
  let s := s.setB (TC_STAT_ensemble c) (s.ensembleOn c)
  let s := (s.steer c).addToSecond c
  let s := s.set (TC_STAT_bw_eff c) (s.bwEff c)
  let s := s.set (TC_FREQ_y c) (twos 32 (satSigned 32 (s.fullSteer c / 10000)))
  if c = s.timeCh then s.tbSteer c else s

/-- The switch of channel `c` has come to its eighth update without a failure: SWITCH_COMPLETE, at that update, steers the channel (R318). -/
def State.completes (s : State) (c : Nat) : Bool :=
  match (s.chanOf c).sw with
  | some w => decide (w.count = 8) && !w.failed && s.loopRuns c
  | none => false

/-- The loop update of channel `c`, with its phase against the selected reference as it was measured, in 2⁻¹⁶ ns. -/
def State.chanUpdate (s : State) (c : Nat) (phase : Option Int) : State :=
  if ¬ s.loopRuns c then s.rampUpdate c
  else
    let s := match phase with | some x => s.phaseIs c x | none => s
    let s := (((s.timeSample c).lockCheck c).selectUpdate c).rampUpdate c
    if s.completes c then s else s.steerUpdate c

/-! ### ESMC (R338, R339) -/

/-- The QL that the SyncE channel's state decides. -/
def State.synceQl (s : State) : Nat :=
  let c := s.synceCh
  match s.tcState c with
  | 2 => s.selQl c
  | 3 => if (s.chanOf c).qlExpired then 7 else (s.chanOf c).lastQl
  | _ => 7

/-- What every port sends, as one number: the QL of the state, and 16 times one more than the port whose lane carries the selected
reference, where there is one. -/
def State.esmcCode (s : State) : Nat :=
  let r := s.selRef s.synceCh
  s.synceQl + 16 * (if 12 ≤ r ∧ r < 60 then s.headLane (r - 12) + 1 else 0)

/-- The QL of port `p` under such a number: the port whose lane carries the selected reference sends QL-DNU. -/
def codeQl (code p : Nat) : Nat := if code / 16 = p + 1 then 0xF else code % 16

/-- The QL that port `p` sends. -/
def State.portQl (s : State) (p : Nat) : Nat := codeQl s.esmcCode p

/-- The SSM code and the enhanced SSM code of a QL in option I (R338, R340; their values are those of ITU-T G.8264, log entry 13). -/
def ssmOf (ql : Nat) : Nat × Nat :=
  match ql with
  | 1 => (0x2, 0x21)
  | 2 => (0x2, 0x20)
  | 3 => (0x2, 0x23)
  | 4 => (0x2, 0xFF)
  | 5 => (0x4, 0xFF)
  | 6 => (0x8, 0xFF)
  | 7 => (0xB, 0x22)
  | 8 => (0xB, 0xFF)
  | _ => (0xF, 0xFF)

/-- An ESMC PDU after its EtherType, as ITU-T G.8264 lays it out (log entry 13): information or event PDU, with the QL TLV and, where TC_ESMC_CONFIG
has it sent, the enhanced SSM code TLV. What that TLV says beside code and clock identity is free. -/
def State.esmcPdu (s : State) (event : Bool) (ql : Nat) : Bytes × State :=
  let b := bytes [0x0A, 0x00, 0x19, 0xA7, 0x00, 0x01, 0x10 + 8 * flag event, 0, 0, 0, 0x01, 0x00, 0x04, (ssmOf ql).1]
  if s.esmc.tlv then
    let (x, s) := s.draw 24
    (b ++ bytes [0x02, 0x00, 0x14, (ssmOf ql).2] ++ beBytes 8 Config.clockIdentity.toNat ++ beBytes 3 x ++ zeros 5, s)
  else (b, s)

/-- It leaves port `p`. -/
def State.esmcOut (s : State) (p : Nat) (event : Bool) : State :=
  let (b, s) := s.esmcPdu event (s.portQl p)
  s.slowSend p b

/-- One PDU on every sending port, or an event PDU on those whose QL has changed. -/
def State.esmcSend (s : State) (event : Bool) : State :=
  if ¬ s.esmc.on then s
  else
    let was := s.esmc.sent
    let s := (List.range s.lanes).foldl (fun s p =>
      if bitOf s.esmc.send p ∧ (¬ event ∨ codeQl was p ≠ s.portQl p) then s.esmcOut p event else s) s
    { s with esmc := { s.esmc with sent := s.esmcCode } }

/-- A change of a QL sent makes an event PDU. -/
def State.esmcCheck (s : State) : State :=
  if s.esmc.on ∧ s.stacksRun ∧ s.esmcCode ≠ s.esmc.sent then s.esmcSend true else s

/-! ### Root lane reference (R20) -/

/-- The transmitters run from the root's lane reference while the SyncE channel's DCO cannot clock them; they move back at a
loop update. -/
def State.txOnRoot (s : State) (update : Bool) : State :=
  if ¬ s.dcoRuns s.synceCh then s.set SYS_ROOT_STAT_tx_on_root 1 else if update then s.set SYS_ROOT_STAT_tx_on_root 0 else s

/-! ### Commands of the loop -/

/-- LOOP_UPDATE (R316): every channel makes its loop update; `errs` are the phases measured against the selected references, in 2⁻¹⁶ ns. -/
def execLoopUpdate (errs : List (Fin 6 × Int)) (s : State) : Host.Outcome State Fault Refusal :=
  whenUp s (
  let s := (List.range s.chans).foldl (fun s c => s.chanUpdate c ((errs.find? fun e => e.1.val = c).map (·.2))) s
  let s := { s with smp := { s.smp with ofs60 := none }, tw := { s.tw with ofs62 := none } }
  finish ((s.txOnRoot true).tbStatTc.esmcCheck))

/-- What the offset measured in a switch does (R319): with absorption it is the loop's new zero; else the output, or TB, slews to the target
where it stands more than the lock window from it. The time channel does not slew where its role or reference steers frequency alone (R307). -/
def State.absorb (s : State) (c : Nat) (ofs : Int) : State :=
  let rate := decide (c = s.timeCh) && (decide (12 ≤ s.selRef c ∧ s.selRef c < 60)
    || (decide (s.selRef c < 12) && decide (1000 ≤ s.get (TC_REF_CFG_freq_hz (s.selRef c)))))
  let far := decide (s.get (TC_LOOP_lock_win c) * 65536 < (ofs - s.loopTarget c).natAbs * 10)
  if s.aligns c then s.setB (TC_STAT_slewing c) (far && !rate)
  else (s.setChan c { s.chanOf c with zero := ofs }).set (TC_STAT_slewing c) 0

/-- SWITCH_COMPLETE (R318): the switch of channel `c` completes with the measured offset, in 2⁻¹⁶ ns. It is the eighth update, at which the
new reference steers, or a new switch starts (R320). -/
def execSwitchComplete (c : Fin 6) (ofs : Int) (s : State) : Host.Outcome State Fault Refusal :=
  finishIf (s.completes c) s (
    let s := (s.set (TC_ABSORBED_ofs c) (twos 32 (satSigned 32 ofs))).raise (TC_INT_STAT_switch_done c)
    let k := s.chanOf c
    let s := (s.inc (TC_SW_CNT_switches c)).setChan c { k with sw := none, switches := k.switches + 1, clean := false }
    let s := (s.set (TC_STAT_switching c) 0).absorb c ofs
    (((s.select c).steerUpdate c).tbStatTc).esmcCheck)

/-- On an entry into LOCKED from ACQUIRING an aligning channel places its output edges, or TB, at the reference edge plus TC_PHASE_OFS; a channel that
then ceases to align holds that placement until its first absorbed switch (R325). TB itself changes only by a step (R253): the loop, whose
target this is, brings it there. -/
def State.place325 (s : State) (c : Nat) : State :=
  if s.aligns c then s.setChan c { s.chanOf c with zero := s.loopTarget c } else s

/-- LOCK_DECLARED (R324): the phase error has held within the window for the longer of 16 cycles and 2 / bandwidth. -/
def execLockDeclared (c : Fin 6) (s : State) : Host.Outcome State Fault Refusal :=
  finishIf (s.loopRuns c && decide (s.tcState c = 1) && decide (s.selRef c ≠ 63) && (s.chanOf c).sw.isNone && s.withinWin c 1) s
    (((s.tcEnter c 2).place325 c).esmcCheck)

/-! ### References and monitors (R310 to R315) -/

/-- REF_ACTIVITY_LOSS (R310). -/
def execRefActivityLoss (r : Fin 63) (s : State) : Host.Outcome State Fault Refusal := finishIf true s (s.refLoss r)

/-- What reference `r` needs beside its edges or samples to be active (R309). -/
def State.refOffered (s : State) (r : Nat) : Bool :=
  s.refHere r &&
    (if r < 12 then decide (s.get (TC_REF_CFG_freq_hz r) ≠ 0)
     else if r < 60 then s.on (LN_STAT_clk_valid (r - 12))
     else if r = 61 then s.on TB_TOD_STAT_rx_qual && s.tod.offered
     else if r = 62 then s.tw.hdr.isSome && !s.tw.galLost
     else true)

/-- REF_ACTIVITY_RETURN (R310). -/
def execRefActivityReturn (r : Fin 63) (s : State) : Host.Outcome State Fault Refusal := finishIf (s.refOffered r) s (s.refReturn r)

/-- The frequency of reference `r` against the OVO, in 0.01 ppb. -/
def State.refFreq (s : State) (r : Nat) : Int := signed 24 (s.get (TC_REF_FREQ_e r))

/-- The offsets of the voters of `r` in channel `c`, beside the OVO's 0 (R313, R315). -/
def State.voters (s : State) (c r : Nat) : List Int :=
  ((List.range 63).filter fun q => decide (q ≠ r) && decide (s.refPrio c q ≠ 0)
    && (decide (s.refStatus c q = 4) || decide (s.refStatus c q = 3)) && s.on (TC_REF_FREQ_valid q)).map s.refFreq

/-- Insert into a rising list. -/
def insertI (v : Int) : List Int → List Int
  | [] => [v]
  | x :: xs => if v ≤ x then v :: x :: xs else x :: insertI v xs

/-- The median, or the mean of the two middle values. -/
def median (l : List Int) : Int :=
  let l := l.foldl (fun a v => insertI v a) []
  let n := l.length
  if n % 2 = 1 then l.getD (n / 2) 0 else (l.getD (n / 2 - 1) 0 + l.getD (n / 2) 0) / 2

/-- The monitor of reference `r` in channel `c` with deviation `d` (R314). -/
def State.judge (s : State) (c r : Nat) (d : Int) : State :=
  let s := s.set (TC_REF_STAT_dev c r) (twos 24 (satSigned 24 d))
  let a := d.natAbs
  let st := s.refStatus c r
  let n := if a ≤ s.softOf c then s.time.okRun.get 0 (64 * c + r) + 1 else 0
  let s := { s with time := { s.time with okRun := s.time.okRun.put 0 (64 * c + r) n } }
  let s := if s.qualifyS c ≤ n ∧ st = 4 then { s with time := { s.time with passed := (c, r) :: s.time.passed.filter (· ≠ (c, r)) } } else s
  if s.hardOf c < a then s.setStatus c r 1
  else if st = 1 then if a ≤ s.softOf c then s.setStatus c r 2 else s
  else if st = 4 then if s.softOf c < a then s.setStatus c r 5 else s
  else s

/-- The monitors of channel `c`: every deviation is taken before a status changes. -/
def State.monitor (s : State) (c : Nat) : State :=
  let act := (List.range 63).filter fun r => s.refActive r && s.on (TC_REF_FREQ_valid r) && decide (s.refStatus c r ≠ 0)
  let devs := act.map fun r => (r, s.refFreq r - median (0 :: s.voters c r))
  devs.foldl (fun s e => s.judge c e.1 e.2) s

/-- REF_MONITOR_UPDATE (R313): the frequencies measured, in 0.01 ppb. None is used from an interval with the root out of lock
(R312). A channel in reset has its monitors stopped (R334). -/
def execRefMonitorUpdate (freqs : List (Fin 63 × Int)) (s : State) : Host.Outcome State Fault Refusal :=
  finishIf s.rootLocked s (
    let s := freqs.foldl (fun s e =>
      if s.refActive e.1 then (s.set (TC_REF_FREQ_e e.1) (twos 24 (satSigned 24 e.2))).set (TC_REF_FREQ_valid e.1) 1 else s) s
    (List.range s.chans).foldl (fun s c => if s.on (TC_STAT_resetting c) then s else s.monitor c) s)

/-- wtr_s as it acts. -/
def State.wtrS (s : State) (c : Nat) : Nat := min 3600 (s.get (TC_QUAL_wtr_s c))

/-- Reference `r` has passed qualification in channel `c` (R251). -/
def State.qualified (s : State) (c r : Nat) : State :=
  { s with time := { s.time with passed := (c, r) :: s.time.passed.filter (· ≠ (c, r)) } }

/-- A count of the monitors of channel `c` can end: no reset, the reference within the soft limit. -/
def State.countEnds (s : State) (c r st : Nat) : Bool :=
  decide (c < s.chans) && !s.on (TC_STAT_resetting c) && decide (s.refStatus c r = st) && s.withinSoft c r

/-- QUALIFYING_COMPLETE (R314). -/
def execQualifyingComplete (c : Fin 6) (r : Fin 63) (s : State) : Host.Outcome State Fault Refusal :=
  finishIf (s.countEnds c r 2) s ((s.setStatus c r (if (s.chanOf c).had.contains r ∧ s.wtrS c ≠ 0 then 3 else 4)).qualified c r)

/-- DEGRADED_RECOVERY (R314). -/
def execDegradedRecovery (c : Fin 6) (r : Fin 63) (s : State) : Host.Outcome State Fault Refusal :=
  finishIf (s.countEnds c r 5) s (s.setStatus c r (if s.wtrS c ≠ 0 then 3 else 4))

/-- WTR_EXPIRY (R314). -/
def execWtrExpiry (c : Fin 6) (r : Fin 63) (s : State) : Host.Outcome State Fault Refusal :=
  finishIf (s.countEnds c r 3) s (s.setStatus c r 4)

/-! ### Holdover (R328 to R332) -/

/-- HOLDOVER_RECORD (R328). -/
def execHoldoverRecord (c : Fin 6) (s : State) : Host.Outcome State Fault Refusal :=
  finishIf (decide (c.val < s.chans)) s (
    let k := s.chanOf c
    let k := if s.tcState c = 2 ∧ k.sw.isNone ∧ s.refStatus c (s.selRef c) = 4 then { k with barred := false } else k
    let now := s.tb.sec
    let prob := if k.clean ∧ s.recordable c ∧ k.nY ≠ 0 then k.hist.prob ++ [⟨now, k.sumY / (k.nY : Int), s.oven⟩] else k.hist.prob
    let old := prob.filter fun r => decide (r.t + 900 < now)
    let h := ({ k.hist with prob := prob.filter fun r => !decide (r.t + 900 < now) }).commitAll old
    let s := s.setChan c { k with
      hist := h, commitNow := k.commitNow ++ old, owned := k.owns old, sumY := 0, nY := 0 }
    let s := s.setChan c { s.chanOf c with clean := s.recordable c }
    s.histStat c)

/-- HOLDOVER_REFIT (R330): over the 15-minute means of the last 72 h. -/
def execHoldoverRefit (c : Fin 6) (s : State) : Host.Outcome State Fault Refusal :=
  finishIf ((s.chanOf c).hist.trained) s (
    let k := s.chanOf c
    let last := match k.hist.h15.getLast? with | some r => r.t | none => 0
    s.setChan c { k with fit := some (s.fitOf (k.hist.h15.filter fun r => decide (last < r.t + 259200))) })

/-- HOLDOVER_TE_UPDATE (R332): the estimate in ns, rounded up; past a limit the channel is LOST (R327). -/
def execHoldoverTeUpdate (c : Fin 6) (s : State) : Host.Outcome State Fault Refusal :=
  finishIf (decide (s.tcState c = 3)) s (
    let t := min 0xFFFFFF (s.get (TC_HO_STAT_elapsed_s c) + 1)
    let k := s.chanOf c
    let k := { k with dT := k.dT + (s.oven - k.entryTemp).natAbs }
    let te := teEst k.trainedBy (s.on (TC_STAT_ensemble c)) t k.dT
    let s := ((s.setChan c k).set (TC_HO_STAT_elapsed_s c) t).set (TC_HO_TE_te_est c) (min 0xFFFFFFFE (te / 1000))
    let maxH := s.get (TC_HO_LIMIT_max_h c)
    let lim := s.get (TC_HO_LIMIT_te_limit_ns c)
    if (maxH ≠ 0 ∧ maxH * 3600 ≤ t) ∨ (lim ≠ 0 ∧ lim * 1000 < te) then
      ((s.tcEnter c 4).raise (TC_INT_STAT_ho_lost c)).esmcCheck
    else s)

/-! ### Reset of a channel (R334) -/

/-- TC_RESET[c] is written with 1. -/
def State.tcResetStart (s : State) (c : Nat) : State :=
  if s.on (TC_STAT_resetting c) then s
  else
    let k := s.chanOf c
    let s := s.setChan c { k with resetFrom := some (s.tcState c), rstStale := true, wideErr := 0, clean := false, ramp := k.ramp.map fun r => { r with stop := true } }
    let s := ((s.tcRelease c).set (TC_STAT_resetting c) 1).set (TC_STAT_stale c) 1
    let s := (List.range 63).foldl (fun s r => s.refRestart c r) s
    (s.setChan c { s.chanOf c with had := [] }).ouRefreshAll

/-- TC_RESET_END (R334). -/
def execTcResetEnd (c : Fin 6) (s : State) : Host.Outcome State Fault Refusal :=
  finishIf (s.on (TC_STAT_resetting c)) s (
    let from' := (s.chanOf c).resetFrom
    let s := s.setChan c { s.chanOf c with resetFrom := none }
    let s := s.set (TC_STAT_resetting c) 0
    let s :=
      if from' = some 0 then s.freerun c
      else if from' = some 3 ∧ s.histValid c then s.setChan c { s.chanOf c with rstStale := false }
      else s.holdOrLost c
    (((s.setB (TC_STAT_stale c) (s.tcStale c)).ouRefreshAll).tbStatTc).esmcCheck)

/-! ### The DCO (R321, R323) -/

/-- A valid preset of channel `c` with the frequency in force. -/
def State.presetFor (s : State) (c : Nat) : Option Nat :=
  (List.range 16).find? fun k => s.on (TC_PRESET_HI_valid c k)
    && decide (s.get (TC_PRESET_LO_f_lo c k) + s.get (TC_PRESET_HI_f_hi c k) * 2 ^ 32 = s.dcoNom c)

/-- The DCO of channel `c` moves to its frequency. -/
def State.dcoMove (s : State) (c : Nat) : State :=
  let k := s.chanOf c
  (s.setChan c { k with hop := some (s.presetFor c), clean := false }).ouRefreshAll

/-- DCO_AT_FREQUENCY (R323): a preset hop or a band search ends. The band that a search finds is free (log entry 2). -/
def execDcoAtFrequency (c : Fin 6) (s : State) : Host.Outcome State Fault Refusal :=
  let k := s.chanOf c
  finishIf (decide (c.val < s.chans) && s.on (TC_CTRL_enable c) && (k.hop.isSome || !k.searched)) s (
    let s := match k.hop with
      | some (some i) => s.set (TC_DCO_WORD_band c) (s.get (TC_PRESET_HI_band c i))
      | _ => let (b, s) := s.draw 8; (s.set (TC_DCO_WORD_band c) b).raise (TC_INT_STAT_band_search c)
    let (fine, s) := s.draw 24
    let s := s.set (TC_DCO_WORD_fine c) fine
    let bandDone := (s.chanOf c).bandDone || (match k.hop with | some (some _) => false | _ => true)
    let s := s.setChan c { s.chanOf c with hop := none, searched := true, bandDone := bandDone, recent := [], wideErr := 0 }
    let s := if s.on (TC_STAT_resetting c) then s else if s.selRef c ≠ 63 then s.tcEnter c 1 else s.freerun c
    s.ouRefreshAll.esmcCheck)

/-! ### Ramp commands -/

/-- The ramp enters segment `i`, or its list ends there (R363). -/
def State.rampSegment (s : State) (c : Nat) (r : Ramp) (i : Nat) : State :=
  if i < 64 ∧ s.get (OU_RAMP_DUR_duration_ms r.profile i) ≠ 0 then
    (s.setChan c { s.chanOf c with ramp := some { r with seg := i } }).rampStat c
  else if s.on (OU_RAMP_CFG_end_mode r.profile) then s.rampEnd c
  else (s.setChan c { s.chanOf c with ramp := some { r with holding := true } }).rampStat c

/-- RAMP_START (R364): at a loop update at or after its time the scheduled ramp starts. -/
def execRampStart (c : Fin 6) (s : State) : Host.Outcome State Fault Refusal :=
  match (s.chanOf c).ramp with
  | none => .next s
  | some r =>
    finishIf (!r.running && !r.stop && decide (r.start ≤ s.tb.toNat) && s.rampHome c) s (
      let r := { r with running := true }
      let s := s.setChan c { s.chanOf c with ramp := some r }
      (s.rampSegment c r 0).ouRefreshAll)

/-- RAMP_SEGMENT_END (R363). -/
def execRampSegmentEnd (c : Fin 6) (s : State) : Host.Outcome State Fault Refusal :=
  match (s.chanOf c).ramp with
  | none => .next s
  | some r => finishIf (r.running && !r.holding) s (s.rampSegment c r (r.seg + 1))

/-- A write of OU_RAMP_STOP: the ramps named end at the next loop update (R364). -/
def State.rampStop (s : State) (v : Nat) : State :=
  (List.range s.chans).foldl (fun s c =>
    if bitOf v c then s.setChan c { s.chanOf c with ramp := (s.chanOf c).ramp.map fun r => { r with stop := true } } else s) s

/-- Profile `p` is in use by a running ramp (R364). -/
def State.rampLocked (s : State) (p : Nat) : Bool :=
  (List.range 6).any fun c => match (s.chanOf c).ramp with | some r => r.running && decide (r.profile = p) | none => false

/-! ### The cycle boundary (R306, R310, R321, R341) -/

/-- A captured value of a register, or the value in force. -/
def captureOf (l : List (Nat × Word × Nat)) (s : State) (a : Nat) : Word :=
  (l.foldl (fun w e => if e.1 = a then some e.2.1 else w) none).getD (s.rd a)

/-- The channel registers of channel `c`. -/
def isChanReg (c a : Nat) : Bool := decide (TC_CTRL c ≤ a) && decide (a < TC_CTRL (c + 1))

/-- The boundary of channel `c`: a DCO frequency outside 9.6 to 11.2 GHz is not applied; a change of frequency, and a start of the
channel, move the DCO; a disabled channel is in FREERUN. -/
def State.chanBoundary (s : State) (c : Nat) : State :=
  if s.on (TC_STAT_resetting c) then s
  else
    let (now, s) := s.takePend fun a => isChanReg c a
    if now.isEmpty then s
    else
      let f := (captureOf now s (TC_DCO_NOM_LO c)).toNat + bitsOf (captureOf now s (TC_DCO_NOM_HI c)) 3 0 * 2 ^ 32
      let bad := decide (f < 9600000000) || decide (11200000000 < f)
      let was := s.dcoNom c
      let ran := s.on (TC_CTRL_enable c)
      let l := if bad then now.filter fun e => decide (e.1 ≠ TC_DCO_NOM_LO c) && decide (e.1 ≠ TC_DCO_NOM_HI c) else now
      let s := l.foldl (fun s e => s.wr e.1 e.2.1) s
      let s := if l.any (fun e => e.1 = TC_FORCE c) ∧ s.get (TC_FORCE_mode c) = 1 then s.setChan c { s.chanOf c with forceNew := true } else s
      let s := if bad then s.raise (TC_STAT_cfg_err c) else s
      let on := s.on (TC_CTRL_enable c)
      if ¬ on then
        if ran then ((s.setChan c { s.chanOf c with hop := none }).freerun c).ouRefreshAll else s
      else if s.dcoNom c ≠ was ∨ ¬ ran then s.dcoMove c
      else s

/-- The common registers: roles of absent channels are not applied; a reference whose frequency or factor changes qualifies
again. -/
def State.tcCommonBoundary (s : State) : State :=
  let (now, s) := s.takePend fun a => decide (0x786000 ≤ a) && decide (a < 0x787000)
  if now.isEmpty then s
  else
    let f0 := (List.range 12).map fun r => (s.get (TC_REF_CFG_freq_hz r), s.get (TC_REF_MUL_ref_mul r))
    let t0 := s.timeCh
    let y0 := s.synceCh
    let s := now.foldl (fun s e => s.wr e.1 e.2.1) s
    let s := if s.chans ≤ s.timeCh then (s.set TC_ROLES_time_ch t0).raise (TC_STAT_cfg_err 0) else s
    let s := if s.chans ≤ s.synceCh then (s.set TC_ROLES_synce_ch y0).raise (TC_STAT_cfg_err 0) else s
    let s := (List.range 12).foldl (fun s r =>
      if f0.getD r (0, 0) = (s.get (TC_REF_CFG_freq_hz r), s.get (TC_REF_MUL_ref_mul r)) then s
      else if s.get (TC_REF_CFG_freq_hz r) = 0 then s.refLoss r
      else (List.range s.chans).foldl (fun s c => s.refRestart c r) s) s
    let s := if s.synceCh = y0 then s
      else s.setChan s.synceCh { s.chanOf s.synceCh with qlExpired := decide (s.esmc.holdS ≤ s.get (TC_HO_STAT_elapsed_s s.synceCh)) }
    s.tbStatTc

/-- The TC part of the cycle boundary. -/
def State.tcBoundary (s : State) : State :=
  let s := ((List.range s.chans).foldl State.chanBoundary s).tcCommonBoundary
  (s.tdcBoundary.txOnRoot false).suspectCheck

/-! ### Reference 60 (R311) -/

/-- The MP stages the low word. -/
def State.ptpOfsLo (s : State) (v : Word) : State := { s with smp := { s.smp with stagedLo := v } }

/-- The high word delivers the sample at the next loop update, unless PX delivers; `since` is TB_STEP_CNT when its measurement interval
began. -/
def State.ptpOfsHi (s : State) (v : Word) (since : Nat) : State :=
  if s.on PX_REF_STAT_delivering then s
  else { s with smp := { s.smp with ofs60 := some (signed 64 (s.smp.stagedLo.toNat + v.toNat * 2 ^ 32)), from60 := since } }

end Sys2Proof.Machine
end

