-- ==== Sys2Proof/Machine/Px.lean ====
section
/-! DEFINITION. Fine-phase links: messages, exchanges, phases, results, calibration, fibre asymmetry and the reference (R277 to R300,
R302 to R305). Times of results are computed exactly in units of 2⁻¹⁶ ns / 10, of which a phase unit of P / 2²⁰ is 4, and P is 2²²;
published values are rounded down (log entry 9). -/

namespace Sys2Proof.Machine

/-! ### Messages (R283 to R286) -/

/-- A message as its receiver reads it: type, flags, sequence, node, port, exchangeLog, and its TLVs in order. -/
structure FplMsg where
  kind : Nat
  flags : Nat
  seq : Nat
  node : Nat
  port : Nat
  log : Nat
  tlvs : List (Nat × Bytes)
deriving DecidableEq, Repr

/-- The TLVs of a message; `fuel` bounds how many. A TLV that runs past the message makes none of it readable. -/
def tlvsOf : Nat → Bytes → Option (List (Nat × Bytes))
  | 0, _ => none
  | n + 1, b =>
    if b.isEmpty then some []
    else if b.length < 4 + beAt b 2 2 then none
    else (tlvsOf n (b.drop (4 + beAt b 2 2))).map fun l => (beAt b 0 2, slice b 4 (beAt b 2 2)) :: l

/-- The first TLV of a type with at least `len` bytes. -/
def FplMsg.tlv (m : FplMsg) (t len : Nat) : Option Bytes :=
  ((m.tlvs.find? fun e => e.1 = t).map (·.2)).filter fun v => decide (len ≤ v.length)

/-- The TLVs that the message's type requires are there (R285). -/
def FplMsg.complete (m : FplMsg) : Bool :=
  match m.kind with
  | 0 => (m.tlv 1 8).isSome
  | 1 => (m.tlv 3 8).isSome
  | 2 => (m.tlv 3 8).isSome && (m.tlv 2 28).isSome
  | 3 => true
  | _ => false

/-- Read a message from its header on; none where it is to be discarded as bad_msg (R284, R285). -/
def State.fplRead (s : State) (b : Bytes) : Option FplMsg :=
  let len := beAt b 2 2
  if b.length < 12 ∨ byteAt b 0 / 16 ≠ 1 ∨ len < 12 ∨ b.length < len ∨ byteAt b 8 ≠ s.get PX_CTRL_domain then none
  else
    match tlvsOf 512 (slice b 12 (len - 12)) with
    | none => none
    | some l =>
      let m : FplMsg := ⟨byteAt b 0 % 16, byteAt b 1, beAt b 4 2, beAt b 6 2, byteAt b 9, byteAt b 10, l⟩
      if m.complete then some m else none

/-- A TLV's bytes. -/
def tlvBytes (t : Nat) (v : Bytes) : Bytes := beBytes 2 t ++ beBytes 2 v.length ++ v

/-- A timestamp of 12 bytes, from 2⁻¹⁶ ns. -/
def stampBytes (t : Int) : Bytes :=
  let x := ((t % ((2 ^ 48 * 1000000000 * 65536 : Nat) : Int)).toNat)
  beBytes 6 (x / (1000000000 * 65536)) ++ beBytes 4 (x / 65536 % 1000000000) ++ beBytes 2 (x % 65536)

/-- Read it back. -/
def stampAt (b : Bytes) (i : Nat) : Int := ((beAt b i 6 * 1000000000 + beAt b (i + 6) 4) * 65536 + beAt b (i + 10) 2 : Nat)

/-- A phase in its TLV. -/
def phaseBytes (x : Option Nat) : Bytes := match x with | some v => beBytes 4 (v % 2 ^ 20 + 2 ^ 31) | none => beBytes 4 0

/-- Read it back. -/
def phaseAt (b : Bytes) (i : Nat) : Option Nat := if 128 ≤ byteAt b i then some (beAt b i 4 % 2 ^ 20) else none

/-- The flags of a message of link `l` that reports exchange `x` (R284). -/
def State.fplFlags (s : State) (l : Nat) (x : Option Exch) : Nat :=
  flag (s.linkDown l) + 2 * flag (s.linkState l = 4) + 4 * flag (s.on TB_STAT_suspect) + 8 * flag (s.linkState l = 3)
    + 16 * flag (match x with | some e => decide (e.steps ≠ s.get TB_STEP_CNT_count) | none => false)
    + 32 * flag (s.on (PX_STAT_cal_valid l)) + 64 * flag (s.on (PX_STAT_syntonised l))

/-- A message of link `l`. -/
def State.fplMsg (s : State) (l kind flags seq log : Nat) (tlvs : Bytes) : Bytes :=
  [BitVec.ofNat 8 (16 + kind), BitVec.ofNat 8 flags] ++ beBytes 2 (12 + tlvs.length) ++ beBytes 2 seq ++ beBytes 2 (s.get PX_CTRL_node_id)
    ++ [BitVec.ofNat 8 (s.get PX_CTRL_domain), BitVec.ofNat 8 l, BitVec.ofNat 8 log, 0] ++ tlvs

/-- The frame that carries a message of link `l` (R283). -/
def State.fplFrame (s : State) (l : Nat) (m : Bytes) : Bytes :=
  let sa := (s.get PX_MAC_LO_mac_lo + s.get PX_MAC_HI_mac_hi * 2 ^ 32 + l) % 2 ^ 48
  let f := beBytes 6 0x0180C200000E ++ beBytes 6 sa ++ beBytes 2 0x88B5 ++ m
  f ++ zeros (60 - f.length)

/-- PX places the frame of a message in the Class T FIFO of port `l`, by the rules of admission (R190, R283): false where it is refused and
counted. `n` names a PING or a PONG. -/
def State.fplSend (s : State) (l : Nat) (m : Bytes) (n : Option (Nat × Bool)) : Bool × State :=
  let t := s.injectAs { Pkt.none with sysClass := 2, fpl := n } l 0 true true none (s.fplFrame l m) false
  let ok := t.isPkt s.sc.nextId
  (ok, if ok ∧ t.linkState l = 3 then t.setLink l { t.linkOf l with calTold := true } else t)

/-- The exchangeLog of a message that answers none: U's is its interval; D echoes U's, which is open before U has been heard (R284, log
entry 2). -/
def State.fplLog (s : State) (l : Nat) : Nat × State :=
  if s.linkDown l then
    match (s.linkOf l).farLog with
    | some n => (n, s)
    | none => s.draw 3
  else (s.get (PX_LINK_CTRL_interval_log l), s)

/-- Send a message that is no PING or PONG: its sequence counts the sender's messages. -/
def State.fplOther (s : State) (l kind : Nat) (tlvs : Bytes) : State :=
  let (log, s) := s.fplLog l
  let x := s.linkOf l
  let s := s.setLink l { x with msgs := (x.msgs + 1) % 2 ^ 16 }
  (s.fplSend l (s.fplMsg l kind (s.fplFlags l none) x.msgs log tlvs) none).2

/-- A message is discarded as bad_msg. -/
def State.fplBad (s : State) (l : Nat) : State := (s.inc (PX_CNT_DISC_bad_msg l)).pxCause l PX_INT_STAT_discard

/-! ### The far end (R280, R281) -/

/-- The role a message claims: 1 upstream, 2 downstream, 0 none. -/
def FplMsg.claims (m : FplMsg) : Nat :=
  if m.kind = 0 then (match m.tlv 1 8 with | some v => beAt v 0 2 / 4 % 4 | none => 0)
  else if m.kind = 1 then 1
  else 2

/-- Keep the flags of the far end's latest message, and the exchangeLog of an upstream one. -/
def State.farFlags (s : State) (l : Nat) (m : FplMsg) : State :=
  let x := s.linkOf l
  let s := s.setLink l { x with
    far := m.flags, farCal := if bitOf m.flags 3 then some s.clk else none, farLog := if bitOf m.flags 0 then x.farLog else some m.log }
  (s.setB (PX_STAT_far_fine l) (bitOf m.flags 1)).setB (PX_STAT_far_suspect l) (bitOf m.flags 2)

/-- A message in WAIT: the opposite role opens the link; the same role is a conflict (R280, R281). -/
def State.farInWait (s : State) (l : Nat) (m : FplMsg) : State :=
  if m.node = s.get PX_CTRL_node_id then s
  else match (s.linkOf l).role with
  | none => s
  | some d =>
    let own := if d then 2 else 1
    if m.claims = own then
      if s.on (PX_STAT_role_conflict l) then s else (s.raise (PX_STAT_role_conflict l)).pxCause l PX_INT_STAT_role_conflict
    else if m.claims = 0 then s
    else
      let s := (s.set (PX_STAT_role_conflict l) 0).set (PX_FAR_node l) m.node
      (((s.set (PX_FAR_port l) m.port).farFlags l m).linkEnter l 2)

/-- A message arrives on link `l`: false where the link takes nothing further from it. A link that exchanges falls to WAIT on a
message of another far node or port. -/
def State.farMessage (s : State) (l : Nat) (m : FplMsg) : Bool × State :=
  if s.linkState l = 1 then
    let s := s.farInWait l m
    (s.linkUp l, s)
  else if s.get (PX_FAR_node l) = m.node ∧ s.get (PX_FAR_port l) = m.port then (true, s.farFlags l m)
  else (false, s.linkWait l)

/-- The MAC hands PX the FPL frames of a port whose link is not DISABLED (R283): of a port that is on, whose receive path is in service, and that is
neither looped nor cross-connected (R93, R95, R96, R106). -/
def State.fplTakes (s : State) (l : Nat) : Bool :=
  s.portHere l && decide (s.headLane l = l) && decide (s.linkState l ≠ 0) && !s.portOff l && !s.rxOut l && decide (s.loopOf l = 0)
    && !s.crossed l

/-- Take message `b` where it is of type `kind`; a message that cannot be read is discarded, one of another type is another
command's. -/
def State.fplTake (s : State) (l kind : Nat) (b : Bytes) (k : FplMsg → State → State) : State :=
  match s.fplRead b with
  | none => s.fplBad l
  | some m => if m.kind = kind then k m s else s

/-- FPL_HELLO_SEND (R281): every 16 cycles in WAIT, while the lane offers its clock and the link is up. -/
def execFplHelloSend (p : Fin 48) (s : State) : Host.Outcome State Fault Refusal :=
  finishIf (decide (s.linkState p = 1) && s.on (LN_STAT_clk_valid p) && s.portSends p) s (
    let role := match (s.linkOf p).role with | some false => 1 | some true => 2 | none => 0
    let pair := if s.on (PX_PAIR_valid p) then s.get (PX_PAIR_port p) else 0xFFFF
    s.fplOther p 0 (tlvBytes 1 (beBytes 2 (3 + 4 * role) ++ beBytes 2 26 ++ [0, 0] ++ beBytes 2 pair)))

/-- FPL_HELLO_RECEIVE (R281). -/
def execFplHelloReceive (p : Fin 48) (b : Bytes) (s : State) : Host.Outcome State Fault Refusal :=
  finishIf (s.fplTakes p) s (s.fplTake p 0 b fun m s => (s.farMessage p m).2)

/-- FPL_BYE_RECEIVE (R281). -/
def execFplByeReceive (p : Fin 48) (b : Bytes) (s : State) : Host.Outcome State Fault Refusal :=
  finishIf (s.fplTakes p) s (s.fplTake p 3 b fun _ s => s.linkWait p)

/-! ### Fine conditions (R281) -/

/-- The conditions of the link itself: syntonised and calibrated at both ends. -/
def State.fineLink (s : State) (l : Nat) : Bool :=
  s.on (PX_STAT_syntonised l) && s.on (PX_STAT_cal_valid l) && !s.on (PX_STAT_cal_stale l)
    && bitOf (s.linkOf l).far 5 && bitOf (s.linkOf l).far 6

/-- An exchange has met or failed the fine conditions: 8 in a row lead to FINE, 2 failures back to COARSE. -/
def State.fineCount (s : State) (l : Nat) (ok : Bool) : State :=
  let x := s.linkOf l
  let s := s.setLink l { x with good := if ok then min 8 (x.good + 1) else 0, bad := if ok then 0 else x.bad + 1 }
  let x := s.linkOf l
  if s.linkState l = 2 ∧ 8 ≤ x.good then s.linkEnter l 4
  else if s.linkState l = 4 ∧ 2 ≤ x.bad then s.linkEnter l 2
  else s

/-! ### Asymmetry (R293, R294) -/

/-- The asymmetry source in force: 0 none, 1 host, 2 pair. -/
def State.asymSrc (s : State) (l : Nat) : Nat := match s.get (PX_LINK_CTRL_asym_src l) with | 1 => 1 | 2 => 2 | _ => 0

/-- Δ in force on a downstream link, in 2⁻¹⁶ ns; a value seeded at a takeover stands until a pair window completes (R404). -/
def State.asymOf (s : State) (l : Nat) : Int :=
  let host := signed 32 (s.get (PX_LINK_ASYM_asym l))
  match s.asymSrc l with
  | 0 => 0
  | 1 => host
  | _ => if s.on (PX_STAT_asym_stale l) then (s.tw.seeded.get none l).getD host else (s.linkOf l).pair

/-- Links `x` and `y` form a pair (R294). -/
def State.paired (s : State) (x y : Nat) : Bool :=
  decide (x ≠ y) && s.on (PX_PAIR_valid x) && decide (s.get (PX_PAIR_port x) = y) && s.on (PX_PAIR_valid y)
    && decide (s.get (PX_PAIR_port y) = x) && decide (s.asymSrc x = 2) && decide (s.asymSrc y = 2) && s.linkDown x && s.linkDown y
    && decide (s.get (PX_FAR_node x) = s.get (PX_FAR_node y))

/-- ASYM_PAIR_WINDOW (R294): the window of links `x` and `y` completes. -/
def execAsymPairWindow (x y : Fin 48) (s : State) : Host.Outcome State Fault Refusal :=
  let lx := s.linkOf x
  let ly := s.linkOf y
  let w := fun (l : Nat) => ((s.get (PX_WL_RX_w l) : Int), (s.get (PX_WL_TX_w l) : Int))
  let den := ((w x).1 + (w x).2) - ((w y).1 + (w y).2)
  finishIf (s.paired x y && decide (s.linkState x = 4) && decide (s.linkState y = 4) && decide (0 < lx.nRt) && decide (0 < ly.nRt) && decide (den ≠ 0)) s (
    let d := lx.sumRt / (lx.nRt : Int) - ly.sumRt / (ly.nRt : Int)
    let give := fun (s : State) (l : Nat) =>
      let v := satSigned 32 (d * ((w l).1 - (w l).2) / den)
      let s := s.setLink l { s.linkOf l with pair := v, sumRt := 0, nRt := 0 }
      let s := { s with tw := { s.tw with seeded := s.tw.seeded.put none l none } }
      (s.set (PX_STAT_asym_stale l) 0).pxCause l PX_INT_STAT_asym_upd
    give (give s x) y)

/-! ### Results (R288) -/

/-- wrap(x): into [−P/2, P/2). -/
def wrapP (x : Int) : Int := (x + 2 ^ 21) % 2 ^ 22 - 2 ^ 21

/-- The readings of one exchange: timestamps in 2⁻¹⁶ ns and phases in P / 2²⁰. -/
structure Readings where
  t1 : Int
  t2 : Int
  t3 : Int
  t4 : Int
  psiU : Nat
  chiU : Nat
  psiD : Nat
  chiD : Nat
deriving DecidableEq, Repr

/-- What R288 gives, in 2⁻¹⁶ ns / 10: round trip, delay, offset, computed fine, wrap errors. -/
structure Solved where
  rt : Int
  delay : Int
  off : Int
  fine : Bool
  wraps : Nat
deriving DecidableEq, Repr

/-- 1.0 ns. -/
def oneNs : Nat := 655360

/-- The computation of R288; `asym` is Δ in 2⁻¹⁶ ns. -/
def solve (r : Readings) (asym : Int) (fineOk : Bool) : Solved :=
  let rtC := 10 * ((r.t4 - r.t1) - (r.t3 - r.t2))
  let x := wrapP (4 * (((r.chiU : Int) - r.psiU) + ((r.chiD : Int) - r.psiD)) - rtC)
  let far := decide (oneNs < x.natAbs)
  let fine := fineOk && !far
  let rt := if fine then rtC + x else rtC
  let dud := (rt + 10 * asym) / 2
  let offC := 10 * (r.t2 - r.t1) - dud
  let y := wrapP (4 * ((r.chiD : Int) - r.psiU) - dud - offC)
  let far2 := decide (oneNs < y.natAbs)
  let w := flag (fineOk && far) + flag (fine && far2)
  ⟨rt, dud, if fine && !far2 then offC + y else offC, fine && !far2, w⟩

/-- The readings of exchange `m` from U's PING and D's record; phases that are not valid read 0. -/
def readingsOf (e : Exch) (t3 : Int) (x p : Bytes) : Readings :=
  ⟨stampAt x 4, e.a, t3, stampAt x 16, (phaseAt p 0).getD 0, (phaseAt p 4).getD 0, e.psi.getD 0, e.chi.getD 0⟩

/-- The result of exchange `e` on downstream link `l`: published at the next t0 + 2 µs, counted, and its RESULT TLV. -/
def State.linkResult (s : State) (l : Nat) (e : Exch) (t3 : Int) (x p : Bytes) (suspect : Bool) : Bytes × State :=
  let phases := (phaseAt p 0).isSome && (phaseAt p 4).isSome && e.psi.isSome && e.chi.isSome
  let ok := phases && s.fineLink l
  let asym := s.asymOf l
  let r := solve (readingsOf e t3 x p) asym ok
  let s := s.add (PX_CNT_DISC_wrap_err l) r.wraps
  let s := (s.inc (PX_CNT_EXCH_count l))
  let s := if ¬ r.fine ∧ s.linkState l = 4 then s.inc (PX_CNT_DISC_fine_fail l) else s
  let k := s.linkOf l
  let pub : PxResult := ⟨e.seq, r.rt / 10, r.delay / 10, asym, r.off / 10, !suspect && s.linkFeeds l, e.steps⟩
  let s := s.setLink l { k with
    pub := some pub, phases := phases, wrapped := decide (r.wraps ≠ 0), src := s.asymSrc l
    sumRt := if r.fine then k.sumRt + pub.rt else k.sumRt, nRt := if r.fine then k.nRt + 1 else k.nRt }
  let s := s.fineCount l r.fine
  (tlvBytes 4 (beBytes 2 e.seq ++ [BitVec.ofNat 8 (s.asymSrc l), BitVec.ofNat 8 (flag r.fine)]
    ++ beBytes 8 (twos 64 pub.rt) ++ beBytes 8 (twos 64 pub.delay) ++ beBytes 8 (twos 64 asym)), s)

/-- Discard an exchange (R290). -/
def State.linkDiscard (s : State) (l : Nat) (f : FRef) : State := (s.inc f).pxCause l PX_INT_STAT_discard

/-- D computes the exchange that a PING reports, unless R290 discards it: the RESULT TLV, where there is one. -/
def State.linkCompute (s : State) (l : Nat) (m : FplMsg) (x : Bytes) : Bytes × State :=
  match (s.linkOf l).recs.find? fun e => e.seq = beAt x 0 2, m.tlv 3 8 with
  | some e, some p =>
    match e.b with
    | none => ([], s)
    | some t3 =>
      if ¬ s.rootLocked then ([], s.linkDiscard l (PX_CNT_DISC_root l))
      else if bitOf m.flags 4 ∨ e.steps ≠ s.get TB_STEP_CNT_count then ([], s.linkDiscard l (PX_CNT_DISC_stepped l))
      else
        let suspect := bitOf m.flags 2
        let s := if suspect then s.linkDiscard l (PX_CNT_DISC_suspect l) else s
        s.linkResult l e t3 x p suspect
  | _, _ => ([], s)

/-! ### The exchange (R287) -/

/-- `n` bytes that the spec leaves open, and the state that has drawn them. -/
def State.drawBytes (s : State) : Nat → Bytes × State
  | 0 => ([], s)
  | n + 1 =>
    let (v, s) := s.draw 8
    let r := State.drawBytes s n
    (BitVec.ofNat 8 v :: r.1, r.2)

/-- `cycle` is an exchange cycle of link `l`: its boundary is a multiple of 125 000 × 2^exchangeLog of TB (R287). -/
def State.exchangeCycle (s : State) (l cycle : Nat) : Bool := decide (cycle % 2 ^ s.get (PX_LINK_CTRL_interval_log l) = 0)

/-- FPL_PING_SEND (R287): in the exchange cycle `cycle` of TB U queues PING(n), which reports the newest complete exchange not yet reported. Its
record is made as it departs. -/
def execFplPingSend (p : Fin 48) (cycle : Nat) (s : State) : Host.Outcome State Fault Refusal :=
  finishIf (s.linkUp p && decide ((s.linkOf p).role = some false) && decide (s.tb.cycle = cycle) && s.exchangeCycle p cycle) s (
    let k := s.linkOf p
    let n := k.next
    let rep := k.recs.find? fun e => e.b.isSome && !e.reported
    let ph := match rep with | some e => (e.psi, e.chi) | none => (none, none)
    let tl := tlvBytes 3 (phaseBytes ph.1 ++ phaseBytes ph.2) ++
      (match rep with | some e => tlvBytes 2 (beBytes 2 e.seq ++ [0, 0] ++ stampBytes e.a ++ stampBytes (e.b.getD 0)) | none => [])
    let (room, s) := s.fplSend p (s.fplMsg p 1 (s.fplFlags p rep) n (s.get (PX_LINK_CTRL_interval_log p)) tl) (some (n, false))
    s.setLink p { s.linkOf p with
      next := (n + 1) % 2 ^ 16
      recs := (s.linkOf p).recs.map fun e => if room ∧ some e.seq = rep.map (·.seq) then { e with reported := true } else e })

/-- D queues PONG(n), its answer to PING(n), received at `t2`: it carries the records of the exchange reported. Its t3 comes as it departs.
What EXCHANGE holds where no exchange is reported is left open (log entry 2). -/
def State.pong (s : State) (l : Nat) (m : FplMsg) (t2 : Int) : State :=
  let x := m.tlv 2 28
  let e := match x with | some v => (s.linkOf l).recs.find? fun (e : Exch) => decide (e.seq = beAt v 0 2) && e.b.isSome | none => none
  let (result, s) := match x with | some v => s.linkCompute l m v | none => ([], s)
  let (exch, s) := match e with
    | some e => (beBytes 2 e.seq ++ [0, 0] ++ stampBytes e.a ++ stampBytes (e.b.getD 0), s)
    | none => s.drawBytes 28
  let ph := match e with | some e => phaseBytes e.psi ++ phaseBytes e.chi | none => zeros 8
  let s := s.addExch l ⟨m.seq, cycleOf t2, t2, none, none, none, s.get TB_STEP_CNT_count, true⟩
  (s.fplSend l (s.fplMsg l 2 (s.fplFlags l e) m.seq m.log (tlvBytes 3 ph ++ tlvBytes 2 exch ++ result)) (some (m.seq, true))).2

/-- FPL_PING_RECEIVE (R287, R288): PING(n) has arrived at `t2` ns and `frac` × 2⁻¹⁶ ns. -/
def execFplPingReceive (p : Fin 48) (b : Bytes) (t2 : Int) (frac : Fin 65536) (s : State) : Host.Outcome State Fault Refusal :=
  finishIf (s.fplTakes p) s (s.fplTake p 1 b fun m s =>
    let (on, s) := s.farMessage p m
    if on ∧ s.linkDown p then (s.setLink p { s.linkOf p with missed := false }).pong p m (65536 * t2 + frac.val) else s)

/-- U takes PONG(n), received at `t4`: it publishes what the RESULT carries, unless its own root is out of lock, D has told of a step, or TB has
stepped since the exchange (R287, R288, R290). -/
def State.pongTaken (s : State) (l : Nat) (m : FplMsg) (t4 : Int) : State :=
  let k := s.linkOf l
  let s := s.setLink l { k with missed := false, recs := k.recs.map fun e => if e.seq = m.seq ∧ e.b.isNone then { e with b := some t4 } else e }
  match m.tlv 4 28, m.tlv 3 8 with
  | some r, some ph =>
    if ¬ s.rootLocked then s.linkDiscard l (PX_CNT_DISC_root l) else
    let own := (s.linkOf l).recs.find? fun e => decide (e.seq = beAt r 0 2)
    if bitOf m.flags 4 ∨ own.any (fun e => decide (e.steps ≠ s.get TB_STEP_CNT_count)) then
      s.linkDiscard l (PX_CNT_DISC_stepped l) else
    let phases := (phaseAt ph 0).isSome && (phaseAt ph 4).isSome && (match own with | some e => e.psi.isSome && e.chi.isSome | none => false)
    let fine := phases && s.fineLink l && bitOf (byteAt r 3) 0
    let at8 := fun i => signed 64 (beAt r i 8)
    let s := (s.inc (PX_CNT_EXCH_count l))
    let s := if ¬ fine ∧ s.linkState l = 4 then s.inc (PX_CNT_DISC_fine_fail l) else s
    let s := s.setLink l { s.linkOf l with pub := some ⟨beAt r 0 2, at8 4, at8 12, at8 20, 0, false, 0⟩, phases := phases, src := byteAt r 2 }
    s.fineCount l fine
  | _, _ => s

/-- FPL_PONG_RECEIVE (R287): PONG(n) has arrived at `t4`, in 2⁻¹⁶ ns. -/
def execFplPongReceive (p : Fin 48) (b : Bytes) (t4 : Int) (s : State) : Host.Outcome State Fault Refusal :=
  finishIf (s.fplTakes p) s (s.fplTake p 2 b fun m s =>
    let (on, s) := s.farMessage p m
    if on ∧ (s.linkOf p).role = some false then s.pongTaken p m t4 else s)

/-- FPL_EXCHANGE_MISS (R282): an exchange is missed; not counted for 5 ms after a message with calibrating = 1. -/
def execFplExchangeMiss (p : Fin 48) (s : State) : Host.Outcome State Fault Refusal :=
  let spared := match (s.linkOf p).farCal with | some t => decide (s.clk ≤ t + 6250000) | none => false
  finishIf (s.linkUp p && !spared) s (
    let k := s.linkOf p
    if k.missed then
      let s := (s.inc (PX_CNT_MISS_lasting p)).pxCause p PX_INT_STAT_miss_lasting
      let s := s.setLink p { k with lasting := min 0xFFFF (k.lasting + 1) }
      (s.linkWait p).hlLasting 0x11 p 0xFFFF 0
    else
      let s := (s.inc (PX_CNT_MISS_transient p)).pxCause p PX_INT_STAT_miss_transient
      let (lasting, s) := (s.setLink p { k with missed := true }).hlTransient 0x11 p 0xFFFF 0
      if lasting then s.linkWait p else s)

/-! ### Phases and publication (R278, R279, R295) -/

/-- A phase in P / 2²⁰ from a count and a latency in 2⁻¹⁶ ns (R278). -/
def State.phaseOf (s : State) (tRef n : Nat) (lat : Int) : Nat :=
  let x : Int := (tRef + n * s.tbIncr / 4096 : Nat) + lat * 65536
  (x * 10 / 262144 % 2 ^ 20).toNat

/-- L_tx or L_rx of link `l` in 2⁻¹⁶ ns: as calibrated, corrected for the lid temperature since (R278, R291). -/
def State.latency (s : State) (l : Nat) (rx : Bool) : Int :=
  let v : Int := if rx then s.get (PX_CAL_RX_l_rx l) else s.get (PX_CAL_TX_l_tx l)
  if s.on (PX_STAT_cal_valid l) then v + Config.latencyDrift l rx (s.lid - signed 16 (s.get (PX_CAL_Q_temp l))) else v

/-- ψ and χ of link `l`. -/
def State.phases (s : State) (l : Nat) (v : Nat × Nat × Nat) : Nat × Nat :=
  (s.phaseOf v.2.2 v.1 (s.latency l false + signed 32 (s.rd (PT_TS_EGR_ADJ l)).toNat),
   s.phaseOf v.2.2 v.2.1 (-s.latency l true - signed 32 (s.rd (PT_TS_ING_ADJ l)).toNat))

/-- f in 0.001 ppb from two values of χ, unwrapped (R279). -/
def freqOf (old new : Nat) : Int := (((new : Int) - old + 2 ^ 19) % 2 ^ 20 - 2 ^ 19) * 3125 / 64

/-- SYNTONISED_UPDATE: f decides, and an invalid phase ends it. -/
def State.syntonise (s : State) (l : Nat) (chi : Option Nat) : State :=
  let k := s.linkOf l
  match k.chi, chi with
  | some a, some b =>
    let f := freqOf a b
    let run := if f.natAbs ≤ 2000 then min 8 (k.syn + 1) else 0
    let s := (s.setLink l { k with chi := chi, syn := run }).set (PX_FREQ_f l) (twos 32 f)
    if 5000 < f.natAbs then s.set (PX_STAT_syntonised l) 0 else if run = 8 then s.raise (PX_STAT_syntonised l) else s
  | _, none => (s.setLink l { k with chi := none, syn := 0 }).set (PX_STAT_syntonised l) 0
  | none, some _ => (s.setLink l { k with chi := chi, syn := 0 })

/-- Publish the phases of link `l`; the records of that cycle take them. -/
def State.publishPhases (s : State) (l cycle : Nat) (v : Option (Nat × Nat × Nat)) : State :=
  let v := if s.on (LN_STAT_clk_valid l) ∧ s.rootLocked then v else none
  let ph := v.map (s.phases l)
  let s := match ph with
    | some x => ((s.set (PX_PHASE_TX_psi l) x.1).set (PX_PHASE_TX_valid l) 1).set (PX_PHASE_RX_chi l) x.2 |>.set (PX_PHASE_RX_valid l) 1
    | none => (s.set (PX_PHASE_TX_valid l) 0).set (PX_PHASE_RX_valid l) 0
  let k := s.linkOf l
  let s := s.setLink l { k with recs := k.recs.map fun e => if e.cycle = cycle then { e with psi := ph.map (·.1), chi := ph.map (·.2) } else e }
  s.syntonise l (ph.map (·.2))

/-- Publish the result of link `l`, and deliver the reference link's offset while the lease holds. From a loss of root lock until the
time channel has re-qualified, the published results hold (R290). -/
def State.publishResult (s : State) (l : Nat) : State :=
  match (s.linkOf l).pub with
  | none => s
  | some r =>
    let s := s.setLink l { s.linkOf l with pub := none }
    if s.on TB_STAT_cause_root then s
    else
      let s := (s.set (PX_SEQ_m l) r.m).wr64 (PX_RT_LO l) (PX_RT_HI l) (twos 64 r.rt)
      let s := (s.wr64 (PX_DELAY_LO l) (PX_DELAY_HI l) (twos 64 r.delay)).wr64 (PX_OFFSET_LO l) (PX_OFFSET_HI l) (twos 64 r.off)
      let s := s.set (PX_ASYM_USED_asym l) (twos 32 (satSigned 32 r.asym))
      if r.deliver ∧ s.on PX_REF_STAT_lease_ok ∧ s.linkDown l ∧ s.get PX_REF_STAT_link = l then
        { s with smp := { s.smp with ofs60 := some r.off, from60 := r.steps } }
      else s

/-- Link `l` publishes what its detector gave, where both beat edges were found (R277, R278). The upper links of a wide bay have no effect
(R301). -/
def State.pxPublish (s : State) (cycle : Nat) (v : List (Fin 48 × Fin 16384 × Fin 16384 × Nat)) (l : Nat) : State :=
  if s.upper l then s
  else (s.publishPhases l cycle ((v.find? fun e => e.1.val = l).map fun e => (e.2.1.val, e.2.2.1.val, e.2.2.2))).publishResult l

/-- PX_PUBLISH (R278): at t0 + 2 µs, what the detectors gave in the previous cycle: link, n_tx, n_rx, T_ref. A link without a reading found no
beat edge. -/
def execPxPublish (v : List (Fin 48 × Fin 16384 × Fin 16384 × Nat)) (s : State) : Host.Outcome State Fault Refusal :=
  whenUp s (finish ((List.range s.lanes).foldl (fun s l => s.pxPublish (s.tb.cycle - 1) v l) s))

/-! ### The lease (R295) -/

/-- A write of PX_REF_RENEW. -/
def State.leaseRenew (s : State) : State := (s.raise PX_REF_STAT_lease_ok).pxRef

/-- LEASE_EXPIRY (R295). -/
def execLeaseExpiry (s : State) : Host.Outcome State Fault Refusal :=
  finishIf (s.on PX_REF_STAT_lease_ok) s (((s.set PX_REF_STAT_lease_ok 0).raise PX_INT_STAT_lease_exp).pxRef)

/-! ### Calibration (R291, R292) -/

/-- The conditions for a calibration without command, with auto_cal = 1: a link whose calibration is not valid or is stale and whose
other fine conditions hold (syntonised at both ends, both PHASE TLVs valid, no wrap error), or a FINE link whose lid temperature has moved by
k K. The far end's calibration is not waited for (log entry 14). -/
def State.calDue (s : State) (l : Nat) : Bool :=
  let k := s.get PX_CAL_CFG_temp_k
  s.on (PX_LINK_CTRL_auto_cal l) &&
    ((decide (s.linkState l = 2) && (!s.on (PX_STAT_cal_valid l) || s.on (PX_STAT_cal_stale l)) && s.on (PX_STAT_syntonised l)
      && bitOf (s.linkOf l).far 6 && (s.linkOf l).phases && !(s.linkOf l).wrapped)
    || (decide (s.linkState l = 4) && decide (k ≠ 0) && decide (8 * k ≤ (s.lid - signed 16 (s.get (PX_CAL_Q_temp l))).natAbs)))

/-- FPL_CALIBRATION_START (R291). -/
def execFplCalibrationStart (p : Fin 48) (s : State) : Host.Outcome State Fault Refusal := finishIf (s.calDue p) s (s.linkEnter p 3)

/-- FPL_CALIBRATION_END (R291): L_tx and L_rx in 2⁻¹⁶ ns, and the residual in 0.01 ps. The outage comes after a message with calibrating = 1, which
is the first PING or PONG sent in CALIBRATING (log entry 14). -/
def execFplCalibrationEnd (p : Fin 48) (lTx lRx residual : Nat) (s : State) : Host.Outcome State Fault Refusal :=
  finishIf (decide (s.linkState p = 3) && (s.linkOf p).calTold) s (
    let s := (s.set (PX_CAL_TX_l_tx p) lTx).set (PX_CAL_RX_l_rx p) lRx
    let s := (s.set (PX_CAL_Q_residual p) (min 0xFFFF residual)).set (PX_CAL_Q_temp p) (twos 16 s.lid)
    let s := ((s.raise (PX_STAT_cal_valid p)).set (PX_STAT_cal_stale p) 0).pxCause p PX_INT_STAT_cal_done
    (s.linkEnter p 2).mbAnswerWaiting (fun q => q.opcode = 0x2101 ∧ byteAt q.payload 0 = p.val)
      (.inr (leBytes 4 lTx ++ leBytes 4 lRx ++ leBytes 2 (min 0xFFFF residual) ++ leBytes 2 (twos 16 s.lid))))

/-! ### The cycle boundary (R280, R300, R301) -/

/-- The role in force follows PX_LINK_CTRL.role; a change moves the link to WAIT. -/
def State.linkRole (s : State) (l : Nat) : State :=
  let k := s.linkOf l
  let r := match s.get (PX_LINK_CTRL_role l) with | 0 => some false | 1 => some true | _ => k.ptpRole
  if r = k.role then s
  else
    let s := (s.setLink l { k with role := r }).setB (PX_STAT_downstream l) (decide (r = some true))
    let s := s.set (PX_STAT_role_conflict l) 0
    (if s.linkUp l then s.linkWait l else s).pxRef

/-- The role of PX_LINK_CTRL: 0x3 acts as 0x2 (R301). -/
def State.roleField (s : State) (l : Nat) : Nat := min 2 (s.get (PX_LINK_CTRL_role l))

/-- The link registers of link `l`. -/
def isLinkReg (l a : Nat) : Bool := decide (PX_LINK_CTRL l ≤ a) && decide (a < PX_LINK_CTRL (l + 1))

/-- The new values of link `l` take effect: a change of role or of interval_log moves an exchanging link to WAIT (R300). -/
def State.linkChange (s : State) (l : Nat) (now : List (Nat × Word × Nat)) : State :=
  let log := s.get (PX_LINK_CTRL_interval_log l)
  let role := s.roleField l
  let src := s.asymSrc l
  let s := now.foldl (fun s e => s.wr e.1 e.2.1) s
  let s := if s.asymSrc l ≠ src then (if s.asymSrc l = 2 then s.pairRestart l else s.set (PX_STAT_asym_stale l) 0) else s
  let s := if s.linkUp l ∧ (s.get (PX_LINK_CTRL_interval_log l) ≠ log ∨ s.roleField l ≠ role) then s.linkWait l else s
  s.linkRole l

/-- The boundary of link `l`: a link whose enable has cleared sends a BYE and enters DISABLED, an enabled one leaves DISABLED for WAIT. An
upper link of a wide bay takes its values, which have no effect (R301). -/
def State.linkBoundary (s : State) (l : Nat) : State :=
  let (now, s) := s.takePend fun a => isLinkReg l a
  if s.upper l then now.foldl (fun s e => s.wr e.1 e.2.1) s
  else
    let s := if now.isEmpty then s else s.linkChange l now
    if s.linkState l ≠ 0 ∧ ¬ s.on (PX_LINK_CTRL_enable l) then
      let s := if s.portOff l then s else s.fplOther l 3 []
      let s := s.setLink l { s.linkOf l with recs := [], pub := none }
      s.linkEnter l 0
    else if s.linkState l = 0 ∧ s.on (PX_LINK_CTRL_enable l) then s.linkEnter l 1
    else s

/-- The PX part of the cycle boundary. -/
def State.pxBoundary (s : State) : State :=
  let s := (List.range s.lanes).foldl State.linkBoundary s
  let s := s.applyPend fun a => decide (0x746000 ≤ a) && decide (a < 0x747000)
  (s.set PX_REF_STAT_link (s.get PX_REF_link)).pxRef

/-! ### Mailbox -/

/-- The check of a port number: below 48, present. -/
def State.portCheck (s : State) (p : Nat) : Option Nat := if 47 < p then some badParam else if s.lanes ≤ p then some noInstance else none

/-- The port belongs to the PTP instance, and uses peer delay (R6, R302). -/
def State.ptpPort (s : State) (p : Nat) : Bool := (s.ptp.ports.get none p).isSome
def State.pdelay (s : State) (p : Nat) : Bool := match s.ptp.ports.get none p with | some x => decide (x.delay = 2) | none => false

/-- PX_LINK_ENABLE (R302). -/
def execPxLinkEnable (n : Fin 4) (s : State) : Host.Outcome State Fault Refusal :=
  s.mbRow n 0x2100 fun r s =>
    let b := r.payload
    let p := byteAt b 0
    if b.length ≠ 8 then .reject badLength
    else match s.portCheck p with
    | some e => .reject e
    | none =>
      if 1 < byteAt b 1 ∨ 3 < byteAt b 2 ∨ 7 < byteAt b 3 ∨ 1 < byteAt b 4 ∨ leAt b 5 3 ≠ 0 then .reject badParam
      else if byteAt b 1 = 1 ∧ s.pdelay p then .reject 0x0100
      else if 2 ≤ byteAt b 2 ∧ ¬ s.ptpPort p then .reject 0x0101
      else
        let s := (s.put (PX_LINK_CTRL_enable p) (byteAt b 1)).put (PX_LINK_CTRL_role p) (byteAt b 2)
        let s := (s.put (PX_LINK_CTRL_interval_log p) (byteAt b 3)).put (PX_LINK_CTRL_auto_cal p) (byteAt b 4 % 2)
        .ok [] (s.put (PR_PORT_CFG_fpl_trap p) 1)

/-- PX_CALIBRATE (R303): it answers when the calibration ends. -/
def execPxCalibrate (n : Fin 4) (s : State) : Host.Outcome State Fault Refusal :=
  s.mbRow n 0x2101 fun r s =>
    let p := byteAt r.payload 0
    if r.payload.length ≠ 4 then .reject badLength
    else match s.portCheck p with
    | some e => .reject e
    | none =>
      if leAt r.payload 1 3 ≠ 0 then .reject badParam
      else if s.linkState p = 3 then .reject 0x0103
      else if s.linkState p = 2 ∨ s.linkState p = 4 then .later (s.linkEnter p 3)
      else .reject badState

/-- PX_GET_LINK (R304). -/
def execPxGetLink (n : Fin 4) (s : State) : Host.Outcome State Fault Refusal :=
  s.mbRow n 0x2102 fun r s =>
    let p := byteAt r.payload 0
    if r.payload.length ≠ 4 then .reject badLength
    else match s.portCheck p with
    | some e => .reject e
    | none => if leAt r.payload 1 3 ≠ 0 then .reject badParam else
      let fl := s.get (PX_STAT_downstream p) + 2 * s.get (PX_STAT_syntonised p) + 4 * s.get (PX_STAT_cal_valid p)
        + 8 * s.get (PX_STAT_cal_stale p) + 16 * s.get (PX_STAT_far_suspect p) + 32 * s.get (PX_STAT_asym_stale p)
      .ok (leBytes 1 (s.linkState p) ++ leBytes 1 fl ++ leBytes 2 (s.get (PX_FAR_node p)) ++ leBytes 1 (s.get (PX_FAR_port p))
        ++ leBytes 1 (s.linkOf p).src ++ leBytes 2 (s.get (PX_SEQ_m p)) ++ leBytes 8 (s.rd64 (PX_RT_LO p) (PX_RT_HI p))
        ++ leBytes 8 (s.rd64 (PX_DELAY_LO p) (PX_DELAY_HI p)) ++ leBytes 8 (twos 64 (signed 32 (s.get (PX_ASYM_USED_asym p))))
        ++ leBytes 8 (s.rd64 (PX_OFFSET_LO p) (PX_OFFSET_HI p)) ++ leBytes 4 (s.rd (PX_FREQ p)).toNat
        ++ leBytes 2 (s.get (PX_CAL_Q_residual p)) ++ leBytes 2 (s.linkOf p).lasting) s

/-- w(λ) in 2⁻⁸ nm², from λ and λ0 in 0.01 nm (R294). -/
def weight (l l0 : Nat) : Nat :=
  let d := ((l : Int) * l - (l0 : Int) * l0).natAbs
  d * d * 256 / (10000 * l * l)

/-- PX_SET_ASYM (R305). -/
def execPxSetAsym (n : Fin 4) (s : State) : Host.Outcome State Fault Refusal :=
  s.mbRow n 0x2103 fun r s =>
    let b := r.payload
    let x := byteAt b 0
    let y := byteAt b 2
    let mode := byteAt b 1
    let l0 := if leAt b 24 4 = 0 then 131000 else leAt b 24 4
    let w := fun (i : Nat) => weight (leAt b i 4) l0
    let bad := fun (i : Nat) => decide (leAt b i 4 < 125000) || decide (165000 < leAt b i 4)
    if b.length ≠ 28 then .reject badLength
    else match s.portCheck x with
    | some e => .reject e
    | none =>
      if 2 < mode ∨ byteAt b 3 ≠ 0 then .reject badParam
      else if mode = 0 then .ok [] (s.put (PX_LINK_CTRL_asym_src x) 0)
      else if mode = 1 then .ok [] ((s.putW (PX_LINK_ASYM x) (leAt b 4 4)).put (PX_LINK_CTRL_asym_src x) 1)
      else match s.portCheck y with
      | some e => .reject e
      | none =>
        let den := ((w 12 + w 8 : Nat) : Int) - ((w 20 + w 16 : Nat) : Int)
        if bad 8 ∨ bad 12 ∨ bad 16 ∨ bad 20 then .reject badParam
        else if x = y ∨ ¬ (s.linkState x ≠ 0 ∧ s.linkDown x) ∨ ¬ (s.linkState y ≠ 0 ∧ s.linkDown y) ∨ den.natAbs < 256000 then .reject 0x0102
        else
          let give := fun (s : State) (l other tx rx : Nat) =>
            let s := (s.putW (PX_WL_TX l) (w tx)).putW (PX_WL_RX l) (w rx)
            (s.putW (PX_PAIR l) (other + 2 ^ 31)).put (PX_LINK_CTRL_asym_src l) 2
          .ok [] (give (give s x y 8 12) y x 16 20)

end Sys2Proof.Machine
end

