-- ==== Sys2Proof/Machine/Mp.lean ====
section
/-! DEFINITION. The management processor's restart: its causes, what stops at its beginning, and the watchdog (R29, R451, R462). The start
that ends a restart stands in Boot.lean. -/

namespace Sys2Proof.Machine

/-- When mp_running falls, a port whose next LACPDU fell due during the hang sends it at once (R29, R408). -/
def State.lacpCatchUp (s : State) : State :=
  (List.range s.lanes).foldl (fun s p => if s.lacpOverdue p then s.lacpNow p else s) s

/-- An MP restart begins, or joins one in progress (R29): 1 watchdog, 2 SYS_RESET.mp, 3 firmware revert, 4 MP SRAM code row (R462). What the
MP had under way in its own SRAM ends. -/
def State.mpRestart (s : State) (cause : Nat) : State :=
  if s.mp.restarting then s
  else
    let s := (s.inc HL_WDOG_restarts).set HL_WDOG_last_cause cause
    let ran := s.on MB_EPOCH_mp_running
    let s := s.set MB_EPOCH_mp_running 0
    let s := { s with mp := { s.mp with hung := false, restarting := true }, hl := { s.hl with i2c := [] } }
    if ran then s.lacpCatchUp else s

/-- MP_HANG (R29): the firmware stops serving. -/
def execMpHang (s : State) : Host.Outcome State Fault Refusal :=
  finishIf s.mpRuns s { s with mp := { s.mp with hung := true } }

/-- The watchdog restarts of the last hour, this one included, in core clocks. -/
def State.wdogHour (s : State) : List Nat := s.hl.wdog.filter (fun t => decide (s.clk < t + 3600 * 1250000000)) ++ [s.clk]

/-- A watchdog restart is a lasting fault; a third within 1 h holds fault 0x0F (R446, R462). -/
def State.wdogRestart (s : State) : State :=
  let s := s.hlLasting 0x0F 0 0xFFFF 0
  let s := { s with hl := { s.hl with wdog := s.wdogHour } }
  let s := if 3 ≤ s.hl.wdog.length then (s.hlHold 0x0F 0).twSelfFault else s
  s.mpRestart 1

/-- MP_WATCHDOG_EXPIRY (R29): the firmware has not served the watchdog for 200 ms. An expiry while a restart is in progress joins it. -/
def execMpWatchdogExpiry (s : State) : Host.Outcome State Fault Refusal :=
  finishIf (!s.mpRuns && !s.mp.restarting) s s.wdogRestart

end Sys2Proof.Machine
end

