-- ==== Sys2Proof/Machine/Fu.lean ====
section
/-! DEFINITION. The firmware update (R418 to R444): package checks, staging, verification, the slot pointer, activation by handover or reset,
trial, confirmation and revert. What the loader does at a start stands in Boot.lean. -/

namespace Sys2Proof.Machine

/-! ### Registers and the slot pointer (R427, R437) -/

/-- The image in a slot passes checks 2 to 6 of R422 and its hash matches (R428). The factory's image passes by its origin; the security
version and the revocation of key 0 apply to it too. -/
def State.bootable (s : State) (k : Nat) : Bool :=
  let x := s.fwSlot k
  match x.header with
  | none => false
  | some h =>
    let key := byteAt h 7
    let common := decide (s.fu.otp ≤ byteAt h 16) && !(s.fu.revoked && decide (key = 0))
    if x.factory then common
    else
      common && decide (leAt h 8 2 = s.partCode) && decide (leAt h 20 6 = (match s.variant with | .fh4848 => s.unit.serial | .fh4824 => 0))
        && decide (key < 2) && decide (beBytes 48 (sha384 (slice h 144 97)) = (if key = 0 then s.unit.key0 else s.unit.key1))
        && ecdsaOk (slice h 144 97) (slice h 256 96) (h.take 256) && decide (beBytes 48 (sha384 x.image) = slice h 48 48)

/-- The winning slot pointer record and its block (R427). -/
def State.winner (s : State) : Option (Nat × PtrRec) :=
  match s.fu.ptr0, s.fu.ptr1 with
  | some a, some b => if laterGen b.gen a.gen then some (1, b) else some (0, a)
  | some a, none => some (0, a)
  | none, some b => some (1, b)
  | none, none => none

/-- A lasting NOR write failure: fault 0x10 and flash_fail (R427, R445). -/
def State.flashFault (s : State) : State := (s.hlLasting 0x10 0 0xFFFF 0).raise FU_INT_STAT_flash_fail

/-- Write a slot pointer record with the next generation into the block that does not hold the winner. `flash` tells whether the write, or
its retry, succeeds; a failed write leaves that block invalid. -/
def State.writePtr (s : State) (flash : Bool) (r : PtrRec) : State :=
  let gen := match s.winner with | some w => (w.2.gen + 1) % 2 ^ 32 | none => 1
  let new := if flash then some { r with gen := gen } else none
  let s := match s.winner with
    | some (0, _) => { s with fu := { s.fu with ptr1 := new } }
    | _ => { s with fu := { s.fu with ptr0 := new } }
  if flash then s else s.flashFault

/-- The block of the slot pointer that does not hold the winner is erased (R430). -/
def State.erasePtr (s : State) : State :=
  match s.winner with
  | some (0, _) => { s with fu := { s.fu with ptr1 := none } }
  | _ => { s with fu := { s.fu with ptr0 := none } }

/-- The running image is on trial: the winner says so of the slot that runs. -/
def State.onTrial (s : State) : Bool :=
  match s.winner with
  | some w => w.2.trial && decide (w.2.active = s.fu.running)
  | none => false

/-- The trial window left in s, rounded up. -/
def State.trialLeft (s : State) : Nat :=
  match s.winner with
  | some w => if s.onTrial then (s.fu.trialClk + w.2.window * 1250000000 - s.clk + 1249999999) / 1250000000 else 0
  | none => 0

/-- The inactive slot. -/
def State.inactive (s : State) : Nat := if s.fu.running = 0 then 1 else 0

/-- The release in a slot, major in bits [31:24]. -/
def FwSlot.release (x : FwSlot) : Nat := match x.header with | some h => beAt h 12 4 | none => 0

/-- FU_OTP and FU_SVN_SLOTS follow the OTP and the slots. -/
def State.fuSlots (s : State) : State :=
  let s := (s.set FU_OTP_svn s.fu.otp).setB FU_OTP_key0_revoked s.fu.revoked
  let s := (s.set FU_SVN_SLOTS_svn_a (s.fu.slotA.fld 16 1)).setB FU_SVN_SLOTS_valid_a (s.bootable 0)
  (s.set FU_SVN_SLOTS_svn_b (s.fu.slotB.fld 16 1)).setB FU_SVN_SLOTS_valid_b (s.bootable 1)

/-- The other FU registers follow the running image and the pointer; while the MP is stopped they hold their values. -/
def State.fuRegs (s : State) : State :=
  let s := (s.setB FU_STAT_recovery (s.fu.running = 0xFF)).set FU_STAT_running_slot (s.fu.running % 2 * flag (decide (s.fu.running < 2)))
  let s := (s.setB FU_STAT_trial s.onTrial).set FU_STAT_boots (match s.winner with | some w => if s.onTrial then w.2.boots else 0 | none => 0)
  let s := s.set FU_VER_RUN_release (if s.fu.running < 2 then (s.fwSlot s.fu.running).release else 0)
  s.fuSlots.set FU_VER_OTHER_release (if s.bootable s.inactive then (s.fwSlot s.inactive).release else 0)

/-- The update enters a state of R426, which the NOR keeps. -/
def State.fuState (s : State) (st : Nat) : State := { s with fu := { s.fu with upd := st } }.set FU_STAT_state st

/-- The staging area is cleared. -/
def State.stagingClear (s : State) : State := { s with fu := { s.fu with staged := none, blocks := [] } }

/-- The update ends: IDLE with a result. -/
def State.fuIdle (s : State) (result : Nat) : State := (s.stagingClear.fuState 0).set FU_STAT_last_result result

/-! ### The checks of R422 -/

/-- Check 1: magic, version, kind, reserved bytes and flag bits, and lengths in range. -/
def headerOk (h : Bytes) : Bool :=
  let z := fun i n => (slice h i n).all (· = 0)
  let body := leAt h 28 4
  decide (leAt h 0 4 = 0x4C4F4C50) && decide (leAt h 4 2 = 1) && decide (byteAt h 6 ≤ 1) && z 17 3 && z 26 2 && z 241 15 && z 352 672
    && decide (leAt h 10 2 < 4) && decide (1 ≤ body) && decide (body ≤ 16777216) && decide (leAt h 32 4 = (body + 65535) / 65536)
    && decide (1 ≤ leAt h 36 4) && decide (leAt h 36 4 ≤ 16776192) && decide (leAt h 40 4 ≤ 2621440)

/-- The key that a header names is a key of the OTP and not revoked (check 5). -/
def State.keyOk (s : State) (h : Bytes) : Bool :=
  match byteAt h 7 with
  | 0 => !s.fu.revoked && decide (beBytes 48 (sha384 (slice h 144 97)) = s.unit.key0)
  | 1 => decide (beBytes 48 (sha384 (slice h 144 97)) = s.unit.key1)
  | _ => false

/-- The image_hash in the running slot's header; the recovery loader has none (R436). -/
def State.baseHash (s : State) : Option Bytes :=
  if s.fu.running < 2 then (s.fwSlot s.fu.running).header.map fun h => slice h 48 48 else none

/-- The checks in order: the reason of the first that fails. -/
def State.fuCheck (s : State) (h : Bytes) : Option Nat :=
  if ¬ headerOk h then some 0x0100
  else if leAt h 8 2 ≠ s.partCode then some 0x0101
  else if leAt h 20 6 ≠ (match s.variant with | .fh4848 => s.unit.serial | .fh4824 => 0) then some 0x0102
  else if byteAt h 16 < s.fu.otp then some 0x0103
  else if ¬ s.keyOk h then some 0x0104
  else if ¬ ecdsaOk (slice h 144 97) (slice h 256 96) (h.take 256) then some 0x0105
  else if byteAt h 6 = 1 ∧ s.baseHash ≠ some (slice h 96 48) then some 0x0106
  else if s.schema < leAt h 46 2 ∨ leAt h 44 2 < s.schema then some 0x0107
  else none

/-! ### FU_BEGIN and FU_BLOCK (R421, R438, R439) -/

/-- Blocks of the staged package. -/
def State.fuBlocks (s : State) : Nat := match s.fu.staged with | some h => leAt h 32 4 | none => 0

/-- Bytes of block `i` of the staged package. -/
def State.blockLen (s : State) (i : Nat) : Nat :=
  match s.fu.staged with | some h => min 65536 (leAt h 28 4 - 65536 * i) | none => 0

/-- A block is being programmed. -/
def State.programming (s : State) : Bool := s.mbWaits fun r => r.opcode = 0x4001

/-- FU_BEGIN (R438). A block that is being programmed holds the staging area (R69). -/
def execFuBegin (n : Fin 4) (s : State) : Host.Outcome State Fault Refusal :=
  s.mbRow n 0x4000 fun r s =>
    let h := r.payload
    if h.length ≠ 1024 then .reject badLength
    else if ¬ [0, 1, 3].contains s.fu.upd ∨ s.on FU_STAT_otp_pending then .reject badState
    else match s.fuCheck h with
    | some e => .reject e
    | none =>
      if s.programming then .busy 400000
      else
        let store := match s.record s.schema with | some x => [x] | none => []
        let s := { s with fu := { s.fu with staged := some h, blocks := [], store := store } }.fuState 1
        .ok (leBytes 4 (leAt h 32 4) ++ bytes [s.inactive, 0, 0, 0]) s

/-- Store block `i`. -/
def State.setBlock (s : State) (i : Nat) (b : Option FwBlock) : State :=
  { s with fu := { s.fu with blocks := s.fu.blocks.put none i b } }

/-- Has block `i` its received mark? -/
def State.received (s : State) (i : Nat) : Bool := match s.fu.blocks.get none i with | some b => b.received | none => false

/-- FU_BLOCK (R439): the CRC of the block is recorded and its programming begins. -/
def execFuBlock (n : Fin 4) (s : State) : Host.Outcome State Fault Refusal :=
  s.mbRow n 0x4001 fun r s =>
    let i := leAt r.payload 0 4
    let crc := leAt r.payload 4 4
    let data := r.payload.drop 8
    if r.payload.length < 8 then .reject badLength
    else if s.fu.upd ≠ 1 then .reject badState
    else if s.fuBlocks ≤ i ∨ data.length ≠ s.blockLen i then .reject badParam
    else if crc32c data ≠ crc then .reject 0x0108
    else if s.programming then .busy 400000
    else .later (s.setBlock i (some ⟨crc, none, false⟩))

/-- BLOCK_PROGRAM_END (R421): the block that mailbox `n` brought has been erased, programmed and read back; `ok` tells that its CRC agrees. -/
def execBlockProgramEnd (n : Fin 4) (ok : Bool) (s : State) : Host.Outcome State Fault Refusal :=
  match (s.mb n).taken with
  | none => .next s
  | some r => finishIf ((s.mb n).waiting && decide (r.opcode = 0x4001) && decide (s.mbState n = mbTaken) && s.mpRuns) s (
      let i := leAt r.payload 0 4
      let crc := leAt r.payload 4 4
      if ok then (s.setBlock i (some ⟨crc, some (r.payload.drop 8), true⟩)).mbAnswer n r 0 0 0 []
      else s.flashFault.mbReject n r 0x010D)

/-! ### FU_VERIFY (R420, R425, R440) -/

/-- Build the target image of a delta body from the base image; none where a record is wrong or the output exceeds the limit. -/
def buildImage (base : Bytes) (limit : Nat) : Nat → Bytes → Bytes → Option Bytes
  | 0, _, _ => none
  | n + 1, b, out =>
    let len := leAt b 4 4
    match byteAt b 0 with
    | 1 =>
      let off := leAt b 8 4
      if b.length < 12 ∨ base.length < off + len ∨ limit < out.length + len then none
      else buildImage base limit n (b.drop 12) (out ++ slice base off len)
    | 2 =>
      if b.length < 8 + len ∨ limit < out.length + len then none
      else buildImage base limit n (b.drop (8 + (len + 3) / 4 * 4)) (out ++ slice b 8 len)
    | 3 => some out
    | _ => none

/-- The body in the staging area. -/
def State.stagedBody (s : State) : Bytes :=
  ((List.range s.fuBlocks).map fun i => match s.fu.blocks.get none i with | some b => b.data.getD [] | none => []).flatten

/-- Block `i` is received and passes its CRC. -/
def State.blockGood (s : State) (i : Nat) : Bool :=
  match s.fu.blocks.get none i with
  | some b => b.received && (match b.data with | some d => decide (crc32c d = b.crc) | none => false)
  | none => false

/-- The target image of the staged package with header `h`, where it can be built and its hash matches. -/
def State.target (s : State) (h : Bytes) : Option Bytes :=
  let body := s.stagedBody
  let limit := leAt h 36 4
  let image := if byteAt h 6 = 0 then (if body.length ≤ limit then some body else none)
    else buildImage (s.fwSlot s.fu.running).image limit (body.length + 1) body []
  match image with
  | some x => if beBytes 48 (sha384 x) = slice h 48 48 then some x else none
  | none => none

/-- Store a slot. -/
def State.setSlot (s : State) (k : Nat) (x : FwSlot) : State :=
  { s with fu := if k = 0 then { s.fu with slotA := x } else { s.fu with slotB := x } }

/-- The inactive slot's header is erased, so that it can no longer boot. -/
def State.eraseHeader (s : State) : State :=
  (s.setSlot s.inactive { s.fwSlot s.inactive with header := none }).fuSlots.set FU_VER_OTHER_release 0

/-- FU_VERIFY (R440). -/
def execFuVerify (n : Fin 4) (s : State) : Host.Outcome State Fault Refusal :=
  s.mbRow n 0x4002 fun r s =>
    if r.payload.length ≠ 0 then .reject badLength
    else if s.fu.upd = 2 ∨ s.fu.upd = 3 then .ok [] s
    else if s.fu.upd ≠ 1 then .reject badState
    else if (List.range s.fuBlocks).any fun i => !s.received i then .reject 0x0109
    else if s.programming then .busy 400000
    else .ok [] ((s.eraseHeader.fuState 2).set FU_STAT_progress 0)

/-- Verification fails: the update returns to RECEIVING with every block kept (R426). -/
def State.verifyFails (s : State) (result : Nat) : State :=
  ((s.fuState 1).raise FU_INT_STAT_verify_fail).set FU_STAT_last_result result

/-- FU_VERIFY_COMPLETE (R425): the checks of R422 on the staged header, every block, the target image and its hash; `flash` tells whether the
slot could be written. -/
def execFuVerifyComplete (flash : Bool) (s : State) : Host.Outcome State Fault Refusal :=
  finishIf (s.mpRuns && decide (s.fu.upd = 2)) s (
    match s.fu.staged with
    | none => s.verifyFails 6
    | some h =>
      let image := if s.fuCheck h = none ∧ (List.range s.fuBlocks).all s.blockGood then s.target h else none
      match image with
      | none => s.verifyFails 6
      | some x =>
        if ¬ flash then s.flashFault.verifyFails 9
        else (((s.setSlot s.inactive ⟨some h, x, false⟩).fuState 3).set FU_STAT_progress 100).fuRegs.raise FU_INT_STAT_verify_done)

/-! ### Activation (R429 to R432, R441) -/

/-- The record that the commit of an activation writes. -/
def State.commitRec (s : State) (window : Nat) : PtrRec :=
  ⟨0, s.inactive, true, 1, if s.fu.running < 2 then s.fu.running else 0xFF, window, s.get FU_STAT_last_result⟩

/-- FU_ACTIVATE (R441). A handover stops the stacks, with the PX lease renewed; a reset commits the pointer and resets the module 100 ms after
DONE. `flash` tells whether the pointer write of mode 0x1 succeeds. -/
def execFuActivate (n : Fin 4) (flash : Bool) (s : State) : Host.Outcome State Fault Refusal :=
  s.mbRow n 0x4003 fun r s =>
    let mode := byteAt r.payload 0
    let w := leAt r.payload 4 4
    let window := if w = 0 then 600 else w
    let flags := (s.fwSlot s.inactive).fld 10 2
    if r.payload.length ≠ 8 then .reject badLength
    else if 1 < mode ∨ leAt r.payload 1 3 ≠ 0 ∨ window < 60 ∨ 86400 < window then .reject badParam
    else if s.fu.upd ≠ 3 then .reject badState
    else if mode = 0 then
      if ¬ bitOf flags 0 ∨ s.fu.running = 0xFF then .reject 0x010C
      else if ¬ s.bootable s.inactive then .reject 0x010A
      else .later ({ s with fu := { s.fu with act := some window, pause := some s.clk } }.erasePtr.leaseRenew.set FU_STAT_state 4)
    else
      let s := s.writePtr flash (s.commitRec window)
      if ¬ flash then .failed 0x010D s
      else .ok [] ({ s with fu := { s.fu with upd := 5, resetDue := true } }.raise FU_INT_STAT_activated |>.set FU_STAT_state 4)

/-- The new image commits: its settings record, migrated from the old one, then the pointer record; the stacks restart and FU_ACTIVATE is
answered (R430). -/
def State.handoverCommit (s : State) (window : Nat) : State :=
  let old := s.record s.schema
  let new := (s.fwSlot s.inactive).fld 44 2
  let s := match old with
    | some r => if r.schema = new then s else s.writeRecord new r.data
    | none => s
  let rec' := s.commitRec window
  let s := s.writePtr true rec'
  let s := { s with fu := { s.fu with running := rec'.active, act := none, pause := none, trialClk := s.clk } }
  let s := ((s.fuState 5).fuRegs).raise FU_INT_STAT_activated
  s.mbAnswerWaiting (fun q => q.opcode = 0x4003) (.inr [])

/-- The old image resumes: it answers with the reason, erases records of newer schemas and logs the event. The spec gives the event no source
code: the record carries a free one (log entry 2). -/
def State.handoverReturn (s : State) (result reason : Nat) : State :=
  let (code, s) := s.draw 8
  let k := s.schema
  let s := { s with fu := { s.fu with act := none, pause := none, store := s.fu.store.filter fun r => decide (r.schema ≤ k) } }
  let s := ((s.fuState 3).set FU_STAT_last_result result).hlLog code 2 0 0xFFFF 0
  s.mbAnswerWaiting (fun q => q.opcode = 0x4003) (.inl reason)

/-- HANDOVER_PAUSE_END (R430): `migrate` tells whether the settings migrate, `flash` whether the settings and pointer records are written. -/
def execHandoverPauseEnd (migrate flash : Bool) (s : State) : Host.Outcome State Fault Refusal :=
  match s.fu.act with
  | none => .next s
  | some window => finishIf (s.mpRuns && s.fu.pause.isSome) s (
      if ¬ migrate then s.handoverReturn 4 0x010B
      else if ¬ flash then s.flashFault.handoverReturn 9 0x010D
      else s.handoverCommit window)

/-! ### Trial, confirmation and abort (R434, R435, R442 to R444) -/

/-- Burn the OTP to the version of the running image, and the revocation bit where the image asks for it. `burn` tells whether the burn, or
its retry, succeeds. -/
def State.otpBurn (s : State) (burn : Bool) : State :=
  let x := s.fwSlot s.fu.running
  let svn := min 127 (x.fld 16 1)
  let revoke := decide (x.fld 7 1 = 1) && bitOf (x.fld 10 2) 1
  if s.fu.otp < svn ∨ (revoke ∧ ¬ s.fu.revoked) then
    if burn then { s with fu := { s.fu with otp := max s.fu.otp svn, revoked := s.fu.revoked || revoke } }.set FU_STAT_otp_pending 0
    else (s.raise FU_STAT_otp_pending).raise FU_INT_STAT_otp_fail
  else s.set FU_STAT_otp_pending 0

/-- The running image is confirmed. -/
def State.confirmed (s : State) : Bool :=
  match s.winner with
  | some w => !w.2.trial && decide (w.2.result = 1) && decide (w.2.active = s.fu.running)
  | none => false

/-- FU_CONFIRM (R435, R442). -/
def execFuConfirm (n : Fin 4) (flash burn : Bool) (s : State) : Host.Outcome State Fault Refusal :=
  s.mbRow n 0x4004 fun r s =>
    let data := fun (s : State) => bytes [s.fu.otp, 0, 0, 0]
    if r.payload.length ≠ 0 then .reject badLength
    else if s.fu.upd = 5 ∧ s.onTrial then
      match s.winner with
      | none => .reject badState
      | some w =>
        let s := s.writePtr flash { w.2 with trial := false, boots := 0, result := 1 }
        if ¬ flash then .failed 0x010D s
        else
          let s := ((s.otpBurn burn).fuIdle 1).fuRegs.raise FU_INT_STAT_confirmed
          .ok (data s) { s with fu := { s.fu with revertDue := false } }
    else if s.confirmed then .ok (data s) s
    else .reject badState

/-- FU_STATUS (R443). -/
def execFuStatus (n : Fin 4) (s : State) : Host.Outcome State Fault Refusal :=
  s.mbRow n 0x4005 fun r s =>
    if r.payload.length ≠ 0 then .reject badLength
    else
      let have' := (List.range s.fuBlocks).filter s.received
      let missing := match (List.range s.fuBlocks).find? fun i => !s.received i with | some i => i | none => 0xFFFFFFFF
      let staged := fun i n => match s.fu.staged with | some h => slice h i n | none => zeros n
      .ok (bytes [s.get FU_STAT_state, s.get FU_STAT_last_result,
          s.get FU_STAT_trial + 2 * s.get FU_STAT_running_slot + 4 * s.get FU_STAT_otp_pending + 8 * s.get FU_STAT_recovery,
          s.get FU_STAT_boots]
        ++ leBytes 4 s.trialLeft ++ leBytes 4 s.fuBlocks ++ leBytes 4 have'.length ++ leBytes 4 missing
        ++ bytes [s.get FU_STAT_progress, s.fu.otp] ++ staged 16 1 ++ bytes [0] ++ staged 12 4
        ++ beBytes 4 (s.get FU_VER_RUN_release) ++ beBytes 4 (s.get FU_VER_OTHER_release) ++ leBytes 2 s.schema ++ staged 44 2) s

/-- FU_ABORT (R444). The table gives no effect in ACTIVATING: the state does not allow it. -/
def execFuAbort (n : Fin 4) (s : State) : Host.Outcome State Fault Refusal :=
  s.mbRow n 0x4006 fun r s =>
    if r.payload.length ≠ 0 then .reject badLength
    else if s.get FU_STAT_state = 4 then .reject badState
    else match s.fu.upd with
    | 0 => .ok [] s
    | 5 => .ok [] { s with fu := { s.fu with revertDue := true } }
    | _ => if s.programming then .busy 400000 else .ok [] ((s.fuIdle 7).set FU_STAT_progress 0)

/-- A running trial image reverts: it writes the pointer record and restarts the MP (R434). -/
def State.revert (s : State) (flash : Bool) (result : Nat) : State :=
  let s := { s with fu := { s.fu with revertDue := false } }
  match s.winner with
  | none => s
  | some w =>
    let s := s.writePtr flash { w.2 with active := w.2.fallback, trial := false, boots := 0, result := result }
    if flash then ((s.fuIdle result).raise FU_INT_STAT_reverted).mpRestart 3 else s

/-- TRIAL_WINDOW_EXPIRY (R434). -/
def execTrialWindowExpiry (flash : Bool) (s : State) : Host.Outcome State Fault Refusal :=
  finishIf (s.mpRuns && s.onTrial && decide (s.fu.upd = 5)) s (s.revert flash 2)

/-- ABORT_REVERT (R444): 100 ms after FU_ABORT in TRIAL is DONE. -/
def execAbortRevert (flash : Bool) (s : State) : Host.Outcome State Fault Refusal :=
  finishIf (s.mpRuns && s.fu.revertDue && s.onTrial && decide (s.fu.upd = 5)) s (s.revert flash 8)

end Sys2Proof.Machine
end

