-- ==== Sys2Proof/Machine/Grammar.lean ====
section
/-! DEFINITION. The factory grammar and key profiles, which the MP writes at each first boot (R125 to R127, R202). -/

namespace Sys2Proof.Machine

/-- A field of R114: offset, bit offset, width. -/
def fieldWord (f : Nat × Nat × Nat) : Nat := f.1 + f.2.1 * 2 ^ 8 + f.2.2 % 32 * 2 ^ 11

/-- A clause as R126 describes it: fixed length; length field with scale and added bytes; claimed-length field with its mode (1 exact, 2 within) and
added bytes; accept_on_miss; sys_class, where PTP and FPL make the frame Class T; key; nouns with their slots; entries of value, mask, next
clause and accept. -/
structure FactoryClause where
  fixed : Nat := 0
  len : Option ((Nat × Nat × Nat) × Nat × Nat) := none
  check : Option (Nat × (Nat × Nat × Nat) × Nat) := none
  miss : Bool := false
  sys : Nat := 0
  key : Option (Nat × Nat × Nat) := none
  nouns : List ((Nat × Nat × Nat) × Nat) := []
  next : List (Nat × Nat × Nat × Bool) := []

/-- Words 0 to 3 of a clause (R116). -/
def FactoryClause.head (c : FactoryClause) : List Nat :=
  [c.fixed + flag c.len.isSome * 2 ^ 8 + flag c.miss * 2 ^ 9 + flag (decide (c.sys = 1 ∨ c.sys = 2)) * 2 ^ 10 + c.sys * 2 ^ 11
     + (match c.check with | some k => k.1 | none => 0) * 2 ^ 14,
   match c.len with | some l => fieldWord l.1 + l.2.1 * 2 ^ 16 + l.2.2 * 2 ^ 19 | none => 0,
   match c.check with | some k => fieldWord k.2.1 + k.2.2 * 2 ^ 16 | none => 0,
   match c.key with | some k => fieldWord k + 2 ^ 16 | none => 0]

/-- The 64 words of a clause (R116). -/
def FactoryClause.words (c : FactoryClause) : List Word :=
  let nouns := (List.range 8).map fun n => match c.nouns[n]? with | some x => fieldWord x.1 + x.2 * 2 ^ 16 + 2 ^ 31 | none => 0
  let ends := (List.range 16).map fun e =>
    match c.next[e]? with | some x => [x.1, x.2.1, x.2.2.1 + flag x.2.2.2 * 2 ^ 6 + 2 ^ 7] | none => [0, 0, 0]
  (c.head ++ nouns ++ [0, 0, 0, 0] ++ ends.flatten).map fun v => BitVec.ofNat 32 v

/-- The EtherTypes of clause 0, with the clause that a VLAN tag leads to. -/
def etherNext (tag : Nat) : List (Nat × Nat × Nat × Bool) :=
  [(0x8100, tag), (0x88A8, tag), (0x8847, 3), (0x0800, 5), (0x86DD, 6), (0xAEFE, 10), (0x88F7, 11), (0x88B5, 12), (0x8809, 13)].map
    fun e => (e.1, 0xFFFF, e.2, false)

/-- What follows the IPv6 fixed header or an extension header. -/
def ipv6Next : List (Nat × Nat × Nat × Bool) :=
  [(0, 7), (43, 7), (44, 7), (60, 7), (17, 8), (6, 9)].map fun e => (e.1, 0xFF, e.2, false)

/-- Clauses 0 to 4: Ethernet, the two tags and the labels. -/
def clausesL2 : List FactoryClause :=
  [{ fixed := 14, miss := true, key := some (12, 0, 16), next := etherNext 1
     nouns := [((0, 0, 32), 0), ((4, 0, 16), 1), ((6, 0, 32), 2), ((10, 0, 16), 3), ((12, 0, 16), 6)] },
   { fixed := 4, miss := true, key := some (2, 0, 16), next := etherNext 2, nouns := [((0, 0, 16), 4), ((2, 0, 16), 6)] },
   { fixed := 4, miss := true, key := some (2, 0, 16), next := etherNext 63, nouns := [((0, 0, 16), 5), ((2, 0, 16), 6)] },
   { fixed := 4, key := some (2, 7, 1), next := [(0, 1, 4, false), (1, 1, 0, true)], nouns := [((0, 0, 32), 7)] },
   { fixed := 4, key := some (2, 7, 1), next := [(0, 1, 4, false), (1, 1, 0, true)] }]

/-- Clauses 5 to 9: IPv4, the IPv6 addresses and extensions, UDP and TCP. Slot 18 takes the TTL: DSCP and ECN do not lie beside it in the header
(log entry 19). -/
def clausesL3 : List FactoryClause :=
  [{ len := some ((0, 4, 4), 2, 0), check := some (1, (2, 0, 16), 0), miss := true, key := some (9, 0, 8)
     next := [(17, 0xFF, 8, false), (6, 0xFF, 9, false)]
     nouns := [((12, 0, 32), 11), ((16, 0, 32), 15), ((9, 0, 8), 17), ((8, 0, 8), 18), ((8, 0, 8), 23)] },
   { key := some (0, 0, 4), next := [(6, 0xF, 16, false)], nouns := (List.range 8).map fun i => ((8 + 4 * i, 0, 32), 8 + i) },
   { len := some ((1, 0, 8), 3, 8), miss := true, key := some (0, 0, 8), next := ipv6Next, nouns := [((0, 0, 8), 17)] },
   { fixed := 8, check := some (1, (4, 0, 16), 0), miss := true, key := some (2, 0, 16)
     next := [(319, 0xFFFF, 11, false), (320, 0xFFFF, 11, false)], nouns := [((0, 0, 32), 16)] },
   { len := some ((12, 0, 4), 2, 0), miss := true, nouns := [((0, 0, 32), 16)] }]

/-- Clauses 10 to 16: eCPRI, PTP, FPL, the slow protocols and the IPv6 fixed header. -/
def clausesApp : List FactoryClause :=
  [{ fixed := 4, check := some (2, (2, 0, 16), 4), key := some (0, 0, 4), next := [(1, 0xF, 0, true)]
     nouns := [((0, 0, 32), 19), ((4, 0, 32), 20)] },
   { fixed := 34, check := some (2, (2, 0, 16), 0), sys := 1, key := some (1, 4, 4), next := [(2, 0xF, 0, true)]
     nouns := [((0, 0, 32), 21), ((4, 0, 32), 22)] },
   { fixed := 12, check := some (2, (2, 0, 16), 0), sys := 2, miss := true, nouns := [((0, 0, 32), 21), ((4, 0, 32), 22)] },
   { miss := true, key := some (0, 0, 8), next := [(0x01, 0xFF, 14, false), (0x0A, 0xFF, 15, false)] },
   { miss := true, sys := 3 },
   { miss := true, sys := 4 },
   { fixed := 40, check := some (1, (4, 0, 16), 40), miss := true, key := some (6, 0, 8), next := ipv6Next
     nouns := [((6, 0, 8), 17), ((7, 0, 8), 18), ((7, 0, 8), 23)] }]

/-- The words of clauses 0 to 16. -/
def factoryWords : List Word := ((clausesL2 ++ clausesL3 ++ clausesApp).map FactoryClause.words).flatten

/-- The MP writes the factory grammar into both banks, the factory key profiles into both rule banks, and PR_SYS_Q. The spec does not give the
key profiles: their words are free, the same in both banks (log entry 2). -/
def State.factoryGrammar (s : State) : State :=
  let s := (s.wrs 0x190000 factoryWords).wrs 0x194000 factoryWords
  let keys := (List.range 8).map fun k => BitVec.ofNat 32 (s.freeAt k 30)
  let s := { s with free := s.free + 8 }
  let s := (s.wrs (PR_KEY_PROF 0 0) keys).wrs (PR_KEY_PROF 1 0) keys
  (List.range 4).foldl (fun s k => s.put (PR_SYS_Q_cpu_q (k + 1)) (24 + k)) s

end Sys2Proof.Machine
end

