-- ==== Sys2Proof/Machine/Dma.lean ====
section
/-! DEFINITION. The descriptor rings of host memory (R164, R203) and the descriptors of the FT rings (R165 to R169). -/

namespace Sys2Proof.Machine

/-! ### Rings -/

/-- The registers of one ring. -/
structure Ring where
  lo : Nat
  hi : Nat
  cfg : Nat
  head : Nat
  tail : Nat
  stat : Nat
deriving DecidableEq, Repr

/-- FT ring `r`. -/
def ftRing (r : Nat) : Ring := ⟨FT_RING_BASE_LO r, FT_RING_BASE_HI r, FT_RING_CFG r, FT_RING_HEAD r, FT_RING_TAIL r, FT_RING_STAT r⟩

/-- The receive ring of CPU queue `c`. -/
def rxRing (c : Nat) : Ring :=
  ⟨SC_CPUQ_RING_BASE_LO c, SC_CPUQ_RING_BASE_HI c, SC_CPUQ_RING_CFG c, SC_CPUQ_RING_HEAD c, SC_CPUQ_RING_TAIL c, SC_CPUQ_RING_STAT c⟩

/-- Transmit ring `r`. -/
def txRing (r : Nat) : Ring := ⟨SC_TXR_BASE_LO r, SC_TXR_BASE_HI r, SC_TXR_CFG r, SC_TXR_HEAD r, SC_TXR_TAIL r, SC_TXR_STAT r⟩

/-- The ring is enabled. -/
def State.ringOn (s : State) (k : Ring) : Bool := s.bit k.cfg 0

/-- The size of the ring: size_log2 outside 4 to 12 acts as 4. -/
def State.ringSize (s : State) (k : Ring) : Nat :=
  let n := bitsOf (s.rd k.cfg) 4 1
  2 ^ (if 4 ≤ n ∧ n ≤ 12 then n else 4)

/-- Its head, of which only the low size_log2 bits count. -/
def State.ringHead (s : State) (k : Ring) : Nat := bitsOf (s.rd k.head) 11 0 % s.ringSize k

/-- Its tail. -/
def State.ringTail (s : State) (k : Ring) : Nat := bitsOf (s.rd k.tail) 11 0 % s.ringSize k

/-- A descriptor waits on the ring, which is served only while it is enabled and the PCIe core is out of reset. -/
def State.ringWaits (s : State) (k : Ring) : Bool :=
  s.ringOn k && decide (s.ringTail k ≠ s.ringHead k) && !s.power.pcieReset && !s.host.d3hot

/-- The host address of the descriptor at the tail. -/
def State.ringDesc (s : State) (k : Ring) : Nat := s.rd64 k.lo k.hi + 32 * s.ringTail k

/-- idle follows head and tail. -/
def State.ringIdle (s : State) (k : Ring) : State := s.setB ⟨k.tail, 16, 16⟩ (decide (s.ringTail k = s.ringHead k))

/-- The tail passes the descriptor it names. -/
def State.ringNext (s : State) (k : Ring) : State := (s.set ⟨k.tail, 11, 0⟩ ((s.ringTail k + 1) % s.ringSize k)).ringIdle k

/-- A failed access to host memory stops the ring (DMA_ERR). -/
def State.ringStop (s : State) (k : Ring) : State := (s.set ⟨k.cfg, 0, 0⟩ 0).set ⟨k.stat, 0, 0⟩ 1

/-- Of rings `turn`, `turn` + 1 … modulo 8 the first that has a descriptor waiting. -/
def State.ringTurn (s : State) (turn : Nat) (f : Nat → Ring) : Option Nat :=
  ((List.range 8).map fun k => (turn + k) % 8).find? fun r => s.ringWaits (f r)

/-- Write words into a descriptor from word `i` on. -/
def State.descWrite (s : State) (addr i : Nat) (ws : List Word) : State := s.emit (.dma (addr + 4 * i) ((ws.map wordBytes).flatten))

/-! ### Locks (R168) -/

/-- The lock of a ring ends, and the learn events it held back execute. -/
def State.ftRelease (s : State) (r : Nat) : State :=
  ({ s with ft := { s.ft with locks := s.ft.locks.put none r none } }.set (FT_RING_STAT_lock_held r) 0).runSide

/-- Ring `r` knows no more of its expired locks on any of the slots `own` of table `t`. -/
def State.forgetLapsed (s : State) (r t : Nat) (own : List Nat) : State :=
  { s with ft := { s.ft with lapsed := s.ft.lapsed.put [] r ((s.lapsedOf r).filter fun l => !l.covers t own) } }

/-- Ring `r` knows no more of any lock. -/
def State.ftForget (s : State) (r : Nat) : State := { s.ftRelease r with ft := { (s.ftRelease r).ft with lapsed := (s.ftRelease r).ft.lapsed.put [] r [] } }

/-- A FT ring stops on DMA_ERR: it releases its lock and sets its err cause. -/
def State.ftRingFail (s : State) (r : Nat) : State :=
  ((s.ringStop (ftRing r)).ftForget r).setBit FT_RING_INT_STAT (8 + r)

/-- The host stops FT ring `r` (R171). -/
def State.ftRingHalt (s : State) (r : Nat) : State := (s.set (FT_RING_CFG_enable r) 0).ftForget r

/-- Ring `r` takes a lock on slots of table `t`: its status, LOCK_HELD before LOCKED (log entry 58). A lock on slots of an expired
one takes its place. -/
def State.ftLock (s : State) (r t : Nat) (slots : List Nat) : Nat × State :=
  if (s.lockOf r).isSome then (7, s)
  else if slots.any (s.heldByOther r t) then (6, s)
  else (0, ({ s with ft := { s.ft with locks := s.ft.locks.put none r (some ⟨t, slots⟩) } }.forgetLapsed r t slots).set
    (FT_RING_STAT_lock_held r) 1)

/-- A descriptor that changes slots of table `t`: `must` may not be held by another ring, and `own` are the slots it addresses.
Answers a status that stops it, or whether the ring's own hold ends with it. LOCKED and LOCK_EXPIRED come before every other
status (log entry 58). -/
def State.ftMay (s : State) (r t : Nat) (must own : List Nat) : Nat ⊕ Bool :=
  if must.any (s.heldByOther r t) then .inl 6
  else if (match s.lockOf r with | some l => l.covers t own | none => false) then .inr true
  else if (s.lapsedOf r).any (DmaLock.covers · t own) then .inl 8
  else .inr false

/-- A descriptor stopped with status `st`: its LOCK_EXPIRED is the answer that the ring's expired lock had to come. -/
def State.ftStopped (s : State) (r t : Nat) (own : List Nat) (st : Nat) : State := if st = 8 then s.forgetLapsed r t own else s

/-! ### Descriptors -/

/-- What a descriptor completes with: status, its words with their results, a buffer written in host memory, and the state. -/
structure Done where
  st : Nat
  w : List Word
  buf : Option (Nat × Bytes)
  s : State
deriving DecidableEq, Repr

/-- Word `i` of a descriptor. -/
def dw (w : List Word) (i : Nat) : Word := w.getD i 0

/-- The descriptor's location of a MAC slot, from word 1. -/
def locOf (w : List Word) : Nat := bitsOf (dw w 1) 18 0

/-- The location written into word 2, with moving = 0. -/
def putLoc (w : List Word) (loc : Nat) : List Word := w.set 2 (putBits (dw w 2) 19 0 loc)

/-- What the read port gives of MAC slot `i`: the entry and the location word. In the clocks of a move (`during`) out of the slot
it is the moving entry, with moving = 1 and the destination as the location (R156). -/
def State.readMac (s : State) (during : Bool) (i : Nat) : Ent × Nat :=
  match (if during then s.movingTo i else none) with
  | some d => (s.ent 0 d, 2 ^ 19 + d)
  | none => (s.ent 0 i, i)

/-- The entry in words 4 to 7. -/
def entOf (w : List Word) : Ent := ⟨dw w 4, dw w 5, dw w 6, dw w 7⟩

/-- The entry written into words 4 to 7. -/
def putEnt (w : List Word) (e : Ent) : List Word := (((w.set 4 e.w0).set 5 e.w1).set 6 e.w2).set 7 e.w3

/-- A completion that changes nothing. -/
def Done.only (st : Nat) (w : List Word) (s : State) : Done := ⟨st, w, none, s⟩

/-- NOP. -/
def ftNop (w : List Word) (s : State) : Done := .only 0 w s

/-- READ: the data are the entry as it stood, with PARITY where a lasting fault is in it (R163). -/
def ftRead (r : Nat) (during : Bool) (was : State) (w : List Word) (s : State) : Done :=
  let t := bitsOf (dw w 0) 9 6
  let i := if t = 0 then locOf w else bitsOf (dw w 1) 16 0
  if tableSize t ≤ i then .only 4 w s
  else
    let (st, s) := if bitOf (dw w 0).toNat 10 then s.ftLock r t [i] else (0, s)
    if st ≠ 0 then .only st w s
    else
      let got := if t = 0 then was.readMac during i else (was.ent t i, i)
      let w := putEnt w got.1
      .only (if s.entBad t i then 9 else 0) (if t = 0 then putLoc w got.2 else w) s

/-- A slot in a retired row, or one whose lasting fault waits for repair, takes no WRITE where its row is retired (R450). -/
def State.slotRetired (s : State) (t i : Nat) : Bool :=
  s.ft.bad.any fun e => e.table = t ∧ e.index = i ∧ s.hl.retired.contains (3, e.bank, e.row)

/-- WRITE of a direct table's entry. -/
def ftWriteDirect (r t i : Nat) (w : List Word) (s : State) : Done :=
  if tableSize t ≤ i then .only 4 w s
  else
    match s.ftMay r t [i] [i] with
    | .inl st => .only st w (s.ftStopped r t [i] st)
    | .inr ends =>
      let done (s : State) : State := if ends then s.ftRelease r else s
      if s.slotRetired t i then .only 9 w (done s) else .only 0 w (done (s.setEnt t i (entOf w)))

/-- WRITE of a MAC slot (R166): an entry that is valid elsewhere moves. -/
def ftWriteMac (r i : Nat) (w : List Word) (s : State) : Done :=
  let e := entOf w
  let right := (s.ways e.fid e.addr).contains i
  let other := if e.valid1 then (s.ways e.fid e.addr).find? fun k => s.holdsKey e.fid e.addr k && decide (k ≠ i) else none
  match s.ftMay r 0 (i :: other.toList) [i] with
  | .inl st => .only st w (s.ftStopped r 0 [i] st)
  | .inr ends =>
    let done (s : State) : State := if ends then s.ftRelease r else s
    if e.valid1 ∧ ¬ right then .only 5 w (done s)
    else if s.slotRetired 0 i then .only 9 w (done s)
    else
      let was := s.ent 0 i
      let e := match other with | some k => if (s.ent 0 k).hit then e.with1 29 true else e | none => e
      let s := match other with | some k => (s.setEnt 0 k ((s.ent 0 k).with1 31 false)).moveNote k i | none => s
      let lost := was.valid1 && !(e.valid1 && decide (was.fid = e.fid) && decide (was.addr = e.addr))
      let s := s.setEnt 0 i e
      let s := if lost then s.delta was.fid was.addr (was.with1 31 false) else s
      let s := if e.valid1 then s.delta e.fid e.addr e else s
      .only 0 (putLoc w i) (done s)

/-- WRITE. -/
def ftWrite (r : Nat) (w : List Word) (s : State) : Done :=
  let t := bitsOf (dw w 0) 9 6
  if t = 0 then ftWriteMac r (locOf w) w s else ftWriteDirect r t (bitsOf (dw w 1) 16 0) w s

/-- LOOKUP: the entry as it stood, with PARITY where its read has met a lasting fault (R163). -/
def ftLookup (r : Nat) (was : State) (w : List Word) (s : State) : Done :=
  let e := entOf w
  match was.macFind e.fid e.addr with
  | none => .only 1 w s
  | some i =>
    let (st, s) := if bitOf (dw w 0).toNat 10 then s.ftLock r 0 [i] else (0, s)
    if st ≠ 0 then .only st w s else .only (if s.entBad 0 i then 9 else 0) (putLoc (putEnt w (was.ent 0 i)) i) s

/-- INSERT (R154). One without room completes NO_ROOM and counts nothing: R161 counts an insertion from a LEARN (log entry 58). -/
def ftInsert (r : Nat) (w : List Word) (s : State) : Done :=
  let e := entOf w
  let at' := s.macFind e.fid e.addr
  let own := match at' with | some i => [i] | none => s.ways e.fid e.addr
  match s.ftMay r 0 at'.toList own with
  | .inl st => .only st w (s.ftStopped r 0 own st)
  | .inr ends =>
    let lock := s.lockOf r
    let s := if ends then { s with ft := { s.ft with locks := s.ft.locks.put none r none } } else s
    let (loc, s) := s.macInsert e
    let s := if loc.isSome then s.delta e.fid e.addr e else s
    let s := if ends ∧ lock.isSome then s.ftRelease r else s
    match loc with
    | some i => .only 0 (putLoc w i) s
    | none => .only 2 w s

/-- DELETE. -/
def ftDelete (r : Nat) (w : List Word) (s : State) : Done :=
  let e := entOf w
  match s.macFind e.fid e.addr with
  | none =>
    match s.ftMay r 0 [] (s.ways e.fid e.addr) with
    | .inl st => .only st w (s.ftStopped r 0 (s.ways e.fid e.addr) st)
    | .inr ends => .only 1 w (if ends then s.ftRelease r else s)
  | some i =>
    match s.ftMay r 0 [i] [i] with
    | .inl st => .only st w (s.ftStopped r 0 [i] st)
    | .inr ends =>
      let s := s.macRemove i
      .only 0 (putLoc w i) (if ends then s.ftRelease r else s)

/-- READ_BUCKET: four records of 32 bytes. -/
def ftReadBucket (r : Nat) (during : Bool) (was : State) (w : List Word) (s : State) : Done :=
  let half := bitsOf (dw w 1) 18 18
  let b := bitsOf (dw w 1) 15 0
  let slots := (List.range 4).map (macLoc half · b)
  let (st, s) := if bitOf (dw w 0).toNat 10 then s.ftLock r 0 slots else (0, s)
  if st ≠ 0 then .only st w s
  else
    let rec1 (i : Nat) : Bytes :=
      let (e, l) := was.readMac during i
      ([e.w0, e.w1, e.w2, e.w3, BitVec.ofNat 32 l].map wordBytes).flatten ++ zeros 12
    ⟨if slots.any (s.entBad 0) then 9 else 0, w, some ((dw w 2).toNat + (dw w 3).toNat * 2 ^ 32, (slots.map rec1).flatten), s⟩

/-- Does a FLUSH with filter word `f` take slot `i`? -/
def State.flushes (s : State) (f : Word) (i : Nat) : Bool :=
  let e := s.ent 0 i
  e.valid1 && !e.fixed && !s.held 0 i && (!bitOf f.toNat 12 || decide (e.fid = bitsOf f 11 0))
    && (!bitOf f.toNat 30 || decide (e.dest = bitsOf f 29 13))

/-- FLUSH. -/
def ftFlush (w : List Word) (s : State) : Done :=
  let gone := (s.ft.mac.map (·.1)).filter (s.flushes (dw w 4))
  .only 0 (w.set 2 (putBits (dw w 2) 19 0 gone.length)) (gone.foldl State.macRemove s)

/-- UNLOCK: it releases the ring's lock; where that has expired, it completes LOCK_EXPIRED; where the ring holds none, OK (log
entry 58). -/
def ftUnlock (r : Nat) (w : List Word) (s : State) : Done :=
  if (s.lockOf r).isSome then .only 0 w (s.ftRelease r)
  else .only (if (s.lapsedOf r).isEmpty then 0 else 8) w { s with ft := { s.ft with lapsed := s.ft.lapsed.put [] r [] } }

/-- An op of the MAC table only, or a table code that does not exist (R166). -/
def badTable (op t : Nat) : Bool := (decide (3 ≤ op) && decide (t ≠ 0)) || decide (7 ≤ t)

/-- Execute the descriptor `w`; `was` is the state before the parity errors its reads met. -/
def ftExec (was : State) (w : List Word) (s : State) (k : State → Done) : Done :=
  let op := bitsOf (dw w 0) 5 0
  let d := if 8 < op then .only 11 w s else if badTable op (bitsOf (dw w 0) 9 6) then .only 3 w s else k s
  let s := d.s
  let out := if op = 6 then d.w else d.w.set 3 (putBits (dw d.w 3) 15 0 (was.get FT_EPOCH_current))
  if bitOf (dw w 0).toNat 11 then
    match s.epochAdvance with
    | (true, s) => { d with w := out, s := s }
    | (false, s) => { d with st := 12, w := out, s := s }
  else { d with w := out, s := s }

/-- A descriptor whose result words fail completes DMA_ERR and changes no table entry: `s` is the state before it executed. Its
epoch_adv flag still acts, and the ring stops (R148, R167). -/
def ftFails (s : State) (r : Nat) (w : List Word) : State :=
  (if bitOf (dw w 0).toNat 11 then s.epochAdvance.2 else s).ftRingFail r

/-- How the accesses to host memory end: all succeed, the data buffer's fails, the descriptor's own result words fail. `was` is
the state before descriptor `w` executed. -/
def dmaEnd (s was : State) (r : Nat) (w : List Word) (d : Done) (dma : DmaEnd) : State :=
  let k := ftRing r
  let addr := s.ringDesc k
  let t := d.s
  let failBuf := decide (dma = .bufferFails) && d.buf.isSome
  let st := if failBuf then 10 else d.st
  if dma = .resultFails then ftFails was r w
  else
    let t := match d.buf with
      | some (a, b) => if failBuf then t else t.emit (.dma a b)
      | none => t
    let t := if d.buf.isSome then t else t.descWrite addr 1 (d.w.drop 1)
    let t := t.descWrite addr 0 [putBits (putBits (dw d.w 0) 23 16 st) 31 31 1]
    let t := (t.ringNext k).pm 2 0x26 1
    let t := if bitOf (dw d.w 0).toNat 12 then t.setBit FT_RING_INT_STAT r else t
    if failBuf then t.ftRingFail r else t

/-- Serve the descriptor at the tail of ring `r`, fetched as `d`, where its op is `op` (9 for any undefined op) and it is the
ring's turn. A fetch that fails stops the ring. `ff` are parity errors its reads meet. -/
def State.ftServe (s : State) (r : Nat) (op : Nat) (d : Option (List Word)) (dma : DmaEnd) (ff : List FtFault)
    (k : State → List Word → State → Done) : Host.Outcome State Fault Refusal :=
  let fits := match d with
    | none => true
    | some w => decide (w.length = 8) && decide (min 9 (bitsOf (dw w 0) 5 0) = op)
  finishIf (decide (s.ringTurn s.ft.turn ftRing = some r) && fits) s (
    let s := { s with ft := { s.ft with turn := (r + 1) % 8 } }
    match d with
    | none => s.ftRingFail r
    | some w =>
      let t := ff.foldl State.ftFault s
      dmaEnd s t r w (ftExec s w t (k s w)) dma)

/-- NOP (R166). -/
def execNop (r : Fin 8) (d : Option (List Word)) (dma : DmaEnd) (s : State) : Host.Outcome State Fault Refusal :=
  s.ftServe r 0 d dma [] fun _ w => ftNop w

/-- READ (R166). -/
def execRead (r : Fin 8) (d : Option (List Word)) (dma : DmaEnd) (ff : List FtFault × Bool) (s : State) : Host.Outcome State Fault Refusal :=
  s.ftServe r 1 d dma ff.1 (ftRead r ff.2)

/-- WRITE (R166). -/
def execWrite (r : Fin 8) (d : Option (List Word)) (dma : DmaEnd) (ff : List FtFault) (s : State) : Host.Outcome State Fault Refusal :=
  s.ftServe r 2 d dma ff fun _ => ftWrite r

/-- LOOKUP (R166). -/
def execLookup (r : Fin 8) (d : Option (List Word)) (dma : DmaEnd) (ff : List FtFault) (s : State) : Host.Outcome State Fault Refusal :=
  s.ftServe r 3 d dma ff (ftLookup r)

/-- INSERT (R166). -/
def execInsert (r : Fin 8) (d : Option (List Word)) (dma : DmaEnd) (ff : List FtFault) (s : State) : Host.Outcome State Fault Refusal :=
  s.ftServe r 4 d dma ff fun _ => ftInsert r

/-- DELETE (R166). -/
def execDelete (r : Fin 8) (d : Option (List Word)) (dma : DmaEnd) (ff : List FtFault) (s : State) : Host.Outcome State Fault Refusal :=
  s.ftServe r 5 d dma ff fun _ => ftDelete r

/-- READ_BUCKET (R166). -/
def execReadBucket (r : Fin 8) (d : Option (List Word)) (dma : DmaEnd) (ff : List FtFault × Bool) (s : State) : Host.Outcome State Fault Refusal :=
  s.ftServe r 6 d dma ff.1 (ftReadBucket r ff.2)

/-- FLUSH (R166). -/
def execFlush (r : Fin 8) (d : Option (List Word)) (dma : DmaEnd) (ff : List FtFault) (s : State) : Host.Outcome State Fault Refusal :=
  s.ftServe r 7 d dma ff fun _ => ftFlush

/-- UNLOCK (R166). -/
def execUnlock (r : Fin 8) (d : Option (List Word)) (dma : DmaEnd) (s : State) : Host.Outcome State Fault Refusal :=
  s.ftServe r 8 d dma [] fun _ => ftUnlock r

/-- BAD_OP (R166): an op above 0x08. -/
def execBadOp (r : Fin 8) (d : Option (List Word)) (dma : DmaEnd) (s : State) : Host.Outcome State Fault Refusal :=
  s.ftServe r 9 d dma [] fun _ w s => .only 11 w s

/-- FT_LOCK_EXPIRY (R168): lock_us has run out since the locking completion. -/
def execFtLockExpiry (r : Fin 8) (s : State) : Host.Outcome State Fault Refusal :=
  match s.lockOf r with
  | none => .next s
  | some l =>
    finishIf true s (
      let s := { s with ft := { s.ft with locks := s.ft.locks.put none r none, lapsed := s.ft.lapsed.put [] r (s.lapsedOf r ++ [l]) } }
      ((s.set (FT_RING_STAT_lock_held r) 0).raise FT_INT_STAT_lock_expired).runSide)

end Sys2Proof.Machine
end

