-- ==== Sys2Proof/Machine/Cpu.lean ====
section
/-! DEFINITION. Bay 12: CPU queues towards the host and the MP, and the transmit rings (R196, R202 to R205). -/

namespace Sys2Proof.Machine

/-! ### The FCS of a frame handed to the host -/

/-- One bit of the reflected CRC-32 of IEEE 802.3 (log entry 12). -/
def crc32Bit (r : Nat) : Nat := if r % 2 = 1 then (r / 2) ^^^ 0xEDB88320 else r / 2

/-- The FCS of a frame, as its four bytes on the wire. -/
def fcsOf (b : Bytes) : Bytes :=
  leBytes 4 (b.foldl (fun r x =>
    crc32Bit (crc32Bit (crc32Bit (crc32Bit (crc32Bit (crc32Bit (crc32Bit (crc32Bit (r ^^^ x.toNat))))))))) 0xFFFFFFFF ^^^ 0xFFFFFFFF)

/-! ### Queues towards the host -/

/-- The head of CPU queue `c` is whole. -/
def State.cpuReady (s : State) (c : Nat) : Bool :=
  match s.queueOf (384 + c) with
  | [] => false
  | (id, _) :: _ => (s.pkt id).whole

/-- CPU queue `c` is bound for the host, its head is whole and its ring has a free descriptor. -/
def State.hostReady (s : State) (c : Nat) : Bool := s.cpuReady c && !s.on (SC_CPUQ_CFG_dest c) && s.ringWaits (rxRing c)

/-- The CPU queue that bay 12 serves next towards the host (R195, R196). -/
def State.hostServe (s : State) : Option Nat × State :=
  s.dwrr 48 ((List.range 32).map (384 + ·)) (fun q => s.hostReady (q - 384)) (fun q => s.get (SC_CPUQ_CFG_weight (q - 384))) 1300

/-- The bytes handed over: a sample holds at most 128 bytes of its frame, any other frame is whole, FCS included (R204, R206). -/
def handed (x : Pkt) (reason : Nat) : Bytes :=
  let all := if x.bytes.length + 4 = x.len then x.bytes ++ fcsOf x.bytes else x.bytes
  if reason = 8 then all.take 128 else all

/-- Remove a frame that a CPU queue has handed over. -/
def State.cpuDone (s : State) (id q since : Nat) : State := ((s.dequeue id q).countDelay q (s.clk - since)).unref id

/-- A frame of host CPU queue `c` goes to host memory by the descriptor words `w` (R203, R204). -/
def State.receive (s : State) (c : Nat) (w : List Word) (dma : DmaEnd) : State :=
  match s.queueOf (384 + c) with
  | [] => s
  | (id, since) :: _ =>
    let k := rxRing c
    if dma ≠ .done then s.ringStop k
    else
      let x := s.pkt id
      let cp := (x.copies.find? fun e => e.q = 384 + c).getD ⟨384 + c, none, 0, 0⟩
      let all := handed x cp.reason
      let size := bitsOf (dw w 4) 13 0
      let addr := s.ringDesc k
      let w1 := putBits (putBits (putBits (putBits (dw w 1) 15 0 cp.detail) 21 16 x.port) 24 22 x.tc) 25 25 (flag x.classT)
      let w0 := putBits (putBits (putBits (putBits (putBits (dw w 0) 13 0 x.len) 14 14 (flag (size < all.length))) 15 15 (flag x.suspect))
        23 16 cp.reason) 31 31 1
      let s := s.emit (.dma ((dw w 2).toNat + (dw w 3).toNat * 2 ^ 32) (all.take size))
      let s := s.descWrite addr 1 [w1]
      let s := s.descWrite addr 5 [BitVec.ofNat 32 x.ts.sec, BitVec.ofNat 32 x.ts.ns, putBits (dw w 7) 15 0 x.ts.frac16]
      let s := (s.descWrite addr 0 [w0]).ringNext k
      ((s.setBit SC_CPUQ_INT_STAT c).charge (384 + c) x.len).cpuDone id (384 + c) since

/-- CPU_QUEUE_DESCRIPTOR (R203): the host CPU queue whose turn it is hands its head frame over, by the descriptor `d` fetched at
the ring's tail. A failed access to host memory stops the ring. -/
def execCpuQueueDescriptor (c : Fin 32) (d : Option (List Word)) (dma : DmaEnd) (s : State) : Host.Outcome State Fault Refusal :=
  let (q, t) := s.hostServe
  finishIf (decide (q = some (384 + c.val)) && (match d with | some w => decide (w.length = 8) | none => true)) s (
    match d with
    | none => s.ringStop (rxRing c)
    | some w => t.receive c w dma)

/-! ### Queues towards the MP -/

/-- Does a stack of the MP take the frame from its queue: PTP or LACP (R128, R202)? The stacks of FPL and ESMC have their own commands (log
entry 61). -/
def mpUses (x : Pkt) : Bool := decide (x.sysClass = 1) || decide (x.sysClass = 3)

/-- CPU queue `c` is bound for the MP, its stacks run and its head is whole. -/
def State.mpReady (s : State) (c : Nat) : Bool := s.cpuReady c && s.on (SC_CPUQ_CFG_dest c) && s.stacksRun

/-- The CPU queue that the MP serves next (R195, R196). -/
def State.mpServe (s : State) : Option Nat × State :=
  s.dwrr 49 ((List.range 32).map (384 + ·)) (fun q => s.mpReady (q - 384)) (fun q => s.get (SC_CPUQ_CFG_weight (q - 384))) 1300

/-- The MP serves its queues until a stack takes the frame served: its queue, and its place in it. The MP drops the frames before it; at
most `n` of them. -/
def State.mpNext (s : State) : Nat → Option (Nat × Nat × Nat) × State
  | 0 => (none, s)
  | n + 1 =>
    match s.mpServe with
    | (none, t) => (none, t)
    | (some q, t) =>
      match t.queueOf q with
      | [] => (none, t)
      | (id, since) :: _ =>
        if mpUses (t.pkt id) then (some (q, id, since), t)
        else (((t.charge q (t.pkt id).len).dequeue id q).unref id).mpNext n

/-- The frames in the CPU queues. -/
def State.cpuFrames (s : State) : Nat := ((List.range 32).map fun c => (s.queueOf (384 + c)).length).foldl (· + ·) 0

/-- What the MP serves next. -/
def State.mpHead (s : State) : Option (Nat × Nat × Nat) × State := s.mpNext (s.cpuFrames + 1)

/-- The frame that the MP takes next, where it is in CPU queue `c`. -/
def State.mpFrame (s : State) (c : Nat) : Option Pkt :=
  match s.mpHead with
  | (some (q, id, _), t) => if q = 384 + c then some (t.pkt id) else none
  | (none, _) => none

/-- The MP takes it. -/
def State.mpTakes (s : State) : State :=
  match s.mpHead with
  | (some (q, id, since), t) => ((t.charge q (t.pkt id).len).cpuDone id q since).pm 7 0x74 1
  | (none, t) => t

/-- A command of a stack for CPU queue `c`: `k` has the next frame, taken from the queue. Where no stack has a frame, the MP drops what waits; where
the next one is in another queue, nothing comes about. -/
def State.mpTake (s : State) (c : Nat) (kind : Nat) (k : Pkt → State → State) : Host.Outcome State Fault Refusal :=
  match s.mpFrame c with
  | some x => finishIf (decide (x.sysClass = kind)) s (k x s.mpTakes)
  | none => finishIf (s.stacksRun && s.mpHead.1.isNone) s s.mpTakes

/-! ### Transmit rings -/

/-- A transmit descriptor (R205): its frame `b` goes into pipeline 0 as port 48, or straight to a queue. -/
def State.transmit (s : State) (w : List Word) (b : Bytes) (dbm : Bool) : State :=
  let w0 := dw w 0
  let tc := bitsOf w0 24 22
  if bitOf w0.toNat 14 then
    let x := { Pkt.none with
      bytes := b, len := b.length + 4, port := 48, ts := s.tb, suspect := s.on TB_STAT_suspect
      steps := s.get TB_STEP_CNT_count, gr := s.grBank 48, rs := s.rsBank 48, tc := tc, defTc := tc }
    let id := s.sc.nextId
    let s := s.newPkt x
    { s with sc := { s.sc with pipe := s.sc.pipe ++ [id] } }
  else
    (s.inject (bitsOf w0 21 16) tc (bitOf w0.toNat 25) false (if bitOf w0.toNat 15 then some (bitsOf (dw w 1) 15 0) else none) b dbm).noFitAll

/-- A transmit ring stops on DMA_ERR. -/
def State.txFail (s : State) (r : Nat) : State := (s.ringStop (txRing r)).raise SC_INT_STAT_txr_err

/-- The descriptor completes with a status. -/
def State.txComplete (s : State) (r : Nat) (w : List Word) (st : Nat) : State :=
  let k := txRing r
  let addr := s.ringDesc k
  let s := (s.descWrite addr 4 [putBits (dw w 4) 7 0 st]).descWrite addr 0 [putBits (dw w 0) 31 31 1]
  let s := s.ringNext k
  if bitOf (dw w 0).toNat 26 then s.setBit SC_INT_STAT r else s

/-- The descriptor names a length or, where it is used, a port that does not exist (R205). -/
def State.badTx (s : State) (w : List Word) : Bool :=
  let len := bitsOf (dw w 0) 13 0
  decide (len < 60) || decide (9596 < len) || (!bitOf (dw w 0).toNat 14 && !s.portHere (bitsOf (dw w 0) 21 16))

/-- TX_DESCRIPTOR (R205): the transmit ring whose turn it is reads its descriptor `d` and the frame `b` from host memory. `dma` tells
whether the frame and the completion could be transferred, `dbm` whether DBM's write rate takes the frame (R185). -/
def execTxDescriptor (r : Fin 8) (d : Option (List Word)) (b : Bytes) (dma : DmaEnd) (dbm : Bool) (s : State) :
    Host.Outcome State Fault Refusal :=
  let fits := match d with
    | none => true
    | some w => decide (w.length = 8) && (s.badTx w || decide (dma = .bufferFails) || decide (b.length = bitsOf (dw w 0) 13 0))
  finishIf (decide (s.ringTurn s.sc.txTurn txRing = some r.val) && fits) s (
    let s := { s with sc := { s.sc with txTurn := (r + 1) % 8 } }
    match d with
    | none => s.txFail r
    | some w =>
      let bad := s.badTx w
      let t := if bad ∨ dma = .bufferFails then s else s.transmit w b dbm
      if dma = .resultFails then t.txFail r
      else
        let t := t.txComplete r w (if bad then 2 else if dma = .bufferFails then 1 else 0)
        if ¬ bad ∧ dma = .bufferFails then t.txFail r else t)

end Sys2Proof.Machine
end

