-- ==== Sys2Proof/Machine/TcCmd.lean ====
section
/-! DEFINITION. The mailbox commands of the timing channels (R342 to R349) and the ESMC stack's events (R338, R339). -/

namespace Sys2Proof.Machine

/-- The check of a channel number: 0 to 5, present. -/
def State.chanCheck (s : State) (c : Nat) : Option Nat :=
  if 5 < c then some badParam else if s.chans ≤ c then some noInstance else none

/-- TC_GET_STATUS (R342). -/
def execTcGetStatus (n : Fin 4) (s : State) : Host.Outcome State Fault Refusal :=
  s.mbRow n 0x1000 fun r s =>
    let c := byteAt r.payload 0
    if r.payload.length ≠ 4 then .reject badLength
    else match s.chanCheck c with
    | some e => .reject e
    | none => if leAt r.payload 1 3 ≠ 0 then .reject badParam else
      let flags := s.get (TC_STAT_switching c) + 2 * s.get (TC_STAT_slewing c) + 4 * s.get (TC_STAT_stale c)
        + 8 * s.get (TC_STAT_hist_valid c) + 16 * s.get (TC_STAT_trained c) + 32 * s.get (TC_STAT_ensemble c)
      let good := (List.range 63).foldl (fun w r => if s.refStatus c r = 4 then w + 2 ^ r else w) 0
      .ok (leBytes 1 (s.tcState c) ++ leBytes 1 (s.selRef c) ++ leBytes 1 flags ++ leBytes 1 (s.get (TC_STAT_bw_eff c))
        ++ leBytes 4 (s.rd (TC_FREQ c)).toNat ++ leBytes 4 (s.rd (TC_PHASE_ERR c)).toNat
        ++ leBytes 4 (s.get (TC_HO_STAT_elapsed_s c)) ++ leBytes 4 (s.rd (TC_HO_TE c)).toNat
        ++ leBytes 4 (s.chanOf c).switches ++ leBytes 8 good) s

/-- The MP's writes of TC_SET_CONFIG (R343). -/
def State.tcConfigure (s : State) (c : Nat) (b : Bytes) : State :=
  let fl := byteAt b 1
  let s := (s.put (TC_CTRL_enable c) (fl % 2)).put (TC_CTRL_revertive c) (fl / 2 % 2)
  let s := (s.put (TC_CTRL_ql_mode c) (fl / 4 % 2)).put (TC_CTRL_switch_mode c) (fl / 8 % 2)
  let s := (s.put (TC_HO_CFG_ensemble c) (fl / 16 % 2)).put (TC_HO_CFG_avg_s c) (leAt b 28 2)
  let s := if bitOf fl 5 then s.put TC_ROLES_time_ch c else s
  let s := if bitOf fl 6 then s.put TC_ROLES_synce_ch c else s
  let s := (s.put (TC_LOOP_bw c) (byteAt b 2)).put (TC_LOOP_lock_win c) (byteAt b 36)
  let s := ((s.put (TC_QUAL_qualify_s c) (byteAt b 3)).put (TC_QUAL_wtr_s c) (leAt b 4 2)).put (TC_QUAL_win c) (byteAt b 31)
  let s := ((s.put (TC_SLEW_limit c) (leAt b 6 2)).put (TC_SOFT_soft c) (leAt b 8 4)).put (TC_HARD_hard c) (leAt b 12 4)
  let s := (s.putW (TC_DCO_NOM_LO c) (leAt b 16 4)).put (TC_DCO_NOM_HI_f_hi c) (leAt b 20 4)
  let s := s.putW (TC_PHASE_OFS c) (leAt b 24 4)
  (s.put (TC_HO_LIMIT_te_limit_ns c) (leAt b 32 4)).put (TC_HO_LIMIT_max_h c) (byteAt b 30)

/-- TC_SET_CONFIG (R343). A value that its register's field cannot hold is out of range. -/
def execTcSetConfig (n : Fin 4) (s : State) : Host.Outcome State Fault Refusal :=
  s.mbRow n 0x1001 fun r s =>
    let b := r.payload
    let c := byteAt b 0
    let f := leAt b 16 8
    if b.length ≠ 40 then .reject badLength
    else match s.chanCheck c with
    | some e => .reject e
    | none =>
      if 0x7F < byteAt b 1 ∨ 0x1F < byteAt b 2 ∨ 0xFFF < leAt b 4 2 ∨ 0x1FFF < leAt b 6 2 ∨ 0xFFFFFF < leAt b 8 4
          ∨ 0xFFFFFF < leAt b 12 4 ∨ 0xFFF < leAt b 28 2 ∨ 3 < byteAt b 31 ∨ 0xFFFFFF < leAt b 32 4 ∨ leAt b 37 3 ≠ 0 then .reject badParam
      else if f < 9600000000 ∨ 11200000000 < f then .reject 0x0100
      else .ok [] (s.tcConfigure c b)

/-- TC_SET_REF_PRIORITY (R344). A list that names an absent reference names an absent instance (R2, R309). -/
def execTcSetRefPriority (n : Fin 4) (s : State) : Host.Outcome State Fault Refusal :=
  s.mbRow n 0x1002 fun r s =>
    let b := r.payload
    let c := byteAt b 0
    let k := byteAt b 1
    if b.length < 2 ∨ b.length ≠ 2 + 2 * k then .reject badLength
    else match s.chanCheck c with
    | some e => .reject e
    | none =>
      let l := (List.range k).map fun i => (byteAt b (2 + 2 * i), byteAt b (3 + 2 * i))
      if k = 0 ∨ 63 < k ∨ l.any (fun e => decide (62 < e.1) || decide (15 < e.2)) then .reject badParam
      else if l.any (fun e => !s.refHere e.1) then .reject noInstance
      else .ok [] (l.foldl (fun s e => s.put ⟨TC_REF_PRIO c (e.1 / 8), 4 * (e.1 % 8) + 3, 4 * (e.1 % 8)⟩ e.2) s)

/-- TC_FORCE_SELECT (R345). -/
def execTcForceSelect (n : Fin 4) (s : State) : Host.Outcome State Fault Refusal :=
  s.mbRow n 0x1003 fun r s =>
    let c := byteAt r.payload 0
    let mode := byteAt r.payload 1
    let ref := byteAt r.payload 2
    if r.payload.length ≠ 4 then .reject badLength
    else match s.chanCheck c with
    | some e => .reject e
    | none =>
      if 3 < mode ∨ 63 < ref ∨ byteAt r.payload 3 ≠ 0 then .reject badParam
      else if mode = 1 ∧ ref < 63 ∧ ¬ s.refHere ref then .reject noInstance
      else if mode = 1 ∧ ¬ s.forceUsable c ref then .reject 0x0101
      else .ok [] ((s.put (TC_FORCE_mode c) mode).put (TC_FORCE_ref c) ref)

/-- TC_GET_HOLDOVER (R346): the model in force in HOLDOVER, else the one that the committed history gives now. -/
def execTcGetHoldover (n : Fin 4) (s : State) : Host.Outcome State Fault Refusal :=
  s.mbRow n 0x1004 fun r s =>
    let c := byteAt r.payload 0
    if r.payload.length ≠ 4 then .reject badLength
    else match s.chanCheck c with
    | some e => .reject e
    | none => if leAt r.payload 1 3 ≠ 0 then .reject badParam else
      let k := s.chanOf c
      let m := if s.tcState c = 3 then k.model else (s.buildModel c).1
      .ok (leBytes 1 (s.get (TC_STAT_hist_valid c) + 2 * s.get (TC_STAT_trained c) + 4 * flag (s.tcState c = 3)) ++ leBytes 1 0
        ++ leBytes 2 (s.get (TC_HO_STAT_trained_h c)) ++ leBytes 4 (s.get (TC_HO_STAT_elapsed_s c)) ++ leBytes 4 (s.rd (TC_HO_TE c)).toNat
        ++ leBytes 4 (twos 32 (satSigned 32 (m.mean / 1000))) ++ leBytes 4 (twos 32 (satSigned 32 (m.slope / 1000)))
        ++ leBytes 6 m.endT ++ leBytes 2 m.len ++ leBytes 2 (twos 16 m.temp) ++ leBytes 2 0 ++ leBytes 4 k.discarded ++ leBytes 4 0) s

/-- A band search runs on channel `c`: its frequency is one that no preset has. -/
def State.searching (s : State) (c : Nat) : Bool := decide ((s.chanOf c).hop = some none)

/-- TC_STORE_PRESET (R347). -/
def execTcStorePreset (n : Fin 4) (s : State) : Host.Outcome State Fault Refusal :=
  s.mbRow n 0x1005 fun r s =>
    let c := byteAt r.payload 0
    let i := byteAt r.payload 1
    if r.payload.length ≠ 4 then .reject badLength
    else match s.chanCheck c with
    | some e => .reject e
    | none =>
      if 15 < i ∨ leAt r.payload 2 2 ≠ 0 then .reject badParam
      else if s.searching c ∨ (s.tcState c = 0 ∧ ¬ (s.chanOf c).bandDone) then .reject badState
      else
        let lo := s.rd (TC_DCO_NOM_LO c)
        let hi := BitVec.ofNat 32 (s.get (TC_DCO_NOM_HI_f_hi c) + s.get (TC_DCO_WORD_band c) * 256 + 2 ^ 31)
        let s := (s.wr (TC_PRESET_LO c i) lo).wr (TC_PRESET_HI c i) hi
        .ok [] (s.saveSettings [(TC_PRESET_LO c i, lo), (TC_PRESET_HI c i, hi)])

/-- TC_RAMP_START (R348). -/
def execTcRampStart (n : Fin 4) (s : State) : Host.Outcome State Fault Refusal :=
  s.mbRow n 0x1006 fun r s =>
    let b := r.payload
    let c := byteAt b 0
    let p := byteAt b 1
    let ns := leAt b 10 4
    if b.length ≠ 16 then .reject badLength
    else match s.chanCheck c with
    | some e => .reject e
    | none =>
      if 7 < p ∨ leAt b 2 2 ≠ 0 ∨ 999999999 < ns then .reject badParam
      else if c = s.timeCh then .reject 0x0102
      else if ¬ s.rampHome c then .reject badState
      else if (match (s.chanOf c).ramp with | some r => r.running | none => false) then .reject 0x0103
      else
        let t := (leAt b 4 6 * 1000000000 + ns) * 2 ^ 32 + leAt b 14 2 * 2 ^ 16
        .ok [] (s.setChan c { s.chanOf c with ramp := some ⟨p, t, false, 0, false, 0, false⟩ })

/-- TC_ESMC_CONFIG (R349). -/
def execTcEsmcConfig (n : Fin 4) (s : State) : Host.Outcome State Fault Refusal :=
  s.mbRow n 0x1007 fun r s =>
    let b := r.payload
    let send := leAt b 4 6
    let acc := leAt b 10 6
    if b.length ≠ 16 then .reject badLength
    else if 3 < byteAt b 0 ∨ byteAt b 1 ≠ 0 then .reject badParam
    else if 2 ^ s.lanes ≤ send ∨ 2 ^ s.lanes ≤ acc then .reject noInstance
    else
      let s := { s with esmc := { s.esmc with on := bitOf (byteAt b 0) 0, tlv := bitOf (byteAt b 0) 1, holdS := leAt b 2 2, send := send, accept := acc } }
      .ok [] ((List.range s.lanes).foldl (fun s p => if bitOf acc p then s.put (PR_PORT_CFG_esmc_trap p) 1 else s) s)

/-! ### The ESMC stack -/

/-- ESMC_PDU_SEND (R338): once a second, while the MP runs. -/
def execEsmcPduSend (s : State) : Host.Outcome State Fault Refusal := finishIf (s.stacksRun && s.esmc.on) s (s.esmcCheck.esmcSend false)

/-- The MP sets the QL of reference `r`. -/
def State.setQl (s : State) (r q : Nat) : State := s.put ⟨TC_REF_QL (r / 8), 4 * (r % 8) + 3, 4 * (r % 8)⟩ q

/-- The QL of the lane references of port `p`; in bay modes 0x2 and 0x3 those of the whole bay. -/
def State.portSetQl (s : State) (p q : Nat) : State := ((s.lanesOf p).foldl (fun s l => s.setQl (12 + l) q) s).esmcCheck

/-- ESMC_PDU_RECEIVE (R338). -/
def execEsmcPduReceive (p : Fin 48) (ql : Fin 16) (s : State) : Host.Outcome State Fault Refusal :=
  finishIf (s.stacksRun && s.esmc.on && s.portHere p && bitOf s.esmc.accept p) s (s.portSetQl p ql)

/-- ESMC_TIMEOUT (R338): no valid PDU for 5 s. -/
def execEsmcTimeout (p : Fin 48) (s : State) : Host.Outcome State Fault Refusal :=
  finishIf (s.stacksRun && s.esmc.on && s.portHere p && bitOf s.esmc.accept p) s (s.portSetQl p 0xF)

/-- QL_HOLD_EXPIRY (R339). -/
def execQlHoldExpiry (s : State) : Host.Outcome State Fault Refusal :=
  finishIf (s.stacksRun && decide (s.tcState s.synceCh = 3)) s ((s.setChan s.synceCh { s.chanOf s.synceCh with qlExpired := true }).esmcCheck)

end Sys2Proof.Machine
end

