-- ==== Sys2Proof/Machine/Ptp.lean ====
section
/-! DEFINITION. The PTP instance of the MP (R250, R252, R263, R264, R272 to R275). Its state machines, BMCA and servo arithmetic are those
of IEEE 1588-2019: what they conclude from a message is the command's operand, and what the module does with it is here. -/

namespace Sys2Proof.Machine

/-- A datum that describes an own clock as grandmaster: what a restart of the instance leaves (log entry 15). -/
def ownData (prio1 prio2 : Nat) : PtpData where
  stepsRemoved := 0
  offset := 0
  delay := 0
  parent := beBytes 8 Config.clockIdentity.toNat ++ beBytes 2 0
  parentStats := false
  obsVariance := 0xFFFF
  obsRate := 0x7FFFFFFF
  prio1 := prio1
  gmClass := 248
  gmAccuracy := 0xFE
  gmVariance := 0xFFFF
  prio2 := prio2
  gm := beBytes 8 Config.clockIdentity.toNat
  utc := 37
  tflags := 0x08
  timeSource := 0xA0
  ownClass := 248
  ownAccuracy := 0xFE
  ownVariance := 0xFFFF

/-- Port `p` of the instance. -/
def State.ptpOf (s : State) (p : Nat) : Option PtpPort := s.ptp.ports.get none p

/-- Store it. -/
def State.setPtp (s : State) (p : Nat) (x : Option PtpPort) : State := { s with ptp := { s.ptp with ports := s.ptp.ports.put none p x } }

/-- Port states of IEEE 1588. -/
def psInitializing : Nat := 1
def psMaster : Nat := 6
def psSlave : Nat := 9

/-- The role that PTP gives link `p` under role 0x2 (R280). -/
def State.ptpRole (s : State) (p : Nat) : State :=
  let r := match s.ptpOf p with
    | some x => if x.st = psMaster then some false else if x.st = psSlave then some true else none
    | none => none
  let s := s.setLink p { s.linkOf p with ptpRole := r }
  if s.get (PX_LINK_CTRL_role p) = 2 then s.linkRole p else s

/-- The slave port of the instance with role 0x2 names the reference link (R295). -/
def State.ptpRefLink (s : State) : State :=
  match (List.range 48).find? fun p => match s.ptpOf p with | some x => decide (x.st = psSlave) | none => false with
  | some p => if s.get (PX_LINK_CTRL_role p) = 2 ∧ s.get PX_REF_link ≠ p then s.put PX_REF_link p else s
  | none => s

/-- A port of role `role` on a clock of type `t` may stand in portState `st` (R263, R273): a masterOnly port and a T-GM have no UNCALIBRATED or
SLAVE port, a slave only port and a T-TSC no PRE_MASTER or MASTER port. -/
def ptpAllows (t role st : Nat) : Bool :=
  !((decide (role = 1) || decide (t = 1)) && (decide (st = 8) || decide (st = 9)))
    && !((decide (role = 2) || decide (t = 0)) && (decide (st = 5) || decide (st = 6)))

/-- Port `p` takes portState `st`, where its role and the clock's type allow it. -/
def State.ptpState (s : State) (p st : Nat) : State :=
  match s.ptpOf p with
  | none => s
  | some x => if x.st = st ∨ ¬ ptpAllows s.ptp.clockType x.role st then s else (s.setPtp p (some { x with st := st })).ptpRole p

/-- The domains of a profile (R263). -/
def domainOk (profile d : Nat) : Bool :=
  match profile with
  | 1 => decide (d ≤ 127)
  | 2 => decide (24 ≤ d) && decide (d ≤ 43)
  | 3 => decide (44 ≤ d) && decide (d ≤ 63)
  | _ => true

/-- The clock types of a profile: the end-to-end transparent clock belongs to the default profile (log entry 15). -/
def clockTypeOk (profile t : Nat) : Bool := decide (t ≠ 3) || decide (profile ≤ 1)

/-- PTP_SET_PROFILE (R272). -/
def execPtpSetProfile (n : Fin 4) (s : State) : Host.Outcome State Fault Refusal :=
  s.mbRow n 0x2000 fun r s =>
    let b := r.payload
    let f := fun i => byteAt b i
    if b.length ≠ 16 then .reject badLength
    else if 3 < f 0 ∨ 3 < f 2 ∨ f 5 = 0 ∨ 3 < f 7 ∨ leAt b 8 4 < 100 ∨ 1000000000 < leAt b 8 4 ∨ leAt b 12 4 ≠ 0 then .reject badParam
    else if ¬ domainOk (f 0) (f 1) then .reject 0x0100
    else if ¬ clockTypeOk (f 0) (f 2) then .reject 0x0101
    else
      let s := { s with ptp := { s.ptp with
        profile := f 0, domain := f 1, clockType := f 2, prio1 := f 3, prio2 := f 4, localPrio := f 5, gmClass := f 6
        twoStep := bitOf (f 7) 0, steps := bitOf (f 7) 1, stepNs := leAt b 8 4, servo := 0, data := ownData (f 3) (f 4), grantees := 0, grantors := 0 } }
      let s := (List.range 48).foldl (fun s p => s.ptpState p psInitializing) s
      .ok [] ({ s with smp := { s.smp with ofs60 := none } }.refLoss 60)

/-- PTP_PORT_CONFIG (R273). -/
def execPtpPortConfig (n : Fin 4) (s : State) : Host.Outcome State Fault Refusal :=
  s.mbRow n 0x2001 fun r s =>
    let b := r.payload
    let f := fun i => byteAt b i
    let z := fun i => signed 8 (byteAt b i)
    let p := f 0
    let on := decide (f 1 = 1)
    if b.length ≠ 16 then .reject badLength
    else match s.portCheck p with
    | some e => .reject e
    | none =>
      if 1 < f 1 ∨ 3 < f 2 ∨ f 3 = 0 ∨ 2 < f 3 ∨ z 4 < -7 ∨ 0 < z 4 ∨ z 5 < -7 ∨ 0 < z 5 ∨ z 6 < -3 ∨ 3 < z 6 ∨ 2 < f 7 ∨ f 8 = 0
          ∨ 3 < f 9 ∨ leAt b 10 2 ≠ 0 then .reject badParam
      else if f 3 = 2 ∧ s.on (PX_LINK_CTRL_enable p) then .reject 0x0102
      else
        let old := s.ptpOf p
        let st := match old with | some x => x.st | none => psInitializing
        let s := if on then s.setPtp p (some ⟨f 2, f 3, z 4, z 5, z 6, f 7, f 8, signed 32 (leAt b 12 4), st, 0⟩) else s.setPtp p none
        let s := s.ptpRole p
        let s := if s.on (TB_PTP_PORT_txts_owner p) = on then s else s.txtsOwnerChange p
        let mode := if on then (if s.ptp.clockType = 3 then 2 else 1) else 0
        let s := ((s.put (TB_PTP_PORT_mode p) mode).put (TB_PTP_PORT_one_step p) (f 9 % 2)).put (TB_PTP_PORT_ipv6_fix p) (f 9 / 2)
        .ok [] ((s.put (TB_PTP_PORT_txts_owner p) (flag on)).put (PR_PORT_CFG_ptp_trap p) (flag on))

/-- The parentPortIdentity, the grandmaster class and the rest of PTP_GET_STATUS (R274). -/
def State.ptpStatus (s : State) (p : Nat) : Bytes :=
  let d := s.ptp.data
  let st := match s.ptpOf p with | some x => x.st | none => 3
  bytes [st, s.ptp.servo] ++ leBytes 2 d.stepsRemoved ++ leBytes 8 (twos 64 d.offset) ++ leBytes 8 (twos 64 d.delay) ++ d.parent
    ++ bytes [d.gmClass, flag (s.on TB_STAT_suspect) + 2 * flag (s.on (PX_LINK_CTRL_enable p))]

/-- PTP_GET_STATUS (R274). -/
def execPtpGetStatus (n : Fin 4) (s : State) : Host.Outcome State Fault Refusal :=
  s.mbRow n 0x2002 fun r s =>
    if r.payload.length ≠ 4 then .reject badLength
    else match s.portCheck (byteAt r.payload 0) with
    | some e => .reject e
    | none => if leAt r.payload 1 3 ≠ 0 then .reject badParam else .ok (s.ptpStatus (byteAt r.payload 0)) s

/-- The clock is a T-GM whose time channel is LOCKED. -/
def State.gmLocked (s : State) : Bool := decide (s.ptp.clockType = 1) && decide (s.tcState s.timeCh = 2)

/-- The clock's own clockClass: gm_class as T-GM while LOCKED (R272), else what the profile gives. -/
def State.annClass (s : State) : Nat := if s.gmLocked then s.ptp.gmClass else s.ptp.data.ownClass

/-- The data field of a dataset's management TLV, as IEEE 1588-2019 lays it out (R275, log entry 15). -/
def State.dataset (s : State) (d p : Nat) : Option Bytes :=
  let x := s.ptp.data
  let id := beBytes 8 Config.clockIdentity.toNat
  match d with
  | 0 => some (bytes [flag s.ptp.twoStep + 2 * flag (decide (s.ptp.clockType = 0)), 0] ++ beBytes 2 (s.ptp.ports.length)
      ++ bytes [s.ptp.prio1, s.annClass, x.ownAccuracy] ++ beBytes 2 x.ownVariance ++ bytes [s.ptp.prio2] ++ id ++ bytes [s.ptp.domain, 0])
  | 1 => some (beBytes 2 x.stepsRemoved ++ beBytes 8 (twos 64 x.offset) ++ beBytes 8 (twos 64 x.delay))
  | 2 => some (x.parent ++ bytes [flag x.parentStats, 0] ++ beBytes 2 x.obsVariance ++ beBytes 4 x.obsRate
      ++ bytes [x.prio1, x.gmClass, x.gmAccuracy] ++ beBytes 2 x.gmVariance ++ bytes [x.prio2] ++ x.gm)
  | 3 => some (beBytes 2 (twos 16 x.utc) ++ bytes [x.tflags, x.timeSource])
  | 4 => (s.ptpOf p).map fun e => id ++ beBytes 2 (p + 1) ++ bytes [e.st, twos 8 e.logDelay] ++ beBytes 8 (twos 64 e.peerDelay)
      ++ bytes [twos 8 e.logAnnounce, 3, twos 8 e.logSync, e.delay, twos 8 e.logDelay, 2]
  | _ => none

/-- PTP_GET_DATASET (R275). -/
def execPtpGetDataset (n : Fin 4) (s : State) : Host.Outcome State Fault Refusal :=
  s.mbRow n 0x2003 fun r s =>
    let d := byteAt r.payload 0
    let p := byteAt r.payload 1
    if r.payload.length ≠ 4 then .reject badLength
    else if 4 < d ∨ leAt r.payload 2 2 ≠ 0 then .reject badParam
    else match (if d = 4 then s.portCheck p else none) with
    | some e => .reject e
    | none => match s.dataset d p with | some b => .ok b s | none => .reject badState

/-! ### Messages -/

/-- The servo takes a new offsetFromMaster (R250), unless the port's link is COARSE or FINE (R280): in FREERUN or ACQUIRING an offset above the
threshold is stepped out where steps are allowed; every other offset is a sample of reference 60. `since` is TB_STEP_CNT when the interval
of the measurement began: an offset whose interval contains a step is discarded (R249). -/
def State.servo (s : State) (p : Nat) (ofs : Int) (since : Nat) : State :=
  let st := s.tcState s.timeCh
  if s.linkFeeds p ∨ since ≠ s.get TB_STEP_CNT_count then s
  else if s.ptp.steps ∧ (st = 0 ∨ st = 1) ∧ s.ptp.stepNs * 65536 < ofs.natAbs then
    { s with ptp := { s.ptp with servo := 1 } }.stepNext (-(ofs * 65536))
  else
    let s := { s with ptp := { s.ptp with servo := 2 } }
    let v := twos 64 ofs
    (s.ptpOfsLo (BitVec.ofNat 32 v)).ptpOfsHi (BitVec.ofNat 32 (v / 2 ^ 32)) since

/-- The PTP message of a frame, from its header on. -/
def State.ptpMsg (s : State) (x : Pkt) : Bytes :=
  match x.levels.find? fun l => l.1 = s.get TB_PTP_CFG_ptp_clause with
  | some l => x.bytes.drop l.2
  | none => x.bytes.drop 14

/-- What the stack concludes from a message: port states with the peer delay of each port, datasets, an offset where one has been measured (with
TB_STEP_CNT when its interval began), and the QL of reference 60. The offset is corrected by the port's delayAsymmetry (R273; the sign is that of
IEEE 1588, log entry 15). -/
def State.ptpConclude (s : State) (p : Nat) (ports : List (Fin 48 × Nat × Int)) (after : PtpData) (fresh : Option (Fin 65536))
    (ql : Option (Fin 16)) : State :=
  let asym := match s.ptpOf p with | some x => x.asym | none => 0
  let data := if fresh.isSome then { after with offset := after.offset - asym } else after
  let s := { s with ptp := { s.ptp with data := data } }
  let s := ports.foldl (fun s e =>
    let s := match s.ptpOf e.1 with | some x => s.setPtp e.1 (some { x with peerDelay := e.2.2 }) | none => s
    s.ptpState e.1 e.2.1) s
  let s := match ql with | some q => (s.setQl 60 q).esmcCheck | none => s
  let s := match fresh with | some n => s.servo p data.offset n.val | none => s
  s.ptpRefLink

/-- A peer delay message: Pdelay_Req, Pdelay_Resp, Pdelay_Resp_Follow_Up. -/
def isPdelay (m : Bytes) : Bool := [2, 3, 10].contains (byteAt m 0 % 16)

/-- The instance takes part in message `m` on port `p` (R263, R264): the port is in it, the domain is its own, majorSdoId is 0 (1 is that of IEEE
802.1AS), and peer delay messages are not those of an FPL link. -/
def State.ptpTakes (s : State) (p : Nat) (m : Bytes) : Bool :=
  (s.ptpOf p).isSome && decide (s.ptp.profile ≠ 0) && decide (byteAt m 4 = s.ptp.domain) && decide (byteAt m 0 / 16 = 0)
    && !(isPdelay m && s.on (PX_LINK_CTRL_enable p))

/-- Unicast negotiation under G.8275.2 (R263): a Signaling message leaves so many grantees and grantors. -/
def State.ptpGrants (s : State) (m : Bytes) (grants : Fin 65 × Fin 5) : State :=
  if s.ptp.profile = 3 ∧ byteAt m 0 % 16 = 12 then
    { s with ptp := { s.ptp with grantees := grants.1.val, grantors := grants.2.val } }
  else s

/-- PTP_MESSAGE_RECEIVE (R263, R264): the stack takes the next frame of CPU queue `c`. A message that the instance takes no part in, or a
management message, is discarded. `ql` is the QL it gives, with the grantees and grantors that stand then. -/
def execPtpMessageReceive (c : Fin 32) (ports : List (Fin 48 × Nat × Int)) (after : PtpData) (fresh : Option (Fin 65536))
    (ql : Option (Fin 16) × Fin 65 × Fin 5) (s : State) : Host.Outcome State Fault Refusal :=
  s.mpTake c 1 fun x s =>
      let m := s.ptpMsg x
      if ¬ s.ptpTakes x.port m then s
      else if byteAt m 0 % 16 = 13 then { s with ptp := { s.ptp with mgmt := s.ptp.mgmt + 1 } }
      else
        let s := if byteAt m 0 % 16 < 4 then s.pm 7 0x73 1 else s
        (s.ptpConclude x.port ports after fresh ql.1).ptpGrants m ql.2

/-- A message as it leaves (its layout is that of IEEE 1588, log entry 15). An Announce of a T-GM while LOCKED gives gm_class (R272); while
TB_SUSPECT is set any Announce gives what R252 says. A Sync carries the two-step flag of PTP_SET_PROFILE (R272). -/
def State.announced (s : State) (m : Bytes) : Bytes :=
  if byteAt m 0 % 16 = 11 then
    if s.on TB_STAT_suspect then overlay (overlay m 7 [BitVec.ofNat 8 (byteAt m 7 &&& 0xCF)]) 48 (bytes [248, 0xFE])
    else if s.gmLocked then overlay m 48 (bytes [s.ptp.gmClass])
    else m
  else if byteAt m 0 % 16 = 0 then overlay m 6 [BitVec.ofNat 8 ((byteAt m 6 &&& 0xFD) + 2 * flag s.ptp.twoStep)]
  else m

/-- The instance sends message `m` on port `p` (R263, R264): it takes part in it; no management message; peer delay only where the port's delay
mechanism is that, and Pdelay_Resp two-step. -/
def State.ptpSends (s : State) (p : Nat) (x : PtpPort) (m : Bytes) : Bool :=
  decide (44 ≤ m.length) && s.ptpTakes p m && decide (byteAt m 0 % 16 ≠ 13) && (!isPdelay m || decide (x.delay = 2))
    && (decide (byteAt m 0 % 16 ≠ 3) || bitOf (byteAt m 6) 1)

/-- The parse records of a PTP message of the MP's own: its headers by the port's transport (log entry 15). -/
def State.ptpLevels (s : State) (transport n : Nat) : List (Nat × Nat) :=
  (if transport = 2 then [(s.get TB_PTP_CFG_ipv4_clause, n - 28), (s.get TB_PTP_CFG_udp_clause, n - 8)]
   else if transport = 3 then [(s.get TB_PTP_CFG_ipv6_clause, n - 48), (s.get TB_PTP_CFG_udp_clause, n - 8)] else [])
    ++ [(s.get TB_PTP_CFG_ptp_clause, n)]

/-- PTP_MESSAGE_SEND (R263, R252): the stack sends message `msg` under the headers `hdr` on a port of the instance, through the Class T
FIFO. -/
def execPtpMessageSend (p : Fin 48) (tc : Fin 8) (hdr msg : Bytes) (tsId : Option (Fin 65536)) (dbm : Bool) (s : State) :
    Host.Outcome State Fault Refusal :=
  match s.ptpOf p with
  | none => .next s
  | some x => finishIf (s.stacksRun && s.ptpSends p x msg) s (
      let m := s.announced msg
      let f := hdr ++ m
      let f := f ++ zeros (60 - f.length)
      let base := { Pkt.none with
        sysClass := 1, levels := s.ptpLevels x.transport hdr.length
        ptpWords := (BitVec.ofNat 32 (beAt m 0 4), BitVec.ofNat 32 (beAt m 4 4)) }
      s.injectAs base p tc true true (tsId.map (·.val)) f dbm)

end Sys2Proof.Machine
end

