-- ==== Sys2Proof/Machine/Tw.lean ====
section
/-! DEFINITION. The twin unit's commands: gallery frames, the use of the copy, election, check points, fail-over and forced roles (R386 to
R406, R411 to R417). -/

namespace Sys2Proof.Machine

/-! ### Small operations -/

/-- Change the twin unit's own record. -/
def State.twWith (s : State) (f : Twin → Twin) : State := { s with tw := f s.tw }

/-- TW_ELECT.wait_ms as it acts, in core clocks. -/
def State.waitClk (s : State) : Nat := clamp 10 60000 (s.get TW_ELECT_wait_ms) * 1250000

/-- The partner is a standby: its latest frame shows SYNCING, STANDBY or FAULTED with self_ok = 1 (R411). -/
def State.partnerReady (s : State) : Bool :=
  match s.tw.hdr with
  | some h => [4, 5, 6].contains h.state && h.selfOk
  | none => false

/-- The partner becomes absent (R400): SIMPLEX. -/
def State.partnerAbsent (s : State) : State :=
  let s := s.raise TW_INT_STAT_partner_absent
  let s := if s.twState = 3 then s.twEnter 2 else if s.isStandby then s.takeRole 2 1 else s
  let s := (s.set TW_STAT_partner_state 7).set TW_STAT_partner_self_ok 0
  s.twWith fun t => { t with hdr := none, partnerGone := true, taking := none }

/-- Is the partner absent (R400)? For an active module by a lasting gallery loss with HB_IN lost, for any by HB_IN lost and no valid
gallery frame for wait_ms. -/
def State.absentNow (s : State) : Bool :=
  [3, 4, 5, 6].contains s.twState && !s.on TW_STAT_hb_ok
    && ((decide (s.twState = 3) && s.tw.galLost) || decide (s.tw.frameAt + s.waitClk ≤ s.clk))

/-- Apply R400. -/
def State.absentCheck (s : State) : State := if s.absentNow then s.partnerAbsent else s

/-- Two modules are both active (R406): seat B releases. -/
def State.splitBrain (s : State) : State :=
  let s := (s.raise TW_STAT_split_brain).raise TW_INT_STAT_split_brain
  if s.on TW_STAT_seat ∧ (s.twState = 2 ∨ s.twState = 3) then
    let up := (s.on TW_STAT_gal0_up || s.on TW_STAT_gal1_up) && !s.tw.galLost
    (s.galSend (.release 6)).giveRole (if up then none else some 1) 6
  else s

/-- SYNCING ends when the copy is complete: the first STATE frame has been acted on and the resync has ended (log entry 16). -/
def State.standbyCheck (s : State) : State :=
  if s.twState = 4 ∧ ¬ s.tw.needSync ∧ ¬ s.on TW_STAT_resync_busy then s.twEnter 5 else s

/-- A takeover begins (R403). -/
def State.takeover (s : State) (cause : Nat) : State := (s.galSend .takeover).twWith fun t => { t with taking := some cause }

/-! ### Any frame -/

/-- Two modules with the same seat, or with different part codes, do not pair: the one that is no active enters FAULTED with cause cfg_seat or
cfg_variant, and stays there (R387, R402). -/
def State.pairFault (s : State) (h : GalHdr) : Option Nat :=
  if h.seat = s.on TW_STAT_seat then some 4 else if h.part ≠ s.partCode then some 5 else none

/-- A gallery frame has arrived: its header is kept, and a gallery that returns ends a lasting loss (R401). -/
def State.galHeard (s : State) (f : GalFrame) : State :=
  let back := s.tw.galLost
  let isElect := match f.body with | .elect _ => true | _ => false
  let s := s.twWith fun t => { t with hdr := some f.hdr, elect := isElect, frameAt := s.clk, partnerGone := false, galLost := false }
  let s := (s.set TW_STAT_partner_state f.hdr.state).setB TW_STAT_partner_self_ok f.hdr.selfOk
  let s := if s.twState = 2 ∧ isElect then s.twEnter 3 else s
  if s.isStandby ∧ (s.pairFault f.hdr).isSome then s.enterFaulted ((s.pairFault f.hdr).getD 0)
  else if s.twState = 6 then if s.get TW_STAT_fault_cause = 1 then s.enterSyncing else s
  else if back ∧ s.isStandby then (s.twEnter 4).resyncBegin
  else s

/-- The twin unit takes gallery frames unless it is DISABLED (R385). -/
def State.galOn (s : State) : Bool := decide (s.twState ≠ 0)

/-- This is the second copy of a frame: the first has come on the other lane (R388). -/
def State.secondCopy (s : State) (lane : Nat) (f : GalFrame) : Bool := s.tw.copies.contains (1 - lane, f)

/-- A DISABLED module with gal_loop 0x2 returns what a gallery lane receives (R412). -/
def State.galReturns (s : State) : Bool := decide (s.twState = 0) && decide (s.get TW_CTRL_gal_loop = 2)

/-- A frame comes with a good FCS on gallery lane `lane`, under the condition `on`: the first copy acts, the second is discarded (R388). -/
def State.galTake (s : State) (on : Bool) (lane : Nat) (f : GalFrame) (act : State → State) : Host.Outcome State Fault Refusal :=
  finishIf (on || s.galReturns) s (
    if s.galReturns then s.emit (.gal lane f (galWire f))
    else if s.secondCopy lane f then s.twWith fun t => { t with copies := t.copies.erase (1 - lane, f) }
    else act (s.twWith fun t => { t with copies := ((lane, f) :: t.copies).take 16 }))

/-- A frame of a type from 0x8 on is discarded, and counted as a gallery error (R390). -/
def State.galBad (s : State) (lane : Nat) (f : GalFrame) : Host.Outcome State Fault Refusal :=
  s.galTake s.galOn lane f fun s => s.twWith fun t => { t with errors := t.errors + 1 }

/-! ### STATE on a standby (R393 to R396, R402) -/

/-- TW_PX_COPY (R413). -/
def State.pxCopy (s : State) (x : GalState) : State :=
  (List.range s.lanes).foldl (fun s l =>
    match x.links[l]? with
    | none => s
    | some g =>
      let s := (s.set (TW_PX_COPY_state l) g.state).setB (TW_PX_COPY_cal_valid l) g.calValid
      let s := (s.set (TW_PX_COPY_far_node l) g.node).set (TW_PX_COPY_far_port l) g.port
      let s := (s.set (TW_PX_COPY_L_TX_v l) g.calTx).set (TW_PX_COPY_L_RX_v l) g.calRx
      let s := s.wr64 (TW_PX_COPY_RT_LO l) (TW_PX_COPY_RT_HI l) g.rt
      (s.wr64 (TW_PX_COPY_DUD_LO l) (TW_PX_COPY_DUD_HI l) g.delay).set (TW_PX_COPY_ASYM_v l) g.asym) s

/-- A stairway differs from the copy: in bank_active, or, at the same position, in flight count or tread (R396). -/
def State.stairDiffers (s : State) (x : GalState) : Bool :=
  (List.range s.lanes).any fun p =>
    match x.stairs[p]? with
    | none => false
    | some g =>
      decide (g.active = 1) && (decide (g.bank ≠ s.get (GT_STAT_bank_active p)) ||
        (decide (g.pos = s.position p s.tb.fifths / unit16) &&
          (decide (g.flights ≠ s.get (GT_FLIGHT_CNT_count p)) || decide (g.tread ≠ s.get (GT_STAT_tread p)))))

/-- Load a channel from the copy and start its switch to reference 62 (R393): steer `y` and integral term are converted by δ. The fine word that
carries the steer is free (log entry 2). -/
def State.syncChannel (s : State) (c : Nat) (g : GalChan) (y delta : Int) : State :=
  let (fine, s) := s.draw 24
  let y := y + 1000 * delta
  let s := (s.set (TC_DCO_WORD_band c) (bitsOf g.word 7 0)).set (TC_DCO_WORD_fine c) fine
  let s := s.setChan c { s.chanOf c with integ := g.integ + 1000 * delta, y := y, recent := [(y, signed 24 fine)], hold62 := true }
  s.switchTo c 62 true

/-- Channel `c` follows reference 62 on a standby. -/
def State.twChan (s : State) (c : Nat) : Bool := decide (c < s.chans) && s.bit TW_CH_MASK c

/-- The steer of channel `c` that a STATE frame copies, in 10⁻¹⁵: its filter terms, or in HOLDOVER its prediction (log entry 16). -/
def State.copiedSteer (s : State) (x : GalState) (c : Nat) : Int :=
  match x.chans[c]? with
  | none => 0
  | some g =>
    let model (c : Nat) : Int := match x.chans[c]? with | some g => s.modelAt g.mean g.slope g.mid | none => 0
    match bitsOf g.stat (TC_STAT_state c).hi (TC_STAT_state c).lo with
    | 0 => 0
    | 3 => 1000 * x.yho + model c - model s.timeCh
    | _ => g.prop + g.integ

/-- The first STATE frame after an entry into SYNCING (R393): TB is stepped by the coarse difference, and the channels are loaded. The QL
of reference 62 comes from the twin with a value that the spec does not give (R338, log entry 2). -/
def State.syncFirst (s : State) (x : GalState) (coarse delta : Int) : State :=
  let s := (s.stepNext (-(coarse * 65536))).refReturn 62
  let s := (List.range 6).foldl (fun s c => match x.chans[c]? with | some g => if s.twChan c then s.syncChannel c g (s.copiedSteer x c) delta else s | none => s) s
  let (q, s) := s.draw 4
  let s := if s.mpRuns then s.setQl 62 q else s
  s.twWith fun t => { t with needSync := false }

/-- Keep a copied record of a second for which the standby has none, converted by δ in 10⁻¹² (R396). -/
def State.copyRecord (s : State) (c : Nat) (r : HoRec) (delta : Int) : State :=
  let k := s.chanOf c
  if k.hist.prob.any (fun e => e.t = r.t) || k.owned.contains r.t then s
  else (s.setChan c { k with hist := k.hist.commit { r with y := r.y + 1000 * delta } }).histStat c

/-- What the copy of channel `c` does on a standby: probation discarded, records kept (R396). -/
def State.copyChannel (s : State) (c : Nat) (g : GalChan) (delta : Int) : State :=
  let s := if g.discarded then
      let k := s.chanOf c
      s.setChan c { k with hist := { k.hist with prob := [] } }
    else s
  match g.record with
  | some r => s.copyRecord c r delta
  | none => s

/-- δ of this cycle (R396, R404): published, and its mean kept for each second paired, up to the longest look-back. -/
def State.takeDelta (s : State) (delta : Option Int) : State :=
  let s := match delta with | some d => s.set TW_DELTA_delta (twos 32 (satSigned 32 d)) | none => s
  let d := signed 32 (s.get TW_DELTA_delta)
  s.twWith fun t =>
    if t.deltaN + 1 < 8000 then { t with deltaSum := t.deltaSum + d, deltaN := t.deltaN + 1 }
    else { t with deltaS := (((t.deltaSum + d) / 8000) :: t.deltaS).take 3600, deltaSum := 0, deltaN := 0, paired := t.paired + 1 }

/-- The period of output `o` in 2⁻¹⁶ ns, rounded down. -/
def State.outPer (s : State) (o : Nat) : Int := if s.isGen o then s.gridPer o else (65536 * 10 ^ 9 / s.outHz o).floor

/-- The MON input that gives the fine term of R395: enabled, measuring, with time_fine = 1 and an output of the time channel. -/
def State.fineInput (s : State) : Option Nat :=
  (List.range 4).find? fun k => s.on (TW_MON_CFG_enable k) && s.on (TW_MON_CFG_time_fine k) && s.on (TW_MON_STAT_valid k)
    && decide (s.outCh (s.get (TW_MON_CFG_out k)) = s.timeCh)

/-- The sample of reference 62 for the time channel (R395): the coarse term, or the phase of R397 in its place modulo the output period. -/
def State.sample62 (s : State) (coarse : Int) : Int :=
  match s.fineInput with
  | none => coarse
  | some k =>
    let per := s.outPer (s.get (TW_MON_CFG_out k))
    coarse + ((s.tw.monPhase.get 0 k - coarse + per / 2) % per - per / 2)

/-- δ from a MON input, in 0.001 ppb (R396): the frequency `y` of the partner's output against the own one is the OVO's offset with the copied
steer less the own steer. -/
def State.deltaOf (s : State) (x : GalState) (k : Nat) (y : Int) : Option Int :=
  let c := s.outCh (s.get (TW_MON_CFG_out k))
  if s.on (TW_MON_CFG_enable k) ∧ c < s.chans then some (y - (s.copiedSteer x c - s.fullSteer c) / 1000) else none

/-- The coarse term of R395, from ingress timestamp and round trip in 2⁻¹⁶ ns. -/
def State.coarse62 (s : State) (x : GalState) (ing rt : Int) : Int :=
  ing - ((x.egress.sec * 1000000000 * 65536 + x.egress.sub : Nat) : Int) - (rt + signed 32 (s.rd TW_GAL_ASYM).toNat) / 2

/-- The digests differ: FAULTED with cause cfg_digest, until they agree (R402, R417). -/
def State.digestCheck (s : State) (x : GalState) : State :=
  if x.digest ≠ s.twDigest then
    let s := s.raise TW_INT_STAT_cfg_mismatch
    if s.twState = 4 ∨ s.twState = 5 then s.enterFaulted 3 else s
  else if s.twState = 6 ∧ s.get TW_STAT_fault_cause = 3 then s.enterSyncing
  else s

/-- The partner's predictions (R333): for the time channel it is in the frame; the others follow from the models copied, as c(T) is that of the one OVO
of the partner (log entry 9). -/
def State.partnerSays (s : State) (x : GalState) (d : Int) : State :=
  let model (c : Nat) : Int := match x.chans[c]? with | some g => s.modelAt g.mean g.slope g.mid | none => 0
  (List.range s.chans).foldl (fun s c =>
    s.setChan c { s.chanOf c with partner := some (1000 * (x.yho + d) + model c - model s.timeCh) }) s

/-- A missed frame was transient (R392); where that escalates, a standby resyncs (R445). -/
def State.missTransient (s : State) : State :=
  let (esc, s) := ((s.inc TW_CNT_GAL_transient).raise TW_INT_STAT_gal_transient).hlTransient 0x09 0 0xFFFF 0
  if esc ∧ (s.twState = 4 ∨ s.twState = 5) then (s.twEnter 4).resyncBegin else s

/-- A STATE frame of cycle `cycle` has come (R392). After a miss the deltas of the cycle missed are awaited; where none have come by the next
STATE, that cycle had none (log entry 16). -/
def State.stateCame (s : State) (cycle : Nat) : State :=
  let s := if s.tw.late.isSome then s.missTransient else s
  s.twWith fun t => { t with missed := 0, nak := none, late := if t.missed = 1 then t.nak else none, ack := cycle }

/-- A STATE frame on a standby. -/
def State.galCopy (s : State) (h : GalHdr) (x : GalState) (ing rt : Int) (mon : Option (Fin 4 × Int)) : State :=
  let s := (s.stateCame h.cycle).twWith fun t => { t with copy := some x, okCh := x.okCh }
  let s := s.digestCheck x
  let s := if h.fault ∧ (s.twState = 4 ∨ s.twState = 5) then s.enterFaulted 2 else s
  let s := if h.resync ∧ ¬ s.on TW_STAT_resync_busy ∧ (s.twState = 4 ∨ s.twState = 5) then s.resyncBegin else s
  let s := (s.takeDelta (mon.bind fun m => s.deltaOf x m.1 m.2)).pxCopy x
  let d := signed 32 (s.get TW_DELTA_delta)
  let coarse := s.coarse62 x ing rt
  let s := if s.tw.needSync ∧ s.twState = 4 then s.syncFirst x coarse d
    else (s.refReturn 62).twWith fun t => { t with ofs62 := some (s.sample62 coarse) }
  let s := (List.range 6).foldl (fun s c => match x.chans[c]? with | some g => if s.twChan c then s.copyChannel c g d else s | none => s) s
  let s := s.partnerSays x d
  let s := if s.stairDiffers x then s.raise TW_INT_STAT_cfg_mismatch else s
  s.standbyCheck

/-- GAL_STATE_RECEIVE (R393): `ing` is its ingress timestamp and `rt` the gallery's round trip, in 2⁻¹⁶ ns; `mon` the frequency of the partner's
output against the own one on a MON input, in 0.001 ppb (R396). -/
def execGalStateReceive (lane : Fin 2) (f : GalFrame) (ing rt : Int) (mon : Option (Fin 4 × Int)) (s : State) :
    Host.Outcome State Fault Refusal :=
  match f.body with
  | .other .. => s.galBad lane f
  | .state x => s.galTake s.galOn lane f fun s => (
      let s := s.galHeard f
      if (s.twState = 2 ∨ s.twState = 3) ∧ (f.hdr.state = 2 ∨ f.hdr.state = 3) then s.splitBrain
      else if s.isStandby then s.galCopy f.hdr x ing rt mon
      else s)
  | _ => .next s

/-! ### Deltas and bulk (R392, R394) -/

/-- Apply one MAC entry by key; an invalid one is a removal. -/
def State.applyDelta (s : State) (e : Ent) : State :=
  if e.valid1 then (s.macInsert e).2
  else match s.macFind e.fid e.addr with
  | some loc => if (s.ent 0 loc).fixed then s else s.macRemove loc
  | none => s

/-- An entry from its four words. -/
def entOfWords (w : Word × Word × Word × Word) : Ent := ⟨w.1, w.2.1, w.2.2.1, w.2.2.2⟩

/-- The deltas of the cycle whose STATE was missing have come: the miss was transient (R392). -/
def State.deltasCame (s : State) (cycle : Nat) : State :=
  if s.isStandby ∧ s.tw.late = some cycle then (s.twWith fun t => { t with late := none }).missTransient else s

/-- GAL_DELTA_RECEIVE (R392, R394). -/
def execGalDeltaReceive (f : Fin 2 × GalFrame) (s : State) : Host.Outcome State Fault Refusal :=
  match f.2.body with
  | .other .. => s.galBad f.1 f.2
  | .delta l => s.galTake s.galOn f.1 f.2 fun s => (
      let s := (s.galHeard f.2).deltasCame f.2.hdr.cycle
      if s.isStandby then l.foldl (fun s w => s.applyDelta (entOfWords w)) s else s)
  | _ => .next s

/-- Records of a list that stand at a time `own` does not hold are taken over, in their order of time. -/
def mergeRecs : List HoRec → List HoRec → List HoRec
  | own, [] => own
  | own, r :: rs =>
    mergeRecs (if own.any fun e => e.t = r.t then own else own.filter (fun e => decide (e.t < r.t)) ++ r :: own.filter fun e => decide (r.t < e.t)) rs

/-- Keep bulk records, converted by δ. -/
def State.bulkRecords (s : State) (c : Nat) (long : Bool) (l : List HoRec) : State :=
  let d := signed 32 (s.get TW_DELTA_delta)
  let l := l.map fun r => { r with y := r.y + 1000 * d }
  let k := s.chanOf c
  let h := if long then { k.hist with h15 := mergeRecs k.hist.h15 l } else { k.hist with h16 := mergeRecs k.hist.h16 l }
  (s.setChan c { k with hist := h }).histStat c

/-- GAL_BULK_RECEIVE (R394). -/
def execGalBulkReceive (f : Fin 2 × GalFrame) (s : State) : Host.Outcome State Fault Refusal :=
  match f.2.body with
  | .other .. => s.galBad f.1 f.2
  | .bulkMac _ l => s.galTake s.galOn f.1 f.2 fun s => (
      let s := s.galHeard f.2
      if s.isStandby ∧ s.on TW_STAT_resync_busy then
        l.foldl (fun s w => (s.applyDelta (entOfWords w)).addWrap TW_RESYNC_entries 1) s
      else s)
  | .bulkHo _ c long l => s.galTake s.galOn f.1 f.2 fun s => (
      let s := s.galHeard f.2
      if s.isStandby ∧ s.twChan c then s.bulkRecords c long l else s)
  | _ => .next s

/-- RESYNC_COMPLETE (R394): the standby's insertions have completed, and the active sends no more. -/
def execResyncComplete (s : State) : Host.Outcome State Fault Refusal :=
  finishIf (s.isStandby && s.on TW_STAT_resync_busy && (match s.tw.hdr with | some h => !h.resync | none => false)) s
    (((s.set TW_STAT_resync_busy 0).raise TW_INT_STAT_resync_done).standbyCheck)

/-! ### Replies (R396) -/

/-- The deltas of the cycle after cycle `k` have left: those of `k`, asked for again, follow them at once, and else leave with them (R392). -/
def State.deltasGone (s : State) (k : Nat) : Bool := s.tw.sentDeltas.any fun e => decide (e.1 = (k + 1) % 2 ^ 32)

/-- GAL_REPLY_RECEIVE (R396): the active takes a standby's reply. A nak has the deltas of its cycle sent again, a resync in progress is
served. The prediction is that of the time channel; that of another channel differs from it as the module's own do (R333, log entry 9). -/
def execGalReplyReceive (f : Fin 2 × GalFrame) (s : State) : Host.Outcome State Fault Refusal :=
  match f.2.body with
  | .other .. => s.galBad f.1 f.2
  | .reply okCh delta yho _ => s.galTake s.galOn f.1 f.2 fun s => (
      let s := s.galHeard f.2
      if s.twState = 2 ∨ s.twState = 3 then
        let s := if s.tw.missed = 1 then s.missTransient else s
        let s := if s.deltasGone f.2.hdr.nak then s.galAgain f.2.hdr.nak else s
        let start := f.2.hdr.resync && !s.tw.served && s.tw.bulkNext.isNone
        let s := s.twWith fun t => { t with
          missed := 0, ack := f.2.hdr.cycle, okCh := okCh, declare := !f.2.hdr.selfOk
          resend := if f.2.hdr.nak = 0xFFFFFFFF ∨ s.deltasGone f.2.hdr.nak then none else some f.2.hdr.nak
          bulkNext := if start then some 0 else t.bulkNext
          served := f.2.hdr.resync }
        let s := if start then (s.raise TW_STAT_resync_busy).set TW_RESYNC_entries 0 else s
        let base := s.predict s.timeCh
        (List.range s.chans).foldl (fun s c =>
          s.setChan c { s.chanOf c with partner := some (1000 * (yho - delta) + s.predict c - base) }) s
      else s)
  | _ => .next s

/-! ### Missing frames (R392, R401) -/

/-- GAL_STATE_MISSING (R392): the partner's frame of this cycle has not arrived; on an active module it is the REPLY (log entry 16). -/
def execGalStateMissing (s : State) : Host.Outcome State Fault Refusal :=
  finishIf ([3, 4, 5, 6].contains s.twState && !s.tw.galLost) s (
    if s.tw.missed = 0 then
      s.twWith fun t => { t with missed := 1, nak := if s.isStandby then some (s.tb.cycle % 2 ^ 32) else none }
    else
      let s := (s.inc TW_CNT_GAL_lasting).raise TW_INT_STAT_gal_lasting
      let s := s.twWith fun t => { t with missed := 2, nak := none, late := none, galLost := true }
      let s := (s.refLoss 62).hlLasting 0x09 0 0xFFFF 0
      let s := if (s.twState = 4 ∨ s.twState = 5) ∧ s.on TW_STAT_hb_ok then s.enterFaulted 1 else s
      s.absentCheck)

/-! ### Election (R386, R387) -/

/-- GAL_ELECT_RECEIVE (R387): the evidence is kept for the next check point. In the serial loop of R412 the module's own frame returns, and
is counted. -/
def execGalElectReceive (f : Fin 2 × GalFrame) (s : State) : Host.Outcome State Fault Refusal :=
  match f.2.body with
  | .other .. => s.galBad f.1 f.2
  | .elect d =>
    if s.galOn then s.galTake true f.1 f.2 fun s => ((s.galHeard f.2).twWith fun t => { t with digest := some d })
    else s.galTake (decide (s.get TW_CTRL_gal_loop = 1) && decide (d = s.twDigest) && decide (f.2.hdr.seat = s.on TW_STAT_seat)) f.1 f.2
      fun s => s.inc TW_RESYNC_loop_ok
  | _ => .next s

/-- Row 2 would make this module ACTIVE: the higher priority, at equal priority seat A. -/
def State.winsElection (s : State) (h : GalHdr) : Bool :=
  decide (h.prio < s.get TW_CTRL_prio) || (decide (h.prio = s.get TW_CTRL_prio) && !s.on TW_STAT_seat)

/-- The loser's state: SYNCING, or FAULTED where the modules do not pair. Where no frame has been heard, the first one heard in SYNCING tells. -/
def State.loseElection (s : State) (h : Option GalHdr) : State :=
  match h.bind s.pairFault with
  | some cause => s.enterFaulted cause
  | none => s.enterSyncing

/-- Rows 1 and 2, at a check point. -/
def State.electionCheck (s : State) : State :=
  if s.twState ≠ 1 then s
  else
    match s.tw.hdr with
    | some h =>
      if h.state = 2 ∨ h.state = 3 ∨ s.on TW_STAT_hb_partner_active then s.loseElection (some h)
      else if s.tw.elect ∧ h.state = 1 then (if s.winsElection h then s.takeRole 3 7 else s.loseElection (some h))
      else s
    | none => if s.on TW_STAT_hb_partner_active then s.loseElection none else s

/-- ELECT_WAIT_EXPIRY (R387 rows 3 and 4): wait_ms have passed without a valid gallery frame, since leaving reset or since the last one. -/
def execElectWaitExpiry (s : State) : Host.Outcome State Fault Refusal :=
  finishIf (decide (s.twState = 1) && (s.tw.hdr.isNone || decide (s.tw.frameAt + s.waitClk ≤ s.clk))) s (
    if ¬ s.on TW_STAT_hb_ok then s.takeRole 2 7
    else if s.on TW_STAT_hb_partner_active then s.enterSyncing
    else if ¬ s.on TW_STAT_seat then s.takeRole 3 7
    else s.enterFaulted 1)

/-! ### Check points (R397, R399) -/

/-- The measurement of MON input `k`: mean phase of the partner's output against the own one in 2⁻¹⁶ ns, activity. TW_MON_ADJ is taken off it
(R397). Consecutive mismatches count; the second makes it lasting. -/
def State.monMeasure (s : State) (k : Nat) (m : Option (Int × Bool)) : State :=
  if ¬ s.on (TW_MON_CFG_enable k) then
    (s.wr (TW_MON_STAT k) 0).twWith fun t => { t with monRun := t.monRun.put 0 k 0 }
  else
    let (raw, active) := m.getD (0, false)
    let phase := raw - signed 32 (s.rd (TW_MON_ADJ k)).toNat
    let bad := !active || decide (s.get (TW_MON_CFG_thr k) * 65536 < phase.natAbs * 100)
    let run := s.tw.monRun.get 0 k
    let s := s.twWith fun t => { t with monPhase := t.monPhase.put 0 k phase }
    let s := (s.set (TW_MON_STAT_dphi k) (twos 24 (satSigned 24 (phase * 100 / 65536)))).setB (TW_MON_STAT_mismatch k) bad
    let s := (s.setB (TW_MON_STAT_active k) active).setB (TW_MON_STAT_valid k) active
    let s := s.twWith fun t => { t with monRun := t.monRun.put 0 k (if bad then min 3 (run + 1) else 0) }
    if bad ∧ run = 1 then (s.inc TW_CNT_MON_lasting).raise TW_INT_STAT_mon_lasting
    else if ¬ bad ∧ run = 1 then s.inc TW_CNT_MON_transient
    else s

/-- The voters of channel `c` other than the OVO that are QUALIFIED. -/
def State.goodVoters (s : State) (c : Nat) : Nat :=
  ((List.range 63).filter fun r => decide (r ≠ 62) && decide (s.refPrio c r ≠ 0) && decide (s.refStatus c r = 4)).length

/-- R399 for a lasting mismatch of channel `c`. -/
def State.judgePartner (s : State) (c : Nat) : State :=
  let okPartner := (match s.tw.hdr with | some h => h.selfOk | none => false) && bitOf s.tw.okCh c
  if s.tw.missed ≠ 0 ∨ s.tw.galLost then s.partnerAbsent
  else if ¬ okPartner then s.takeover 2
  else if ¬ s.chOk c then s.enterFaulted 2
  else if s.refStatus c 62 = 1 ∧ 2 ≤ s.goodVoters c then s.takeover 3
  else s.raise TW_INT_STAT_mon_undecided

/-- Apply R399 for every lasting mismatch while the module is STANDBY or SYNCING and has not decided. -/
def State.decideCheck (s : State) : State :=
  (List.range 4).foldl (fun s k =>
    if (s.twState = 4 ∨ s.twState = 5) ∧ s.tw.taking.isNone ∧ 2 ≤ s.tw.monRun.get 0 k then
      s.judgePartner (s.outCh (s.get (TW_MON_CFG_out k)))
    else s) s

/-- HB_IN at a check point: no valid pattern, or a non-active or active partner (R384). A heartbeat shows a SIMPLEX module its partner
again (R400); one that reads active for 1.25 ms on an active module shows two active modules (R406). -/
def State.heartbeat (s : State) (hb : Option Bool) : State :=
  let s := (s.setB TW_STAT_hb_ok hb.isSome).setB TW_STAT_hb_partner_active (hb.getD false)
  let s := if s.twState = 2 ∧ hb.isSome then (s.twEnter 3).twWith fun t => { t with partnerGone := false, frameAt := s.clk } else s
  if (s.twState = 2 ∨ s.twState = 3) ∧ hb = some true then
    match s.tw.hbSince with
    | none => s.twWith fun t => { t with hbSince := some s.clk }
    | some t0 => if t0 + 1562500 ≤ s.clk then (s.twWith fun t => { t with hbSince := none }).splitBrain else s
  else s.twWith fun t => { t with hbSince := none }

/-- TW_CHECK_POINT (R397): the MON measurements, phases in 2⁻¹⁶ ns, since the previous check point, the high time of HB_IN in ns where it toggles, and the gallery
lanes. -/
def execTwCheckPoint (mon : List (Fin 4 × Int × Bool)) (hb : Option Nat) (gal0 gal1 : Bool) (s : State) :
    Host.Outcome State Fault Refusal :=
  whenUp s (
  finish (
    let s := (s.setB TW_STAT_gal0_up gal0).setB TW_STAT_gal1_up gal1
    let s := (List.range 4).foldl (fun s k => s.monMeasure k ((mon.find? fun e => e.1.val = k).map (·.2))) s
    if ¬ s.galOn then s
    else (((s.heartbeat (hbReads hb)).electionCheck).decideCheck).absentCheck))

/-- HB_IN_LOST (R400, R401). -/
def execHbInLost (s : State) : Host.Outcome State Fault Refusal :=
  finishIf (s.on TW_STAT_hb_ok) s (
    let s := ((s.set TW_STAT_hb_ok 0).set TW_STAT_hb_partner_active 0).raise TW_INT_STAT_hb_lost
    (s.twWith fun t => { t with hbSince := none }).absentCheck)

/-! ### Fail-over (R403, R405) -/

/-- GAL_TAKEOVER_RECEIVE (R403 step 2). The cause that the old active records is left open (log entry 2). -/
def execGalTakeoverReceive (f : Fin 2 × GalFrame) (s : State) : Host.Outcome State Fault Refusal :=
  match f.2.body with
  | .other .. => s.galBad f.1 f.2
  | .takeover => s.galTake s.galOn f.1 f.2 fun s => (
      let s := s.galHeard f.2
      if s.twState = 2 ∨ s.twState = 3 then
        let ok := s.selfOk
        let (cause, s) := s.draw 4
        (s.galSend (.release cause)).giveRole (if ok then none else some 2) cause
      else s)
  | _ => .next s

/-- GAL_RELEASE_RECEIVE (R403, R405): a standby whose own root is in lock enters ACTIVE; one that has sent TAKEOVER has its own cause. -/
def execGalReleaseReceive (f : Fin 2 × GalFrame) (s : State) : Host.Outcome State Fault Refusal :=
  match f.2.body with
  | .other .. => s.galBad f.1 f.2
  | .release cause => s.galTake s.galOn f.1 f.2 fun s => (
      let was := s.twState
      let s := s.galHeard f.2
      if [4, 5, 6].contains was ∧ (s.rootLocked ∨ s.tw.taking.isSome) then s.takeRole 3 (s.tw.taking.getD cause) else s)
  | _ => .next s

/-- TAKEOVER_RELEASE_WAIT (R403): 20 µs after TAKEOVER without RELEASE. -/
def execTakeoverReleaseWait (s : State) : Host.Outcome State Fault Refusal :=
  match s.tw.taking with
  | some c => finishIf s.isStandby s (s.takeRole 3 c)
  | none => .next s

/-- The cause of FAULTED is absent (R402). -/
def State.faultGone (s : State) : Bool :=
  match s.get TW_STAT_fault_cause with
  | 1 => !s.tw.galLost && s.tw.hdr.isSome
  | 2 => s.selfOk && (match s.tw.hdr with | some h => !h.fault | none => true)
  | _ => false

/-- FAULT_CAUSE_EXPIRY (R402): the cause has been absent for 10 s. -/
def execFaultCauseExpiry (s : State) : Host.Outcome State Fault Refusal :=
  finishIf (decide (s.twState = 6) && s.faultGone) s s.enterSyncing

/-! ### Forced roles (R411, R416) -/

/-- A write of TW_FORCE. -/
def State.twForce (s : State) (role : Nat) : State :=
  if role = 2 ∧ s.isStandby then s.takeover 5
  else if role = 1 ∧ s.twState = 3 ∧ s.partnerReady then (s.galSend (.release 5)).giveRole none 5
  else s

/-- TW_FORCE_ROLE (R416): it answers when the role change has completed. -/
def execTwForceRole (n : Fin 4) (s : State) : Host.Outcome State Fault Refusal :=
  s.mbRow n 0x3002 fun r s =>
    let role := byteAt r.payload 0
    if r.payload.length ≠ 4 then .reject badLength
    else if (role ≠ 1 ∧ role ≠ 2) ∨ leAt r.payload 1 3 ≠ 0 then .reject badParam
    else if role = 2 then (if s.isStandby then .later (s.twForce 2) else .reject badState)
    else if s.twState = 3 ∧ s.partnerReady then .ok [] (s.twForce 1)
    else .reject 0x0100

/-! ### LACP (R407, R408) -/

/-- LACPDU_TEMPLATE_SEND (R408): while mp_running reads 0 the twin unit sends a port's periodic LACPDU, a period after the last one. -/
def execLacpduTemplateSend (p : Fin 48) (s : State) : Host.Outcome State Fault Refusal :=
  finishIf (!s.on MB_EPOCH_mp_running && s.portHere p && s.lacpOverdue p) s (s.lacpNow p)

/-- The MP's stack sets the template of port `p`; its period runs on from the last LACPDU sent. -/
def State.setTemplate (s : State) (p : Nat) (b : Bytes) (fast : Bool) : State :=
  let at' := match s.tw.templates.get none p with | some t => t.at' | none => s.clk
  s.twWith fun t => { t with templates := t.templates.put none p (some ⟨b, fast, at'⟩) }

/-- LACPDU_SEND (R408): the MP's stack sends a port's periodic LACPDU, and keeps its template. -/
def execLacpduSend (p : Fin 48) (b : Bytes) (fast : Bool) (s : State) : Host.Outcome State Fault Refusal :=
  finishIf (s.stacksRun && s.portHere p) s ((s.setTemplate p b fast).lacpNow p)

/-- LACPDU_RECEIVE (R407): the MP's stack takes the next frame of CPU queue `c`; templates that its conclusions change are in `now`. -/
def execLacpduReceive (c : Fin 32) (now : List (Fin 48 × Bytes × Bool)) (s : State) : Host.Outcome State Fault Refusal :=
  s.mpTake c 3 fun _ s => now.foldl (fun s e => s.setTemplate e.1 e.2.1 e.2.2) s

/-! ### Mailbox (R414, R415, R417) -/

/-- TW_GET_STATUS (R414). -/
def execTwGetStatus (n : Fin 4) (s : State) : Host.Outcome State Fault Refusal :=
  s.mbRow n 0x3000 fun r s =>
    if r.payload.length ≠ 0 then .reject badLength
    else
      let fl := s.get TW_STAT_seat + 2 * s.get TW_STAT_gal0_up + 4 * s.get TW_STAT_gal1_up + 8 * s.get TW_STAT_hb_ok
        + 16 * s.get TW_STAT_resync_busy + 32 * s.get TW_STAT_split_brain
      .ok (bytes [s.twState, s.get TW_STAT_partner_state, fl, s.get TW_STAT_fault_cause] ++ leBytes 4 s.tw.foCount
        ++ leBytes 4 (s.get TW_DELTA_delta) ++ leBytes 6 s.tw.foSec ++ leBytes 4 (s.get TW_FO_TIME_NS_ns)
        ++ bytes [s.get TW_FO_cause, 0]) s

/-- A mask names only channels and outputs that are present. -/
def State.twMasksOk (s : State) (ch out : Nat) : Bool :=
  decide (ch < 2 ^ s.chans) && ((List.range 24).all fun o => !bitOf out o || s.outHere o)

/-- The twin configuration that the settings store keeps, and that firmware restores before mp_running first reads 1. -/
def twRegs : List Nat :=
  [TW_CTRL, TW_CH_MASK, TW_OUT_MASK, TW_ELECT, TW_GAL_ASYM, TW_LAG_LO, TW_LAG_HI] ++ (List.range 4).map TW_MON_CFG ++ (List.range 4).map TW_MON_ADJ

/-- Keys of the settings store that hold the LAG identity, which is in no register. -/
def lagKey (k : Nat) : Nat := 0x10000000 + k

/-- Keep the twin configuration in the settings store. -/
def State.twSave (s : State) : State :=
  s.saveSettings ((twRegs.map fun a => (a, s.shadow a)) ++
    [(lagKey 0, BitVec.ofNat 32 (s.tw.sysPrio + s.tw.key * 2 ^ 16)), (lagKey 1, BitVec.ofNat 32 (leAt s.tw.sysId 0 4)),
     (lagKey 2, BitVec.ofNat 32 (leAt s.tw.sysId 4 2 + flag s.tw.fast * 2 ^ 16))])

/-- TW_CONFIG (R415). -/
def execTwConfig (n : Fin 4) (s : State) : Host.Outcome State Fault Refusal :=
  s.mbRow n 0x3001 fun r s =>
    let b := r.payload
    let f := fun i => byteAt b i
    if b.length ≠ 48 then .reject badLength
    else if 7 < f 0 ∨ 15 < f 1 ∨ f 3 ≠ 0 ∨ f 7 ≠ 0 ∨ leAt b 10 2 ≠ 0 ∨ leAt b 44 4 ≠ 0 ∨ 63 < f 2 ∨ 2 ^ 18 ≤ leAt b 4 3
        ∨ (List.range 4).any (fun k => bitOf (f (16 + k)) 5 ∨ 17 < f (16 + k) % 32) then .reject badParam
    else if ¬ s.twMasksOk (f 2) (leAt b 4 3) ∨ (List.range 4).any (fun k => ¬ s.outHere (f (16 + k) % 32)) then .reject noInstance
    else
      let s := ((s.put TW_CTRL_enable (f 0 % 2)).put TW_CTRL_out_gate (f 0 / 2 % 2)).put TW_CTRL_px_seed (f 0 / 4)
      let s := ((s.put TW_CTRL_prio (f 1)).put TW_CH_MASK_ch (f 2)).put TW_OUT_MASK_out (leAt b 4 3)
      let s := (s.put TW_ELECT_wait_ms (leAt b 8 2)).putW TW_GAL_ASYM (leAt b 12 4)
      .ok [] (State.twSave ((List.range 4).foldl (fun s k =>
        let s := ((s.put (TW_MON_CFG_enable k) (f (16 + k) / 128)).put (TW_MON_CFG_time_fine k) (f (16 + k) / 64 % 2)).put (TW_MON_CFG_out k) (f (16 + k) % 32)
        (s.put (TW_MON_CFG_thr k) (leAt b (20 + 2 * k) 2)).putW (TW_MON_ADJ k) (leAt b (28 + 4 * k) 4)) s))

/-- A member template as TW_LAG_CONFIG rebuilds it: the actor TLV of IEEE 802.1AX with this module's identity, port number and state; the
partner's half is kept (log entry 16). -/
def State.rebuiltTemplate (s : State) (p : Nat) : Template :=
  let t : Template := (s.tw.templates.get none p).getD ⟨zeros 110, false, s.clk⟩
  let port := if s.on TW_STAT_seat then p + 0x101 else p + 1
  let st := 1 + 2 * flag s.tw.fast
  let actor := bytes [1, 1, 1, 20] ++ beBytes 2 s.tw.sysPrio ++ s.tw.sysId ++ beBytes 2 s.tw.key ++ beBytes 2 0x8000 ++ beBytes 2 port
    ++ bytes [st]
  { t with pdu := overlay t.pdu 0 actor, fast := s.tw.fast }

/-- The templates of the member ports are rebuilt, and lacp_trap is set on them. -/
def State.lagTemplates (s : State) (mask : Nat) : State :=
  (bitsSet mask 48).foldl (fun s p =>
    let t := s.rebuiltTemplate p
    (s.setTemplate p t.pdu t.fast).put (PR_PORT_CFG_lacp_trap p) 1) s

/-- TW_LAG_CONFIG (R417). -/
def execTwLagConfig (n : Fin 4) (s : State) : Host.Outcome State Fault Refusal :=
  s.mbRow n 0x3003 fun r s =>
    let b := r.payload
    let mask := leAt b 0 6
    if b.length ≠ 24 then .reject badLength
    else if 3 < byteAt b 16 ∨ leAt b 17 7 ≠ 0 then .reject badParam
    else if 2 ^ s.lanes ≤ mask then .reject noInstance
    else
      let s := s.twWith fun t => { t with sysPrio := leAt b 6 2, sysId := slice b 8 6, key := leAt b 14 2, fast := bitOf (byteAt b 16) 0 }
      let s := ((s.putW TW_LAG_LO (mask % 2 ^ 32)).put TW_LAG_HI_ports (mask / 2 ^ 32)).put TW_CTRL_lag_en (byteAt b 16 / 2)
      .ok [] (s.lagTemplates mask).twSave

end Sys2Proof.Machine
end

