-- ==== Sys2Proof/Machine/Boot.lean ====
section
/-! DEFINITION. A start of the MP: the loader's choice of an image, the settings, the first boot after module reset, and the answers to
outstanding requests (R72, R125, R202, R421, R426, R428, R433, R435); and SYS_GET_INFO (R75). -/

namespace Sys2Proof.Machine

/-! ### The loader -/

/-- Staged blocks that fail their CRC are discarded (R421). -/
def State.stagingCheck (s : State) : State :=
  let keep := s.fu.blocks.filter fun e =>
    match e.2 with
    | some b => (match b.data with | some d => decide (crc32c d = b.crc) | none => false)
    | none => false
  if keep.length = s.fu.blocks.length then s
  else { s with fu := { s.fu with blocks := keep } }.raise FU_INT_STAT_staging_discard

/-- The loader runs the slot taken where it passes, else the other slot, else the recovery loader (R428). -/
def State.bootSlot (s : State) (k : Nat) : State :=
  let run := if s.hl.badCode then 0xFF else if k < 2 ∧ s.bootable k then k else if k < 2 ∧ s.bootable (1 - k) then 1 - k else 0xFF
  { s with fu := { s.fu with running := run, trialClk := s.clk } }

/-- The winner goes back to its fallback with a result (R428, R433). -/
def State.fallBack (s : State) (flash : Bool) (w : PtrRec) (result : Nat) : State :=
  ((s.writePtr flash { w with active := w.fallback, trial := false, boots := 0, result := result }).fuIdle result).raise FU_INT_STAT_reverted

/-- The loader selects an image (R428). -/
def State.loader (s : State) (flash : Bool) : State :=
  match s.winner with
  | none => s.bootSlot 0
  | some (_, w) =>
    if w.trial ∧ 3 ≤ w.boots then (s.fallBack flash w 3).bootSlot w.fallback
    else if w.trial then (s.writePtr flash { w with boots := w.boots + 1 }).bootSlot w.active
    else s.bootSlot w.active

/-- The update state after a start (R426). -/
def State.fuResume (s : State) : State :=
  let hung := s.fu.act.isSome
  let s := { s with fu := { s.fu with act := none, pause := none, resetDue := false, revertDue := false } }
  let s := if s.mp.booted then s else s.set FU_STAT_last_result (match s.winner with | some w => w.2.result | none => 0)
  let s := if hung then s.set FU_STAT_last_result 5 else s
  let s := match s.fu.upd with
    | 2 => (s.fuState 1).set FU_STAT_progress 0
    | 5 => if s.onTrial then s.fuState 5 else s.stagingClear.fuState 0
    | u => s.fuState u
  s.fuRegs

/-! ### Settings (R433) -/

/-- Firmware erases records newer than its schema and migrates an older one. -/
def State.settle (s : State) : State :=
  let k := s.schema
  let s := { s with fu := { s.fu with store := s.fu.store.filter fun r => decide (r.schema ≤ k) } }
  match s.record k with
  | some r => if r.schema = k then s else s.writeRecord k r.data
  | none => s

/-- The settings are written to the registers and the twin unit at a first boot. -/
def State.restore (s : State) : State :=
  match s.record s.schema with
  | none => s
  | some r =>
    let s := r.data.foldl (fun s e => if e.1 < lagKey 0 then s.store e.1 0xFFFFFFFF e.2 else s) s
    let id := fun k => (r.data.get 0 (lagKey k)).toNat
    let s := s.twWith fun t => { t with
      sysPrio := id 0 % 2 ^ 16, key := id 0 / 2 ^ 16, sysId := leBytes 4 (id 1) ++ leBytes 2 (id 2), fast := bitOf (id 2) 16 }
    s.lagTemplates ((s.shadow TW_LAG_LO).toNat + bitsOf (s.shadow TW_LAG_HI) 15 0 * 2 ^ 32)

/-! ### The firmware begins to serve -/

/-- The request in the buffer of mailbox `n`, by its header. -/
def State.mbHeader (s : State) (n : Nat) : MbReq :=
  let h := s.mbBytes n 4
  ⟨leAt h 0 2, leAt h 2 2, leAt h 8 2, leAt h 10 2, leAt h 12 4, []⟩

/-- The restarted firmware answers every POSTED and TAKEN request ABORTED with the new epoch (R72, R64). -/
def State.abortAll (s : State) : State :=
  let e := s.get MB_EPOCH_epoch
  (List.range 4).foldl (fun s n =>
    let s := s.setMb n { s.mb n with segs := none, busy := none }
    if s.mbState n = mbPosted then s.mbAnswer n (s.mbHeader n) 3 2 e []
    else if s.mbState n = mbTaken then s.mbAnswer n ((s.mb n).taken.getD (s.mbHeader n)) 3 0 e []
    else s) s

/-- The epoch advances, from 0xFFFF to 0x0001 (R66). -/
def State.epochNext (s : State) : State :=
  (s.set MB_EPOCH_epoch (if s.get MB_EPOCH_epoch = 0xFFFF then 1 else s.get MB_EPOCH_epoch + 1)).raise MB_INT_STAT_epoch_change

/-- The MP's own counts begin again, and the PTP instance starts anew; the role in force of a link stays (R280, R472). -/
def State.stacksAnew (s : State) : State :=
  let s := { s with hl := { s.hl with sinceStart := (0, 0) } }
  let s := (List.range s.chans).foldl (fun s c => s.setChan c { s.chanOf c with switches := 0 }) s
  { s with ptp := { s.ptp with
      servo := 0, mgmt := 0, grantees := 0, grantors := 0, data := ownData s.ptp.prio1 s.ptp.prio2
      ports := s.ptp.ports.map fun e => (e.1, e.2.map fun x => { x with st := psInitializing }) } }

/-- mp_running reads 1. -/
def State.mpServes (s : State) : State :=
  let again := s.mp.restarting
  let s := if s.mp.booted then s else (if s.fu.running < 2 then s.restore else s).factoryGrammar
  let s := { s.stacksAnew with mp := ⟨false, false, true, s.clk, s.mp.order⟩ }
  let s := (s.setB MB_EPOCH_recovery (s.fu.running = 0xFF)).set MB_EPOCH_mp_running 1
  if again then s.epochNext.abortAll else s

/-- MP_START (R428): `migrate` tells whether the settings record is readable and in the range of the running schema, `flash` and `burn` whether
the loader's pointer write and an OTP burn succeed. A trial image whose settings fail falls back and restarts the MP. -/
def execMpStart (migrate flash burn : Bool) (s : State) : Host.Outcome State Fault Refusal :=
  finishIf (!s.on MB_EPOCH_mp_running) s (
    let s := ((s.stagingCheck).loader flash).fuResume
    if ¬ migrate ∧ s.onTrial then
      match s.winner with
      | some (_, w) => (s.fallBack flash w 4).mpRestart 3
      | none => s
    else
      let s := if migrate then s.settle else { s with fu := { s.fu with store := s.fu.store.filter fun r => decide (r.schema < s.schema) } }
      let s := if s.fu.running < 2 ∧ ¬ s.onTrial then (s.otpBurn burn).fuRegs else s
      s.mpServes)

/-- SYS_GET_INFO (R75). -/
def execSysGetInfo (n : Fin 4) (s : State) : Host.Outcome State Fault Refusal :=
  s.mbRow n 0x0100 fun r s =>
    if r.payload.length ≠ 0 then .reject badLength
    else
      let revs := s.get SYS_DEV_ID_module_rev * 2 ^ 12 + s.get SYS_DEV_ID_silicon_rev * 2 ^ 8
      .ok (leBytes 2 s.partCode ++ leBytes 2 revs ++ beBytes 4 (s.get FU_VER_RUN_release) ++ bytes [s.fu.otp, s.fu.running, s.get FU_STAT_trial, 0]
        ++ leBytes 6 s.unit.serial ++ zeros 2 ++ leBytes 4 ((s.clk - s.mp.startClk) / 1250000000)) s

end Sys2Proof.Machine
end

