-- ==== Sys2Proof/Machine/Map.lean ====
section
/-! DEFINITION. Where an address of BAR0 leads: blocks, instance register sets, shadow windows and the peek alias (R48 to R51). -/

namespace Sys2Proof.Machine

/-- The blocks of R48: base, size, whether the block has a shadow window. -/
def blocks : List (Nat × Nat × Bool) :=
  [(0x0, 0x10000, false), (0x10000, 0x10000, false), (0x20000, 0x10000, false), (0x30000, 0x10000, false), (0x100000, 0x30000, true),
   (0x140000, 0x30000, true), (0x180000, 0x80000, true), (0x200000, 0x200000, false), (0x400000, 0x200000, true),
   (0x600000, 0x100000, true), (0x700000, 0x40000, false), (0x740000, 0x40000, true), (0x780000, 0x40000, true),
   (0x7C0000, 0x20000, true), (0x7E0000, 0x20000, false), (0x800000, 0x100000, true), (0x900000, 0x10000, false)]

/-- A register that an access reaches: its ordinary address, row and indices, and whether the shadow window or the peek alias
was used. -/
structure Place where
  a : Nat
  r : Reg
  i : Nat
  j : Nat
  shadow : Bool
  peek : Bool
deriving DecidableEq, Repr

/-- `n` lies in one of the ranges. -/
def inRanges (l : List (Nat × Nat)) (n : Nat) : Bool := l.any fun e => decide (e.1 ≤ n) && decide (n ≤ e.2)

/-- An ordinary address inside the register set, or the tread banks, of an instance that the FH4824 lacks (R2, R51). -/
def absentSet (a : Nat) : Bool :=
  inRanges [(0x103000, 0x105FFF), (0x143000, 0x145FFF), (0x153000, 0x155FFF), (0x401A80, 0x401BFF), (0x603000, 0x605FFF), (0x743000, 0x745FFF), (0x670000, 0x6CFFFF),
    (0x784000, 0x785FFF), (0x7C2000, 0x7C3FFF), (0x7E1000, 0x7E1FFF)] a

/-- The instance is absent on this part (R2). -/
def State.absent (s : State) (r : Reg) (i j : Nat) : Bool :=
  decide (s.variant = .fh4824) && (inRanges r.absent1 i || inRanges r.absent2 j)

/-- Where an address below the peek alias leads: a register, or the reason of the bus error (R51). -/
def State.locateAt (s : State) (a : Nat) (peek : Bool) : Place ⊕ Nat :=
  match blocks.find? fun b => decide (b.1 ≤ a) && decide (a < b.1 + b.2.1) with
  | none => .inr 0
  | some b =>
    let sh := b.2.2 && decide (b.1 + 0x8000 ≤ a) && decide (a < b.1 + 0x10000)
    let o := if sh then a - 0x8000 else a
    match regFind o with
    | some (r, i, j) => if s.absent r i j then .inr 3 else .inl ⟨o, r, i, j, sh, peek⟩
    | none => if decide (s.variant = .fh4824) && absentSet o then .inr 3 else .inr 1

/-- The peek alias (R50). -/
def isPeek (a : Nat) : Bool := decide (0x2000000 ≤ a) && decide (a < 0x2910000)

/-- Where a BAR0 address leads. -/
def State.locate (s : State) (a : Nat) : Place ⊕ Nat :=
  if isPeek a then s.locateAt (a - 0x2000000) true
  else if a < 0x2000000 then s.locateAt a false
  else .inr 0

/-- The width rule (R52): one aligned 32-bit word with every byte enable set; at the MSI-X table and PBA also an aligned 64-bit
word. -/
def widthOk (q : Req) : Bool :=
  q.be && ((decide (q.dws = 1) && decide (q.addr % 4 = 0))
    || (decide (q.dws = 2) && decide (q.addr % 8 = 0) && inRanges [(0xC000, 0xC3FF), (0xD000, 0xD007)] q.addr))

/-- Where an access leads, or the reason of its bus error (R53). The width is looked at first (log entry 20). -/
def State.reach (s : State) (q : Req) : Place ⊕ Nat := if widthOk q then s.locate q.addr else .inr 2

end Sys2Proof.Machine
end

