-- ==== Sys2Proof/Machine/Taq.lean ====
section
/-! DEFINITION. The timed action queue: its entries, arming, due entries, and leaving ARMED (R232 to R239). -/

namespace Sys2Proof.Machine

/-- The state of entry `i` (R232): 1 ARMED, 2 DONE, 3 DONE_LATE, 4 EXPIRED, 5 SUSPECT, 6 CANCELLED, else FREE. -/
def State.taqState (s : State) (i : Nat) : Nat := s.get (GT_TAQ_STATE_state i)

/-- The execution time of entry `i`. -/
def State.taqTime (s : State) (i : Nat) : Nat :=
  ((s.get (GT_TAQ_SEC_sec_lo i) + s.get (GT_TAQ_W5_sec_hi i) * 2 ^ 32) * 1000000000 + s.get (GT_TAQ_NS_ns i)) * 2 ^ 32
    + s.get (GT_TAQ_W5_frac i) * 2 ^ 16

/-- Its group tag. -/
def State.taqGroup (s : State) (i : Nat) : Nat := s.get (GT_TAQ_TAG_group i)

/-- The ARMED entries, in index order. -/
def State.armedList (s : State) : List Nat :=
  s.regs.filterMap fun e =>
    if GT_TAQ_STATE 0 ≤ e.1 ∧ e.1 < GT_TAQ_STATE 256 ∧ e.1 % 0x40 = GT_TAQ_STATE 0 % 0x40 ∧ e.2.toNat % 8 = 1
    then some ((e.1 - GT_TAQ_STATE 0) / 0x40) else none

/-- The earlier of two entries: earliest time, then index (R235). -/
def State.taqFirst (s : State) (l : List Nat) : Option Nat :=
  l.foldl (fun b i => match b with
    | none => some i
    | some k => if s.taqTime i < s.taqTime k ∨ (s.taqTime i = s.taqTime k ∧ i < k) then some i else some k) none

/-- GT_TAQ_STAT. -/
def State.taqStat (s : State) : Word :=
  let l := s.armedList
  match s.taqFirst l with
  | some k => BitVec.ofNat 32 (l.length + k * 2 ^ 16 + 2 ^ 24)
  | none => 0

/-! ### Leaving ARMED (R237, R239) -/

/-- No entry of group `tag` is ARMED any more: the tag is captured (R239). -/
def State.groupDone (s : State) (tag : Nat) : State :=
  if s.armedList.any fun k => decide (s.taqGroup k = tag) then s
  else
    let s := (s.set GT_TAQ_GRP_LAST_group tag).setB GT_TAQ_GRP_LAST_more s.taq.grpSeen
    ({ s with taq := { s.taq with grpSeen := true } } : State).raise GT_INT_STAT_taq_group_done

/-- Entry `i` leaves ARMED for state `st`. -/
def State.taqLeave (s : State) (i st : Nat) : State :=
  let s := { s with taq := { s.taq with due := s.taq.due.filter (· ≠ i), late := s.taq.late.filter (· ≠ i), suspect := s.taq.suspect.filter (· ≠ i) } }
  (s.set (GT_TAQ_STATE_state i) st).setBit (GT_TAQ_DONE (i / 32)) (i % 32)

/-- Entry `i` ends without executing. -/
def State.taqDrop (s : State) (i st : Nat) : State :=
  ((s.taqLeave i st).raise GT_INT_STAT_taq_dropped).groupDone (s.taqGroup i)

/-- A write of GT_TAQ_CANCEL (R239). -/
def State.taqCancel (s : State) (i : Nat) : State :=
  if s.taqState i = 1 then (s.taqLeave i 6).groupDone (s.taqGroup i) else s

/-- A write of GT_TAQ_CANCEL_GRP: every ARMED entry of the group (R239). -/
def State.taqCancelGroup (s : State) (tag : Nat) : State :=
  match s.armedList.filter fun i => decide (s.taqGroup i = tag) with
  | [] => s
  | l => (l.foldl (fun s i => s.taqLeave i 6) s).groupDone tag

/-! ### Due entries (R235, R237, R238) -/

/-- Entry `i` falls due: with suspect_drop it ends SUSPECT while TB is suspect, else it waits for its turn, and whether TB was suspect as it fell
due is kept. -/
def State.taqDue (s : State) (i : Nat) : State :=
  if s.on (GT_TAQ_TAG_suspect_drop i) && s.on TB_STAT_suspect then s.taqDrop i 5
  else
    let l := s.taq.suspect.filter (· ≠ i)
    { s with taq := { s.taq with due := insertN i s.taq.due, suspect := if s.on TB_STAT_suspect then insertN i l else l } }

/-- What a tick does: entries whose time TB has reached fall due; after a backward step an entry waits again. -/
def State.taqTick (s : State) : State :=
  let now := s.tb.toNat
  let s := { s with taq := { s.taq with due := s.taq.due.filter fun i => decide (s.taqTime i ≤ now) } }
  s.armedList.foldl (fun s i => if s.taqTime i ≤ now ∧ ¬ s.taq.due.contains i then s.taqDue i else s) s

/-! ### Arming (R233, R234, R237) -/

/-- Does `addr` lie in the TAQ's own region (R233)? -/
def taqRegion (a : Nat) : Bool :=
  (decide (0x6E0000 ≤ a) && decide (a < 0x6E4000))
    || [0x606020, 0x606024, 0x60602C, 0x606030, 0x60E020, 0x60E024, 0x60E02C, 0x60E030].contains a

/-- The outcome of arming entry `i`, by GT_TAQ_ARM_G or by GT_TAQ_ARM: 0 OK, 1 NOT_FREE, 2 BAD_ADDR, 3 TAQ_REGION, 4 NEEDS_GUARD. -/
def State.armCheck (s : State) (i : Nat) (guarded : Bool) : Nat :=
  let a := s.get (GT_TAQ_ADDR_addr i)
  if s.taqState i = 1 then 1
  else if isPeek a ∨ a % 4 ≠ 0 then 2
  else
    match s.locate a with
    | .inr _ => 2
    | .inl p => if taqRegion a then 3 else if ¬ guarded ∧ p.r.mask .gw ≠ 0 then 4 else 0

/-- Master `m` arms entry `i`. -/
def State.taqArm (s : State) (m : Master) (i : Nat) (guarded : Bool) : State :=
  let res := s.armCheck i guarded
  let s := s.wr GT_TAQ_ARM_STAT (BitVec.ofNat 32 (i % 256 + res * 2 ^ 8 + portBit m * 2 ^ 30 + 2 ^ 31))
  if res ≠ 0 then s
  else
    let s := s.set (GT_TAQ_STATE_state i) 1
    if s.tb.toNat ≤ s.taqTime i then s
    else if s.on (GT_TAQ_TAG_late_drop i) then s.taqDrop i 4
    else ({ s with taq := { s.taq with late := insertN i s.taq.late } } : State).taqDue i

end Sys2Proof.Machine
end

