-- ==== Sys2Proof/Machine/Cycle.lean ====
section
/-! DEFINITION. The time tick, and the cycle boundary with what it applies and what the twin unit and the retention memory take there (R27,
R33, R37, R242, R386, R391 to R394, R396, R412). -/

namespace Sys2Proof.Machine

/-! ### The boundary of the twin unit (R385, R412, R413) -/

/-- TW_CTRL.enable has changed: DISABLED, or ELECTING again. -/
def State.twEnable (s : State) (was : Bool) : State :=
  let on := s.on TW_CTRL_enable
  if was ∧ ¬ on ∧ s.twState ≠ 0 then
    let s := (((s.twEnter 0).refLoss 62).set TW_STAT_partner_state 7).set TW_STAT_resync_busy 0
    s.twWith fun t => { t with hdr := none, taking := none, galLost := false, missed := 0, bulkNext := none, needSync := false }
  else if ¬ was ∧ on ∧ s.twState = 0 then (s.twEnter 1).twWith fun t => { t with hdr := none, elect := false, frameAt := s.clk }
  else s

/-- The shadows of TW apply; a change of gal_loop waits until TW_CTRL.enable is 0 (R412). -/
def State.twBoundary (s : State) : State :=
  let (now, s) := s.takePend fun a => decide (0x800000 ≤ a) && decide (a < 0x808000)
  if now.isEmpty then s
  else
    let was := s.on TW_CTRL_enable
    let loop := s.get TW_CTRL_gal_loop
    let s := now.foldl (fun s e => s.wr e.1 e.2.1) s
    let w := s.rd TW_CTRL
    let s := if s.on TW_CTRL_enable ∧ s.get TW_CTRL_gal_loop ≠ loop then
        let s := s.set TW_CTRL_gal_loop loop
        { s with pend := (TW_CTRL, w, s.clk) :: s.pend }
      else s
    (s.twEnable was).ouRefreshAll

/-- Every shadow of TC, OU, TW and PX applies, and pending values of ports without an active stairway (R33, R36). -/
def State.cycleApply (s : State) : State := s.tcBoundary.ouBoundary.twBoundary.pxBoundary.stairCycle

/-! ### The snapshot (R247, R391) -/

/-- Channel `c` in a STATE frame. -/
def State.galChan (s : State) (c : Nat) : GalChan :=
  if s.chans ≤ c then ⟨0, 0, 0, 0, 0, 0, 0, 0, 0, 0, none, false⟩
  else
    let k := s.chanOf c
    let m := if s.tcState c = 3 then k.model else (s.buildModel c).1
    ⟨s.rd (TC_STAT c), s.selRef c, s.rd (TC_DCO_WORD c), k.prop, k.integ, s.rd (TC_ABSORBED c), m.mean, m.slope, m.mid,
      s.get (TC_HO_STAT_trained_h c), k.commitNow.getLast?, k.discardNow⟩

/-- Port `p` in a STATE frame (R230). -/
def State.galStair (s : State) (p : Nat) : GalStair :=
  if s.lanes ≤ p then ⟨0, 0, 0, 0, 0⟩
  else ⟨s.get (GT_STAT_active p), s.get (GT_STAT_bank_active p), s.get (GT_FLIGHT_CNT_count p), s.get (GT_STAT_tread p),
    s.position p s.tb.fifths / unit16⟩

/-- Link `l` in a STATE frame (R299). -/
def State.galLink (s : State) (l : Nat) : GalLink :=
  if s.lanes ≤ l then ⟨0, false, 0, 0, 0, 0, 0, 0, 0⟩
  else ⟨s.linkState l, s.on (PX_STAT_cal_valid l), s.get (PX_FAR_node l), s.get (PX_FAR_port l), s.get (PX_CAL_TX_l_tx l), s.get (PX_CAL_RX_l_rx l),
    s.rd64 (PX_RT_LO l) (PX_RT_HI l), s.rd64 (PX_DELAY_LO l) (PX_DELAY_HI l), s.get (PX_ASYM_USED_asym l)⟩

/-- The payload of a STATE frame. -/
def State.galState (s : State) (egress : Stamp16) : GalState where
  tbSec := s.tb.sec
  tbNs := s.tb.ns
  tbFrac := s.tb.frac
  incr := s.tbIncr
  chans := (List.range 6).map s.galChan
  stairs := (List.range 48).map s.galStair
  links := (List.range 48).map s.galLink
  digest := s.twDigest
  okCh := s.chOkByte
  yho := s.predict s.timeCh / 1000
  egress := egress

/-- The committed holdover records of channel `c`, in two BULK frames that take the next sequence numbers. -/
def State.galRecords (s : State) (c : Nat) : State :=
  let q := s.tw.bulkSeq
  let s := (s.galSend (.bulkHo q c true (s.chanOf c).hist.h15)).galSend (.bulkHo (q + 1) c false (s.chanOf c).hist.h16)
  s.twWith fun t => { t with bulkSeq := q + 2 }

/-- The BULK frames of a cycle during a resync (R394): two of 512 MAC entries in index order, and after the last one the committed
holdover records of each channel copied. -/
def State.galBulk (s : State) : State :=
  match s.tw.bulkNext with
  | none => s
  | some n =>
    let l := (s.ft.mac.filter fun e => decide (n ≤ e.1) && e.2.valid1 && !e.2.fixed).take 1024
    let q := s.tw.bulkSeq
    let send := fun (s : State) (q : Nat) (part : List (Nat × Ent)) => s.galSend (.bulkMac q (part.map fun e => e.2.words))
    let s := (send (send s q (l.take 512)) (q + 1) (l.drop 512)).addWrap TW_RESYNC_entries l.length
    if l.length = 1024 then
      s.twWith fun t => { t with bulkNext := l.getLast?.map fun e => e.1 + 1, bulkSeq := q + 2 }
    else
      let s := s.twWith fun t => { t with bulkNext := none, bulkSeq := q + 2 }
      ((List.range 6).foldl (fun s c => if s.twChan c then s.galRecords c else s) s).set TW_STAT_resync_busy 0

/-- What an active module sends: STATE, BULK, DELTA, and the deltas asked for again (R391, R392, R394). -/
def State.galActive (s : State) (egress : Stamp16) : State :=
  let s := if s.ft.deltaOvf then (s.raise TW_STAT_resync_busy).twWith fun t => { t with bulkNext := some 0 } else s
  let cycle := s.tb.cycle % 2 ^ 32
  let s := (s.galSend (.state (s.galState egress))).galBulk.galDeltas cycle s.ft.deltas
  let s := match s.tw.resend with | some k => s.galAgain k | none => s
  s.twWith fun t => { t with resend := none, sentDeltas := ((cycle, s.ft.deltas) :: t.sentDeltas).take 2 }

/-- What the twin unit sends in a cycle, by its state. -/
def State.galCycle (s : State) (egress : Stamp16) : State :=
  match s.twState with
  | 0 => if s.get TW_CTRL_gal_loop = 1 then s.galPut ⟨s.galHdr, .elect s.twDigest⟩ else s
  | 1 => s.galSend (.elect s.twDigest)
  | 2 => s.galActive egress
  | 3 => s.galActive egress
  | _ => s.galSend (.reply s.chOkByte (signed 32 (s.get TW_DELTA_delta)) (s.predict s.timeCh / 1000) egress)

/-- The retention memory takes what a channel gives (R337). -/
def State.retainChan (s : State) (c : Nat) : State :=
  let k := s.chanOf c
  let m := if s.tcState c = 3 then k.model else (s.buildModel c).1
  let r : Retain := ⟨s.rd (TC_STAT c), s.selRef c, s.rd (TC_DCO_WORD c), k.prop, k.integ, s.rd (TC_ABSORBED c), m,
    s.get (TC_HO_STAT_trained_h c), k.commitNow, k.hist⟩
  { s with retain := s.retain.put Retain.empty c r }

/-- What is counted by the cycle begins again. -/
def State.cycleClear (s : State) : State :=
  let s := (List.range s.chans).foldl (fun s c => s.setChan c { s.chanOf c with discardNow := false, commitNow := [] }) s
  { s with ft := { s.ft with deltas := [], deltaOvf := false } }

/-- CYCLE_BOUNDARY (R27, R37): the tick has brought TB's nanoseconds to a multiple of 125 000; at any other TB there is no boundary. `egress` is
the timestamp that the gallery MAC writes into this cycle's frame. -/
def execCycleBoundary (egress : Stamp16) (s : State) : Host.Outcome State Fault Refusal :=
  finishIf s.time.atCycle s (
    let s := { s with time := { s.time with atCycle := false } }
    let s := (s.cycleApply).galCycle egress
    ((List.range s.chans).foldl State.retainChan s).cycleClear)

/-! ### The time tick (R242) -/

/-- On the first tick after a step, stairways have moved, and the pending shadows of cycle boundaries jumped over apply once (R37, R225). -/
def State.jumpTick (s : State) : State :=
  match s.time.jump with
  | none => s
  | some (a, b) =>
    let s := { s with time := { s.time with jump := none } }
    let s := s.stairStep a b
    if a.cycle < b.cycle then s.cycleApply else s

/-- One time tick: TB takes the increment and any step, and due snapshots are latched (R242, R26). The increment, and not a step, reaches a
cycle boundary (R27, R37). While VIN is present two core clocks
pass (R18). -/
def State.tick (s : State) : State :=
  let s := s.incrTick
  let now := s.tb.move s.tbIncr
  let s := { s with tb := now, time := { s.time with atCycle := decide (now.cycle ≠ s.tb.cycle) } }
  let s := s.jumpTick.taqTick.stepTick
  let s := { s.time.snaps.foldl State.snap s with time := { s.time with snaps := [] } }
  if s.power.vin then ({ s with clk := s.clk + 2 }.pmClocks 2).ouTick else s

/-- TB_TICK (R242): TB runs while VIN, or the VKEEP domain, is supplied. -/
def execTbTick (s : State) : Host.Outcome State Fault Refusal := finishAny (s.power.vin || s.power.keep) s s.tick

end Sys2Proof.Machine
end

