-- ==== Sys2Proof/Machine/Ev.lean ====
section
/-! DEFINITION. Event timestamps and measurement groups (R365 to R370, R374, R378). Times are in 2⁻¹⁶ ns. -/

namespace Sys2Proof.Machine

/-- Input `i` beside its registers. -/
def State.evInput (s : State) (i : Nat) : EvIn := s.evIn.get EvIn.quiet i

/-- Store it. -/
def State.setEvIn (s : State) (i : Nat) (e : EvIn) : State := { s with evIn := s.evIn.put EvIn.quiet i e }

/-- A group at rest. -/
def EvGrp.quiet : EvGrp := ⟨[], []⟩

/-- Group `g` beside its registers. -/
def State.evGroup (s : State) (g : Nat) : EvGrp := s.evGrp.get EvGrp.quiet g

/-- Store it; EV_RES_RDY follows the result FIFOs. -/
def State.setEvGrp (s : State) (g : Nat) (e : EvGrp) : State :=
  { s with evGrp := s.evGrp.put EvGrp.quiet g e }.set ⟨EV_RES_RDY, g, g⟩ (flag !e.fifo.isEmpty)

/-- A time of TB in 2⁻¹⁶ ns as its parts: seconds, nanoseconds, fraction. -/
def stampTime (t : Int) : Time := Time.ofNat (((t % ((2 ^ 48 * 1000000000 * 2 ^ 16 : Nat) : Int)).toNat) * 2 ^ 16)

/-- Three seconds, for which timestamped edges are kept: with W at most 1 s no group needs older ones. -/
def keepSpan : Int := 3 * 1000000000 * 65536

/-! ### Groups: configuration (R370, R374) -/

/-- Group `g` names an absent input. -/
def State.grpNamesAbsent (s : State) (g : Nat) : Bool :=
  decide (s.evts ≤ s.get (EV_GRP_CFG_start g)) || decide (2 ^ s.evts ≤ s.get (EV_GRP_CFG_stop_mask g))

/-- Group `g` is in use. -/
def State.grpRuns (s : State) (g : Nat) : Bool := s.on (EV_GRP_CFG_enable g) && !s.grpNamesAbsent g

/-- A write of EV_GRP_CFG or EV_GRP_WIN has been stored: pending starts are discarded, the result FIFO stays. -/
def State.grpWritten (s : State) (g : Nat) : State :=
  (s.setB (EV_GRP_CFG_cfg_err g) (s.grpNamesAbsent g)).setEvGrp g { s.evGroup g with starts := [] }

/-- W in 2⁻¹⁶ ns. -/
def State.grpWin (s : State) (g : Nat) : Int := (max 1 (min 1000000000 (s.get (EV_GRP_WIN_window_ns g))) : Nat) * 65536

/-! ### Edges (R365, R366) -/

/-- Does EV_IN_CFG select an edge of this polarity? -/
def State.evSelects (s : State) (i : Nat) (falling : Bool) : Bool :=
  s.on (EV_IN_CFG_enable i) && (match s.get (EV_IN_CFG_edge i) with | 1 => falling | 2 => true | _ => !falling)

/-- The interpolated time from an edge to its capture tick, in 0.001 ps: whole phases of 400 ps, and the bins of the table in use below the
one that the edge fell in (R365, R372). -/
def State.evInterp (s : State) (i phase bin : Nat) : Nat :=
  let b := s.tableInUse i
  phase * 400000 + ((b.widths.take bin).drop b.first).foldl (· + ·) 0

/-- The edge's own time in 0.001 ps of the core clock. -/
def State.evLocal (s : State) (i phase bin : Nat) : Int := ((s.clk * 800000 : Nat) : Int) - (s.evInterp i phase bin : Int)

/-- The TB value at the balls: of the capture tick, less the interpolated time and the factory path delay, in 2⁻¹⁶ ns (R365). -/
def State.evAtBalls (s : State) (i phase bin : Nat) : Int :=
  s.tb16 - ((s.evInterp i phase bin * 65536 / 1000000 : Nat) : Int) - Config.evPathDelay i

/-- The edge comes within 1.6 ns of the last accepted one. -/
def EvIn.dead (e : EvIn) (core : Int) : Bool :=
  match e.last with
  | some l => decide (core - l < 1600000)
  | none => false

/-- A timestamp enters the FIFO of input `i`. -/
def State.evQueue (s : State) (i : Nat) (x : Stamp) : State :=
  if ¬ s.on (EV_IN_CFG_ts_fifo i) then s
  else
    let e := s.evInput i
    if e.fifo.length < 64 then (s.setEvIn i { e with fifo := e.fifo ++ [x] }).set (EV_STAT_fifo_count i) (e.fifo.length + 1)
    else (s.inc (EV_CNT_fifo_ovf i)).raise EV_INT_STAT_fifo_ovf

/-- Every running group that starts on input `i` takes the start. -/
def State.evStarts (s : State) (i : Nat) (x : Stamp) : State :=
  (List.range 8).foldl (fun s g =>
    if s.grpRuns g ∧ s.get (EV_GRP_CFG_start g) = i then s.setEvGrp g { s.evGroup g with starts := (s.evGroup g).starts ++ [x] } else s) s

/-- An accepted edge of input `i`: it counts, and every (decim + 1)-th one is timestamped. -/
def State.evAccept (s : State) (i : Nat) (falling : Bool) (core at' : Int) : State :=
  let s := s.addWrap (EV_EDGES_count i) 1
  let e := s.evInput i
  if e.skipped < s.get (EV_IN_CFG_decim i) then s.setEvIn i { e with last := some core, skipped := e.skipped + 1 }
  else
    let x : Stamp := ⟨at' - signed 32 (s.get (EV_IN_ADJ_adj i)), s.get (EV_EDGES_count i), falling, s.on TB_STAT_suspect, s.get TB_STEP_CNT_count⟩
    let s := s.setEvIn i { e with last := some core, skipped := 0, kept := (e.kept.filter fun y => decide (x.t < y.t + keepSpan)) ++ [x] }
    (s.evQueue i x).evStarts i x

/-- EVT_EDGE (R366): this tick captures an edge on input `i`, and the interpolator has measured it `phase` phases of 400 ps and `bin` bins
before the tick (R365). During a calibration it is counted as lost (R371). -/
def execEvtEdge (i : Fin 8) (falling : Bool) (phase : Fin 4) (bin : Fin 512) (s : State) : Host.Outcome State Fault Refusal :=
  finishIf (decide (i.val < s.evts)) s (
    let core := s.evLocal i phase bin
    if s.on (EV_STAT_cal_busy i) then s.inc (EV_CAL_LOST_count i)
    else if ¬ s.evSelects i falling then s
    else if (s.evInput i).dead core then (s.inc (EV_CNT_overrun i)).raise EV_INT_STAT_overrun
    else s.evAccept i falling core (s.evAtBalls i phase bin))

/-! ### Results (R367, R368) -/

/-- The nearer of the stop edges around `t`, at most `w` away; the earlier where both are equally near. -/
def pairStop (kept : List Stamp) (t w : Int) : Option Stamp :=
  kept.foldl (fun b x =>
    let d := (x.t - t).natAbs
    if w < (d : Int) then b
    else match b with
      | none => some x
      | some y =>
        let dy := (y.t - t).natAbs
        if d < dy ∨ (d = dy ∧ x.t < y.t) then some x else some y) none

/-- A calibration of input `i` overlaps S ± W. -/
def State.calOverlaps (s : State) (i : Nat) (t w : Int) : Bool :=
  (s.evInput i).cals.any fun c => decide (c.1 ≤ t + w) && (match c.2 with | none => true | some e => decide (t - w ≤ e))

/-- The interval from S to a stop. Below 1 ps it is reported as coincident. -/
def intervalOf (t : Int) (p : Option Stamp) : Interval :=
  match p with
  | none => ⟨0, false, false, true⟩
  | some x =>
    let d := x.t - t
    if d.natAbs * 1000 < 65536 then ⟨0, false, true, false⟩ else ⟨d.natAbs % 2 ^ 48, decide (d < 0), false, false⟩

/-- The result of group `g` for start `x`. -/
def State.grpResult (s : State) (g : Nat) (x : Stamp) : EvResult :=
  let w := s.grpWin g
  let start := s.get (EV_GRP_CFG_start g)
  let isStop := fun i => bitOf (s.get (EV_GRP_CFG_stop_mask g)) i && decide (i ≠ start)
  let pairs := (List.range 8).map fun i =>
    if isStop i && !s.calOverlaps i x.t w then pairStop (s.evInput i).kept x.t w else none
  let used := pairs.filterMap id
  ⟨x.seq, x.t, x.suspect || used.any (·.suspect), used.any (fun y => decide (y.steps ≠ x.steps)),
   (List.range 8).any (fun i => (isStop i || decide (i = start)) && s.calOverlaps i x.t w), pairs.map (intervalOf x.t)⟩

/-- EV_GROUP_RESULT (R367): TB has passed S + W of the oldest start of group `g`. -/
def execEvGroupResult (g : Fin 8) (s : State) : Host.Outcome State Fault Refusal :=
  match (s.evGroup g).starts with
  | [] => .next s
  | x :: l =>
    finishIf (decide (x.t + s.grpWin g ≤ ((s.tb.toNat / 2 ^ 16 : Nat) : Int))) s (
      let e := s.evGroup g
      if e.fifo.length < 64 then
        (s.setEvGrp g { starts := l, fifo := e.fifo ++ [s.grpResult g x] }).raise EV_INT_STAT_res_ready
      else ((s.setEvGrp g { e with starts := l }).inc (EV_GRP_OVF_count g)).raise EV_INT_STAT_res_ovf)

/-! ### Reads (R366, R369) -/

/-- What EV_TS word 0 of input `i` reads as. -/
def State.evTsView (s : State) (i : Nat) : Word :=
  match (s.evInput i).fifo with
  | [] => 0
  | x :: l => BitVec.ofNat 32 (x.seq % 2 ^ 16 + flag x.falling * 2 ^ 16 + flag x.suspect * 2 ^ 17 + l.length * 2 ^ 24 + 2 ^ 31)

/-- A read of EV_TS word 0 removes the head and latches its time. -/
def State.evTsPop (s : State) (i : Nat) : State :=
  let e := s.evInput i
  match e.fifo with
  | [] => s
  | x :: l =>
    let t := stampTime x.t
    let s := (s.setEvIn i { e with fifo := l }).set (EV_STAT_fifo_count i) l.length
    let s := s.set (EV_TS_SEC_sec_lo i) t.sec
    ((s.set (EV_TS_W2_sec_hi i) (t.sec / 2 ^ 32)).set (EV_TS_W2_frac i) t.frac16).set (EV_TS_NS_ns i) t.ns

/-- What EV_RES word 0 of group `g` reads as. -/
def State.evResView (s : State) (g : Nat) : Word :=
  match (s.evGroup g).fifo with
  | [] => 0
  | x :: l => BitVec.ofNat 32 (x.seq % 2 ^ 16 + l.length * 2 ^ 16 + flag x.stale * 2 ^ 28 + flag x.stepped * 2 ^ 29 + flag x.suspect * 2 ^ 30 + 2 ^ 31)

/-- Latch the interval of stop `i`. -/
def State.latchStop (s : State) (g i : Nat) (x : Interval) : State :=
  let s := (s.set (EV_RES_MAG_LO_mag_lo g i) x.mag).set (EV_RES_MAG_HI_mag_hi g i) (x.mag / 2 ^ 32)
  ((s.setB (EV_RES_MAG_HI_sign g i) x.sign).setB (EV_RES_MAG_HI_coincident g i) x.coincident).setB (EV_RES_MAG_HI_missing g i) x.missing

/-- A read of EV_RES word 0 removes the head and latches words 1 to 19. -/
def State.evResPop (s : State) (g : Nat) : State :=
  let e := s.evGroup g
  match e.fifo with
  | [] => s
  | x :: l =>
    let t := stampTime x.start
    let s := (s.setEvGrp g { e with fifo := l }).set (EV_RES_SEC_sec_lo g) t.sec
    let s := ((s.set (EV_RES_W2_sec_hi g) (t.sec / 2 ^ 32)).set (EV_RES_W2_frac g) t.frac16).set (EV_RES_NS_ns g) t.ns
    (List.range 8).foldl (fun s i => s.latchStop g i (x.stops.getD i ⟨0, false, false, true⟩)) s

/-! ### Mailbox -/

/-- EV_SET_GROUP (R378). -/
def execEvSetGroup (n : Fin 4) (s : State) : Host.Outcome State Fault Refusal :=
  s.mbRow n 0x1200 fun r s =>
    let b := r.payload
    let g := byteAt b 0
    let w := leAt b 4 4
    if b.length ≠ 12 then .reject badLength
    else if 7 < g ∨ 1 < byteAt b 1 ∨ 7 < byteAt b 2 ∨ w = 0 ∨ 1000000000 < w ∨ leAt b 8 4 ≠ 0 then .reject badParam
    else if s.evts ≤ byteAt b 2 ∨ 2 ^ s.evts ≤ byteAt b 3 then .reject noInstance
    else
      let s := (s.set (EV_GRP_CFG_enable g) (byteAt b 1)).set (EV_GRP_CFG_start g) (byteAt b 2)
      .ok [] (((s.set (EV_GRP_CFG_stop_mask g) (byteAt b 3)).set (EV_GRP_WIN_window_ns g) w).grpWritten g)

end Sys2Proof.Machine
end

