-- ==== Sys2Proof/Machine/Hl.lean ====
section
/-! DEFINITION. The health unit's own commands: row and mezzanine repair, calibration, samples, held faults, the log,
loop-back tests, optics transfers, and the 0x50 mailbox group (R448 to R463, R472). -/

namespace Sys2Proof.Machine

/-! ### Repair -/

/-- The repair of row `r` of bank `b` of MP SRAM is done: where the row holds code the MP restarts, to reload it (R451). -/
def State.codeReload (s : State) (b r : Nat) : State :=
  if s.hl.codeRows.contains (b, r) then { s with hl := { s.hl with codeRows := s.hl.codeRows.filter (· ≠ (b, r)) } }.mpRestart 4 else s

/-- SPARE_ROW_REPAIR (R449): the queued repair of row `r` of bank `b` in group `g` completes. `zeroed` are the words that
failed their re-read and were written as zero, by BAR0 address. -/
def execSpareRowRepair (g : Fin 7) (b r : Nat) (zeroed : List Nat) (s : State) : Host.Outcome State Fault Refusal :=
  finishIf (s.hl.queue.contains (g.val, b, r)) s (
    let s := { s with hl := { s.hl with queue := s.hl.queue.filter (· ≠ (g.val, b, r)), spares := s.hl.spares ++ [(g.val, b, r)] } }
    let s := zeroed.foldl (fun s a => s.wr a 0) s
    let s := if g.val = 3 then s.ftRepaired b r else s
    let s : State := ((s.set (HL_SPARE_used g) (s.get (HL_SPARE_used g) + 1)).raise HL_INT_STAT_repaired).hlLog 0 4 g r b
    let s : State := s.setB HL_STAT_repair_busy !s.hl.queue.isEmpty
    let s := if g.val = 6 then s.codeReload b r else s
    if 3 ≤ s.spareUse g.val b then s.sparesLow else s)

/-- DBM_ROW_REPAIR (R452): the eight cells of a faulty DRAM row are free and HL applies soft post-package repair, which
returns them to the free list, or retires the row where its bank has used its hard resource and one soft repair more. -/
def execDbmRowRepair (bank row : Nat) (s : State) : Host.Outcome State Fault Refusal :=
  finishIf (s.hl.queue.contains (7, bank, row) && (rowCells 7 bank row).all fun c => !s.cellsHeld.contains c) s (
    let waiting := (s.hl.hardWait.filter fun e => e.1 = bank).length
    if 2 ≤ flag (s.hl.hardDone.contains bank) + waiting then
      let s := s.hlRetire 7 bank row
      s.setB HL_STAT_repair_busy !s.hl.queue.isEmpty
    else
      let s := { s with hl := { s.hl with queue := s.hl.queue.filter (· ≠ (7, bank, row)), hardWait := s.hl.hardWait ++ [(bank, row)] } }
      let s := (s.raise HL_INT_STAT_repaired).hlLog 0 4 bank row 7
      s.setB HL_STAT_repair_busy !s.hl.queue.isEmpty)

/-- MEZZ_TEST (R453): a faulty mezzanine that holds no cell is tested; where every faulty row takes a spare row it becomes
the free spare and a quarantined position is swapped onto it, otherwise it stays faulty. `faulty` are its faulty rows. -/
def execMezzTest (m : Fin 17) (faulty : List Nat) (s : State) : Host.Outcome State Fault Refusal :=
  finishIf (s.bit SC_MEZZ_STAT m && s.mezzHolds m == 0) s (
    let s := s.setB HL_STAT_repair_busy !s.hl.queue.isEmpty
    if s.spareUse 1 m + faulty.length ≤ 4 then
      let s := { s with hl := { s.hl with spares := s.hl.spares ++ faulty.map fun r => (1, m.val, r) } }
      let s := s.set (HL_SPARE_used 1) (s.get (HL_SPARE_used 1) + faulty.length)
      let s := ((s.set ⟨SC_MEZZ_STAT, m, m⟩ 0).raise HL_INT_STAT_repaired).hlLog 0 4 m 0xFFFF 1
      let s := if 3 ≤ s.spareUse 1 m then s.sparesLow else s
      let s := s.mezzReturned m
      s.mbAnswerWaiting (fun q => q.opcode = 0x5002 ∧ byteAt q.payload 0 = 0 ∧ leAt q.payload 4 4 = m.val) (.inr [])
    else
      (s.hlLog 0x04 2 m 0xFFFF 1).mbAnswerWaiting
        (fun q => q.opcode = 0x5002 ∧ byteAt q.payload 0 = 0 ∧ leAt q.payload 4 4 = m.val) (.inr []))

/-- HL_TDC_AUTOCAL (R456): HL starts a recalibration of TDC target `t` (0 to 7 the event inputs, 8 to 13 the channels) after a temperature
step, a period, or a failed try. -/
def execHlTdcAutocal (t : Fin 14) (s : State) : Host.Outcome State Fault Refusal :=
  let at' := s.hl.calAt.get (0, 0) t
  let k := s.get HL_CAL_CFG_tdc_k
  let h := s.get HL_CAL_CFG_tdc_period_h
  let moved := decide (0 < k) && decide ((8 * k : Nat) ≤ (s.lid - at'.1).natAbs)
  let aged := decide (0 < h) && decide (at'.2 + h * 3600 * 1250000000 ≤ s.clk)
  let auto := s.on HL_CAL_CFG_auto && (tdcIsChannel t || s.on HL_CAL_CFG_ev_auto)
  finishIf ((auto && (moved || aged) || s.hl.calRetry.contains t.val) && !s.hl.calStopped.contains t.val && s.tdcMayStart t) s (
    { s with hl := { s.hl with calBusy := some t.val } }.tdcStart t)

/-! ### Samples -/

/-- One temperature sensor's sample, in 0.125 °C (R457, R459). -/
def State.tempOne (s : State) (k : Nat) (v : Int) : State :=
  let before := signed 16 (s.get (HL_TEMP_now k))
  let warn := signed 16 (s.get (HL_TEMP_THR_warn k))
  let crit := signed 16 (s.get (HL_TEMP_THR_crit k))
  let s := (s.set (HL_TEMP_now k) (twos 16 v)).set (HL_TEMP_max k) (twos 16 (max v (signed 16 (s.get (HL_TEMP_max k)))))
  let s := if warn < v ∧ ¬ warn < before then s.raise HL_INT_STAT_temp_warn else s
  if crit < v then
    if s.hl.hot.contains k then
      if s.hl.causes.contains (0x0D, k) then s else (s.hlLasting 0x0D k 0xFFFF (twos 16 v)).raise HL_INT_STAT_temp_crit
    else { s with hl := { s.hl with hot := insertN k s.hl.hot } }
  else
    let s := if s.hl.hot.contains k ∧ ¬ s.hl.causes.contains (0x0D, k) then (s.hlTransient 0x0D k 0xFFFF (twos 16 v)).2 else s
    let s := { s with hl := { s.hl with hot := s.hl.hot.filter (· ≠ k) } }
    if v ≤ crit - 40 then s.hlCauseEnds 0x0D k else s

/-- TEMP_SAMPLE (R457, R459): the lid, switch, timing, DBM and regulator sensors and the oven are sampled. -/
def execTempSample (lid sw timing dbm reg oven : Int) (s : State) : Host.Outcome State Fault Refusal :=
  whenUp s (
  let s := [(0, lid), (1, sw), (2, timing), (3, dbm), (4, reg)].foldl (fun s e => s.tempOne e.1 e.2) s
  let s := s.set TC_OVO_temp (twos 16 oven)
  let warm := (List.range 5).any fun k => decide (signed 16 (s.get (HL_TEMP_THR_warn k)) < signed 16 (s.get (HL_TEMP_now k)))
  let crit := s.hl.causes.any fun e => e.1 = 0x0D
  let s := (s.setB HL_STAT_temp_warn warm).setB HL_STAT_temp_crit crit
  finish s.twSelfFault)

/-- One supply's sample (R458, R460). -/
def State.supplyOne (s : State) (k v : Nat) : State :=
  let s := (s.set (HL_SUPPLY_now k) v).set (HL_SUPPLY_max k) (max v (s.get (HL_SUPPLY_max k)))
  if v < s.get (HL_SUPPLY_THR_low k) ∨ s.get (HL_SUPPLY_THR_high k) < v then
    if s.hl.off.contains k then
      if s.hl.causes.contains (0x0E, k) then s else (s.hlLasting 0x0E k 0xFFFF v).raise HL_INT_STAT_supply_fault
    else { s with hl := { s.hl with off := insertN k s.hl.off } }
  else
    let s := if s.hl.off.contains k ∧ ¬ s.hl.causes.contains (0x0E, k) then (s.hlTransient 0x0E k 0xFFFF v).2 else s
    { s with hl := { s.hl with off := s.hl.off.filter (· ≠ k) } }.hlCauseEnds 0x0E k

/-- SUPPLY_SAMPLE (R458, R460): VIN, its current, VKEEP, V3P3_OUT, its current and the input power are sampled; `rails` has a
1 for every internal rail that is good, and the loss of one is lasting at once. -/
def execSupplySample (vin vinI vkeep v3p3 v3p3I pin : Nat) (rails : BitVec 16) (s : State) : Host.Outcome State Fault Refusal :=
  whenUp s (
  let s := [(0, vin), (1, vinI), (2, vkeep), (3, v3p3), (4, v3p3I), (5, pin)].foldl (fun s e => s.supplyOne e.1 e.2) s
  let s := (List.range 16).foldl (fun s k =>
    if bitOf rails.toNat k then s.hlCauseEnds 0x0E (16 + k)
    else if s.hl.causes.contains (0x0E, 16 + k) then s
    else (s.hlLasting 0x0E (16 + k) 0xFFFF 0).raise HL_INT_STAT_supply_fault) s
  let s := s.set HL_RAIL_OK_ok rails.toNat
  finish (s.setB HL_STAT_supply_fault (s.hl.causes.any fun e => e.1 = 0x0E)).twSelfFault)

/-- OVEN_FAULT (R460): the oven has been out of temperature for 1 s, once its monitoring has begun (R489). -/
def execOvenFault (s : State) : Host.Outcome State Fault Refusal :=
  finishIf s.power.ovenWatched s (
    (((s.set TC_OVO_oven_ok 0).hlLasting 0x13 0 0xFFFF 0).raise HL_INT_STAT_supply_fault).twSelfFault)

/-- HELD_FAULT_RELEASE (R446): a held fault whose cause has been absent for 10 s is released. -/
def execHeldFaultRelease (code inst : Nat) (s : State) : Host.Outcome State Fault Refusal :=
  finishIf (s.hl.held.contains (code, inst) && !s.hl.causes.contains (code, inst) && code != 0x0F) s (s.hlRelease code inst)

/-- WDOG_HOLD_EXPIRY (R462): an hour has passed without a watchdog restart. -/
def execWdogHoldExpiry (s : State) : Host.Outcome State Fault Refusal :=
  finishIf ((s.hl.held.any fun e => e.1 = 0x0F) && s.hl.wdog.all fun t => decide (t + 3600 * 1250000000 ≤ s.clk)) s (
    ({ s with hl := { s.hl with wdog := [] } }.hlCauseEnds 0x0F 0).hlRelease 0x0F 0)

/-! ### The fault log -/

/-- The 32 bytes of a log record (R463). -/
def LogRec.bytes (r : LogRec) : Bytes :=
  let b := leBytes 6 r.sec ++ leBytes 4 r.ns ++ leBytes 1 r.code ++ leBytes 1 r.cls ++ leBytes 2 r.inst ++ leBytes 2 r.row
    ++ leBytes 4 r.detail ++ leBytes 1 (flag r.suspect + 2 * flag r.late) ++ zeros 3 ++ leBytes 4 r.num
  b ++ leBytes 4 (crc32c b)

/-- FAULT_LOG_WRITE (R463): the MP writes the oldest waiting record to the NOR, whose circular log holds 2 097 152. -/
def execFaultLogWrite (s : State) : Host.Outcome State Fault Refusal :=
  match s.hl.buf with
  | [] => .next s
  | r :: rest =>
    finishIf s.stacksRun s (
      let kept := s.hl.nor ++ [{ r with num := s.hl.nextNum }]
      let s := { s with hl := { s.hl with buf := rest, nor := kept.drop (kept.length - 2097152), nextNum := (s.hl.nextNum + 1) % 2 ^ 32 } }
      s.set HL_LOG_backlog rest.length)

/-! ### Mailbox commands -/

/-- HL_GET_HEALTH (R472). -/
def execHlGetHealth (n : Fin 4) (s : State) : Host.Outcome State Fault Refusal :=
  s.mbRow n 0x5000 fun r s =>
    if r.payload.length ≠ 0 then .reject badLength
    else .ok (wordBytes s.hlStat ++ leBytes 4 s.hl.sinceStart.1 ++ leBytes 4 s.hl.sinceStart.2
      ++ ((List.range 8).map fun g => wordBytes (s.rd (HL_SPARE g))).flatten
      ++ ((List.range 5).map fun k => leBytes 2 (s.get (HL_TEMP_now k))).flatten
      ++ leBytes 2 (s.get (HL_SUPPLY_now 0)) ++ leBytes 2 (s.get (HL_SUPPLY_now 1)) ++ leBytes 2 (s.get (HL_SUPPLY_now 5)) ++ zeros 4) s

/-- HL_GET_FAULT_LOG (R472): the records from a number on, or from the oldest kept. -/
def execHlGetFaultLog (n : Fin 4) (s : State) : Host.Outcome State Fault Refusal :=
  s.mbRow n 0x5001 fun r s =>
    let count := leAt r.payload 4 4
    if r.payload.length ≠ 8 then .reject badLength
    else if count = 0 ∨ 127 < count then .reject badParam
    else
      let first := leAt r.payload 0 4
      let from' := s.hl.nor.dropWhile fun e => decide (e.num < first)
      .ok (((from'.take count).map LogRec.bytes).flatten) s

/-- HL_REPAIR (R472): test and repair a faulty mezzanine, calibrate a lane's receiver, or recalibrate a TDC. Its answer comes
when the action ends. -/
def execHlRepair (n : Fin 4) (s : State) : Host.Outcome State Fault Refusal :=
  s.mbRow n 0x5002 fun r s =>
    let kind := byteAt r.payload 0
    let inst := leAt r.payload 4 4
    if r.payload.length ≠ 8 then .reject badLength
    else if leAt r.payload 1 3 ≠ 0 then .reject badParam
    else if kind = 0 then
      if 16 < inst then .reject badParam
      else if s.bit SC_MEZZ_STAT inst then .later (s.raise HL_STAT_repair_busy) else .reject badState
    else if kind = 1 then
      if 47 < inst then .reject badParam
      else if s.lanes ≤ inst then .reject noInstance
      else .later ({ s with hl := { s.hl with degraded := s.hl.degraded.filter (· ≠ inst) } }.lnCalBegin inst)
    else if kind = 2 then
      match s.tdcTargetCheck inst, tdcIndex inst with
      | some reason, _ => .reject reason
      | none, none => .reject badParam
      | none, some t =>
        if s.tdcMayStart t then
          .later ({ s with hl := { s.hl with calStopped := s.hl.calStopped.filter (· ≠ t), calBusy := some t } }.tdcStart t)
        else .busy (max 1 (s.tdcLeft t))
    else .reject badParam

/-- Start a loop-back test (R461): keep the registers it changes and set the loop. -/
def State.loopStart (s : State) (n kind depth index peer : Nat) : State :=
  let regs := match kind with
    | 0 | 1 => [LN_CTRL index]
    | 2 => [PT_XCONN index, PT_XCONN peer]
    | _ => [TW_CTRL]
  let s := { s with hl := { s.hl with test := some ⟨n, kind, depth, index, peer, regs.map fun a => (a, s.shadow a)⟩ } }
  match kind with
  | 0 | 1 => s.put (LN_CTRL_loop index) depth
  | 2 => (((s.put (PT_XCONN_enable index) 1).put (PT_XCONN_peer index) peer).put (PT_XCONN_enable peer) 1).put (PT_XCONN_peer peer) index
  | _ => s.put TW_CTRL_gal_loop (if depth = 1 then 1 else 2)

/-- HL_LOOPBACK (R461, R472). -/
def execHlLoopback (n : Fin 4) (s : State) : Host.Outcome State Fault Refusal :=
  s.mbRow n 0x5003 fun r s =>
    let kind := byteAt r.payload 0
    let depth := byteAt r.payload 1
    let index := byteAt r.payload 2
    let peer := byteAt r.payload 3
    let ms := leAt r.payload 4 4
    let len := leAt r.payload 8 2
    let depthOk : Bool := match kind with
      | 0 => decide (1 ≤ depth ∧ depth ≤ 3) | 1 => decide (depth = 4) | 2 => true | 3 => decide (depth = 1 ∨ depth = 3) | _ => false
    if r.payload.length ≠ 12 then .reject badLength
    else if ¬ depthOk ∨ ms = 0 ∨ 10000 < ms ∨ len < 64 ∨ 9600 < len ∨ leAt r.payload 10 2 ≠ 0 ∨ (kind ≤ 2 ∧ 47 < index) ∨ (kind = 2 ∧ 47 < peer) then .reject badParam
    else if (kind ≤ 2 ∧ s.lanes ≤ index) ∨ (kind = 2 ∧ s.lanes ≤ peer) then .reject noInstance
    else if s.hl.test.isSome then .reject 0x0102
    else if (kind ≤ 2 ∧ s.get (PT_IDLE_idle (s.headLane index)) = 0) ∨ (kind = 2 ∧ s.get (PT_IDLE_idle (s.headLane peer)) = 0)
        ∨ (kind = 3 ∧ s.on TW_CTRL_enable) then .reject badState
    else .later (s.loopStart n kind depth index peer)

/-- LOOPBACK_TEST_END (R461): the test's duration ends; HL restores the registers it changed and answers with what was sent,
the errors and the eye width. -/
def execLoopbackTestEnd (sentN errors eye : Nat) (s : State) : Host.Outcome State Fault Refusal :=
  whenUp s (
  match s.hl.test with
  | none => .next s
  | some t =>
    let s := t.saved.foldl (fun s e => s.store e.1 0xFFFFFFFF e.2) s
    let s := { s with hl := { s.hl with test := none } }
    finish (s.mbAnswerWaiting (fun q => q.opcode = 0x5003) (.inr (leBytes 8 sentN ++ leBytes 8 errors ++ leBytes 2 eye ++ zeros 6))))

/-- The checks common to the two optics commands (R472). -/
def opticsCheck (r : MbReq) (write : Bool) : Option Nat :=
  let len := byteAt r.payload 4
  if r.payload.length ≠ 8 + (if write then len else 0) then some badLength
  else if 1 < byteAt r.payload 0 ∨ 127 < byteAt r.payload 1 ∨ len = 0 ∨ 128 < len ∨ 1 < byteAt r.payload 5 ∨ leAt r.payload 6 2 ≠ 0 then some badParam
  else none

/-- Start an I²C transfer; a bus in use by another request is BUSY (R69, R472). -/
def State.i2cStart (s : State) (n : Nat) (r : MbReq) : Answer :=
  let bus := byteAt r.payload 0
  if s.hl.i2c.any fun e => e.1 = bus then .busy 25000
  else .later { s with hl := { s.hl with i2c := s.hl.i2c ++ [(bus, n)] } }

/-- HL_OPTICS_READ (R472). -/
def execHlOpticsRead (n : Fin 4) (s : State) : Host.Outcome State Fault Refusal :=
  s.mbRow n 0x5004 fun r s => match opticsCheck r false with | some e => .reject e | none => s.i2cStart n r

/-- HL_OPTICS_WRITE (R472). -/
def execHlOpticsWrite (n : Fin 4) (s : State) : Host.Outcome State Fault Refusal :=
  s.mbRow n 0x5005 fun r s => match opticsCheck r true with | some e => .reject e | none => s.i2cStart n r

/-- I2C_TRANSFER_END (R472): the transfer on a bus completes with the bytes read, is not acknowledged, or has held the bus
for more than 25 ms. -/
def execI2cTransferEnd (bus : Fin 2) (result : I2cResult) (s : State) : Host.Outcome State Fault Refusal :=
  finishIf (s.hl.i2c.any fun e => e.1 = bus.val) s (
    let s := { s with hl := { s.hl with i2c := s.hl.i2c.filter fun e => e.1 ≠ bus.val } }
    let mine := fun (q : MbReq) => (q.opcode = 0x5004 ∨ q.opcode = 0x5005) ∧ byteAt q.payload 0 = bus.val
    match result with
    | .nack => s.mbAnswerWaiting mine (.inl 0x0100)
    | .timeout => s.mbAnswerWaiting mine (.inl 0x0101)
    | .done data =>
      (s.mbAnswerWaiting (fun q => mine q ∧ q.opcode = 0x5005) (.inr [])).mbAnswerWaiting mine (.inr data))

/-- MP_SRAM_ECC_FAULT (R451): an uncorrectable word of MP SRAM is read again; a second failure is lasting, its row is
repaired, and then a code row restarts the MP. A retired one keeps the loader from it at every start. -/
def execMpSramEccFault (bank row : Nat) (again codeRow : Bool) (s : State) : Host.Outcome State Fault Refusal :=
  whenUp s (
  let (lasting, s) := if again then (true, s.hlLasting 0x0A bank row 0) else s.hlTransient 0x0A bank row 0
  let s := if lasting then s.hlQueueRow 6 bank row else s
  finish (
    if ¬ codeRow then s
    else if s.hl.retired.contains (6, bank, row) then
      let s := { s with hl := { s.hl with badCode := true } }
      if lasting then s.mpRestart 4 else s
    else if lasting then { s with hl := { s.hl with codeRows := s.hl.codeRows.filter (· ≠ (bank, row)) ++ [(bank, row)] } }
    else s))

end Sys2Proof.Machine
end

