-- ==== Sys2Proof/Machine/Resets.lean ====
section
/-! DEFINITION. The resets (R46, R47, R454, R490 to R492): module reset, and the resets of the PCIe side. -/

namespace Sys2Proof.Machine

/-! ### The PCIe side (R46, R47) -/

/-- The MSI-X table and the configuration space return to their reset values, the PBA is clear, and every vector is armed (R46). A holdoff
that runs goes on, as SYS_VEC_HOLDOFF stands (R60). -/
def State.msixReset (s : State) : State :=
  let s := { s with regs := s.regs.filter fun e => !(decide (0xC000 ≤ e.1) && decide (e.1 < 0xE000)) }
  { s with host := { s.host with disarmed := [], msixEnable := false, funcMask := false, d3hot := false, cfg := PcieCfg.reset, guardPcie := false } }

/-- What a reset of the PCIe side does to mailbox `n`, which PCIe owns (R47). -/
def State.mbPcieReset (s : State) (n : Nat) : State :=
  if s.bit MB_OWNER n then s
  else if s.mbState n = mbTaken then s.setMb n { s.mb n with discard := true }
  else if s.mbState n = mbIdle then s
  else s.mbToIdle n

/-- Every ring is disabled, and every lock released (R169, R203). -/
def State.ringsReset (s : State) : State :=
  let s := (List.range 8).foldl (fun s r => (s.ftRingHalt r).set (SC_TXR_CFG_enable r) 0) s
  (List.range 32).foldl (fun s c => s.set (SC_CPUQ_RING_CFG_enable c) 0) s

/-- A PERST#, hot reset or FLR: the PCIe core and configuration space, MSI-X, the PCIe guard, host DMA and PCIe-owned mailboxes. -/
def State.pcieSide (s : State) : State := ((List.range 4).foldl State.mbPcieReset s.msixReset).ringsReset

/-- PERST_ASSERT (R491): PERST# low for `ns`. While module reset runs it governs, and while VIN is lost the pin is ignored (R492). -/
def execPerstAssert (ns : Nat) (s : State) : Host.Outcome State Fault Refusal :=
  finishAny (s.power.vin && decide (1000 ≤ ns)) s (
    let s := if s.power.inReset then s else s.pcieSide
    { s with power := { s.power with perst := true, pcieReset := true }, host := { s.host with linkGen := 0, linkWidth := 0 } })

/-- PCIE_HOT_RESET (R47). -/
def execPcieHotReset (s : State) : Host.Outcome State Fault Refusal := finishIf (!s.power.pcieReset) s s.pcieSide

/-- PCIE_FLR (R47). -/
def execPcieFlr (s : State) : Host.Outcome State Fault Refusal := finishIf (!s.power.pcieReset) s s.pcieSide

/-- PCIE_CORE_RESET_END (R491): PERST# is high and module reset has ended. The link trains at Gen4 to Gen1 and over 4, 2 or 1 lanes, as the
far end lets it (R39): a free choice (log entry 2). -/
def execPcieCoreResetEnd (s : State) : Host.Outcome State Fault Refusal :=
  finishIf s.power.pcieReset s (
    let (gen, s) := s.draw 2
    let (width, s) := s.draw 8
    { s with
      power := { s.power with perst := false, pcieReset := false }
      host := { s.host with linkGen := gen % 4 + 1, linkWidth := 2 ^ (width % 3) } })

/-! ### Module reset (R46, R454) -/

/-- What every module reset keeps of the health unit: the log and the repair maps in the NOR (R454, R463). -/
def Health.kept (h : Health) : Health :=
  { State.reset.hl with
    nor := h.nor, nextNum := h.nextNum, spares := h.spares, retired := h.retired, hardWait := h.hardWait, hardDone := h.hardDone
    badCode := h.badCode }

/-- What it keeps of the update: NOR and OTP. -/
def Fu.kept (f : Fu) : Fu := { f with act := none, pause := none, resetDue := false, revertDue := false }

/-- Registers that a module reset does not return to their reset values: SYS_ROOT_CTRL (R21), the repair map (R454), what the unit's OTP and
slots give, and the lock of the root, which runs on. -/
def keptRegs : List Nat := [SYS_ROOT_CTRL] ++ (List.range 8).map HL_SPARE

/-- A module reset begins: every block at its reset values (R46). What the NOR, the OTP and the VKEEP domain hold stays; TB restarts from
zero with TB_SUSPECT set. -/
def State.moduleReset (s : State) : State :=
  let r := { State.reset with
    pending := s.pending, variant := s.variant, free := s.free, sent := s.sent, retain := s.retain, unit := s.unit
    fu := s.fu.kept, hl := s.hl.kept
    tdc := { State.reset.tdc with sets := s.tdc.sets.filter fun e => decide (e.1 % 8 < 5) }
    power := { s.power with inReset := true, pcieReset := true, pwrOk := false, rootDone := false }
    host := { State.reset.host with linkGen := 0, linkWidth := 0 } }
  let r := keptRegs.foldl (fun r a => r.wr a (s.rd a)) r
  let r := (r.setB SYS_ROOT_STAT_locked (s.on SYS_ROOT_STAT_locked)).setB HL_STAT_spares_low (s.on HL_STAT_spares_low)
  let r := r.set SC_BUF_STAT_sram_free (r.get SC_BUF_STAT_sram_free - 2 * (s.hl.retired.filter fun e => e.1 = 0).length)
  r.fuSlots.set FU_VER_RUN_release (if s.fu.running < 2 then (s.fwSlot s.fu.running).release else 0)

/-- MRST_ASSERT (R490): MRST# low for `ns`. From 1 µs it starts a module reset, below 0.5 µs never, and between the two the choice is free
(log entry 2). While VIN is lost the pin is ignored (R492). -/
def execMrstAssert (ns : Nat) (s : State) : Host.Outcome State Fault Refusal :=
  let (x, t) := s.draw 1
  finishAny (s.power.vin && decide (500 ≤ ns)) s (if 1000 ≤ ns then s.moduleReset else if x = 1 then t.moduleReset else t)

/-- ACTIVATE_RESET (R429): 100 ms after a reset-mode activation is DONE the module resets. -/
def execActivateReset (s : State) : Host.Outcome State Fault Refusal := finishIf s.fu.resetDue s s.moduleReset

/-! ### The end of module reset (R489, R490) -/

/-- Recorded hard repairs are burned: one for each DRAM bank that has its hard repair resource left (R452). -/
def State.hardRepairs (s : State) : State :=
  s.hl.hardWait.foldl (fun s e =>
    if s.hl.hardDone.contains e.1 then s
    else
      { s.set (HL_SPARE_used 7) (s.get (HL_SPARE_used 7) + 1) with hl :=
        { s.hl with hardDone := insertN e.1 s.hl.hardDone, hardWait := s.hl.hardWait.filter (· ≠ e) } }) s

/-- Channel `c` starts from the retention memory: HOLDOVER where that holds a history, else FREERUN (R46, R337). -/
def State.chanStart (s : State) (c : Nat) : State :=
  let r := s.retain.get Retain.empty c
  let t := s.setChan c { s.chanOf c with prop := r.prop, integ := r.integ, hist := r.hist }
  if t.histValid c then (t.wr (TC_DCO_WORD c) r.word).holdOrLost c else s

/-- XIN shows a valid clock: one from 36 to 44 MHz (R503). -/
def xinValid (xin : Option Nat) : Bool :=
  match xin with
  | some f => decide (36000000 ≤ f) && decide (f ≤ 44000000)
  | none => false

/-- The root's source: XIN where it is selected and valid, else the OVO (R21). -/
def State.rootStart (s : State) (xin : Option Nat) : State :=
  let xinOk := xinValid xin
  let sel := s.on SYS_ROOT_CTRL_src_sel
  (s.setB SYS_ROOT_STAT_src_active (sel && xinOk)).setB SYS_ROOT_STAT_xin_absent (sel && !xinOk)

/-- MODULE_RESET_END (R490): TWIN_SEAT is sampled, PWR_OK rises, and the blocks leave reset. `xin` is the frequency of XIN in Hz, where it
has a clock. -/
def execModuleResetEnd (seatB : Bool) (xin : Option Nat) (s : State) : Host.Outcome State Fault Refusal :=
  finishAny (s.power.vin && s.power.inReset) s (
    let s := (s.hardRepairs.rootStart xin).setB TW_STAT_seat seatB
    let s := { s with power := { s.power with inReset := false, pwrOk := true, seatB := seatB }, tw := { s.tw with frameAt := s.clk } }
    (List.range s.chans).foldl State.chanStart s)

end Sys2Proof.Machine
end

