-- ==== Sys2Proof/Machine/Access.lean ====
section
/-! DEFINITION. The register bus: what a read of a register returns and clears, and what a write of it does, block by block (R48 to
R57). Rows of the opcode table that are one register's write or read all go through here. -/

namespace Sys2Proof.Machine

/-! ### Reads -/

/-- A pending bit as a register word. -/
def pendWord (b : Bool) : Word := if b then 1 else 0

/-- Does a shadow write wait for an address that satisfies `p` (R34)? -/
def State.waits (s : State) (p : Nat → Bool) : Bool := s.pend.any fun e => p e.1

/-- A common register of TC. -/
def isTcCommon (a : Nat) : Bool := decide (0x786000 ≤ a) && decide (a < 0x7C0000)

/-- The user page of PM (R469): word `i`. -/
def State.userPage (s : State) (i : Nat) : Word :=
  if ¬ s.on PM_USER_EN_en then 0
  else if i < 0x200 then s.rd (0x21000 + 4 * i)
  else if i < 0x2C0 then s.rd (0x22000 + 4 * (i - 0x200))
  else 0

/-- What a read of `p` by `m` returns of the active values, with no side effect. The registers that follow other state are computed
from it. -/
def State.view (s : State) (m : Master) (p : Place) : Word :=
  let b := p.r.base
  let w := s.rd p.a
  if b = SYS_DEV_ID then putBits (putBits w 31 16 s.partCode) 7 0 s.lanes
  else if b = SYS_UNLOCK then BitVec.ofNat 32 (flag s.host.guardPcie + 2 * flag s.host.guardMsp)
  else if b = SYS_SRC_LO then s.sourceWord 0
  else if b = SYS_SRC_HI then s.sourceWord 1
  else if b = PM_USER 0 then s.userPage p.i
  else if b = HL_STAT then s.hlStat
  else if b = LN_PEND 0 then pendWord (s.waits fun a => decide (groupOf a = .lane p.i) || decide (a = LN_BAY_MODE (p.i / 4)))
  else if b = PT_PEND 0 then pendWord (s.pends (.port p.i))
  else if b = PR_PEND then pendWord (s.pends .parser || !s.pr.grSwap.isEmpty || !s.pr.rsSwap.isEmpty)
  else if b = PR_STAT then putBits w 2 2 (flag s.prQuiet)
  else if b = SC_PEND then pendWord (s.pends .switch)
  else if b = SC_DBM_STAT then
    BitVec.ofNat 32 s.dbmFree
  else if b = GT_PEND 0 then pendWord (s.pends (.stair p.i))
  else if b = GT_POS 0 then BitVec.ofNat 32 (s.position p.i s.tb.fifths / unit16)
  else if b = GT_TAQ_STAT then s.taqStat
  else if b = TB_TXTS 0 then s.txtsView m p.i
  else if b = PX_PEND then pendWord (s.pends .links)
  else if b = TC_PEND 0 then pendWord (s.waits fun a => isTcCommon a || decide (groupOf a = .chan p.i))
  else if b = OU_PEND 0 then pendWord (s.pends (.out p.i))
  else if b = EV_TS 0 then s.evTsView p.i
  else if b = EV_RES 0 then s.evResView p.i
  else if b = TW_PEND then pendWord (s.pends .twin)
  else if b = FU_TRIAL_LEFT then BitVec.ofNat 32 s.trialLeft
  else w

/-- What a read through the shadow window returns: the shadow value of a register that has one, else the active value (R49). -/
def State.shadowView (s : State) (m : Master) (p : Place) : Word :=
  if p.r.base = PR_CTRL then s.prCtrlShadow
  else if p.r.shadowed then s.shadow p.a
  else s.view m p

/-- The side effect of a read at the ordinary offset: RCR fields clear (R54), and the heads of the timestamp and result queues
are removed (R262, R366, R369). -/
def State.readEffect (s : State) (m : Master) (p : Place) : State :=
  let b := p.r.base
  if b = TB_TXTS 0 then s.txtsPop m p.i
  else if b = EV_TS 0 then s.evTsPop p.i
  else if b = EV_RES 0 then s.evResPop p.i
  else
    let s := if b = GT_TAQ_GRP_LAST then { s with taq := { s.taq with grpSeen := false } } else s
    if p.r.mask .rcr = 0 then s else s.wr p.a (s.rd p.a &&& ~~~ p.r.mask .rcr)

/-- A read of the place `p`: neither the shadow window nor the peek alias clears anything (R49, R50). -/
def State.readPlace (s : State) (m : Master) (p : Place) : Word × State :=
  if p.shadow then (s.shadowView m p, s)
  else if p.peek then (s.view m p, s)
  else (s.view m p, s.readEffect m p)

/-! ### The guard (R56, R57) -/

/-- May a write by `m` to a register with guarded fields take them? An armed master is disarmed; an unarmed one is recorded. `a` is the
address written. -/
def State.guardTake (s : State) (m : Master) (a : Nat) (r : Reg) : Bool × State :=
  if r.mask .gw = 0 then (true, s)
  else
    match m with
    | .pcie => if s.host.guardPcie then (true, { s with host := { s.host with guardPcie := false } }) else (false, s.guardViol m false a)
    | .msp => if s.host.guardMsp then (true, { s with host := { s.host with guardMsp := false } }) else (false, s.guardViol m false a)
    | .mp => (true, s)
    | .taq => (true, s)

/-- A write of SYS_UNLOCK: the key arms the guard of its master, any other value disarms it and is recorded; the MP and the TAQ
have none (R56). -/
def State.unlock (s : State) (m : Master) (a : Nat) (v : Word) : State :=
  let ok := decide (v = 0x7D2B4E19)
  match m with
  | .pcie =>
    let s := { s with host := { s.host with guardPcie := ok } }
    if ok then s else s.guardViol m true a
  | .msp =>
    let s := { s with host := { s.host with guardMsp := ok } }
    if ok then s else s.guardViol m true a
  | .mp => s
  | .taq => s

/-! ### Writes, block by block -/

/-- The bits of `v` that a plain write stores: RW fields, and guarded ones where the guard lets them (R12). -/
def State.plain (s : State) (p : Place) (gw : Bool) (v : Word) : State :=
  s.store p.a (p.r.mask .rw ||| (if gw then p.r.mask .gw else 0)) v

/-- Re-arm the vectors of a word of SYS_VEC_ACK (R59). -/
def State.vecAck (s : State) (hi : Bool) (v : Word) : State :=
  { s with host := { s.host with disarmed := s.host.disarmed.filter fun n => !(decide (32 ≤ n) == hi && bitOf v.toNat (n % 32)) } }

/-- SYS and MB. -/
def State.writeSys (s : State) (m : Master) (p : Place) (gw : Bool) (v : Word) : State :=
  let b := p.r.base
  if b = SYS_UNLOCK then s.unlock m p.a v
  else if b = SYS_RESET then
    if ¬ gw then s
    else if bitOf v.toNat 0 then s.moduleReset
    else if bitOf v.toNat 1 then s.mpRestart 2
    else s
  else if b = SYS_VEC_ACK_LO then s.vecAck false v
  else if b = SYS_VEC_ACK_HI then s.vecAck true v
  else if b = MB_OWNER then (if gw then { s with ownerNext := v.toNat % 16 }.ownerApply else s)
  else if b = MB_DB 0 then s.mbDoorbell m p.i
  else if b = MB_ACK 0 then s.mbAckIt m p.i
  else if b = MB_REQ 0 0 then s.mbWrite m p.i p.j v
  else s.plain p gw v

/-- PM and HL. -/
def State.writePm (s : State) (p : Place) (v : Word) : State :=
  if p.r.base = PM_SNAP then s.pmSnap
  else if p.r.base = PM_CLR then s.pmClear
  else s.plain p true v

/-- LN and PT: PT_MAXFRM holds 1518 to 9600 (R97, R110). -/
def State.writeLn (s : State) (p : Place) (v : Word) : State :=
  let b := p.r.base
  if b = LN_CAL 0 then (if bitOf v.toNat 0 then s.lnCalBegin p.i else s)
  else if b = LN_RESET 0 then (if bitOf v.toNat 0 then s.setLane p.i { s.laneOf p.i with resetReq := true } else s)
  else if b = PT_MAXFRM 0 then s.plain p true (BitVec.ofNat 32 (clamp 1518 9600 (bitsOf v 13 0)))
  else s.plain p true v

/-- The grammar bank of a clause word, the rule bank of a rule word, key profile or version, which may be locked (R133). -/
def prBankOf (p : Place) : Option (Bool × Nat) :=
  if 0x190000 ≤ p.a ∧ p.a < 0x198000 then some (false, (p.a - 0x190000) / 0x4000)
  else if 0x1A0000 ≤ p.a ∧ p.a < 0x1E0000 then some (true, (p.a - 0x1A0000) / 0x20000)
  else if p.r.base = PR_KEY_PROF 0 0 then some (true, p.i)
  else if p.r.base = PR_RS_VER 0 then some (true, p.i)
  else none

/-- PR: a write to a locked bank is dropped, and an accepted one ends the parity fault of its clause or rule (R124, R133, R134). -/
def State.writePr (s : State) (p : Place) (v : Word) : State :=
  if p.r.base = PR_CTRL then s.prSwap v
  else
    match prBankOf p with
    | none => s.plain p true v
    | some (false, b) =>
      if s.grLocked b then s.bankDrop
      else { s with pr := { s.pr with badClause := s.pr.badClause.filter (· ≠ (p.a - 0x190000) / 0x100) } }.plain p true v
    | some (true, b) =>
      if s.rsLocked b then s.bankDrop
      else if 0x1A0000 ≤ p.a ∧ p.a < 0x1E0000 then
        { s with pr := { s.pr with badRule := s.pr.badRule.filter (· ≠ (p.a - 0x1A0000) / 0x40) } }.plain p true v
      else s.plain p true v

/-- A ring register: while the ring is enabled only the head is written, and enable = 0, which stops the ring (R164, R203). -/
def State.writeRing (s : State) (k : Ring) (halt : State → State) (p : Place) (v : Word) : State :=
  if s.ringOn k then
    if p.a = k.head then (s.plain p true v).ringIdle k
    else if p.a = k.cfg ∧ ¬ bitOf v.toNat 0 then halt s
    else s
  else (s.plain p true v).ringIdle k

/-- FT: the seeds are written only while the MAC table is empty (R152). -/
def State.writeFt (s : State) (p : Place) (v : Word) : State :=
  if FT_RING_BASE_LO 0 ≤ p.a ∧ p.a < FT_RING_BASE_LO 8 then s.writeRing (ftRing p.i) (fun s => s.ftRingHalt p.i) p v
  else if p.r.base = FT_EPOCH_ADV then s.epochAdvance.2
  else if p.a = FT_MAC_SEED 0 ∨ p.a = FT_MAC_SEED 1 then
    if s.get FT_STAT_mac_count = 0 then s.plain p true v else s.raise FT_INT_STAT_seed_locked
  else s.plain p true v

/-- SC: the rings of the CPU queues and of transmission, and the swap of a mezzanine (R179, R203). -/
def State.writeSc (s : State) (p : Place) (gw : Bool) (v : Word) : State :=
  if SC_CPUQ_RING_BASE_LO 0 ≤ p.a ∧ p.a < SC_CPUQ_RING_BASE_LO 32 then
    s.writeRing (rxRing p.i) (fun s => s.set ⟨SC_CPUQ_RING_CFG p.i, 0, 0⟩ 0) p v
  else if SC_TXR_BASE_LO 0 ≤ p.a ∧ p.a < SC_TXR_BASE_LO 8 then
    s.writeRing (txRing p.i) (fun s => s.set ⟨SC_TXR_CFG p.i, 0, 0⟩ 0) p v
  else if p.r.base = SC_MEZZ_SWAP then
    if ¬ gw then s
    else
      let s := s.store p.a 0xF v
      if bitOf v.toNat 4 then s.swapStart (v.toNat % 16) else s
  else s.plain p gw v

/-- Bank `k` of port `p` is write-locked (R221). -/
def State.treadLocked (s : State) (p k : Nat) : Bool :=
  (s.stairOn p && decide (s.get (GT_CTRL_bank p) = k))
    || (s.waits (fun a => decide (a = GT_CTRL p)) && decide (bitsOf (s.shadow (GT_CTRL p)) 1 1 = k))

/-- GT: treads of a locked bank and words 0 to 6 of an ARMED entry are not written (R221, R232); arming and cancelling. -/
def State.writeGt (s : State) (m : Master) (p : Place) (gw : Bool) (v : Word) : State :=
  let b := p.r.base
  if b = GT_TREAD_DUR 0 0 ∨ b = GT_TREAD_GATES 0 0 then
    if s.treadLocked p.i (p.j / 1024) then (s.inc GT_WR_DROP_bank).raise GT_INT_STAT_bank_wr_drop else s.plain p gw v
  else if 0x6E0000 ≤ p.a ∧ p.a % 0x40 < 0x1C ∧ s.taqState p.i = 1 then s.inc GT_WR_DROP_taq
  else if b = GT_TAQ_ARM then s.taqArm m (v.toNat % 256) false
  else if b = GT_TAQ_ARM_G then (if gw then s.taqArm m (v.toNat % 256) true else s)
  else if b = GT_TAQ_CANCEL then s.taqCancel (v.toNat % 256)
  else if b = GT_TAQ_CANCEL_GRP then s.taqCancelGroup (v.toNat % 2 ^ 16)
  else s.plain p gw v

/-- TB. -/
def State.writeTb (s : State) (m : Master) (p : Place) (gw : Bool) (v : Word) : State :=
  let b := p.r.base
  if b = TB_CTRL then (if gw then s.suspectClrWrite v else s)
  else if b = TB_SNAP then s.snapWrite m
  else if b = TB_INCR_LO then s.incrStage v
  else if b = TB_INCR_HI then s.incrCommit m v
  else if b = TB_STEP then (if gw then s.stepGo v else s)
  else if b = TB_PTP_PORT 0 then
    let t := s.plain p gw v
    if s.on (TB_PTP_PORT_txts_owner p.i) = t.on (TB_PTP_PORT_txts_owner p.i) then t else t.txtsOwnerChange p.i
  else s.plain p gw v

/-- The priority fields of absent references read 0: 36 to 59 on the FH4824, and there is no reference 63 (R309). -/
def State.prioMask (s : State) (j : Nat) : Word :=
  BitVec.ofNat 32 ((List.range 8).foldl (fun w k => if s.refHere (8 * j + k) then w + 15 * 2 ^ (4 * k) else w) 0)

/-- PX and TC. -/
def State.writeTc (s : State) (m : Master) (p : Place) (v : Word) : State :=
  let b := p.r.base
  if b = PX_REF_RENEW then s.leaseRenew
  else if b = TC_RESET 0 then (if bitOf v.toNat 0 then s.tcResetStart p.i else s)
  else if b = TC_TDC_CAL 0 then (if bitOf v.toNat 0 then s.tdcTry (8 + p.i) else s)
  else if b = TC_REF_PRIO 0 0 then s.plain p true (v &&& s.prioMask p.j)
  else if b = TC_PTP_OFS_LO then (if m = .mp then s.ptpOfsLo v else s)
  else if b = TC_PTP_OFS_HI then (if m = .mp then s.ptpOfsHi v (s.get TB_STEP_CNT_count) else s)
  else s.plain p true v

/-- OU and EV: a ramp profile in use is write-locked (R364). -/
def State.writeOu (s : State) (p : Place) (v : Word) : State :=
  let b := p.r.base
  if b = OU_REALIGN then s.realignReq (v.toNat % 2 ^ 18)
  else if b = OU_RAMP_STOP then s.rampStop (v.toNat % 2 ^ 6)
  else if b = OU_RAMP_CFG 0 ∨ b = OU_RAMP_DUR 0 0 ∨ b = OU_RAMP_SLOPE 0 0 then
    if s.rampLocked p.i then (s.inc OU_WR_DROP_count).raise OU_INT_STAT_wr_drop else s.plain p true v
  else if b = EV_CAL 0 then (if bitOf v.toNat 0 then s.tdcTry p.i else s)
  else if b = EV_GRP_CFG 0 ∨ b = EV_GRP_WIN 0 then (s.plain p true v).grpWritten p.i
  else s.plain p true v

/-- The bits of a TW mask that name what is present (R413). -/
def State.twPresent (s : State) (b : Nat) : Word :=
  if s.variant = .fh4848 then 0xFFFFFFFF
  else if b = TW_CH_MASK then 0xF
  else if b = TW_OUT_MASK then 0x300FF
  else if b = TW_LAG_LO then 0xFFFFFF
  else if b = TW_LAG_HI then 0
  else 0xFFFFFFFF

/-- TW and FU. -/
def State.writeTw (s : State) (p : Place) (gw : Bool) (v : Word) : State :=
  if p.r.base = TW_FORCE then (if gw then s.twForce (v.toNat % 4) else s)
  else s.plain p gw (v &&& s.twPresent p.r.base)

/-- A write to the place `p`, which its guard lets take guarded fields or not. -/
def State.writeAt (s : State) (m : Master) (p : Place) (gw : Bool) (v : Word) : State :=
  if p.a < 0x20000 then s.writeSys m p gw v
  else if p.a < 0x100000 then s.writePm p v
  else if p.a < 0x180000 then s.writeLn p v
  else if p.a < 0x200000 then s.writePr p v
  else if p.a < 0x400000 then s.writeFt p v
  else if p.a < 0x600000 then s.writeSc p gw v
  else if p.a < 0x700000 then s.writeGt m p gw v
  else if p.a < 0x740000 then s.writeTb m p gw v
  else if p.a < 0x7C0000 then s.writeTc m p v
  else if p.a < 0x800000 then s.writeOu p v
  else s.writeTw p gw v

/-- A write of one WO1 field (R55): the first write sets it, a later write of the same value is accepted, and one of another value is dropped
and captured. -/
def State.woField (s : State) (m : Master) (a : Nat) (p : Place) (v : Word) (f : Fld) : State :=
  let x := bitsOf v f.hi f.lo
  if s.host.woWritten.contains (p.a, f.lo) then
    if s.get ⟨p.a, f.hi, f.lo⟩ = x then s else s.woViol m a
  else { s with host := { s.host with woWritten := s.host.woWritten ++ [(p.a, f.lo)] } }.set ⟨p.a, f.hi, f.lo⟩ x

/-- A write of the word `v` that has reached the place `p`. `a` is the address written. -/
def State.writePlace (s : State) (m : Master) (a : Nat) (p : Place) (v : Word) : State :=
  let g := s.guardTake m a p.r
  let s := g.2.writeAt m p g.1 v
  (p.r.fields.filter fun f => f.acc = .wo1).foldl (fun s f => s.woField m a p v f) s

/-! ### Accesses (R45, R52, R53) -/

/-- The second word of a 64-bit access: the place next to `p`. -/
def State.nextPlace (s : State) (q : Req) : Place ⊕ Nat := s.locate (q.addr + 4)

/-- One write on the register bus. The answer tells whether it was a bus error. A write in the peek alias is ignored and completes
normally (R50, log entry 23). -/
def State.busWrite (s : State) (q : Req) (v hi : Word) : Bool × State :=
  if widthOk q && isPeek q.addr then (false, s) else
  match s.reach q with
  | .inr reason => (true, s.busErr q.m true reason q.addr)
  | .inl p =>
    let s := s.writePlace q.m q.addr p v
    if q.dws = 2 then
      match s.nextPlace q with
      | .inl p2 => (false, s.writePlace q.m (q.addr + 4) p2 hi)
      | .inr _ => (false, s)
    else (false, s)

/-- One read on the register bus: the words read, none for a bus error. -/
def State.busRead (s : State) (q : Req) : Option (List Word) × State :=
  match s.reach q with
  | .inr reason => (none, s.busErr q.m false reason q.addr)
  | .inl p =>
    let (w, s) := s.readPlace q.m p
    if q.dws = 2 then
      match s.nextPlace q with
      | .inl p2 => let (w2, s) := s.readPlace q.m p2; (some [w, w2], s)
      | .inr _ => (some [w], s)
    else (some [w], s)

/-- The 32-bit access of master `m` to the word at `a`. -/
def Req.word (m : Master) (a : Nat) : Req := ⟨m, a, 1, true⟩

/-- Can an access of master `m` be made? PCIe outside its core's reset, the MP while its firmware runs. -/
def State.canReach (s : State) (m : Master) : Bool :=
  match m with
  | .pcie => !s.power.pcieReset
  | .msp => true
  | .mp => s.mpRuns
  | .taq => true

/-- A write as its master makes it: in D3hot, and as a bus error, a PCIe write is dropped as Unsupported Request (R39, R53). -/
def State.accessWrite (s : State) (q : Req) (v hi : Word) : State :=
  if q.m = .pcie ∧ s.host.d3hot then s.emit (.writeUr q.addr)
  else
    let r := s.busWrite q v hi
    if r.1 ∧ q.m = .pcie then r.2.emit (.writeUr q.addr) else r.2

/-- A read as its master makes it; the data, or Unsupported Request, goes back to it (R53). -/
def State.accessRead (s : State) (q : Req) : State :=
  if q.m = .pcie ∧ s.host.d3hot then s.emit (.readData .pcie q.addr none)
  else
    let r := s.busRead q
    match r.1 with
    | some [w, w2] => (r.2.emit (.readData q.m q.addr (some w))).emit (.readData q.m (q.addr + 4) (some w2))
    | some (w :: _) => r.2.emit (.readData q.m q.addr (some w))
    | _ => r.2.emit (.readData q.m q.addr none)

/-- The meaning of every register write. -/
def State.write (s : State) (q : Req) (v hi : Word) : Host.Outcome State Fault Refusal :=
  finishIf (s.canReach q.m) s (s.accessWrite q v hi)

/-- The meaning of every register read. -/
def State.read (s : State) (q : Req) : Host.Outcome State Fault Refusal := finishIf (s.canReach q.m) s (s.accessRead q)

end Sys2Proof.Machine
end

