-- ==== Sys2Proof/Machine/HostPort.lean ====
section
/-! DEFINITION. The rows of the host port: register writes and reads, MSP frames, interrupt vectors, and the registers whose write or
read is a row of its own. Each is one access of the register bus. -/

namespace Sys2Proof.Machine

/-- REGISTER_WRITE (R48): `hi` is the upper word of a 64-bit request (R52). -/
def execRegisterWrite (q : Req) (v hi : Word) (s : State) : Host.Outcome State Fault Refusal := s.write q v hi

/-- RCR_READ (R54): an ordinary read, or one through the shadow window or the peek alias. -/
def execRcrRead (q : Req) (s : State) : Host.Outcome State Fault Refusal := s.read q

/-! ### SYS (R56, R59, R60, R490) -/

/-- SYS_UNLOCK_WRITE (R56). -/
def execSysUnlockWrite (m : Master) (v : Word) (s : State) : Host.Outcome State Fault Refusal := s.write (Req.word m SYS_UNLOCK) v 0

/-- SYS_RESET_MODULE (R490). -/
def execSysResetModule (m : Master) (s : State) : Host.Outcome State Fault Refusal := s.write (Req.word m SYS_RESET) 1 0

/-- SYS_RESET_MP (R29). -/
def execSysResetMp (m : Master) (s : State) : Host.Outcome State Fault Refusal := s.write (Req.word m SYS_RESET) 2 0

/-- SYS_VEC_ACK_WRITE (R59): the low or the high word. -/
def execSysVecAckWrite (m : Master) (hi : Bool) (v : Word) (s : State) : Host.Outcome State Fault Refusal :=
  s.write (Req.word m (if hi then SYS_VEC_ACK_HI else SYS_VEC_ACK_LO)) v 0

/-- VEC_HOLDOFF_EXPIRY (R60): what is due on the vector is then sent. -/
def execVecHoldoffExpiry (v : Fin 64) (s : State) : Host.Outcome State Fault Refusal :=
  finishIf (s.host.holding.contains v.val) s { s with host := { s.host with holding := s.host.holding.filter (· ≠ v.val) } }

/-- What identifies the module in the configuration space (R40), by the register of the standard header that holds it: vendor and device
ID at 0x00, revision ID and class code at 0x08, subsystem vendor ID and subsystem ID at 0x2C. -/
def State.configId (s : State) (offset : Nat) : Word :=
  let dev := s.rd SYS_DEV_ID
  if offset = 0x00 ∨ offset = 0x2C then BitVec.ofNat 32 (0x1F8B + s.partCode * 2 ^ 16)
  else if offset = 0x08 then BitVec.ofNat 32 (bitsOf dev 11 8 + bitsOf dev 15 12 * 2 ^ 4 + 0x028000 * 2 ^ 8)
  else 0

/-- The fields after a configuration write that asks for `c`: the BAR is 64 MiB, and a value that the port does not support leaves its field
as it is (R39, log entry 56). The codes of the completion timeout are PCI Express's: 0 the default of 50 µs to 50 ms, 1 and 2 range A,
5 and 6 range B. -/
def pcieCfgAfter (old c : PcieCfg) : PcieCfg where
  bar := c.bar % 2 ^ 64 / 2 ^ 26 * 2 ^ 26
  ecrcGen := c.ecrcGen
  ecrcCheck := c.ecrcCheck
  maxPayload := if [128, 256].contains c.maxPayload then c.maxPayload else old.maxPayload
  maxRead := if [128, 256, 512].contains c.maxRead then c.maxRead else old.maxRead
  timeout := if [0, 1, 2, 5, 6].contains c.timeout then c.timeout else old.timeout
  aspmL1 := c.aspmL1

/-- CONFIG_SPACE_WRITE (R39, R59): MSI-X enable, function mask, and in `c` the power state D3hot and the other fields after the write. The configuration space is
in reset with the PCIe core. -/
def execConfigSpaceWrite (msix mask : Bool) (c : Bool × PcieCfg) (s : State) : Host.Outcome State Fault Refusal :=
  finishIf (!s.power.pcieReset) s { s with host :=
    { s.host with msixEnable := msix, funcMask := mask, d3hot := c.1, cfg := pcieCfgAfter s.host.cfg c.2 } }

/-! ### The Management Serial Port (R42, R43) -/

/-- The response to a read frame: status, data and CRC-8. -/
def mspData (w : Word) : Bytes :=
  let b := BitVec.ofNat 8 0xA0 :: beBytes 4 w.toNat
  b ++ [BitVec.ofNat 8 (crc8 b)]

/-- The command whose bytes are `b` has the CRC-8 that ends it. -/
def mspCrcOk (b : Bytes) : Bool := decide (crc8 (b.take (b.length - 1)) = byteAt b (b.length - 1))

/-- Execute a complete write command: the status and the state it leaves. -/
def State.mspWrite (s : State) (b : Bytes) : Nat × State :=
  if ¬ mspCrcOk b then (0xA2, s)
  else
    let r := s.busWrite (Req.word .msp (beAt b 1 4)) (BitVec.ofNat 32 (beAt b 5 4)) 0
    (if r.1 then 0xA1 else 0xA0, r.2)

/-- Execute a complete read command: the response and the state it leaves. -/
def State.mspRead (s : State) (b : Bytes) : Bytes × State :=
  if ¬ mspCrcOk b then ([0xA2], s)
  else
    let r := s.busRead (Req.word .msp (beAt b 1 4))
    match r.1 with
    | some (w :: _) => (mspData w, r.2)
    | _ => ([0xA1], r.2)

/-- MSP_WRITE_FRAME (R42): `b` is what the host drives on MSP_SDI; the command is its first 10 bytes, and what follows is ignored. -/
def execMspWriteFrame (b : Bytes) (s : State) : Host.Outcome State Fault Refusal :=
  finishIf (decide (byteAt b 0 = 0x02) && decide (10 ≤ b.length)) s (
    let r := s.mspWrite (b.take 10)
    if r.2.power.inReset then r.2 else r.2.emit (.msp [BitVec.ofNat 8 r.1]))

/-- MSP_READ_FRAME (R42): the command is the first 6 bytes. -/
def execMspReadFrame (b : Bytes) (s : State) : Host.Outcome State Fault Refusal :=
  finishIf (decide (byteAt b 0 = 0x03) && decide (6 ≤ b.length)) s (
    let r := s.mspRead (b.take 6)
    r.2.emit (.msp r.1))

/-- MSP_UNKNOWN_COMMAND (R42): the command ends with its first byte. -/
def execMspUnknownCommand (b : Bytes) (s : State) : Host.Outcome State Fault Refusal :=
  finishIf (!b.isEmpty && decide (byteAt b 0 ≠ 0x02) && decide (byteAt b 0 ≠ 0x03)) s (s.emit (.msp [0xA3]))

/-- MSP_CS_EARLY_RISE (R43): MSP_CS# rises before the response has ended. A write whose command is complete may or may not have taken
effect (a free choice, log entry 2); a complete read is made, and its data is lost. A command that is not complete is not executed. -/
def execMspCsEarlyRise (b : Bytes) (s : State) : Host.Outcome State Fault Refusal :=
  finishIf (!b.isEmpty) s (
    if byteAt b 0 = 0x02 ∧ 10 ≤ b.length then
      let (x, s) := s.draw 1
      if x = 1 then (s.mspWrite (b.take 10)).2 else s
    else if byteAt b 0 = 0x03 ∧ 6 ≤ b.length then (s.mspRead (b.take 6)).2
    else s)

/-! ### Mailboxes (R62) -/

/-- MB_REQUEST_WRITE (R62): word `w` of the request buffer of mailbox `n`. -/
def execMbRequestWrite (m : Master) (n : Fin 4) (w : Fin 1024) (v : Word) (s : State) : Host.Outcome State Fault Refusal :=
  s.write (Req.word m (MB_REQ n w)) v 0

/-- MB_DB_WRITE (R62). -/
def execMbDbWrite (m : Master) (n : Fin 4) (v : Word) (s : State) : Host.Outcome State Fault Refusal := s.write (Req.word m (MB_DB n)) v 0

/-- MB_ACK_WRITE (R62). -/
def execMbAckWrite (m : Master) (n : Fin 4) (v : Word) (s : State) : Host.Outcome State Fault Refusal := s.write (Req.word m (MB_ACK n)) v 0

/-! ### Lanes, parser, forwarding tables, switch core -/

/-- LN_CAL_START (R93): by a write, or by HL as a repair that waits for a signal (R445). -/
def execLnCalStart (m : Option Master) (l : Fin 48) (v : Word) (s : State) : Host.Outcome State Fault Refusal :=
  match m with
  | some m => s.write (Req.word m (LN_CAL l)) v 0
  | none => finishIf ((s.laneOf l).calWanted && s.on (LN_STAT_signal l)) s (s.lnCalBegin l)

/-- LN_RESET_WRITE (R109). -/
def execLnResetWrite (m : Master) (l : Fin 48) (v : Word) (s : State) : Host.Outcome State Fault Refusal := s.write (Req.word m (LN_RESET l)) v 0

/-- PR_CTRL_SWAP_WRITE (R134). -/
def execPrCtrlSwapWrite (m : Master) (v : Word) (s : State) : Host.Outcome State Fault Refusal := s.write (Req.word m PR_CTRL) v 0

/-- FT_AGE_WRITE (R162): the sweeper follows the period in force (AGE_EVENT). -/
def execFtAgeWrite (m : Master) (v : Word) (s : State) : Host.Outcome State Fault Refusal := s.write (Req.word m FT_AGE) v 0

/-- FT_RING_HEAD_WRITE (R164). -/
def execFtRingHeadWrite (m : Master) (r : Fin 8) (v : Word) (s : State) : Host.Outcome State Fault Refusal := s.write (Req.word m (FT_RING_HEAD r)) v 0

/-- FT_RING_ENABLE (R164): a write of FT_RING_CFG with enable = 1 and the other bits of `v`. -/
def execFtRingEnable (m : Master) (r : Fin 8) (v : Word) (s : State) : Host.Outcome State Fault Refusal := s.write (Req.word m (FT_RING_CFG r)) (v ||| 1) 0

/-- FT_RING_DISABLE (R164, R171): a write of FT_RING_CFG with enable = 0 and the other bits of `v`. -/
def execFtRingDisable (m : Master) (r : Fin 8) (v : Word) (s : State) : Host.Outcome State Fault Refusal := s.write (Req.word m (FT_RING_CFG r)) (v &&& ~~~ 1) 0

/-- FT_EPOCH_ADV_WRITE (R151). -/
def execFtEpochAdvWrite (m : Master) (v : Word) (s : State) : Host.Outcome State Fault Refusal := s.write (Req.word m FT_EPOCH_ADV) v 0

/-- SC_MEZZ_SWAP_WRITE (R179). -/
def execScMezzSwapWrite (m : Master) (v : Word) (s : State) : Host.Outcome State Fault Refusal := s.write (Req.word m SC_MEZZ_SWAP) v 0

/-- SC_RING_HEAD_WRITE (R203). -/
def execScRingHeadWrite (m : Master) (k : ScRing) (v : Word) (s : State) : Host.Outcome State Fault Refusal :=
  match k with
  | .rx c => s.write (Req.word m (SC_CPUQ_RING_HEAD c)) v 0
  | .tx r => s.write (Req.word m (SC_TXR_HEAD r)) v 0

/-- SC_RING_CFG_WRITE (R203). -/
def execScRingCfgWrite (m : Master) (k : ScRing) (v : Word) (s : State) : Host.Outcome State Fault Refusal :=
  match k with
  | .rx c => s.write (Req.word m (SC_CPUQ_RING_CFG c)) v 0
  | .tx r => s.write (Req.word m (SC_TXR_CFG r)) v 0

/-! ### The timed action queue (R233 to R239) -/

/-- GT_TAQ_ARM_WRITE (R233). -/
def execGtTaqArmWrite (m : Master) (v : Word) (s : State) : Host.Outcome State Fault Refusal := s.write (Req.word m GT_TAQ_ARM) v 0

/-- GT_TAQ_ARM_G_WRITE (R234). -/
def execGtTaqArmGWrite (m : Master) (v : Word) (s : State) : Host.Outcome State Fault Refusal := s.write (Req.word m GT_TAQ_ARM_G) v 0

/-- GT_TAQ_CANCEL_WRITE (R239). -/
def execGtTaqCancelWrite (m : Master) (v : Word) (s : State) : Host.Outcome State Fault Refusal := s.write (Req.word m GT_TAQ_CANCEL) v 0

/-- GT_TAQ_CANCEL_GRP_WRITE (R239). -/
def execGtTaqCancelGrpWrite (m : Master) (v : Word) (s : State) : Host.Outcome State Fault Refusal :=
  s.write (Req.word m GT_TAQ_CANCEL_GRP) v 0

/-- The word that entry `i` writes: its value, merged under its mask into what the target's shadow, or its active value, holds (R236). -/
def State.taqWord (s : State) (i a : Nat) : Word :=
  let mask := s.rd (GT_TAQ_MASK i)
  let v := s.rd (GT_TAQ_VALUE i)
  if mask = 0xFFFFFFFF then v
  else
    match s.locate a with
    | .inl p => (s.shadowView .taq p &&& ~~~ mask) ||| (v &&& mask)
    | .inr _ => v

/-- Entry `i` executes (R235): its write, the time of TB in words 8 to 10, its end state, its group. x_suspect tells that TB is suspect, or was
so when the entry fell due (R237, R244). -/
def State.taqRun (s : State) (i : Nat) : State :=
  let a := s.get (GT_TAQ_ADDR_addr i)
  let late := s.taq.late.contains i
  let t := (s.busWrite (Req.word .taq a) (s.taqWord i a) 0).2
  if t.power.inReset then t
  else
    let t := (t.set (GT_TAQ_XSEC_x_sec_lo i) s.tb.sec).set (GT_TAQ_XNS_x_ns i) s.tb.ns
    let t := (t.set (GT_TAQ_XW2_x_frac i) s.tb.frac16).setB (GT_TAQ_XW2_x_suspect i) (s.on TB_STAT_suspect || s.taq.suspect.contains i)
    let t := t.pm 5 0x52 1
    let t := if late then t.pm 5 0x53 1 else t
    ((t.taqLeave i (if late then 3 else 2)).raise GT_INT_STAT_taq_done).groupDone (s.taqGroup i)

/-- The entry whose turn it is: of the due entries whose time TB has reached, the first (R235, R238). -/
def State.taqNext (s : State) : Option Nat := s.taqFirst (s.taq.due.filter fun i => decide (s.taqTime i ≤ s.tb.toNat))

/-- TAQ_EXECUTE (R235): one due entry on one register-bus clock. -/
def execTaqExecute (s : State) : Host.Outcome State Fault Refusal :=
  match s.taqNext with
  | some i => finishIf true s (s.taqRun i)
  | none => .next s

/-! ### The time base (R245, R246, R248, R251, R262) -/

/-- TB_SNAP_WRITE (R245). -/
def execTbSnapWrite (m : Master) (v : Word) (s : State) : Host.Outcome State Fault Refusal := s.write (Req.word m TB_SNAP) v 0

/-- TB_INCR_LO_WRITE (R246). -/
def execTbIncrLoWrite (m : Master) (v : Word) (s : State) : Host.Outcome State Fault Refusal := s.write (Req.word m TB_INCR_LO) v 0

/-- TB_INCR_HI_WRITE (R246). -/
def execTbIncrHiWrite (m : Master) (v : Word) (s : State) : Host.Outcome State Fault Refusal := s.write (Req.word m TB_INCR_HI) v 0

/-- TB_STEP_GO (R248). -/
def execTbStepGo (m : Master) (v : Word) (s : State) : Host.Outcome State Fault Refusal := s.write (Req.word m TB_STEP) v 0

/-- TB_SUSPECT_CLR_WRITE (R251). -/
def execTbSuspectClrWrite (m : Master) (v : Word) (s : State) : Host.Outcome State Fault Refusal := s.write (Req.word m TB_CTRL) v 0

/-- TB_TXTS_READ (R262): word 0 of the queue of port `p`. -/
def execTbTxtsRead (m : Master) (p : Fin 48) (s : State) : Host.Outcome State Fault Refusal := s.read (Req.word m (TB_TXTS p))

/-! ### FPL links, timing channels, outputs, events -/

/-- PX_REF_RENEW_WRITE (R295). -/
def execPxRefRenewWrite (m : Master) (v : Word) (s : State) : Host.Outcome State Fault Refusal := s.write (Req.word m PX_REF_RENEW) v 0

/-- TC_PTP_OFS_LO_WRITE (R311). -/
def execTcPtpOfsLoWrite (m : Master) (v : Word) (s : State) : Host.Outcome State Fault Refusal := s.write (Req.word m TC_PTP_OFS_LO) v 0

/-- TC_PTP_OFS_HI_WRITE (R311). -/
def execTcPtpOfsHiWrite (m : Master) (v : Word) (s : State) : Host.Outcome State Fault Refusal := s.write (Req.word m TC_PTP_OFS_HI) v 0

/-- TC_RESET_WRITE (R334). -/
def execTcResetWrite (m : Master) (c : Fin 6) (v : Word) (s : State) : Host.Outcome State Fault Refusal := s.write (Req.word m (TC_RESET c)) v 0

/-- TC_TDC_CAL_WRITE (R335). -/
def execTcTdcCalWrite (m : Master) (c : Fin 6) (v : Word) (s : State) : Host.Outcome State Fault Refusal := s.write (Req.word m (TC_TDC_CAL c)) v 0

/-- OU_RAMP_STOP_WRITE (R364). -/
def execOuRampStopWrite (m : Master) (v : Word) (s : State) : Host.Outcome State Fault Refusal := s.write (Req.word m OU_RAMP_STOP) v 0

/-- OU_REALIGN_WRITE (R361). -/
def execOuRealignWrite (m : Master) (v : Word) (s : State) : Host.Outcome State Fault Refusal := s.write (Req.word m OU_REALIGN) v 0

/-- EV_TS_READ (R366): word 0 of the timestamp FIFO of input `i`. -/
def execEvTsRead (m : Master) (i : Fin 8) (s : State) : Host.Outcome State Fault Refusal := s.read (Req.word m (EV_TS i))

/-- EV_RES_READ (R369): word 0 of the result FIFO of group `g`. -/
def execEvResRead (m : Master) (g : Fin 8) (s : State) : Host.Outcome State Fault Refusal := s.read (Req.word m (EV_RES g))

/-- EV_GRP_CFG_WRITE (R370): EV_GRP_WIN where `win`, else EV_GRP_CFG. -/
def execEvGrpCfgWrite (m : Master) (g : Fin 8) (win : Bool) (v : Word) (s : State) : Host.Outcome State Fault Refusal :=
  s.write (Req.word m (if win then EV_GRP_WIN g else EV_GRP_CFG g)) v 0

/-- EV_CAL_WRITE (R371). -/
def execEvCalWrite (m : Master) (i : Fin 8) (v : Word) (s : State) : Host.Outcome State Fault Refusal := s.write (Req.word m (EV_CAL i)) v 0

/-! ### Twin and performance counters -/

/-- TW_FORCE_TAKE (R411). -/
def execTwForceTake (m : Master) (s : State) : Host.Outcome State Fault Refusal := s.write (Req.word m TW_FORCE) 2 0

/-- TW_FORCE_RELEASE (R411). -/
def execTwForceRelease (m : Master) (s : State) : Host.Outcome State Fault Refusal := s.write (Req.word m TW_FORCE) 1 0

/-- PM_SNAP_WRITE (R465). -/
def execPmSnapWrite (m : Master) (v : Word) (s : State) : Host.Outcome State Fault Refusal := s.write (Req.word m PM_SNAP) v 0

/-- PM_CLR_WRITE (R465). -/
def execPmClrWrite (m : Master) (v : Word) (s : State) : Host.Outcome State Fault Refusal := s.write (Req.word m PM_CLR) v 0

end Sys2Proof.Machine
end

