-- ==== Sys2Proof/Machine/Power.lean ====
section
/-! DEFINITION. Supplies and the root: VIN and VKEEP (R481, R485 to R489), V3P3_OUT (R484), the oven, and the root's lock (R31, R32). -/

namespace Sys2Proof.Machine

/-! ### VIN and VKEEP -/

/-- VIN at `mv` starts the module: it has risen through 5.7 V, and after an overvoltage it is below 61.5 V (R481). -/
def State.vinStarts (s : State) (mv : Nat) : Bool :=
  !s.power.vin && decide (5700 ≤ mv) && (if s.power.tripped then decide (mv < 61500) else decide (mv ≤ 62500))

/-- Power-up (R46, R489): with the VKEEP domain held, TB runs on with its flags, its increment and the retention memory; else TB starts from
zero with TB_SUSPECT set, and SYS_ROOT_CTRL returns to its reset value. -/
def State.powerUp (s : State) : State :=
  let r := s.moduleReset
  let r := { r with power := { r.power with vin := true, tripped := false, v3p3 := true, keep := true, ovenWatched := false } }
  let r := r.set SYS_ROOT_STAT_locked 1
  if s.power.keep then
    { [TB_STAT, TB_INCR_LO, TB_INCR_HI].foldl (fun r a => r.wr a (s.rd a)) r with tb := s.tb }
  else r.wr SYS_ROOT_CTRL 0

/-- VIN_RISE (R489). -/
def execVinRise (mv : Nat) (s : State) : Host.Outcome State Fault Refusal := finishAny (s.vinStarts mv) s s.powerUp

/-- VIN_RETURN (R487): VIN returns while the VKEEP domain still runs. -/
def execVinReturn (mv : Nat) (s : State) : Host.Outcome State Fault Refusal := finishAny (s.vinStarts mv && s.power.keep) s s.powerUp

/-- VIN is lost: every VIN function stops, V3P3_OUT turns off, and the VKEEP domain runs from the VKEEP balls. -/
def State.vinGone (s : State) (tripped : Bool) : State :=
  { s with power := { s.power with vin := false, tripped := tripped, v3p3 := false, pwrOk := false, pcieReset := true },
           host := { s.host with linkGen := 0, linkWidth := 0 } }

/-- VIN_LOSS (R481): VIN below 5.3 V for 2 µs. -/
def execVinLoss (mv us : Nat) (s : State) : Host.Outcome State Fault Refusal :=
  finishAny (s.power.vin && decide (mv < 5300) && decide (2 ≤ us)) s (s.vinGone false)

/-- VIN_OVERVOLTAGE (R481): VIN above 62.5 V for 2 µs. -/
def execVinOvervoltage (mv us : Nat) (s : State) : Host.Outcome State Fault Refusal :=
  finishAny (s.power.vin && decide (62500 < mv) && decide (2 ≤ us)) s (s.vinGone true)

/-- VKEEP_LOSS (R486): with VIN lost, VKEEP below 2.7 V for 10 µs ends the domain: TB stops and the retention memory is lost. -/
def execVkeepLoss (mv us : Nat) (s : State) : Host.Outcome State Fault Refusal :=
  finishAny (!s.power.vin && s.power.keep && decide (mv < 2700) && decide (10 ≤ us)) s
    { s with power := { s.power with keep := false }, retain := [], tb := ⟨0, 0, 0⟩ }

/-- OVEN_AT_TEMPERATURE (R489): oven_ok reads 1, and the monitoring of the oven begins. Fault 0x13 has lost its cause. -/
def execOvenAtTemperature (s : State) : Host.Outcome State Fault Refusal :=
  finishIf true s ({ s.raise TC_OVO_oven_ok with power := { s.power with ovenWatched := true } }.hlCauseEnds 0x13 0)

/-! ### V3P3_OUT (R484) -/

/-- V3P3_OUT_LIMIT (R484): after 1 ms in the limit the output turns off; the trip is a supply reading, `mv`, outside its threshold. The output
is on through module reset too, in which HL takes no reading. -/
def execV3p3OutLimit (mv : Nat) (s : State) : Host.Outcome State Fault Refusal :=
  finishAny (s.power.vin && s.power.v3p3 && (decide (mv < s.get (HL_SUPPLY_THR_low 3)) || decide (s.get (HL_SUPPLY_THR_high 3) < mv))) s (
    let t := { s with power := { s.power with v3p3 := false } }
    if ¬ s.up then t
    else
      let t := t.supplyOne 3 mv
      (t.setB HL_STAT_supply_fault (t.hl.causes.any fun e => e.1 = 0x0E)).twSelfFault)

/-- V3P3_OUT_RETRY (R484): 100 ms after a trip the output turns on again. -/
def execV3p3OutRetry (s : State) : Host.Outcome State Fault Refusal :=
  finishAny (s.power.vin && !s.power.v3p3) s { s with power := { s.power with v3p3 := true } }

/-! ### The root (R31, R32) -/

/-- ROOT_LOCK_LOSS (R31): the DCO holds its word, TB_SUSPECT is set, the link results are calibration stale, and HL declares a fault. -/
def execRootLockLoss (s : State) : Host.Outcome State Fault Refusal :=
  finishIf s.rootLocked s (
    let s := ((s.set SYS_ROOT_STAT_locked 0).raise SYS_ROOT_STAT_lock_lost_sticky).raise SYS_INT_STAT_root_lock_lost
    let s := s.suspectSet TB_STAT_cause_root
    let s := s.setChan s.timeCh { s.chanOf s.timeCh with clean := false }
    let s := (List.range s.lanes).foldl (fun s l => s.calLost l) s
    let (lasting, s) := s.hlTransient 0x0C 0 0xFFFF 0
    if lasting then s.rootAction else s.twSelfFault)

/-- ROOT_FAULT_LASTING (R32): 10 ms without lock. Where HL's escalation has declared this loss lasting already, the action has been
taken. -/
def execRootFaultLasting (s : State) : Host.Outcome State Fault Refusal :=
  finishIf (!s.rootLocked && !s.power.rootDone) s (
    (if s.hl.causes.contains (0x0C, 0) then s else s.hlLasting 0x0C 0 0xFFFF 0).rootAction)

/-- ROOT_RELOCK (R31): the root is in lock again; TB_SUSPECT stays until the time channel has re-qualified its reference. -/
def execRootRelock (s : State) : Host.Outcome State Fault Refusal :=
  finishIf (!s.rootLocked) s (
    ({ s.set SYS_ROOT_STAT_locked 1 with power := { s.power with rootDone := false } }).hlCauseEnds 0x0C 0)

end Sys2Proof.Machine
end

