-- ==== Sys2Proof/Machine/Tod.lean ====
section
/-! DEFINITION. The time of day in Fyold format: the message sent after each second boundary, and the received time as reference 61 (R266
to R270, R276). -/

namespace Sys2Proof.Machine

/-- One bit of the CRC-16 of a ToD message: polynomial 0x1021, not reflected. -/
def crc16Bit (r : Nat) : Nat := if r / 32768 % 2 = 1 then ((r * 2) % 65536) ^^^ 0x1021 else (r * 2) % 65536

/-- The CRC-16 of a ToD message: initial value 0xFFFF, no final XOR (R267). -/
def crc16 (b : Bytes) : Nat :=
  b.foldl (fun r x => crc16Bit (crc16Bit (crc16Bit (crc16Bit (crc16Bit (crc16Bit (crc16Bit (crc16Bit (r ^^^ (x.toNat * 256)))))))))) 0xFFFF

/-- Store the ToD unit. -/
def State.setTod (s : State) (x : Tod) : State := { s with tod := x }

/-! ### Sending -/

/-- Flags of timePropertiesDS: timeTraceable and frequencyTraceable, false while TB_SUSPECT is set (R252). -/
def State.traced (s : State) (n : Nat) : Bool := bitOf s.ptp.data.tflags n && !s.on TB_STAT_suspect

/-- The flags of byte 14 (R267). -/
def State.todFlags (s : State) : Nat :=
  let f := s.ptp.data.tflags
  flag (bitOf f 2) + 2 * flag (bitOf f 0) + 4 * flag (bitOf f 1) + 8 * flag (s.traced 4) + 16 * flag (s.traced 5)
    + 32 * flag (s.on TB_STAT_suspect) + 64 * flag s.time.secStepped + 128 * flag (s.on (OU_STAT_unaligned 16))

/-- The clockClass of the time that TB carries: gm_class of a T-GM that is LOCKED, else that of the grandmaster. -/
def State.todClass (s : State) : Nat := if s.gmLocked then s.ptp.gmClass else s.ptp.data.gmClass

/-- The message of the second boundary at which TB stands (R267). -/
def State.todMessage (s : State) : Bytes :=
  let d := s.ptp.data
  let sus := s.on TB_STAT_suspect
  let body := bytes [1, 1] ++ beBytes 2 20 ++ beBytes 6 s.tb.sec ++ beBytes 2 (twos 16 d.utc)
    ++ bytes [s.todFlags, if sus then 248 else s.todClass, if sus then 0xFE else d.gmAccuracy, d.timeSource] ++ beBytes 2 d.gmVariance
    ++ bytes [s.tcState s.timeCh, s.tod.seq] ++ beBytes 4 (s.rd (TC_HO_TE s.timeCh)).toNat
  bytes [0x46, 0x59] ++ body ++ beBytes 2 (crc16 body)

/-- Reference 61 is offered while it is qualified and TOD_CONFIG offers it (R309). -/
def State.todOffer (s : State) : State :=
  if s.on TB_TOD_STAT_rx_qual ∧ s.tod.offered then s.refReturn 61 else s.refLoss 61

/-- TB_TOD_CFG in force accepts messages of REF pin `r` (R269). -/
def Tod.rxFrom (x : Tod) (r : Nat) : Bool := bitOf x.cfg.toNat 5 && decide (bitsOf x.cfg 23 20 = r) && decide (r < 12)

/-- TB_TOD_CFG and the offer apply. Reception that ends takes the qualification of its reference along. -/
def State.todApply (s : State) : State :=
  let old := s.tod
  let s := s.setTod { s.tod with cfg := s.rd TB_TOD_CFG, offered := s.tod.offerNext }
  let s := if bitOf old.cfg.toNat 5 ∧ ¬ s.tod.rxFrom (bitsOf old.cfg 23 20) then
      (s.set TB_TOD_STAT_rx_qual 0).setTod { s.tod with edge := none, valid := 0, fails := 0, missed := 0, same := 0 }
    else s
  s.todOffer

/-- TB_SECOND_BOUNDARY (R268): TB_TOD_CFG applies, and with tx_en = 1 the message is latched. -/
def execTbSecondBoundary (s : State) : Host.Outcome State Fault Refusal :=
  whenUp s (
  finish (
    let s := s.todApply
    let s := if bitOf s.tod.cfg.toNat 4 then s.setTod { s.tod with latched := some s.todMessage, seq := (s.tod.seq + 1) % 256 } else s
    { s with time := { s.time with secStepped := false } }))

/-- TOD_TX_MESSAGE (R268): the latched message leaves TOD_TX. -/
def execTodTxMessage (s : State) : Host.Outcome State Fault Refusal :=
  match s.tod.latched with
  | none => .next s
  | some b => finishIf true s ((s.setTod { s.tod with latched := none }).emit (.tod b))

/-! ### Receiving -/

/-- REF_EDGE_CAPTURE (R269): a rising edge on REF pin `r`. -/
def execRefEdgeCapture (r : Fin 12) (s : State) : Host.Outcome State Fault Refusal :=
  finishIf (s.tod.rxFrom r) s (s.setTod { s.tod with edge := some s.tb })

/-- The ToD reference is disqualified. -/
def State.todDisq (s : State) : State :=
  let s := s.setTod { s.tod with valid := 0 }
  (((s.set TB_TOD_STAT_rx_qual 0).raise TB_TOD_STAT_rx_fault).raise TB_INT_STAT_tod_lasting).todOffer

/-- A lasting error. -/
def State.todLasting (s : State) : State :=
  if s.on TB_TOD_STAT_rx_fault then s.setTod { s.tod with valid := 0 } else s.todDisq.hlLasting 0x12 0 0xFFFF 0

/-- A message with a CRC or type error. As a missing one, it breaks a run of consecutive valid messages (R270). -/
def State.todBad (s : State) : State :=
  let s := (s.inc TB_TOD_CNT_crc_err).setTod { s.tod with valid := 0, missed := 0, same := 0, fails := s.tod.fails + 1 }
  if 2 ≤ s.tod.fails then s.todLasting else s

/-- The second of an edge: the next one from half a second on. -/
def edgeSecond (t : Time) : Nat := if 500000000 ≤ t.ns then t.sec + 1 else t.sec

/-- The seconds of a valid message against the edge's second (R270): the third equal difference in a row is a mismatch. -/
def State.todDiff (s : State) (d : Int) : State :=
  let s := s.set TB_TOD_STAT_sec_diff (twos 16 (satSigned 16 d))
  let same := if d = 0 then 0 else if d = s.tod.diff then s.tod.same + 1 else 1
  if same < 3 then s.setTod { s.tod with diff := d, same := same }
  else
    let s := ((s.setTod { s.tod with diff := d, same := 0 }).inc TB_TOD_CNT_sec_mismatch).raise TB_INT_STAT_tod_sec_mismatch
    if s.selRef s.timeCh = 61 ∧ s.stacksRun then s.stepNext (d * (tbSecond : Int)) else s

/-- A valid message. -/
def State.todGood (s : State) (d : Int) : State :=
  let was := s.tod.fails
  let s := s.setTod { s.tod with fails := 0, missed := 0, valid := min 3 (s.tod.valid + 1) }
  let (lasting, s) := if was = 1 then (s.raise TB_INT_STAT_tod_transient).hlTransient 0x12 0 0xFFFF 0 else (false, s)
  let s := if lasting then s.todDisq else s
  let s := if 3 ≤ s.tod.valid ∧ ¬ s.on TB_TOD_STAT_rx_qual then ((s.raise TB_TOD_STAT_rx_qual).set TB_TOD_STAT_rx_fault 0).todOffer else s
  s.todDiff d

/-- TOD_RX_MESSAGE (R269): a message whose first byte comes `ms` milliseconds after the latest edge of its pin. -/
def execTodRxMessage (b : Bytes) (ms : Nat) (s : State) : Host.Outcome State Fault Refusal :=
  finishIf (s.tod.rxFrom (bitsOf s.tod.cfg 23 20) && decide (b.length = 28) && decide (slice b 0 2 = bytes [0x46, 0x59])) s (
    match s.tod.edge with
    | none => s.inc TB_TOD_CNT_untimed
    | some e =>
      if ms < 1 ∨ 900 < ms then s.inc TB_TOD_CNT_untimed
      else if beAt b 26 2 ≠ crc16 (slice b 2 24) ∨ byteAt b 3 ≠ 1 then s.todBad
      else s.todGood ((beAt b 6 6 : Int) - edgeSecond e))

/-- TOD_MISSING (R269): no message within 1.2 s of its edge; the second in a row is lasting. -/
def execTodMissing (s : State) : Host.Outcome State Fault Refusal :=
  finishIf (s.tod.rxFrom (bitsOf s.tod.cfg 23 20)) s (
    let s := (s.inc TB_TOD_CNT_missing).setTod { s.tod with valid := 0, same := 0, missed := s.tod.missed + 1 }
    if 2 ≤ s.tod.missed then s.todLasting else s)

/-- TOD_CONFIG (R276). -/
def execTodConfig (n : Fin 4) (s : State) : Host.Outcome State Fault Refusal :=
  s.mbRow n 0x2004 fun r s =>
    let b := r.payload
    let f := fun i => byteAt b i
    if b.length ≠ 8 then .reject badLength
    else if 7 < f 0 ∨ 3 < f 1 ∨ 511 < leAt b 2 2 ∨ 15 < f 4 ∨ 1 < f 5 ∨ leAt b 6 2 ≠ 0 then .reject badParam
    else
      let w := f 0 + 16 * f 1 + 256 * leAt b 2 2 + 2 ^ 20 * f 4
      let s := s.putW TB_TOD_CFG w
      .ok [] (s.setTod { s.tod with offerNext := decide (f 5 = 1) })

end Sys2Proof.Machine
end

