-- ==== Sys2Proof/Machine/Dispatch.lean ====
section
/-! DEFINITION. One arm per command: each is one call of its meaning. -/

namespace Sys2Proof.Machine

/-- The effect of a command on everything but the queue of waiting commands. -/
def exec (i : Instr) (s : State) : Host.Outcome State Fault Refusal :=
  match i with
  | .registerWrite q v hi => Sys2Proof.Machine.execRegisterWrite q v hi s
  | .rcrRead q => Sys2Proof.Machine.execRcrRead q s
  | .sysUnlockWrite m v => Sys2Proof.Machine.execSysUnlockWrite m v s
  | .sysResetModule m => Sys2Proof.Machine.execSysResetModule m s
  | .sysResetMp m => Sys2Proof.Machine.execSysResetMp m s
  | .mspWriteFrame b => Sys2Proof.Machine.execMspWriteFrame b s
  | .mspReadFrame b => Sys2Proof.Machine.execMspReadFrame b s
  | .mspUnknownCommand b => Sys2Proof.Machine.execMspUnknownCommand b s
  | .mspCsEarlyRise b => Sys2Proof.Machine.execMspCsEarlyRise b s
  | .mrstAssert ns => Sys2Proof.Machine.execMrstAssert ns s
  | .moduleResetEnd seatB xin => Sys2Proof.Machine.execModuleResetEnd seatB xin s
  | .perstAssert ns => Sys2Proof.Machine.execPerstAssert ns s
  | .pcieHotReset => Sys2Proof.Machine.execPcieHotReset s
  | .pcieFlr => Sys2Proof.Machine.execPcieFlr s
  | .pcieCoreResetEnd => Sys2Proof.Machine.execPcieCoreResetEnd s
  | .vinRise mv => Sys2Proof.Machine.execVinRise mv s
  | .vinReturn mv => Sys2Proof.Machine.execVinReturn mv s
  | .vinLoss mv us => Sys2Proof.Machine.execVinLoss mv us s
  | .vinOvervoltage mv us => Sys2Proof.Machine.execVinOvervoltage mv us s
  | .vkeepLoss mv us => Sys2Proof.Machine.execVkeepLoss mv us s
  | .ovenAtTemperature => Sys2Proof.Machine.execOvenAtTemperature s
  | .sysVecAckWrite m hi v => Sys2Proof.Machine.execSysVecAckWrite m hi v s
  | .vecHoldoffExpiry v => Sys2Proof.Machine.execVecHoldoffExpiry v s
  | .mbRequestWrite m n w v => Sys2Proof.Machine.execMbRequestWrite m n w v s
  | .mbDbWrite m n v => Sys2Proof.Machine.execMbDbWrite m n v s
  | .mbAckWrite m n v => Sys2Proof.Machine.execMbAckWrite m n v s
  | .mbTake n misread busyUs => Sys2Proof.Machine.execMbTake n misread busyUs s
  | .mpHang => Sys2Proof.Machine.execMpHang s
  | .mpWatchdogExpiry => Sys2Proof.Machine.execMpWatchdogExpiry s
  | .mpStart migrate flash burn => Sys2Proof.Machine.execMpStart migrate flash burn s
  | .sysGetInfo n => Sys2Proof.Machine.execSysGetInfo n s
  | .sysEcho n => Sys2Proof.Machine.execSysEcho n s
  | .tcGetStatus n => Sys2Proof.Machine.execTcGetStatus n s
  | .tcSetConfig n => Sys2Proof.Machine.execTcSetConfig n s
  | .tcSetRefPriority n => Sys2Proof.Machine.execTcSetRefPriority n s
  | .tcForceSelect n => Sys2Proof.Machine.execTcForceSelect n s
  | .tcGetHoldover n => Sys2Proof.Machine.execTcGetHoldover n s
  | .tcStorePreset n => Sys2Proof.Machine.execTcStorePreset n s
  | .tcRampStart n => Sys2Proof.Machine.execTcRampStart n s
  | .tcEsmcConfig n => Sys2Proof.Machine.execTcEsmcConfig n s
  | .ouSetPlan n => Sys2Proof.Machine.execOuSetPlan n s
  | .ouRealignCmd n => Sys2Proof.Machine.execOuRealignCmd n s
  | .ouGetStatus n => Sys2Proof.Machine.execOuGetStatus n s
  | .evSetGroup n => Sys2Proof.Machine.execEvSetGroup n s
  | .evCalStartCmd n => Sys2Proof.Machine.execEvCalStartCmd n s
  | .evGetCalTable n => Sys2Proof.Machine.execEvGetCalTable n s
  | .evSetCalTable n => Sys2Proof.Machine.execEvSetCalTable n s
  | .ptpSetProfile n => Sys2Proof.Machine.execPtpSetProfile n s
  | .ptpPortConfig n => Sys2Proof.Machine.execPtpPortConfig n s
  | .ptpGetStatus n => Sys2Proof.Machine.execPtpGetStatus n s
  | .ptpGetDataset n => Sys2Proof.Machine.execPtpGetDataset n s
  | .todConfig n => Sys2Proof.Machine.execTodConfig n s
  | .pxLinkEnable n => Sys2Proof.Machine.execPxLinkEnable n s
  | .pxCalibrate n => Sys2Proof.Machine.execPxCalibrate n s
  | .pxGetLink n => Sys2Proof.Machine.execPxGetLink n s
  | .pxSetAsym n => Sys2Proof.Machine.execPxSetAsym n s
  | .twGetStatus n => Sys2Proof.Machine.execTwGetStatus n s
  | .twConfig n => Sys2Proof.Machine.execTwConfig n s
  | .twForceRole n => Sys2Proof.Machine.execTwForceRole n s
  | .twLagConfig n => Sys2Proof.Machine.execTwLagConfig n s
  | .fuBegin n => Sys2Proof.Machine.execFuBegin n s
  | .fuBlock n => Sys2Proof.Machine.execFuBlock n s
  | .fuVerify n => Sys2Proof.Machine.execFuVerify n s
  | .fuActivate n flash => Sys2Proof.Machine.execFuActivate n flash s
  | .fuConfirm n flash burn => Sys2Proof.Machine.execFuConfirm n flash burn s
  | .fuStatus n => Sys2Proof.Machine.execFuStatus n s
  | .fuAbort n => Sys2Proof.Machine.execFuAbort n s
  | .hlGetHealth n => Sys2Proof.Machine.execHlGetHealth n s
  | .hlGetFaultLog n => Sys2Proof.Machine.execHlGetFaultLog n s
  | .hlRepair n => Sys2Proof.Machine.execHlRepair n s
  | .hlLoopback n => Sys2Proof.Machine.execHlLoopback n s
  | .hlOpticsRead n => Sys2Proof.Machine.execHlOpticsRead n s
  | .hlOpticsWrite n => Sys2Proof.Machine.execHlOpticsWrite n s
  | .pmGetTrace n => Sys2Proof.Machine.execPmGetTrace n s
  | .pmGetHistogram n => Sys2Proof.Machine.execPmGetHistogram n s
  | .cycleBoundary egress => Sys2Proof.Machine.execCycleBoundary egress s
  | .pxPublish v => Sys2Proof.Machine.execPxPublish v s
  | .loopUpdate errs => Sys2Proof.Machine.execLoopUpdate errs s
  | .switchComplete c ofs => Sys2Proof.Machine.execSwitchComplete c ofs s
  | .lockDeclared c => Sys2Proof.Machine.execLockDeclared c s
  | .frameBoundary p => Sys2Proof.Machine.execFrameBoundary p s
  | .slotPatternBoundary => Sys2Proof.Machine.execSlotPatternBoundary s
  | .flightBoundary p => Sys2Proof.Machine.execFlightBoundary p s
  | .tbTick => Sys2Proof.Machine.execTbTick s
  | .rootLockLoss => Sys2Proof.Machine.execRootLockLoss s
  | .rootRelock => Sys2Proof.Machine.execRootRelock s
  | .rootFaultLasting => Sys2Proof.Machine.execRootFaultLasting s
  | .lossOfSignal l => Sys2Proof.Machine.execLossOfSignal l s
  | .signalDetect l => Sys2Proof.Machine.execSignalDetect l s
  | .cdrLossOfLock l => Sys2Proof.Machine.execCdrLossOfLock l s
  | .cdrLock l => Sys2Proof.Machine.execCdrLock l s
  | .blockLockLoss l => Sys2Proof.Machine.execBlockLockLoss l s
  | .blockLock l => Sys2Proof.Machine.execBlockLock l s
  | .blockLockRetryExpiry l => Sys2Proof.Machine.execBlockLockRetryExpiry l s
  | .blockLockStableExpiry l => Sys2Proof.Machine.execBlockLockStableExpiry l s
  | .hiBerWindow l invalid corr uncorr sym => Sys2Proof.Machine.execHiBerWindow l invalid corr uncorr sym s
  | .alignmentLoss b => Sys2Proof.Machine.execAlignmentLoss b s
  | .alignment b => Sys2Proof.Machine.execAlignment b s
  | .remoteFaultReceive p => Sys2Proof.Machine.execRemoteFaultReceive p s
  | .bayModeApply b => Sys2Proof.Machine.execBayModeApply b s
  | .lnCalStart m l v => Sys2Proof.Machine.execLnCalStart m l v s
  | .lnCalEnd l width height => Sys2Proof.Machine.execLnCalEnd l width height s
  | .lnResetWrite m l v => Sys2Proof.Machine.execLnResetWrite m l v s
  | .laneResetEnd l => Sys2Proof.Machine.execLaneResetEnd l s
  | .eyePublish l width height => Sys2Proof.Machine.execEyePublish l width height s
  | .frameReceive p b fcs bad ago => Sys2Proof.Machine.execFrameReceive p b fcs bad ago s
  | .pauseFrameReceive p quanta => Sys2Proof.Machine.execPauseFrameReceive p quanta s
  | .pfcFrameReceive p vector zero => Sys2Proof.Machine.execPfcFrameReceive p vector zero s
  | .pauseExpiry p all classes => Sys2Proof.Machine.execPauseExpiry p all classes s
  | .portDisable p => Sys2Proof.Machine.execPortDisable p s
  | .drainDone p => Sys2Proof.Machine.execDrainDone p s
  | .drainTimeout p => Sys2Proof.Machine.execDrainTimeout p s
  | .portEnable p => Sys2Proof.Machine.execPortEnable p s
  | .frameTransmit p lead sf ff => Sys2Proof.Machine.execFrameTransmit p lead sf ff s
  | .parseClassify k pf ff => Sys2Proof.Machine.execParseClassify k pf ff s
  | .lateLengthCheck p => Sys2Proof.Machine.execLateLengthCheck p s
  | .prCtrlSwapWrite m v => Sys2Proof.Machine.execPrCtrlSwapWrite m v s
  | .prDrainComplete => Sys2Proof.Machine.execPrDrainComplete s
  | .recircSecondPass pf ff => Sys2Proof.Machine.execRecircSecondPass pf ff s
  | .recircAgeExpiry r => Sys2Proof.Machine.execRecircAgeExpiry r s
  | .learn => Sys2Proof.Machine.execLearn s
  | .refresh => Sys2Proof.Machine.execRefresh s
  | .destRefresh => Sys2Proof.Machine.execDestRefresh s
  | .ageEvent => Sys2Proof.Machine.execAgeEvent s
  | .failFilterExpiry => Sys2Proof.Machine.execFailFilterExpiry s
  | .ftAgeWrite m v => Sys2Proof.Machine.execFtAgeWrite m v s
  | .ftRingHeadWrite m r v => Sys2Proof.Machine.execFtRingHeadWrite m r v s
  | .ftRingEnable m r v => Sys2Proof.Machine.execFtRingEnable m r v s
  | .ftRingDisable m r v => Sys2Proof.Machine.execFtRingDisable m r v s
  | .nop r d dma => Sys2Proof.Machine.execNop r d dma s
  | .read r d dma ff => Sys2Proof.Machine.execRead r d dma ff s
  | .write r d dma ff => Sys2Proof.Machine.execWrite r d dma ff s
  | .lookup r d dma ff => Sys2Proof.Machine.execLookup r d dma ff s
  | .insert r d dma ff => Sys2Proof.Machine.execInsert r d dma ff s
  | .delete r d dma ff => Sys2Proof.Machine.execDelete r d dma ff s
  | .readBucket r d dma ff => Sys2Proof.Machine.execReadBucket r d dma ff s
  | .flush r d dma ff => Sys2Proof.Machine.execFlush r d dma ff s
  | .unlock r d dma => Sys2Proof.Machine.execUnlock r d dma s
  | .badOp r d dma => Sys2Proof.Machine.execBadOp r d dma s
  | .ftEpochAdvWrite m v => Sys2Proof.Machine.execFtEpochAdvWrite m v s
  | .drainEpochAdvance => Sys2Proof.Machine.execDrainEpochAdvance s
  | .ftLockExpiry r => Sys2Proof.Machine.execFtLockExpiry r s
  | .slotCrossing dbm ecc faults => Sys2Proof.Machine.execSlotCrossing dbm ecc faults s
  | .landingTimeout src dst space => Sys2Proof.Machine.execLandingTimeout src dst space s
  | .scMezzSwapWrite m v => Sys2Proof.Machine.execScMezzSwapWrite m v s
  | .mezzSwapComplete => Sys2Proof.Machine.execMezzSwapComplete s
  | .ageLimit q => Sys2Proof.Machine.execAgeLimit q s
  | .pfcRepeat p t => Sys2Proof.Machine.execPfcRepeat p t s
  | .cpuQueueDescriptor c d dma => Sys2Proof.Machine.execCpuQueueDescriptor c d dma s
  | .txDescriptor r d b dma dbm => Sys2Proof.Machine.execTxDescriptor r d b dma dbm s
  | .scRingHeadWrite m k v => Sys2Proof.Machine.execScRingHeadWrite m k v s
  | .scRingCfgWrite m k v => Sys2Proof.Machine.execScRingCfgWrite m k v s
  | .dlmRelease p lead absent => Sys2Proof.Machine.execDlmRelease p lead absent s
  | .treadStart p fault => Sys2Proof.Machine.execTreadStart p fault s
  | .gtTaqArmWrite m v => Sys2Proof.Machine.execGtTaqArmWrite m v s
  | .gtTaqArmGWrite m v => Sys2Proof.Machine.execGtTaqArmGWrite m v s
  | .taqExecute => Sys2Proof.Machine.execTaqExecute s
  | .gtTaqCancelWrite m v => Sys2Proof.Machine.execGtTaqCancelWrite m v s
  | .gtTaqCancelGrpWrite m v => Sys2Proof.Machine.execGtTaqCancelGrpWrite m v s
  | .tbSnapWrite m v => Sys2Proof.Machine.execTbSnapWrite m v s
  | .tbIncrLoWrite m v => Sys2Proof.Machine.execTbIncrLoWrite m v s
  | .tbIncrHiWrite m v => Sys2Proof.Machine.execTbIncrHiWrite m v s
  | .tbStepGo m v => Sys2Proof.Machine.execTbStepGo m v s
  | .tbSuspectClrWrite m v => Sys2Proof.Machine.execTbSuspectClrWrite m v s
  | .tbTxtsRead m p => Sys2Proof.Machine.execTbTxtsRead m p s
  | .tbSecondBoundary => Sys2Proof.Machine.execTbSecondBoundary s
  | .todTxMessage => Sys2Proof.Machine.execTodTxMessage s
  | .todRxMessage b ms => Sys2Proof.Machine.execTodRxMessage b ms s
  | .todMissing => Sys2Proof.Machine.execTodMissing s
  | .tcPtpOfsLoWrite m v => Sys2Proof.Machine.execTcPtpOfsLoWrite m v s
  | .tcPtpOfsHiWrite m v => Sys2Proof.Machine.execTcPtpOfsHiWrite m v s
  | .fplHelloSend p => Sys2Proof.Machine.execFplHelloSend p s
  | .fplPingSend p cycle => Sys2Proof.Machine.execFplPingSend p cycle s
  | .fplHelloReceive p b => Sys2Proof.Machine.execFplHelloReceive p b s
  | .fplPingReceive p b t2 frac => Sys2Proof.Machine.execFplPingReceive p b t2 frac s
  | .fplPongReceive p b t4 => Sys2Proof.Machine.execFplPongReceive p b t4 s
  | .fplByeReceive p b => Sys2Proof.Machine.execFplByeReceive p b s
  | .fplExchangeMiss p => Sys2Proof.Machine.execFplExchangeMiss p s
  | .fplCalibrationStart p => Sys2Proof.Machine.execFplCalibrationStart p s
  | .fplCalibrationEnd p lTx lRx residual => Sys2Proof.Machine.execFplCalibrationEnd p lTx lRx residual s
  | .pxRefRenewWrite m v => Sys2Proof.Machine.execPxRefRenewWrite m v s
  | .leaseExpiry => Sys2Proof.Machine.execLeaseExpiry s
  | .asymPairWindow x y => Sys2Proof.Machine.execAsymPairWindow x y s
  | .refActivityLoss r => Sys2Proof.Machine.execRefActivityLoss r s
  | .refActivityReturn r => Sys2Proof.Machine.execRefActivityReturn r s
  | .refMonitorUpdate freqs => Sys2Proof.Machine.execRefMonitorUpdate freqs s
  | .qualifyingComplete c r => Sys2Proof.Machine.execQualifyingComplete c r s
  | .degradedRecovery c r => Sys2Proof.Machine.execDegradedRecovery c r s
  | .wtrExpiry c r => Sys2Proof.Machine.execWtrExpiry c r s
  | .holdoverRecord c => Sys2Proof.Machine.execHoldoverRecord c s
  | .holdoverRefit c => Sys2Proof.Machine.execHoldoverRefit c s
  | .holdoverTeUpdate c => Sys2Proof.Machine.execHoldoverTeUpdate c s
  | .tcResetWrite m c v => Sys2Proof.Machine.execTcResetWrite m c v s
  | .tcResetEnd c => Sys2Proof.Machine.execTcResetEnd c s
  | .tcTdcCalWrite m c v => Sys2Proof.Machine.execTcTdcCalWrite m c v s
  | .tdcCalEnd c hits residual => Sys2Proof.Machine.execTdcCalEnd c hits residual s
  | .dcoAtFrequency c => Sys2Proof.Machine.execDcoAtFrequency c s
  | .rampStart c => Sys2Proof.Machine.execRampStart c s
  | .rampSegmentEnd c => Sys2Proof.Machine.execRampSegmentEnd c s
  | .ouRampStopWrite m v => Sys2Proof.Machine.execOuRampStopWrite m v s
  | .esmcPduSend => Sys2Proof.Machine.execEsmcPduSend s
  | .esmcPduReceive p ql => Sys2Proof.Machine.execEsmcPduReceive p ql s
  | .esmcTimeout p => Sys2Proof.Machine.execEsmcTimeout p s
  | .qlHoldExpiry => Sys2Proof.Machine.execQlHoldExpiry s
  | .ouRealignWrite m v => Sys2Proof.Machine.execOuRealignWrite m v s
  | .pulseEdge g back => Sys2Proof.Machine.execPulseEdge g back s
  | .pathDelayUpdate => Sys2Proof.Machine.execPathDelayUpdate s
  | .evtEdge j falling phase bin => Sys2Proof.Machine.execEvtEdge j falling phase bin s
  | .evTsRead m j => Sys2Proof.Machine.execEvTsRead m j s
  | .evGroupResult g => Sys2Proof.Machine.execEvGroupResult g s
  | .evResRead m g => Sys2Proof.Machine.execEvResRead m g s
  | .evGrpCfgWrite m g win v => Sys2Proof.Machine.execEvGrpCfgWrite m g win v s
  | .evCalWrite m j v => Sys2Proof.Machine.execEvCalWrite m j v s
  | .evCalEnd j hits residual => Sys2Proof.Machine.execEvCalEnd j hits residual s
  | .tdcTableUpdate => Sys2Proof.Machine.execTdcTableUpdate s
  | .galStateReceive lane f ing rt mon => Sys2Proof.Machine.execGalStateReceive lane f ing rt mon s
  | .galDeltaReceive f => Sys2Proof.Machine.execGalDeltaReceive f s
  | .galBulkReceive f => Sys2Proof.Machine.execGalBulkReceive f s
  | .galElectReceive f => Sys2Proof.Machine.execGalElectReceive f s
  | .galTakeoverReceive f => Sys2Proof.Machine.execGalTakeoverReceive f s
  | .galReleaseReceive f => Sys2Proof.Machine.execGalReleaseReceive f s
  | .galReplyReceive f => Sys2Proof.Machine.execGalReplyReceive f s
  | .galStateMissing => Sys2Proof.Machine.execGalStateMissing s
  | .twCheckPoint mon hb gal0 gal1 => Sys2Proof.Machine.execTwCheckPoint mon hb gal0 gal1 s
  | .electWaitExpiry => Sys2Proof.Machine.execElectWaitExpiry s
  | .hbInLost => Sys2Proof.Machine.execHbInLost s
  | .takeoverReleaseWait => Sys2Proof.Machine.execTakeoverReleaseWait s
  | .twForceTake m => Sys2Proof.Machine.execTwForceTake m s
  | .twForceRelease m => Sys2Proof.Machine.execTwForceRelease m s
  | .faultCauseExpiry => Sys2Proof.Machine.execFaultCauseExpiry s
  | .resyncComplete => Sys2Proof.Machine.execResyncComplete s
  | .lacpduTemplateSend p => Sys2Proof.Machine.execLacpduTemplateSend p s
  | .fuVerifyComplete flash => Sys2Proof.Machine.execFuVerifyComplete flash s
  | .trialWindowExpiry flash => Sys2Proof.Machine.execTrialWindowExpiry flash s
  | .activateReset => Sys2Proof.Machine.execActivateReset s
  | .abortRevert flash => Sys2Proof.Machine.execAbortRevert flash s
  | .spareRowRepair g b r zeroed => Sys2Proof.Machine.execSpareRowRepair g b r zeroed s
  | .dbmRowRepair bank row => Sys2Proof.Machine.execDbmRowRepair bank row s
  | .mezzTest m faulty => Sys2Proof.Machine.execMezzTest m faulty s
  | .hlTdcAutocal t => Sys2Proof.Machine.execHlTdcAutocal t s
  | .tempSample lid sw timing dbm reg oven => Sys2Proof.Machine.execTempSample lid sw timing dbm reg oven s
  | .supplySample vin vinI vkeep v3p3 v3p3I pin rails => Sys2Proof.Machine.execSupplySample vin vinI vkeep v3p3 v3p3I pin rails s
  | .ovenFault => Sys2Proof.Machine.execOvenFault s
  | .heldFaultRelease code inst => Sys2Proof.Machine.execHeldFaultRelease code inst s
  | .wdogHoldExpiry => Sys2Proof.Machine.execWdogHoldExpiry s
  | .faultLogWrite => Sys2Proof.Machine.execFaultLogWrite s
  | .v3p3OutLimit mv => Sys2Proof.Machine.execV3p3OutLimit mv s
  | .v3p3OutRetry => Sys2Proof.Machine.execV3p3OutRetry s
  | .pmSnapWrite m v => Sys2Proof.Machine.execPmSnapWrite m v s
  | .pmClrWrite m v => Sys2Proof.Machine.execPmClrWrite m v s
  | .bwWindowEnd p stepped => Sys2Proof.Machine.execBwWindowEnd p stepped s
  | .mpHistAccumulate => Sys2Proof.Machine.execMpHistAccumulate s
  | .configSpaceWrite msix mask c => Sys2Proof.Machine.execConfigSpaceWrite msix mask c s
  | .remoteFaultEnd p => Sys2Proof.Machine.execRemoteFaultEnd p s
  | .refEdgeCapture r => Sys2Proof.Machine.execRefEdgeCapture r s
  | .mpSramEccFault bank row again codeRow => Sys2Proof.Machine.execMpSramEccFault bank row again codeRow s
  | .loopbackTestEnd sentN errors eye => Sys2Proof.Machine.execLoopbackTestEnd sentN errors eye s
  | .i2cTransferEnd bus result => Sys2Proof.Machine.execI2cTransferEnd bus result s
  | .blockProgramEnd n ok => Sys2Proof.Machine.execBlockProgramEnd n ok s
  | .handoverPauseEnd migrate flash => Sys2Proof.Machine.execHandoverPauseEnd migrate flash s
  | .ptpMessageSend p tc hdr msg tsId dbm => Sys2Proof.Machine.execPtpMessageSend p tc hdr msg tsId dbm s
  | .ptpMessageReceive c ports after fresh ql => Sys2Proof.Machine.execPtpMessageReceive c ports after fresh ql s
  | .lacpduSend p b fast => Sys2Proof.Machine.execLacpduSend p b fast s
  | .lacpduReceive c now => Sys2Proof.Machine.execLacpduReceive c now s

end Sys2Proof.Machine
end

