-- ==== Sys2Proof/Safety.lean ====
section
/-! DEFINITION. The terms in which statements speak of a run: the parts of the state, what may change between two states, and
the invariant of the register file. -/

namespace Sys2Proof

open Sys2Proof.Machine

/-- A part of the state: one field of `State`. -/
inductive Part where
  | pending | variant | regs | pend | clk | free | sent | tb | power | host | ownerNext | mbox | mp | hl | bw | lane | port
  | sc | pr | ft | txts | frozen | taq | time | chan | smp | esmc | ou | tdc | evIn | evGrp | tw | px | ptp | tod | retain
  | fu | unit | treadRead
deriving DecidableEq, Repr

/-- The part is the same in both states. -/
def Part.same (s t : State) : Part → Prop
  | .pending => t.pending = s.pending
  | .variant => t.variant = s.variant
  | .regs => t.regs = s.regs
  | .pend => t.pend = s.pend
  | .clk => t.clk = s.clk
  | .free => t.free = s.free
  | .sent => t.sent = s.sent
  | .tb => t.tb = s.tb
  | .power => t.power = s.power
  | .host => t.host = s.host
  | .ownerNext => t.ownerNext = s.ownerNext
  | .mbox => t.mbox = s.mbox
  | .mp => t.mp = s.mp
  | .hl => t.hl = s.hl
  | .bw => t.bw = s.bw
  | .lane => t.lane = s.lane
  | .port => t.port = s.port
  | .sc => t.sc = s.sc
  | .pr => t.pr = s.pr
  | .ft => t.ft = s.ft
  | .txts => t.txts = s.txts
  | .frozen => t.frozen = s.frozen
  | .taq => t.taq = s.taq
  | .time => t.time = s.time
  | .chan => t.chan = s.chan
  | .smp => t.smp = s.smp
  | .esmc => t.esmc = s.esmc
  | .ou => t.ou = s.ou
  | .tdc => t.tdc = s.tdc
  | .evIn => t.evIn = s.evIn
  | .evGrp => t.evGrp = s.evGrp
  | .tw => t.tw = s.tw
  | .px => t.px = s.px
  | .ptp => t.ptp = s.ptp
  | .tod => t.tod = s.tod
  | .retain => t.retain = s.retain
  | .fu => t.fu = s.fu
  | .unit => t.unit = s.unit
  | .treadRead => t.treadRead = s.treadRead

/-- Between the two states only the named parts may differ. -/
def onlyParts (l : List Part) (s t : State) : Prop := ∀ p, p ∉ l → p.same s t

/-- Between the two states only the named registers may differ. -/
def onlyRegs (l : List Nat) (s t : State) : Prop := ∀ a, a ∉ l → t.rd a = s.rd a

/-- Between the two states nothing differs but the named registers, the named parts, and what delivering interrupts changes: the
pending bits of SYS_PBA, the vectors and the messages sent (R59). -/
def onlyChanges (regs : List Nat) (parts : List Part) (s t : State) : Prop :=
  onlyRegs (regs ++ [SYS_PBA 0, SYS_PBA 1]) s t ∧ onlyParts (parts ++ [.regs, .host, .sent]) s t

/-- The register file is in its canonical form, and no reserved bit or unmapped word holds anything (R11). -/
def regsOk (s : State) : Prop :=
  Tab.wf resetWord s.regs = true ∧ ∀ a, s.rd a &&& fieldBits a = s.rd a

/-- Every register other than `l` holds its reset value. -/
def atReset (l : List Nat) (t : State) : Prop := ∀ a, a ∉ l → t.rd a = resetWord a

/-- Registers that a module reset does not return to the reset values of the map: what the OTP, the firmware slots, the repair maps and
the root's source give (R21, R46, R454). -/
def keptOverReset : List Nat :=
  [SYS_ROOT_CTRL, SYS_ROOT_STAT, HL_STAT, SC_BUF_STAT, FU_OTP, FU_SVN_SLOTS, FU_VER_RUN] ++ (List.range 8).map HL_SPARE

/-- Master `m` can reach the registers: the module runs, PCIe is out of reset and not in D3hot, the MP serves (R29, R39, R44). -/
def reaches (m : Master) (s : State) : Bool := s.up && s.canReach m && !(decide (m = .pcie) && s.host.d3hot)

/-- A write of `m` to a guarded field takes effect (R56). -/
def guardOpen (m : Master) (s : State) : Bool :=
  match m with
  | .pcie => s.host.guardPcie
  | .msp => s.host.guardMsp
  | .mp => true
  | .taq => true

/-- Request `r` of opcode `op` is TAKEN in mailbox `n`, and nothing keeps the MP from executing it (R62, R69, R508). -/
def serving (n op : Nat) (r : MbReq) (s : State) : Bool :=
  s.up && decide ((s.mb n).taken = some r) && !(s.mb n).discard && s.mbReady n op && decide (s.mbBusyUs n r = 0)

/-- Mailbox `n` is DONE with the answer OK and `data` to request `r`: resp_ready is set, and the answer is stored (R62, R64, R67). -/
def answered (n : Nat) (r : MbReq) (data : Bytes) (t : State) : Prop :=
  t.mbState n = mbDone ∧ t.bit MB_INT_STAT n = true
    ∧ (t.mb n).last = some (r.opcode, r.seq, r.crc, r.epoch, mbPayload 0 0 0 data)

/-- Mailbox `n` is DONE with the answer REJECTED for `reason` to request `r` (R62, R64, R67). -/
def rejected (n : Nat) (r : MbReq) (reason : Nat) (t : State) : Prop :=
  t.mbState n = mbDone ∧ t.bit MB_INT_STAT n = true
    ∧ (t.mb n).last = some (r.opcode, r.seq, r.crc, r.epoch, mbPayload 2 reason 0 [])

/-- The request that stands in the request buffer of mailbox `n` (R63). -/
def posted (n : Nat) (s : State) : MbReq :=
  let h := s.mbBytes n 4
  ⟨leAt h 0 2, leAt h 2 2, leAt h 8 2, leAt h 10 2, leAt h 12 4, (s.mbBytes n (4 + (leAt h 4 4 + 3) / 4)).drop 16 |>.take (leAt h 4 4)⟩

/-- It is the turn of FT ring `r`, its descriptor is `w` with the op and table `op` and `table`, and no epoch advance is asked for (R165, R166). -/
def serves (r : Nat) (op table : Nat) (w : List Word) (s : State) : Bool :=
  s.up && decide (s.ringTurn s.ft.turn ftRing = some r) && decide (w.length = 8) && decide (bitsOf (dw w 0) 5 0 = op)
    && decide (bitsOf (dw w 0) 9 6 = table) && !bitOf (dw w 0).toNat 11

/-- The state in which the descriptor of FT ring `r` executes: the next turn is that of the ring after it (R165). -/
def turned (r : Nat) (s : State) : State := { s with ft := { s.ft with turn := (r + 1) % 8 } }

/-- No lock stands in the way of an INSERT of `e` by FT ring `r`, and none ends with it (R166, R168). -/
def mayInsert (r : Nat) (e : Ent) (s : State) : Bool :=
  decide (s.ftMay r 0 (s.macFind e.fid e.addr).toList (match s.macFind e.fid e.addr with | some i => [i] | none => s.ways e.fid e.addr) = .inr false)

/-- The status word of descriptor `w` at the tail of FT ring `r`, with done = 1, as it goes to host memory (R167). -/
def completion (r : Nat) (w : List Word) (st : Nat) (s : State) : Sent :=
  .dma (s.ringDesc (ftRing r)) (wordBytes (putBits (putBits (dw w 0) 23 16 st) 31 31 1))

/-- The descriptor of FT ring `r` is complete with status `st`: its status word is in host memory, and the tail has passed it. -/
def completes (r : Nat) (w : List Word) (st : Nat) (s t : State) : Prop :=
  completion r w st s ∈ t.sent ∧ t.ringTail (ftRing r) = (s.ringTail (ftRing r) + 1) % s.ringSize (ftRing r)

/-- The status word of a receive descriptor `w` after frame `x` is handed over with `reason`: length, cut, suspect, reason and done (R204). -/
def rxStatus (w : List Word) (x : Pkt) (reason : Nat) : Word :=
  let cut := decide (bitsOf (dw w 4) 13 0 < (handed x reason).length)
  putBits (putBits (putBits (putBits (putBits (dw w 0) 13 0 x.len) 14 14 (flag cut)) 15 15 (flag x.suspect)) 23 16 reason) 31 31 1

/-- The value that field `f` holds once the shadow writes that wait have applied (R34, R49). -/
def staged (s : State) (f : FRef) : Nat := bitsOf (s.shadow f.addr) f.hi f.lo

/-- Port `p` takes one more frame of up to `len` bytes, in one cell, into its Class T FIFO (R188, R190). -/
def classTRoom (p len : Nat) (s : State) : Bool :=
  !s.portOff p && !s.noMac p && s.on (PT_STAT_link_up p) && decide (len ≤ s.get (PT_MAXFRM_max p)) && decide ((s.queueOf (424 + p)).length < 64)
    && decide (1 ≤ s.get SC_BUF_STAT_sram_free)

/-- The next frame of the module has become the last of the Class T FIFO of port `p` (R188). -/
abbrev classTLast (p : Nat) (s t : State) : Prop :=
  t.queueOf (424 + p) = s.queueOf (424 + p) ++ [(s.sc.nextId, s.clk)] ∧ t.sc.nextId = s.sc.nextId + 1

/-- Request `r` of opcode `op` waits in mailbox `n` for the event that ends it (R62, R69). -/
def awaiting (n op : Nat) (r : MbReq) (s : State) : Bool :=
  decide ((s.mb n).taken = some r) && (s.mb n).waiting && !(s.mb n).discard && decide (s.mbState n = mbTaken) && decide (r.opcode = op)

/-- The frames sent so far, newest first: port, and whether the FCS is right (R99). -/
def framesOut (t : State) : List (Nat × Bool) :=
  t.sent.filterMap fun x => match x with | .frame p _ good => some (p, good) | _ => none

/-- A frame with a right FCS has left port `p` to the address of the slow protocols, and `b` follows its EtherType (R338, R410). -/
def slowOut (p : Nat) (b : Bytes) (t : State) : Bool :=
  t.sent.any fun x => match x with
  | .frame q f good => decide (q = p) && good && decide (slice f 0 6 = beBytes 6 0x0180C2000002) && decide (slice f 12 2 = beBytes 2 0x8809)
      && decide (slice f 14 b.length = b)
  | _ => false

/-- The bodies of the gallery frames sent so far, newest first (R390). -/
def galsOut (t : State) : List GalBody := t.sent.filterMap fun x => match x with | .gal 0 f _ => some f.body | _ => none

/-- Vector `v` owes a message: it is armed, a source of it reads 1, and no holdoff keeps it (R59, R60). -/
def owes (s : State) (v : Nat) : Bool := s.armed v && s.vecWants v && !s.host.holding.contains v

/-- No message that can leave is left unsent, and the pending bits tell which ones wait behind a mask (R59). -/
def delivered (s : State) : Prop :=
  ∀ v : Nat, v < 64 → (owes s v && s.vecOpen v) = false
    ∧ s.bit (SYS_PBA (v / 32)) (v % 32) = (owes s v && !s.vecOpen v && s.host.msixEnable && !s.power.pcieReset)

/-- Supplies, reset pins, the end of module reset and the tick of TB act on a module that does not run, too (R28, R46, R485). -/
def actsAtRest (c : Instr) : Bool :=
  match c with
  | .mrstAssert .. | .moduleResetEnd .. | .perstAssert .. | .vinRise .. | .vinReturn .. | .vinLoss .. | .vinOvervoltage ..
  | .vkeepLoss .. | .v3p3OutLimit .. | .v3p3OutRetry | .tbTick => true
  | _ => false

/-- What a step of the block answers where it goes on. -/
def goesTo (c : Instr) (s t : State) : Prop := exec c s = .next t

end Sys2Proof
end

