-- ==== Sys2Proof/Certificates/Slice0/Obligations.lean ====
section
/-! DEFINITION. The statements for the provers: what the spec's numbered rules say of each command of the block, and of the block as a
whole. -/

open Sys2Proof Sys2Proof.Machine

/-- A register write and a register read of any master act on the register named, and on no other. -/
def Obligations.HostRegisterAccess : Prop :=
(∀ (m : Master) (n : Fin 64) (v hi : Word) (s : State), reaches m s → ∃ t, goesTo (.registerWrite (Req.word m (SYS_VEC_MAP n)) v hi) s t ∧ t.rd
      (SYS_VEC_MAP n) = v &&& 0x3F ∧ onlyChanges [SYS_VEC_MAP n] [] s t) ∧
(∀ (m : Master) (l : Fin 48) (v hi : Word) (s : State), reaches m s → l.val < s.lanes → ∃ t, goesTo (.registerWrite (Req.word m (LN_TXEQ l)) v hi) s t
      ∧ t.shadow (LN_TXEQ l) = v &&& fieldBits (LN_TXEQ l) ∧ t.pends (.lane l) = true ∧ onlyChanges [] [.pend] s t) ∧
(∀ (q : Req) (v hi : Word) (reason : Nat) (s : State), reaches q.m s → widthOk q = false ∨ isPeek q.addr = false → s.reach q = .inr reason → s.bit
      SYS_BUS_ERR 31 = false → ∃ t, goesTo (.registerWrite q v hi) s t ∧ t.rd SYS_BUS_ERR = BitVec.ofNat 32 (q.addr / 4 % 2 ^ 24 + reason % 4 * 2 ^ 26
      + 2 ^ 29 + portBit q.m * 2 ^ 30 + 2 ^ 31) ∧ t.on SYS_INT_STAT_bus_err = true ∧ (q.m = .pcie → Sent.writeUr q.addr ∈ t.sent) ∧ onlyChanges
      [SYS_BUS_ERR, SYS_INT_STAT] [] s t) ∧
(∀ (q : Req) (p : Place) (s : State), reaches q.m s → q.dws = 1 → s.reach q = .inl p → p.shadow = false → p.peek = false → p.r.mask .rcr ≠ 0 →
      p.r.base ∉ [TB_TXTS 0, EV_TS 0, EV_RES 0, GT_TAQ_GRP_LAST] → ∃ t, goesTo (.rcrRead q) s t ∧ Sent.readData q.m q.addr (some (s.view q.m p)) ∈
      t.sent ∧ t.rd p.a = (s.rd p.a &&& ~~~ p.r.mask .rcr) &&& fieldBits p.a ∧ onlyChanges [p.a] [] s t)

/-- The key arms the guard of its master, and acknowledging a vector or ending its holdoff re-arms it. -/
def Obligations.GuardAndVectors : Prop :=
(∀ (m : Master) (s : State), reaches m s → m = .pcie ∨ m = .msp → ∃ t, goesTo (.sysUnlockWrite m 0x7D2B4E19) s t ∧ guardOpen m t = true ∧ onlyChanges
      [] [] s t) ∧
(∀ (m : Master) (v : Word) (s : State), reaches m s → m = .pcie ∨ m = .msp → v ≠ 0x7D2B4E19 → s.bit SYS_GUARD_VIOL 31 = false → ∃ t, goesTo
      (.sysUnlockWrite m v) s t ∧ guardOpen m t = false ∧ t.rd SYS_GUARD_VIOL = BitVec.ofNat 32 (SYS_UNLOCK / 4 + 2 ^ 29 + portBit m * 2 ^ 30 + 2 ^
      31) ∧ t.on SYS_INT_STAT_guard_viol = true ∧ onlyChanges [SYS_GUARD_VIOL, SYS_INT_STAT] [] s t) ∧
(∀ (m : Master) (hi : Bool) (v : Word) (n : Fin 64) (s : State), reaches m s → (decide (32 ≤ n.val) == hi) = true → bitOf v.toNat (n.val % 32) = true
      → s.vecWants n = false → ∃ t, goesTo (.sysVecAckWrite m hi v) s t ∧ t.armed n = true ∧ onlyChanges [] [] s t) ∧
(∀ (v : Fin 64) (s : State), s.up → s.host.holding.contains v.val = true → s.armed v = true → s.vecOpen v = true → s.vecWants v = true → ∃ t, goesTo
      (.vecHoldoffExpiry v) s t ∧ Sent.msix v ((s.rd (SYS_MSIX_ADDR_LO v)).toNat + (s.rd (SYS_MSIX_ADDR_HI v)).toNat * 2 ^ 32) (s.rd (SYS_MSIX_DATA
      v)) ∈ t.sent ∧ t.armed v = false ∧ onlyChanges [] [] s t) ∧
(∀ (v : Fin 64) (s : State), s.up → s.host.holding.contains v.val = true → s.vecWants v = false → ∃ t, goesTo (.vecHoldoffExpiry v) s t ∧
      t.host.holding.contains v.val = false ∧ onlyChanges [] [] s t) ∧
(∀ (msix mask d3hot : Bool) (c : PcieCfg) (s : State), s.up → s.power.pcieReset = false → ∃ t, goesTo (.configSpaceWrite msix mask (d3hot, c)) s t ∧
      t.host.msixEnable = msix ∧ t.host.funcMask = mask ∧ t.host.d3hot = d3hot ∧ t.host.cfg.ecrcGen = c.ecrcGen ∧ t.host.cfg.ecrcCheck = c.ecrcCheck ∧
      t.host.cfg.aspmL1 = c.aspmL1 ∧ (c.maxPayload = 128 ∨ c.maxPayload = 256 → t.host.cfg.maxPayload = c.maxPayload) ∧ (c.maxRead = 128 ∨ c.maxRead =
      256 ∨ c.maxRead = 512 → t.host.cfg.maxRead = c.maxRead) ∧ onlyChanges [] [] s t) ∧
(∀ (s : State), s.configId 0x00 = (if s.variant = .fh4848 then 0x48481F8B else 0x48241F8B) ∧ s.configId 0x2C = s.configId 0x00 ∧ (s.configId
      0x08).toNat / 256 = 0x028000)

/-- The Management Serial Port executes complete commands with a good CRC-8 and answers each. -/
def Obligations.MspFrames : Prop :=
(∀ (b : Bytes) (n : Fin 64) (s : State), s.up → byteAt b 0 = 2 → 10 ≤ b.length → mspCrcOk (b.take 10) = true → beAt b 1 4 = SYS_VEC_MAP n → ∃ t,
      goesTo (.mspWriteFrame b) s t ∧ t.rd (SYS_VEC_MAP n) = BitVec.ofNat 32 (beAt b 5 4) &&& 0x3F ∧ Sent.msp [0xA0] ∈ t.sent ∧ onlyChanges
      [SYS_VEC_MAP n] [] s t) ∧
(∀ (b : Bytes) (s : State), s.up → byteAt b 0 = 2 → 10 ≤ b.length → mspCrcOk (b.take 10) = false → ∃ t, goesTo (.mspWriteFrame b) s t ∧ Sent.msp
      [0xA2] ∈ t.sent ∧ onlyChanges [] [] s t) ∧
(∀ (b : Bytes) (n : Fin 64) (s : State), s.up → byteAt b 0 = 3 → 6 ≤ b.length → mspCrcOk (b.take 6) = true → beAt b 1 4 = SYS_VEC_MAP n → ∃ t, goesTo
      (.mspReadFrame b) s t ∧ Sent.msp (mspData (s.rd (SYS_VEC_MAP n))) ∈ t.sent ∧ onlyChanges [] [] s t) ∧
(∀ (b : Bytes) (s : State), s.up → b ≠ [] → byteAt b 0 ≠ 2 → byteAt b 0 ≠ 3 → ∃ t, goesTo (.mspUnknownCommand b) s t ∧ Sent.msp [0xA3] ∈ t.sent ∧
      onlyChanges [] [] s t) ∧
(∀ (b : Bytes) (s : State), s.up → b ≠ [] → byteAt b 0 = 2 → b.length < 10 → ∃ t, goesTo (.mspCsEarlyRise b) s t ∧ onlyChanges [] [] s t) ∧
(∀ (b : Bytes) (n : Fin 64) (s : State), s.up → byteAt b 0 = 2 → 10 ≤ b.length → mspCrcOk (b.take 10) = true → beAt b 1 4 = SYS_VEC_MAP n → ∃ t,
      goesTo (.mspCsEarlyRise b) s t ∧ (t.rd (SYS_VEC_MAP n) = BitVec.ofNat 32 (beAt b 5 4) &&& 0x3F ∨ t.rd (SYS_VEC_MAP n) = s.rd (SYS_VEC_MAP n)) ∧
      onlyChanges [SYS_VEC_MAP n] [.free] s t)

/-- The owner of an IDLE mailbox writes its request and rings its doorbell, the MP takes it, and the owner acknowledges it. -/
def Obligations.MailboxStates : Prop :=
(∀ (m : Master) (n : Fin 4) (w : Fin 1024) (v : Word) (s : State), reaches m s → s.mbOwns m n = true → s.mbState n = 0 → ∃ t, goesTo (.mbRequestWrite
      m n w v) s t ∧ t.rd (MB_REQ n w) = v ∧ onlyChanges [MB_REQ n w] [] s t) ∧
(∀ (m : Master) (n : Fin 4) (v : Word) (s : State), reaches m s → s.mbOwns m n = true → s.mbState n = 0 → ∃ t, goesTo (.mbDbWrite m n v) s t ∧
      t.mbState n = 1 ∧ t.mp.order = s.mp.order.filter (· ≠ n.val) ++ [n.val] ∧ onlyChanges [MB_STAT n] [.mp] s t) ∧
(∀ (n : Fin 4) (s : State), s.up → s.mpRuns = true → s.mbState n = 1 → leAt (s.mbBytes n 4) 4 4 ≤ 4080 → crc32c (posted n s).payload = (posted n
      s).crc → (posted n s).epoch = s.get MB_EPOCH_epoch → (s.mb n).last = none → opcodes.contains (posted n s).opcode = true → s.on MB_EPOCH_recovery
      = false → bitOf (posted n s).flags 1 = false → ∃ t, goesTo (.mbTake n false none) s t ∧ t.mbState n = 2 ∧ (t.mb n).taken = some (posted n s) ∧
      onlyParts [.regs, .mbox, .host, .sent] s t) ∧
(∀ (m : Master) (n : Fin 4) (v : Word) (s : State), reaches m s → s.mbOwns m n = true → s.mbState n = 3 → ∃ t, goesTo (.mbAckWrite m n v) s t ∧
      t.mbState n = 0 ∧ onlyChanges [MB_STAT n, MB_OWNER] [.mp] s t)

/-- SYS_ECHO returns its payload and SYS_GET_INFO the identity of the unit, in the response buffer of the mailbox. -/
def Obligations.EchoAndInfo : Prop :=
(∀ (n : Fin 4) (r : MbReq) (s : State), serving n 0x0101 r s → r.payload.length ≤ 4072 → ∃ t, goesTo (.sysEcho n) s t ∧ answered n r r.payload t ∧ (∀
      k < (mbWords r.opcode r.seq (1 + r.flags / 2 % 4 * 2) (s.get MB_EPOCH_epoch) (mbPayload 0 0 0 r.payload)).length, t.rd (MB_RESP n k) = (mbWords
      r.opcode r.seq (1 + r.flags / 2 % 4 * 2) (s.get MB_EPOCH_epoch) (mbPayload 0 0 0 r.payload)).getD k 0) ∧ onlyParts [.regs, .mbox, .mp, .host,
      .sent] s t) ∧
(∀ (n : Fin 4) (r : MbReq) (s : State), serving n 0x0100 r s → r.payload = [] → ∃ t, goesTo (.sysGetInfo n) s t ∧ answered n r (leBytes 2 s.partCode
      ++ leBytes 2 (s.get SYS_DEV_ID_module_rev * 2 ^ 12 + s.get SYS_DEV_ID_silicon_rev * 2 ^ 8) ++ beBytes 4 (s.get FU_VER_RUN_release) ++ bytes
      [s.fu.otp, s.fu.running, s.get FU_STAT_trial, 0] ++ leBytes 6 s.unit.serial ++ zeros 2 ++ leBytes 4 ((s.clk - s.mp.startClk) / 1250000000)) t ∧
      onlyParts [.regs, .mbox, .mp, .host, .sent] s t)

/-- A hang, a watchdog expiry or SYS_RESET.mp stops the MP, and its start makes it serve again. -/
def Obligations.MpStops : Prop :=
(∀ (s : State), s.up → s.mpRuns = true → ∃ t, goesTo (.mpHang) s t ∧ t.mp.hung = true ∧ t.on MB_EPOCH_mp_running = true ∧ onlyChanges [] [.mp] s t) ∧
(∀ (s : State), s.up → s.mpRuns = false → s.mp.restarting = false → ∃ t, goesTo (.mpWatchdogExpiry) s t ∧ t.on MB_EPOCH_mp_running = false ∧
      t.mp.restarting = true ∧ t.mp.hung = false ∧ t.get HL_WDOG_last_cause = 1) ∧
(∀ (m : Master) (s : State), reaches m s → guardOpen m s = true → s.mp.restarting = false → ∃ t, goesTo (.sysResetMp m) s t ∧ t.on MB_EPOCH_mp_running
      = false ∧ t.mp.restarting = true ∧ t.get HL_WDOG_last_cause = 2 ∧ t.get HL_WDOG_restarts = min 65535 (s.get HL_WDOG_restarts + 1)) ∧
(∀ (flash burn : Bool) (s : State), s.up → s.on MB_EPOCH_mp_running = false → ∃ t, goesTo (.mpStart true flash burn) s t ∧ t.on MB_EPOCH_mp_running =
      true ∧ t.mpRuns = true ∧ t.mp.restarting = false ∧ t.mp.startClk = s.clk)

/-- A module reset returns every register to its reset value and TB to zero, and its end raises PWR_OK and samples TWIN_SEAT. -/
def Obligations.ModuleReset : Prop :=
(∀ (ns : Nat) (s : State), s.power.vin = true → 1000 ≤ ns → ∃ t, goesTo (.mrstAssert ns) s t ∧ t.power.inReset = true ∧ t.power.pwrOk = false ∧
      t.power.pcieReset = true ∧ atReset keptOverReset t ∧ t.tb = ⟨0, 0, 0⟩ ∧ t.on TB_STAT_suspect = true ∧ t.mbox = [] ∧ t.host =
      { State.reset.host with linkGen := 0, linkWidth := 0 } ∧ t.retain = s.retain ∧ t.pending = s.pending) ∧
(∀ (m : Master) (s : State), reaches m s → guardOpen m s = true → ∃ t, goesTo (.sysResetModule m) s t ∧ t.power.inReset = true ∧ t.power.pwrOk = false
      ∧ t.power.pcieReset = true ∧ atReset keptOverReset t ∧ t.tb = ⟨0, 0, 0⟩ ∧ t.on TB_STAT_suspect = true ∧ t.mbox = [] ∧ t.host =
      { State.reset.host with linkGen := 0, linkWidth := 0 } ∧ t.retain = s.retain ∧ t.pending = s.pending) ∧
(∀ (s : State), s.up → s.fu.resetDue = true → ∃ t, goesTo (.activateReset) s t ∧ t.power.inReset = true ∧ t.power.pwrOk = false ∧ t.power.pcieReset =
      true ∧ atReset keptOverReset t ∧ t.tb = ⟨0, 0, 0⟩ ∧ t.on TB_STAT_suspect = true ∧ t.mbox = [] ∧ t.host =
      { State.reset.host with linkGen := 0, linkWidth := 0 } ∧ t.retain = s.retain ∧ t.pending = s.pending) ∧
(∀ (ns : Nat) (s : State), s.power.vin = true → ns < 500 → ∃ t, goesTo (.mrstAssert ns) s t ∧ t = s) ∧
(∀ (seatB : Bool) (xin : Option Nat) (s : State), s.power.vin = true → s.power.inReset = true → ∃ t, goesTo (.moduleResetEnd seatB xin) s t ∧ t.power
      = { s.power with inReset := false, pwrOk := true, seatB := seatB } ∧ t.on SYS_ROOT_STAT_src_active = (s.on SYS_ROOT_CTRL_src_sel && xinValid
      xin) ∧ t.on SYS_ROOT_STAT_xin_absent = (s.on SYS_ROOT_CTRL_src_sel && !xinValid xin) ∧ t.on TW_STAT_seat = seatB)

/-- VIN and VKEEP start, stop and hold the module and its time base. -/
def Obligations.Supplies : Prop :=
(∀ (mv : Nat) (s : State), s.vinStarts mv = true → ∃ t, goesTo (.vinRise mv) s t ∧ t.power.vin = true ∧ t.power.v3p3 = true ∧ t.power.inReset = true ∧
      t.power.tripped = false ∧ t.tb = (if s.power.keep then s.tb else ⟨0, 0, 0⟩) ∧ t.retain = s.retain) ∧
(∀ (mv : Nat) (s : State), s.vinStarts mv = true → s.power.keep = true → ∃ t, goesTo (.vinReturn mv) s t ∧ t.power.vin = true ∧ t.power.v3p3 = true ∧
      t.power.inReset = true ∧ t.tb = s.tb ∧ t.retain = s.retain) ∧
(∀ (mv us : Nat) (s : State), s.power.vin = true → mv < 5300 → 2 ≤ us → ∃ t, goesTo (.vinLoss mv us) s t ∧ t.power =
      { s.power with vin := false, tripped := false, v3p3 := false, pwrOk := false, pcieReset := true } ∧ onlyChanges [] [.power] s t) ∧
(∀ (mv us : Nat) (s : State), s.power.vin = true → 62500 < mv → 2 ≤ us → ∃ t, goesTo (.vinOvervoltage mv us) s t ∧ t.power =
      { s.power with vin := false, tripped := true, v3p3 := false, pwrOk := false, pcieReset := true } ∧ onlyChanges [] [.power] s t) ∧
(∀ (mv us : Nat) (s : State), s.power.vin = false → s.power.keep = true → mv < 2700 → 10 ≤ us → ∃ t, goesTo (.vkeepLoss mv us) s t ∧ t.power.keep =
      false ∧ t.tb = ⟨0, 0, 0⟩ ∧ t.retain = [] ∧ onlyChanges [] [.power, .tb, .retain] s t)

/-- PERST#, a hot reset and an FLR reset the PCIe side and leave the rest of the module running. -/
def Obligations.PcieResets : Prop :=
(∀ (ns : Nat) (s : State), s.up → 1000 ≤ ns → ∃ t, goesTo (.perstAssert ns) s t ∧ t.power.perst = true ∧ t.power.pcieReset = true ∧ t.host.cfg =
      PcieCfg.reset ∧ t.host.disarmed = [] ∧ t.rd (SYS_PBA 0) = 0 ∧ t.rd (SYS_PBA 1) = 0 ∧ t.host.msixEnable = false ∧ t.host.funcMask = false ∧
      t.host.d3hot = false ∧ t.host.guardPcie = false ∧ (∀ k : Nat, k < 256 → t.rd (0xC000 + 4 * k) = resetWord (0xC000 + 4 * k)) ∧ (∀ n : Nat, n < 4
      → s.bit MB_OWNER n = false → s.mbState n = 1 ∨ s.mbState n = 3 → t.mbState n = 0) ∧ (∀ n : Nat, n < 4 → s.bit MB_OWNER n = false → s.mbState n =
      2 → t.mbState n = 2 ∧ (t.mb n).discard = true) ∧ (∀ n : Nat, n < 4 → s.bit MB_OWNER n = true → t.mbState n = s.mbState n) ∧ (∀ c : Nat, c < 32 →
      t.on (SC_CPUQ_RING_CFG_enable c) = false) ∧ (∀ r : Nat, r < 8 → t.on (SC_TXR_CFG_enable r) = false ∧ t.on (FT_RING_CFG_enable r) = false) ∧ t.tb
      = s.tb) ∧
(∀ (s : State), s.up → s.power.pcieReset = false → ∃ t, goesTo (.pcieHotReset) s t ∧ t.host.cfg = PcieCfg.reset ∧ t.host.disarmed = [] ∧ t.rd (SYS_PBA
      0) = 0 ∧ t.rd (SYS_PBA 1) = 0 ∧ t.host.msixEnable = false ∧ t.host.funcMask = false ∧ t.host.d3hot = false ∧ t.host.guardPcie = false ∧ (∀ k :
      Nat, k < 256 → t.rd (0xC000 + 4 * k) = resetWord (0xC000 + 4 * k)) ∧ (∀ n : Nat, n < 4 → s.bit MB_OWNER n = false → s.mbState n = 1 ∨ s.mbState
      n = 3 → t.mbState n = 0) ∧ (∀ n : Nat, n < 4 → s.bit MB_OWNER n = false → s.mbState n = 2 → t.mbState n = 2 ∧ (t.mb n).discard = true) ∧ (∀ n :
      Nat, n < 4 → s.bit MB_OWNER n = true → t.mbState n = s.mbState n) ∧ (∀ c : Nat, c < 32 → t.on (SC_CPUQ_RING_CFG_enable c) = false) ∧ (∀ r : Nat,
      r < 8 → t.on (SC_TXR_CFG_enable r) = false ∧ t.on (FT_RING_CFG_enable r) = false) ∧ t.tb = s.tb) ∧
(∀ (s : State), s.up → s.power.pcieReset = false → ∃ t, goesTo (.pcieFlr) s t ∧ t.host.cfg = PcieCfg.reset ∧ t.host.disarmed = [] ∧ t.rd (SYS_PBA 0) =
      0 ∧ t.rd (SYS_PBA 1) = 0 ∧ t.host.msixEnable = false ∧ t.host.funcMask = false ∧ t.host.d3hot = false ∧ t.host.guardPcie = false ∧ (∀ k : Nat, k
      < 256 → t.rd (0xC000 + 4 * k) = resetWord (0xC000 + 4 * k)) ∧ (∀ n : Nat, n < 4 → s.bit MB_OWNER n = false → s.mbState n = 1 ∨ s.mbState n = 3 →
      t.mbState n = 0) ∧ (∀ n : Nat, n < 4 → s.bit MB_OWNER n = false → s.mbState n = 2 → t.mbState n = 2 ∧ (t.mb n).discard = true) ∧ (∀ n : Nat, n <
      4 → s.bit MB_OWNER n = true → t.mbState n = s.mbState n) ∧ (∀ c : Nat, c < 32 → t.on (SC_CPUQ_RING_CFG_enable c) = false) ∧ (∀ r : Nat, r < 8 →
      t.on (SC_TXR_CFG_enable r) = false ∧ t.on (FT_RING_CFG_enable r) = false) ∧ t.tb = s.tb) ∧
(∀ (s : State), s.up → s.power.pcieReset = true → ∃ t, goesTo (.pcieCoreResetEnd) s t ∧ t.power = { s.power with perst := false, pcieReset := false }
      ∧ 1 ≤ t.host.linkGen ∧ t.host.linkGen ≤ 4 ∧ [1, 2, 4].contains t.host.linkWidth = true ∧ onlyChanges [] [.power, .free] s t)

/-- A loss of the root lock is flagged at once, a lasting one is a held fault, and V3P3_OUT and the oven report their state. -/
def Obligations.RootAndOven : Prop :=
(∀ (s : State), s.up → s.rootLocked = true → ∃ t, goesTo (.rootLockLoss) s t ∧ t.on SYS_ROOT_STAT_locked = false ∧ t.on SYS_ROOT_STAT_lock_lost_sticky
      = true ∧ t.on SYS_INT_STAT_root_lock_lost = true ∧ t.on TB_STAT_suspect = true ∧ t.tb = s.tb) ∧
(∀ (s : State), s.up → s.rootLocked = false → s.power.rootDone = false → s.hl.causes.contains (0x0C, 0) = false → ∃ t, goesTo (.rootFaultLasting) s t
      ∧ (0x0C, 0) ∈ t.hl.held ∧ (0x0C, 0) ∈ t.hl.causes ∧ t.on SYS_ROOT_STAT_locked = false) ∧
(∀ (s : State), s.up → s.rootLocked = false → s.power.rootDone = false → s.twState = 0 ∨ s.twState = 2 → ∃ t, goesTo (.rootFaultLasting) s t ∧ (∀ l :
      Nat, l < s.lanes → t.on (LN_CTRL_tx_idle l) = true) ∧ t.power.rootDone = true) ∧
(∀ (s : State), s.up → s.rootLocked = false → ∃ t, goesTo (.rootRelock) s t ∧ t.on SYS_ROOT_STAT_locked = true ∧ (0x0C, 0) ∉ t.hl.causes ∧ t.power =
      { s.power with rootDone := false } ∧ onlyChanges [SYS_ROOT_STAT] [.hl, .power] s t) ∧
(∀ (mv : Nat) (s : State), s.power.vin = true → s.power.v3p3 = true → mv < s.get (HL_SUPPLY_THR_low 3) ∨ s.get (HL_SUPPLY_THR_high 3) < mv → ∃ t,
      goesTo (.v3p3OutLimit mv) s t ∧ t.power = { s.power with v3p3 := false } ∧ (s.up → t.get (HL_SUPPLY_now 3) = mv % 2 ^ 16)) ∧
(∀ (s : State), s.power.vin = true → s.power.v3p3 = false → ∃ t, goesTo (.v3p3OutRetry) s t ∧ t.power = { s.power with v3p3 := true } ∧ onlyChanges []
      [.power] s t) ∧
(∀ (s : State), s.up → ∃ t, goesTo (.ovenAtTemperature) s t ∧ t.on TC_OVO_oven_ok = true ∧ t.power.ovenWatched = true ∧ (0x13, 0) ∉ t.hl.causes ∧
      onlyChanges [TC_OVO] [.power, .hl] s t)

/-- The receive conditions of a lane come and go in its status, and a loss of them is raised as a cause. -/
def Obligations.LaneConditions : Prop :=
(∀ (l : Fin 48) (s : State), s.up → s.on (LN_CTRL_enable l) = true → s.on (LN_STAT_signal l) = true → ∃ t, goesTo (.lossOfSignal l) s t ∧ t.on
      (LN_STAT_signal l) = false ∧ t.on (LN_STAT_cdr_lock l) = false ∧ t.on (LN_STAT_block_lock l) = false ∧ t.on (LN_INT_STAT_los l) = true ∧ (s.on
      (LN_STAT_block_lock l) = true → t.on (PT_STAT_local_fault (s.headLane l)) = true)) ∧
(∀ (l : Fin 48) (s : State), s.up → l.val < s.lanes → s.on (LN_CTRL_enable l) = true → (s.laneOf l).inReset = false → s.on (LN_STAT_signal l) = false
      → ∃ t, goesTo (.signalDetect l) s t ∧ t.on (LN_STAT_signal l) = true ∧ ((s.laneOf l).calWanted = true → t.on (LN_STAT_cal_busy l) = true) ∧
      ((s.laneOf l).calWanted = false → onlyChanges [LN_STAT l] [] s t)) ∧
(∀ (l : Fin 48) (s : State), s.up → s.on (LN_STAT_cdr_lock l) = true → ∃ t, goesTo (.cdrLossOfLock l) s t ∧ t.on (LN_STAT_cdr_lock l) = false ∧ t.on
      (LN_STAT_block_lock l) = false ∧ (s.on (LN_CTRL_enable l) = true → t.on (LN_INT_STAT_cdr_unlock l) = true) ∧ (s.on (LN_STAT_block_lock l) = true
      → t.on (PT_STAT_local_fault (s.headLane l)) = true)) ∧
(∀ (l : Fin 48) (s : State), s.up → s.on (LN_STAT_signal l) = true → s.on (LN_STAT_cdr_lock l) = false → ∃ t, goesTo (.cdrLock l) s t ∧ t.on
      (LN_STAT_cdr_lock l) = true) ∧
(∀ (l : Fin 48) (s : State), s.up → s.on (LN_STAT_block_lock l) = true → (s.lanesOf (s.headLane l)).any (fun k => s.on (LN_STAT_cal_busy k)) = false →
      s.linkState (s.headLane l) ≠ 3 → (s.laneOf (s.headLane l)).loss = .none → ∃ t, goesTo (.blockLockLoss l) s t ∧ t.on (LN_STAT_block_lock l) =
      false ∧ (t.laneOf (s.headLane l)).loss = .retry ∧ t.on (PT_STAT_local_fault (s.headLane l)) = true) ∧
(∀ (l : Fin 48) (s : State), s.up → s.on (LN_STAT_cdr_lock l) = true → s.on (LN_STAT_block_lock l) = false → ∃ t, goesTo (.blockLock l) s t ∧ t.on
      (LN_STAT_block_lock l) = true)

/-- A loss of block lock is lasting 1 ms after it and transient 10 ms after its return, and a window with too many errors is hi_ber. -/
def Obligations.LaneLossClasses : Prop :=
(∀ (l : Fin 48) (s : State), s.up → (s.laneOf l).loss = .retry → s.rxLocked l = false → ∃ t, goesTo (.blockLockRetryExpiry l) s t ∧ (t.laneOf l).loss
      = .lasting ∧ t.get (LN_LOCK_LOSS_lasting l) = min 65535 (s.get (LN_LOCK_LOSS_lasting l) + 1) ∧ t.on (PT_INT_STAT_link_down l) = true ∧ (t.portOf
      l).down = true) ∧
(∀ (l : Fin 48) (s : State), s.up → (s.laneOf l).loss = .returned → ∃ t, goesTo (.blockLockStableExpiry l) s t ∧ (t.laneOf l).loss = .none ∧ t.get
      (LN_LOCK_LOSS_transient l) = min 65535 (s.get (LN_LOCK_LOSS_transient l) + 1) ∧ (s.on (LN_CTRL_enable l) = true → t.on
      (LN_INT_STAT_lock_loss_transient l) = true)) ∧
(∀ (l : Fin 48) (invalid corr uncorr sym : Nat) (s : State), s.up → s.on (LN_CTRL_enable l) = true → ∃ t, goesTo (.hiBerWindow l invalid corr uncorr
      sym) s t ∧ t.on (LN_STAT_hi_ber l) = (if s.fecOf l = 2 then decide (4 ≤ uncorr) else decide (16 ≤ invalid)) ∧ ((s.lanesOf (s.headLane
      l)).contains l.val = true → t.on (LN_STAT_hi_ber l) = true → t.on (PT_STAT_local_fault (s.headLane l)) = true) ∧ (s.on (LN_STAT_block_lock l) =
      true → t.get (LN_HDR_ERR_count l) = min (2 ^ 32 - 1) (s.get (LN_HDR_ERR_count l) + invalid))) ∧
(∀ (b : Fin 12) (s : State), s.up → s.wide (4 * b.val) = true → s.on (LN_STAT_aligned (4 * b.val)) = true → ∃ t, goesTo (.alignmentLoss b) s t ∧ t.on
      (LN_STAT_aligned (4 * b.val)) = false ∧ (t.portOf (4 * b.val)).alignLost = true) ∧
(∀ (b : Fin 12) (s : State), s.up → s.wide (4 * b.val) = true → (s.lanesOf (4 * b.val)).all (fun l => s.on (LN_STAT_block_lock l)) = true → s.on
      (LN_STAT_aligned (4 * b.val)) = false → ∃ t, goesTo (.alignment b) s t ∧ t.on (LN_STAT_aligned (4 * b.val)) = true ∧ (t.portOf (4 *
      b.val)).alignLost = false)

/-- A bay mode applies once its ports are idle, and calibration, reset and eye of a lane run from start to end. -/
def Obligations.LaneModesAndCalibration : Prop :=
(∀ (b : Fin 12) (v : Word) (c : Nat) (s : State), s.up → s.pend.filter (fun e => decide (e.1 = LN_BAY_MODE b)) = [(LN_BAY_MODE b, v, c)] → c + 32 <
      s.clk → (∀ k : Nat, k < 4 → s.on (PT_IDLE_idle (4 * b.val + k)) = true) → ∃ t, goesTo (.bayModeApply b) s t ∧ t.rd (LN_BAY_MODE b) = v &&&
      fieldBits (LN_BAY_MODE b) ∧ t.pend = s.pend.filter (fun e => decide (e.1 ≠ LN_BAY_MODE b)) ∧ (∀ k : Nat, k < 4 → t.on (LN_STAT_signal (4 * b.val
      + k)) = false ∧ t.on (LN_STAT_block_lock (4 * b.val + k)) = false)) ∧
(∀ (m : Master) (l : Fin 48) (v : Word) (s : State), reaches m s → l.val < s.lanes → bitOf v.toNat 0 = true → s.on (LN_STAT_cal_busy l) = false → ∃ t,
      goesTo (.lnCalStart (some m) l v) s t ∧ t.on (LN_STAT_cal_busy l) = true ∧ t.on (LN_EYE_stale l) = true) ∧
(∀ (l : Fin 48) (v : Word) (s : State), s.up → (s.laneOf l).calWanted = true → s.on (LN_STAT_signal l) = true → s.on (LN_STAT_cal_busy l) = false → ∃
      t, goesTo (.lnCalStart none l v) s t ∧ t.on (LN_STAT_cal_busy l) = true ∧ t.on (LN_EYE_stale l) = true ∧ (t.laneOf l).calWanted = false) ∧
(∀ (l : Fin 48) (width height : Nat) (s : State), s.up → s.on (LN_STAT_cal_busy l) = true → ∃ t, goesTo (.lnCalEnd l width height) s t ∧ t.on
      (LN_STAT_cal_busy l) = false ∧ t.get (LN_EYE_width l) = width % 256 ∧ t.get (LN_EYE_height l) = height % 1024 ∧ t.on (LN_EYE_stale l) = false ∧
      (s.on (LN_CTRL_enable l) = true → t.on (LN_INT_STAT_cal_done l) = true) ∧ (width % 256 < s.get (LN_EYE_THR_width_min l) → s.on (LN_CTRL_enable
      l) = true → t.on (LN_INT_STAT_eye_low l) = true)) ∧
(∀ (m : Master) (l : Fin 48) (v : Word) (s : State), reaches m s → l.val < s.lanes → bitOf v.toNat 0 = true → ∃ t, goesTo (.lnResetWrite m l v) s t ∧
      (t.laneOf l).resetReq = true ∧ onlyChanges [] [.lane] s t) ∧
(∀ (l : Fin 48) (s : State), s.up → (s.laneOf l).inReset = true → ∃ t, goesTo (.laneResetEnd l) s t ∧ (t.laneOf l).inReset = false ∧ t.on
      (LN_STAT_signal l) = false ∧ t.on (LN_STAT_block_lock l) = false ∧ t.pend = s.pend.filter (fun e => !isLaneReg l e.1)) ∧
(∀ (l : Fin 48) (v : Word) (c : Nat) (s : State), s.up → (s.laneOf l).inReset = true → s.pend.filter (fun e => decide (e.1 = LN_EYE_THR l)) =
      [(LN_EYE_THR l, v, c)] → ∃ t, goesTo (.laneResetEnd l) s t ∧ t.rd (LN_EYE_THR l) = v &&& fieldBits (LN_EYE_THR l)) ∧
(∀ (l : Fin 48) (width height : Nat) (s : State), s.up → s.on (LN_CTRL_enable l) = true → s.on (LN_STAT_cal_busy l) = false → ∃ t, goesTo (.eyePublish
      l width height) s t ∧ t.get (LN_EYE_width l) = width % 256 ∧ t.get (LN_EYE_height l) = height % 1024 ∧ t.on (LN_EYE_stale l) = false ∧ (width %
      256 < s.get (LN_EYE_THR_width_min l) → t.on (LN_INT_STAT_eye_low l) = true) ∧ onlyChanges [LN_EYE l, LN_INT_STAT l] [] s t)

/-- A remote fault takes the link down while it lasts, and received pauses hold the port until they expire. -/
def Obligations.PortFaultsAndPause : Prop :=
(∀ (p : Fin 48) (s : State), s.up → s.rxLocked p = true → s.rxOut p = false → s.on (PT_STAT_remote_fault p) = false → ∃ t, goesTo (.remoteFaultReceive
      p) s t ∧ t.on (PT_STAT_remote_fault p) = true ∧ t.on (PT_INT_STAT_remote_fault p) = true ∧ t.on (PT_STAT_link_up p) = false) ∧
(∀ (p : Fin 48) (s : State), s.up → s.on (PT_STAT_remote_fault p) = true → ∃ t, goesTo (.remoteFaultEnd p) s t ∧ t.on (PT_STAT_remote_fault p) =
      false) ∧
(∀ (p : Fin 48) (quanta : Nat) (s : State), s.up → s.rxLocked p = true → s.rxOut p = false → s.loopOf p = 0 → s.portOff p = false → ∃ t, goesTo
      (.pauseFrameReceive p quanta) s t ∧ t.rd64 (PT_PAUSE_RX_LO p) (PT_PAUSE_RX_HI p) = (s.rd64 (PT_PAUSE_RX_LO p) (PT_PAUSE_RX_HI p) + 1) % 2 ^ 64 ∧
      (s.on (PT_CTRL_pause_rx p) = true → s.on (PT_CTRL_pfc_rx p) = false → (t.portOf p).pauseAll = decide (0 < quanta) ∧ (0 < quanta → t.on
      (PT_STAT_paused p) = true)) ∧ ((s.on (PT_CTRL_pause_rx p) = false ∨ s.on (PT_CTRL_pfc_rx p) = true) → (t.portOf p).pauseAll = (s.portOf
      p).pauseAll) ∧ (t.portOf p).pfc = (s.portOf p).pfc ∧ onlyChanges [PT_PAUSE_RX_LO p, PT_PAUSE_RX_HI p, PT_STAT p] [.port] s t) ∧
(∀ (p : Fin 48) (vector zero : BitVec 8) (s : State), s.up → s.rxLocked p = true → s.rxOut p = false → s.loopOf p = 0 → s.portOff p = false → ∃ t,
      goesTo (.pfcFrameReceive p vector zero) s t ∧ (s.on (PT_CTRL_pfc_rx p) = true → (t.portOf p).pfc = ((BitVec.ofNat 8 (s.portOf p).pfc ||| vector)
      &&& ~~~(vector &&& zero)).toNat) ∧ (s.on (PT_CTRL_pfc_rx p) = false → (t.portOf p).pfc = (s.portOf p).pfc) ∧ (t.portOf p).pauseAll = (s.portOf
      p).pauseAll ∧ t.rd64 (PT_PAUSE_RX_LO p) (PT_PAUSE_RX_HI p) = (s.rd64 (PT_PAUSE_RX_LO p) (PT_PAUSE_RX_HI p) + 1) % 2 ^ 64 ∧ onlyChanges
      [PT_PAUSE_RX_LO p, PT_PAUSE_RX_HI p, PT_STAT p] [.port] s t) ∧
(∀ (p : Fin 48) (quanta : Nat) (s : State), s.up → s.rxLocked p = true → s.rxOut p = false → s.loopOf p = 4 ∨ (s.loopOf p = 0 ∧ s.portOff p = true) →
      ∃ t, goesTo (.pauseFrameReceive p quanta) s t ∧ t.rd64 (PT_DROP_DISABLED_LO p) (PT_DROP_DISABLED_HI p) = (s.rd64 (PT_DROP_DISABLED_LO p)
      (PT_DROP_DISABLED_HI p) + 1) % 2 ^ 64 ∧ onlyChanges [PT_DROP_DISABLED_LO p, PT_DROP_DISABLED_HI p] [] s t) ∧
(∀ (p : Fin 48) (vector zero : BitVec 8) (s : State), s.up → s.rxLocked p = true → s.rxOut p = false → s.loopOf p = 4 ∨ (s.loopOf p = 0 ∧ s.portOff p
      = true) → ∃ t, goesTo (.pfcFrameReceive p vector zero) s t ∧ t.rd64 (PT_DROP_DISABLED_LO p) (PT_DROP_DISABLED_HI p) = (s.rd64
      (PT_DROP_DISABLED_LO p) (PT_DROP_DISABLED_HI p) + 1) % 2 ^ 64 ∧ onlyChanges [PT_DROP_DISABLED_LO p, PT_DROP_DISABLED_HI p] [] s t) ∧
(∀ (p : Fin 48) (all : Bool) (classes : BitVec 8) (s : State), s.up → s.on (PT_STAT_paused p) = true → ∃ t, goesTo (.pauseExpiry p all classes) s t ∧
      (t.portOf p).pauseAll = ((s.portOf p).pauseAll && !all) ∧ (t.portOf p).pfc = (BitVec.ofNat 8 (s.portOf p).pfc &&& ~~~classes).toNat ∧ t.on
      (PT_STAT_paused p) = ((t.portOf p).pauseAll || decide ((t.portOf p).pfc ≠ 0)) ∧ onlyChanges [PT_STAT p] [.port] s t)

/-- A port is disabled and enabled at its frame boundary, and a drain ends when its queues are empty or its time has elapsed. -/
def Obligations.PortDisableAndDrain : Prop :=
(∀ (p : Fin 48) (v : Word) (c : Nat) (s : State), s.up → s.between p = true → s.pend.filter (fun e => decide (e.1 = PT_CTRL p)) = [(PT_CTRL p, v, c)]
      → c + 32 < s.clk → s.on (PT_CTRL_enable p) = true → bitOf v.toNat 0 = false → ∃ t, goesTo (.portDisable p) s t ∧ t.on (PT_CTRL_enable p) = false
      ∧ (t.on (PT_IDLE_idle p) = true ∨ t.on (PT_STAT_draining p) = true)) ∧
(∀ (p : Fin 48) (v : Word) (c : Nat) (s : State), s.up → s.between p = true → s.pend.filter (fun e => decide (e.1 = PT_CTRL p)) = [(PT_CTRL p, v, c)]
      → c + 32 < s.clk → s.on (PT_CTRL_enable p) = false → s.on (PT_IDLE_idle p) = true → bitOf v.toNat 0 = true → ∃ t, goesTo (.portEnable p) s t ∧
      t.on (PT_CTRL_enable p) = true) ∧
(∀ (p : Fin 48) (v : Word) (c : Nat) (s : State), s.up → s.between p = true → s.pend.filter (fun e => decide (e.1 = PT_TS_ING_ADJ p)) =
      [(PT_TS_ING_ADJ p, v, c)] → c + 32 < s.clk → ∃ t, goesTo (.frameBoundary (p.castLE (by decide))) s t ∧ t.rd (PT_TS_ING_ADJ p) = v &&& fieldBits
      (PT_TS_ING_ADJ p) ∧ t.pend.any (fun e => decide (e.1 = PT_TS_ING_ADJ p)) = false) ∧
(∀ (p : Fin 48) (s : State), s.up → s.on (PT_STAT_draining p) = true → s.scHasPort p = false → ∃ t, goesTo (.drainDone p) s t ∧ t.on (PT_STAT_draining
      p) = false ∧ t.on (PT_IDLE_idle p) = true ∧ t.on (PT_INT_STAT_drain_done p) = true ∧ onlyChanges [PT_STAT p, PT_IDLE p, PT_INT_STAT p] [] s t) ∧
(∀ (p : Fin 48) (s : State), s.up → s.on (PT_STAT_draining p) = true → 0 < s.get (PT_DRAIN_ON_DISABLE_timeout_us p) → ∃ t, goesTo (.drainTimeout p) s
      t ∧ t.on (PT_STAT_draining p) = false ∧ t.on (PT_IDLE_idle p) = true ∧ t.on (PT_IDLE_drain_timeout p) = true ∧ t.on (PT_INT_STAT_drain_done p) =
      true)

/-- A received frame is taken into the pipeline, to PX, or counted and left out; and a port sends its waiting PAUSE frame or the frame whose
turn it is. -/
def Obligations.FramesInAndOut : Prop :=
(∀ (p : Fin 48) (b : Bytes) (ago : Nat) (s : State), s.up → s.portHere p = true → s.rxLocked p = true → s.rxOut p = false → s.on (PT_STAT_local_fault
      p) = false → s.loopOf p = 0 → s.portOff p = false → (s.xconn p).all (fun k => decide (k ≠ p.val) && s.portHere k) = true → 64 ≤ b.length →
      b.length ≤ s.get (PT_MAXFRM_max p) → isFpl b = false ∨ s.linkState p = 0 ∨ (s.xconn p).isSome = true → ∃ t, goesTo (.frameReceive p b true false
      ago) s t ∧ t.rd64 (PT_FRAMES_RX_OK_LO p) (PT_FRAMES_RX_OK_HI p) = (s.rd64 (PT_FRAMES_RX_OK_LO p) (PT_FRAMES_RX_OK_HI p) + 1) % 2 ^ 64 ∧ t.rd64
      (PT_OCTETS_RX_OK_LO p) (PT_OCTETS_RX_OK_HI p) = (s.rd64 (PT_OCTETS_RX_OK_LO p) (PT_OCTETS_RX_OK_HI p) + (b.length - 18)) % 2 ^ 64 ∧ t.sc.pipe =
      s.sc.pipe ++ [s.sc.nextId] ∧ (t.pkt s.sc.nextId).bytes = b.take (b.length - 4) ∧ (t.pkt s.sc.nextId).port = p ∧ (t.pkt s.sc.nextId).xc = s.xconn
      p) ∧
(∀ (p : Fin 48) (b : Bytes) (ago : Nat) (s : State), s.up → s.portHere p = true → s.rxLocked p = true → s.rxOut p = false → s.on (PT_STAT_local_fault
      p) = false → s.loopOf p = 0 → s.portOff p = false → (s.xconn p).all (fun k => decide (k ≠ p.val) && s.portHere k) = true → 64 ≤ b.length →
      b.length ≤ s.get (PT_MAXFRM_max p) → isFpl b = true → s.linkState p ≠ 0 → s.xconn p = none → ∃ t, goesTo (.frameReceive p b true false ago) s t
      ∧ t.rd64 (PT_FRAMES_RX_OK_LO p) (PT_FRAMES_RX_OK_HI p) = (s.rd64 (PT_FRAMES_RX_OK_LO p) (PT_FRAMES_RX_OK_HI p) + 1) % 2 ^ 64 ∧ t.sc.pipe =
      s.sc.pipe) ∧
(∀ (p : Fin 48) (b : Bytes) (ago : Nat) (s : State), s.up → s.portHere p = true → s.rxLocked p = true → s.rxOut p = false → s.on (PT_STAT_local_fault
      p) = false → s.loopOf p = 0 → s.portOff p = false → (s.xconn p).all (fun k => decide (k ≠ p.val) && s.portHere k) = true → 64 ≤ b.length →
      b.length ≤ s.get (PT_MAXFRM_max p) → ∃ t, goesTo (.frameReceive p b false false ago) s t ∧ t.rd64 (PT_FCS_ERR_LO p) (PT_FCS_ERR_HI p) = (s.rd64
      (PT_FCS_ERR_LO p) (PT_FCS_ERR_HI p) + 1) % 2 ^ 64 ∧ (b.length ≤ 256 → t.sc.pipe = s.sc.pipe) ∧ (256 < b.length → t.sc.pipe = s.sc.pipe ++
      [s.sc.nextId] ∧ (t.pkt s.sc.nextId).err = true)) ∧
(∀ (p : Fin 48) (b : Bytes) (fcs bad : Bool) (ago : Nat) (s : State), s.up → s.portHere p = true → s.rxLocked p = true → s.rxOut p = false → s.on
      (PT_STAT_local_fault p) = false → s.loopOf p = 0 → s.portOff p = false → (s.xconn p).all (fun k => decide (k ≠ p.val) && s.portHere k) = true →
      64 ≤ b.length → s.get (PT_MAXFRM_max p) < b.length → ∃ t, goesTo (.frameReceive p b fcs bad ago) s t ∧ t.rd64 (PT_TOO_LONG_LO p) (PT_TOO_LONG_HI
      p) = (s.rd64 (PT_TOO_LONG_LO p) (PT_TOO_LONG_HI p) + 1) % 2 ^ 64 ∧ (s.get (PT_MAXFRM_max p) < 256 → t.sc.pipe = s.sc.pipe) ∧ (256 ≤ s.get
      (PT_MAXFRM_max p) → t.sc.pipe = s.sc.pipe ++ [s.sc.nextId] ∧ (t.pkt s.sc.nextId).err = true)) ∧
(∀ (p : Fin 48) (b : Bytes) (fcs bad : Bool) (ago : Nat) (s : State), s.up → s.portHere p = true → s.rxLocked p = true → s.rxOut p = false → s.on
      (PT_STAT_local_fault p) = false → s.loopOf p = 0 → s.portOff p = false → (s.xconn p).all (fun k => decide (k ≠ p.val) && s.portHere k) = true →
      b.length < 64 → ∃ t, goesTo (.frameReceive p b fcs bad ago) s t ∧ t.rd64 (PT_RUNT_LO p) (PT_RUNT_HI p) = (s.rd64 (PT_RUNT_LO p) (PT_RUNT_HI p) +
      1) % 2 ^ 64 ∧ onlyChanges [PT_RUNT_LO p, PT_RUNT_HI p] [] s t) ∧
(∀ (p : Fin 48) (b : Bytes) (fcs bad : Bool) (ago : Nat) (s : State), s.up → s.portHere p = true → s.rxLocked p = true → s.rxOut p = false → s.on
      (PT_STAT_local_fault p) = false → s.loopOf p = 4 ∨ (s.loopOf p = 0 ∧ (s.portOff p = true ∨ (s.xconn p).any (fun k => decide (k = p.val) ||
      !s.portHere k) = true)) → ∃ t, goesTo (.frameReceive p b fcs bad ago) s t ∧ t.rd64 (PT_DROP_DISABLED_LO p) (PT_DROP_DISABLED_HI p) = (s.rd64
      (PT_DROP_DISABLED_LO p) (PT_DROP_DISABLED_HI p) + 1) % 2 ^ 64 ∧ onlyChanges [PT_DROP_DISABLED_LO p, PT_DROP_DISABLED_HI p] [] s t) ∧
(∀ (p : Fin 48) (lead : Nat) (f : FlowFrame) (rest : List FlowFrame) (s : State), s.up → s.maySend p = true → s.loopOf p = 0 → s.sc.flowOut.get [] p =
      f :: rest → ∃ t, goesTo (.frameTransmit p lead [] []) s t ∧ Sent.pause p f.pfc f.cls f.quanta ∈ t.sent ∧ t.sc.flowOut.get [] p = rest ∧ t.rd64
      (PT_PAUSE_TX_LO p) (PT_PAUSE_TX_HI p) = (s.rd64 (PT_PAUSE_TX_LO p) (PT_PAUSE_TX_HI p) + 1) % 2 ^ 64) ∧
(∀ (p : Fin 48) (lead q id since : Nat) (rest : List (Nat × Nat)) (e : Edited) (s1 : State) (s : State), s.up → s.maySend p = true → s.sc.flowOut.get
      [] p = [] → (s.noFit p).serve p (((s.noFit p).tb.move (((lead * 2 ^ 16 : Nat) : Int) + (s.noFit p).adj (PT_TS_EGR_ADJ p))).fifths) = (some q,
      s1) → s1.queueOf q = (id, since) :: rest → s1.edit (s1.pkt id) p (s1.copyOf id q) = .inr e → (s1.pkt id).whole = true → s1.loopOf p = 0 → ∃ t,
      goesTo (.frameTransmit p lead [] []) s t ∧ (p.val, !(s1.pkt id).err) ∈ framesOut t)

/-- A written bank is named by the shadow until every port uses it, and a drain completes when no frame can use the old bank. -/
def Obligations.ParserSwapAndDrain : Prop :=
(∀ (m : Master) (v : Word) (s : State), reaches m s → ∃ t, goesTo (.prCtrlSwapWrite m v) s t ∧ t.prCtrlShadow = BitVec.ofNat 32 (bitsOf v 1 0) ∧
      onlyChanges [] [.pr] s t) ∧
(∀ (s : State), s.up → s.on PR_GR_DRAINED_drained = false → s.pr.grSwap.head?.all (fun w => !w.started) = true → s.livePkts.all (fun x => decide (x.gr
      ≠ s.pr.grOld)) = true → ∃ t, goesTo (.prDrainComplete) s t ∧ t.on PR_GR_DRAINED_drained = true ∧ t.on PR_INT_STAT_gr_drained = true ∧
      onlyChanges [PR_GR_DRAINED, PR_RS_DRAINED, PR_INT_STAT] [] s t) ∧
(∀ (s : State), s.up → s.on PR_RS_DRAINED_drained = false → s.pr.rsSwap.head?.all (fun w => !w.started) = true → s.livePkts.all (fun x => decide (x.rs
      ≠ s.pr.rsOld)) = true → ∃ t, goesTo (.prDrainComplete) s t ∧ t.on PR_RS_DRAINED_drained = true ∧ t.on PR_INT_STAT_rs_drained = true ∧
      onlyChanges [PR_GR_DRAINED, PR_RS_DRAINED, PR_INT_STAT] [] s t)

/-- Each pipeline passes its oldest frame, a long frame is checked at its end, and recirculated frames take a second pass or age out. -/
def Obligations.PipelinePasses : Prop :=
(∀ (k : Fin 2) (pf : List PrFault) (ff : List FtFault) (id peer : Nat) (s : State), s.up → s.sc.pipe.find? (fun i => decide (srcBay (s.pkt i) % 2 =
      k.val)) = some id → (s.pkt id).xc = some peer → (s.bayCells (srcBay (s.pkt id))).length + cellsOf (s.pkt id).len ≤ 960 → ∃ t, goesTo
      (.parseClassify k pf ff) s t ∧ t.sc.pipe = s.sc.pipe.filter (fun i => decide (i ≠ id)) ∧ (t.pkt id).copies = [⟨8 * peer, none, 0, 0⟩] ∧
      (t.bayCells (srcBay (s.pkt id))).length = (s.bayCells (srcBay (s.pkt id))).length + cellsOf (s.pkt id).len) ∧
(∀ (k : Fin 2) (pf : List PrFault) (ff : List FtFault) (id peer : Nat) (s : State), s.up → s.sc.pipe.find? (fun i => decide (srcBay (s.pkt i) % 2 =
      k.val)) = some id → (s.pkt id).xc = some peer → peer < 48 → (s.pkt id).store = 0 → 1024 < (s.bayCells (srcBay (s.pkt id))).length + cellsOf
      (s.pkt id).len → ∃ t, goesTo (.parseClassify k pf ff) s t ∧ t.sc.pipe = s.sc.pipe.filter (fun i => decide (i ≠ id)) ∧ t.isPkt id = false ∧ t.get
      (SC_DROP_count (8 * peer) 8) = min (2 ^ 32 - 1) (s.get (SC_DROP_count (8 * peer) 8) + 1)) ∧
(∀ (k : Fin 2) (id : Nat) (s : State), s.up → s.sc.pipe.find? (fun i => decide (srcBay (s.pkt i) % 2 = k.val)) = some id → (s.pkt id).port < 48 →
      (s.pkt id).xc = none → s.twHeld (s.pkt id).port = false → (s.pkt id).len ≤ 256 → (s.parse (s.pkt id).gr (s.pkt id).bytes (s.pkt id).len (some
      ((s.pkt id).len - 4))).out = .unresolved → ∃ t, goesTo (.parseClassify k [] []) s t ∧ t.sc.pipe = s.sc.pipe.filter (fun i => decide (i ≠ id)) ∧
      t.get (PR_CNT_UNRESOLVED_unresolved (s.pkt id).port) = min (2 ^ 32 - 1) (s.get (PR_CNT_UNRESOLVED_unresolved (s.pkt id).port) + 1)) ∧
(∀ (p : Fin 49) (id : Nat) (x : Pkt) (s : State), s.up → s.sc.frames.find? (fun e => e.2.lateDue && decide (e.2.port = p.val)) = some (id, x) → ∃ t,
      goesTo (.lateLengthCheck p) s t ∧ (t.pkt id).lateDue = false ∧ (t.pkt id).err = (x.err || x.lateBad) ∧ (x.lateBad = true → t.get
      (PR_CNT_LEN_LATE_len_late p) = min (2 ^ 32 - 1) (s.get (PR_CNT_LEN_LATE_len_late p) + 1) ∧ t.get (PR_CNT_LEN_MISMATCH_len_mismatch p) = min (2 ^
      32 - 1) (s.get (PR_CNT_LEN_MISMATCH_len_mismatch p) + 1)) ∧ onlyParts [.regs, .sc, .host, .sent] s t) ∧
(∀ (pf : List PrFault) (ff : List FtFault) (k : Fin 8) (id since : Nat) (rest : List (Nat × Nat)) (s : State), s.up → (∀ j : Nat, j < 7 - k.val →
      s.queueOf (423 - j) = []) → s.queueOf (416 + k) = (id, since) :: rest → (s.pkt id).whole = true → ∃ t, goesTo (.recircSecondPass pf ff) s t ∧
      t.queueOf (416 + k) = (s.queueOf (416 + k)).filter (fun e => decide (e.1 ≠ id))) ∧
(∀ (r : Fin 8) (id since : Nat) (rest : List (Nat × Nat)) (s : State), s.up → s.queueOf (416 + r) = (id, since) :: rest → max 1 (s.get
      PR_RECIRC_AGE_age_us) * 1250 ≤ s.clk - since → ∃ t, goesTo (.recircAgeExpiry r) s t ∧ t.queueOf (416 + r) = (s.queueOf (416 + r)).filter (fun e
      => decide (e.1 ≠ id)) ∧ t.get (PR_CNT_RECIRC_AGED_recirc_aged (s.pkt id).port) = min (2 ^ 32 - 1) (s.get (PR_CNT_RECIRC_AGED_recirc_aged (s.pkt
      id).port) + 1) ∧ t.on PR_INT_STAT_recirc_aged = true)

/-- The head of the learn queue executes on the MAC table, and the sweeper ages one slot at a time. -/
def Obligations.LearnAndAge : Prop :=
(∀ (v : LearnEv) (rest : List LearnEv) (loc : Nat) (s : State), s.up → s.ft.queue = v :: rest → v.kind = 0 → s.ft.filter.contains (v.fid, v.mac) =
      false → ({ s with ft := { s.ft with queue := rest } } : State).macFind v.fid v.mac = none → (({ s with ft := { s.ft with queue := rest } } :
      State).macInsert (Ent.learned v.fid v.mac v.ident s.ms)).1 = some loc → ∃ t, goesTo (.learn) s t ∧ t.ent 0 loc = Ent.learned v.fid v.mac v.ident
      s.ms ∧ t.ft.queue = rest ∧ t.get FT_LEARNED_count = min (2 ^ 32 - 1) (s.get FT_LEARNED_count + 1)) ∧
(∀ (v : LearnEv) (rest : List LearnEv) (loc : Nat) (s : State), s.up → s.ft.queue = v :: rest → v.kind = 1 →
      ({ s with ft := { s.ft with queue := rest } } : State).macFind v.fid v.mac = some loc → s.held 0 loc = false → (s.ent 0 loc).dest = v.ident → ∃
      t, goesTo (.refresh) s t ∧ (t.ent 0 loc).hit = true ∧ (t.ent 0 loc).agedOnce = false ∧ (t.ent 0 loc).candValid = false ∧ t.ft.queue = rest) ∧
(∀ (v : LearnEv) (rest : List LearnEv) (loc : Nat) (s : State), s.up → s.ft.queue = v :: rest → v.kind = 2 →
      ({ s with ft := { s.ft with queue := rest } } : State).macFind v.fid v.mac = some loc → s.held 0 loc = false → ∃ t, goesTo (.destRefresh) s t ∧
      (t.ent 0 loc).hit = true ∧ (t.ent 0 loc).agedOnce = false ∧ t.ft.queue = rest) ∧
(∀ (s : State), s.up → s.get FT_AGE_period_s ≠ 0 → (s.ent 0 s.ft.sweep).valid1 = true → (s.ent 0 s.ft.sweep).fixed = false → s.held 0 s.ft.sweep =
      false → ∃ t, goesTo (.ageEvent) s t ∧ t.ft.sweep = (s.ft.sweep + 1) % 524288 ∧ ((s.ent 0 s.ft.sweep).hit = true → (t.ent 0 s.ft.sweep).valid1 =
      true ∧ (t.ent 0 s.ft.sweep).hit = false ∧ (t.ent 0 s.ft.sweep).agedOnce = false) ∧ ((s.ent 0 s.ft.sweep).hit = false → (s.ent 0
      s.ft.sweep).agedOnce = false → (t.ent 0 s.ft.sweep).valid1 = true ∧ (t.ent 0 s.ft.sweep).agedOnce = true) ∧ ((s.ent 0 s.ft.sweep).hit = false →
      (s.ent 0 s.ft.sweep).agedOnce = true → (t.ent 0 s.ft.sweep).valid1 = false)) ∧
(∀ (k : Nat × Nat) (rest : List (Nat × Nat)) (s : State), s.up → s.ft.filter = k :: rest → ∃ t, goesTo (.failFilterExpiry) s t ∧ t.ft.filter = rest ∧
      onlyChanges [] [.ft] s t)

/-- The descriptors that read the tables complete with the entry found, and leave the tables as they were. -/
def Obligations.DescriptorReads : Prop :=
(∀ (r : Fin 8) (w : List Word) (s : State), serves r 0 0 w s → ∃ t, goesTo (.nop r (some w) .done) s t ∧ completes r w 0 s t ∧ onlyParts [.regs, .ft,
      .host, .sent] s t) ∧
(∀ (r : Fin 8) (w : List Word) (during : Bool) (table i : Nat) (s : State), serves r 1 table w s → table < 7 → i = (if table = 0 then locOf w else
      bitsOf (dw w 1) 16 0) → i < tableSize table → bitOf (dw w 0).toNat 10 = false → ∃ t, goesTo (.read r (some w) .done ([], during)) s t ∧
      completes r w (if s.entBad table i then 9 else 0) s t ∧ Sent.dma (s.ringDesc (ftRing r) + 4) ((((if table = 0 then putLoc (putEnt w (s.readMac
      during i).1) (s.readMac during i).2 else putEnt w (s.ent table i)).set 3 (putBits (dw w 3) 15 0 (s.get FT_EPOCH_current))).drop 1).map
      wordBytes).flatten ∈ t.sent ∧ onlyParts [.regs, .ft, .host, .sent] s t) ∧
(∀ (r : Fin 8) (w : List Word) (during : Bool) (table i : Nat) (s : State), serves r 1 table w s → table < 7 → i = (if table = 0 then locOf w else
      bitsOf (dw w 1) 16 0) → i < tableSize table → bitOf (dw w 0).toNat 10 = true → s.lockOf r = none → s.heldByOther r table i = false → ∃ t, goesTo
      (.read r (some w) .done ([], during)) s t ∧ completes r w (if s.entBad table i then 9 else 0) s t ∧ t.lockOf r = some ⟨table, [i]⟩ ∧ t.on
      (FT_RING_STAT_lock_held r) = true ∧ onlyParts [.regs, .ft, .host, .sent] s t) ∧
(∀ (r : Fin 8) (w : List Word) (during : Bool) (table i : Nat) (s : State), serves r 1 table w s → table < 7 → i = (if table = 0 then locOf w else
      bitsOf (dw w 1) 16 0) → i < tableSize table → bitOf (dw w 0).toNat 10 = true → s.lockOf r = none → s.heldByOther r table i = true → ∃ t, goesTo
      (.read r (some w) .done ([], during)) s t ∧ completes r w 6 s t ∧ t.lockOf r = none ∧ onlyParts [.regs, .ft, .host, .sent] s t) ∧
(∀ (r : Fin 8) (w : List Word) (i : Nat) (s : State), serves r 3 0 w s → (turned r s).macFind (entOf w).fid (entOf w).addr = some i → bitOf (dw w
      0).toNat 10 = false → ∃ t, goesTo (.lookup r (some w) .done []) s t ∧ completes r w 0 s t ∧ Sent.dma (s.ringDesc (ftRing r) + 4) ((((putLoc
      (putEnt w (s.ent 0 i)) i).set 3 (putBits (dw w 3) 15 0 (s.get FT_EPOCH_current))).drop 1).map wordBytes).flatten ∈ t.sent ∧ onlyParts [.regs,
      .ft, .host, .sent] s t) ∧
(∀ (r : Fin 8) (w : List Word) (s : State), serves r 3 0 w s → (turned r s).macFind (entOf w).fid (entOf w).addr = none → ∃ t, goesTo (.lookup r (some
      w) .done []) s t ∧ completes r w 1 s t ∧ onlyParts [.regs, .ft, .host, .sent] s t) ∧
(∀ (r : Fin 8) (w : List Word) (during : Bool) (b : Nat) (s : State), serves r 6 0 w s → b = bitsOf (dw w 1) 15 0 → bitOf (dw w 0).toNat 10 = false →
      (∀ k : Nat, k < 4 → s.entBad 0 (macLoc (bitsOf (dw w 1) 18 18) k b) = false) → ∃ t, goesTo (.readBucket r (some w) .done ([], during)) s t ∧
      completes r w 0 s t ∧ Sent.dma ((dw w 2).toNat + (dw w 3).toNat * 2 ^ 32) (((List.range 4).map fun k => (([(s.readMac during (macLoc (bitsOf (dw
      w 1) 18 18) k b)).1.w0, (s.readMac during (macLoc (bitsOf (dw w 1) 18 18) k b)).1.w1, (s.readMac during (macLoc (bitsOf (dw w 1) 18 18) k
      b)).1.w2, (s.readMac during (macLoc (bitsOf (dw w 1) 18 18) k b)).1.w3, BitVec.ofNat 32 (s.readMac during (macLoc (bitsOf (dw w 1) 18 18) k
      b)).2].map wordBytes).flatten ++ zeros 12)).flatten) ∈ t.sent ∧ onlyParts [.regs, .ft, .host, .sent] s t) ∧
(∀ (r : Fin 8) (w : List Word) (during : Bool) (b : Nat) (s : State), serves r 6 0 w s → b = bitsOf (dw w 1) 15 0 → bitOf (dw w 0).toNat 10 = true →
      s.lockOf r = none → (∀ k : Nat, k < 4 → s.heldByOther r 0 (macLoc (bitsOf (dw w 1) 18 18) k b) = false) → (∀ k : Nat, k < 4 → s.entBad 0 (macLoc
      (bitsOf (dw w 1) 18 18) k b) = false) → ∃ t, goesTo (.readBucket r (some w) .done ([], during)) s t ∧ completes r w 0 s t ∧ t.lockOf r = some
      ⟨0, (List.range 4).map fun k => macLoc (bitsOf (dw w 1) 18 18) k b⟩ ∧ onlyParts [.regs, .ft, .host, .sent] s t)

/-- The descriptors that change the tables store, insert, delete and flush what they name. -/
def Obligations.DescriptorWrites : Prop :=
(∀ (r : Fin 8) (w : List Word) (table i : Nat) (s : State), serves r 2 table w s → 0 < table → table < 7 → i = bitsOf (dw w 1) 16 0 → i < tableSize
      table → (turned r s).ftMay r table [i] [i] = .inr false → s.slotRetired table i = false → ∃ t, goesTo (.write r (some w) .done []) s t ∧ t.ent
      table i = entOf w ∧ completes r w 0 s t ∧ (∀ j : Nat, j < tableSize table → j ≠ i → t.ent table j = s.ent table j) ∧ onlyParts [.regs, .ft,
      .host, .sent] s t) ∧
(∀ (r : Fin 8) (w : List Word) (table i : Nat) (s : State), serves r 2 table w s → 0 < table → table < 7 → i = bitsOf (dw w 1) 16 0 → i < tableSize
      table → (turned r s).ftMay r table [i] [i] = .inr true → s.slotRetired table i = false → ∃ t, goesTo (.write r (some w) .done []) s t ∧ t.ent
      table i = entOf w ∧ t.lockOf r = none ∧ completes r w 0 s t) ∧
(∀ (r : Fin 8) (w : List Word) (table i st : Nat) (s : State), serves r 2 table w s → 0 < table → table < 7 → i = bitsOf (dw w 1) 16 0 → i < tableSize
      table → (turned r s).ftMay r table [i] [i] = .inl st → ∃ t, goesTo (.write r (some w) .done []) s t ∧ completes r w st s t ∧ (∀ j : Nat, j <
      tableSize table → t.ent table j = s.ent table j) ∧ onlyParts [.regs, .ft, .host, .sent] s t) ∧
(∀ (r : Fin 8) (w : List Word) (i : Nat) (s : State), serves r 2 0 w s → i = locOf w → (entOf w).valid1 = true → ((turned r s).ways (entOf w).fid
      (entOf w).addr).contains i = true → ((turned r s).ways (entOf w).fid (entOf w).addr).find? (fun k => (turned r s).holdsKey (entOf w).fid (entOf
      w).addr k && decide (k ≠ i)) = none → (turned r s).ftMay r 0 [i] [i] = .inr false → s.slotRetired 0 i = false → ∃ t, goesTo (.write r (some w)
      .done []) s t ∧ t.ent 0 i = entOf w ∧ completes r w 0 s t) ∧
(∀ (r : Fin 8) (w : List Word) (loc : Nat) (s : State), serves r 4 0 w s → mayInsert r (entOf w) (turned r s) → ((turned r s).macInsert (entOf w)).1 =
      some loc → ∃ t, goesTo (.insert r (some w) .done []) s t ∧ t.ent 0 loc = entOf w ∧ completes r w 0 s t) ∧
(∀ (r : Fin 8) (w : List Word) (i : Nat) (s : State), serves r 5 0 w s → (turned r s).macFind (entOf w).fid (entOf w).addr = some i → (turned r
      s).ftMay r 0 [i] [i] = .inr false → ∃ t, goesTo (.delete r (some w) .done []) s t ∧ (t.ent 0 i).valid1 = false ∧ completes r w 0 s t) ∧
(∀ (r : Fin 8) (w : List Word) (s : State), serves r 7 0 w s → ∃ t, goesTo (.flush r (some w) .done []) s t ∧ (∀ e ∈ s.ft.mac, s.flushes (dw w 4) e.1
      = true → (t.ent 0 e.1).valid1 = false) ∧ completes r w 0 s t ∧ onlyParts [.regs, .ft, .host, .sent] s t) ∧
(∀ (r : Fin 8) (w : List Word) (l : DmaLock) (s : State), serves r 8 0 w s → s.lockOf r = some l → ∃ t, goesTo (.unlock r (some w) .done) s t ∧
      t.lockOf r = none ∧ completes r w 0 s t) ∧
(∀ (r : Fin 8) (w : List Word) (s : State), serves r 8 0 w s → s.lockOf r = none → s.lapsedOf r ≠ [] → ∃ t, goesTo (.unlock r (some w) .done) s t ∧
      t.lapsedOf r = [] ∧ completes r w 8 s t ∧ onlyParts [.regs, .ft, .host, .sent] s t) ∧
(∀ (r : Fin 8) (w : List Word) (s : State), s.up → s.ringTurn s.ft.turn ftRing = some r.val → w.length = 8 → 8 < bitsOf (dw w 0) 5 0 → bitOf (dw w
      0).toNat 11 = false → ∃ t, goesTo (.badOp r (some w) .done) s t ∧ completes r w 11 s t ∧ onlyParts [.regs, .ft, .host, .sent] s t)

/-- The registers of the forwarding tables set the ageing period, run the rings and advance the epoch. -/
def Obligations.TableRegisters : Prop :=
(∀ (m : Master) (v : Word) (s : State), reaches m s → ∃ t, goesTo (.ftAgeWrite m v) s t ∧ t.get FT_AGE_period_s = bitsOf v 11 0 ∧ onlyChanges [FT_AGE]
      [] s t) ∧
(∀ (m : Master) (r : Fin 8) (v : Word) (s : State), reaches m s → ∃ t, goesTo (.ftRingHeadWrite m r v) s t ∧ t.get (FT_RING_HEAD_head r) = bitsOf v 11
      0 ∧ t.on (FT_RING_TAIL_idle r) = decide (t.ringTail (ftRing r) = t.ringHead (ftRing r)) ∧ onlyChanges [FT_RING_HEAD r, FT_RING_TAIL r] [] s t) ∧
(∀ (m : Master) (r : Fin 8) (v : Word) (s : State), reaches m s → s.on (FT_RING_CFG_enable r) = false → ∃ t, goesTo (.ftRingEnable m r v) s t ∧ t.on
      (FT_RING_CFG_enable r) = true ∧ t.get (FT_RING_CFG_size_log2 r) = bitsOf v 4 1 ∧ onlyChanges [FT_RING_CFG r, FT_RING_TAIL r] [] s t) ∧
(∀ (m : Master) (r : Fin 8) (v : Word) (s : State), reaches m s → s.on (FT_RING_CFG_enable r) = true → ∃ t, goesTo (.ftRingDisable m r v) s t ∧ t.on
      (FT_RING_CFG_enable r) = false ∧ t.lockOf r = none ∧ t.on (FT_RING_STAT_lock_held r) = false) ∧
(∀ (m : Master) (v : Word) (s : State), reaches m s → (s.get FT_EPOCH_current + 1 + 65536 - s.get FT_DRAIN_EPOCH_value) % 65536 ≠ 32768 → ∃ t, goesTo
      (.ftEpochAdvWrite m v) s t ∧ t.get FT_EPOCH_current = (s.get FT_EPOCH_current + 1) % 65536 ∧ onlyChanges [FT_EPOCH] [] s t) ∧
(∀ (s : State), s.up → s.oldestEpoch ≠ s.get FT_DRAIN_EPOCH_value → ∃ t, goesTo (.drainEpochAdvance) s t ∧ t.get FT_DRAIN_EPOCH_value = s.oldestEpoch
      % 65536 ∧ t.on FT_INT_STAT_drain_adv = true ∧ onlyChanges [FT_DRAIN_EPOCH, FT_INT_STAT] [] s t) ∧
(∀ (r : Fin 8) (l : DmaLock) (s : State), s.up → s.lockOf r = some l → ∃ t, goesTo (.ftLockExpiry r) s t ∧ t.lockOf r = none ∧ t.lapsedOf r =
      s.lapsedOf r ++ [l] ∧ t.on (FT_RING_STAT_lock_held r) = false ∧ t.on FT_INT_STAT_lock_expired = true)

/-- A slot moves a cell of a bay ingress to the mezzanine of its connection, and a missing number is given up after its timeout. -/
def Obligations.SlotsAndLandings : Prop :=
(∀ (b : Fin 15) (c : Cell) (dbm : Bool) (s : State), s.up → s.sc.ingress = [(b.val, [c])] → s.sc.mezz = [] → s.sc.swap = none → c.dst < 16 → s.bit
      SC_MEZZ_IDLE ((b + s.sc.slot) % 16) = false → s.mayCross ((b + s.sc.slot) % 16) c = true → ∃ t, goesTo (.slotCrossing dbm [] []) s t ∧
      t.mezzCells (s.mezzAt ((b + s.sc.slot) % 16)) = [c] ∧ t.bayCells b = [] ∧ t.sc.slot = (s.sc.slot + 1) % 16 ∧ onlyParts [.regs, .sc, .txts,
      .host, .sent] s t) ∧
(∀ (dbm : Bool) (ecc : List (Fin 17 × Ecc)) (faults : List StoreFault) (s : State), s.up → ∃ t, goesTo (.slotCrossing dbm ecc faults) s t ∧ t.sc.slot
      = (s.sc.slot + 1) % 16 ∧ onlyParts [.regs, .sc, .bw, .free, .hl, .txts, .host, .sent] s t) ∧
(∀ (src dst : Fin 15) (space : Fin 3) (dbm : Bool) (c : Cell) (s : State), s.up → s.landed dst = [c] → c.src = src → c.dst = dst → c.space = space →
      c.seq < 65536 → s.sc.seqIn.get 0 (pathKey src dst space) < 65536 → ∃ t, goesTo (.landingTimeout src dst (space, dbm)) s t ∧ t.on
      SC_INT_STAT_landing_timeout = true ∧ t.landed dst = [] ∧ t.sc.seqIn.get 0 (pathKey src dst space) = (c.seq + 1) % 65536 ∧ onlyParts [.regs, .sc,
      .bw, .free, .txts, .host, .sent] s t) ∧
(∀ (q : Fin 472) (id since : Nat) (rest : List (Nat × Nat)) (s : State), s.up → s.queueOf q = (id, since) :: rest → clamp 10 1000000 (s.get
      SC_AGE_LIMIT_limit_us) * 1250 ≤ s.clk - since → ∃ t, goesTo (.ageLimit q) s t ∧ ((q.val < 384 → s.get (GT_WIN_MAX_win (q.val / 8) (q.val % 8)) =
      0x3FFFFFFF) → t.queueOf q = rest.filter (fun e => decide (e.1 ≠ id)) ∧ t.occ q = s.occ q - (s.pkt id).n) ∧ t.get (SC_DROP_count q 5) = min (2 ^
      32 - 1) (s.get (SC_DROP_count q 5) + 1) ∧ onlyParts [.regs, .sc, .txts, .host, .sent] s t) ∧
(∀ (p : Fin 48) (k : Fin 9) (s : State), s.up → bitOf (s.sc.above.get 0 p) k = true → s.get (SC_FC_CFG_mode p) = (if k.val < 8 then 2 else 1) → s.get
      (SC_FC_XON_xon p) < s.flowHeld p k → ∃ t, goesTo (.pfcRepeat p k) s t ∧ t.sc.flowOut.get [] p = s.sc.flowOut.get [] p ++ [⟨decide (k.val < 8),
      if k.val < 8 then 2 ^ k.val else 0, s.get (SC_FC_CFG_quanta p)⟩] ∧ onlyChanges [] [.sc] s t)

/-- At the end of a slot pattern the captured SC writes apply, and a mezzanine swap begins there and ends once the old mezzanine is empty. -/
def Obligations.PatternsAndMezzanines : Prop :=
(∀ (a : Nat) (v : Word) (k : Nat) (s : State), s.up → s.sc.slot = 0 → s.sc.swap = none → s.pend = [(a, v, k)] → groupOf a = .switch → k + 32 < s.clk →
      isRes a = false → a ∉ [SC_STAT, SYS_PBA 0, SYS_PBA 1] → ∃ t, goesTo (.slotPatternBoundary) s t ∧ t.rd a = v &&& fieldBits a ∧ t.pend = [] ∧ ((∀
      p : Nat, p < 48 → a ≠ SC_FC_CFG p) → t.sc = s.sc) ∧ onlyChanges [a, SC_STAT] [.pend, .sc] s t) ∧
(∀ (w : MezzSwap) (s : State), s.up → s.sc.slot = 0 → s.sc.swap = some w → ∃ t, goesTo (.slotPatternBoundary) s t ∧ t.sc =
      { s.sc with swap := some { w with started := true }, above := t.sc.above } ∧ (w.started = false → w.pos < 16 → t.bit SC_MEZZ_IDLE w.pos = false)
      ∧ (∀ e ∈ t.pend, groupOf e.1 = .switch → s.clk ≤ e.2.2 + 32) ∧ onlyParts [.regs, .pend, .sc, .host, .sent] s t) ∧
(∀ (m : Master) (v : Word) (sp : Nat) (s : State), reaches m s → guardOpen m s = true → bitOf v.toNat 4 = true → s.sc.swap = none → s.sc.spare = some
      sp → ∃ t, goesTo (.scMezzSwapWrite m v) s t ∧ t.sc =
      { s.sc with swap := some ⟨bitsOf v 3 0, s.mezzAt (bitsOf v 3 0), sp, false⟩, spare := none } ∧ t.on SC_MEZZ_STAT_swap_busy = true ∧ t.on
      SC_MEZZ_STAT_spare_in_use = true ∧ t.get SC_MEZZ_STAT_spare_for = bitsOf v 3 0 ∧ onlyParts [.regs, .pend, .sc, .host, .sent] s t) ∧
(∀ (m : Master) (v : Word) (s : State), reaches m s → guardOpen m s = false → s.bit SYS_GUARD_VIOL 31 = false → ∃ t, goesTo (.scMezzSwapWrite m v) s t
      ∧ t.on SYS_INT_STAT_guard_viol = true ∧ t.bit SYS_GUARD_VIOL 31 = true ∧ onlyChanges [SYS_GUARD_VIOL, SYS_INT_STAT] [] s t) ∧
(∀ (w : MezzSwap) (s : State), s.up → s.sc.swap = some w → w.started = true → w.old = w.new ∨ s.mezzHolds w.old = 0 → ∃ t, goesTo (.mezzSwapComplete)
      s t ∧ t.sc = { s.sc with swap := none, map := s.sc.map.set w.pos w.new } ∧ t.on SC_MEZZ_STAT_swap_busy = false ∧ t.on SC_INT_STAT_mezz_swap_done
      = true ∧ onlyChanges [SC_MEZZ_STAT, SC_INT_STAT] [.sc] s t)

/-- Host CPU queues hand frames over by their receive descriptors, and transmit rings take frames by theirs. -/
def Obligations.CpuAndTransmitRings : Prop :=
(∀ (c : Fin 32) (w : List Word) (id since : Nat) (rest : List (Nat × Nat)) (cp : Copy) (s : State), s.up → s.hostServe.1 = some (384 + c.val) →
      w.length = 8 → s.queueOf (384 + c) = (id, since) :: rest → (s.pkt id).copies.find? (fun e => decide (e.q = 384 + c.val)) = some cp → ∃ t, goesTo
      (.cpuQueueDescriptor c (some w) .done) s t ∧ Sent.dma ((dw w 2).toNat + (dw w 3).toNat * 2 ^ 32) ((handed (s.pkt id) cp.reason).take (bitsOf (dw
      w 4) 13 0)) ∈ t.sent ∧ Sent.dma (s.ringDesc (rxRing c)) (wordBytes (rxStatus w (s.pkt id) cp.reason)) ∈ t.sent ∧ t.ringTail (rxRing c) =
      (s.ringTail (rxRing c) + 1) % s.ringSize (rxRing c) ∧ t.queueOf (384 + c) = rest.filter (fun e => decide (e.1 ≠ id)) ∧ t.bit SC_CPUQ_INT_STAT c
      = true ∧ onlyParts [.regs, .sc, .host, .sent] s t) ∧
(∀ (c : Fin 32) (s : State), s.up → s.hostServe.1 = some (384 + c.val) → ∃ t, goesTo (.cpuQueueDescriptor c none .done) s t ∧ t.on
      (SC_CPUQ_RING_CFG_enable c) = false ∧ t.bit (SC_CPUQ_RING_STAT c) 0 = true ∧ onlyChanges [SC_CPUQ_RING_CFG c, SC_CPUQ_RING_STAT c] [.sc] s t) ∧
(∀ (r : Fin 8) (w : List Word) (b : Bytes) (dbm : Bool) (s : State), s.up → s.ringTurn s.sc.txTurn txRing = some r.val → w.length = 8 → s.badTx w =
      false → b.length = bitsOf (dw w 0) 13 0 → ∃ t, goesTo (.txDescriptor r (some w) b .done dbm) s t ∧ Sent.dma (s.ringDesc (txRing r) + 16)
      (wordBytes (putBits (dw w 4) 7 0 0)) ∈ t.sent ∧ Sent.dma (s.ringDesc (txRing r)) (wordBytes (putBits (dw w 0) 31 31 1)) ∈ t.sent ∧ t.ringTail
      (txRing r) = (s.ringTail (txRing r) + 1) % s.ringSize (txRing r) ∧ t.sc.txTurn = (r + 1) % 8 ∧ onlyParts [.regs, .sc, .free, .txts, .host,
      .sent] s t ∧ (bitOf (dw w 0).toNat 14 = true → t.sc.pipe = s.sc.pipe ++ [s.sc.nextId] ∧ (t.pkt s.sc.nextId).bytes = b)) ∧
(∀ (r : Fin 8) (w : List Word) (b : Bytes) (dbm : Bool) (s : State), s.up → s.ringTurn s.sc.txTurn txRing = some r.val → w.length = 8 → s.badTx w =
      true → ∃ t, goesTo (.txDescriptor r (some w) b .done dbm) s t ∧ Sent.dma (s.ringDesc (txRing r) + 16) (wordBytes (putBits (dw w 4) 7 0 2)) ∈
      t.sent ∧ Sent.dma (s.ringDesc (txRing r)) (wordBytes (putBits (dw w 0) 31 31 1)) ∈ t.sent ∧ t.ringTail (txRing r) = (s.ringTail (txRing r) + 1)
      % s.ringSize (txRing r) ∧ t.sc.txTurn = (r + 1) % 8 ∧ onlyParts [.regs, .sc, .free, .txts, .host, .sent] s t ∧ t.sc =
      { s.sc with txTurn := (r + 1) % 8 }) ∧
(∀ (r : Fin 8) (w : List Word) (b : Bytes) (dbm : Bool) (s : State), s.up → s.ringTurn s.sc.txTurn txRing = some r.val → w.length = 8 → s.badTx w =
      false → ∃ t, goesTo (.txDescriptor r (some w) b .bufferFails dbm) s t ∧ Sent.dma (s.ringDesc (txRing r) + 16) (wordBytes (putBits (dw w 4) 7 0
      1)) ∈ t.sent ∧ Sent.dma (s.ringDesc (txRing r)) (wordBytes (putBits (dw w 0) 31 31 1)) ∈ t.sent ∧ t.ringTail (txRing r) = (s.ringTail (txRing r)
      + 1) % s.ringSize (txRing r) ∧ t.sc.txTurn = (r + 1) % 8 ∧ onlyParts [.regs, .sc, .free, .txts, .host, .sent] s t ∧ t.on (SC_TXR_CFG_enable r) =
      false ∧ t.bit (SC_TXR_STAT r) 0 = true ∧ t.on SC_INT_STAT_txr_err = true) ∧
(∀ (r : Fin 8) (b : Bytes) (dma : DmaEnd) (dbm : Bool) (s : State), s.up → s.ringTurn s.sc.txTurn txRing = some r.val → ∃ t, goesTo (.txDescriptor r
      none b dma dbm) s t ∧ t.on (SC_TXR_CFG_enable r) = false ∧ t.bit (SC_TXR_STAT r) 0 = true ∧ t.on SC_INT_STAT_txr_err = true ∧ t.sc =
      { s.sc with txTurn := (r + 1) % 8 } ∧ onlyChanges [SC_TXR_CFG r, SC_TXR_STAT r, SC_INT_STAT] [.sc] s t) ∧
(∀ (m : Master) (c : Fin 32) (v : Word) (s : State), reaches m s → ∃ t, goesTo (.scRingHeadWrite m (.rx c) v) s t ∧ t.get (SC_CPUQ_RING_HEAD_head c) =
      bitsOf v 11 0 ∧ t.on (SC_CPUQ_RING_TAIL_idle c) = decide (t.ringTail (rxRing c) = t.ringHead (rxRing c)) ∧ onlyChanges [SC_CPUQ_RING_HEAD c,
      SC_CPUQ_RING_TAIL c] [] s t) ∧
(∀ (m : Master) (r : Fin 8) (v : Word) (s : State), reaches m s → ∃ t, goesTo (.scRingHeadWrite m (.tx r) v) s t ∧ t.get (SC_TXR_HEAD_head r) = bitsOf
      v 11 0 ∧ t.on (SC_TXR_TAIL_idle r) = decide (t.ringTail (txRing r) = t.ringHead (txRing r)) ∧ onlyChanges [SC_TXR_HEAD r, SC_TXR_TAIL r] [] s t) ∧
(∀ (m : Master) (c : Fin 32) (v : Word) (s : State), reaches m s → ∃ t, goesTo (.scRingCfgWrite m (.rx c) v) s t ∧ (s.on (SC_CPUQ_RING_CFG_enable c) =
      false → t.on (SC_CPUQ_RING_CFG_enable c) = bitOf v.toNat 0 ∧ t.get (SC_CPUQ_RING_CFG_size_log2 c) = bitsOf v 4 1) ∧ (s.on
      (SC_CPUQ_RING_CFG_enable c) = true → t.on (SC_CPUQ_RING_CFG_enable c) = bitOf v.toNat 0 ∧ t.get (SC_CPUQ_RING_CFG_size_log2 c) = s.get
      (SC_CPUQ_RING_CFG_size_log2 c)) ∧ onlyChanges [SC_CPUQ_RING_CFG c, SC_CPUQ_RING_TAIL c] [] s t) ∧
(∀ (m : Master) (r : Fin 8) (v : Word) (s : State), reaches m s → ∃ t, goesTo (.scRingCfgWrite m (.tx r) v) s t ∧ (s.on (SC_TXR_CFG_enable r) = false
      → t.on (SC_TXR_CFG_enable r) = bitOf v.toNat 0 ∧ t.get (SC_TXR_CFG_size_log2 r) = bitsOf v 4 1) ∧ (s.on (SC_TXR_CFG_enable r) = true → t.on
      (SC_TXR_CFG_enable r) = bitOf v.toNat 0 ∧ t.get (SC_TXR_CFG_size_log2 r) = s.get (SC_TXR_CFG_size_log2 r)) ∧ onlyChanges [SC_TXR_CFG r,
      SC_TXR_TAIL r] [] s t)

/-- At a flight boundary pending stairway values apply together; a tread start sets the gates of its tread and a mark records it. -/
def Obligations.Stairways : Prop :=
(∀ (p : Fin 48) (s : State), s.up → s.stairOn p = true → s.pends (.stair p) = false → s.frozen.get none p.val = none → ∃ t, goesTo (.flightBoundary
      (p, none)) s t ∧ t.get (GT_FLIGHT_CNT_count p) = (s.get (GT_FLIGHT_CNT_count p) + 1) % 2 ^ 32 ∧ t.on (GT_STAT_active p) = true ∧ t.get
      (GT_STAT_bank_active p) = s.get (GT_CTRL_bank p) ∧ (∀ k : Nat, k < 8 → t.get (GT_WIN_MAX_win p k) = s.winMax p k % 2 ^ 30) ∧ t.get
      (GT_STAT_tread p) = (windowAt (s.windowsOf p) (s.position p s.tb.fifths)).2.2.1 % 2 ^ 10 ∧ onlyParts [.regs, .pend, .sc, .txts, .treadRead,
      .host, .sent] s t) ∧
(∀ (p : Fin 48) (bank row : Nat) (s : State), s.up → s.stairOn p = true → s.pends (.stair p) = false → s.frozen.get none p.val = none → s.on
      GT_PARITY_valid = false → ∃ t, goesTo (.flightBoundary (p, some (true, bank, row))) s t ∧ t.get (GT_FLIGHT_CNT_count p) = (s.get
      (GT_FLIGHT_CNT_count p) + 1) % 2 ^ 32 ∧ t.on GT_INT_STAT_parity_lasting = true ∧ t.on GT_PARITY_valid = true ∧ t.get GT_PARITY_port = p ∧
      t.frozen.get none p = some (s.treadRead.get 0xFF p) ∧ t.rd (GT_GATES p) = s.rd (GT_GATES p) ∧ t.get (GT_STAT_tread p) = s.get (GT_STAT_tread p)) ∧
(∀ (p : Fin 48) (v : Word) (k : Nat) (s : State), s.up → s.stairOn p = true → s.pend = [(GT_CTRL p, v, k)] → k + 32 < s.clk → s.frozen.get none p.val
      = none → ∃ t, goesTo (.flightBoundary (p, none)) s t ∧ t.rd (GT_CTRL p) = v &&& fieldBits (GT_CTRL p) ∧ t.on (GT_STAT_active p) = bitOf v.toNat
      0 ∧ t.on (GT_STAT_bank_active p) = bitOf v.toNat 1 ∧ t.bit2 GT_SWAP_DONE_LO GT_SWAP_DONE_HI p = true ∧ t.on GT_INT_STAT_swap_done = true ∧
      t.pend = []) ∧
(∀ (p : Fin 48) (s : State), s.up → s.stairOn p = true → s.frozen.get none p.val = none → ∃ t, goesTo (.treadStart p none) s t ∧ t.get (GT_STAT_tread
      p) = (windowAt (s.windowsOf p) (s.position p s.tb.fifths)).2.2.1 % 2 ^ 10 ∧ (∀ k : Nat, k < 8 → bitOf (t.get (GT_GATES_gates p)) k = s.gate p k
      (windowAt (s.windowsOf p) (s.position p s.tb.fifths)).2.2.2) ∧ (((s.treads p (s.get (GT_CTRL_bank p)))[(windowAt (s.windowsOf p) (s.position p
      s.tb.fifths)).2.2.1]?).any (fun e => e.2.2) = true → t.bit2 GT_MARK_LO GT_MARK_HI p = true ∧ t.on GT_INT_STAT_mark = true ∧ t.on
      (GT_MARK_NS_suspect p) = s.on TB_STAT_suspect) ∧ (s.on PM_CTRL_run = false → onlyChanges [GT_STAT p, GT_GATES p, GT_MARK_SEC p, GT_MARK_NS p,
      GT_MARK_LO, GT_MARK_HI, GT_INT_STAT] [.treadRead] s t)) ∧
(∀ (p : Fin 48) (bank row : Nat) (s : State), s.up → s.stairOn p = true → s.frozen.get none p.val = none → s.on GT_PARITY_valid = false → ∃ t, goesTo
      (.treadStart p (some (true, bank, row))) s t ∧ t.on GT_INT_STAT_parity_lasting = true ∧ t.on GT_PARITY_valid = true ∧ t.get GT_PARITY_port = p ∧
      t.frozen.get none p = some (s.treadRead.get 0xFF p) ∧ t.rd (GT_GATES p) = s.rd (GT_GATES p) ∧ t.rd (GT_STAT p) = s.rd (GT_STAT p)) ∧
(∀ (p : Fin 48) (k : Fin 8) (lead id since : Nat) (rest : List (Nat × Nat)) (absent : Bool) (s : State), s.up → s.queueOf (8 * p + k) = (id, since) ::
      rest → (s.pkt id).early = true → (∀ j : Nat, j < 8 → k.val < j → (s.queueOf (8 * p + j)).head?.all (fun e => !(s.pkt e.1).early) = true) →
      s.maySend p = false → ∃ t, goesTo (.dlmRelease p lead absent) s t ∧ (t.pkt id).early = false ∧ t.on SC_INT_STAT_dlm_late = true ∧ t.get
      SC_DLM_LATE_count = min (2 ^ 32 - 1) (s.get SC_DLM_LATE_count + 1) ∧ onlyChanges [SC_DLM_LATE, SC_INT_STAT] [.sc] s t) ∧
(∀ (p : Fin 48) (k : Fin 8) (lead id since : Nat) (rest : List (Nat × Nat)) (absent : Bool) (s1 : State) (e : Edited) (s : State), s.up → s.queueOf (8
      * p + k) = (id, since) :: rest → (s.pkt id).early = true → (∀ j : Nat, j < 8 → k.val < j → (s.queueOf (8 * p + j)).head?.all (fun e => !(s.pkt
      e.1).early) = true) → s1 = s.setPkt id { s.pkt id with early := false } → s1.maySend p = true → s1.paused p k = false → s1.headFits p k
      ((s1.tb.move (((lead * 2 ^ 16 : Nat) : Int) + s1.adj (PT_TS_EGR_ADJ p))).fifths) = true → s1.edit (s1.pkt id) p (s1.copyOf id (8 * p + k)) =
      .inr e → (s1.pkt id).whole = true → s1.loopOf p = 0 → ∃ t, goesTo (.dlmRelease p lead absent) s t ∧ (p.val, !absent && !(s.pkt id).err) ∈
      framesOut t ∧ t.get SC_DLM_LATE_count = s.get SC_DLM_LATE_count)

/-- Arming checks an entry and reports in GT_TAQ_ARM_STAT, a due entry performs its write, and cancelling ends entries. -/
def Obligations.TimedActions : Prop :=
(∀ (m : Master) (v : Word) (s : State), reaches m s → s.armCheck (bitsOf v 7 0) false = 0 → s.tb.toNat ≤ s.taqTime (bitsOf v 7 0) → ∃ t, goesTo
      (.gtTaqArmWrite m v) s t ∧ t.taqState (bitsOf v 7 0) = 1 ∧ t.rd GT_TAQ_ARM_STAT = BitVec.ofNat 32 (bitsOf v 7 0 + 0 * 2 ^ 8 + portBit m * 2 ^ 30
      + 2 ^ 31) &&& fieldBits GT_TAQ_ARM_STAT ∧ onlyChanges [GT_TAQ_ARM_STAT, GT_TAQ_STATE (bitsOf v 7 0)] [] s t) ∧
(∀ (m : Master) (v : Word) (s : State), reaches m s → s.armCheck (bitsOf v 7 0) false = 0 → s.taqTime (bitsOf v 7 0) < s.tb.toNat → s.on
      (GT_TAQ_TAG_late_drop (bitsOf v 7 0)) = true → ∃ t, goesTo (.gtTaqArmWrite m v) s t ∧ t.taqState (bitsOf v 7 0) = 4 ∧ t.bit (GT_TAQ_DONE (bitsOf
      v 7 0 / 32)) (bitsOf v 7 0 % 32) = true ∧ t.on GT_INT_STAT_taq_dropped = true ∧ onlyParts [.regs, .taq, .host, .sent] s t) ∧
(∀ (m : Master) (v : Word) (s : State), reaches m s → s.armCheck (bitsOf v 7 0) false ≠ 0 → ∃ t, goesTo (.gtTaqArmWrite m v) s t ∧ t.rd
      GT_TAQ_ARM_STAT = BitVec.ofNat 32 (bitsOf v 7 0 + s.armCheck (bitsOf v 7 0) false * 2 ^ 8 + portBit m * 2 ^ 30 + 2 ^ 31) &&& fieldBits
      GT_TAQ_ARM_STAT ∧ onlyChanges [GT_TAQ_ARM_STAT] [] s t) ∧
(∀ (m : Master) (v : Word) (s : State), reaches m s → guardOpen m s = true → s.armCheck (bitsOf v 7 0) true = 0 → s.tb.toNat ≤ s.taqTime (bitsOf v 7
      0) → ∃ t, goesTo (.gtTaqArmGWrite m v) s t ∧ t.taqState (bitsOf v 7 0) = 1 ∧ t.rd GT_TAQ_ARM_STAT = BitVec.ofNat 32 (bitsOf v 7 0 + 0 * 2 ^ 8 +
      portBit m * 2 ^ 30 + 2 ^ 31) &&& fieldBits GT_TAQ_ARM_STAT ∧ onlyChanges [GT_TAQ_ARM_STAT, GT_TAQ_STATE (bitsOf v 7 0)] [] s t) ∧
(∀ (i : Fin 256) (s : State), s.up → s.taqNext = some i.val → ∃ t, goesTo (.taqExecute) s t ∧ (t.power.inReset = true ∨ t.taqState i = (if
      s.taq.late.contains i.val then 3 else 2) ∧ t.bit (GT_TAQ_DONE (i / 32)) (i % 32) = true ∧ t.on GT_INT_STAT_taq_done = true ∧ t.get
      (GT_TAQ_XSEC_x_sec_lo i) = s.tb.sec % 2 ^ 32 ∧ t.get (GT_TAQ_XNS_x_ns i) = s.tb.ns % 2 ^ 30 ∧ t.on (GT_TAQ_XW2_x_suspect i) = (s.on
      TB_STAT_suspect || s.taq.suspect.contains i.val))) ∧
(∀ (i : Fin 256) (n : Fin 64) (s : State), s.up → s.taqNext = some i.val → s.get (GT_TAQ_ADDR_addr i) = SYS_VEC_MAP n → ∃ t, goesTo (.taqExecute) s t
      ∧ t.rd (SYS_VEC_MAP n) = ((s.rd (SYS_VEC_MAP n) &&& ~~~ s.rd (GT_TAQ_MASK i)) ||| (s.rd (GT_TAQ_VALUE i) &&& s.rd (GT_TAQ_MASK i))) &&& 0x3F ∧
      t.taqState i = (if s.taq.late.contains i.val then 3 else 2) ∧ (s.on PM_CTRL_run = false → onlyChanges [SYS_VEC_MAP n, GT_TAQ_XSEC i, GT_TAQ_XNS
      i, GT_TAQ_XW2 i, GT_TAQ_STATE i, GT_TAQ_DONE (i / 32), GT_INT_STAT, GT_TAQ_GRP_LAST] [.taq] s t)) ∧
(∀ (m : Master) (v : Word) (s : State), reaches m s → s.taqState (bitsOf v 7 0) = 1 → ∃ t, goesTo (.gtTaqCancelWrite m v) s t ∧ t.taqState (bitsOf v 7
      0) = 6 ∧ t.bit (GT_TAQ_DONE (bitsOf v 7 0 / 32)) (bitsOf v 7 0 % 32) = true ∧ onlyChanges [GT_TAQ_STATE (bitsOf v 7 0), GT_TAQ_DONE (bitsOf v 7
      0 / 32), GT_INT_STAT, GT_TAQ_GRP_LAST] [.taq] s t) ∧
(∀ (m : Master) (v : Word) (s : State), reaches m s → s.taqState (bitsOf v 7 0) ≠ 1 → ∃ t, goesTo (.gtTaqCancelWrite m v) s t ∧ onlyChanges [] [] s t) ∧
(∀ (m : Master) (v : Word) (s : State), reaches m s → ∃ t, goesTo (.gtTaqCancelGrpWrite m v) s t ∧ (∀ i : Nat, i < 256 → s.taqState i = 1 → s.taqGroup
      i = bitsOf v 15 0 → t.taqState i = 6 ∧ t.bit (GT_TAQ_DONE (i / 32)) (i % 32) = true) ∧ (∀ i : Nat, i < 256 → s.taqGroup i ≠ bitsOf v 15 0 →
      t.taqState i = s.taqState i) ∧ onlyParts [.regs, .taq, .host, .sent] s t)

/-- The registers of the time base stage an increment and a step, ask for a snapshot, clear TB_SUSPECT, and hand out transmit timestamps. -/
def Obligations.TimeBaseRegisters : Prop :=
(∀ (m : Master) (v : Word) (k : Nat) (s : State), reaches m s → snapSet m = some k → ∃ t, goesTo (.tbSnapWrite m v) s t ∧ t.time =
      { s.time with snaps := insertN k s.time.snaps } ∧ onlyChanges [] [.time] s t) ∧
(∀ (m : Master) (v : Word) (s : State), reaches m s → ∃ t, goesTo (.tbIncrLoWrite m v) s t ∧ t.time = { s.time with lo := v } ∧ onlyChanges [] [.time]
      s t) ∧
(∀ (m : Master) (v : Word) (s : State), reaches m s → s.tcState s.timeCh = 2 → s.on TB_OWN_VIOL_valid = false → ∃ t, goesTo (.tbIncrHiWrite m v) s t ∧
      t.on TB_OWN_VIOL_valid = true ∧ t.get TB_OWN_VIOL_port = portBit m ∧ t.on TB_INT_STAT_own_viol = true ∧ onlyChanges [TB_OWN_VIOL, TB_INT_STAT]
      [] s t) ∧
(∀ (m : Master) (v : Word) (s : State), reaches m s → s.tcState s.timeCh ≠ 2 → s.time.lo.toNat + bitsOf v 7 0 * 2 ^ 32 < incrMin ∨ incrMax <
      s.time.lo.toNat + bitsOf v 7 0 * 2 ^ 32 → ∃ t, goesTo (.tbIncrHiWrite m v) s t ∧ t.on TB_INT_STAT_incr_bad = true ∧ onlyChanges [TB_INT_STAT] []
      s t) ∧
(∀ (m : Master) (v : Word) (s : State), reaches m s → s.tcState s.timeCh ≠ 2 → incrMin ≤ s.time.lo.toNat + bitsOf v 7 0 * 2 ^ 32 → s.time.lo.toNat +
      bitsOf v 7 0 * 2 ^ 32 ≤ incrMax → ∃ t, goesTo (.tbIncrHiWrite m v) s t ∧ t.time =
      { s.time with incr := some (s.time.lo.toNat + bitsOf v 7 0 * 2 ^ 32) } ∧ onlyChanges [] [.time] s t) ∧
(∀ (m : Master) (v : Word) (s : State), reaches m s → guardOpen m s = true → bitOf v.toNat 0 = true → s.get TB_STEP_NS_ns ≤ 999999999 → ∃ t, goesTo
      (.tbStepGo m v) s t ∧ t.time =
      { s.time with step := some ((if s.on TB_STEP_NS_neg then -((((s.get TB_STEP_SEC_LO_sec_lo + s.get TB_STEP_W1_sec_hi * 2 ^ 32) * 1000000000 + s.get TB_STEP_NS_ns) * 2 ^ 32 + s.get TB_STEP_W1_frac * 2 ^ 16 : Nat) : Int) else ((((s.get TB_STEP_SEC_LO_sec_lo + s.get TB_STEP_W1_sec_hi * 2 ^ 32) * 1000000000 + s.get TB_STEP_NS_ns) * 2 ^ 32 + s.get TB_STEP_W1_frac * 2 ^ 16 : Nat) : Int)) + s.time.step.getD 0) }
      ∧ onlyChanges [] [.time] s t) ∧
(∀ (m : Master) (v : Word) (s : State), reaches m s → guardOpen m s = true → bitOf v.toNat 0 = true → 999999999 < s.get TB_STEP_NS_ns → ∃ t, goesTo
      (.tbStepGo m v) s t ∧ t.on TB_INT_STAT_step_bad = true ∧ onlyChanges [TB_INT_STAT] [] s t) ∧
(∀ (m : Master) (v : Word) (s : State), reaches m s → guardOpen m s = true → bitOf v.toNat 0 = true → s.rootLocked = true → ∃ t, goesTo
      (.tbSuspectClrWrite m v) s t ∧ t.on TB_STAT_suspect = false ∧ (s.on TB_STAT_suspect = true → t.on TB_STAT_cause_root = false ∧ t.on
      TB_STAT_cause_restart = false ∧ t.on TB_INT_STAT_suspect_clear = true) ∧ onlyChanges [TB_STAT, TB_INT_STAT] [] s t) ∧
(∀ (m : Master) (v : Word) (s : State), reaches m s → guardOpen m s = true → s.rootLocked = false → ∃ t, goesTo (.tbSuspectClrWrite m v) s t ∧
      onlyChanges [] [] s t) ∧
(∀ (m : Master) (p : Fin 48) (e : TxStamp) (l : List TxStamp) (s : State), reaches m s → p.val < s.lanes → s.txtsOwns m p = true → s.txts.get [] p = e
      :: l → ∃ t, goesTo (.tbTxtsRead m p) s t ∧ Sent.readData m (TB_TXTS p) (some (txWord e l.length)) ∈ t.sent ∧ t.txts.get [] p = l ∧ t.get
      (TB_TXTS_SEC_sec_lo p) = e.time.sec % 2 ^ 32 ∧ t.get (TB_TXTS_NS_ns p) = e.time.ns % 2 ^ 30 ∧ onlyChanges [TB_TXTS_SEC p, TB_TXTS_W2 p,
      TB_TXTS_NS p] [.txts] s t)

/-- On each tick TB takes its increment and a staged step, requested snapshots latch it, and cycle boundaries apply the shadows. -/
def Obligations.TheTimeTick : Prop :=
(∀ (s : State), s.power.vin = true ∨ s.power.keep = true → s.time.incr = none → s.time.step = none → s.time.jump = none → ∃ t, goesTo (.tbTick) s t ∧
      t.tb = s.tb.move s.tbIncr ∧ t.clk = s.clk + (if s.power.vin then 2 else 0) ∧ t.time =
      { s.time with snaps := [], atCycle := decide ((s.tb.move s.tbIncr).cycle ≠ s.tb.cycle) } ∧ (∀ k : Nat, k < 3 → s.time.snaps.contains k = true →
      t.get (TB_SNAP_SEC_LO_sec_lo k) = t.tb.sec % 2 ^ 32 ∧ t.get (TB_SNAP_NS_ns k) = t.tb.ns % 2 ^ 30 ∧ t.on (TB_SNAP_NS_suspect k) = s.on
      TB_STAT_suspect) ∧ onlyParts [.regs, .tb, .clk, .time, .taq, .free, .ou, .host, .sent] s t) ∧
(∀ (v : Nat) (s : State), s.power.vin = true ∨ s.power.keep = true → s.time.incr = some v → v < 2 ^ 40 → s.time.step = none → s.time.jump = none → ∃
      t, goesTo (.tbTick) s t ∧ t.tb = s.tb.move v ∧ t.tbIncr = v ∧ t.time.incr = none) ∧
(∀ (d : Int) (s : State), s.power.vin = true ∨ s.power.keep = true → s.time.incr = none → s.time.step = some d → s.time.jump = none → 0 ≤ ((s.tb.move
      s.tbIncr).toNat : Int) + d → ∃ t, goesTo (.tbTick) s t ∧ t.tb = (s.tb.move s.tbIncr).move d ∧ t.get TB_STEP_CNT_count = (s.get TB_STEP_CNT_count
      + 1) % 2 ^ 32 ∧ t.on TB_INT_STAT_step_done = true ∧ t.time.step = none ∧ t.time.jump = some (s.tb.move s.tbIncr, t.tb) ∧ onlyParts [.regs, .tb,
      .clk, .time, .taq, .free, .ou, .host, .sent] s t) ∧
(∀ (d : Int) (s : State), s.power.vin = true ∨ s.power.keep = true → s.time.incr = none → s.time.step = some d → s.time.jump = none → ((s.tb.move
      s.tbIncr).toNat : Int) + d < 0 → ∃ t, goesTo (.tbTick) s t ∧ t.tb = s.tb.move s.tbIncr ∧ t.rd TB_STEP_CNT = s.rd TB_STEP_CNT ∧ t.on
      TB_INT_STAT_step_bad = true ∧ t.time.step = none ∧ onlyParts [.regs, .tb, .clk, .time, .taq, .free, .ou, .host, .sent] s t) ∧
(∀ (a b : Time) (s : State), s.power.vin = true ∨ s.power.keep = true → s.time.incr = none → s.time.step = none → s.time.jump = some (a, b) → b.cycle
      ≤ a.cycle → (∀ p : Nat, p < 48 → s.stairOn p = false) → ∃ t, goesTo (.tbTick) s t ∧ t.tb = s.tb.move s.tbIncr ∧ t.time.jump = none ∧ t.pend =
      s.pend ∧ onlyParts [.regs, .tb, .clk, .time, .taq, .free, .ou, .host, .sent] s t) ∧
(∀ (x k : Nat) (v : Word) (a b : Time) (s : State), s.power.vin = true ∨ s.power.keep = true → s.time.incr = none → s.time.step = none → s.time.jump =
      some (a, b) → a.cycle < b.cycle → s.pend = [(x, v, k)] → x ∈ [TW_ELECT, TW_GAL_ASYM, PX_MAC_LO, PX_MAC_HI, PX_CAL_CFG] → k + 32 < s.clk → ∃ t,
      goesTo (.tbTick) s t ∧ t.tb = s.tb.move s.tbIncr ∧ t.time.jump = none ∧ t.rd x = v &&& fieldBits x ∧ t.pend = []) ∧
(∀ (s : State), s.power.vin = false → s.power.keep = false → ∃ t, goesTo (.tbTick) s t ∧ t = s) ∧
(∀ (a k : Nat) (v : Word) (egress : Stamp16) (s : State), s.up → s.time.atCycle = true → s.pend = [(a, v, k)] → a ∈ [TW_ELECT, TW_GAL_ASYM, PX_MAC_LO,
      PX_MAC_HI, PX_CAL_CFG] → k + 32 < s.clk → ∃ t, goesTo (.cycleBoundary egress) s t ∧ t.rd a = v &&& fieldBits a ∧ t.pend = []) ∧
(∀ (a k : Nat) (v : Word) (egress : Stamp16) (s : State), s.up → s.time.atCycle = true → s.pend = [(a, v, k)] → a ∈ [TW_ELECT, TW_GAL_ASYM, PX_MAC_LO,
      PX_MAC_HI, PX_CAL_CFG] → s.clk ≤ k + 32 → ∃ t, goesTo (.cycleBoundary egress) s t ∧ t.rd a = s.rd a ∧ t.pend = s.pend) ∧
(∀ (egress : Stamp16) (s : State), s.up → s.time.atCycle = false → ∃ t, goesTo (.cycleBoundary egress) s t ∧ t = s) ∧
(∀ (egress : Stamp16) (s : State), s.up → s.time.atCycle = true → ∃ t, goesTo (.cycleBoundary egress) s t ∧ (∀ c : Nat, c < s.chans → (t.retain.get
      Retain.empty c).stat = t.rd (TC_STAT c) ∧ (t.retain.get Retain.empty c).sel = t.selRef c ∧ (t.retain.get Retain.empty c).word = t.rd
      (TC_DCO_WORD c) ∧ (t.retain.get Retain.empty c).prop = (t.chanOf c).prop ∧ (t.retain.get Retain.empty c).integ = (t.chanOf c).integ ∧
      (t.retain.get Retain.empty c).absorbed = t.rd (TC_ABSORBED c) ∧ (t.retain.get Retain.empty c).trainedH = t.get (TC_HO_STAT_trained_h c) ∧
      (t.retain.get Retain.empty c).hist = (t.chanOf c).hist ∧ (t.tcState c = 3 → (t.retain.get Retain.empty c).model = (t.chanOf c).model)) ∧
      t.time.atCycle = false ∧ t.ft.deltas = [] ∧ t.ft.deltaOvf = false ∧ t.tb = s.tb ∧ t.clk = s.clk)

/-- Time-of-day messages are latched at the second boundary and sent, and received ones are checked, counted and qualify reference 61. -/
def Obligations.TimeOfDay : Prop :=
(∀ (s : State), s.up → bitOf (s.rd TB_TOD_CFG).toNat 4 = true → ∃ t, goesTo (.tbSecondBoundary) s t ∧ t.tod.cfg = s.rd TB_TOD_CFG ∧ t.tod.latched =
      some s.todApply.todMessage ∧ s.todApply.todMessage.length = 28 ∧ slice s.todApply.todMessage 0 4 = bytes [0x46, 0x59, 1, 1] ∧ beAt
      s.todApply.todMessage 26 2 = crc16 (slice s.todApply.todMessage 2 24) ∧ t.tod.seq = (s.tod.seq + 1) % 256 ∧ t.time.secStepped = false) ∧
(∀ (s : State), s.up → bitOf (s.rd TB_TOD_CFG).toNat 4 = false → ∃ t, goesTo (.tbSecondBoundary) s t ∧ t.tod.cfg = s.rd TB_TOD_CFG ∧ t.tod.latched =
      s.tod.latched ∧ t.tod.seq = s.tod.seq) ∧
(∀ (b : Bytes) (s : State), s.up → s.tod.latched = some b → ∃ t, goesTo (.todTxMessage) s t ∧ Sent.tod b ∈ t.sent ∧ t.tod =
      { s.tod with latched := none } ∧ onlyChanges [] [.tod] s t) ∧
(∀ (r : Fin 12) (s : State), s.up → s.tod.rxFrom r = true → ∃ t, goesTo (.refEdgeCapture r) s t ∧ t.tod = { s.tod with edge := some s.tb } ∧
      onlyChanges [] [.tod] s t) ∧
(∀ (b : Bytes) (ms : Nat) (s : State), s.up → s.tod.rxFrom (bitsOf s.tod.cfg 23 20) = true → b.length = 28 → slice b 0 2 = bytes [0x46, 0x59] →
      s.tod.edge = none ∨ ms < 1 ∨ 900 < ms → ∃ t, goesTo (.todRxMessage b ms) s t ∧ t.get TB_TOD_CNT_untimed = min 255 (s.get TB_TOD_CNT_untimed + 1)
      ∧ onlyChanges [TB_TOD_CNT] [] s t) ∧
(∀ (b : Bytes) (ms : Nat) (e : Time) (s : State), s.up → s.tod.rxFrom (bitsOf s.tod.cfg 23 20) = true → b.length = 28 → slice b 0 2 = bytes [0x46,
      0x59] → s.tod.edge = some e → 1 ≤ ms → ms ≤ 900 → beAt b 26 2 ≠ crc16 (slice b 2 24) ∨ byteAt b 3 ≠ 1 → s.tod.fails = 0 → ∃ t, goesTo
      (.todRxMessage b ms) s t ∧ t.get TB_TOD_CNT_crc_err = min 255 (s.get TB_TOD_CNT_crc_err + 1) ∧ t.tod.valid = 0 ∧ t.tod.fails = 1 ∧ t.tod.same =
      0 ∧ onlyChanges [TB_TOD_CNT] [.tod] s t) ∧
(∀ (b : Bytes) (ms : Nat) (e : Time) (s : State), s.up → s.tod.rxFrom (bitsOf s.tod.cfg 23 20) = true → b.length = 28 → slice b 0 2 = bytes [0x46,
      0x59] → s.tod.edge = some e → 1 ≤ ms → ms ≤ 900 → beAt b 26 2 = crc16 (slice b 2 24) → byteAt b 3 = 1 → s.tod.fails = 0 → 2 ≤ s.tod.valid → ∃ t,
      goesTo (.todRxMessage b ms) s t ∧ t.on TB_TOD_STAT_rx_qual = true ∧ t.tod.valid = 3 ∧ t.get TB_TOD_STAT_sec_diff = twos 16 (satSigned 16 ((beAt
      b 6 6 : Int) - edgeSecond e))) ∧
(∀ (s : State), s.up → s.tod.rxFrom (bitsOf s.tod.cfg 23 20) = true → s.tod.missed = 0 → ∃ t, goesTo (.todMissing) s t ∧ t.get TB_TOD_CNT_missing =
      min 255 (s.get TB_TOD_CNT_missing + 1) ∧ t.tod = { s.tod with valid := 0, same := 0, missed := 1 } ∧ onlyChanges [TB_TOD_CNT] [.tod] s t) ∧
(∀ (s : State), s.up → s.tod.rxFrom (bitsOf s.tod.cfg 23 20) = true → 1 ≤ s.tod.missed → s.on TB_TOD_STAT_rx_fault = false → ∃ t, goesTo (.todMissing)
      s t ∧ t.on TB_TOD_STAT_rx_fault = true ∧ t.on TB_TOD_STAT_rx_qual = false ∧ t.on TB_INT_STAT_tod_lasting = true) ∧
(∀ (n : Fin 4) (r : MbReq) (s : State), serving n 0x2004 r s → r.payload.length = 8 → byteAt r.payload 0 ≤ 7 → byteAt r.payload 1 ≤ 3 → leAt r.payload
      2 2 ≤ 511 → byteAt r.payload 4 ≤ 15 → byteAt r.payload 5 ≤ 1 → leAt r.payload 6 2 = 0 → ∃ t, goesTo (.todConfig n) s t ∧ answered n r [] t ∧
      t.get TB_TOD_CFG_baud = byteAt r.payload 0 ∧ t.get TB_TOD_CFG_tx_delay_ms = leAt r.payload 2 2 ∧ t.get TB_TOD_CFG_rx_ref = byteAt r.payload 4 ∧
      t.tod = { s.tod with offerNext := decide (byteAt r.payload 5 = 1) } ∧ onlyParts [.regs, .tod, .mbox, .mp, .host, .sent] s t)

/-- The PTP opcodes configure and report the instance of the MP, whose stack takes PTP messages from the CPU queues and sends its own. -/
def Obligations.PtpInstance : Prop :=
(∀ (n : Fin 4) (r : MbReq) (s : State), serving n 0x2000 r s → r.payload.length = 16 → byteAt r.payload 0 ≤ 3 → byteAt r.payload 2 ≤ 3 → byteAt
      r.payload 5 ≠ 0 → byteAt r.payload 7 ≤ 3 → 100 ≤ leAt r.payload 8 4 → leAt r.payload 8 4 ≤ 1000000000 → leAt r.payload 12 4 = 0 → domainOk
      (byteAt r.payload 0) (byteAt r.payload 1) = true → clockTypeOk (byteAt r.payload 0) (byteAt r.payload 2) = true → ∃ t, goesTo (.ptpSetProfile n)
      s t ∧ answered n r [] t ∧ t.ptp.profile = byteAt r.payload 0 ∧ t.ptp.domain = byteAt r.payload 1 ∧ t.ptp.clockType = byteAt r.payload 2 ∧
      t.ptp.prio1 = byteAt r.payload 3 ∧ t.ptp.prio2 = byteAt r.payload 4 ∧ t.ptp.localPrio = byteAt r.payload 5 ∧ t.ptp.gmClass = byteAt r.payload 6
      ∧ t.ptp.stepNs = leAt r.payload 8 4 ∧ t.ptp.twoStep = bitOf (byteAt r.payload 7) 0 ∧ t.ptp.steps = bitOf (byteAt r.payload 7) 1 ∧ t.ptp.servo =
      0 ∧ (∀ p : Nat, p < 48 → t.ptpOf p = (s.ptpOf p).map (fun x => { x with st := psInitializing })) ∧ t.refActive 60 = false ∧ onlyParts [.regs,
      .ptp, .smp, .px, .chan, .time, .mbox, .mp, .host, .sent] s t) ∧
(∀ (n : Fin 4) (r : MbReq) (p : Fin 48) (s : State), serving n 0x2001 r s → r.payload.length = 16 → byteAt r.payload 0 = p.val → p.val < s.lanes →
      byteAt r.payload 1 = 1 → byteAt r.payload 2 ≤ 3 → byteAt r.payload 3 = 1 ∨ (byteAt r.payload 3 = 2 ∧ s.on (PX_LINK_CTRL_enable p) = false) → -7
      ≤ signed 8 (byteAt r.payload 4) → signed 8 (byteAt r.payload 4) ≤ 0 → -7 ≤ signed 8 (byteAt r.payload 5) → signed 8 (byteAt r.payload 5) ≤ 0 →
      -3 ≤ signed 8 (byteAt r.payload 6) → signed 8 (byteAt r.payload 6) ≤ 3 → byteAt r.payload 7 ≤ 2 → byteAt r.payload 8 ≠ 0 → byteAt r.payload 9 ≤
      3 → leAt r.payload 10 2 = 0 → ∃ t, goesTo (.ptpPortConfig n) s t ∧ answered n r [] t ∧ (t.ptpOf p).any (fun x => decide (x.transport = byteAt
      r.payload 2 ∧ x.delay = byteAt r.payload 3 ∧ x.logSync = signed 8 (byteAt r.payload 4) ∧ x.role = byteAt r.payload 7 ∧ x.prio = byteAt r.payload
      8 ∧ x.asym = signed 32 (leAt r.payload 12 4))) = true ∧ t.get (TB_PTP_PORT_mode p) = (if s.ptp.clockType = 3 then 2 else 1) ∧ t.on
      (TB_PTP_PORT_txts_owner p) = true ∧ t.get (TB_PTP_PORT_one_step p) = byteAt r.payload 9 % 2 ∧ bitsOf (t.shadow (PR_PORT_CFG p))
      (PR_PORT_CFG_ptp_trap p).hi (PR_PORT_CFG_ptp_trap p).lo = 1 ∧ onlyParts [.regs, .pend, .ptp, .px, .txts, .mbox, .mp, .host, .sent] s t) ∧
(∀ (n : Fin 4) (r : MbReq) (p : Fin 48) (s : State), serving n 0x2001 r s → r.payload.length = 16 → byteAt r.payload 0 = p.val → p.val < s.lanes →
      byteAt r.payload 1 = 0 → byteAt r.payload 2 ≤ 3 → byteAt r.payload 3 = 1 → -7 ≤ signed 8 (byteAt r.payload 4) → signed 8 (byteAt r.payload 4) ≤
      0 → -7 ≤ signed 8 (byteAt r.payload 5) → signed 8 (byteAt r.payload 5) ≤ 0 → -3 ≤ signed 8 (byteAt r.payload 6) → signed 8 (byteAt r.payload 6)
      ≤ 3 → byteAt r.payload 7 ≤ 2 → byteAt r.payload 8 ≠ 0 → byteAt r.payload 9 ≤ 3 → leAt r.payload 10 2 = 0 → ∃ t, goesTo (.ptpPortConfig n) s t ∧
      answered n r [] t ∧ t.ptpOf p = none ∧ t.get (TB_PTP_PORT_mode p) = 0 ∧ t.on (TB_PTP_PORT_txts_owner p) = false ∧ bitsOf (t.shadow (PR_PORT_CFG
      p)) (PR_PORT_CFG_ptp_trap p).hi (PR_PORT_CFG_ptp_trap p).lo = 0) ∧
(∀ (n : Fin 4) (r : MbReq) (p : Fin 48) (s : State), serving n 0x2002 r s → r.payload.length = 4 → byteAt r.payload 0 = p.val → p.val < s.lanes → leAt
      r.payload 1 3 = 0 → ∃ t, goesTo (.ptpGetStatus n) s t ∧ answered n r (bytes [((s.ptpOf p).map (·.st)).getD 3, s.ptp.servo] ++ leBytes 2
      s.ptp.data.stepsRemoved ++ leBytes 8 (twos 64 s.ptp.data.offset) ++ leBytes 8 (twos 64 s.ptp.data.delay) ++ s.ptp.data.parent ++ bytes
      [s.ptp.data.gmClass, flag (s.on TB_STAT_suspect) + 2 * flag (s.on (PX_LINK_CTRL_enable p))]) t ∧ onlyParts [.regs, .mbox, .mp, .host, .sent] s
      t) ∧
(∀ (n : Fin 4) (r : MbReq) (b : Bytes) (s : State), serving n 0x2003 r s → r.payload.length = 4 → byteAt r.payload 0 ≤ 3 ∨ (byteAt r.payload 0 = 4 ∧
      s.portCheck (byteAt r.payload 1) = none) → leAt r.payload 2 2 = 0 → s.dataset (byteAt r.payload 0) (byteAt r.payload 1) = some b → ∃ t, goesTo
      (.ptpGetDataset n) s t ∧ answered n r b t ∧ onlyParts [.regs, .mbox, .mp, .host, .sent] s t) ∧
(∀ (c : Fin 32) (ports : List (Fin 48 × Nat × Int)) (after : PtpData) (fresh : Option (Fin 65536)) (ql : Option (Fin 16)) (grants : Fin 65 × Fin 5) (x
      : Pkt) (s : State), s.up → s.mpFrame c = some x → x.sysClass = 1 → s.ptpTakes x.port (s.ptpMsg x) = true → byteAt (s.ptpMsg x) 0 % 16 ≠ 13 → ∃
      t, goesTo (.ptpMessageReceive c ports after fresh (ql, grants)) s t ∧ t.ptp.data = (if fresh.isSome then
      { after with offset := after.offset - ((s.ptpOf x.port).map (·.asym)).getD 0 } else after) ∧ t.ptp.mgmt = s.ptp.mgmt ∧ (∀ n : Fin 65536, fresh =
      some n → s.linkFeeds x.port = false → n.val = s.get TB_STEP_CNT_count → t.ptp.servo = 1 ∨ t.ptp.servo = 2) ∧ (fresh = none → t.ptp.servo =
      s.ptp.servo) ∧ (s.ptp.profile = 3 → byteAt (s.ptpMsg x) 0 % 16 = 12 → t.ptp.grantees = grants.1 ∧ t.ptp.grantors = grants.2) ∧ onlyParts [.regs,
      .pend, .bw, .esmc, .free, .mbox, .mp, .ptp, .px, .sc, .smp, .time, .host, .sent] s t) ∧
(∀ (c : Fin 32) (ports : List (Fin 48 × Nat × Int)) (after : PtpData) (fresh : Option (Fin 65536)) (ql : Option (Fin 16)) (grants : Fin 65 × Fin 5) (x
      : Pkt) (s : State), s.up → s.mpFrame c = some x → x.sysClass = 1 → s.ptpTakes x.port (s.ptpMsg x) = true → byteAt (s.ptpMsg x) 0 % 16 = 13 → ∃
      t, goesTo (.ptpMessageReceive c ports after fresh (ql, grants)) s t ∧ t.ptp = { s.ptp with mgmt := s.ptp.mgmt + 1 } ∧ onlyParts [.regs, .ptp,
      .sc, .host, .sent] s t) ∧
(∀ (c : Fin 32) (ports : List (Fin 48 × Nat × Int)) (after : PtpData) (fresh : Option (Fin 65536)) (ql : Option (Fin 16)) (grants : Fin 65 × Fin 5) (x
      : Pkt) (s : State), s.up → s.mpFrame c = some x → x.sysClass = 1 → s.ptpTakes x.port (s.ptpMsg x) = false → ∃ t, goesTo (.ptpMessageReceive c
      ports after fresh (ql, grants)) s t ∧ t.ptp = s.ptp ∧ onlyParts [.regs, .sc, .host, .sent] s t) ∧
(∀ (p : Fin 48) (tc : Fin 8) (hdr msg : Bytes) (id : Option (Fin 65536)) (dbm : Bool) (x : PtpPort) (b : Bytes) (s : State), s.up → s.ptpOf p = some x
      → s.stacksRun = true → s.ptpSends p x msg = true → b = hdr ++ s.announced msg ++ zeros (60 - (hdr ++ s.announced msg).length) → s.portOff p =
      false → s.noMac p = false → s.on (PT_STAT_link_up p) = true → b.length + 4 ≤ s.get (PT_MAXFRM_max p) → (s.queueOf (424 + p)).length < 64 →
      cellsOf (b.length + 4) ≤ s.get SC_BUF_STAT_sram_free → ∃ t, goesTo (.ptpMessageSend p tc hdr msg id dbm) s t ∧ t.queueOf (424 + p) = s.queueOf
      (424 + p) ++ [(s.sc.nextId, s.clk)] ∧ (t.pkt s.sc.nextId).bytes = b ∧ (t.pkt s.sc.nextId).tsReq = id.map (·.val) ∧ t.sc.nextId = s.sc.nextId + 1
      ∧ onlyParts [.regs, .sc, .txts, .free, .host, .sent] s t)

/-- FPL links send HELLO and PING, answer PING, take PONG, and open, fall back and count by what they receive. -/
def Obligations.FplMessages : Prop :=
(∀ (p : Fin 48) (d : Bool) (s : State), s.up → s.linkState p = 1 → (s.linkOf p).role = some d → s.on (LN_STAT_clk_valid p) = true → s.portHere p =
      true → classTRoom p 64 s = true → ∃ t, goesTo (.fplHelloSend p) s t ∧ classTLast p s t ∧ (t.pkt s.sc.nextId).bytes = s.fplFrame p (s.fplMsg p 0
      (s.fplFlags p none) (s.linkOf p).msgs (s.fplLog p).1 (tlvBytes 1 (beBytes 2 (3 + 4 * (if d then 2 else 1)) ++ beBytes 2 26 ++ [0, 0] ++ beBytes
      2 (if s.on (PX_PAIR_valid p) then s.get (PX_PAIR_port p) else 0xFFFF)))) ∧ (d = false → (s.fplLog p).1 = s.get (PX_LINK_CTRL_interval_log p)) ∧
      (d = true → (s.linkOf p).farLog.all (fun k => decide ((s.fplLog p).1 = k)) = true) ∧ t.linkOf p =
      { s.linkOf p with msgs := ((s.linkOf p).msgs + 1) % 2 ^ 16 } ∧ onlyParts [.regs, .px, .sc, .txts, .free, .host, .sent] s t) ∧
(∀ (p : Fin 48) (b : Bytes) (s : State), s.up → s.fplTakes p = true → s.fplRead b = none → ∃ t, goesTo (.fplHelloReceive p b) s t ∧ t.get
      (PX_CNT_DISC_bad_msg p) = min 63 (s.get (PX_CNT_DISC_bad_msg p) + 1) ∧ t.on PX_INT_STAT_discard = true ∧ t.bit2 PX_EVT_LO PX_EVT_HI p = true ∧
      onlyChanges [PX_CNT_DISC p, PX_INT_STAT, PX_EVT_LO, PX_EVT_HI] [] s t) ∧
(∀ (p : Fin 48) (b : Bytes) (m : FplMsg) (d : Bool) (s : State), s.up → s.fplTakes p = true → s.fplRead b = some m → m.kind = 0 → s.linkState p = 1 →
      (s.linkOf p).role = some d → m.node ≠ s.get PX_CTRL_node_id → m.node < 2 ^ 16 → m.port < 2 ^ 8 → m.claims = (if d then 1 else 2) → ∃ t, goesTo
      (.fplHelloReceive p b) s t ∧ t.linkState p = 2 ∧ t.get (PX_FAR_node p) = m.node ∧ t.get (PX_FAR_port p) = m.port ∧ t.on (PX_STAT_role_conflict
      p) = false ∧ (t.linkOf p).far = m.flags ∧ (bitOf m.flags 0 = false → (t.linkOf p).farLog = some m.log) ∧ t.on PX_INT_STAT_state_chg = true ∧
      t.bit2 PX_EVT_LO PX_EVT_HI p = true) ∧
(∀ (p : Fin 48) (b : Bytes) (m : FplMsg) (d : Bool) (s : State), s.up → s.fplTakes p = true → s.fplRead b = some m → m.kind = 0 → s.linkState p = 1 →
      (s.linkOf p).role = some d → m.node ≠ s.get PX_CTRL_node_id → m.claims = (if d then 2 else 1) → ∃ t, goesTo (.fplHelloReceive p b) s t ∧
      t.linkState p = 1 ∧ t.on (PX_STAT_role_conflict p) = true ∧ onlyChanges [PX_STAT p, PX_INT_STAT, PX_EVT_LO, PX_EVT_HI] [] s t) ∧
(∀ (p : Fin 48) (b : Bytes) (m : FplMsg) (s : State), s.up → s.fplTakes p = true → s.fplRead b = some m → m.kind = 3 → ∃ t, goesTo (.fplByeReceive p
      b) s t ∧ t.linkState p = 1 ∧ t.on (PX_STAT_cal_stale p) = true ∧ (t.linkOf p).recs = [] ∧ (t.linkOf p).pub = none) ∧
(∀ (p : Fin 48) (rep : Option Exch) (s : State), s.up → s.linkUp p = true → (s.linkOf p).role = some false → classTRoom p 128 s = true → rep =
      (s.linkOf p).recs.find? (fun e => e.b.isSome && !e.reported) → s.tb.cycle % 2 ^ s.get (PX_LINK_CTRL_interval_log p) = 0 → ∃ t, goesTo
      (.fplPingSend p s.tb.cycle) s t ∧ classTLast p s t ∧ (t.pkt s.sc.nextId).bytes = s.fplFrame p (s.fplMsg p 1 (s.fplFlags p rep) (s.linkOf p).next
      (s.get (PX_LINK_CTRL_interval_log p)) (tlvBytes 3 (phaseBytes (rep.bind (·.psi)) ++ phaseBytes (rep.bind (·.chi))) ++ ((rep.map (fun e =>
      tlvBytes 2 (beBytes 2 e.seq ++ [0, 0] ++ stampBytes e.a ++ stampBytes (e.b.getD 0)))).getD []))) ∧ (t.pkt s.sc.nextId).fpl = some ((s.linkOf
      p).next, false) ∧ (t.linkOf p).next = ((s.linkOf p).next + 1) % 2 ^ 16 ∧ (rep = none → (t.linkOf p).recs = (s.linkOf p).recs) ∧ onlyParts
      [.regs, .px, .sc, .txts, .free, .host, .sent] s t) ∧
(∀ (p : Fin 48) (lead q id since n : Nat) (rest : List (Nat × Nat)) (e : Edited) (s1 : State) (s : State), s.up → s.maySend p = true →
      s.sc.flowOut.get [] p = [] → (s.noFit p).serve p (((s.noFit p).tb.move (((lead * 2 ^ 16 : Nat) : Int) + (s.noFit p).adj (PT_TS_EGR_ADJ
      p))).fifths) = (some q, s1) → s1.queueOf q = (id, since) :: rest → s1.edit (s1.pkt id) p (s1.copyOf id q) = .inr e → (s1.pkt id).whole = true →
      s1.loopOf p = 0 → (s1.pkt id).fpl = some (n, false) → s1.linkUp p = true → ∃ t, goesTo (.frameTransmit p lead [] []) s t ∧ (t.linkOf
      p).recs.head?.map (fun x => (x.seq, x.a, x.b, x.steps)) = some (n, (((s.tb.move (((lead * 2 ^ 16 : Nat) : Int) + s.adj (PT_TS_EGR_ADJ p))).toNat
      / 2 ^ 16 : Nat) : Int), none, s.get TB_STEP_CNT_count)) ∧
(∀ (p : Fin 48) (b : Bytes) (m : FplMsg) (t2 : Int) (frac : Fin 65536) (s : State), s.up → s.fplTakes p = true → s.fplRead b = some m → m.kind = 1 →
      s.linkUp p = true → s.get (PX_FAR_node p) = m.node → s.get (PX_FAR_port p) = m.port → s.linkDown p = true → classTRoom p 128 s = true → m.tlv 2
      28 = none → ∃ t, goesTo (.fplPingReceive p b t2 frac) s t ∧ (t.linkOf p).recs.head? = some ⟨m.seq, cycleOf (65536 * t2 + frac.val), 65536 * t2 +
      frac.val, none, none, none, s.get TB_STEP_CNT_count, true⟩ ∧ (t.linkOf p).missed = false ∧ classTLast p s t ∧ (t.pkt s.sc.nextId).fpl = some
      (m.seq, true) ∧ onlyParts [.regs, .px, .sc, .txts, .free, .host, .sent] s t) ∧
(∀ (p : Fin 48) (b : Bytes) (m : FplMsg) (t2 t3a : Int) (frac : Fin 65536) (x ph : Bytes) (e : Exch) (s1 : State) (s : State), s.up → s.fplTakes p =
      true → s.fplRead b = some m → m.kind = 1 → s.linkUp p = true → s.get (PX_FAR_node p) = m.node → s.get (PX_FAR_port p) = m.port → s.linkDown p =
      true → m.tlv 2 28 = some x → m.tlv 3 8 = some ph → s1 = (s.farMessage p m).2 → (s1.linkOf p).recs.find? (fun e => decide (e.seq = beAt x 0 2)) =
      some e → e.b = some t3a → s.rootLocked = true → bitOf m.flags 4 = false → bitOf m.flags 2 = false → e.steps = s.get TB_STEP_CNT_count → (phaseAt
      ph 0).isSome = true → (phaseAt ph 4).isSome = true → e.psi.isSome = true → e.chi.isSome = true → ∃ t, goesTo (.fplPingReceive p b t2 frac) s t ∧
      (t.linkOf p).pub = some ⟨e.seq, (solve (readingsOf e t3a x ph) (s1.asymOf p) (s1.fineLink p)).rt / 10, (solve (readingsOf e t3a x ph) (s1.asymOf
      p) (s1.fineLink p)).delay / 10, s1.asymOf p, (solve (readingsOf e t3a x ph) (s1.asymOf p) (s1.fineLink p)).off / 10, s1.linkFeeds p, e.steps⟩ ∧
      t.get (PX_CNT_EXCH_count p) = min (2 ^ 32 - 1) (s.get (PX_CNT_EXCH_count p) + 1)) ∧
(∀ (p : Fin 48) (b : Bytes) (m : FplMsg) (t4 : Int) (r ph : Bytes) (s : State), s.up → s.fplTakes p = true → s.fplRead b = some m → m.kind = 2 →
      s.linkUp p = true → s.get (PX_FAR_node p) = m.node → s.get (PX_FAR_port p) = m.port → (s.linkOf p).role = some false → s.rootLocked = true →
      m.tlv 4 28 = some r → m.tlv 3 8 = some ph → bitOf m.flags 4 = false → (s.linkOf p).recs.all (fun e => decide (e.seq ≠ beAt r 0 2) || decide
      (e.steps = s.get TB_STEP_CNT_count)) = true → ∃ t, goesTo (.fplPongReceive p b t4) s t ∧ (t.linkOf p).pub = some ⟨beAt r 0 2, signed 64 (beAt r
      4 8), signed 64 (beAt r 12 8), signed 64 (beAt r 20 8), 0, false, 0⟩ ∧ (t.linkOf p).missed = false ∧ t.get (PX_CNT_EXCH_count p) = min (2 ^ 32 -
      1) (s.get (PX_CNT_EXCH_count p) + 1) ∧ onlyParts [.regs, .px, .host, .sent] s t) ∧
(∀ (p : Fin 48) (b : Bytes) (m : FplMsg) (t4 : Int) (r ph : Bytes) (s : State), s.up → s.fplTakes p = true → s.fplRead b = some m → m.kind = 2 →
      s.linkUp p = true → s.get (PX_FAR_node p) = m.node → s.get (PX_FAR_port p) = m.port → (s.linkOf p).role = some false → s.rootLocked = true →
      m.tlv 4 28 = some r → m.tlv 3 8 = some ph → bitOf m.flags 4 = true → ∃ t, goesTo (.fplPongReceive p b t4) s t ∧ (t.linkOf p).pub = (s.linkOf
      p).pub ∧ t.get (PX_CNT_DISC_stepped p) = min 63 (s.get (PX_CNT_DISC_stepped p) + 1) ∧ t.on PX_INT_STAT_discard = true ∧ t.bit2 PX_EVT_LO
      PX_EVT_HI p = true ∧ onlyParts [.regs, .px, .host, .sent] s t) ∧
(∀ (p : Fin 48) (s : State), s.up → s.linkUp p = true → (s.linkOf p).farCal.all (fun k => decide (k + 6250000 < s.clk)) = true → (s.linkOf p).missed =
      false → ∃ t, goesTo (.fplExchangeMiss p) s t ∧ t.get (PX_CNT_MISS_transient p) = min 0xFFFF (s.get (PX_CNT_MISS_transient p) + 1) ∧ t.on
      PX_INT_STAT_miss_transient = true ∧ t.bit2 PX_EVT_LO PX_EVT_HI p = true ∧ onlyParts [.regs, .px, .hl, .mbox, .mp, .host, .sent] s t) ∧
(∀ (p : Fin 48) (s : State), s.up → s.linkUp p = true → (s.linkOf p).farCal.all (fun k => decide (k + 6250000 < s.clk)) = true → (s.linkOf p).missed =
      true → ∃ t, goesTo (.fplExchangeMiss p) s t ∧ t.get (PX_CNT_MISS_lasting p) = min 0xFFFF (s.get (PX_CNT_MISS_lasting p) + 1) ∧ t.on
      PX_INT_STAT_miss_lasting = true ∧ t.linkState p = 1 ∧ t.on (PX_STAT_cal_stale p) = true ∧ (t.linkOf p).lasting = min 0xFFFF ((s.linkOf
      p).lasting + 1) ∧ onlyParts [.regs, .px, .hl, .mbox, .mp, .host, .sent] s t) ∧
(∀ (p : Fin 48) (k : Nat) (s : State), s.up → (s.linkOf p).farCal = some k → s.clk ≤ k + 6250000 → ∃ t, goesTo (.fplExchangeMiss p) s t ∧ t = s)

/-- A link calibrates itself, publishes its phases and results, and delivers the reference while its lease holds. -/
def Obligations.LinkResults : Prop :=
(∀ (p : Fin 48) (s : State), s.up → s.calDue p = true → ∃ t, goesTo (.fplCalibrationStart p) s t ∧ t.linkState p = 3 ∧ t.on PX_INT_STAT_state_chg =
      true ∧ t.bit2 PX_EVT_LO PX_EVT_HI p = true ∧ onlyParts [.regs, .px, .host, .sent] s t) ∧
(∀ (p : Fin 48) (lTx lRx residual : Nat) (s : State), s.up → s.linkState p = 3 → (s.linkOf p).calTold = true → lTx < 2 ^ 32 → lRx < 2 ^ 32 → ∃ t,
      goesTo (.fplCalibrationEnd p lTx lRx residual) s t ∧ t.get (PX_CAL_TX_l_tx p) = lTx ∧ t.get (PX_CAL_RX_l_rx p) = lRx ∧ t.get (PX_CAL_Q_residual
      p) = min 0xFFFF residual ∧ t.on (PX_STAT_cal_valid p) = true ∧ t.on (PX_STAT_cal_stale p) = false ∧ t.linkState p = 2 ∧ t.on
      PX_INT_STAT_cal_done = true ∧ onlyParts [.regs, .px, .mbox, .mp, .host, .sent] s t) ∧
(∀ (p : Fin 48) (lTx lRx residual : Nat) (n : Fin 4) (q : MbReq) (s : State), s.up → s.linkState p = 3 → (s.linkOf p).calTold = true → awaiting n
      0x2101 q s → byteAt q.payload 0 = p.val → ∃ t, goesTo (.fplCalibrationEnd p lTx lRx residual) s t ∧ answered n q (leBytes 4 lTx ++ leBytes 4 lRx
      ++ leBytes 2 (min 0xFFFF residual) ++ leBytes 2 (twos 16 s.lid)) t) ∧
(∀ (v : List (Fin 48 × Fin 16384 × Fin 16384 × Nat)) (l : Fin 48) (x y : Fin 16384) (z : Nat) (r : PxResult) (s : State), s.up → l.val < s.lanes →
      s.upper l = false → v.find? (fun e => decide (e.1.val = l.val)) = some (l, x, y, z) → s.on (LN_STAT_clk_valid l) = true → s.rootLocked = true →
      (s.linkOf l).pub = some r → s.on TB_STAT_cause_root = false → ∃ t, goesTo (.pxPublish v) s t ∧ t.get (PX_PHASE_TX_psi l) = (s.phases l (x, y,
      z)).1 ∧ t.get (PX_PHASE_RX_chi l) = (s.phases l (x, y, z)).2 ∧ t.on (PX_PHASE_TX_valid l) = true ∧ t.on (PX_PHASE_RX_valid l) = true ∧ t.get
      (PX_SEQ_m l) = r.m % 2 ^ 16 ∧ t.rd64 (PX_OFFSET_LO l) (PX_OFFSET_HI l) = twos 64 r.off ∧ t.rd64 (PX_RT_LO l) (PX_RT_HI l) = twos 64 r.rt ∧
      (t.linkOf l).pub = none ∧ (r.deliver = true → s.on PX_REF_STAT_lease_ok = true → s.linkDown l = true → s.get PX_REF_STAT_link = l → t.smp.ofs60
      = some r.off ∧ t.smp.from60 = r.steps) ∧ onlyParts [.regs, .px, .smp, .host, .sent] s t) ∧
(∀ (v : List (Fin 48 × Fin 16384 × Fin 16384 × Nat)) (l : Fin 48) (s : State), s.up → l.val < s.lanes → s.upper l = false → v.find? (fun e => decide
      (e.1.val = l.val)) = none ∨ s.on (LN_STAT_clk_valid l) = false ∨ s.rootLocked = false → ∃ t, goesTo (.pxPublish v) s t ∧ t.on (PX_PHASE_TX_valid
      l) = false ∧ t.on (PX_PHASE_RX_valid l) = false ∧ t.on (PX_STAT_syntonised l) = false ∧ (t.linkOf l).chi = none ∧ onlyParts [.regs, .px, .smp,
      .host, .sent] s t) ∧
(∀ (x y : Fin 48) (s : State), s.up → s.paired x y = true → s.linkState x = 4 → s.linkState y = 4 → 0 < (s.linkOf x).nRt → 0 < (s.linkOf y).nRt →
      ((s.get (PX_WL_RX_w x) : Int) + (s.get (PX_WL_TX_w x) : Int) - ((s.get (PX_WL_RX_w y) : Int) + (s.get (PX_WL_TX_w y) : Int))) ≠ 0 → ∃ t, goesTo
      (.asymPairWindow x y) s t ∧ (t.linkOf x).pair = satSigned 32 (((s.linkOf x).sumRt / ((s.linkOf x).nRt : Int) - (s.linkOf y).sumRt / ((s.linkOf
      y).nRt : Int)) * ((s.get (PX_WL_RX_w x) : Int) - (s.get (PX_WL_TX_w x) : Int)) / ((s.get (PX_WL_RX_w x) : Int) + (s.get (PX_WL_TX_w x) : Int) -
      ((s.get (PX_WL_RX_w y) : Int) + (s.get (PX_WL_TX_w y) : Int)))) ∧ (t.linkOf y).pair = satSigned 32 (((s.linkOf x).sumRt / ((s.linkOf x).nRt :
      Int) - (s.linkOf y).sumRt / ((s.linkOf y).nRt : Int)) * ((s.get (PX_WL_RX_w y) : Int) - (s.get (PX_WL_TX_w y) : Int)) / ((s.get (PX_WL_RX_w x) :
      Int) + (s.get (PX_WL_TX_w x) : Int) - ((s.get (PX_WL_RX_w y) : Int) + (s.get (PX_WL_TX_w y) : Int)))) ∧ t.on (PX_STAT_asym_stale x) = false ∧
      t.on (PX_STAT_asym_stale y) = false ∧ (t.linkOf x).nRt = 0 ∧ t.on PX_INT_STAT_asym_upd = true ∧ onlyChanges [PX_STAT x, PX_STAT y, PX_INT_STAT,
      PX_EVT_LO, PX_EVT_HI] [.px, .tw] s t) ∧
(∀ (m : Master) (v : Word) (s : State), reaches m s → ∃ t, goesTo (.pxRefRenewWrite m v) s t ∧ t.on PX_REF_STAT_lease_ok = true ∧ t.on
      PX_REF_STAT_delivering = (decide (s.get PX_REF_STAT_link < s.lanes) && s.linkFeeds (s.get PX_REF_STAT_link) && s.linkDown (s.get
      PX_REF_STAT_link)) ∧ onlyParts [.regs, .host, .sent] s t) ∧
(∀ (s : State), s.up → s.on PX_REF_STAT_lease_ok = true → ∃ t, goesTo (.leaseExpiry) s t ∧ t.on PX_REF_STAT_lease_ok = false ∧ t.on
      PX_REF_STAT_delivering = false ∧ t.on PX_INT_STAT_lease_exp = true ∧ onlyParts [.regs, .host, .sent] s t)

/-- PX_LINK_ENABLE, PX_CALIBRATE, PX_GET_LINK and PX_SET_ASYM configure, calibrate and report a link. -/
def Obligations.LinkOpcodes : Prop :=
(∀ (n : Fin 4) (r : MbReq) (p : Fin 48) (s : State), serving n 0x2100 r s → r.payload.length = 8 → byteAt r.payload 0 = p.val → p.val < s.lanes →
      byteAt r.payload 1 ≤ 1 → byteAt r.payload 2 ≤ 3 → byteAt r.payload 3 ≤ 7 → byteAt r.payload 4 ≤ 1 → leAt r.payload 5 3 = 0 → byteAt r.payload 1
      = 0 ∨ s.pdelay p = false → byteAt r.payload 2 < 2 ∨ s.ptpPort p = true → ∃ t, goesTo (.pxLinkEnable n) s t ∧ answered n r [] t ∧ staged t
      (PX_LINK_CTRL_enable p) = byteAt r.payload 1 ∧ staged t (PX_LINK_CTRL_role p) = byteAt r.payload 2 ∧ staged t (PX_LINK_CTRL_interval_log p) =
      byteAt r.payload 3 ∧ staged t (PX_LINK_CTRL_auto_cal p) = byteAt r.payload 4 ∧ staged t (PR_PORT_CFG_fpl_trap p) = 1 ∧ onlyParts [.regs, .pend,
      .mbox, .mp, .host, .sent] s t) ∧
(∀ (n : Fin 4) (r : MbReq) (p : Fin 48) (s : State), serving n 0x2101 r s → r.payload.length = 4 → byteAt r.payload 0 = p.val → p.val < s.lanes → leAt
      r.payload 1 3 = 0 → s.linkState p = 2 ∨ s.linkState p = 4 → ∃ t, goesTo (.pxCalibrate n) s t ∧ t.linkState p = 3 ∧ awaiting n 0x2101 r t ∧
      onlyParts [.regs, .px, .mbox, .mp, .host, .sent] s t) ∧
(∀ (n : Fin 4) (r : MbReq) (p : Fin 48) (s : State), serving n 0x2102 r s → r.payload.length = 4 → byteAt r.payload 0 = p.val → p.val < s.lanes → leAt
      r.payload 1 3 = 0 → ∃ t, goesTo (.pxGetLink n) s t ∧ answered n r (leBytes 1 (s.linkState p) ++ leBytes 1 (s.get (PX_STAT_downstream p) + 2 *
      s.get (PX_STAT_syntonised p) + 4 * s.get (PX_STAT_cal_valid p) + 8 * s.get (PX_STAT_cal_stale p) + 16 * s.get (PX_STAT_far_suspect p) + 32 *
      s.get (PX_STAT_asym_stale p)) ++ leBytes 2 (s.get (PX_FAR_node p)) ++ leBytes 1 (s.get (PX_FAR_port p)) ++ leBytes 1 (s.linkOf p).src ++ leBytes
      2 (s.get (PX_SEQ_m p)) ++ leBytes 8 (s.rd64 (PX_RT_LO p) (PX_RT_HI p)) ++ leBytes 8 (s.rd64 (PX_DELAY_LO p) (PX_DELAY_HI p)) ++ leBytes 8 (twos
      64 (signed 32 (s.get (PX_ASYM_USED_asym p)))) ++ leBytes 8 (s.rd64 (PX_OFFSET_LO p) (PX_OFFSET_HI p)) ++ leBytes 4 (s.rd (PX_FREQ p)).toNat ++
      leBytes 2 (s.get (PX_CAL_Q_residual p)) ++ leBytes 2 (s.linkOf p).lasting) t ∧ onlyParts [.regs, .mbox, .mp, .host, .sent] s t) ∧
(∀ (n : Fin 4) (r : MbReq) (p : Fin 48) (s : State), serving n 0x2103 r s → r.payload.length = 28 → byteAt r.payload 0 = p.val → p.val < s.lanes →
      byteAt r.payload 1 ≤ 1 → byteAt r.payload 3 = 0 → ∃ t, goesTo (.pxSetAsym n) s t ∧ answered n r [] t ∧ staged t (PX_LINK_CTRL_asym_src p) =
      byteAt r.payload 1 ∧ (byteAt r.payload 1 = 1 → staged t (PX_LINK_ASYM_asym p) = leAt r.payload 4 4) ∧ onlyParts [.regs, .pend, .mbox, .mp,
      .host, .sent] s t) ∧
(∀ (n : Fin 4) (r : MbReq) (p y : Fin 48) (s : State), serving n 0x2103 r s → r.payload.length = 28 → byteAt r.payload 0 = p.val → p.val < s.lanes →
      byteAt r.payload 1 = 2 → byteAt r.payload 2 = y.val → y.val < s.lanes → byteAt r.payload 3 = 0 → 125000 ≤ leAt r.payload 8 4 ∧ leAt r.payload 8
      4 ≤ 165000 ∧ 125000 ≤ leAt r.payload 12 4 ∧ leAt r.payload 12 4 ≤ 165000 ∧ 125000 ≤ leAt r.payload 16 4 ∧ leAt r.payload 16 4 ≤ 165000 ∧ 125000
      ≤ leAt r.payload 20 4 ∧ leAt r.payload 20 4 ≤ 165000 → p ≠ y → s.linkState p ≠ 0 → s.linkDown p = true → s.linkState y ≠ 0 → s.linkDown y = true
      → 256000 ≤ (((weight (leAt r.payload 12 4) (if leAt r.payload 24 4 = 0 then 131000 else leAt r.payload 24 4) + weight (leAt r.payload 8 4) (if
      leAt r.payload 24 4 = 0 then 131000 else leAt r.payload 24 4) : Nat) : Int) - ((weight (leAt r.payload 20 4) (if leAt r.payload 24 4 = 0 then
      131000 else leAt r.payload 24 4) + weight (leAt r.payload 16 4) (if leAt r.payload 24 4 = 0 then 131000 else leAt r.payload 24 4) : Nat) :
      Int)).natAbs → ∃ t, goesTo (.pxSetAsym n) s t ∧ answered n r [] t ∧ staged t (PX_LINK_CTRL_asym_src p) = 2 ∧ staged t (PX_LINK_CTRL_asym_src y)
      = 2 ∧ staged t (PX_WL_TX_w p) = weight (leAt r.payload 8 4) (if leAt r.payload 24 4 = 0 then 131000 else leAt r.payload 24 4) % 2 ^ 32 ∧ staged
      t (PX_WL_RX_w p) = weight (leAt r.payload 12 4) (if leAt r.payload 24 4 = 0 then 131000 else leAt r.payload 24 4) % 2 ^ 32 ∧ staged t
      (PX_WL_TX_w y) = weight (leAt r.payload 16 4) (if leAt r.payload 24 4 = 0 then 131000 else leAt r.payload 24 4) % 2 ^ 32 ∧ staged t (PX_WL_RX_w
      y) = weight (leAt r.payload 20 4) (if leAt r.payload 24 4 = 0 then 131000 else leAt r.payload 24 4) % 2 ^ 32 ∧ staged t (PX_PAIR_port p) = y ∧
      staged t (PX_PAIR_port y) = p ∧ onlyParts [.regs, .pend, .mbox, .mp, .host, .sent] s t)

/-- A loop update selects and starts switches, a switch completes, lock is declared, and a channel resets and reaches its frequency. -/
def Obligations.LoopAndSwitch : Prop :=
(∀ (errs : List (Fin 6 × Int)) (s : State), s.up → s.time.incr = none → ∃ t, goesTo (.loopUpdate errs) s t ∧ t.smp = { s.smp with ofs60 := none } ∧
      t.tw.ofs62 = none ∧ t.time.incr.all (fun v => decide (incrMin ≤ v ∧ v ≤ incrMax)) = true ∧ t.tb = s.tb ∧ t.get SYS_ROOT_STAT_tx_on_root = flag
      (!t.dcoRuns t.synceCh) ∧ onlyParts [.regs, .chan, .esmc, .free, .smp, .time, .tw, .ou, .bw, .sc, .host, .sent] s t) ∧
(∀ (errs : List (Fin 6 × Int)) (c : Fin 6) (b : Nat) (s : State), s.up → s.loopRuns c = true → (s.chanOf c).sw = none → (s.chanOf c).hold62 = false →
      s.get (TC_FORCE_mode c) = 0 → s.selRef c = 63 → s.tcState c = 0 → s.refBest c = some b → ∃ t, goesTo (.loopUpdate errs) s t ∧ t.selRef c = b ∧
      t.on (TC_STAT_switching c) = true ∧ t.tcState c = 1 ∧ t.on (TC_INT_STAT_state_chg c) = true ∧ (t.chanOf c).sw = some ⟨0, false, false⟩) ∧
(∀ (c : Fin 6) (ofs : Int) (w : Switching) (s : State), s.up → s.loopRuns c = true → (s.chanOf c).sw = some w → w.count = 8 → w.failed = false → ∃ t,
      goesTo (.switchComplete c ofs) s t ∧ t.get (TC_ABSORBED_ofs c) = twos 32 (satSigned 32 ofs) ∧ t.on (TC_INT_STAT_switch_done c) = true ∧ t.get
      (TC_SW_CNT_switches c) = min 0xFFFF (s.get (TC_SW_CNT_switches c) + 1) ∧ (t.chanOf c).switches = (s.chanOf c).switches + 1 ∧ (s.aligns c = false
      → (t.chanOf c).zero = ofs) ∧ onlyParts [.regs, .chan, .esmc, .ou, .free, .bw, .sc, .time, .host, .sent] s t) ∧
(∀ (c : Fin 6) (s : State), s.up → s.loopRuns c = true → s.tcState c = 1 → s.selRef c ≠ 63 → (s.chanOf c).sw = none → s.withinWin c 1 = true → ∃ t,
      goesTo (.lockDeclared c) s t ∧ t.tcState c = 2 ∧ t.on (TC_INT_STAT_state_chg c) = true ∧ (t.chanOf c).wideErr = 0 ∧ (t.chanOf c).rstStale =
      false ∧ onlyParts [.regs, .chan, .esmc, .ou, .free, .bw, .sc, .host, .sent] s t) ∧
(∀ (m : Master) (c : Fin 6) (v : Word) (s : State), reaches m s → c.val < s.chans → bitOf v.toNat 0 = true → s.on (TC_STAT_resetting c) = false → ∃ t,
      goesTo (.tcResetWrite m c v) s t ∧ t.on (TC_STAT_resetting c) = true ∧ t.on (TC_STAT_stale c) = true ∧ t.selRef c = 63 ∧ t.tcState c = s.tcState
      c ∧ (t.chanOf c).resetFrom = some (s.tcState c) ∧ (t.chanOf c).had = [] ∧ (∀ r : Nat, r < 63 → s.refActive r = true → t.refStatus c r = 2) ∧
      onlyParts [.regs, .chan, .ou, .host, .sent] s t) ∧
(∀ (c : Fin 6) (s : State), s.up → s.on (TC_STAT_resetting c) = true → (s.chanOf c).resetFrom = some 0 → ∃ t, goesTo (.tcResetEnd c) s t ∧ t.on
      (TC_STAT_resetting c) = false ∧ t.tcState c = 0 ∧ t.selRef c = 63 ∧ (t.chanOf c).resetFrom = none ∧ onlyParts [.regs, .chan, .esmc, .ou, .free,
      .bw, .sc, .host, .sent] s t) ∧
(∀ (c : Fin 6) (x : Nat) (s : State), s.up → s.on (TC_STAT_resetting c) = true → (s.chanOf c).resetFrom = some x → x ≠ 0 → x ≠ 3 ∨ s.histValid c =
      false → ∃ t, goesTo (.tcResetEnd c) s t ∧ t.on (TC_STAT_resetting c) = false ∧ t.tcState c = 3 ∨ t.tcState c = 4 ∧ t.selRef c = 63 ∧ (t.chanOf
      c).resetFrom = none ∧ onlyParts [.regs, .chan, .esmc, .ou, .free, .bw, .sc, .host, .sent] s t) ∧
(∀ (c : Fin 6) (s : State), s.up → s.on (TC_STAT_resetting c) = true → (s.chanOf c).resetFrom = some 3 → s.histValid c = true → ∃ t, goesTo
      (.tcResetEnd c) s t ∧ t.on (TC_STAT_resetting c) = false ∧ t.tcState c = s.tcState c ∧ (t.chanOf c).rstStale = false ∧ (t.chanOf c).resetFrom =
      none ∧ onlyParts [.regs, .chan, .esmc, .ou, .free, .bw, .sc, .host, .sent] s t) ∧
(∀ (c : Fin 6) (i : Fin 16) (s : State), s.up → c.val < s.chans → s.on (TC_CTRL_enable c) = true → (s.chanOf c).hop = some (some i.val) → ∃ t, goesTo
      (.dcoAtFrequency c) s t ∧ t.get (TC_DCO_WORD_band c) = s.get (TC_PRESET_HI_band c i) ∧ (t.chanOf c).bandDone = (s.chanOf c).bandDone ∧ (t.chanOf
      c).hop = none ∧ (t.chanOf c).searched = true ∧ (s.on (TC_STAT_resetting c) = false → t.tcState c = (if s.selRef c = 63 then 0 else 1)) ∧ (s.on
      (TC_STAT_resetting c) = true → t.tcState c = s.tcState c) ∧ t.selRef c = s.selRef c ∧ onlyParts [.regs, .chan, .esmc, .ou, .free, .bw, .sc,
      .host, .sent] s t) ∧
(∀ (c : Fin 6) (s : State), s.up → c.val < s.chans → s.on (TC_CTRL_enable c) = true → (s.chanOf c).hop = some none ∨ ((s.chanOf c).hop = none ∧
      (s.chanOf c).searched = false) → ∃ t, goesTo (.dcoAtFrequency c) s t ∧ t.on (TC_INT_STAT_band_search c) = true ∧ (t.chanOf c).bandDone = true ∧
      (t.chanOf c).hop = none ∧ (t.chanOf c).searched = true ∧ (s.on (TC_STAT_resetting c) = false → t.tcState c = (if s.selRef c = 63 then 0 else 1))
      ∧ (s.on (TC_STAT_resetting c) = true → t.tcState c = s.tcState c) ∧ t.selRef c = s.selRef c ∧ onlyParts [.regs, .chan, .esmc, .ou, .free, .bw,
      .sc, .host, .sent] s t)

/-- References lose and regain activity, are judged by vote each second, and qualify, recover and wait to restore. -/
def Obligations.ReferenceMonitors : Prop :=
(∀ (c : Fin 6) (r : Fin 63) (s : State), s.up → c.val < s.chans → s.refActive r = true → ∃ t, goesTo (.refActivityLoss r) s t ∧ t.refActive r = false
      ∧ t.on (TC_REF_FREQ_valid r) = false ∧ t.refStatus c r = 0 ∧ onlyParts [.regs, .chan, .time, .host, .sent] s t) ∧
(∀ (c : Fin 6) (r : Fin 63) (s : State), s.up → c.val < s.chans → s.refActive r = true → s.selRef c = r → s.refStatus c r = 4 ∨ s.refStatus c r = 5 →
      ∃ t, goesTo (.refActivityLoss r) s t ∧ t.on (TC_INT_STAT_ref_disq c) = true ∧ t.get (TC_SW_CNT_disq c) = min 0xFFFF (s.get (TC_SW_CNT_disq c) +
      1)) ∧
(∀ (c : Fin 6) (r : Fin 63) (s : State), s.up → c.val < s.chans → s.refOffered r = true → s.refActive r = false → ∃ t, goesTo (.refActivityReturn r) s
      t ∧ t.refActive r = true ∧ t.refStatus c r = 2 ∧ onlyParts [.regs, .chan, .host, .sent] s t) ∧
(∀ (c : Fin 6) (r : Fin 63) (e d : Int) (s : State), s.up → s.rootLocked = true → c.val < s.chans → s.on (TC_STAT_resetting c) = false → s.refActive r
      = true → s.refStatus c r ≠ 0 → d = satSigned 24 e - median (0 :: s.voters c r) → ∃ t, goesTo (.refMonitorUpdate [(r, e)]) s t ∧ t.refFreq r =
      satSigned 24 e ∧ t.on (TC_REF_FREQ_valid r) = true ∧ t.refDev c r = satSigned 24 d ∧ (s.hardOf c < d.natAbs → t.refStatus c r = 1) ∧
      (s.refStatus c r = 4 → d.natAbs ≤ s.hardOf c → t.refStatus c r = (if s.softOf c < d.natAbs then 5 else 4)) ∧ (s.refStatus c r = 1 → d.natAbs ≤
      s.softOf c → d.natAbs ≤ s.hardOf c → t.refStatus c r = 2) ∧ onlyParts [.regs, .chan, .time, .host, .sent] s t) ∧
(∀ (c : Fin 6) (r : Fin 63) (s : State), s.up → c.val < s.chans → s.on (TC_STAT_resetting c) = false → s.withinSoft c r = true → s.refStatus c r = 2 →
      ∃ t, goesTo (.qualifyingComplete c r) s t ∧ t.refStatus c r = (if (s.chanOf c).had.contains r.val = true ∧ s.wtrS c ≠ 0 then 3 else 4) ∧
      onlyParts [.regs, .chan, .time, .host, .sent] s t) ∧
(∀ (c : Fin 6) (r : Fin 63) (s : State), s.up → c.val < s.chans → s.on (TC_STAT_resetting c) = false → s.withinSoft c r = true → s.refStatus c r = 5 →
      ∃ t, goesTo (.degradedRecovery c r) s t ∧ t.refStatus c r = (if s.wtrS c ≠ 0 then 3 else 4) ∧ onlyParts [.regs, .chan, .host, .sent] s t) ∧
(∀ (c : Fin 6) (r : Fin 63) (s : State), s.up → c.val < s.chans → s.on (TC_STAT_resetting c) = false → s.withinSoft c r = true → s.refStatus c r = 3 →
      ∃ t, goesTo (.wtrExpiry c r) s t ∧ t.refStatus c r = 4 ∧ (t.chanOf c).had.contains r.val = true ∧ onlyParts [.regs, .chan, .host, .sent] s t)

/-- A channel records its steer, refits its model, estimates its error in HOLDOVER, and follows ramps. -/
def Obligations.HoldoverAndRamps : Prop :=
(∀ (c : Fin 6) (s : State), s.up → c.val < s.chans → (s.chanOf c).clean = true → s.recordable c = true → 0 < (s.chanOf c).nY → (s.chanOf c).hist.prob
      = [] → ∃ t, goesTo (.holdoverRecord c) s t ∧ (t.chanOf c).hist =
      { (s.chanOf c).hist with prob := [⟨s.tb.sec, (s.chanOf c).sumY / ((s.chanOf c).nY : Int), s.oven⟩] } ∧ (t.chanOf c).nY = 0 ∧ (t.chanOf c).sumY =
      0 ∧ onlyParts [.regs, .chan, .host, .sent] s t) ∧
(∀ (c : Fin 6) (r : HoRec) (s : State), s.up → c.val < s.chans → (s.chanOf c).clean = false → (s.chanOf c).hist.prob = [r] → r.t + 900 < s.tb.sec → ∃
      t, goesTo (.holdoverRecord c) s t ∧ (t.chanOf c).hist = ({ (s.chanOf c).hist with prob := [] } : History).commit r ∧ (t.chanOf c).commitNow =
      (s.chanOf c).commitNow ++ [r] ∧ onlyParts [.regs, .chan, .host, .sent] s t) ∧
(∀ (c : Fin 6) (s : State), s.up → (s.chanOf c).hist.trained = true → ∃ t, goesTo (.holdoverRefit c) s t ∧ (t.chanOf c).fit = some (s.fitOf ((s.chanOf
      c).hist.h15.filter fun r => decide (((s.chanOf c).hist.h15.getLast?.map (·.t)).getD 0 < r.t + 259200))) ∧ onlyChanges [] [.chan] s t) ∧
(∀ (c : Fin 6) (s : State), s.up → s.tcState c = 3 → s.get (TC_HO_LIMIT_max_h c) = 0 → s.get (TC_HO_LIMIT_te_limit_ns c) = 0 → ∃ t, goesTo
      (.holdoverTeUpdate c) s t ∧ t.get (TC_HO_STAT_elapsed_s c) = min 0xFFFFFF (s.get (TC_HO_STAT_elapsed_s c) + 1) ∧ t.get (TC_HO_TE_te_est c) = min
      0xFFFFFFFE (teEst (s.chanOf c).trainedBy (s.on (TC_STAT_ensemble c)) (min 0xFFFFFF (s.get (TC_HO_STAT_elapsed_s c) + 1)) ((s.chanOf c).dT +
      (s.oven - (s.chanOf c).entryTemp).natAbs) / 1000) ∧ t.tcState c = 3 ∧ onlyChanges [TC_HO_STAT c, TC_HO_TE c] [.chan] s t) ∧
(∀ (c : Fin 6) (s : State), s.up → s.tcState c = 3 → 0 < s.get (TC_HO_LIMIT_max_h c) → s.get (TC_HO_LIMIT_max_h c) * 3600 ≤ s.get
      (TC_HO_STAT_elapsed_s c) + 1 → ∃ t, goesTo (.holdoverTeUpdate c) s t ∧ t.tcState c = 4 ∧ t.on (TC_INT_STAT_ho_lost c) = true ∧ t.on
      (TC_INT_STAT_state_chg c) = true) ∧
(∀ (c : Fin 6) (s : State), s.up → s.tcState c = 3 → 0 < s.get (TC_HO_LIMIT_te_limit_ns c) → s.get (TC_HO_LIMIT_te_limit_ns c) * 1000 < teEst
      (s.chanOf c).trainedBy (s.on (TC_STAT_ensemble c)) (min 0xFFFFFF (s.get (TC_HO_STAT_elapsed_s c) + 1)) ((s.chanOf c).dT + (s.oven - (s.chanOf
      c).entryTemp).natAbs) → ∃ t, goesTo (.holdoverTeUpdate c) s t ∧ t.tcState c = 4 ∧ t.on (TC_INT_STAT_ho_lost c) = true ∧ t.on
      (TC_INT_STAT_state_chg c) = true ∧ onlyParts [.regs, .chan, .esmc, .ou, .free, .bw, .sc, .host, .sent] s t) ∧
(∀ (c : Fin 6) (r : Ramp) (s : State), s.up → (s.chanOf c).ramp = some r → r.profile < 8 → r.running = false → r.stop = false → r.start ≤ s.tb.toNat →
      s.rampHome c = true → 0 < s.get (OU_RAMP_DUR_duration_ms r.profile 0) → ∃ t, goesTo (.rampStart c) s t ∧ (t.chanOf c).ramp = some
      { r with running := true, seg := 0 } ∧ t.on (OU_RAMP_STAT_running c) = true ∧ t.get (OU_RAMP_STAT_profile c) = r.profile ∧ t.get
      (OU_RAMP_STAT_segment c) = 0 ∧ onlyParts [.regs, .chan, .ou, .host, .sent] s t) ∧
(∀ (c : Fin 6) (r : Ramp) (s : State), s.up → (s.chanOf c).ramp = some r → r.profile < 8 → r.running = true → r.holding = false → r.seg < 63 → 0 <
      s.get (OU_RAMP_DUR_duration_ms r.profile (r.seg + 1)) → ∃ t, goesTo (.rampSegmentEnd c) s t ∧ (t.chanOf c).ramp = some
      { r with seg := r.seg + 1 } ∧ t.get (OU_RAMP_STAT_segment c) = r.seg + 1 ∧ onlyParts [.regs, .chan, .ou, .host, .sent] s t) ∧
(∀ (c : Fin 6) (r : Ramp) (s : State), s.up → (s.chanOf c).ramp = some r → r.profile < 8 → r.running = true → r.holding = false → r.seg = 63 ∨ s.get
      (OU_RAMP_DUR_duration_ms r.profile (r.seg + 1)) = 0 → ∃ t, goesTo (.rampSegmentEnd c) s t ∧ (s.on (OU_RAMP_CFG_end_mode r.profile) = true →
      (t.chanOf c).ramp = none ∧ t.on OU_INT_STAT_ramp_end = true ∧ t.on (OU_RAMP_STAT_running c) = false) ∧ (s.on (OU_RAMP_CFG_end_mode r.profile) =
      false → (t.chanOf c).ramp = some { r with holding := true }) ∧ onlyParts [.regs, .chan, .ou, .host, .sent] s t) ∧
(∀ (m : Master) (v : Word) (s : State), reaches m s → ∃ t, goesTo (.ouRampStopWrite m v) s t ∧ (∀ c : Nat, c < s.chans → (t.chanOf c).ramp = (if bitOf
      v.toNat c then (s.chanOf c).ramp.map fun r => { r with stop := true } else (s.chanOf c).ramp)) ∧ onlyChanges [] [.chan] s t)

/-- The TC opcodes report a channel and stage its configuration, priorities and forced selection. -/
def Obligations.ChannelOpcodes : Prop :=
(∀ (n : Fin 4) (r : MbReq) (c : Fin 6) (s : State), serving n 0x1000 r s → r.payload.length = 4 → byteAt r.payload 0 = c.val → c.val < s.chans → leAt
      r.payload 1 3 = 0 → ∃ t, goesTo (.tcGetStatus n) s t ∧ answered n r (leBytes 1 (s.tcState c) ++ leBytes 1 (s.selRef c) ++ leBytes 1 (s.get
      (TC_STAT_switching c) + 2 * s.get (TC_STAT_slewing c) + 4 * s.get (TC_STAT_stale c) + 8 * s.get (TC_STAT_hist_valid c) + 16 * s.get
      (TC_STAT_trained c) + 32 * s.get (TC_STAT_ensemble c)) ++ leBytes 1 (s.get (TC_STAT_bw_eff c)) ++ leBytes 4 (s.rd (TC_FREQ c)).toNat ++ leBytes
      4 (s.rd (TC_PHASE_ERR c)).toNat ++ leBytes 4 (s.get (TC_HO_STAT_elapsed_s c)) ++ leBytes 4 (s.rd (TC_HO_TE c)).toNat ++ leBytes 4 (s.chanOf
      c).switches ++ leBytes 8 (((List.range 63).map fun k => if s.refStatus c k = 4 then 2 ^ k else 0).sum)) t ∧ onlyParts [.regs, .mbox, .mp, .host,
      .sent] s t) ∧
(∀ (n : Fin 4) (r : MbReq) (c : Fin 6) (s : State), serving n 0x1001 r s → r.payload.length = 40 → byteAt r.payload 0 = c.val → c.val < s.chans →
      byteAt r.payload 1 ≤ 0x7F → byteAt r.payload 2 ≤ 0x1F → leAt r.payload 4 2 ≤ 0xFFF → leAt r.payload 6 2 ≤ 0x1FFF → leAt r.payload 8 4 ≤ 0xFFFFFF
      → leAt r.payload 12 4 ≤ 0xFFFFFF → 9600000000 ≤ leAt r.payload 16 8 → leAt r.payload 16 8 ≤ 11200000000 → leAt r.payload 28 2 ≤ 0xFFF → byteAt
      r.payload 31 ≤ 3 → leAt r.payload 32 4 ≤ 0xFFFFFF → leAt r.payload 37 3 = 0 → ∃ t, goesTo (.tcSetConfig n) s t ∧ answered n r [] t ∧ staged t
      (TC_CTRL_enable c) = flag (bitOf (byteAt r.payload 1) 0) ∧ staged t (TC_CTRL_revertive c) = flag (bitOf (byteAt r.payload 1) 1) ∧ staged t
      (TC_CTRL_ql_mode c) = flag (bitOf (byteAt r.payload 1) 2) ∧ staged t (TC_CTRL_switch_mode c) = flag (bitOf (byteAt r.payload 1) 3) ∧ staged t
      (TC_HO_CFG_ensemble c) = flag (bitOf (byteAt r.payload 1) 4) ∧ (bitOf (byteAt r.payload 1) 5 = true → staged t TC_ROLES_time_ch = c) ∧ (bitOf
      (byteAt r.payload 1) 6 = true → staged t TC_ROLES_synce_ch = c) ∧ staged t (TC_LOOP_bw c) = byteAt r.payload 2 ∧ staged t (TC_LOOP_lock_win c) =
      byteAt r.payload 36 ∧ staged t (TC_QUAL_qualify_s c) = byteAt r.payload 3 ∧ staged t (TC_QUAL_wtr_s c) = leAt r.payload 4 2 ∧ staged t
      (TC_QUAL_win c) = byteAt r.payload 31 ∧ staged t (TC_SLEW_limit c) = leAt r.payload 6 2 ∧ staged t (TC_SOFT_soft c) = leAt r.payload 8 4 ∧
      staged t (TC_HARD_hard c) = leAt r.payload 12 4 ∧ staged t (TC_DCO_NOM_LO_f_lo c) + staged t (TC_DCO_NOM_HI_f_hi c) * 2 ^ 32 = leAt r.payload 16
      8 ∧ staged t (TC_PHASE_OFS_ofs c) = leAt r.payload 24 4 ∧ staged t (TC_HO_CFG_avg_s c) = leAt r.payload 28 2 ∧ staged t (TC_HO_LIMIT_max_h c) =
      byteAt r.payload 30 ∧ staged t (TC_HO_LIMIT_te_limit_ns c) = leAt r.payload 32 4 ∧ onlyParts [.regs, .pend, .mbox, .mp, .host, .sent] s t) ∧
(∀ (n : Fin 4) (r : MbReq) (c : Fin 6) (k : Fin 64) (s : State), serving n 0x1002 r s → r.payload.length = 2 + 2 * k.val → byteAt r.payload 1 = k.val
      → 0 < k.val → byteAt r.payload 0 = c.val → c.val < s.chans → ∀ i : Nat, i < k.val → byteAt r.payload (2 + 2 * i) ≤ 62 ∧ byteAt r.payload (3 + 2
      * i) ≤ 15 ∧ s.refHere (byteAt r.payload (2 + 2 * i)) = true → ∃ t, goesTo (.tcSetRefPriority n) s t ∧ answered n r [] t ∧ (∀ i : Nat, i < k.val
      → (∀ j : Nat, j < k.val → i < j → byteAt r.payload (2 + 2 * j) ≠ byteAt r.payload (2 + 2 * i)) → staged t ⟨TC_REF_PRIO c (byteAt r.payload (2 +
      2 * i) / 8), 4 * (byteAt r.payload (2 + 2 * i) % 8) + 3, 4 * (byteAt r.payload (2 + 2 * i) % 8)⟩ = byteAt r.payload (3 + 2 * i)) ∧ onlyParts
      [.regs, .pend, .mbox, .mp, .host, .sent] s t) ∧
(∀ (n : Fin 4) (r : MbReq) (c : Fin 6) (s : State), serving n 0x1003 r s → r.payload.length = 4 → byteAt r.payload 0 = c.val → c.val < s.chans →
      byteAt r.payload 1 ≤ 3 → byteAt r.payload 2 ≤ 63 → byteAt r.payload 3 = 0 → byteAt r.payload 1 ≠ 1 ∨ (s.refHere (byteAt r.payload 2) = true ∧
      s.forceUsable c (byteAt r.payload 2) = true) → ∃ t, goesTo (.tcForceSelect n) s t ∧ answered n r [] t ∧ staged t (TC_FORCE_mode c) = byteAt
      r.payload 1 ∧ staged t (TC_FORCE_ref c) = byteAt r.payload 2 ∧ onlyParts [.regs, .pend, .mbox, .mp, .host, .sent] s t) ∧
(∀ (n : Fin 4) (r : MbReq) (c : Fin 6) (s : State), serving n 0x1003 r s → r.payload.length = 4 → byteAt r.payload 0 = c.val → c.val < s.chans →
      byteAt r.payload 1 = 1 → byteAt r.payload 2 ≤ 63 → byteAt r.payload 3 = 0 → byteAt r.payload 2 = 63 ∨ s.refHere (byteAt r.payload 2) = true →
      s.forceUsable c (byteAt r.payload 2) = false → ∃ t, goesTo (.tcForceSelect n) s t ∧ rejected n r 0x0101 t ∧ onlyParts [.regs, .mbox, .mp, .host,
      .sent] s t)

/-- The TC opcodes report the holdover model, store presets, schedule ramps and configure ESMC. -/
def Obligations.HoldoverAndRampOpcodes : Prop :=
(∀ (n : Fin 4) (r : MbReq) (c : Fin 6) (m : HoModel) (s : State), serving n 0x1004 r s → r.payload.length = 4 → byteAt r.payload 0 = c.val → c.val <
      s.chans → leAt r.payload 1 3 = 0 → m = (if s.tcState c = 3 then (s.chanOf c).model else (s.buildModel c).1) → ∃ t, goesTo (.tcGetHoldover n) s t
      ∧ answered n r (leBytes 1 (s.get (TC_STAT_hist_valid c) + 2 * s.get (TC_STAT_trained c) + 4 * flag (s.tcState c = 3)) ++ leBytes 1 0 ++ leBytes
      2 (s.get (TC_HO_STAT_trained_h c)) ++ leBytes 4 (s.get (TC_HO_STAT_elapsed_s c)) ++ leBytes 4 (s.rd (TC_HO_TE c)).toNat ++ leBytes 4 (twos 32
      (satSigned 32 (m.mean / 1000))) ++ leBytes 4 (twos 32 (satSigned 32 (m.slope / 1000))) ++ leBytes 6 m.endT ++ leBytes 2 m.len ++ leBytes 2 (twos
      16 m.temp) ++ leBytes 2 0 ++ leBytes 4 (s.chanOf c).discarded ++ leBytes 4 0) t ∧ onlyParts [.regs, .mbox, .mp, .host, .sent] s t) ∧
(∀ (n : Fin 4) (r : MbReq) (c : Fin 6) (i : Fin 16) (s : State), serving n 0x1005 r s → r.payload.length = 4 → byteAt r.payload 0 = c.val → c.val <
      s.chans → byteAt r.payload 1 = i.val → leAt r.payload 2 2 = 0 → s.searching c = false → s.tcState c ≠ 0 ∨ (s.chanOf c).bandDone = true → ∃ t,
      goesTo (.tcStorePreset n) s t ∧ answered n r [] t ∧ t.rd (TC_PRESET_LO c i) = s.rd (TC_DCO_NOM_LO c) ∧ t.get (TC_PRESET_HI_f_hi c i) = s.get
      (TC_DCO_NOM_HI_f_hi c) ∧ t.get (TC_PRESET_HI_band c i) = s.get (TC_DCO_WORD_band c) ∧ t.on (TC_PRESET_HI_valid c i) = true ∧ onlyParts [.regs,
      .fu, .mbox, .mp, .host, .sent] s t) ∧
(∀ (n : Fin 4) (r : MbReq) (c : Fin 6) (s : State), serving n 0x1006 r s → r.payload.length = 16 → byteAt r.payload 0 = c.val → c.val < s.chans →
      byteAt r.payload 1 ≤ 7 → leAt r.payload 2 2 = 0 → leAt r.payload 10 4 ≤ 999999999 → c.val ≠ s.timeCh → s.rampHome c = true → (s.chanOf
      c).ramp.all (fun x => !x.running) = true → ∃ t, goesTo (.tcRampStart n) s t ∧ answered n r [] t ∧ (t.chanOf c).ramp = some ⟨byteAt r.payload 1,
      (leAt r.payload 4 6 * 1000000000 + leAt r.payload 10 4) * 2 ^ 32 + leAt r.payload 14 2 * 2 ^ 16, false, 0, false, 0, false⟩ ∧ onlyParts [.regs,
      .chan, .mbox, .mp, .host, .sent] s t) ∧
(∀ (n : Fin 4) (r : MbReq) (s : State), serving n 0x1007 r s → r.payload.length = 16 → byteAt r.payload 0 ≤ 3 → byteAt r.payload 1 = 0 → leAt
      r.payload 4 6 < 2 ^ s.lanes → leAt r.payload 10 6 < 2 ^ s.lanes → ∃ t, goesTo (.tcEsmcConfig n) s t ∧ answered n r [] t ∧ t.esmc =
      { s.esmc with on := bitOf (byteAt r.payload 0) 0, tlv := bitOf (byteAt r.payload 0) 1, holdS := leAt r.payload 2 2, send := leAt r.payload 4 6, accept := leAt r.payload 10 6 }
      ∧ (∀ p : Nat, p < s.lanes → bitOf (leAt r.payload 10 6) p = true → staged t (PR_PORT_CFG_esmc_trap p) = 1) ∧ onlyParts [.regs, .pend, .esmc,
      .mbox, .mp, .host, .sent] s t)

/-- ESMC sends the QL of the SyncE channel and takes received QLs, and the MP gives the samples of reference 60. -/
def Obligations.EsmcAndReference60 : Prop :=
(∀ (p : Fin 48) (s : State), s.up → s.stacksRun = true → s.esmc.on = true → p.val < s.lanes → bitOf s.esmc.send p = true → s.portSends p = true →
      s.loopOf p = 0 → ∃ t, goesTo (.esmcPduSend) s t ∧ slowOut p (bytes [0x0A, 0x00, 0x19, 0xA7, 0x00, 0x01, 0x10, 0, 0, 0, 0x01, 0x00, 0x04, (ssmOf
      (s.portQl p)).1] ++ (if s.esmc.tlv then bytes [0x02, 0x00, 0x14, (ssmOf (s.portQl p)).2] ++ beBytes 8 Config.clockIdentity.toNat else [])) t =
      true ∧ t.esmc.sent = s.esmcCode ∧ onlyParts [.regs, .pend, .esmc, .free, .bw, .sc, .host, .sent] s t) ∧
(∀ (p : Fin 48) (ql : Fin 16) (s : State), s.up → s.stacksRun = true → s.esmc.on = true → p.val < s.lanes → bitOf s.esmc.accept p = true → ∃ t, goesTo
      (.esmcPduReceive p ql) s t ∧ (∀ l : Nat, l ∈ s.lanesOf p → staged t ⟨TC_REF_QL ((12 + l) / 8), 4 * ((12 + l) % 8) + 3, 4 * ((12 + l) % 8)⟩ =
      ql.val) ∧ onlyParts [.regs, .pend, .esmc, .free, .bw, .sc, .host, .sent] s t) ∧
(∀ (p : Fin 48) (s : State), s.up → s.stacksRun = true → s.esmc.on = true → p.val < s.lanes → bitOf s.esmc.accept p = true → ∃ t, goesTo (.esmcTimeout
      p) s t ∧ (∀ l : Nat, l ∈ s.lanesOf p → staged t ⟨TC_REF_QL ((12 + l) / 8), 4 * ((12 + l) % 8) + 3, 4 * ((12 + l) % 8)⟩ = 0xF) ∧ onlyParts
      [.regs, .pend, .esmc, .free, .bw, .sc, .host, .sent] s t) ∧
(∀ (s : State), s.up → s.stacksRun = true → s.tcState s.synceCh = 3 → ∃ t, goesTo (.qlHoldExpiry) s t ∧ (t.chanOf s.synceCh).qlExpired = true ∧
      t.synceQl = 7 ∧ onlyParts [.regs, .chan, .esmc, .ou, .free, .bw, .sc, .host, .sent] s t) ∧
(∀ (m : Master) (v : Word) (s : State), reaches m s → m = .mp → ∃ t, goesTo (.tcPtpOfsLoWrite m v) s t ∧ t.smp = { s.smp with stagedLo := v } ∧
      onlyChanges [] [.smp] s t) ∧
(∀ (m : Master) (v : Word) (s : State), reaches m s → m = .mp → s.on PX_REF_STAT_delivering = false → ∃ t, goesTo (.tcPtpOfsHiWrite m v) s t ∧ t.smp =
      { s.smp with ofs60 := some (signed 64 (s.smp.stagedLo.toNat + v.toNat * 2 ^ 32)), from60 := s.get TB_STEP_CNT_count } ∧ onlyChanges [] [.smp] s
      t) ∧
(∀ (m : Master) (v : Word) (s : State), reaches m s → m ≠ .mp → ∃ t, goesTo (.tcPtpOfsHiWrite m v) s t ∧ onlyChanges [] [] s t)

/-- Outputs take a frequency plan, align on request, report themselves, and measure their pulses. -/
def Obligations.Outputs : Prop :=
(∀ (n : Fin 4) (r : MbReq) (o : Fin 18) (c : Fin 6) (f d N : Nat) (s : State), serving n 0x1100 r s → r.payload.length = 24 → byteAt r.payload 0 =
      o.val → byteAt r.payload 1 = c.val → s.outHere o = true → c.val < s.chans → byteAt r.payload 3 ≤ 5 → byteAt r.payload 4 ≤ 15 → leAt r.payload 5
      3 = 0 → leAt r.payload 20 4 = 0 → byteAt r.payload 2 = 0 → o.val < 16 → f = leAt r.payload 8 8 → d = leAt r.payload 16 4 → 0 < f → 0 < d → N =
      s.dcoNom c * d / f → 8 ≤ N → N ≤ 4294967295 → f / Nat.gcd (s.dcoNom c * d % f) f ≤ 16777215 → f ≤ formatMax (byteAt r.payload 3) * d → ∃ t,
      goesTo (.ouSetPlan n) s t ∧ answered n r (leBytes 4 N ++ leBytes 4 (staged t (OU_DIV_NUM_num o)) ++ leBytes 4 (staged t (OU_DIV_DEN_den o))) t ∧
      staged t (OU_DIV_N_n o) = N ∧ s.dcoNom c * d * staged t (OU_DIV_DEN_den o) = f * (N * staged t (OU_DIV_DEN_den o) + staged t (OU_DIV_NUM_num o))
      ∧ staged t (OU_DIV_NUM_num o) < staged t (OU_DIV_DEN_den o) ∧ staged t (OU_CTRL_mode o) = 0 ∧ staged t (OU_CTRL_channel o) = c ∧ staged t
      (OU_CTRL_format o) = byteAt r.payload 3 ∧ staged t (OU_CTRL_enable o) = flag (bitOf (byteAt r.payload 4) 0) ∧ staged t (OU_CTRL_comp_en o) =
      flag (bitOf (byteAt r.payload 4) 1) ∧ staged t (OU_CTRL_off_state o) = flag (bitOf (byteAt r.payload 4) 2) ∧ staged t (OU_CTRL_invert o) = flag
      (bitOf (byteAt r.payload 4) 3) ∧ onlyParts [.regs, .pend, .mbox, .mp, .host, .sent] s t) ∧
(∀ (n : Fin 4) (r : MbReq) (o : Fin 18) (c : Fin 6) (s : State), serving n 0x1100 r s → r.payload.length = 24 → byteAt r.payload 0 = o.val → byteAt
      r.payload 1 = c.val → s.outHere o = true → c.val < s.chans → byteAt r.payload 3 ≤ 5 → byteAt r.payload 4 ≤ 15 → leAt r.payload 5 3 = 0 → leAt
      r.payload 20 4 = 0 → byteAt r.payload 2 = 1 → pulseOk (leAt r.payload 8 4) (leAt r.payload 12 4) = true → leAt r.payload 16 4 = 0 → ∃ t, goesTo
      (.ouSetPlan n) s t ∧ answered n r (leBytes 4 (s.get (OU_DIV_N_n o)) ++ leBytes 4 (s.get (OU_DIV_NUM_num o)) ++ leBytes 4 (s.get (OU_DIV_DEN_den
      o))) t ∧ staged t (OU_PULSE_PER_period_ns o) = leAt r.payload 8 4 ∧ staged t (OU_PULSE_W_width_ns o) = leAt r.payload 12 4 ∧ staged t
      (OU_CTRL_mode o) = 1 ∧ staged t (OU_CTRL_channel o) = c ∧ staged t (OU_CTRL_format o) = byteAt r.payload 3 ∧ staged t (OU_CTRL_enable o) = flag
      (bitOf (byteAt r.payload 4) 0) ∧ staged t (OU_CTRL_comp_en o) = flag (bitOf (byteAt r.payload 4) 1) ∧ staged t (OU_CTRL_off_state o) = flag
      (bitOf (byteAt r.payload 4) 2) ∧ staged t (OU_CTRL_invert o) = flag (bitOf (byteAt r.payload 4) 3) ∧ onlyParts [.regs, .pend, .mbox, .mp, .host,
      .sent] s t) ∧
(∀ (n : Fin 4) (r : MbReq) (s : State), serving n 0x1101 r s → r.payload.length = 4 → byteAt r.payload 3 = 0 → leAt r.payload 0 3 < 2 ^ 18 → ∀ o :
      Nat, o < 18 → bitOf (leAt r.payload 0 3) o = true → s.outHere o = true → ∃ t, goesTo (.ouRealignCmd n) s t ∧ answered n r [] t ∧ t.ou =
      { s.ou with realign := s.ou.realign ++ [(leAt r.payload 0 3 % 2 ^ 18, s.clk)] } ∧ (∀ o : Nat, o < 18 → bitOf (leAt r.payload 0 3) o = true →
      s.outHere o = true → s.isGen o = true → s.on (OU_CTRL_enable o) = true → t.on (OU_STAT_realign_pending o) = true) ∧ onlyParts [.regs, .ou,
      .mbox, .mp, .host, .sent] s t) ∧
(∀ (n : Fin 4) (r : MbReq) (o : Fin 18) (s : State), serving n 0x1101 r s → r.payload.length = 4 → byteAt r.payload 3 = 0 → leAt r.payload 0 3 < 2 ^
      18 → bitOf (leAt r.payload 0 3) o = true → s.outHere o = false → ∃ t, goesTo (.ouRealignCmd n) s t ∧ rejected n r noInstance t ∧ onlyParts
      [.regs, .mbox, .mp, .host, .sent] s t) ∧
(∀ (m : Master) (v : Word) (s : State), reaches m s → ∃ t, goesTo (.ouRealignWrite m v) s t ∧ t.ou =
      { s.ou with realign := s.ou.realign ++ [(v.toNat % 2 ^ 18, s.clk)] } ∧ (∀ o : Nat, o < 18 → bitOf (v.toNat) o = true → s.outHere o = true →
      s.isGen o = true → s.on (OU_CTRL_enable o) = true → t.on (OU_STAT_realign_pending o) = true) ∧ onlyParts [.regs, .ou, .host, .sent] s t) ∧
(∀ (n : Fin 4) (r : MbReq) (o : Fin 18) (s : State), serving n 0x1102 r s → r.payload.length = 4 → byteAt r.payload 0 = o.val → s.outHere o = true →
      leAt r.payload 1 3 = 0 → ∃ t, goesTo (.ouGetStatus n) s t ∧ answered n r (leBytes 1 (bitsOf (s.rd (OU_STAT o)) 6 0) ++ leBytes 1 (s.get
      (OU_CTRL_channel o)) ++ leBytes 1 (flag (s.isGen o)) ++ leBytes 1 (s.get (OU_CTRL_format o)) ++ leBytes 4 (s.get (OU_DIV_N_n o)) ++ leBytes 4
      (s.get (OU_DIV_NUM_num o)) ++ leBytes 4 (s.get (OU_DIV_DEN_den o)) ++ leBytes 4 (twos 32 (signed 32 (s.get (OU_PULSE_ERR_err o)) * 1000 /
      65536)) ++ leBytes 4 (s.get (OU_PATH_DLY_dly o) * 1000 / 65536)) t ∧ onlyParts [.regs, .mbox, .mp, .host, .sent] s t) ∧
(∀ (g : Fin 18) (back : Fin 104858) (k : Gen) (e : Int) (s : State), s.up → s.outHere g = true → s.isGen g = true → s.outRuns g = true → k = s.genOf g
      → k.live = true → k.align.all (fun x => decide (s.tb16 - back.val < s.oldPhaseEnd g x.1)) = true → s.gated g = false → e = (s.tb16 - back.val -
      k.ofs + s.gridPer g / 2) % s.gridPer g - s.gridPer g / 2 → ∃ t, goesTo (.pulseEdge g back) s t ∧ Sent.pulse g (s.on (OU_CTRL_invert g)) (s.get
      (OU_PULSE_W_width_ns g)) ∈ t.sent ∧ t.genOf g =
      { k with count := k.count + (s.get (OU_PULSE_PER_period_ns g) * s.dcoNom (s.outCh g) * 64 + k.rest) / 1000000000, rest := (s.get (OU_PULSE_PER_period_ns g) * s.dcoNom (s.outCh g) * 64 + k.rest) % 1000000000 }
      ∧ t.get (OU_PULSE_ERR_err g) = twos 32 (satSigned 32 e) ∧ (s.get (OU_PULSE_THR_thr_ps g) * 65536 < e.natAbs * 1000 → s.on (OU_STAT_unaligned g)
      = false → t.on (OU_STAT_unaligned g) = true ∧ t.on OU_INT_STAT_unaligned = true ∧ t.bit OU_EVT g = true) ∧ onlyChanges [OU_PULSE_ERR g, OU_STAT
      g, OU_INT_STAT, OU_EVT] [.ou] s t) ∧
(∀ (g : Fin 18) (back : Fin 104858) (k : Gen) (s : State), s.up → s.outHere g = true → s.isGen g = true → s.outRuns g = true → k = s.genOf g → k.live
      = true → k.align.all (fun x => decide (s.tb16 - back.val < s.oldPhaseEnd g x.1)) = true → s.gated g = true → ∃ t, goesTo (.pulseEdge g back) s t
      ∧ t.genOf g =
      { k with count := k.count + (s.get (OU_PULSE_PER_period_ns g) * s.dcoNom (s.outCh g) * 64 + k.rest) / 1000000000, rest := (s.get (OU_PULSE_PER_period_ns g) * s.dcoNom (s.outCh g) * 64 + k.rest) % 1000000000 }
      ∧ onlyChanges [] [.ou] s t) ∧
(∀ (g : Fin 18) (back : Fin 104858) (k : Gen) (line ofs e : Int) (s : State), s.up → s.outHere g = true → s.isGen g = true → s.outRuns g = true → k =
      s.genOf g → k.align = some (line, ofs) → s.oldPhaseEnd g line ≤ s.tb16 - back.val → e = (s.tb16 - back.val - ofs + s.gridPer g / 2) % s.gridPer
      g - s.gridPer g / 2 → ∃ t, goesTo (.pulseEdge g back) s t ∧ (t.genOf g).live = true ∧ (t.genOf g).align = none ∧ (t.genOf g).ofs = ofs ∧ t.on
      (OU_STAT_aligned_suspect g) = s.on TB_STAT_suspect ∧ t.on OU_INT_STAT_realign_done = true ∧ t.bit OU_EVT g = true ∧ (s.gated g = false → t.get
      (OU_PULSE_ERR_err g) = twos 32 (satSigned 32 e)) ∧ (e.natAbs * 1000 ≤ s.get (OU_PULSE_THR_thr_ps g) * 65536 → t.on (OU_STAT_unaligned g) =
      false) ∧ onlyChanges [OU_PULSE_ERR g, OU_STAT g, OU_INT_STAT, OU_EVT] [.ou] s t) ∧
(∀ (s : State), s.up → ∃ t, goesTo (.pathDelayUpdate) s t ∧ onlyChanges ((List.range 18).map OU_PATH_DLY) [.free] s t)

/-- Event edges are timestamped, counted and queued; groups pair them with the nearest stops; reads take the heads. -/
def Obligations.EventTimestamps : Prop :=
(∀ (i : Fin 8) (falling : Bool) (phase : Fin 4) (bin : Fin 512) (s : State), s.up → i.val < s.evts → s.on (EV_STAT_cal_busy i) = true → ∃ t, goesTo
      (.evtEdge i falling phase bin) s t ∧ t.get (EV_CAL_LOST_count i) = min (2 ^ 32 - 1) (s.get (EV_CAL_LOST_count i) + 1) ∧ onlyChanges [EV_CAL_LOST
      i] [] s t) ∧
(∀ (i : Fin 8) (falling : Bool) (phase : Fin 4) (bin : Fin 512) (s : State), s.up → i.val < s.evts → s.on (EV_STAT_cal_busy i) = false → s.evSelects i
      falling = true → (s.evInput i).dead (s.evLocal i phase bin) = true → ∃ t, goesTo (.evtEdge i falling phase bin) s t ∧ t.get (EV_CNT_overrun i) =
      min 0xFFFF (s.get (EV_CNT_overrun i) + 1) ∧ t.on EV_INT_STAT_overrun = true ∧ onlyChanges [EV_CNT i, EV_INT_STAT] [] s t) ∧
(∀ (i : Fin 8) (falling : Bool) (phase : Fin 4) (bin : Fin 512) (s : State), s.up → i.val < s.evts → s.on (EV_STAT_cal_busy i) = false → s.evSelects i
      falling = true → (s.evInput i).dead (s.evLocal i phase bin) = false → (s.evInput i).skipped < s.get (EV_IN_CFG_decim i) → ∃ t, goesTo (.evtEdge
      i falling phase bin) s t ∧ t.get (EV_EDGES_count i) = (s.get (EV_EDGES_count i) + 1) % 2 ^ 32 ∧ t.evInput i =
      { s.evInput i with last := some (s.evLocal i phase bin), skipped := (s.evInput i).skipped + 1 } ∧ onlyChanges [EV_EDGES i] [.evIn] s t) ∧
(∀ (i : Fin 8) (falling : Bool) (phase : Fin 4) (bin : Fin 512) (s : State), s.up → i.val < s.evts → s.on (EV_STAT_cal_busy i) = false → s.evSelects i
      falling = true → (s.evInput i).dead (s.evLocal i phase bin) = false → s.get (EV_IN_CFG_decim i) ≤ (s.evInput i).skipped → s.on
      (EV_IN_CFG_ts_fifo i) = true → (s.evInput i).fifo.length < 64 → ∃ t, goesTo (.evtEdge i falling phase bin) s t ∧ (t.evInput i).fifo = (s.evInput
      i).fifo ++ [⟨s.evAtBalls i phase bin - signed 32 (s.get (EV_IN_ADJ_adj i)), (s.get (EV_EDGES_count i) + 1) % 2 ^ 32, falling, s.on
      TB_STAT_suspect, s.get TB_STEP_CNT_count⟩] ∧ t.get (EV_STAT_fifo_count i) = (s.evInput i).fifo.length + 1 ∧ (t.evInput i).last = some (s.evLocal
      i phase bin) ∧ (t.evInput i).skipped = 0 ∧ t.get (EV_EDGES_count i) = (s.get (EV_EDGES_count i) + 1) % 2 ^ 32 ∧ (∀ g : Nat, g < 8 → (t.evGroup
      g).starts = (if s.grpRuns g = true ∧ s.get (EV_GRP_CFG_start g) = i then (s.evGroup g).starts ++ [⟨s.evAtBalls i phase bin - signed 32 (s.get
      (EV_IN_ADJ_adj i)), (s.get (EV_EDGES_count i) + 1) % 2 ^ 32, falling, s.on TB_STAT_suspect, s.get TB_STEP_CNT_count⟩] else (s.evGroup
      g).starts)) ∧ onlyChanges [EV_EDGES i, EV_STAT i, EV_RES_RDY] [.evIn, .evGrp] s t) ∧
(∀ (i : Fin 8) (falling : Bool) (phase : Fin 4) (bin : Fin 512) (s : State), s.up → i.val < s.evts → s.on (EV_STAT_cal_busy i) = false → s.evSelects i
      falling = true → (s.evInput i).dead (s.evLocal i phase bin) = false → s.get (EV_IN_CFG_decim i) ≤ (s.evInput i).skipped → s.on
      (EV_IN_CFG_ts_fifo i) = true → 64 ≤ (s.evInput i).fifo.length → ∃ t, goesTo (.evtEdge i falling phase bin) s t ∧ (t.evInput i).fifo = (s.evInput
      i).fifo ∧ t.get (EV_CNT_fifo_ovf i) = min 0xFFFF (s.get (EV_CNT_fifo_ovf i) + 1) ∧ t.on EV_INT_STAT_fifo_ovf = true) ∧
(∀ (m : Master) (i : Fin 8) (x : Stamp) (l : List Stamp) (s : State), reaches m s → i.val < s.evts → (s.evInput i).fifo = x :: l → ∃ t, goesTo
      (.evTsRead m i) s t ∧ Sent.readData m (EV_TS i) (some (BitVec.ofNat 32 (x.seq % 2 ^ 16 + flag x.falling * 2 ^ 16 + flag x.suspect * 2 ^ 17 +
      l.length * 2 ^ 24 + 2 ^ 31))) ∈ t.sent ∧ t.evInput i = { s.evInput i with fifo := l } ∧ t.get (EV_STAT_fifo_count i) = l.length % 128 ∧ t.get
      (EV_TS_SEC_sec_lo i) = (stampTime x.t).sec % 2 ^ 32 ∧ t.get (EV_TS_NS_ns i) = (stampTime x.t).ns % 2 ^ 30 ∧ t.get (EV_TS_W2_frac i) = (stampTime
      x.t).frac16 % 2 ^ 16 ∧ onlyChanges [EV_STAT i, EV_TS_SEC i, EV_TS_W2 i, EV_TS_NS i] [.evIn] s t) ∧
(∀ (g : Fin 8) (x : Stamp) (l : List Stamp) (s : State), s.up → (s.evGroup g).starts = x :: l → x.t + s.grpWin g ≤ ((s.tb.toNat / 2 ^ 16 : Nat) : Int)
      → (s.evGroup g).fifo.length < 64 → ∃ t, goesTo (.evGroupResult g) s t ∧ t.evGroup g =
      { starts := l, fifo := (s.evGroup g).fifo ++ [s.grpResult g x] } ∧ t.on EV_INT_STAT_res_ready = true ∧ t.bit EV_RES_RDY g = true ∧ onlyChanges
      [EV_RES_RDY, EV_INT_STAT] [.evGrp] s t) ∧
(∀ (g : Fin 8) (x : Stamp) (l : List Stamp) (s : State), s.up → (s.evGroup g).starts = x :: l → x.t + s.grpWin g ≤ ((s.tb.toNat / 2 ^ 16 : Nat) : Int)
      → 64 ≤ (s.evGroup g).fifo.length → ∃ t, goesTo (.evGroupResult g) s t ∧ t.evGroup g = { s.evGroup g with starts := l } ∧ t.get (EV_GRP_OVF_count
      g) = min (2 ^ 32 - 1) (s.get (EV_GRP_OVF_count g) + 1) ∧ t.on EV_INT_STAT_res_ovf = true) ∧
(∀ (m : Master) (g : Fin 8) (x : EvResult) (l : List EvResult) (s : State), reaches m s → (s.evGroup g).fifo = x :: l → ∃ t, goesTo (.evResRead m g) s
      t ∧ Sent.readData m (EV_RES g) (some (BitVec.ofNat 32 (x.seq % 2 ^ 16 + l.length * 2 ^ 16 + flag x.stale * 2 ^ 28 + flag x.stepped * 2 ^ 29 +
      flag x.suspect * 2 ^ 30 + 2 ^ 31))) ∈ t.sent ∧ t.evGroup g = { s.evGroup g with fifo := l } ∧ t.get (EV_RES_SEC_sec_lo g) = (stampTime
      x.start).sec % 2 ^ 32 ∧ (∀ i : Nat, i < x.stops.length → i < 8 → t.get (EV_RES_MAG_LO_mag_lo g i) = (x.stops.getD i ⟨0, false, false, true⟩).mag
      % 2 ^ 32 ∧ t.on (EV_RES_MAG_HI_sign g i) = (x.stops.getD i ⟨0, false, false, true⟩).sign ∧ t.on (EV_RES_MAG_HI_missing g i) = (x.stops.getD i
      ⟨0, false, false, true⟩).missing) ∧ onlyParts [.regs, .evGrp, .host, .sent] s t) ∧
(∀ (kept : List Stamp) (a w : Int) (x : Stamp), pairStop kept a w = some x → x ∈ kept ∧ ((x.t - a).natAbs : Int) ≤ w ∧ ∀ y, y ∈ kept → ((y.t -
      a).natAbs : Int) ≤ w → (x.t - a).natAbs ≤ (y.t - a).natAbs)

/-- Measurement groups are configured, and TDC calibrations start, end and give tables. -/
def Obligations.GroupsAndCalibrations : Prop :=
(∀ (m : Master) (g : Fin 8) (win : Bool) (v : Word) (s : State), reaches m s → ∃ t, goesTo (.evGrpCfgWrite m g win v) s t ∧ (t.evGroup g).starts = []
      ∧ (t.evGroup g).fifo = (s.evGroup g).fifo ∧ (win = false → t.get (EV_GRP_CFG_enable g) = bitsOf v 0 0 ∧ t.get (EV_GRP_CFG_start g) = bitsOf v 3
      1 ∧ t.get (EV_GRP_CFG_stop_mask g) = bitsOf v 15 8) ∧ (win = true → t.get (EV_GRP_WIN_window_ns g) = bitsOf v 29 0) ∧ t.on (EV_GRP_CFG_cfg_err
      g) = t.grpNamesAbsent g ∧ onlyChanges [EV_GRP_CFG g, EV_GRP_WIN g, EV_RES_RDY] [.evGrp] s t) ∧
(∀ (n : Fin 4) (r : MbReq) (g : Fin 8) (s : State), serving n 0x1200 r s → r.payload.length = 12 → byteAt r.payload 0 = g.val → byteAt r.payload 1 ≤ 1
      → byteAt r.payload 2 < s.evts → byteAt r.payload 3 < 2 ^ s.evts → 1 ≤ leAt r.payload 4 4 → leAt r.payload 4 4 ≤ 1000000000 → leAt r.payload 8 4
      = 0 → ∃ t, goesTo (.evSetGroup n) s t ∧ answered n r [] t ∧ t.get (EV_GRP_CFG_enable g) = byteAt r.payload 1 ∧ t.get (EV_GRP_CFG_start g) =
      byteAt r.payload 2 ∧ t.get (EV_GRP_CFG_stop_mask g) = byteAt r.payload 3 ∧ t.get (EV_GRP_WIN_window_ns g) = leAt r.payload 4 4 ∧ (t.evGroup
      g).starts = [] ∧ (t.evGroup g).fifo = (s.evGroup g).fifo ∧ onlyParts [.regs, .evGrp, .mbox, .mp, .host, .sent] s t) ∧
(∀ (m : Master) (i : Fin 8) (v : Word) (s : State), reaches m s → i.val < s.evts → bitOf v.toNat 0 = true → s.tdcBusy i = false → ∃ t, goesTo
      (.evCalWrite m i v) s t ∧ t.on (EV_STAT_cal_busy i) = true ∧ t.on (EV_STAT_cal_stale i) = true ∧ t.tdc.run.get none i = some s.clk ∧ onlyChanges
      [EV_STAT i] [.tdc, .evIn] s t) ∧
(∀ (m : Master) (i : Fin 8) (v : Word) (s : State), reaches m s → i.val < s.evts → s.tdcBusy i = true → ∃ t, goesTo (.evCalWrite m i v) s t ∧
      onlyChanges [] [] s t) ∧
(∀ (i : Fin 8) (hits : List Nat) (residual : Nat) (k : Fin 5) (s : State), s.up → s.tdcBusy i = true → s.tdcGood i hits residual = true → nearSet
      s.lid = some k.val → ∃ t, goesTo (.evCalEnd i hits residual) s t ∧ t.on EV_INT_STAT_cal_done = true ∧ t.on (EV_STAT_cal_busy i) = false ∧ t.on
      (EV_STAT_cal_stale i) = false ∧ t.get (EV_CAL_Q_residual i) = residual ∧ t.get (EV_CAL_Q_temp i) = twos 16 s.lid ∧ t.tdcBusy i = false ∧
      t.liveSet i = none ∧ t.binSet i k = ⟨s.lid, residual, (s.tableInUse i).first, (s.tableInUse i).last, (List.range 512).map fun b => hits.getD b 0
      * 400000 / max 1 hits.sum % 2 ^ 16⟩) ∧
(∀ (i : Fin 8) (hits : List Nat) (residual : Nat) (s : State), s.up → s.tdcBusy i = true → s.tdcGood i hits residual = true → nearSet s.lid = none → ∃
      t, goesTo (.evCalEnd i hits residual) s t ∧ t.on EV_INT_STAT_cal_done = true ∧ t.on (EV_STAT_cal_busy i) = false ∧ t.tdcBusy i = false ∧
      t.liveSet i = some ⟨s.lid, residual, (s.tableInUse i).first, (s.tableInUse i).last, (List.range 512).map fun b => hits.getD b 0 * 400000 / max 1
      hits.sum % 2 ^ 16⟩ ∧ t.on (EV_STAT_live_set i) = true) ∧
(∀ (i : Fin 8) (hits : List Nat) (residual : Nat) (s : State), s.up → s.tdcBusy i = true → s.tdcGood i hits residual = false → ∃ t, goesTo (.evCalEnd
      i hits residual) s t ∧ t.on EV_INT_STAT_cal_fail = true ∧ t.on (EV_STAT_cal_busy i) = false ∧ t.tdcBusy i = false ∧ t.tdc.sets = s.tdc.sets) ∧
(∀ (m : Master) (c : Fin 6) (v : Word) (s : State), reaches m s → c.val < s.chans → bitOf v.toNat 0 = true → s.tdcBusy (8 + c.val) = false → s.on
      (TC_STAT_resetting c) = false → ∃ t, goesTo (.tcTdcCalWrite m c v) s t ∧ t.on (TC_STAT_tdc_cal c) = true ∧ t.on (TC_STAT_stale c) = true ∧
      t.tdc.run.get none (8 + c.val) = some s.clk ∧ onlyParts [.regs, .tdc, .chan, .ou, .host, .sent] s t) ∧
(∀ (c : Fin 6) (hits : List Nat) (residual : Nat) (s : State), s.up → s.tdcBusy (8 + c.val) = true → ∃ t, goesTo (.tdcCalEnd c hits residual) s t ∧
      t.get (TC_TDC_Q_residual c) = min residual 0xFFFF ∧ t.get (TC_TDC_Q_temp c) = twos 16 s.lid ∧ t.on (TC_STAT_tdc_cal c) = false ∧ t.on
      (TC_INT_STAT_tdc_cal_done c) = true ∧ t.tdcBusy (8 + c.val) = false ∧ (s.tdcGood (8 + c.val) hits residual = false → t.tdc.sets = s.tdc.sets)) ∧
(∀ (s : State), s.up → ∃ t, goesTo (.tdcTableUpdate) s t ∧ (∀ k : Nat, k < 14 → t.tdc.temp.get 0 k = s.lid ∧ t.liveSet k = (s.liveSet k).filter (fun b
      => decide ((s.lid - b.temp).natAbs ≤ 40))) ∧ (∀ k : Nat, k < 14 → ∀ j : Nat, j < 5 → t.binSet k j = s.binSet k j) ∧ onlyChanges ((List.range
      8).map EV_STAT) [.tdc] s t) ∧
(∀ (n : Fin 4) (r : MbReq) (k : Fin 14) (s : State), serving n 0x1201 r s → r.payload.length = 4 → byteAt r.payload 0 = tdcCode k → s.tdcHere k = true
      → leAt r.payload 1 3 = 0 → s.tdcFree k = true → ∃ t, goesTo (.evCalStartCmd n) s t ∧ answered n r [] t ∧ t.tdc.run.get none k = some s.clk ∧
      onlyParts [.regs, .tdc, .chan, .evIn, .ou, .mbox, .mp, .host, .sent] s t) ∧
(∀ (n : Fin 4) (r : MbReq) (k : Fin 14) (b : BinSet) (s : State), serving n 0x1202 r s → r.payload.length = 4 → byteAt r.payload 0 = tdcCode k →
      s.tdcHere k = true → byteAt r.payload 1 ≤ 6 → leAt r.payload 2 2 = 0 → (if byteAt r.payload 1 = 6 then s.liveSet k else if byteAt r.payload 1 =
      5 then some (s.tableInUse k) else some (s.binSet k (byteAt r.payload 1))) = some b → ∃ t, goesTo (.evGetCalTable n) s t ∧ answered n r (leBytes
      2 (twos 16 b.temp) ++ leBytes 2 b.residual ++ leBytes 2 b.first ++ leBytes 2 b.last ++ (b.widths.map fun w => leBytes 2 w).flatten) t ∧
      onlyParts [.regs, .mbox, .mp, .host, .sent] s t) ∧
(∀ (n : Fin 4) (r : MbReq) (k : Fin 14) (j : Fin 5) (s : State), serving n 0x1203 r s → r.payload.length = 1032 → byteAt r.payload 0 = tdcCode k →
      s.tdcHere k = true → byteAt r.payload 1 = j.val → leAt r.payload 2 2 = 0 → leAt r.payload 6 2 ≤ 511 → leAt r.payload 4 2 ≤ leAt r.payload 6 2 →
      s.tdcBusy k = false → ((List.range 512).map fun b => leAt r.payload (8 + 2 * b) 2).sum * 100 ≤ s.tdcSpan k * 105 → s.tdcSpan k * 95 ≤
      ((List.range 512).map fun b => leAt r.payload (8 + 2 * b) 2).sum * 100 → k.val < 8 → ∃ t, goesTo (.evSetCalTable n) s t ∧ answered n r [] t ∧
      t.binSet k j = (⟨setTemp j, (s.binSet k j).residual, leAt r.payload 4 2, leAt r.payload 6 2, ((List.range 512).map fun b => leAt r.payload (8 +
      2 * b) 2)⟩ : BinSet) ∧ onlyParts [.regs, .tdc, .mbox, .mp, .host, .sent] s t) ∧
(∀ (n : Fin 4) (r : MbReq) (k : Fin 14) (j : Fin 5) (s : State), serving n 0x1203 r s → r.payload.length = 1032 → byteAt r.payload 0 = tdcCode k →
      s.tdcHere k = true → byteAt r.payload 1 = j.val → leAt r.payload 2 2 = 0 → leAt r.payload 6 2 ≤ 511 → leAt r.payload 4 2 ≤ leAt r.payload 6 2 →
      s.tdcBusy k = false → ((List.range 512).map fun b => leAt r.payload (8 + 2 * b) 2).sum * 100 ≤ s.tdcSpan k * 105 → s.tdcSpan k * 95 ≤
      ((List.range 512).map fun b => leAt r.payload (8 + 2 * b) 2).sum * 100 → 8 ≤ k.val → ∃ t, goesTo (.evSetCalTable n) s t ∧ answered n r [] t ∧
      t.tdc =
      { s.tdc with wait := s.tdc.wait ++ [(k.val, j.val, (⟨setTemp j, (s.binSet k j).residual, leAt r.payload 4 2, leAt r.payload 6 2, ((List.range 512).map fun b => leAt r.payload (8 + 2 * b) 2)⟩ : BinSet))] }
      ∧ onlyParts [.regs, .tdc, .mbox, .mp, .host, .sent] s t)

/-- A standby takes the copy of each STATE frame, and checks it; an active module notices a second active; missing frames are retried. -/
def Obligations.GalleryStates : Prop :=
(∀ (lane : Fin 2) (f : GalFrame) (x : GalState) (ing rt : Int) (mon : Option (Fin 4 × Int)) (s : State), s.up → s.twState = 5 → s.tw.galLost = false →
      s.pairFault f.hdr = none → s.secondCopy lane f = false → s.tw.needSync = false → s.tw.missed = 0 → s.tw.late = none → f.body = .state x →
      x.digest = s.twDigest → f.hdr.fault = false → f.hdr.resync = false → ∃ t, goesTo (.galStateReceive lane f ing rt mon) s t ∧ t.twState = 5 ∧
      t.tw.hdr = some f.hdr ∧ t.tw.copy = some x ∧ t.tw.ack = f.hdr.cycle ∧ t.tw.okCh = x.okCh ∧ t.tw.ofs62 = some (s.sample62 (s.coarse62 x ing rt))
      ∧ t.refActive 62 = true ∧ t.get TW_STAT_partner_state = f.hdr.state % 8 ∧ t.on TW_STAT_partner_self_ok = f.hdr.selfOk ∧ (∀ l : Nat, l < s.lanes
      → (x.links[l]?).all (fun g => decide (t.get (TW_PX_COPY_state l) = g.state % 8 ∧ t.get (TW_PX_COPY_far_node l) = g.node % 2 ^ 16 ∧ t.get
      (TW_PX_COPY_L_TX_v l) = g.calTx % 2 ^ 32 ∧ t.get (TW_PX_COPY_ASYM_v l) = g.asym % 2 ^ 32)) = true)) ∧
(∀ (lane : Fin 2) (f : GalFrame) (x : GalState) (ing rt : Int) (mon : Option (Fin 4 × Int)) (s : State), s.up → s.twState = 5 → s.tw.galLost = false →
      s.pairFault f.hdr = none → s.secondCopy lane f = false → f.body = .state x → x.digest ≠ s.twDigest → ∃ t, goesTo (.galStateReceive lane f ing rt
      mon) s t ∧ t.twState = 6 ∧ t.get TW_STAT_fault_cause = 3 ∧ t.on TW_INT_STAT_cfg_mismatch = true ∧ t.tw.copy = some x) ∧
(∀ (lane : Fin 2) (f : GalFrame) (x : GalState) (ing rt : Int) (mon : Option (Fin 4 × Int)) (s : State), s.up → s.twState = 2 ∨ s.twState = 3 →
      s.secondCopy lane f = false → f.body = .state x → f.hdr.state = 2 ∨ f.hdr.state = 3 → ∃ t, goesTo (.galStateReceive lane f ing rt mon) s t ∧
      t.on TW_STAT_split_brain = true ∧ t.on TW_INT_STAT_split_brain = true ∧ (s.on TW_STAT_seat = false → t.twState = s.twState) ∧ (s.on TW_STAT_seat
      = true → s.on TW_STAT_gal0_up = true → t.twState = 4 ∧ t.on TW_INT_STAT_released = true ∧ galsOut t = GalBody.release 6 :: galsOut s ∧ t.get
      TW_FO_cause = 6)) ∧
(∀ (s : State), s.up → s.twState = 3 ∨ s.twState = 4 ∨ s.twState = 5 ∨ s.twState = 6 → s.tw.galLost = false → s.tw.missed = 0 → ∃ t, goesTo
      (.galStateMissing) s t ∧ t.tw = { s.tw with missed := 1, nak := if s.isStandby then some (s.tb.cycle % 2 ^ 32) else none } ∧ onlyChanges []
      [.tw] s t) ∧
(∀ (s : State), s.up → s.twState = 3 ∨ s.twState = 4 ∨ s.twState = 5 ∨ s.twState = 6 → s.tw.galLost = false → 0 < s.tw.missed → s.on TW_STAT_hb_ok =
      true → ∃ t, goesTo (.galStateMissing) s t ∧ t.tw.galLost = true ∧ t.refActive 62 = false ∧ t.get TW_CNT_GAL_lasting = min 0xFFFF (s.get
      TW_CNT_GAL_lasting + 1) ∧ t.on TW_INT_STAT_gal_lasting = true ∧ t.twState = (if s.twState = 3 then 3 else 6) ∧ (s.twState = 4 ∨ s.twState = 5 →
      t.get TW_STAT_fault_cause = 1))

/-- DELTA, BULK, ELECT, TAKEOVER, RELEASE and REPLY frames act as R390 to R403 say. -/
def Obligations.GalleryFrames : Prop :=
(∀ (lane : Fin 2) (f : GalFrame) (w : Word × Word × Word × Word) (loc : Nat) (s : State), s.up → s.twState = 5 → s.tw.galLost = false → s.pairFault
      f.hdr = none → s.secondCopy lane f = false → s.tw.late ≠ some f.hdr.cycle → f.body = .delta [w] → (entOfWords w).valid1 = true → s.macFind
      (entOfWords w).fid (entOfWords w).addr = some loc → ∃ t, goesTo (.galDeltaReceive (lane, f)) s t ∧ t.ent 0 loc = entOfWords w ∧ t.tw.hdr = some
      f.hdr ∧ onlyParts [.regs, .ft, .tw, .host, .sent] s t) ∧
(∀ (lane : Fin 2) (f : GalFrame) (w : Word × Word × Word × Word) (loc : Nat) (s : State), s.up → s.twState = 5 → s.tw.galLost = false → s.pairFault
      f.hdr = none → s.secondCopy lane f = false → s.tw.late ≠ some f.hdr.cycle → f.body = .delta [w] → (entOfWords w).valid1 = false → s.macFind
      (entOfWords w).fid (entOfWords w).addr = some loc → (s.ent 0 loc).fixed = false → ∃ t, goesTo (.galDeltaReceive (lane, f)) s t ∧ (t.ent 0
      loc).valid1 = false ∧ (∀ k : Nat, k < 524288 → k ≠ loc → t.ent 0 k = s.ent 0 k)) ∧
(∀ (lane : Fin 2) (f : GalFrame) (q : Nat) (l : List (Word × Word × Word × Word)) (s : State), s.up → s.twState = 5 → s.tw.galLost = false →
      s.pairFault f.hdr = none → s.secondCopy lane f = false → f.body = .bulkMac q l → s.on TW_STAT_resync_busy = true → ∃ t, goesTo (.galBulkReceive
      (lane, f)) s t ∧ t.get TW_RESYNC_entries = (s.get TW_RESYNC_entries + l.length) % 2 ^ 20 ∧ t.tw.hdr = some f.hdr ∧ t.twState = 5) ∧
(∀ (lane : Fin 2) (f : GalFrame) (q c : Nat) (l : List HoRec) (s : State), s.up → s.twState = 5 → s.tw.galLost = false → s.pairFault f.hdr = none →
      s.secondCopy lane f = false → f.body = .bulkHo q c true l → s.twChan c = true → l = [] ∨ (s.chanOf c).hist.h15 = [] → l.length ≤ 1 → ∃ t, goesTo
      (.galBulkReceive (lane, f)) s t ∧ (t.chanOf c).hist.h15 = (if l = [] then (s.chanOf c).hist.h15 else l.map fun r =>
      { r with y := r.y + 1000 * signed 32 (s.get TW_DELTA_delta) }) ∧ (t.chanOf c).hist.h16 = (s.chanOf c).hist.h16) ∧
(∀ (lane : Fin 2) (f : GalFrame) (d : Nat) (s : State), s.up → s.twState ≠ 0 → s.twState ≠ 6 → s.isStandby = false ∨ (s.tw.galLost = false ∧
      s.pairFault f.hdr = none) → f.body = .elect d → s.secondCopy lane f = false → ∃ t, goesTo (.galElectReceive (lane, f)) s t ∧ t.tw.digest = some
      d ∧ t.tw.hdr = some f.hdr ∧ t.tw.elect = true ∧ t.twState = (if s.twState = 2 then 3 else s.twState) ∧ t.get TW_STAT_partner_state = f.hdr.state
      % 8 ∧ onlyParts [.regs, .tw, .ou, .host, .sent] s t) ∧
(∀ (lane : Fin 2) (f : GalFrame) (s : State), s.up → s.twState = 2 ∨ s.twState = 3 → s.secondCopy lane f = false → f.body = .takeover → ∃ t, goesTo
      (.galTakeoverReceive (lane, f)) s t ∧ galsOut t = GalBody.release (t.get TW_FO_cause) :: galsOut s ∧ t.on TW_INT_STAT_released = true ∧
      t.twState = (if s.selfOk then 4 else 6) ∧ (s.selfOk = false → t.get TW_STAT_fault_cause = 2) ∧ t.on TW_STAT_role_act = false ∧ t.get TW_FO_count
      = (s.get TW_FO_count + 1) % 2 ^ 16) ∧
(∀ (lane : Fin 2) (f : GalFrame) (x : Nat) (s : State), s.up → s.twState = 4 ∨ s.twState = 5 ∨ s.twState = 6 → s.secondCopy lane f = false → f.body =
      .release x → x < 16 → s.rootLocked = true → s.tw.taking = none → ∃ t, goesTo (.galReleaseReceive (lane, f)) s t ∧ t.twState = 3 ∧ t.on
      TW_STAT_role_act = true ∧ t.on TW_INT_STAT_takeover = true ∧ t.get TW_FO_cause = x ∧ t.get TW_FO_TIME_sec_lo = s.tb.sec % 2 ^ 32 ∧ t.tw.taking =
      none ∧ t.refActive 62 = false ∧ (∀ c : Nat, c < s.chans → (t.chanOf c).hold62 = false)) ∧
(∀ (lane : Fin 2) (f : GalFrame) (k : Nat) (d y : Int) (e : Stamp16) (s : State), s.up → s.twState = 3 → f.body = .reply k d y e → s.tw.missed = 0 →
      f.hdr.resync = false → s.timeCh < s.chans → s.secondCopy lane f = false → ∃ t, goesTo (.galReplyReceive (lane, f)) s t ∧ t.tw.ack = f.hdr.cycle
      ∧ t.tw.okCh = k ∧ t.tw.declare = !f.hdr.selfOk ∧ t.tw.resend = (if f.hdr.nak = 0xFFFFFFFF ∨ s.deltasGone f.hdr.nak = true then none else some
      f.hdr.nak) ∧ (t.chanOf s.timeCh).partner = some (1000 * (y - d)) ∧ t.twState = 3 ∧ onlyParts [.regs, .tw, .chan, .host, .sent] s t)

/-- Check points, elections, heartbeats, forced roles and fault causes move the twin state. -/
def Obligations.TwinRoles : Prop :=
(∀ (k : Fin 4) (x : Int) (a g0 g1 : Bool) (hb : Option Nat) (s : State), s.up → s.twState = 0 → s.on (TW_MON_CFG_enable k) = true → ∃ t, goesTo
      (.twCheckPoint [(k, x, a)] hb g0 g1) s t ∧ t.on TW_STAT_gal0_up = g0 ∧ t.on TW_STAT_gal1_up = g1 ∧ t.get (TW_MON_STAT_dphi k) = twos 24
      (satSigned 24 ((x - signed 32 (s.rd (TW_MON_ADJ k)).toNat) * 100 / 65536)) ∧ t.on (TW_MON_STAT_active k) = a ∧ t.on (TW_MON_STAT_mismatch k) =
      (!a || decide (s.get (TW_MON_CFG_thr k) * 65536 < (x - signed 32 (s.rd (TW_MON_ADJ k)).toNat).natAbs * 100)) ∧ t.twState = 0 ∧ onlyChanges
      ([TW_STAT, TW_CNT_MON, TW_INT_STAT] ++ (List.range 4).map TW_MON_STAT) [.tw] s t) ∧
(∀ (h : GalHdr) (hb : Option Nat) (g0 g1 : Bool) (s : State), s.up → hbReads hb ≠ some true → s.twState = 1 → s.tw.hdr = some h → s.tw.elect = true →
      h.state = 1 → h.prio < s.get TW_CTRL_prio ∨ (h.prio = s.get TW_CTRL_prio ∧ s.on TW_STAT_seat = false) → s.tw.galLost = false → s.clk <
      s.tw.frameAt + s.waitClk → ∃ t, goesTo (.twCheckPoint [] hb g0 g1) s t ∧ t.twState = 3 ∧ t.on TW_STAT_role_act = true ∧ t.on
      TW_INT_STAT_takeover = true ∧ t.get TW_FO_cause = 7) ∧
(∀ (h : GalHdr) (hb : Option Nat) (g0 g1 : Bool) (s : State), s.up → s.twState = 1 → s.tw.hdr = some h → s.tw.elect = true → h.state = 1 → s.get
      TW_CTRL_prio < h.prio ∨ (h.prio = s.get TW_CTRL_prio ∧ s.on TW_STAT_seat = true) → h.seat ≠ s.on TW_STAT_seat → h.part = s.partCode → s.clk <
      s.tw.frameAt + s.waitClk → (∀ j : Nat, j < 4 → s.on (TW_MON_CFG_enable j) = false) → ∃ t, goesTo (.twCheckPoint [] hb g0 g1) s t ∧ t.twState = 4
      ∧ t.on TW_STAT_resync_busy = true ∧ t.tw.needSync = true) ∧
(∀ (k : Fin 4) (x : Int) (h : GalHdr) (hb : Option Nat) (g0 g1 : Bool) (s : State), s.up → s.twState = 5 → s.tw.hdr = some h → s.tw.taking = none →
      s.tw.missed = 0 → s.tw.galLost = false → s.on (TW_MON_CFG_enable k) = true → s.get (TW_MON_CFG_thr k) * 65536 < (x - signed 32 (s.rd (TW_MON_ADJ
      k)).toNat).natAbs * 100 → s.tw.monRun.get 0 k = 1 → h.selfOk = false → s.clk < s.tw.frameAt + s.waitClk → (∀ j : Nat, j < 4 → j ≠ k.val → s.on
      (TW_MON_CFG_enable j) = false) → ∃ t, goesTo (.twCheckPoint [(k, x, true)] hb g0 g1) s t ∧ t.tw.taking = some 2 ∧ galsOut t = GalBody.takeover
      :: galsOut s ∧ t.get TW_CNT_MON_lasting = min 0xFFFF (s.get TW_CNT_MON_lasting + 1) ∧ t.twState = 5) ∧
(∀ (s : State), s.up → s.twState = 1 → s.tw.hdr = none ∨ s.tw.frameAt + s.waitClk ≤ s.clk → s.on TW_STAT_hb_ok = false → ∃ t, goesTo
      (.electWaitExpiry) s t ∧ t.twState = 2 ∧ t.on TW_STAT_role_act = true ∧ t.get TW_FO_cause = 7) ∧
(∀ (s : State), s.up → s.twState = 1 → s.tw.hdr = none ∨ s.tw.frameAt + s.waitClk ≤ s.clk → s.on TW_STAT_hb_ok = true → s.on TW_STAT_hb_partner_active
      = true → ∃ t, goesTo (.electWaitExpiry) s t ∧ t.twState = 4 ∧ t.tw.needSync = true ∧ t.on TW_STAT_resync_busy = true) ∧
(∀ (s : State), s.up → s.twState = 1 → s.tw.hdr = none ∨ s.tw.frameAt + s.waitClk ≤ s.clk → s.on TW_STAT_hb_ok = true → s.on TW_STAT_hb_partner_active
      = false → ∃ t, goesTo (.electWaitExpiry) s t ∧ t.twState = (if s.on TW_STAT_seat then 6 else 3) ∧ (s.on TW_STAT_seat = true → t.get
      TW_STAT_fault_cause = 1)) ∧
(∀ (s : State), s.up → s.on TW_STAT_hb_ok = true → ∃ t, goesTo (.hbInLost) s t ∧ t.on TW_STAT_hb_ok = false ∧ t.on TW_STAT_hb_partner_active = false ∧
      t.on TW_INT_STAT_hb_lost = true ∧ (s.twState = 3 → s.tw.galLost = true → t.twState = 2 ∧ t.on TW_INT_STAT_partner_absent = true ∧ t.get
      TW_STAT_partner_state = 7) ∧ (s.twState = 3 → s.tw.galLost = false → s.clk < s.tw.frameAt + s.waitClk → t.twState = 3)) ∧
(∀ (x : Nat) (s : State), s.up → s.tw.taking = some x → x < 16 → s.twState = 4 ∨ s.twState = 5 ∨ s.twState = 6 → ∃ t, goesTo (.takeoverReleaseWait) s
      t ∧ t.twState = 3 ∧ t.on TW_STAT_role_act = true ∧ t.on TW_INT_STAT_takeover = true ∧ t.get TW_FO_cause = x ∧ t.tw.taking = none) ∧
(∀ (m : Master) (s : State), reaches m s → guardOpen m s = true → s.twState = 4 ∨ s.twState = 5 ∨ s.twState = 6 → ∃ t, goesTo (.twForceTake m) s t ∧
      galsOut t = GalBody.takeover :: galsOut s ∧ t.tw = { s.tw with taking := some 5 } ∧ onlyChanges [] [.tw] s t) ∧
(∀ (m : Master) (s : State), reaches m s → guardOpen m s = true → s.twState = 3 → s.partnerReady = true → ∃ t, goesTo (.twForceRelease m) s t ∧
      galsOut t = GalBody.release 5 :: galsOut s ∧ t.twState = 4 ∧ t.on TW_STAT_role_act = false ∧ t.on TW_INT_STAT_released = true ∧ t.get
      TW_FO_cause = 5) ∧
(∀ (s : State), s.up → s.twState = 6 → s.faultGone = true → ∃ t, goesTo (.faultCauseExpiry) s t ∧ t.twState = 4 ∧ t.get TW_STAT_fault_cause = 0 ∧
      t.tw.needSync = true ∧ t.on TW_STAT_resync_busy = true) ∧
(∀ (h : GalHdr) (s : State), s.up → s.twState = 4 → s.on TW_STAT_resync_busy = true → s.tw.hdr = some h → h.resync = false → ∃ t, goesTo
      (.resyncComplete) s t ∧ t.on TW_STAT_resync_busy = false ∧ t.on TW_INT_STAT_resync_done = true ∧ t.twState = (if s.tw.needSync then 4 else 5) ∧
      onlyParts [.regs, .ou, .host, .sent] s t)

/-- LACPDUs leave from their templates, and the TW opcodes report and configure the twin. -/
def Obligations.LacpAndTwinOpcodes : Prop :=
(∀ (p : Fin 48) (b : Bytes) (fast : Bool) (s : State), s.up → s.stacksRun = true → s.portSends p = true → s.loopOf p = 0 → ∃ t, goesTo (.lacpduSend p
      b fast) s t ∧ slowOut p (s.lacpPdu p b) t = true ∧ t.tw.templates.get none p = some ⟨b, fast, s.clk⟩ ∧ onlyParts [.regs, .tw, .free, .bw, .sc,
      .host, .sent] s t) ∧
(∀ (p : Fin 48) (b : Bytes) (fast : Bool) (s : State), s.up → s.stacksRun = true → s.portHere p = true → s.portSends p = false → ∃ t, goesTo
      (.lacpduSend p b fast) s t ∧ (t.tw.templates.get none p).map (·.pdu) = some b ∧ (t.tw.templates.get none p).map (·.fast) = some fast ∧
      onlyChanges [] [.tw] s t) ∧
(∀ (p : Fin 48) (x : Template) (s : State), s.up → s.on MB_EPOCH_mp_running = false → s.portSends p = true → s.loopOf p = 0 → s.tw.templates.get none
      p = some x → s.lacpOverdue p = true → ∃ t, goesTo (.lacpduTemplateSend p) s t ∧ slowOut p (s.lacpPdu p x.pdu) t = true ∧ t.tw.templates.get none
      p = some { x with at' := s.clk } ∧ onlyParts [.regs, .tw, .free, .bw, .sc, .host, .sent] s t) ∧
(∀ (c : Fin 32) (p : Fin 48) (b : Bytes) (fast : Bool) (x : Pkt) (s : State), s.up → s.mpFrame c = some x → x.sysClass = 3 → ∃ t, goesTo
      (.lacpduReceive c [(p, b, fast)]) s t ∧ (t.tw.templates.get none p).map (·.pdu) = some b ∧ (t.tw.templates.get none p).map (·.fast) = some fast
      ∧ t.queueOf (384 + c.val) = (s.mpTakes.queueOf (384 + c.val)) ∧ onlyParts [.regs, .sc, .tw, .host, .sent] s t) ∧
(∀ (n : Fin 4) (r : MbReq) (s : State), serving n 0x3000 r s → r.payload = [] → ∃ t, goesTo (.twGetStatus n) s t ∧ answered n r (bytes [s.twState,
      s.get TW_STAT_partner_state, (s.get TW_STAT_seat + 2 * s.get TW_STAT_gal0_up + 4 * s.get TW_STAT_gal1_up + 8 * s.get TW_STAT_hb_ok + 16 * s.get
      TW_STAT_resync_busy + 32 * s.get TW_STAT_split_brain), s.get TW_STAT_fault_cause] ++ leBytes 4 s.tw.foCount ++ leBytes 4 (s.get TW_DELTA_delta)
      ++ leBytes 6 s.tw.foSec ++ leBytes 4 (s.get TW_FO_TIME_NS_ns) ++ bytes [s.get TW_FO_cause, 0]) t ∧ onlyParts [.regs, .mbox, .mp, .host, .sent] s
      t) ∧
(∀ (n : Fin 4) (r : MbReq) (s : State), serving n 0x3001 r s → r.payload.length = 48 → byteAt r.payload 0 ≤ 7 → byteAt r.payload 1 ≤ 15 → byteAt
      r.payload 3 = 0 → byteAt r.payload 7 = 0 → leAt r.payload 10 2 = 0 → leAt r.payload 44 4 = 0 → s.twMasksOk (byteAt r.payload 2) (leAt r.payload
      4 3) = true → byteAt r.payload 2 ≤ 63 → leAt r.payload 4 3 < 2 ^ 18 → (∀ k : Nat, k < 4 → bitOf (byteAt r.payload (16 + k)) 5 = false ∧ byteAt
      r.payload (16 + k) % 32 ≤ 17 ∧ s.outHere (byteAt r.payload (16 + k) % 32) = true) → ∃ t, goesTo (.twConfig n) s t ∧ answered n r [] t ∧ staged t
      TW_CTRL_enable = flag (bitOf (byteAt r.payload 0) 0) ∧ staged t TW_CTRL_out_gate = flag (bitOf (byteAt r.payload 0) 1) ∧ staged t
      TW_CTRL_px_seed = flag (bitOf (byteAt r.payload 0) 2) ∧ staged t TW_CTRL_prio = byteAt r.payload 1 ∧ staged t TW_CH_MASK_ch = byteAt r.payload 2
      ∧ staged t TW_OUT_MASK_out = leAt r.payload 4 3 ∧ staged t TW_ELECT_wait_ms = leAt r.payload 8 2 ∧ staged t TW_GAL_ASYM_asym = leAt r.payload 12
      4 ∧ (∀ k : Nat, k < 4 → staged t (TW_MON_CFG_enable k) = flag (bitOf (byteAt r.payload (16 + k)) 7) ∧ staged t (TW_MON_CFG_time_fine k) = flag
      (bitOf (byteAt r.payload (16 + k)) 6) ∧ staged t (TW_MON_CFG_out k) = byteAt r.payload (16 + k) % 32 ∧ staged t (TW_MON_CFG_thr k) = leAt
      r.payload (20 + 2 * k) 2 ∧ staged t (TW_MON_ADJ_adj k) = leAt r.payload (28 + 4 * k) 4) ∧ onlyParts [.regs, .pend, .fu, .mbox, .mp, .host,
      .sent] s t) ∧
(∀ (n : Fin 4) (r : MbReq) (s : State), serving n 0x3002 r s → r.payload.length = 4 → byteAt r.payload 0 = 2 → leAt r.payload 1 3 = 0 → s.isStandby =
      true → ∃ t, goesTo (.twForceRole n) s t ∧ awaiting n 0x3002 r t ∧ t.tw.taking = some 5 ∧ galsOut t = GalBody.takeover :: galsOut s ∧ onlyParts
      [.regs, .tw, .mbox, .mp, .host, .sent] s t) ∧
(∀ (n : Fin 4) (r : MbReq) (s : State), serving n 0x3002 r s → r.payload.length = 4 → byteAt r.payload 0 = 1 → leAt r.payload 1 3 = 0 → s.twState = 3
      → s.partnerReady = true → ∃ t, goesTo (.twForceRole n) s t ∧ answered n r [] t ∧ t.twState = 4 ∧ galsOut t = GalBody.release 5 :: galsOut s ∧
      t.on TW_INT_STAT_released = true) ∧
(∀ (n : Fin 4) (r : MbReq) (s : State), serving n 0x3003 r s → r.payload.length = 24 → leAt r.payload 0 6 < 2 ^ s.lanes → byteAt r.payload 16 ≤ 3 →
      leAt r.payload 17 7 = 0 → (∀ p : Nat, p < s.lanes → (s.tw.templates.get none p).all (fun x => decide (19 ≤ x.pdu.length)) = true) → ∃ t, goesTo
      (.twLagConfig n) s t ∧ answered n r [] t ∧ staged t TW_LAG_LO_ports = leAt r.payload 0 4 ∧ staged t TW_LAG_HI_ports = leAt r.payload 4 2 ∧
      staged t TW_CTRL_lag_en = flag (bitOf (byteAt r.payload 16) 1) ∧ t.tw.sysPrio = leAt r.payload 6 2 ∧ t.tw.sysId = slice r.payload 8 6 ∧ t.tw.key
      = leAt r.payload 14 2 ∧ (∀ p : Nat, p < s.lanes → bitOf (leAt r.payload 0 6) p = true → staged t (PR_PORT_CFG_lacp_trap p) = 1 ∧
      (t.tw.templates.get none p).any (fun x => decide (slice x.pdu 6 6 = slice r.payload 8 6 ∧ beAt x.pdu 16 2 = p + (if s.on TW_STAT_seat then 0x101
      else 1))) = true) ∧ onlyParts [.regs, .pend, .fu, .tw, .mbox, .mp, .host, .sent] s t)

/-- A firmware package is checked, received block by block, and verified into the inactive slot. -/
def Obligations.UpdatePackage : Prop :=
(∀ (n : Fin 4) (r : MbReq) (s : State), serving n 0x4000 r s → r.payload.length = 1024 → s.fu.upd = 0 ∨ s.fu.upd = 1 ∨ s.fu.upd = 3 → s.on
      FU_STAT_otp_pending = false → s.fuCheck r.payload = none → s.programming = false → ∃ t, goesTo (.fuBegin n) s t ∧ answered n r (leBytes 4 (leAt
      r.payload 32 4) ++ bytes [s.inactive, 0, 0, 0]) t ∧ t.fu.staged = some r.payload ∧ t.fu.blocks = [] ∧ t.fu.upd = 1 ∧ t.get FU_STAT_state = 1 ∧
      t.fu.running = s.fu.running ∧ t.fu.otp = s.fu.otp ∧ onlyParts [.regs, .fu, .mbox, .mp, .host, .sent] s t) ∧
(∀ (n : Fin 4) (r : MbReq) (e : Nat) (s : State), serving n 0x4000 r s → r.payload.length = 1024 → s.fu.upd = 0 ∨ s.fu.upd = 1 ∨ s.fu.upd = 3 → s.on
      FU_STAT_otp_pending = false → s.fuCheck r.payload = some e → ∃ t, goesTo (.fuBegin n) s t ∧ rejected n r e t ∧ t.fu = s.fu ∧ onlyParts [.regs,
      .mbox, .mp, .host, .sent] s t) ∧
(∀ (n : Fin 4) (r : MbReq) (s : State), serving n 0x4000 r s → r.payload.length = 1024 → byteAt r.payload 16 < s.fu.otp → ∃ t, goesTo (.fuBegin n) s t
      ∧ t.fu = s.fu ∧ ¬ answered n r (leBytes 4 (leAt r.payload 32 4) ++ bytes [s.inactive, 0, 0, 0]) t) ∧
(∀ (n : Fin 4) (r : MbReq) (s : State), serving n 0x4001 r s → 8 ≤ r.payload.length → s.fu.upd = 1 → leAt r.payload 0 4 < s.fuBlocks → (r.payload.drop
      8).length = s.blockLen (leAt r.payload 0 4) → crc32c (r.payload.drop 8) = leAt r.payload 4 4 → s.programming = false → ∃ t, goesTo (.fuBlock n)
      s t ∧ awaiting n 0x4001 r t ∧ t.fu.blocks.get none (leAt r.payload 0 4) = some ⟨leAt r.payload 4 4, none, false⟩ ∧ t.fu.staged = s.fu.staged ∧
      onlyParts [.regs, .fu, .mbox, .mp, .host, .sent] s t) ∧
(∀ (n : Fin 4) (r : MbReq) (s : State), serving n 0x4001 r s → 8 ≤ r.payload.length → s.fu.upd = 1 → leAt r.payload 0 4 < s.fuBlocks → (r.payload.drop
      8).length = s.blockLen (leAt r.payload 0 4) → crc32c (r.payload.drop 8) ≠ leAt r.payload 4 4 → ∃ t, goesTo (.fuBlock n) s t ∧ rejected n r
      0x0108 t ∧ t.fu = s.fu ∧ onlyParts [.regs, .mbox, .mp, .host, .sent] s t) ∧
(∀ (n : Fin 4) (r : MbReq) (s : State), s.up → s.mpRuns = true → awaiting n 0x4001 r s → ∃ t, goesTo (.blockProgramEnd n true) s t ∧ answered n r [] t
      ∧ t.fu.blocks.get none (leAt r.payload 0 4) = some ⟨leAt r.payload 4 4, some (r.payload.drop 8), true⟩ ∧ t.received (leAt r.payload 0 4) = true
      ∧ onlyParts [.regs, .fu, .mbox, .mp, .host, .sent] s t) ∧
(∀ (n : Fin 4) (r : MbReq) (s : State), s.up → s.mpRuns = true → awaiting n 0x4001 r s → ∃ t, goesTo (.blockProgramEnd n false) s t ∧ rejected n r
      0x010D t ∧ t.on FU_INT_STAT_flash_fail = true ∧ t.fu = s.fu) ∧
(∀ (n : Fin 4) (r : MbReq) (s : State), serving n 0x4002 r s → r.payload = [] → s.fu.upd = 1 → (∀ i : Nat, i < s.fuBlocks → s.received i = true) →
      s.programming = false → ∃ t, goesTo (.fuVerify n) s t ∧ answered n r [] t ∧ t.fu.upd = 2 ∧ t.get FU_STAT_state = 2 ∧ (t.fwSlot
      s.inactive).header = none ∧ t.bootable s.inactive = false ∧ t.fwSlot s.fu.running = s.fwSlot s.fu.running ∧ t.winner = s.winner ∧ t.fu.store =
      s.fu.store ∧ onlyParts [.regs, .fu, .mbox, .mp, .host, .sent] s t) ∧
(∀ (h x : Bytes) (s : State), s.up → s.mpRuns = true → s.fu.upd = 2 → s.fu.staged = some h → s.fuCheck h = none → (∀ i : Nat, i < s.fuBlocks →
      s.blockGood i = true) → s.target h = some x → ∃ t, goesTo (.fuVerifyComplete true) s t ∧ t.fu.upd = 3 ∧ t.get FU_STAT_state = 3 ∧ t.fwSlot
      s.inactive = ⟨some h, x, false⟩ ∧ t.on FU_INT_STAT_verify_done = true ∧ t.fu.running = s.fu.running ∧ t.winner = s.winner ∧ t.fu.store =
      s.fu.store ∧ onlyParts [.regs, .fu, .host, .sent] s t) ∧
(∀ (h : Bytes) (e : Nat) (s : State), s.up → s.mpRuns = true → s.fu.upd = 2 → s.fu.staged = some h → s.fuCheck h = some e → ∃ t, goesTo
      (.fuVerifyComplete true) s t ∧ t.fu = { s.fu with upd := 1 } ∧ t.get FU_STAT_state = 1 ∧ t.get FU_STAT_last_result = 6 ∧ t.on
      FU_INT_STAT_verify_fail = true ∧ onlyParts [.regs, .fu, .host, .sent] s t) ∧
(∀ (n : Fin 4) (r : MbReq) (s : State), serving n 0x4005 r s → r.payload = [] → ∃ t, goesTo (.fuStatus n) s t ∧ answered n r (bytes [s.get
      FU_STAT_state, s.get FU_STAT_last_result, s.get FU_STAT_trial + 2 * s.get FU_STAT_running_slot + 4 * s.get FU_STAT_otp_pending + 8 * s.get
      FU_STAT_recovery, s.get FU_STAT_boots] ++ leBytes 4 s.trialLeft ++ leBytes 4 s.fuBlocks ++ leBytes 4 ((List.range s.fuBlocks).filter
      s.received).length ++ leBytes 4 (((List.range s.fuBlocks).find? fun i => !s.received i).getD 0xFFFFFFFF) ++ bytes [s.get FU_STAT_progress,
      s.fu.otp] ++ slice (s.fu.staged.getD (zeros 1024)) 16 1 ++ bytes [0] ++ slice (s.fu.staged.getD (zeros 1024)) 12 4 ++ beBytes 4 (s.get
      FU_VER_RUN_release) ++ beBytes 4 (s.get FU_VER_OTHER_release) ++ leBytes 2 s.schema ++ slice (s.fu.staged.getD (zeros 1024)) 44 2) t ∧ onlyParts
      [.regs, .mbox, .mp, .host, .sent] s t)

/-- A verified image is activated by handover or reset, runs on trial, and is confirmed, aborted or reverted. -/
def Obligations.UpdateActivation : Prop :=
(∀ (n : Fin 4) (r : MbReq) (w : Nat) (s : State), serving n 0x4003 r s → r.payload.length = 8 → byteAt r.payload 0 = 0 → leAt r.payload 1 3 = 0 → w =
      (if leAt r.payload 4 4 = 0 then 600 else leAt r.payload 4 4) → 60 ≤ w → w ≤ 86400 → s.fu.upd = 3 → bitOf ((s.fwSlot s.inactive).fld 10 2) 0 =
      true → s.fu.running ≠ 0xFF → s.bootable s.inactive = true → ∃ t, goesTo (.fuActivate n true) s t ∧ awaiting n 0x4003 r t ∧ t.fu =
      { s.erasePtr.fu with act := some w, pause := some s.clk } ∧ t.winner = s.winner ∧ t.get FU_STAT_state = 4 ∧ t.on PX_REF_STAT_lease_ok = true ∧
      onlyParts [.regs, .fu, .mbox, .mp, .host, .sent] s t) ∧
(∀ (n : Fin 4) (r : MbReq) (w : Nat) (s : State), serving n 0x4003 r s → r.payload.length = 8 → byteAt r.payload 0 = 1 → leAt r.payload 1 3 = 0 → w =
      (if leAt r.payload 4 4 = 0 then 600 else leAt r.payload 4 4) → 60 ≤ w → w ≤ 86400 → s.fu.upd = 3 → ∃ t, goesTo (.fuActivate n true) s t ∧
      answered n r [] t ∧ t.fu.upd = 5 ∧ t.fu.resetDue = true ∧ t.fu.running = s.fu.running ∧ t.on FU_INT_STAT_activated = true ∧ t.winner.any (fun w
      => decide (w.2.active = s.inactive ∧ w.2.trial = true ∧ w.2.boots = 1 ∧ w.2.fallback = (if s.fu.running < 2 then s.fu.running else 0xFF))) =
      true ∧ t.winner.map (·.2.window) = some w ∧ onlyParts [.regs, .fu, .mbox, .mp, .host, .sent] s t) ∧
(∀ (n : Fin 4) (q : MbReq) (w : Nat) (s : State), s.up → s.mpRuns = true → s.fu.act = some w → s.fu.pause.isSome = true → awaiting n 0x4003 q s → ∃ t,
      goesTo (.handoverPauseEnd true true) s t ∧ answered n q [] t ∧ t.fu.running = s.inactive ∧ t.fu.upd = 5 ∧ t.fu.pause = none ∧ t.fu.act = none ∧
      t.get FU_STAT_state = 5 ∧ t.on FU_INT_STAT_activated = true ∧ t.winner.any (fun w => decide (w.2.active = s.inactive ∧ w.2.trial = true ∧
      w.2.boots = 1)) = true ∧ t.winner.map (·.2.window) = some w ∧ t.onTrial = true ∧ t.fu.trialClk = s.clk ∧ onlyParts [.regs, .fu, .mbox, .mp,
      .host, .sent] s t) ∧
(∀ (n : Fin 4) (q : MbReq) (w : Nat) (s : State), s.up → s.mpRuns = true → s.fu.act = some w → s.fu.pause.isSome = true → awaiting n 0x4003 q s → ∃ t,
      goesTo (.handoverPauseEnd false true) s t ∧ rejected n q 0x010B t ∧ t.fu.running = s.fu.running ∧ t.fu.upd = 3 ∧ t.fu.pause = none ∧ t.winner =
      s.winner ∧ t.get FU_STAT_last_result = 4 ∧ onlyParts [.regs, .fu, .hl, .free, .mbox, .mp, .host, .sent] s t) ∧
(∀ (n : Fin 4) (r : MbReq) (s : State), serving n 0x4004 r s → r.payload = [] → s.fu.upd = 5 → s.onTrial = true → ∃ t, goesTo (.fuConfirm n true true)
      s t ∧ answered n r (bytes [t.fu.otp, 0, 0, 0]) t ∧ t.fu.otp = max s.fu.otp (min 127 ((s.fwSlot s.fu.running).fld 16 1)) ∧ t.onTrial = false ∧
      t.confirmed = true ∧ t.fu.upd = 0 ∧ t.get FU_STAT_last_result = 1 ∧ t.on FU_INT_STAT_confirmed = true ∧ t.fu.staged = none ∧ t.fu.running =
      s.fu.running ∧ onlyParts [.regs, .fu, .mbox, .mp, .host, .sent] s t) ∧
(∀ (n : Fin 4) (r : MbReq) (s : State), serving n 0x4004 r s → r.payload = [] → s.confirmed = true → s.onTrial = false → ∃ t, goesTo (.fuConfirm n
      true true) s t ∧ answered n r (bytes [s.fu.otp, 0, 0, 0]) t ∧ onlyParts [.regs, .mbox, .mp, .host, .sent] s t) ∧
(∀ (n : Fin 4) (r : MbReq) (s : State), serving n 0x4006 r s → r.payload = [] → s.get FU_STAT_state ≠ 4 → s.fu.upd = 1 ∨ s.fu.upd = 2 ∨ s.fu.upd = 3 →
      s.programming = false → ∃ t, goesTo (.fuAbort n) s t ∧ answered n r [] t ∧ t.fu = { s.fu with upd := 0, staged := none, blocks := [] } ∧ t.get
      FU_STAT_state = 0 ∧ t.get FU_STAT_last_result = 7 ∧ onlyParts [.regs, .fu, .mbox, .mp, .host, .sent] s t) ∧
(∀ (n : Fin 4) (r : MbReq) (s : State), serving n 0x4006 r s → r.payload = [] → s.get FU_STAT_state ≠ 4 → s.fu.upd = 0 ∨ s.fu.upd = 5 → ∃ t, goesTo
      (.fuAbort n) s t ∧ answered n r [] t ∧ t.fu = { s.fu with revertDue := s.fu.revertDue || decide (s.fu.upd = 5) } ∧ onlyParts [.regs, .fu, .mbox,
      .mp, .host, .sent] s t) ∧
(∀ (k : Nat) (w : PtrRec) (s : State), s.up → s.mpRuns = true → s.onTrial = true → s.fu.upd = 5 → s.winner = some (k, w) → s.mp.restarting = false → ∃
      t, goesTo (.trialWindowExpiry true) s t ∧ t.winner.any (fun v => decide (v.2.active = w.fallback ∧ v.2.trial = false ∧ v.2.result = 2)) = true ∧
      t.fu.upd = 0 ∧ t.get FU_STAT_last_result = 2 ∧ t.on FU_INT_STAT_reverted = true ∧ t.on MB_EPOCH_mp_running = false ∧ t.mp.restarting = true ∧
      t.get HL_WDOG_last_cause = 3) ∧
(∀ (k : Nat) (w : PtrRec) (s : State), s.up → s.mpRuns = true → s.onTrial = true → s.fu.upd = 5 → s.fu.revertDue = true → s.winner = some (k, w) →
      s.mp.restarting = false → ∃ t, goesTo (.abortRevert true) s t ∧ t.winner.any (fun v => decide (v.2.active = w.fallback ∧ v.2.trial = false ∧
      v.2.result = 8)) = true ∧ t.fu.upd = 0 ∧ t.fu.revertDue = false ∧ t.get FU_STAT_last_result = 8 ∧ t.on FU_INT_STAT_reverted = true ∧ t.on
      MB_EPOCH_mp_running = false ∧ t.mp.restarting = true)

/-- Samples make faults, faults are held and released, and faulty rows are repaired or retired. -/
def Obligations.FaultsSamplesAndRepairs : Prop :=
(∀ (lid sw timing dbm reg oven : Int) (s : State), s.up → ∃ t, goesTo (.tempSample lid sw timing dbm reg oven) s t ∧ (∀ k : Nat, k < 5 → t.get
      (HL_TEMP_now k) = twos 16 ([lid, sw, timing, dbm, reg].getD k 0) ∧ t.get (HL_TEMP_max k) = twos 16 (max ([lid, sw, timing, dbm, reg].getD k 0)
      (signed 16 (s.get (HL_TEMP_max k))))) ∧ (∀ k : Nat, k < 5 → signed 16 (s.get (HL_TEMP_THR_warn k)) < [lid, sw, timing, dbm, reg].getD k 0 →
      signed 16 (s.get (HL_TEMP_now k)) ≤ signed 16 (s.get (HL_TEMP_THR_warn k)) → t.on HL_INT_STAT_temp_warn = true) ∧ (∀ k : Nat, k < 5 → signed 16
      (s.get (HL_TEMP_THR_crit k)) < [lid, sw, timing, dbm, reg].getD k 0 → s.hl.hot.contains k = false → t.hl.hot.contains k = true) ∧ (∀ k : Nat, k
      < 5 → signed 16 (s.get (HL_TEMP_THR_crit k)) < [lid, sw, timing, dbm, reg].getD k 0 → s.hl.hot.contains k = true → s.hl.causes.contains (0x0D,
      k) = false → t.hl.causes.contains (0x0D, k) = true ∧ t.hl.held.contains (0x0D, k) = true ∧ t.on HL_INT_STAT_temp_crit = true) ∧ (∀ k : Nat, k <
      5 → [lid, sw, timing, dbm, reg].getD k 0 ≤ signed 16 (s.get (HL_TEMP_THR_crit k)) - 40 → t.hl.causes.contains (0x0D, k) = false) ∧ t.get
      TC_OVO_temp = twos 16 oven ∧ t.on HL_STAT_temp_crit = t.hl.causes.any (fun e => decide (e.1 = 0x0D)) ∧ (s.twState ≠ 3 → onlyParts [.regs, .hl,
      .host, .sent] s t)) ∧
(∀ (vin vinI vkeep v3p3 v3p3I pin : Nat) (rails : BitVec 16) (s : State), s.up → ∃ t, goesTo (.supplySample vin vinI vkeep v3p3 v3p3I pin rails) s t ∧
      (∀ k : Nat, k < 6 → t.get (HL_SUPPLY_now k) = [vin, vinI, vkeep, v3p3, v3p3I, pin].getD k 0 % 2 ^ 16 ∧ t.get (HL_SUPPLY_max k) = max ([vin,
      vinI, vkeep, v3p3, v3p3I, pin].getD k 0) (s.get (HL_SUPPLY_max k)) % 2 ^ 16) ∧ (∀ k : Nat, k < 6 → [vin, vinI, vkeep, v3p3, v3p3I, pin].getD k 0
      < s.get (HL_SUPPLY_THR_low k) ∨ s.get (HL_SUPPLY_THR_high k) < [vin, vinI, vkeep, v3p3, v3p3I, pin].getD k 0 → t.hl.off.contains k = true ∧
      (s.hl.off.contains k = true → t.hl.causes.contains (0x0E, k) = true)) ∧ (∀ k : Nat, k < 6 → s.get (HL_SUPPLY_THR_low k) ≤ [vin, vinI, vkeep,
      v3p3, v3p3I, pin].getD k 0 → [vin, vinI, vkeep, v3p3, v3p3I, pin].getD k 0 ≤ s.get (HL_SUPPLY_THR_high k) → t.hl.off.contains k = false ∧
      t.hl.causes.contains (0x0E, k) = false) ∧ (∀ k : Nat, k < 16 → t.hl.causes.contains (0x0E, 16 + k) = !bitOf rails.toNat k) ∧ t.get HL_RAIL_OK_ok
      = rails.toNat ∧ t.on HL_STAT_supply_fault = t.hl.causes.any (fun e => decide (e.1 = 0x0E)) ∧ (s.twState ≠ 3 → onlyParts [.regs, .hl, .host,
      .sent] s t)) ∧
(∀ (s : State), s.up → s.power.ovenWatched = true → s.hl.held.contains (0x13, 0) = false → ∃ t, goesTo (.ovenFault) s t ∧ t.on TC_OVO_oven_ok = false
      ∧ t.hl.causes.contains (0x13, 0) = true ∧ t.hl.held = s.hl.held ++ [(0x13, 0)] ∧ t.on HL_STAT_self_ok = false ∧ t.on HL_STAT_held = true ∧ t.get
      HL_CNT_LASTING_count = min 0xFFFFFFFF (s.get HL_CNT_LASTING_count + 1) ∧ (s.twState ≠ 3 → onlyParts [.regs, .hl, .host, .sent] s t)) ∧
(∀ (code inst : Nat) (s : State), s.up → s.hl.held.contains (code, inst) = true → s.hl.causes.contains (code, inst) = false → code ≠ 0x0F → ∃ t,
      goesTo (.heldFaultRelease code inst) s t ∧ t.hl.held = s.hl.held.filter (· ≠ (code, inst)) ∧ t.on HL_STAT_held = !t.hl.held.isEmpty ∧ t.on
      HL_STAT_self_ok = t.hl.held.isEmpty ∧ onlyParts [.regs, .hl, .host, .sent] s t) ∧
(∀ (code inst : Nat) (s : State), s.hl.causes.contains (code, inst) = true → ∃ t, goesTo (.heldFaultRelease code inst) s t ∧ t = s) ∧
(∀ (s : State), s.up → s.hl.held.contains (0x0F, 0) = true → s.hl.wdog.all (fun t => decide (t + 3600 * 1250000000 ≤ s.clk)) = true → ∃ t, goesTo
      (.wdogHoldExpiry) s t ∧ t.hl.held = s.hl.held.filter (· ≠ (0x0F, 0)) ∧ t.hl.wdog = [] ∧ t.on HL_STAT_self_ok = t.hl.held.isEmpty ∧ onlyParts
      [.regs, .hl, .host, .sent] s t) ∧
(∀ (r : LogRec) (l : List LogRec) (s : State), s.up → s.stacksRun = true → s.hl.buf = r :: l → ∃ t, goesTo (.faultLogWrite) s t ∧ t.hl.buf = l ∧
      t.hl.nor.getLast? = some { r with num := s.hl.nextNum } ∧ t.hl.nor.length ≤ 2097152 ∧ (s.hl.nor.length < 2097152 → t.hl.nor = s.hl.nor ++
      [{ r with num := s.hl.nextNum }]) ∧ t.hl.nextNum = (s.hl.nextNum + 1) % 2 ^ 32 ∧ t.get HL_LOG_backlog = l.length % 512 ∧ onlyParts [.regs, .hl,
      .host, .sent] s t) ∧
(∀ (g : Fin 7) (b r : Nat) (zeroed : List Nat) (s : State), s.up → s.hl.queue.contains (g.val, b, r) = true → ∃ t, goesTo (.spareRowRepair g b r
      zeroed) s t ∧ t.hl.queue = s.hl.queue.filter (· ≠ (g.val, b, r)) ∧ t.hl.spares = s.hl.spares ++ [(g.val, b, r)] ∧ t.spareUse g b = s.spareUse g
      b + 1 ∧ t.on HL_INT_STAT_repaired = true ∧ t.on HL_STAT_repair_busy = !t.hl.queue.isEmpty ∧ (3 ≤ t.spareUse g b → t.on HL_STAT_spares_low = true
      ∧ t.on HL_INT_STAT_spares_low = true) ∧ (zeroed = [] → t.get (HL_SPARE_used g) = (s.get (HL_SPARE_used g) + 1) % 2 ^ 16) ∧ (g.val ≠ 3 → g.val ≠
      6 → ∀ a : Nat, a ∈ zeroed → 0x100000 ≤ a → t.rd a = 0) ∧ (g.val = 6 → s.hl.codeRows.contains (b, r) = true → s.mp.restarting = false →
      t.mp.restarting = true ∧ t.get HL_WDOG_last_cause = 4 ∧ t.on MB_EPOCH_mp_running = false ∧ t.hl.codeRows.contains (b, r) = false) ∧ (g.val ≠ 6 ∨
      s.hl.codeRows.contains (b, r) = false → onlyParts [.regs, .hl, .ft, .host, .sent] s t)) ∧
(∀ (bank row : Nat) (s : State), s.up → s.hl.queue.contains (7, bank, row) = true → (rowCells 7 bank row).all (fun c => !s.cellsHeld.contains c) =
      true → flag (s.hl.hardDone.contains bank) + (s.hl.hardWait.filter fun e => e.1 = bank).length < 2 → ∃ t, goesTo (.dbmRowRepair bank row) s t ∧
      t.hl.queue = s.hl.queue.filter (· ≠ (7, bank, row)) ∧ t.hl.hardWait = s.hl.hardWait ++ [(bank, row)] ∧ t.hl.retired = s.hl.retired ∧ t.on
      HL_INT_STAT_repaired = true ∧ t.on HL_STAT_repair_busy = !t.hl.queue.isEmpty ∧ onlyParts [.regs, .hl, .host, .sent] s t) ∧
(∀ (bank row : Nat) (s : State), s.up → s.hl.queue.contains (7, bank, row) = true → (rowCells 7 bank row).all (fun c => !s.cellsHeld.contains c) =
      true → 2 ≤ flag (s.hl.hardDone.contains bank) + (s.hl.hardWait.filter fun e => e.1 = bank).length → ∃ t, goesTo (.dbmRowRepair bank row) s t ∧
      t.hl.queue = s.hl.queue.filter (· ≠ (7, bank, row)) ∧ t.hl.retired = s.hl.retired ++ [(7, bank, row)] ∧ t.hl.hardWait = s.hl.hardWait ∧ t.on
      HL_INT_STAT_retired = true ∧ t.on HL_STAT_repair_busy = !t.hl.queue.isEmpty ∧ onlyParts [.regs, .hl, .host, .sent] s t) ∧
(∀ (m : Fin 17) (faulty : List Nat) (s : State), s.up → s.bit SC_MEZZ_STAT m = true → s.mezzHolds m = 0 → s.spareUse 1 m + faulty.length ≤ 4 → (∀ l :
      Nat, l < 16 → s.bit SC_MEZZ_IDLE l = false) → ∃ t, goesTo (.mezzTest m faulty) s t ∧ t.bit SC_MEZZ_STAT m = false ∧ t.sc.spare = some m.val ∧
      t.on SC_MEZZ_STAT_spare_in_use = false ∧ t.hl.spares = s.hl.spares ++ faulty.map (fun r => (1, m.val, r)) ∧ t.on HL_INT_STAT_repaired = true ∧
      t.on HL_STAT_repair_busy = !s.hl.queue.isEmpty ∧ (3 ≤ t.spareUse 1 m → t.on HL_STAT_spares_low = true) ∧ onlyParts [.regs, .hl, .sc, .mbox, .mp,
      .host, .sent] s t) ∧
(∀ (m : Fin 17) (faulty : List Nat) (s : State), s.up → s.bit SC_MEZZ_STAT m = true → s.mezzHolds m = 0 → 4 < s.spareUse 1 m + faulty.length → ∃ t,
      goesTo (.mezzTest m faulty) s t ∧ t.rd SC_MEZZ_STAT = s.rd SC_MEZZ_STAT ∧ t.hl.spares = s.hl.spares ∧ t.on HL_STAT_repair_busy =
      !s.hl.queue.isEmpty ∧ onlyParts [.regs, .hl, .mbox, .mp, .host, .sent] s t) ∧
(∀ (bank row : Nat) (codeRow : Bool) (s : State), s.up → s.hl.queue.contains (6, bank, row) = false → s.hl.retired.contains (6, bank, row) = false →
      s.spareTaken 6 bank < 4 → s.hl.queue.length < 32 → ∃ t, goesTo (.mpSramEccFault bank row true codeRow) s t ∧ t.hl.queue = s.hl.queue ++ [(6,
      bank, row)] ∧ t.on HL_INT_STAT_lasting = true ∧ t.on HL_STAT_repair_busy = true ∧ t.hl.codeRows = (if codeRow then s.hl.codeRows.filter (· ≠
      (bank, row)) ++ [(bank, row)] else s.hl.codeRows) ∧ onlyParts [.regs, .hl, .host, .sent] s t) ∧
(∀ (bank row : Nat) (s : State), s.up → s.mp.restarting = false → s.hl.queue.contains (6, bank, row) = false → s.hl.retired.contains (6, bank, row) =
      true ∨ 4 ≤ s.spareTaken 6 bank ∨ 32 ≤ s.hl.queue.length → ∃ t, goesTo (.mpSramEccFault bank row true true) s t ∧ t.hl.retired.contains (6, bank,
      row) = true ∧ t.hl.queue = s.hl.queue ∧ t.hl.badCode = true ∧ t.mp.restarting = true ∧ t.get HL_WDOG_last_cause = 4 ∧ t.on MB_EPOCH_mp_running =
      false ∧ t.on HL_INT_STAT_lasting = true) ∧
(∀ (bank row : Nat) (codeRow : Bool) (s : State), s.up → s.get HL_ESC_count = 0 → ∃ t, goesTo (.mpSramEccFault bank row false codeRow) s t ∧
      t.hl.queue = s.hl.queue ∧ t.mp = s.mp ∧ t.get HL_CNT_TRANSIENT_count = min 0xFFFFFFFF (s.get HL_CNT_TRANSIENT_count + 1) ∧ t.rd HL_CNT_LASTING =
      s.rd HL_CNT_LASTING ∧ onlyParts [.regs, .hl, .host, .sent] s t) ∧
(∀ (k : Fin 14) (s : State), s.up → s.hl.calRetry.contains k.val = true ∨ (s.on HL_CAL_CFG_auto = true ∧ (8 ≤ k.val ∨ s.on HL_CAL_CFG_ev_auto = true)
      ∧ ((0 < s.get HL_CAL_CFG_tdc_k ∧ 8 * s.get HL_CAL_CFG_tdc_k ≤ (s.lid - (s.hl.calAt.get (0, 0) k).1).natAbs) ∨ (0 < s.get HL_CAL_CFG_tdc_period_h
      ∧ (s.hl.calAt.get (0, 0) k).2 + s.get HL_CAL_CFG_tdc_period_h * 3600 * 1250000000 ≤ s.clk))) → s.hl.calStopped.contains k.val = false →
      s.tdcMayStart k = true → ∃ t, goesTo (.hlTdcAutocal k) s t ∧ t.tdc.run.get none k = some s.clk ∧ t.hl.calBusy = some k.val ∧ (k.val < 8 → t.on
      (EV_STAT_cal_busy k) = true) ∧ (8 ≤ k.val → t.on (TC_STAT_tdc_cal (k.val - 8)) = true) ∧ onlyParts [.regs, .hl, .tdc, .chan, .evIn, .ou, .host,
      .sent] s t) ∧
(∀ (k : Fin 14) (s : State), s.hl.calRetry.contains k.val = false → s.on HL_CAL_CFG_auto = false ∨ (k.val < 8 ∧ s.on HL_CAL_CFG_ev_auto = false) ∨
      ((s.get HL_CAL_CFG_tdc_k = 0 ∨ (s.lid - (s.hl.calAt.get (0, 0) k).1).natAbs < 8 * s.get HL_CAL_CFG_tdc_k) ∧ s.get HL_CAL_CFG_tdc_period_h = 0) →
      ∃ t, goesTo (.hlTdcAutocal k) s t ∧ t = s)

/-- The 0x50 opcodes report health and the fault log, start repairs and tests, and reach the optics. -/
def Obligations.HealthOpcodes : Prop :=
(∀ (n : Fin 4) (r : MbReq) (s : State), serving n 0x5000 r s → r.payload = [] → ∃ t, goesTo (.hlGetHealth n) s t ∧ answered n r (wordBytes s.hlStat ++
      leBytes 4 s.hl.sinceStart.1 ++ leBytes 4 s.hl.sinceStart.2 ++ ((List.range 8).map fun g => wordBytes (s.rd (HL_SPARE g))).flatten ++
      ((List.range 5).map fun k => leBytes 2 (s.get (HL_TEMP_now k))).flatten ++ leBytes 2 (s.get (HL_SUPPLY_now 0)) ++ leBytes 2 (s.get
      (HL_SUPPLY_now 1)) ++ leBytes 2 (s.get (HL_SUPPLY_now 5)) ++ zeros 4) t ∧ onlyParts [.regs, .mbox, .mp, .host, .sent] s t) ∧
(∀ (n : Fin 4) (r : MbReq) (s : State), serving n 0x5001 r s → r.payload.length = 8 → 1 ≤ leAt r.payload 4 4 → leAt r.payload 4 4 ≤ 127 → ∃ t, goesTo
      (.hlGetFaultLog n) s t ∧ answered n r ((((s.hl.nor.dropWhile fun e => decide (e.num < leAt r.payload 0 4)).take (leAt r.payload 4 4)).map
      LogRec.bytes).flatten) t ∧ onlyParts [.regs, .mbox, .mp, .host, .sent] s t) ∧
(∀ (n : Fin 4) (r : MbReq) (s : State), serving n 0x5001 r s → r.payload.length = 8 → leAt r.payload 4 4 = 0 ∨ 127 < leAt r.payload 4 4 → ∃ t, goesTo
      (.hlGetFaultLog n) s t ∧ rejected n r 3 t ∧ onlyParts [.regs, .mbox, .mp, .host, .sent] s t) ∧
(∀ (n : Fin 4) (r : MbReq) (s : State), serving n 0x5002 r s → r.payload.length = 8 → byteAt r.payload 0 = 0 → leAt r.payload 1 3 = 0 → leAt r.payload
      4 4 ≤ 16 → s.bit SC_MEZZ_STAT (leAt r.payload 4 4) = true → ∃ t, goesTo (.hlRepair n) s t ∧ awaiting n 0x5002 r t ∧ t.on HL_STAT_repair_busy =
      true ∧ onlyParts [.regs, .mbox, .mp, .host, .sent] s t) ∧
(∀ (n : Fin 4) (r : MbReq) (l : Fin 48) (s : State), serving n 0x5002 r s → r.payload.length = 8 → byteAt r.payload 0 = 1 → leAt r.payload 1 3 = 0 →
      leAt r.payload 4 4 = l.val → l.val < s.lanes → ∃ t, goesTo (.hlRepair n) s t ∧ awaiting n 0x5002 r t ∧ t.on (LN_STAT_cal_busy l) = true ∧
      t.hl.degraded = s.hl.degraded.filter (· ≠ l.val)) ∧
(∀ (n : Fin 4) (r : MbReq) (k : Fin 14) (s : State), serving n 0x5002 r s → r.payload.length = 8 → byteAt r.payload 0 = 2 → leAt r.payload 1 3 = 0 →
      leAt r.payload 4 4 = tdcCode k → s.tdcMayStart k = true → ∃ t, goesTo (.hlRepair n) s t ∧ awaiting n 0x5002 r t ∧ t.tdc.run.get none k = some
      s.clk ∧ t.hl.calBusy = some k.val ∧ onlyParts [.regs, .hl, .tdc, .chan, .evIn, .ou, .mbox, .host, .sent] s t) ∧
(∀ (n : Fin 4) (r : MbReq) (l : Fin 48) (s : State), serving n 0x5003 r s → r.payload.length = 12 → 1 ≤ leAt r.payload 4 4 → leAt r.payload 4 4 ≤
      10000 → 64 ≤ leAt r.payload 8 2 → leAt r.payload 8 2 ≤ 9600 → leAt r.payload 10 2 = 0 → s.hl.test = none → byteAt r.payload 0 ≤ 1 → byteAt
      r.payload 0 = 0 → 1 ≤ byteAt r.payload 1 ∧ byteAt r.payload 1 ≤ 3 → byteAt r.payload 0 = 1 → byteAt r.payload 1 = 4 → byteAt r.payload 2 = l.val
      → l.val < s.lanes → s.get (PT_IDLE_idle (s.headLane l)) ≠ 0 → ∃ t, goesTo (.hlLoopback n) s t ∧ awaiting n 0x5003 r t ∧ staged t (LN_CTRL_loop
      l) = byteAt r.payload 1 ∧ t.hl.test = some ⟨n, byteAt r.payload 0, byteAt r.payload 1, l, byteAt r.payload 3, [(LN_CTRL l, s.shadow (LN_CTRL
      l))]⟩ ∧ onlyParts [.regs, .pend, .hl, .mbox, .host, .sent] s t) ∧
(∀ (n : Fin 4) (r : MbReq) (l p : Fin 48) (s : State), serving n 0x5003 r s → r.payload.length = 12 → 1 ≤ leAt r.payload 4 4 → leAt r.payload 4 4 ≤
      10000 → 64 ≤ leAt r.payload 8 2 → leAt r.payload 8 2 ≤ 9600 → leAt r.payload 10 2 = 0 → s.hl.test = none → byteAt r.payload 0 = 2 → byteAt
      r.payload 2 = l.val → byteAt r.payload 3 = p.val → l.val < s.lanes → p.val < s.lanes → s.get (PT_IDLE_idle (s.headLane l)) ≠ 0 → s.get
      (PT_IDLE_idle (s.headLane p)) ≠ 0 → ∃ t, goesTo (.hlLoopback n) s t ∧ awaiting n 0x5003 r t ∧ staged t (PT_XCONN_enable l) = 1 ∧ staged t
      (PT_XCONN_peer l) = p.val ∧ staged t (PT_XCONN_enable p) = 1 ∧ staged t (PT_XCONN_peer p) = l.val ∧ t.hl.test = some ⟨n, 2, byteAt r.payload 1,
      l, p, [(PT_XCONN l, s.shadow (PT_XCONN l)), (PT_XCONN p, s.shadow (PT_XCONN p))]⟩ ∧ onlyParts [.regs, .pend, .hl, .mbox, .host, .sent] s t) ∧
(∀ (n : Fin 4) (r : MbReq) (s : State), serving n 0x5003 r s → r.payload.length = 12 → 1 ≤ leAt r.payload 4 4 → leAt r.payload 4 4 ≤ 10000 → 64 ≤ leAt
      r.payload 8 2 → leAt r.payload 8 2 ≤ 9600 → leAt r.payload 10 2 = 0 → s.hl.test = none → byteAt r.payload 0 = 3 → byteAt r.payload 1 = 1 ∨
      byteAt r.payload 1 = 3 → s.on TW_CTRL_enable = false → ∃ t, goesTo (.hlLoopback n) s t ∧ awaiting n 0x5003 r t ∧ staged t TW_CTRL_gal_loop = (if
      byteAt r.payload 1 = 1 then 1 else 2) ∧ t.hl.test = some ⟨n, 3, byteAt r.payload 1, byteAt r.payload 2, byteAt r.payload 3, [(TW_CTRL, s.shadow
      TW_CTRL)]⟩ ∧ onlyParts [.regs, .pend, .hl, .mbox, .host, .sent] s t) ∧
(∀ (n : Fin 4) (r : MbReq) (l : Fin 48) (s : State), serving n 0x5003 r s → r.payload.length = 12 → 1 ≤ leAt r.payload 4 4 → leAt r.payload 4 4 ≤
      10000 → 64 ≤ leAt r.payload 8 2 → leAt r.payload 8 2 ≤ 9600 → leAt r.payload 10 2 = 0 → s.hl.test = none → byteAt r.payload 0 = 0 → 1 ≤ byteAt
      r.payload 1 ∧ byteAt r.payload 1 ≤ 3 → byteAt r.payload 2 = l.val → l.val < s.lanes → s.get (PT_IDLE_idle (s.headLane l)) = 0 → ∃ t, goesTo
      (.hlLoopback n) s t ∧ rejected n r 4 t ∧ onlyParts [.regs, .mbox, .mp, .host, .sent] s t) ∧
(∀ (n : Fin 4) (q : MbReq) (x : LoopTest) (sentN errors eye : Nat) (s : State), s.up → s.hl.test = some x → (x.saved.map (·.1)).Nodup → ∀ e : Nat ×
      Word, e ∈ x.saved → e.2 &&& fieldBits e.1 = e.2 ∧ (e.1 = TW_CTRL ∨ (∃ l : Nat, l < 48 ∧ (e.1 = LN_CTRL l ∨ e.1 = PT_XCONN l))) → awaiting n
      0x5003 q s → ∃ t, goesTo (.loopbackTestEnd sentN errors eye) s t ∧ answered n q (leBytes 8 sentN ++ leBytes 8 errors ++ leBytes 2 eye ++ zeros
      6) t ∧ t.hl.test = none ∧ (∀ e : Nat × Word, e ∈ x.saved → t.shadow e.1 = e.2) ∧ onlyParts [.regs, .pend, .hl, .mbox, .mp, .host, .sent] s t) ∧
(∀ (n : Fin 4) (r : MbReq) (s : State), serving n 0x5004 r s → r.payload.length = 8 → byteAt r.payload 0 ≤ 1 → byteAt r.payload 1 ≤ 127 → 1 ≤ byteAt
      r.payload 4 → byteAt r.payload 4 ≤ 128 → byteAt r.payload 5 ≤ 1 → leAt r.payload 6 2 = 0 → (s.hl.i2c.any fun e => e.1 = byteAt r.payload 0) =
      false → ∃ t, goesTo (.hlOpticsRead n) s t ∧ awaiting n 0x5004 r t ∧ t.hl.i2c = s.hl.i2c ++ [(byteAt r.payload 0, n.val)] ∧ onlyParts [.regs,
      .hl, .mbox, .mp, .host, .sent] s t) ∧
(∀ (n : Fin 4) (r : MbReq) (s : State), serving n 0x5004 r s → r.payload.length = 8 → byteAt r.payload 0 ≤ 1 → byteAt r.payload 1 ≤ 127 → 1 ≤ byteAt
      r.payload 4 → byteAt r.payload 4 ≤ 128 → byteAt r.payload 5 ≤ 1 → leAt r.payload 6 2 = 0 → (s.hl.i2c.any fun e => e.1 = byteAt r.payload 0) =
      true → ∃ t, goesTo (.hlOpticsRead n) s t ∧ t.mbState n = mbDone ∧ awaiting n 0x5004 r t = false ∧ (t.mb n).busy = some (r.opcode, r.seq, r.crc,
      s.clk + 25000 * 1250) ∧ t.hl = s.hl ∧ onlyParts [.regs, .mbox, .mp, .host, .sent] s t) ∧
(∀ (n : Fin 4) (r : MbReq) (s : State), serving n 0x5005 r s → r.payload.length = 8 + byteAt r.payload 4 → byteAt r.payload 0 ≤ 1 → byteAt r.payload 1
      ≤ 127 → 1 ≤ byteAt r.payload 4 → byteAt r.payload 4 ≤ 128 → byteAt r.payload 5 ≤ 1 → leAt r.payload 6 2 = 0 → (s.hl.i2c.any fun e => e.1 =
      byteAt r.payload 0) = false → ∃ t, goesTo (.hlOpticsWrite n) s t ∧ awaiting n 0x5005 r t ∧ t.hl.i2c = s.hl.i2c ++ [(byteAt r.payload 0, n.val)]
      ∧ onlyParts [.regs, .hl, .mbox, .mp, .host, .sent] s t) ∧
(∀ (bus : Fin 2) (d : Bytes) (n : Fin 4) (q : MbReq) (s : State), s.up → s.hl.i2c.any (fun e => decide (e.1 = bus.val)) = true → awaiting n 0x5004 q s
      → byteAt q.payload 0 = bus.val → ∃ t, goesTo (.i2cTransferEnd bus (.done d)) s t ∧ answered n q d t ∧ t.hl.i2c = s.hl.i2c.filter (fun e => e.1 ≠
      bus.val) ∧ onlyParts [.regs, .hl, .mbox, .mp, .host, .sent] s t) ∧
(∀ (bus : Fin 2) (d : Bytes) (n : Fin 4) (q : MbReq) (s : State), s.up → s.hl.i2c.any (fun e => decide (e.1 = bus.val)) = true → awaiting n 0x5005 q s
      → byteAt q.payload 0 = bus.val → ∃ t, goesTo (.i2cTransferEnd bus (.done d)) s t ∧ answered n q [] t ∧ t.hl.i2c = s.hl.i2c.filter (fun e => e.1
      ≠ bus.val) ∧ onlyParts [.regs, .hl, .mbox, .mp, .host, .sent] s t) ∧
(∀ (bus : Fin 2) (n : Fin 4) (q : MbReq) (s : State), s.up → s.hl.i2c.any (fun e => decide (e.1 = bus.val)) = true → awaiting n 0x5004 q s ∨ awaiting
      n 0x5005 q s → byteAt q.payload 0 = bus.val → ∃ t, goesTo (.i2cTransferEnd bus .nack) s t ∧ rejected n q 0x0100 t ∧ onlyParts [.regs, .hl,
      .mbox, .mp, .host, .sent] s t) ∧
(∀ (bus : Fin 2) (n : Fin 4) (q : MbReq) (s : State), s.up → s.hl.i2c.any (fun e => decide (e.1 = bus.val)) = true → awaiting n 0x5004 q s ∨ awaiting
      n 0x5005 q s → byteAt q.payload 0 = bus.val → ∃ t, goesTo (.i2cTransferEnd bus .timeout) s t ∧ rejected n q 0x0101 t ∧ onlyParts [.regs, .hl,
      .mbox, .mp, .host, .sent] s t)

/-- Snapshots, clearing, bandwidth windows, delay histograms and the trace are read as PM gives them. -/
def Obligations.PerformanceCounters : Prop :=
(∀ (m : Master) (v : Word) (s : State), reaches m s → ∃ t, goesTo (.pmSnapWrite m v) s t ∧ (∀ u : Nat, u < 8 → t.rd (PM_SNAP_CYC_LO u) = s.rd
      (PM_CYC_LO u) ∧ t.rd (PM_SNAP_CYC_HI u) = s.rd (PM_CYC_HI u) ∧ t.rd (PM_CYC_LO u) = s.rd (PM_CYC_LO u)) ∧ (∀ u : Nat, u < 8 → ∀ k : Nat, k < 8 →
      t.rd (PM_SNAP_CNT_LO u k) = s.rd (PM_CNT_LO u k) ∧ t.get (PM_SNAP_CNT_HI_hi u k) = s.get (PM_CNT_HI_hi u k) ∧ t.rd (PM_CNT_LO u k) = s.rd
      (PM_CNT_LO u k)) ∧ onlyParts [.regs, .host, .sent] s t) ∧
(∀ (m : Master) (v : Word) (s : State), reaches m s → ∃ t, goesTo (.pmClrWrite m v) s t ∧ (∀ u : Nat, u < 8 → t.rd64 (PM_CYC_LO u) (PM_CYC_HI u) = 0 ∧
      t.rd (PM_SNAP_CYC_LO u) = s.rd (PM_SNAP_CYC_LO u)) ∧ (∀ u : Nat, u < 8 → ∀ k : Nat, k < 8 → t.rd64 (PM_CNT_LO u k) (PM_CNT_HI u k) = 0 ∧ t.rd
      (PM_SNAP_CNT_LO u k) = s.rd (PM_SNAP_CNT_LO u k)) ∧ (∀ p : Nat, p < 48 → t.rd (PM_BW_RX p) = 0 ∧ t.rd (PM_BW_TX p) = 0 ∧ t.rd (PM_BW_PEAK p) =
      0) ∧ onlyParts [.regs, .host, .sent] s t) ∧
(∀ (p : Fin 48) (s : State), s.up → p.val < s.lanes → s.bwDue p = true → s.tickStepped = false → ∃ t, goesTo (.bwWindowEnd p false) s t ∧ t.get
      (PM_BW_RX_octets4 p) = ((s.bwOf p).rx + (if s.on (PM_BW_CFG_line_mode p) then 20 else 0) * (s.bwOf p).rxFrames) / 4 % 2 ^ 32 ∧ t.get
      (PM_BW_TX_octets4 p) = ((s.bwOf p).tx + (if s.on (PM_BW_CFG_line_mode p) then 20 else 0) * (s.bwOf p).txFrames) / 4 % 2 ^ 32 ∧ t.on
      (PM_BW_CFG_step p) = false ∧ t.get (PM_BW_PEAK_rx_peak p) = min 0xFFFF (max (s.get (PM_BW_PEAK_rx_peak p)) (((s.bwOf p).rx + (if s.on
      (PM_BW_CFG_line_mode p) then 20 else 0) * (s.bwOf p).rxFrames) * 8 / (clamp 1 1000000 (s.get (PM_BW_CFG_window_us p)) * 10))) ∧ t.get
      (PM_BW_PEAK_tx_peak p) = min 0xFFFF (max (s.get (PM_BW_PEAK_tx_peak p)) (((s.bwOf p).tx + (if s.on (PM_BW_CFG_line_mode p) then 20 else 0) *
      (s.bwOf p).txFrames) * 8 / (clamp 1 1000000 (s.get (PM_BW_CFG_window_us p)) * 10))) ∧ t.bwOf p = ⟨0, 0, 0, 0⟩ ∧ onlyChanges [PM_BW_CFG p,
      PM_BW_RX p, PM_BW_TX p, PM_BW_PEAK p] [.bw] s t) ∧
(∀ (p : Fin 48) (s : State), s.up → p.val < s.lanes → s.bwDue p = true → s.tickStepped = true → ∃ t, goesTo (.bwWindowEnd p true) s t ∧ t.get
      (PM_BW_RX_octets4 p) = ((s.bwOf p).rx + (if s.on (PM_BW_CFG_line_mode p) then 20 else 0) * (s.bwOf p).rxFrames) / 4 % 2 ^ 32 ∧ t.get
      (PM_BW_TX_octets4 p) = ((s.bwOf p).tx + (if s.on (PM_BW_CFG_line_mode p) then 20 else 0) * (s.bwOf p).txFrames) / 4 % 2 ^ 32 ∧ t.on
      (PM_BW_CFG_step p) = true ∧ t.rd (PM_BW_PEAK p) = s.rd (PM_BW_PEAK p) ∧ t.bwOf p = ⟨0, 0, 0, 0⟩ ∧ onlyChanges [PM_BW_CFG p, PM_BW_RX p, PM_BW_TX
      p] [.bw] s t) ∧
(∀ (s : State), s.up → s.on PM_CTRL_mp_hist = true → s.stacksRun = true → Tab.wf resetWord s.regs = true → ∃ t, goesTo (.mpHistAccumulate) s t ∧ (∀ q
      : Nat, q < 472 → ∀ k : Nat, k < 16 → s.hl.hist.get 0 (16 * q + k) < 2 ^ 64 → t.hl.hist.get 0 (16 * q + k) = (s.hl.hist.get 0 (16 * q + k) +
      (s.rd (SC_DELAY_HIST q k)).toNat) % 2 ^ 64 ∧ t.rd (SC_DELAY_HIST q k) = 0) ∧ onlyParts [.regs, .hl, .host, .sent] s t) ∧
(∀ (n : Fin 4) (r : MbReq) (s : State), serving n 0x6000 r s → r.payload.length = 4 → leAt r.payload 0 2 ≤ 255 → 1 ≤ leAt r.payload 2 2 → leAt
      r.payload 2 2 ≤ 63 → ∃ t, goesTo (.pmGetTrace n) s t ∧ answered n r (((List.range (leAt r.payload 2 2)).map fun k => ((List.range 16).map fun w
      => wordBytes (s.rd (PM_TRACE ((leAt r.payload 0 2 + k) % 256) w))).flatten).flatten) t ∧ onlyParts [.regs, .mbox, .mp, .host, .sent] s t) ∧
(∀ (n : Fin 4) (r : MbReq) (q : Fin 472) (s : State), serving n 0x6001 r s → r.payload.length = 4 → leAt r.payload 0 2 = q.val → byteAt r.payload 2 ≤
      1 → byteAt r.payload 3 = 0 → s.variant = .fh4848 → s.on PM_CTRL_mp_hist = true → ∃ t, goesTo (.pmGetHistogram n) s t ∧ answered n r ((List.range
      16).map fun k => leBytes 8 (s.hl.hist.get 0 (16 * q + k))).flatten t ∧ (∀ k : Nat, k < 16 → t.hl.hist.get 0 (16 * q + k) = if byteAt r.payload 2
      = 1 then 0 else s.hl.hist.get 0 (16 * q + k)) ∧ onlyParts [.regs, .hl, .mbox, .mp, .host, .sent] s t)

/-- The machine after reset: every register at its reset value, the time at 0 and suspect, an empty queue. -/
def Obligations.ResetValues : Prop :=
(State.reset.pending = []) ∧
(regsOk State.reset) ∧
(delivered State.reset) ∧
(atReset keptOverReset State.reset) ∧
(State.reset.tb = ⟨0, 0, 0⟩ ∧ State.reset.on TB_STAT_suspect = true ∧ State.reset.on TB_STAT_cause_restart = true) ∧
(∀ n : Nat, n < 4 → State.reset.mbState n = mbIdle ∧ State.reset.mbOwns .msp n = decide (n = 3) ∧ State.reset.mbOwns .pcie n = decide (n < 3)) ∧
(State.reset.host.guardPcie = false ∧ State.reset.host.guardMsp = false ∧ State.reset.mpRuns = false ∧ State.reset.up = true)

/-- A step runs the command at the front of the queue on the state that holds the rest; an empty queue idles. -/
def Obligations.StepRunsTheFront : Prop :=
(∀ (c : Instr) (l : List Instr) (s : State), step { s with pending := c :: l } = exec c { s with pending := l }) ∧
(∀ (s : State), s.pending = [] → step s = .next s)

/-- Every command of every state answers a next state, and only supplies, resets and the tick act on a module at rest. -/
def Obligations.NoCommandStops : Prop :=
(∀ (c : Instr) (s : State), ∃ t, goesTo c s t) ∧
(∀ (s : State), ∃ t, step s = .next t) ∧
(∀ (c : Instr) (s : State), s.up = false → actsAtRest c = false → exec c s = .next s)

/-- After every step no interrupt message that can leave is unsent, and the pending bits tell what waits. -/
def Obligations.DeliveredIsKept : Prop :=
(∀ (s t : State), delivered s → step s = .next t → delivered t)

/-- Every step keeps reserved bits at 0 and the register file in its canonical form. -/
def Obligations.ReservedBitsStayZero : Prop :=
(∀ (s t : State), regsOk s → step s = .next t → regsOk t)

/-- SYS_ECHO returns its payload after the status word, and refuses one of more than 4072 bytes. -/
def Obligations.EchoReturnsItsPayload : Prop :=
(∀ (n : Fin 4) (r : MbReq) (s : State), serving n 0x0101 r s → r.payload.length ≤ 4072 → ∃ t, goesTo (.sysEcho n) s t ∧ t.mbState n = mbDone ∧ (t.mb
      n).last.map (·.2.2.2.2) = some (leBytes 2 0 ++ leBytes 2 0 ++ leBytes 4 0 ++ r.payload) ∧ onlyParts [.regs, .mbox, .mp, .host, .sent] s t) ∧
(∀ (n : Fin 4) (r : MbReq) (s : State), serving n 0x0101 r s → 4072 < r.payload.length → ∃ t, goesTo (.sysEcho n) s t ∧ rejected n r badLength t ∧
      onlyParts [.regs, .mbox, .mp, .host, .sent] s t)

/-- Sources 24 to 47 read 1 just while a port or a lane of their bay has an enabled cause set. -/
def Obligations.BaySources : Prop :=
(∀ (s : State) (b : Nat), b < s.bays → (s.source (36 + b) = true ↔ ∃ l i : Nat, l / 4 = b ∧ i < 32 ∧ s.bit (LN_INT_STAT l) i = true ∧ s.bit (LN_INT_EN
      l) i = true)) ∧
(∀ (s : State) (b : Nat), b < s.bays → (s.source (24 + b) = true ↔ ∃ p i : Nat, p / 4 = b ∧ i < 32 ∧ s.bit (PT_INT_STAT p) i = true ∧ s.bit (PT_INT_EN
      p) i = true))

/-- The time channel and the SyncE channel are two fields, 0 and 1 at reset, and may name one channel. -/
def Obligations.Designations : Prop :=
(State.reset.timeCh = 0 ∧ State.reset.synceCh = 1) ∧
(∀ (s : State) (c d : Fin 6), ((s.set TC_ROLES_time_ch c).set TC_ROLES_synce_ch d).timeCh = c.val ∧ ((s.set TC_ROLES_time_ch c).set TC_ROLES_synce_ch
      d).synceCh = d.val)
end

