-- ==== Sys2Proof/Laws/Tab.lean ====
section
/-! SUPPORT. The laws of sparse tables: a read after a write, and that writing keeps the canonical form. -/

namespace Sys2Proof.Machine

variable {α : Type}

@[simp] theorem Tab.get_nil (d : α) (q : Nat) : Tab.get d [] q = d := rfl

theorem Tab.get_drop_same (d : α) (t : Tab α) (q : Nat) : Tab.get d (Tab.drop t q) q = d := by
  induction t with
  | nil => rfl
  | cons e t ih =>
    obtain ⟨k, v⟩ := e
    by_cases h : k = q
    · simpa [Tab.drop, h] using ih
    · simpa [Tab.drop, Tab.get, h] using ih

theorem Tab.get_drop_ne (d : α) (t : Tab α) {q p : Nat} (n : p ≠ q) : Tab.get d (Tab.drop t q) p = Tab.get d t p := by
  induction t with
  | nil => rfl
  | cons e t ih =>
    obtain ⟨k, v⟩ := e
    by_cases h : k = q
    · subst h; simpa [Tab.drop, Tab.get, n.symm] using ih
    · rw [Tab.drop, if_neg h, Tab.get, Tab.get, ih]

theorem Tab.get_place_same (d : α) (t : Tab α) (q : Nat) (w : α) (h : ∀ e ∈ t, e.1 ≠ q) :
    Tab.get d (Tab.place t q w) q = w := by
  induction t with
  | nil => simp [Tab.place, Tab.get]
  | cons e t ih =>
    obtain ⟨k, v⟩ := e
    have hk : k ≠ q := h (k, v) (by simp)
    by_cases c : q < k
    · simp [Tab.place, Tab.get, c]
    · simpa [Tab.place, Tab.get, c, hk] using ih fun e he => h e (by simp [he])

theorem Tab.get_place_ne (d : α) (t : Tab α) {q p : Nat} (w : α) (n : p ≠ q) :
    Tab.get d (Tab.place t q w) p = Tab.get d t p := by
  induction t with
  | nil => simp [Tab.place, Tab.get, n.symm]
  | cons e t ih =>
    obtain ⟨k, v⟩ := e
    by_cases c : q < k
    · simp [Tab.place, Tab.get, c, n.symm]
    · rw [Tab.place, if_neg c, Tab.get, Tab.get, ih]

theorem Tab.mem_drop (t : Tab α) (q : Nat) {e : Nat × α} : e ∈ Tab.drop t q ↔ e ∈ t ∧ e.1 ≠ q := by
  induction t with
  | nil => simp [Tab.drop]
  | cons x t ih =>
    obtain ⟨k, v⟩ := x
    by_cases h : k = q
    · subst h
      simp only [Tab.drop, if_true, ih, List.mem_cons]
      constructor
      · rintro ⟨a, b⟩; exact ⟨.inr a, b⟩
      · rintro ⟨rfl | a, b⟩
        · exact absurd rfl b
        · exact ⟨a, b⟩
    · simp only [Tab.drop, if_neg h, ih, List.mem_cons]
      constructor
      · rintro (rfl | ⟨a, b⟩)
        · exact ⟨.inl rfl, h⟩
        · exact ⟨.inr a, b⟩
      · rintro ⟨rfl | a, b⟩
        · exact .inl rfl
        · exact .inr ⟨a, b⟩

theorem Tab.mem_place (t : Tab α) (q : Nat) (w : α) {e : Nat × α} : e ∈ Tab.place t q w ↔ e = (q, w) ∨ e ∈ t := by
  induction t with
  | nil => simp [Tab.place]
  | cons x t ih =>
    obtain ⟨k, v⟩ := x
    by_cases c : q < k
    · simp [Tab.place, c]
    · simp only [Tab.place, if_neg c, List.mem_cons, ih, or_left_comm]

/-- A read after a write of the same key gives the value written. -/
@[simp] theorem Tab.get_put_same [DecidableEq α] (d : α) (t : Tab α) (q : Nat) (w : α) : Tab.get d (Tab.put d t q w) q = w := by
  by_cases h : w = d
  · simp [Tab.put, h, Tab.get_drop_same]
  · simp only [Tab.put, h, if_false]
    exact Tab.get_place_same d _ q w fun e he => ((Tab.mem_drop t q).1 he).2

/-- A write leaves every other key alone. -/
theorem Tab.get_put_ne [DecidableEq α] (d d' : α) (t : Tab α) {q p : Nat} (w : α) (n : p ≠ q) :
    Tab.get d' (Tab.put d t q w) p = Tab.get d' t p := by
  by_cases h : w = d
  · simp [Tab.put, h, Tab.get_drop_ne d' t n]
  · simp [Tab.put, h, Tab.get_place_ne d' _ w n, Tab.get_drop_ne d' t n]

/-! ### The canonical form -/

theorem Tab.rises_weaken {t : Tab α} {a b : Nat} (h : a ≤ b) (r : Tab.rises (some b) t = true) : Tab.rises (some a) t = true := by
  cases t with
  | nil => rfl
  | cons e t =>
    obtain ⟨k, v⟩ := e
    simp only [Tab.rises, Bool.and_eq_true, decide_eq_true_eq] at r ⊢
    exact ⟨by omega, r.2⟩

theorem Tab.rises_none {t : Tab α} {a : Nat} (r : Tab.rises (some a) t = true) : Tab.rises none t = true := by
  cases t with
  | nil => rfl
  | cons e t => simp only [Tab.rises, Bool.and_eq_true, true_and] at r ⊢; exact r.2

theorem Tab.rises_drop {t : Tab α} {lo : Option Nat} (q : Nat) (r : Tab.rises lo t = true) : Tab.rises lo (Tab.drop t q) = true := by
  induction t generalizing lo with
  | nil => rfl
  | cons e t ih =>
    obtain ⟨k, v⟩ := e
    simp only [Tab.rises, Bool.and_eq_true] at r
    by_cases h : k = q
    · simp only [Tab.drop, if_pos h]
      refine ih ?_
      cases lo with
      | none => exact Tab.rises_none r.2
      | some m => exact Tab.rises_weaken (by have := r.1; simp at this; omega) r.2
    · simp only [Tab.drop, if_neg h, Tab.rises, Bool.and_eq_true]
      exact ⟨r.1, ih r.2⟩

theorem Tab.rises_place {t : Tab α} {lo : Option Nat} (q : Nat) (w : α) (h : ∀ e ∈ t, e.1 ≠ q) (l : ∀ m, lo = some m → m < q)
    (r : Tab.rises lo t = true) : Tab.rises lo (Tab.place t q w) = true := by
  induction t generalizing lo with
  | nil => cases lo <;> simp_all [Tab.place, Tab.rises]
  | cons e t ih =>
    obtain ⟨k, v⟩ := e
    have hk : k ≠ q := h (k, v) (by simp)
    simp only [Tab.rises, Bool.and_eq_true] at r
    by_cases c : q < k
    · simp only [Tab.place, if_pos c, Tab.rises, Bool.and_eq_true, decide_eq_true_eq]
      refine ⟨?_, c, r.2⟩
      cases lo with
      | none => rfl
      | some m => simpa using l m rfl
    · simp only [Tab.place, if_neg c, Tab.rises, Bool.and_eq_true]
      refine ⟨r.1, ih (fun e he => h e (by simp [he])) (fun m hm => ?_) r.2⟩
      cases hm; omega

/-- A write keeps the canonical form. -/
theorem Tab.wf_put [DecidableEq α] {d : Nat → α} {t : Tab α} (q : Nat) (w : α) (r : Tab.wf d t = true) : Tab.wf d (Tab.put (d q) t q w) = true := by
  simp only [Tab.wf, Bool.and_eq_true, List.all_eq_true, decide_eq_true_eq] at r ⊢
  have ne : ∀ e ∈ Tab.drop t q, e.1 ≠ q := fun e he => ((Tab.mem_drop t q).1 he).2
  have al : ∀ e ∈ Tab.drop t q, e.2 ≠ d e.1 := fun e he => r.2 e ((Tab.mem_drop t q).1 he).1
  by_cases h : w = d q
  · simp only [Tab.put, if_pos h]
    exact ⟨Tab.rises_drop q r.1, al⟩
  · simp only [Tab.put, if_neg h]
    refine ⟨Tab.rises_place q w ne (by simp) (Tab.rises_drop q r.1), fun e he => ?_⟩
    rcases (Tab.mem_place _ q w).1 he with rfl | he
    · exact h
    · exact al e he

end Sys2Proof.Machine
end

