-- ==== Sys2Proof/Laws/Regs.lean ====
section
/-! SUPPORT. The laws of the register file: a field reads what was written into it, every other field and register keeps its
value, and the register file keeps its canonical form. -/

namespace Sys2Proof.Machine

/-! ### Bits -/

theorem maskOf_bit (hi lo i : Nat) : (maskOf hi lo).getLsbD i = (decide (i < 32) && decide (lo ≤ i) && decide (i ≤ hi)) := by
  simp only [maskOf, BitVec.getLsbD_ofNat, Nat.testBit_shiftLeft, Nat.testBit_two_pow_sub_one]
  by_cases a : i < 32 <;> by_cases b : lo ≤ i <;> simp [a, b]; omega

theorem bitsOf_bit (w : Word) (hi lo i : Nat) : (bitsOf w hi lo).testBit i = (decide (lo + i ≤ hi) && w.getLsbD (lo + i)) := by
  simp only [bitsOf, Nat.testBit_mod_two_pow, Nat.testBit_shiftRight, BitVec.getLsbD]
  by_cases h : lo + i ≤ hi
  · have : i < hi + 1 - lo := by omega
    simp [h, this]
  · have : ¬ i < hi + 1 - lo := by omega
    simp [h, this]

theorem putBits_bit (w : Word) (hi lo v i : Nat) : (putBits w hi lo v).getLsbD i =
    if lo ≤ i ∧ i ≤ hi ∧ i < 32 then v.testBit (i - lo) else w.getLsbD i := by
  simp only [putBits, BitVec.getLsbD_or, BitVec.getLsbD_and, BitVec.getLsbD_not, maskOf_bit, BitVec.getLsbD_ofNat,
    Nat.testBit_shiftLeft, Nat.testBit_mod_two_pow]
  by_cases a : i < 32
  · by_cases b : lo ≤ i
    · by_cases c : i ≤ hi
      · have : i - lo < hi + 1 - lo := by omega
        simp [a, b, c, this]
      · have : ¬ i - lo < hi + 1 - lo := by omega
        simp [a, b, c, this]
    · simp [a, b]
  · simp [a, BitVec.getLsbD_of_ge w i (by omega)]

/-- A field read back gives what was put into it. -/
theorem bitsOf_putBits (w : Word) {hi lo : Nat} (v : Nat) (h : hi < 32) : bitsOf (putBits w hi lo v) hi lo = v % 2 ^ (hi + 1 - lo) := by
  apply Nat.eq_of_testBit_eq
  intro i
  rw [bitsOf_bit, putBits_bit, Nat.testBit_mod_two_pow]
  by_cases c : lo + i ≤ hi
  · have a : lo ≤ lo + i ∧ lo + i ≤ hi ∧ lo + i < 32 := ⟨by omega, c, by omega⟩
    have b : i < hi + 1 - lo := by omega
    rw [if_pos a, Nat.add_sub_cancel_left]; simp [c, b]
  · have b : ¬ i < hi + 1 - lo := by omega
    simp [c, b]

/-- A disjoint field keeps its value. -/
theorem bitsOf_putBits_ne (w : Word) {hi lo hi' lo' : Nat} (v : Nat) (d : hi < lo' ∨ hi' < lo) :
    bitsOf (putBits w hi lo v) hi' lo' = bitsOf w hi' lo' := by
  apply Nat.eq_of_testBit_eq
  intro i
  rw [bitsOf_bit, bitsOf_bit, putBits_bit]
  by_cases c : lo' + i ≤ hi'
  · have : ¬ (lo ≤ lo' + i ∧ lo' + i ≤ hi ∧ lo' + i < 32) := by omega
    rw [if_neg this]
  · simp [c]

theorem bitsOf_and (w m : Word) {hi lo : Nat} (h : m &&& maskOf hi lo = maskOf hi lo) (b : hi < 32) :
    bitsOf (w &&& m) hi lo = bitsOf w hi lo := by
  apply Nat.eq_of_testBit_eq
  intro i
  rw [bitsOf_bit, bitsOf_bit]
  by_cases c : lo + i ≤ hi
  · have t := congrArg (fun x => BitVec.getLsbD x (lo + i)) h
    simp only [BitVec.getLsbD_and, maskOf_bit] at t
    have a : lo + i < 32 := by omega
    simp only [a, c, decide_true, Nat.le_add_right, Bool.and_true] at t
    simp [t]
  · simp [c]

theorem bitsOf_lt (w : Word) (hi lo : Nat) : bitsOf w hi lo < 2 ^ (hi + 1 - lo) := Nat.mod_lt _ (Nat.two_pow_pos _)

/-! ### Words -/

@[simp] theorem State.rd_wr_same (s : State) (a : Nat) (w : Word) : (s.wr a w).rd a = w &&& fieldBits a := by
  simp [State.wr, State.rd]

theorem State.rd_wr_ne (s : State) {a b : Nat} (w : Word) (n : b ≠ a) : (s.wr a w).rd b = s.rd b := by
  simp [State.wr, State.rd, Tab.get_put_ne _ _ _ _ n]

/-- A field of the map: its mask lies in the fields of its register (a fact of the map, shown by evaluation). -/
def FRef.ok (f : FRef) : Bool := decide (fieldBits f.addr &&& maskOf f.hi f.lo = maskOf f.hi f.lo) && decide (f.hi < 32)

theorem State.rd_set_same (s : State) (f : FRef) (v : Nat) :
    (s.set f v).rd f.addr = putBits (s.rd f.addr) f.hi f.lo v &&& fieldBits f.addr := by simp [State.set]

theorem State.rd_set_ne (s : State) {f : FRef} {a : Nat} (v : Nat) (n : a ≠ f.addr) : (s.set f v).rd a = s.rd a :=
  State.rd_wr_ne s _ n

/-- A field reads what was stored in it. -/
theorem State.get_set_same (s : State) {f : FRef} (v : Nat) (h : f.ok = true) :
    (s.set f v).get f = v % 2 ^ (f.hi + 1 - f.lo) := by
  simp only [FRef.ok, Bool.and_eq_true, decide_eq_true_eq] at h
  rw [State.get, State.rd_set_same, bitsOf_and _ _ h.1 h.2, bitsOf_putBits _ _ h.2]

/-- A field of another register keeps its value. -/
theorem State.get_set_addr (s : State) {f g : FRef} (v : Nat) (n : g.addr ≠ f.addr) : (s.set f v).get g = s.get g := by
  rw [State.get, State.rd_set_ne s v n, State.get]

/-- Another field of the same register keeps its value. -/
theorem State.get_set_bits (s : State) {f g : FRef} (v : Nat) (a : g.addr = f.addr) (h : g.ok = true)
    (d : f.hi < g.lo ∨ g.hi < f.lo) : (s.set f v).get g = s.get g := by
  simp only [FRef.ok, Bool.and_eq_true, decide_eq_true_eq] at h
  rw [State.get, a, State.rd_set_same, bitsOf_and _ _ (a ▸ h.1) h.2, bitsOf_putBits_ne _ _ d, State.get, a]

/-- A stored field, read as a flag. -/
theorem State.on_raise (s : State) {f : FRef} (h : f.ok = true) (o : f.lo = f.hi) : (s.raise f).on f = true := by
  have : f.hi + 1 - f.lo = 1 := by omega
  simp [State.on, State.raise, State.get_set_same s 1 h, this]

/-! ### The canonical form -/

theorem Reg.find_base {r : Reg} {a : Nat} {ij : Nat × Nat} (h : r.find a = some ij) : r.base ≤ a := by
  unfold Reg.find at h
  split at h
  · cases h
  · omega

/-- The register file keeps its canonical form under every write. -/
theorem State.wf_wr {s : State} (a : Nat) (w : Word) (h : Tab.wf resetWord s.regs = true) :
    Tab.wf resetWord (s.wr a w).regs = true := Tab.wf_put a _ h

end Sys2Proof.Machine
end

