-- ==== Sys2Proof/Laws/State.lean ====
section
/-! SUPPORT. What each update of the state leaves alone: one lemma for each field and update. -/

namespace Sys2Proof.Machine

/-- What every step of a fold leaves alone, the fold leaves alone. -/
theorem foldl_keeps {β γ : Type} (f : State → β → State) (p : State → γ) (h : ∀ s x, p (f s x) = p s) (l : List β) (s : State) :
    p (l.foldl f s) = p s := by
  induction l generalizing s with
  | nil => rfl
  | cons x l ih => rw [List.foldl_cons, ih, h]

@[simp] theorem State.raise_eq (s : State) (f : FRef) : s.raise f = s.set f 1 := rfl
@[simp] theorem State.setB_eq (s : State) (f : FRef) (b : Bool) : s.setB f b = s.set f (flag b) := rfl
@[simp] theorem State.inc_eq (s : State) (f : FRef) : s.inc f = s.add f 1 := rfl
@[simp] theorem State.add_eq (s : State) (f : FRef) (n : Nat) :
    s.add f n = s.set f (min (2 ^ (f.hi + 1 - f.lo) - 1) (s.get f + n)) := rfl
@[simp] theorem State.addWrap_eq (s : State) (f : FRef) (n : Nat) : s.addWrap f n = s.set f (s.get f + n) := rfl
@[simp] theorem State.setBit_eq (s : State) (a n : Nat) : s.setBit a n = s.set ⟨a, n, n⟩ 1 := rfl

/-! ### `wr` -/

@[simp] theorem State.wr_pending (s : State) (a : Nat) (w : Word) : (s.wr a w).pending = s.pending := rfl
@[simp] theorem State.wr_variant (s : State) (a : Nat) (w : Word) : (s.wr a w).variant = s.variant := rfl
@[simp] theorem State.wr_pend (s : State) (a : Nat) (w : Word) : (s.wr a w).pend = s.pend := rfl
@[simp] theorem State.wr_clk (s : State) (a : Nat) (w : Word) : (s.wr a w).clk = s.clk := rfl
@[simp] theorem State.wr_free (s : State) (a : Nat) (w : Word) : (s.wr a w).free = s.free := rfl
@[simp] theorem State.wr_sent (s : State) (a : Nat) (w : Word) : (s.wr a w).sent = s.sent := rfl
@[simp] theorem State.wr_tb (s : State) (a : Nat) (w : Word) : (s.wr a w).tb = s.tb := rfl
@[simp] theorem State.wr_power (s : State) (a : Nat) (w : Word) : (s.wr a w).power = s.power := rfl
@[simp] theorem State.wr_host (s : State) (a : Nat) (w : Word) : (s.wr a w).host = s.host := rfl
@[simp] theorem State.wr_ownerNext (s : State) (a : Nat) (w : Word) : (s.wr a w).ownerNext = s.ownerNext := rfl
@[simp] theorem State.wr_mbox (s : State) (a : Nat) (w : Word) : (s.wr a w).mbox = s.mbox := rfl
@[simp] theorem State.wr_mp (s : State) (a : Nat) (w : Word) : (s.wr a w).mp = s.mp := rfl
@[simp] theorem State.wr_hl (s : State) (a : Nat) (w : Word) : (s.wr a w).hl = s.hl := rfl
@[simp] theorem State.wr_bw (s : State) (a : Nat) (w : Word) : (s.wr a w).bw = s.bw := rfl
@[simp] theorem State.wr_lane (s : State) (a : Nat) (w : Word) : (s.wr a w).lane = s.lane := rfl
@[simp] theorem State.wr_port (s : State) (a : Nat) (w : Word) : (s.wr a w).port = s.port := rfl
@[simp] theorem State.wr_sc (s : State) (a : Nat) (w : Word) : (s.wr a w).sc = s.sc := rfl
@[simp] theorem State.wr_pr (s : State) (a : Nat) (w : Word) : (s.wr a w).pr = s.pr := rfl
@[simp] theorem State.wr_ft (s : State) (a : Nat) (w : Word) : (s.wr a w).ft = s.ft := rfl
@[simp] theorem State.wr_txts (s : State) (a : Nat) (w : Word) : (s.wr a w).txts = s.txts := rfl
@[simp] theorem State.wr_frozen (s : State) (a : Nat) (w : Word) : (s.wr a w).frozen = s.frozen := rfl
@[simp] theorem State.wr_treadRead (s : State) (a : Nat) (w : Word) : (s.wr a w).treadRead = s.treadRead := rfl
@[simp] theorem State.wr_taq (s : State) (a : Nat) (w : Word) : (s.wr a w).taq = s.taq := rfl
@[simp] theorem State.wr_time (s : State) (a : Nat) (w : Word) : (s.wr a w).time = s.time := rfl
@[simp] theorem State.wr_chan (s : State) (a : Nat) (w : Word) : (s.wr a w).chan = s.chan := rfl
@[simp] theorem State.wr_smp (s : State) (a : Nat) (w : Word) : (s.wr a w).smp = s.smp := rfl
@[simp] theorem State.wr_esmc (s : State) (a : Nat) (w : Word) : (s.wr a w).esmc = s.esmc := rfl
@[simp] theorem State.wr_ou (s : State) (a : Nat) (w : Word) : (s.wr a w).ou = s.ou := rfl
@[simp] theorem State.wr_tdc (s : State) (a : Nat) (w : Word) : (s.wr a w).tdc = s.tdc := rfl
@[simp] theorem State.wr_evIn (s : State) (a : Nat) (w : Word) : (s.wr a w).evIn = s.evIn := rfl
@[simp] theorem State.wr_evGrp (s : State) (a : Nat) (w : Word) : (s.wr a w).evGrp = s.evGrp := rfl
@[simp] theorem State.wr_tw (s : State) (a : Nat) (w : Word) : (s.wr a w).tw = s.tw := rfl
@[simp] theorem State.wr_px (s : State) (a : Nat) (w : Word) : (s.wr a w).px = s.px := rfl
@[simp] theorem State.wr_ptp (s : State) (a : Nat) (w : Word) : (s.wr a w).ptp = s.ptp := rfl
@[simp] theorem State.wr_tod (s : State) (a : Nat) (w : Word) : (s.wr a w).tod = s.tod := rfl
@[simp] theorem State.wr_retain (s : State) (a : Nat) (w : Word) : (s.wr a w).retain = s.retain := rfl
@[simp] theorem State.wr_fu (s : State) (a : Nat) (w : Word) : (s.wr a w).fu = s.fu := rfl
@[simp] theorem State.wr_unit (s : State) (a : Nat) (w : Word) : (s.wr a w).unit = s.unit := rfl

/-! ### `set` -/

@[simp] theorem State.set_pending (s : State) (f : FRef) (v : Nat) : (s.set f v).pending = s.pending := rfl
@[simp] theorem State.set_variant (s : State) (f : FRef) (v : Nat) : (s.set f v).variant = s.variant := rfl
@[simp] theorem State.set_pend (s : State) (f : FRef) (v : Nat) : (s.set f v).pend = s.pend := rfl
@[simp] theorem State.set_clk (s : State) (f : FRef) (v : Nat) : (s.set f v).clk = s.clk := rfl
@[simp] theorem State.set_free (s : State) (f : FRef) (v : Nat) : (s.set f v).free = s.free := rfl
@[simp] theorem State.set_sent (s : State) (f : FRef) (v : Nat) : (s.set f v).sent = s.sent := rfl
@[simp] theorem State.set_tb (s : State) (f : FRef) (v : Nat) : (s.set f v).tb = s.tb := rfl
@[simp] theorem State.set_power (s : State) (f : FRef) (v : Nat) : (s.set f v).power = s.power := rfl
@[simp] theorem State.set_host (s : State) (f : FRef) (v : Nat) : (s.set f v).host = s.host := rfl
@[simp] theorem State.set_ownerNext (s : State) (f : FRef) (v : Nat) : (s.set f v).ownerNext = s.ownerNext := rfl
@[simp] theorem State.set_mbox (s : State) (f : FRef) (v : Nat) : (s.set f v).mbox = s.mbox := rfl
@[simp] theorem State.set_mp (s : State) (f : FRef) (v : Nat) : (s.set f v).mp = s.mp := rfl
@[simp] theorem State.set_hl (s : State) (f : FRef) (v : Nat) : (s.set f v).hl = s.hl := rfl
@[simp] theorem State.set_bw (s : State) (f : FRef) (v : Nat) : (s.set f v).bw = s.bw := rfl
@[simp] theorem State.set_lane (s : State) (f : FRef) (v : Nat) : (s.set f v).lane = s.lane := rfl
@[simp] theorem State.set_port (s : State) (f : FRef) (v : Nat) : (s.set f v).port = s.port := rfl
@[simp] theorem State.set_sc (s : State) (f : FRef) (v : Nat) : (s.set f v).sc = s.sc := rfl
@[simp] theorem State.set_pr (s : State) (f : FRef) (v : Nat) : (s.set f v).pr = s.pr := rfl
@[simp] theorem State.set_ft (s : State) (f : FRef) (v : Nat) : (s.set f v).ft = s.ft := rfl
@[simp] theorem State.set_txts (s : State) (f : FRef) (v : Nat) : (s.set f v).txts = s.txts := rfl
@[simp] theorem State.set_frozen (s : State) (f : FRef) (v : Nat) : (s.set f v).frozen = s.frozen := rfl
@[simp] theorem State.set_treadRead (s : State) (f : FRef) (v : Nat) : (s.set f v).treadRead = s.treadRead := rfl
@[simp] theorem State.set_taq (s : State) (f : FRef) (v : Nat) : (s.set f v).taq = s.taq := rfl
@[simp] theorem State.set_time (s : State) (f : FRef) (v : Nat) : (s.set f v).time = s.time := rfl
@[simp] theorem State.set_chan (s : State) (f : FRef) (v : Nat) : (s.set f v).chan = s.chan := rfl
@[simp] theorem State.set_smp (s : State) (f : FRef) (v : Nat) : (s.set f v).smp = s.smp := rfl
@[simp] theorem State.set_esmc (s : State) (f : FRef) (v : Nat) : (s.set f v).esmc = s.esmc := rfl
@[simp] theorem State.set_ou (s : State) (f : FRef) (v : Nat) : (s.set f v).ou = s.ou := rfl
@[simp] theorem State.set_tdc (s : State) (f : FRef) (v : Nat) : (s.set f v).tdc = s.tdc := rfl
@[simp] theorem State.set_evIn (s : State) (f : FRef) (v : Nat) : (s.set f v).evIn = s.evIn := rfl
@[simp] theorem State.set_evGrp (s : State) (f : FRef) (v : Nat) : (s.set f v).evGrp = s.evGrp := rfl
@[simp] theorem State.set_tw (s : State) (f : FRef) (v : Nat) : (s.set f v).tw = s.tw := rfl
@[simp] theorem State.set_px (s : State) (f : FRef) (v : Nat) : (s.set f v).px = s.px := rfl
@[simp] theorem State.set_ptp (s : State) (f : FRef) (v : Nat) : (s.set f v).ptp = s.ptp := rfl
@[simp] theorem State.set_tod (s : State) (f : FRef) (v : Nat) : (s.set f v).tod = s.tod := rfl
@[simp] theorem State.set_retain (s : State) (f : FRef) (v : Nat) : (s.set f v).retain = s.retain := rfl
@[simp] theorem State.set_fu (s : State) (f : FRef) (v : Nat) : (s.set f v).fu = s.fu := rfl
@[simp] theorem State.set_unit (s : State) (f : FRef) (v : Nat) : (s.set f v).unit = s.unit := rfl

/-! ### `emit` -/

@[simp] theorem State.emit_pending (s : State) (x : Sent) : (s.emit x).pending = s.pending := rfl
@[simp] theorem State.emit_variant (s : State) (x : Sent) : (s.emit x).variant = s.variant := rfl
@[simp] theorem State.emit_regs (s : State) (x : Sent) : (s.emit x).regs = s.regs := rfl
@[simp] theorem State.emit_pend (s : State) (x : Sent) : (s.emit x).pend = s.pend := rfl
@[simp] theorem State.emit_clk (s : State) (x : Sent) : (s.emit x).clk = s.clk := rfl
@[simp] theorem State.emit_free (s : State) (x : Sent) : (s.emit x).free = s.free := rfl
@[simp] theorem State.emit_tb (s : State) (x : Sent) : (s.emit x).tb = s.tb := rfl
@[simp] theorem State.emit_power (s : State) (x : Sent) : (s.emit x).power = s.power := rfl
@[simp] theorem State.emit_host (s : State) (x : Sent) : (s.emit x).host = s.host := rfl
@[simp] theorem State.emit_ownerNext (s : State) (x : Sent) : (s.emit x).ownerNext = s.ownerNext := rfl
@[simp] theorem State.emit_mbox (s : State) (x : Sent) : (s.emit x).mbox = s.mbox := rfl
@[simp] theorem State.emit_mp (s : State) (x : Sent) : (s.emit x).mp = s.mp := rfl
@[simp] theorem State.emit_hl (s : State) (x : Sent) : (s.emit x).hl = s.hl := rfl
@[simp] theorem State.emit_bw (s : State) (x : Sent) : (s.emit x).bw = s.bw := rfl
@[simp] theorem State.emit_lane (s : State) (x : Sent) : (s.emit x).lane = s.lane := rfl
@[simp] theorem State.emit_port (s : State) (x : Sent) : (s.emit x).port = s.port := rfl
@[simp] theorem State.emit_sc (s : State) (x : Sent) : (s.emit x).sc = s.sc := rfl
@[simp] theorem State.emit_pr (s : State) (x : Sent) : (s.emit x).pr = s.pr := rfl
@[simp] theorem State.emit_ft (s : State) (x : Sent) : (s.emit x).ft = s.ft := rfl
@[simp] theorem State.emit_txts (s : State) (x : Sent) : (s.emit x).txts = s.txts := rfl
@[simp] theorem State.emit_frozen (s : State) (x : Sent) : (s.emit x).frozen = s.frozen := rfl
@[simp] theorem State.emit_treadRead (s : State) (x : Sent) : (s.emit x).treadRead = s.treadRead := rfl
@[simp] theorem State.emit_taq (s : State) (x : Sent) : (s.emit x).taq = s.taq := rfl
@[simp] theorem State.emit_time (s : State) (x : Sent) : (s.emit x).time = s.time := rfl
@[simp] theorem State.emit_chan (s : State) (x : Sent) : (s.emit x).chan = s.chan := rfl
@[simp] theorem State.emit_smp (s : State) (x : Sent) : (s.emit x).smp = s.smp := rfl
@[simp] theorem State.emit_esmc (s : State) (x : Sent) : (s.emit x).esmc = s.esmc := rfl
@[simp] theorem State.emit_ou (s : State) (x : Sent) : (s.emit x).ou = s.ou := rfl
@[simp] theorem State.emit_tdc (s : State) (x : Sent) : (s.emit x).tdc = s.tdc := rfl
@[simp] theorem State.emit_evIn (s : State) (x : Sent) : (s.emit x).evIn = s.evIn := rfl
@[simp] theorem State.emit_evGrp (s : State) (x : Sent) : (s.emit x).evGrp = s.evGrp := rfl
@[simp] theorem State.emit_tw (s : State) (x : Sent) : (s.emit x).tw = s.tw := rfl
@[simp] theorem State.emit_px (s : State) (x : Sent) : (s.emit x).px = s.px := rfl
@[simp] theorem State.emit_ptp (s : State) (x : Sent) : (s.emit x).ptp = s.ptp := rfl
@[simp] theorem State.emit_tod (s : State) (x : Sent) : (s.emit x).tod = s.tod := rfl
@[simp] theorem State.emit_retain (s : State) (x : Sent) : (s.emit x).retain = s.retain := rfl
@[simp] theorem State.emit_fu (s : State) (x : Sent) : (s.emit x).fu = s.fu := rfl
@[simp] theorem State.emit_unit (s : State) (x : Sent) : (s.emit x).unit = s.unit := rfl

/-! ### `setMb` -/

@[simp] theorem State.setMb_pending (s : State) (n : Nat) (m : Mbox) : (s.setMb n m).pending = s.pending := rfl
@[simp] theorem State.setMb_variant (s : State) (n : Nat) (m : Mbox) : (s.setMb n m).variant = s.variant := rfl
@[simp] theorem State.setMb_regs (s : State) (n : Nat) (m : Mbox) : (s.setMb n m).regs = s.regs := rfl
@[simp] theorem State.setMb_pend (s : State) (n : Nat) (m : Mbox) : (s.setMb n m).pend = s.pend := rfl
@[simp] theorem State.setMb_clk (s : State) (n : Nat) (m : Mbox) : (s.setMb n m).clk = s.clk := rfl
@[simp] theorem State.setMb_free (s : State) (n : Nat) (m : Mbox) : (s.setMb n m).free = s.free := rfl
@[simp] theorem State.setMb_sent (s : State) (n : Nat) (m : Mbox) : (s.setMb n m).sent = s.sent := rfl
@[simp] theorem State.setMb_tb (s : State) (n : Nat) (m : Mbox) : (s.setMb n m).tb = s.tb := rfl
@[simp] theorem State.setMb_power (s : State) (n : Nat) (m : Mbox) : (s.setMb n m).power = s.power := rfl
@[simp] theorem State.setMb_host (s : State) (n : Nat) (m : Mbox) : (s.setMb n m).host = s.host := rfl
@[simp] theorem State.setMb_ownerNext (s : State) (n : Nat) (m : Mbox) : (s.setMb n m).ownerNext = s.ownerNext := rfl
@[simp] theorem State.setMb_mp (s : State) (n : Nat) (m : Mbox) : (s.setMb n m).mp = s.mp := rfl
@[simp] theorem State.setMb_hl (s : State) (n : Nat) (m : Mbox) : (s.setMb n m).hl = s.hl := rfl
@[simp] theorem State.setMb_bw (s : State) (n : Nat) (m : Mbox) : (s.setMb n m).bw = s.bw := rfl
@[simp] theorem State.setMb_lane (s : State) (n : Nat) (m : Mbox) : (s.setMb n m).lane = s.lane := rfl
@[simp] theorem State.setMb_port (s : State) (n : Nat) (m : Mbox) : (s.setMb n m).port = s.port := rfl
@[simp] theorem State.setMb_sc (s : State) (n : Nat) (m : Mbox) : (s.setMb n m).sc = s.sc := rfl
@[simp] theorem State.setMb_pr (s : State) (n : Nat) (m : Mbox) : (s.setMb n m).pr = s.pr := rfl
@[simp] theorem State.setMb_ft (s : State) (n : Nat) (m : Mbox) : (s.setMb n m).ft = s.ft := rfl
@[simp] theorem State.setMb_txts (s : State) (n : Nat) (m : Mbox) : (s.setMb n m).txts = s.txts := rfl
@[simp] theorem State.setMb_frozen (s : State) (n : Nat) (m : Mbox) : (s.setMb n m).frozen = s.frozen := rfl
@[simp] theorem State.setMb_treadRead (s : State) (n : Nat) (m : Mbox) : (s.setMb n m).treadRead = s.treadRead := rfl
@[simp] theorem State.setMb_taq (s : State) (n : Nat) (m : Mbox) : (s.setMb n m).taq = s.taq := rfl
@[simp] theorem State.setMb_time (s : State) (n : Nat) (m : Mbox) : (s.setMb n m).time = s.time := rfl
@[simp] theorem State.setMb_chan (s : State) (n : Nat) (m : Mbox) : (s.setMb n m).chan = s.chan := rfl
@[simp] theorem State.setMb_smp (s : State) (n : Nat) (m : Mbox) : (s.setMb n m).smp = s.smp := rfl
@[simp] theorem State.setMb_esmc (s : State) (n : Nat) (m : Mbox) : (s.setMb n m).esmc = s.esmc := rfl
@[simp] theorem State.setMb_ou (s : State) (n : Nat) (m : Mbox) : (s.setMb n m).ou = s.ou := rfl
@[simp] theorem State.setMb_tdc (s : State) (n : Nat) (m : Mbox) : (s.setMb n m).tdc = s.tdc := rfl
@[simp] theorem State.setMb_evIn (s : State) (n : Nat) (m : Mbox) : (s.setMb n m).evIn = s.evIn := rfl
@[simp] theorem State.setMb_evGrp (s : State) (n : Nat) (m : Mbox) : (s.setMb n m).evGrp = s.evGrp := rfl
@[simp] theorem State.setMb_tw (s : State) (n : Nat) (m : Mbox) : (s.setMb n m).tw = s.tw := rfl
@[simp] theorem State.setMb_px (s : State) (n : Nat) (m : Mbox) : (s.setMb n m).px = s.px := rfl
@[simp] theorem State.setMb_ptp (s : State) (n : Nat) (m : Mbox) : (s.setMb n m).ptp = s.ptp := rfl
@[simp] theorem State.setMb_tod (s : State) (n : Nat) (m : Mbox) : (s.setMb n m).tod = s.tod := rfl
@[simp] theorem State.setMb_retain (s : State) (n : Nat) (m : Mbox) : (s.setMb n m).retain = s.retain := rfl
@[simp] theorem State.setMb_fu (s : State) (n : Nat) (m : Mbox) : (s.setMb n m).fu = s.fu := rfl
@[simp] theorem State.setMb_unit (s : State) (n : Nat) (m : Mbox) : (s.setMb n m).unit = s.unit := rfl

/-! ### `pendWrite` -/

@[simp] theorem State.pendWrite_pending (s : State) (a : Nat) (w : Word) : (s.pendWrite a w).pending = s.pending := rfl
@[simp] theorem State.pendWrite_variant (s : State) (a : Nat) (w : Word) : (s.pendWrite a w).variant = s.variant := rfl
@[simp] theorem State.pendWrite_regs (s : State) (a : Nat) (w : Word) : (s.pendWrite a w).regs = s.regs := rfl
@[simp] theorem State.pendWrite_clk (s : State) (a : Nat) (w : Word) : (s.pendWrite a w).clk = s.clk := rfl
@[simp] theorem State.pendWrite_free (s : State) (a : Nat) (w : Word) : (s.pendWrite a w).free = s.free := rfl
@[simp] theorem State.pendWrite_sent (s : State) (a : Nat) (w : Word) : (s.pendWrite a w).sent = s.sent := rfl
@[simp] theorem State.pendWrite_tb (s : State) (a : Nat) (w : Word) : (s.pendWrite a w).tb = s.tb := rfl
@[simp] theorem State.pendWrite_power (s : State) (a : Nat) (w : Word) : (s.pendWrite a w).power = s.power := rfl
@[simp] theorem State.pendWrite_host (s : State) (a : Nat) (w : Word) : (s.pendWrite a w).host = s.host := rfl
@[simp] theorem State.pendWrite_ownerNext (s : State) (a : Nat) (w : Word) : (s.pendWrite a w).ownerNext = s.ownerNext := rfl
@[simp] theorem State.pendWrite_mbox (s : State) (a : Nat) (w : Word) : (s.pendWrite a w).mbox = s.mbox := rfl
@[simp] theorem State.pendWrite_mp (s : State) (a : Nat) (w : Word) : (s.pendWrite a w).mp = s.mp := rfl
@[simp] theorem State.pendWrite_hl (s : State) (a : Nat) (w : Word) : (s.pendWrite a w).hl = s.hl := rfl
@[simp] theorem State.pendWrite_bw (s : State) (a : Nat) (w : Word) : (s.pendWrite a w).bw = s.bw := rfl
@[simp] theorem State.pendWrite_lane (s : State) (a : Nat) (w : Word) : (s.pendWrite a w).lane = s.lane := rfl
@[simp] theorem State.pendWrite_port (s : State) (a : Nat) (w : Word) : (s.pendWrite a w).port = s.port := rfl
@[simp] theorem State.pendWrite_sc (s : State) (a : Nat) (w : Word) : (s.pendWrite a w).sc = s.sc := rfl
@[simp] theorem State.pendWrite_pr (s : State) (a : Nat) (w : Word) : (s.pendWrite a w).pr = s.pr := rfl
@[simp] theorem State.pendWrite_ft (s : State) (a : Nat) (w : Word) : (s.pendWrite a w).ft = s.ft := rfl
@[simp] theorem State.pendWrite_txts (s : State) (a : Nat) (w : Word) : (s.pendWrite a w).txts = s.txts := rfl
@[simp] theorem State.pendWrite_frozen (s : State) (a : Nat) (w : Word) : (s.pendWrite a w).frozen = s.frozen := rfl
@[simp] theorem State.pendWrite_treadRead (s : State) (a : Nat) (w : Word) : (s.pendWrite a w).treadRead = s.treadRead := rfl
@[simp] theorem State.pendWrite_taq (s : State) (a : Nat) (w : Word) : (s.pendWrite a w).taq = s.taq := rfl
@[simp] theorem State.pendWrite_time (s : State) (a : Nat) (w : Word) : (s.pendWrite a w).time = s.time := rfl
@[simp] theorem State.pendWrite_chan (s : State) (a : Nat) (w : Word) : (s.pendWrite a w).chan = s.chan := rfl
@[simp] theorem State.pendWrite_smp (s : State) (a : Nat) (w : Word) : (s.pendWrite a w).smp = s.smp := rfl
@[simp] theorem State.pendWrite_esmc (s : State) (a : Nat) (w : Word) : (s.pendWrite a w).esmc = s.esmc := rfl
@[simp] theorem State.pendWrite_ou (s : State) (a : Nat) (w : Word) : (s.pendWrite a w).ou = s.ou := rfl
@[simp] theorem State.pendWrite_tdc (s : State) (a : Nat) (w : Word) : (s.pendWrite a w).tdc = s.tdc := rfl
@[simp] theorem State.pendWrite_evIn (s : State) (a : Nat) (w : Word) : (s.pendWrite a w).evIn = s.evIn := rfl
@[simp] theorem State.pendWrite_evGrp (s : State) (a : Nat) (w : Word) : (s.pendWrite a w).evGrp = s.evGrp := rfl
@[simp] theorem State.pendWrite_tw (s : State) (a : Nat) (w : Word) : (s.pendWrite a w).tw = s.tw := rfl
@[simp] theorem State.pendWrite_px (s : State) (a : Nat) (w : Word) : (s.pendWrite a w).px = s.px := rfl
@[simp] theorem State.pendWrite_ptp (s : State) (a : Nat) (w : Word) : (s.pendWrite a w).ptp = s.ptp := rfl
@[simp] theorem State.pendWrite_tod (s : State) (a : Nat) (w : Word) : (s.pendWrite a w).tod = s.tod := rfl
@[simp] theorem State.pendWrite_retain (s : State) (a : Nat) (w : Word) : (s.pendWrite a w).retain = s.retain := rfl
@[simp] theorem State.pendWrite_fu (s : State) (a : Nat) (w : Word) : (s.pendWrite a w).fu = s.fu := rfl
@[simp] theorem State.pendWrite_unit (s : State) (a : Nat) (w : Word) : (s.pendWrite a w).unit = s.unit := rfl

/-! ### `sendVec` -/

@[simp] theorem State.sendVec_pending (s : State) (v : Nat) : (s.sendVec v).pending = s.pending := rfl
@[simp] theorem State.sendVec_variant (s : State) (v : Nat) : (s.sendVec v).variant = s.variant := rfl
@[simp] theorem State.sendVec_regs (s : State) (v : Nat) : (s.sendVec v).regs = s.regs := rfl
@[simp] theorem State.sendVec_pend (s : State) (v : Nat) : (s.sendVec v).pend = s.pend := rfl
@[simp] theorem State.sendVec_clk (s : State) (v : Nat) : (s.sendVec v).clk = s.clk := rfl
@[simp] theorem State.sendVec_free (s : State) (v : Nat) : (s.sendVec v).free = s.free := rfl
@[simp] theorem State.sendVec_tb (s : State) (v : Nat) : (s.sendVec v).tb = s.tb := rfl
@[simp] theorem State.sendVec_power (s : State) (v : Nat) : (s.sendVec v).power = s.power := rfl
@[simp] theorem State.sendVec_ownerNext (s : State) (v : Nat) : (s.sendVec v).ownerNext = s.ownerNext := rfl
@[simp] theorem State.sendVec_mbox (s : State) (v : Nat) : (s.sendVec v).mbox = s.mbox := rfl
@[simp] theorem State.sendVec_mp (s : State) (v : Nat) : (s.sendVec v).mp = s.mp := rfl
@[simp] theorem State.sendVec_hl (s : State) (v : Nat) : (s.sendVec v).hl = s.hl := rfl
@[simp] theorem State.sendVec_bw (s : State) (v : Nat) : (s.sendVec v).bw = s.bw := rfl
@[simp] theorem State.sendVec_lane (s : State) (v : Nat) : (s.sendVec v).lane = s.lane := rfl
@[simp] theorem State.sendVec_port (s : State) (v : Nat) : (s.sendVec v).port = s.port := rfl
@[simp] theorem State.sendVec_sc (s : State) (v : Nat) : (s.sendVec v).sc = s.sc := rfl
@[simp] theorem State.sendVec_pr (s : State) (v : Nat) : (s.sendVec v).pr = s.pr := rfl
@[simp] theorem State.sendVec_ft (s : State) (v : Nat) : (s.sendVec v).ft = s.ft := rfl
@[simp] theorem State.sendVec_txts (s : State) (v : Nat) : (s.sendVec v).txts = s.txts := rfl
@[simp] theorem State.sendVec_frozen (s : State) (v : Nat) : (s.sendVec v).frozen = s.frozen := rfl
@[simp] theorem State.sendVec_treadRead (s : State) (v : Nat) : (s.sendVec v).treadRead = s.treadRead := rfl
@[simp] theorem State.sendVec_taq (s : State) (v : Nat) : (s.sendVec v).taq = s.taq := rfl
@[simp] theorem State.sendVec_time (s : State) (v : Nat) : (s.sendVec v).time = s.time := rfl
@[simp] theorem State.sendVec_chan (s : State) (v : Nat) : (s.sendVec v).chan = s.chan := rfl
@[simp] theorem State.sendVec_smp (s : State) (v : Nat) : (s.sendVec v).smp = s.smp := rfl
@[simp] theorem State.sendVec_esmc (s : State) (v : Nat) : (s.sendVec v).esmc = s.esmc := rfl
@[simp] theorem State.sendVec_ou (s : State) (v : Nat) : (s.sendVec v).ou = s.ou := rfl
@[simp] theorem State.sendVec_tdc (s : State) (v : Nat) : (s.sendVec v).tdc = s.tdc := rfl
@[simp] theorem State.sendVec_evIn (s : State) (v : Nat) : (s.sendVec v).evIn = s.evIn := rfl
@[simp] theorem State.sendVec_evGrp (s : State) (v : Nat) : (s.sendVec v).evGrp = s.evGrp := rfl
@[simp] theorem State.sendVec_tw (s : State) (v : Nat) : (s.sendVec v).tw = s.tw := rfl
@[simp] theorem State.sendVec_px (s : State) (v : Nat) : (s.sendVec v).px = s.px := rfl
@[simp] theorem State.sendVec_ptp (s : State) (v : Nat) : (s.sendVec v).ptp = s.ptp := rfl
@[simp] theorem State.sendVec_tod (s : State) (v : Nat) : (s.sendVec v).tod = s.tod := rfl
@[simp] theorem State.sendVec_retain (s : State) (v : Nat) : (s.sendVec v).retain = s.retain := rfl
@[simp] theorem State.sendVec_fu (s : State) (v : Nat) : (s.sendVec v).fu = s.fu := rfl
@[simp] theorem State.sendVec_unit (s : State) (v : Nat) : (s.sendVec v).unit = s.unit := rfl

/-- Serving a vector changes no register but the pending bits. -/
theorem State.rd_serveVec (s : State) (v a : Nat) (h : a ≠ SYS_PBA (v / 32)) : (s.serveVec v).rd a = s.rd a := by
  unfold State.serveVec
  dsimp only
  split <;> split
  · rfl
  · exact (State.rd_set_ne _ _ h).trans rfl
  · rfl
  · exact (State.rd_set_ne _ _ h).trans rfl

/-! ### `serveVec` -/

@[simp] theorem State.serveVec_pending (s : State) (v : Nat) : (s.serveVec v).pending = s.pending := by
  unfold State.serveVec; dsimp only; split <;> split <;> rfl
@[simp] theorem State.serveVec_variant (s : State) (v : Nat) : (s.serveVec v).variant = s.variant := by
  unfold State.serveVec; dsimp only; split <;> split <;> rfl
@[simp] theorem State.serveVec_pend (s : State) (v : Nat) : (s.serveVec v).pend = s.pend := by
  unfold State.serveVec; dsimp only; split <;> split <;> rfl
@[simp] theorem State.serveVec_clk (s : State) (v : Nat) : (s.serveVec v).clk = s.clk := by
  unfold State.serveVec; dsimp only; split <;> split <;> rfl
@[simp] theorem State.serveVec_free (s : State) (v : Nat) : (s.serveVec v).free = s.free := by
  unfold State.serveVec; dsimp only; split <;> split <;> rfl
@[simp] theorem State.serveVec_tb (s : State) (v : Nat) : (s.serveVec v).tb = s.tb := by
  unfold State.serveVec; dsimp only; split <;> split <;> rfl
@[simp] theorem State.serveVec_power (s : State) (v : Nat) : (s.serveVec v).power = s.power := by
  unfold State.serveVec; dsimp only; split <;> split <;> rfl
@[simp] theorem State.serveVec_ownerNext (s : State) (v : Nat) : (s.serveVec v).ownerNext = s.ownerNext := by
  unfold State.serveVec; dsimp only; split <;> split <;> rfl
@[simp] theorem State.serveVec_mbox (s : State) (v : Nat) : (s.serveVec v).mbox = s.mbox := by
  unfold State.serveVec; dsimp only; split <;> split <;> rfl
@[simp] theorem State.serveVec_mp (s : State) (v : Nat) : (s.serveVec v).mp = s.mp := by
  unfold State.serveVec; dsimp only; split <;> split <;> rfl
@[simp] theorem State.serveVec_hl (s : State) (v : Nat) : (s.serveVec v).hl = s.hl := by
  unfold State.serveVec; dsimp only; split <;> split <;> rfl
@[simp] theorem State.serveVec_bw (s : State) (v : Nat) : (s.serveVec v).bw = s.bw := by
  unfold State.serveVec; dsimp only; split <;> split <;> rfl
@[simp] theorem State.serveVec_lane (s : State) (v : Nat) : (s.serveVec v).lane = s.lane := by
  unfold State.serveVec; dsimp only; split <;> split <;> rfl
@[simp] theorem State.serveVec_port (s : State) (v : Nat) : (s.serveVec v).port = s.port := by
  unfold State.serveVec; dsimp only; split <;> split <;> rfl
@[simp] theorem State.serveVec_sc (s : State) (v : Nat) : (s.serveVec v).sc = s.sc := by
  unfold State.serveVec; dsimp only; split <;> split <;> rfl
@[simp] theorem State.serveVec_pr (s : State) (v : Nat) : (s.serveVec v).pr = s.pr := by
  unfold State.serveVec; dsimp only; split <;> split <;> rfl
@[simp] theorem State.serveVec_ft (s : State) (v : Nat) : (s.serveVec v).ft = s.ft := by
  unfold State.serveVec; dsimp only; split <;> split <;> rfl
@[simp] theorem State.serveVec_txts (s : State) (v : Nat) : (s.serveVec v).txts = s.txts := by
  unfold State.serveVec; dsimp only; split <;> split <;> rfl
@[simp] theorem State.serveVec_frozen (s : State) (v : Nat) : (s.serveVec v).frozen = s.frozen := by
  unfold State.serveVec; dsimp only; split <;> split <;> rfl
@[simp] theorem State.serveVec_treadRead (s : State) (v : Nat) : (s.serveVec v).treadRead = s.treadRead := by
  unfold State.serveVec; dsimp only; split <;> split <;> rfl
@[simp] theorem State.serveVec_taq (s : State) (v : Nat) : (s.serveVec v).taq = s.taq := by
  unfold State.serveVec; dsimp only; split <;> split <;> rfl
@[simp] theorem State.serveVec_time (s : State) (v : Nat) : (s.serveVec v).time = s.time := by
  unfold State.serveVec; dsimp only; split <;> split <;> rfl
@[simp] theorem State.serveVec_chan (s : State) (v : Nat) : (s.serveVec v).chan = s.chan := by
  unfold State.serveVec; dsimp only; split <;> split <;> rfl
@[simp] theorem State.serveVec_smp (s : State) (v : Nat) : (s.serveVec v).smp = s.smp := by
  unfold State.serveVec; dsimp only; split <;> split <;> rfl
@[simp] theorem State.serveVec_esmc (s : State) (v : Nat) : (s.serveVec v).esmc = s.esmc := by
  unfold State.serveVec; dsimp only; split <;> split <;> rfl
@[simp] theorem State.serveVec_ou (s : State) (v : Nat) : (s.serveVec v).ou = s.ou := by
  unfold State.serveVec; dsimp only; split <;> split <;> rfl
@[simp] theorem State.serveVec_tdc (s : State) (v : Nat) : (s.serveVec v).tdc = s.tdc := by
  unfold State.serveVec; dsimp only; split <;> split <;> rfl
@[simp] theorem State.serveVec_evIn (s : State) (v : Nat) : (s.serveVec v).evIn = s.evIn := by
  unfold State.serveVec; dsimp only; split <;> split <;> rfl
@[simp] theorem State.serveVec_evGrp (s : State) (v : Nat) : (s.serveVec v).evGrp = s.evGrp := by
  unfold State.serveVec; dsimp only; split <;> split <;> rfl
@[simp] theorem State.serveVec_tw (s : State) (v : Nat) : (s.serveVec v).tw = s.tw := by
  unfold State.serveVec; dsimp only; split <;> split <;> rfl
@[simp] theorem State.serveVec_px (s : State) (v : Nat) : (s.serveVec v).px = s.px := by
  unfold State.serveVec; dsimp only; split <;> split <;> rfl
@[simp] theorem State.serveVec_ptp (s : State) (v : Nat) : (s.serveVec v).ptp = s.ptp := by
  unfold State.serveVec; dsimp only; split <;> split <;> rfl
@[simp] theorem State.serveVec_tod (s : State) (v : Nat) : (s.serveVec v).tod = s.tod := by
  unfold State.serveVec; dsimp only; split <;> split <;> rfl
@[simp] theorem State.serveVec_retain (s : State) (v : Nat) : (s.serveVec v).retain = s.retain := by
  unfold State.serveVec; dsimp only; split <;> split <;> rfl
@[simp] theorem State.serveVec_fu (s : State) (v : Nat) : (s.serveVec v).fu = s.fu := by
  unfold State.serveVec; dsimp only; split <;> split <;> rfl
@[simp] theorem State.serveVec_unit (s : State) (v : Nat) : (s.serveVec v).unit = s.unit := by
  unfold State.serveVec; dsimp only; split <;> split <;> rfl

/-- Delivering interrupts changes no register but the pending bits. -/
theorem State.rd_deliver (s : State) (a : Nat) (h0 : a ≠ SYS_PBA 0) (h1 : a ≠ SYS_PBA 1) : s.deliver.rd a = s.rd a := by
  have step : ∀ (l : List Nat) (s : State), (∀ v ∈ l, v < 64) → (l.foldl State.serveVec s).rd a = s.rd a := by
    intro l
    induction l with
    | nil => intros; rfl
    | cons v l ih =>
      intro s hl
      rw [List.foldl_cons, ih _ fun w hw => hl w (by simp [hw])]
      have : v < 64 := hl v (by simp)
      refine State.rd_serveVec s v a ?_
      have : v / 32 = 0 ∨ v / 32 = 1 := by omega
      rcases this with e | e <;> rw [e] <;> assumption
  unfold State.deliver
  split
  · rfl
  · exact step _ _ fun v hv => by simpa using hv

/-! ### `deliver` -/

@[simp] theorem State.deliver_pending (s : State) : s.deliver.pending = s.pending := by
  unfold State.deliver; split
  · rfl
  · exact foldl_keeps _ State.pending (fun s v => State.serveVec_pending s v) _ _
@[simp] theorem State.deliver_variant (s : State) : s.deliver.variant = s.variant := by
  unfold State.deliver; split
  · rfl
  · exact foldl_keeps _ State.variant (fun s v => State.serveVec_variant s v) _ _
@[simp] theorem State.deliver_pend (s : State) : s.deliver.pend = s.pend := by
  unfold State.deliver; split
  · rfl
  · exact foldl_keeps _ State.pend (fun s v => State.serveVec_pend s v) _ _
@[simp] theorem State.deliver_clk (s : State) : s.deliver.clk = s.clk := by
  unfold State.deliver; split
  · rfl
  · exact foldl_keeps _ State.clk (fun s v => State.serveVec_clk s v) _ _
@[simp] theorem State.deliver_free (s : State) : s.deliver.free = s.free := by
  unfold State.deliver; split
  · rfl
  · exact foldl_keeps _ State.free (fun s v => State.serveVec_free s v) _ _
@[simp] theorem State.deliver_tb (s : State) : s.deliver.tb = s.tb := by
  unfold State.deliver; split
  · rfl
  · exact foldl_keeps _ State.tb (fun s v => State.serveVec_tb s v) _ _
@[simp] theorem State.deliver_power (s : State) : s.deliver.power = s.power := by
  unfold State.deliver; split
  · rfl
  · exact foldl_keeps _ State.power (fun s v => State.serveVec_power s v) _ _
@[simp] theorem State.deliver_ownerNext (s : State) : s.deliver.ownerNext = s.ownerNext := by
  unfold State.deliver; split
  · rfl
  · exact foldl_keeps _ State.ownerNext (fun s v => State.serveVec_ownerNext s v) _ _
@[simp] theorem State.deliver_mbox (s : State) : s.deliver.mbox = s.mbox := by
  unfold State.deliver; split
  · rfl
  · exact foldl_keeps _ State.mbox (fun s v => State.serveVec_mbox s v) _ _
@[simp] theorem State.deliver_mp (s : State) : s.deliver.mp = s.mp := by
  unfold State.deliver; split
  · rfl
  · exact foldl_keeps _ State.mp (fun s v => State.serveVec_mp s v) _ _
@[simp] theorem State.deliver_hl (s : State) : s.deliver.hl = s.hl := by
  unfold State.deliver; split
  · rfl
  · exact foldl_keeps _ State.hl (fun s v => State.serveVec_hl s v) _ _
@[simp] theorem State.deliver_bw (s : State) : s.deliver.bw = s.bw := by
  unfold State.deliver; split
  · rfl
  · exact foldl_keeps _ State.bw (fun s v => State.serveVec_bw s v) _ _
@[simp] theorem State.deliver_lane (s : State) : s.deliver.lane = s.lane := by
  unfold State.deliver; split
  · rfl
  · exact foldl_keeps _ State.lane (fun s v => State.serveVec_lane s v) _ _
@[simp] theorem State.deliver_port (s : State) : s.deliver.port = s.port := by
  unfold State.deliver; split
  · rfl
  · exact foldl_keeps _ State.port (fun s v => State.serveVec_port s v) _ _
@[simp] theorem State.deliver_sc (s : State) : s.deliver.sc = s.sc := by
  unfold State.deliver; split
  · rfl
  · exact foldl_keeps _ State.sc (fun s v => State.serveVec_sc s v) _ _
@[simp] theorem State.deliver_pr (s : State) : s.deliver.pr = s.pr := by
  unfold State.deliver; split
  · rfl
  · exact foldl_keeps _ State.pr (fun s v => State.serveVec_pr s v) _ _
@[simp] theorem State.deliver_ft (s : State) : s.deliver.ft = s.ft := by
  unfold State.deliver; split
  · rfl
  · exact foldl_keeps _ State.ft (fun s v => State.serveVec_ft s v) _ _
@[simp] theorem State.deliver_txts (s : State) : s.deliver.txts = s.txts := by
  unfold State.deliver; split
  · rfl
  · exact foldl_keeps _ State.txts (fun s v => State.serveVec_txts s v) _ _
@[simp] theorem State.deliver_frozen (s : State) : s.deliver.frozen = s.frozen := by
  unfold State.deliver; split
  · rfl
  · exact foldl_keeps _ State.frozen (fun s v => State.serveVec_frozen s v) _ _
@[simp] theorem State.deliver_treadRead (s : State) : s.deliver.treadRead = s.treadRead := by
  unfold State.deliver; split
  · rfl
  · exact foldl_keeps _ State.treadRead (fun s v => State.serveVec_treadRead s v) _ _
@[simp] theorem State.deliver_taq (s : State) : s.deliver.taq = s.taq := by
  unfold State.deliver; split
  · rfl
  · exact foldl_keeps _ State.taq (fun s v => State.serveVec_taq s v) _ _
@[simp] theorem State.deliver_time (s : State) : s.deliver.time = s.time := by
  unfold State.deliver; split
  · rfl
  · exact foldl_keeps _ State.time (fun s v => State.serveVec_time s v) _ _
@[simp] theorem State.deliver_chan (s : State) : s.deliver.chan = s.chan := by
  unfold State.deliver; split
  · rfl
  · exact foldl_keeps _ State.chan (fun s v => State.serveVec_chan s v) _ _
@[simp] theorem State.deliver_smp (s : State) : s.deliver.smp = s.smp := by
  unfold State.deliver; split
  · rfl
  · exact foldl_keeps _ State.smp (fun s v => State.serveVec_smp s v) _ _
@[simp] theorem State.deliver_esmc (s : State) : s.deliver.esmc = s.esmc := by
  unfold State.deliver; split
  · rfl
  · exact foldl_keeps _ State.esmc (fun s v => State.serveVec_esmc s v) _ _
@[simp] theorem State.deliver_ou (s : State) : s.deliver.ou = s.ou := by
  unfold State.deliver; split
  · rfl
  · exact foldl_keeps _ State.ou (fun s v => State.serveVec_ou s v) _ _
@[simp] theorem State.deliver_tdc (s : State) : s.deliver.tdc = s.tdc := by
  unfold State.deliver; split
  · rfl
  · exact foldl_keeps _ State.tdc (fun s v => State.serveVec_tdc s v) _ _
@[simp] theorem State.deliver_evIn (s : State) : s.deliver.evIn = s.evIn := by
  unfold State.deliver; split
  · rfl
  · exact foldl_keeps _ State.evIn (fun s v => State.serveVec_evIn s v) _ _
@[simp] theorem State.deliver_evGrp (s : State) : s.deliver.evGrp = s.evGrp := by
  unfold State.deliver; split
  · rfl
  · exact foldl_keeps _ State.evGrp (fun s v => State.serveVec_evGrp s v) _ _
@[simp] theorem State.deliver_tw (s : State) : s.deliver.tw = s.tw := by
  unfold State.deliver; split
  · rfl
  · exact foldl_keeps _ State.tw (fun s v => State.serveVec_tw s v) _ _
@[simp] theorem State.deliver_px (s : State) : s.deliver.px = s.px := by
  unfold State.deliver; split
  · rfl
  · exact foldl_keeps _ State.px (fun s v => State.serveVec_px s v) _ _
@[simp] theorem State.deliver_ptp (s : State) : s.deliver.ptp = s.ptp := by
  unfold State.deliver; split
  · rfl
  · exact foldl_keeps _ State.ptp (fun s v => State.serveVec_ptp s v) _ _
@[simp] theorem State.deliver_tod (s : State) : s.deliver.tod = s.tod := by
  unfold State.deliver; split
  · rfl
  · exact foldl_keeps _ State.tod (fun s v => State.serveVec_tod s v) _ _
@[simp] theorem State.deliver_retain (s : State) : s.deliver.retain = s.retain := by
  unfold State.deliver; split
  · rfl
  · exact foldl_keeps _ State.retain (fun s v => State.serveVec_retain s v) _ _
@[simp] theorem State.deliver_fu (s : State) : s.deliver.fu = s.fu := by
  unfold State.deliver; split
  · rfl
  · exact foldl_keeps _ State.fu (fun s v => State.serveVec_fu s v) _ _
@[simp] theorem State.deliver_unit (s : State) : s.deliver.unit = s.unit := by
  unfold State.deliver; split
  · rfl
  · exact foldl_keeps _ State.unit (fun s v => State.serveVec_unit s v) _ _

end Sys2Proof.Machine
end

