-- ==== Sys2Proof/Laws/Deliver.lean ====
section
/-! SUPPORT. What serving a vector changes, and what holds once every vector is served (R59). -/

namespace Sys2Proof.Machine

/-! ### Which vectors a state serves -/

/-- The registers that the sources, the vectors and their messages read are the same. -/
def sameButPba (s t : State) : Prop := (∀ a, a ≠ SYS_PBA 0 → a ≠ SYS_PBA 1 → t.rd a = s.rd a) ∧ t.variant = s.variant ∧ t.power = s.power
  ∧ t.host.msixEnable = s.host.msixEnable ∧ t.host.funcMask = s.host.funcMask

theorem sameButPba.source {s t : State} (h : sameButPba s t) (n : Nat) : t.source n = s.source n := by
  obtain ⟨r, v, -, -, -⟩ := h
  have c : ∀ a b, a ≠ SYS_PBA 0 → a ≠ SYS_PBA 1 → b ≠ SYS_PBA 0 → b ≠ SYS_PBA 1 → t.cause a b = s.cause a b := by
    intro a b a0 a1 b0 b1; simp only [State.cause, r a a0 a1, r b b0 b1]
  have ci : ∀ a b hi lo, a ≠ SYS_PBA 0 → a ≠ SYS_PBA 1 → b ≠ SYS_PBA 0 → b ≠ SYS_PBA 1 → t.causeIn a b hi lo = s.causeIn a b hi lo := by
    intro a b hi lo a0 a1 b0 b1; simp only [State.causeIn, r a a0 a1, r b b0 b1]
  have ch : t.chans = s.chans := by simp [State.chans, v]
  have ba : t.bays = s.bays := by simp [State.bays, v]
  have ite : ∀ {p : Prop} [Decidable p] {a b a' b' : Bool}, a = a' → b = b' → (if p then a else b) = (if p then a' else b') :=
    fun h k => by rw [h, k]
  unfold State.source
  rw [ch, ba]
  repeat' (refine ite ?_ ?_)
  all_goals first
    | exact c _ _ (by decide) (by decide) (by decide) (by decide)
    | exact ci _ _ _ _ (by decide) (by decide) (by decide) (by decide)
    | (rw [ci _ _ _ _ (by decide) (by decide) (by decide) (by decide), ci _ _ _ _ (by decide) (by decide) (by decide) (by decide)])
    | (rw [c _ _ (by unfold TC_INT_STAT SYS_PBA; omega) (by unfold TC_INT_STAT SYS_PBA; omega) (by unfold TC_INT_EN SYS_PBA; omega) (by unfold TC_INT_EN SYS_PBA; omega)])
    | (simp only [fun k => c (PT_INT_STAT k) (PT_INT_EN k) (by unfold PT_INT_STAT SYS_PBA; omega) (by unfold PT_INT_STAT SYS_PBA; omega) (by unfold PT_INT_EN SYS_PBA; omega) (by unfold PT_INT_EN SYS_PBA; omega)])
    | (simp only [fun k => c (LN_INT_STAT k) (LN_INT_EN k) (by unfold LN_INT_STAT SYS_PBA; omega) (by unfold LN_INT_STAT SYS_PBA; omega) (by unfold LN_INT_EN SYS_PBA; omega) (by unfold LN_INT_EN SYS_PBA; omega)])

theorem sameButPba.vecWants {s t : State} (h : sameButPba s t) (v : Nat) : t.vecWants v = s.vecWants v := by
  have e : ∀ n, t.bit2 SYS_SRC_EN_LO SYS_SRC_EN_HI n = s.bit2 SYS_SRC_EN_LO SYS_SRC_EN_HI n := by
    intro n; simp only [State.bit2, State.bit, h.1 SYS_SRC_EN_LO (by decide) (by decide), h.1 SYS_SRC_EN_HI (by decide) (by decide)]
  have m : ∀ n, t.get (SYS_VEC_MAP_vector n) = s.get (SYS_VEC_MAP_vector n) ∨ 64 ≤ n := by
    intro n
    by_cases k : n < 64
    · left; unfold State.get; rw [h.1 _ (by simp only [SYS_VEC_MAP_vector, SYS_VEC_MAP, SYS_PBA]; omega) (by simp only [SYS_VEC_MAP_vector, SYS_VEC_MAP, SYS_PBA]; omega)]
    · right; omega
  unfold State.vecWants
  simp only [e, h.source]
  refine Bool.eq_iff_iff.2 ?_
  simp only [List.any_eq_true, List.mem_range]
  constructor <;> rintro ⟨n, hn, q⟩ <;> refine ⟨n, hn, ?_⟩ <;> rcases m n with k | k
  · rw [k] at q; exact q
  · omega
  · rw [k]; exact q
  · omega

theorem sameButPba.vecOpen {s t : State} (h : sameButPba s t) {v : Nat} (b : v < 64) : t.vecOpen v = s.vecOpen v := by
  obtain ⟨r, -, p, m, f⟩ := h
  unfold State.vecOpen
  rw [p, m, f]
  have g : t.get (SYS_MSIX_CTRL_mask v) = s.get (SYS_MSIX_CTRL_mask v) := by
    unfold State.get
    rw [r _ (by simp only [SYS_MSIX_CTRL_mask, SYS_MSIX_CTRL, SYS_PBA]; omega) (by simp only [SYS_MSIX_CTRL_mask, SYS_MSIX_CTRL, SYS_PBA]; omega)]
  simp only [State.on, g]

theorem mem_insertN (u v : Nat) (l : List Nat) : u ∈ insertN v l ↔ u = v ∨ u ∈ l := by
  induction l with
  | nil => simp [insertN]
  | cons x xs ih =>
    unfold insertN
    split
    · simp
    · split
      · rename_i e; subst e; simp
      · simp only [List.mem_cons, ih]; constructor <;> rintro (h | h | h) <;> simp [h]

theorem contains_insertN_ne {u v : Nat} (n : u ≠ v) (l : List Nat) : (insertN v l).contains u = l.contains u := by
  refine Bool.eq_iff_iff.2 ?_
  simp [mem_insertN, n]

theorem contains_insertN_self (v : Nat) (l : List Nat) : (insertN v l).contains v = true := by simp [mem_insertN]

theorem sendVec_same (s : State) (v : Nat) : sameButPba s (s.sendVec v) := ⟨fun _ _ _ => rfl, rfl, rfl, rfl, rfl⟩

theorem sameButPba.trans {s t u : State} (h : sameButPba s t) (k : sameButPba t u) : sameButPba s u :=
  ⟨fun a x y => (k.1 a x y).trans (h.1 a x y), k.2.1.trans h.2.1, k.2.2.1.trans h.2.2.1, k.2.2.2.1.trans h.2.2.2.1, k.2.2.2.2.trans h.2.2.2.2⟩

theorem pba_addr {v : Nat} (b : v < 64) : SYS_PBA (v / 32) = SYS_PBA 0 ∨ SYS_PBA (v / 32) = SYS_PBA 1 := by
  simp only [SYS_PBA]; omega

theorem setPba_same (s : State) {v : Nat} (b : v < 64) (x : Nat) : sameButPba s (s.set ⟨SYS_PBA (v / 32), v % 32, v % 32⟩ x) := by
  refine ⟨fun a x y => State.rd_set_ne s _ ?_, rfl, rfl, rfl, rfl⟩
  rcases pba_addr b with e | e <;> simpa [e]

theorem serveVec_same (s : State) {v : Nat} (b : v < 64) : sameButPba s (s.serveVec v) := by
  unfold State.serveVec
  dsimp only
  split <;> split
  · exact sendVec_same s v
  · exact (sendVec_same s v).trans (setPba_same _ b _)
  · exact ⟨fun _ _ _ => rfl, rfl, rfl, rfl, rfl⟩
  · exact setPba_same _ b _

theorem serveVec_host (s : State) (v : Nat) :
    (s.serveVec v).host = if s.armed v && s.vecWants v && !s.host.holding.contains v && s.vecOpen v then (s.sendVec v).host else s.host := by
  unfold State.serveVec
  dsimp only
  split <;> split <;> rfl

/-- Serving a vector leaves what another one owes. -/
theorem serveVec_owes_ne (s : State) {u v : Nat} (n : u ≠ v) (b : v < 64) : owes (s.serveVec v) u = owes s u := by
  have d : (s.serveVec v).host.disarmed.contains u = s.host.disarmed.contains u := by
    rw [serveVec_host]; split
    · exact contains_insertN_ne n _
    · rfl
  have h : (s.serveVec v).host.holding.contains u = s.host.holding.contains u := by
    rw [serveVec_host]; split
    · show (if _ then _ else _ : List Nat).contains u = _
      split
      · rfl
      · exact contains_insertN_ne n _
    · rfl
  unfold owes State.armed
  rw [d, h, (serveVec_same s b).vecWants]

theorem pba_full (k : Nat) (h : k < 2) : fieldBits (SYS_PBA k) = 0xFFFFFFFF := by
  match k, h with
  | 0, _ => decide +kernel
  | 1, _ => decide +kernel

theorem bit_set_pba (s : State) {u v : Nat} (bu : u < 64) (b : v < 64) (x : Bool) :
    (s.set ⟨SYS_PBA (v / 32), v % 32, v % 32⟩ (flag x)).bit (SYS_PBA (u / 32)) (u % 32) = if u = v then x else s.bit (SYS_PBA (u / 32)) (u % 32) := by
  have bb : ∀ (w : Word) i, i < 32 → bitOf w.toNat i = w.getLsbD i := by
    intro w i _; simp [bitOf, BitVec.getLsbD, Nat.testBit, Nat.one_and_eq_mod_two]
  unfold State.bit
  by_cases k : u / 32 = v / 32
  · rw [k, bb _ _ (Nat.mod_lt _ (by decide)), bb _ _ (Nat.mod_lt _ (by decide))]
    have := State.rd_set_same s ⟨SYS_PBA (v / 32), v % 32, v % 32⟩ (flag x)
    simp only at this
    rw [this, pba_full _ (by omega), BitVec.getLsbD_and, putBits_bit]
    have a : u % 32 < 32 := Nat.mod_lt _ (by decide)
    have o : (0xFFFFFFFF : Word).getLsbD (u % 32) = true := by
      have : ∀ i : Fin 32, (0xFFFFFFFF : Word).getLsbD i = true := by decide
      exact this ⟨u % 32, a⟩
    rw [o, Bool.and_true]
    by_cases e : u = v
    · subst e; simp [a]; cases x <;> simp [flag]
    · have : ¬ (v % 32 ≤ u % 32 ∧ u % 32 ≤ v % 32 ∧ u % 32 < 32) := by omega
      rw [if_neg this, if_neg e]
  · have e : u ≠ v := fun h => k (by rw [h])
    rw [if_neg e, State.rd_set_ne]
    simp only [SYS_PBA]; omega

theorem serveVec_bit (s : State) {u v : Nat} (bu : u < 64) (b : v < 64) : (s.serveVec v).bit (SYS_PBA (u / 32)) (u % 32) =
    if u = v then (owes s v && !s.vecOpen v && s.host.msixEnable && !s.power.pcieReset) else s.bit (SYS_PBA (u / 32)) (u % 32) := by
  unfold State.serveVec owes
  dsimp only
  split <;> split
  · rename_i h k; by_cases e : u = v
    · subst e; rw [if_pos rfl, ← (sendVec_same s u).vecOpen b]; exact k.symm
    · rw [if_neg e]; rfl
  · rw [bit_set_pba _ bu b]; split
    · rw [(sendVec_same s v).vecOpen b]; rfl
    · rfl
  · rename_i h k; by_cases e : u = v
    · subst e; rw [if_pos rfl]; exact k.symm
    · rw [if_neg e]
  · rw [bit_set_pba _ bu b]

theorem serveVec_owes_self (s : State) {v : Nat} (b : v < 64) : owes (s.serveVec v) v = (owes s v && !s.vecOpen v) := by
  have w := (serveVec_same s b).vecWants v
  by_cases k : (s.armed v && s.vecWants v && !s.host.holding.contains v && s.vecOpen v) = true
  · have d : (s.serveVec v).armed v = false := by
      unfold State.armed; rw [serveVec_host, if_pos k]; show (!(insertN v s.host.disarmed).contains v) = false; rw [contains_insertN_self]; rfl
    simp only [Bool.and_eq_true] at k
    unfold owes; rw [d, k.2]; simp
  · have h : (s.serveVec v).host = s.host := by rw [serveVec_host, if_neg k]
    unfold owes State.armed at *; rw [h, w]
    revert k; cases s.vecOpen v <;> simp

/-- What `delivered` says of one vector. -/
def served (s : State) (v : Nat) : Prop :=
  (owes s v && s.vecOpen v) = false ∧ s.bit (SYS_PBA (v / 32)) (v % 32) = (owes s v && !s.vecOpen v && s.host.msixEnable && !s.power.pcieReset)

theorem serveVec_served (s : State) {u v : Nat} (bu : u < 64) (b : v < 64) (h : u = v ∨ served s u) : served (s.serveVec v) u := by
  have same := serveVec_same s b
  have m := same.2.2.2.1
  have p := same.2.2.1
  by_cases e : u = v
  · subst e
    refine ⟨?_, ?_⟩
    · rw [serveVec_owes_self s b, same.vecOpen b]; cases s.vecOpen u <;> simp
    · rw [serveVec_bit s b b, if_pos rfl, serveVec_owes_self s b, same.vecOpen b, m, p]; cases s.vecOpen u <;> simp
  · have h := h.resolve_left e
    refine ⟨?_, ?_⟩
    · rw [serveVec_owes_ne s e b, same.vecOpen bu]; exact h.1
    · rw [serveVec_bit s bu b, if_neg e, serveVec_owes_ne s e b, same.vecOpen bu, m, p]; exact h.2

theorem serveAll (l : List Nat) : ∀ (s : State), (∀ v ∈ l, v < 64) → ∀ u, u < 64 → (u ∈ l ∨ served s u) → served (l.foldl State.serveVec s) u := by
  induction l with
  | nil => intro s _ u _ h; simpa using h
  | cons v l ih =>
    intro s b u bu h
    refine ih _ (fun w hw => b w (List.mem_cons_of_mem _ hw)) u bu ?_
    rcases h with h | h
    · rcases List.mem_cons.1 h with e | m
      · exact Or.inr (serveVec_served s bu (b v List.mem_cons_self) (Or.inl e))
      · exact Or.inl m
    · exact Or.inr (serveVec_served s bu (b v List.mem_cons_self) (Or.inr h))

/-- After `deliver` nothing that can leave is unsent. -/
theorem deliver_delivered (s : State) : delivered s.deliver := by
  intro v b
  show served _ _
  unfold State.deliver
  split
  · rename_i h
    obtain ⟨lo, hi, p0, p1⟩ := h
    have w : s.vecWants v = false := by
      unfold State.vecWants
      refine List.any_eq_false.2 fun n _ => ?_
      have : s.bit2 SYS_SRC_EN_LO SYS_SRC_EN_HI n = false := by
        unfold State.bit2 State.bit; rw [lo, hi]; split <;> simp [bitOf]
      simp [this]
    have o : owes s v = false := by simp [owes, w]
    refine ⟨by simp [o], ?_⟩
    have : s.rd (SYS_PBA (v / 32)) = 0 := by
      rcases pba_addr b with e | e <;> rw [e] <;> assumption
    simp [State.bit, this, bitOf, o]
  · exact serveAll _ s (fun v h => List.mem_range.1 h) v b (Or.inl (List.mem_range.2 b))

end Sys2Proof.Machine
end

