-- ==== Sys2Proof/Laws/Map.lean ====
section
/-! SUPPORT. The map's reset values lie in its fields, and the register file keeps its canonical form under the operations that write it. -/

namespace Sys2Proof.Machine
/-- The reset values of a row lie in its fields. -/
def Reg.sound (r : Reg) : Bool :=
  let w := BitVec.ofNat 32 (r.fields.foldl (fun w f => w + f.reset * 2 ^ f.lo) 0)
  decide (w &&& r.bits = w) && r.alt.all fun e => decide (BitVec.ofNat 32 e.2 &&& r.bits = BitVec.ofNat 32 e.2)

theorem Reg.sound_resetAt {r : Reg} (h : r.sound = true) (i : Nat) : r.resetAt i &&& r.bits = r.resetAt i := by
  simp only [Reg.sound, Bool.and_eq_true, decide_eq_true_eq, List.all_eq_true] at h
  unfold Reg.resetAt
  split
  · rename_i e q; exact h.2 e (List.mem_of_find?_eq_some q)
  · exact h.1

theorem map_sound : [regsSys, regsMb, regsPm, regsHl, regsLn, regsPt, regsPr, regsFt, regsSc, regsGt, regsTb, regsPx, regsTc, regsOu, regsEv,
    regsTw, regsFu].all (·.all Reg.sound) = true := by decide +kernel

/-- Both ends of a choice are in the list. -/
theorem ite_mem {α : Type} {l : List α} {c : Prop} [Decidable c] {x y : α} (h : x ∈ l) (k : y ∈ l) : (if c then x else y) ∈ l := by
  split
  · exact h
  · exact k

theorem regsAt_mem (a : Nat) : regsAt a ∈ [regsSys, regsMb, regsPm, regsHl, regsLn, regsPt, regsPr, regsFt, regsSc, regsGt, regsTb, regsPx,
    regsTc, regsOu, regsEv, regsTw, regsFu] := by
  unfold regsAt
  repeat' (refine ite_mem ?_ ?_)
  all_goals simp

/-- No reset value sets a reserved bit (R11). -/
theorem resetWord_bits (a : Nat) : resetWord a &&& fieldBits a = resetWord a := by
  unfold resetWord fieldBits
  cases h : regFind a with
  | none => rfl
  | some x =>
    obtain ⟨r, i, j⟩ := x
    obtain ⟨q, hq, hf⟩ := List.exists_of_findSome?_eq_some h
    simp only [Option.map_eq_some_iff] at hf
    obtain ⟨ij, _, e⟩ := hf
    obtain ⟨e, -⟩ := Prod.mk.injEq .. ▸ e
    subst e
    exact Reg.sound_resetAt (List.all_eq_true.1 (List.all_eq_true.1 map_sound _ (regsAt_mem a)) _ hq) _

theorem regsOk_wr {s : State} (a : Nat) (w : Word) (h : regsOk s) : regsOk (s.wr a w) := by
  refine ⟨State.wf_wr a w h.1, fun b => ?_⟩
  by_cases e : b = a
  · subst e; rw [State.rd_wr_same, BitVec.and_assoc, BitVec.and_self]
  · rw [State.rd_wr_ne s w e]; exact h.2 b

theorem regsOk_set {s : State} (f : FRef) (v : Nat) (h : regsOk s) : regsOk (s.set f v) := regsOk_wr _ _ h

/-- Only the register file decides. -/
theorem regsOk_congr {s t : State} (e : t.regs = s.regs) (h : regsOk s) : regsOk t := by
  refine ⟨by rw [e]; exact h.1, fun a => ?_⟩
  have := h.2 a
  unfold State.rd at *
  rw [e]; exact this

theorem regsOk_fold {β : Type} {f : State → β → State} (h : ∀ u x, regsOk u → regsOk (f u x)) (xs : List β) {s : State} (g : regsOk s) :
    regsOk (xs.foldl f s) := by
  induction xs generalizing s with
  | nil => exact g
  | cons x xs ih => exact ih (h _ x g)

theorem regsOk_wrs {s : State} (a : Nat) (ws : List Word) (h : regsOk s) : regsOk (s.wrs a ws) := by
  induction ws generalizing s a with
  | nil => exact h
  | cons w ws ih => exact ih (a + 4) (regsOk_wr a w h)

theorem regsOk_serveVec {s : State} (v : Nat) (h : regsOk s) : regsOk (s.serveVec v) := by
  have k : regsOk (s.sendVec v) := regsOk_congr rfl h
  unfold State.serveVec
  dsimp only
  split <;> split
  · exact k
  · exact regsOk_set _ _ k
  · exact h
  · exact regsOk_set _ _ h

theorem regsOk_deliver {s : State} (h : regsOk s) : regsOk s.deliver := by
  unfold State.deliver
  split
  · exact h
  · exact regsOk_fold (fun _ v => regsOk_serveVec v) _ h
end Sys2Proof.Machine
end

