-- ==== Sys2Proof/Laws/Parts.lean ====
section
/-! SUPPORT. What each operation on the state may change: one lemma for each, which names the parts that may differ after it. -/

set_option linter.all false

namespace Sys2Proof.Machine

/-! ### The relation -/

theorem onlyParts.refl {l : List Part} {s : State} : onlyParts l s s := fun p _ => by cases p <;> rfl

/-- A later change of parts among `l` keeps the others. -/
theorem onlyParts.then {l m : List Part} {s t u : State} (g : onlyParts l s t) (h : onlyParts m t u) (q : m.all (l.contains ·) = true) :
    onlyParts l s u := by
  intro p hp
  have hm : p ∉ m := fun i => hp (by simpa using List.all_eq_true.1 q p i)
  have a := g p hp
  have b := h p hm
  cases p <;> exact Eq.trans b a

theorem onlyParts.self {l : List Part} {s : State} : onlyParts l s s ↔ True := ⟨fun _ => trivial, fun _ => onlyParts.refl⟩

theorem onlyParts.step {l m : List Part} {s t u : State} (h : onlyParts m t u) (q : m.all (l.contains ·) = true) :
    onlyParts l s u ↔ onlyParts l s t := by
  have hm : ∀ p, p ∉ l → p ∉ m := fun p hp i => hp (by simpa using List.all_eq_true.1 q p i)
  constructor
  · intro g p hp; have a := g p hp; have b := h p (hm p hp); cases p <;> exact Eq.trans (Eq.symm b) a
  · exact fun g => onlyParts.then g h q

theorem onlyParts.snd {l : List Part} {s t : State} {β : Type} {e : β × State} {b : β} (h : e = (b, t)) (g : onlyParts l s e.2) : onlyParts l s t := by
  rw [h] at g; exact g

theorem onlyParts.fold {l : List Part} {s : State} {β : Type} {f : State → β → State} (h : ∀ u x, onlyParts l u (f u x)) :
    ∀ (xs : List β) {t : State}, onlyParts l s t → onlyParts l s (xs.foldl f t) := by
  intro xs
  induction xs with
  | nil => exact fun g => g
  | cons x xs ih => exact fun g => ih (onlyParts.then g (h _ x) (by simp))

theorem onlyParts.foldSnd {l : List Part} {s : State} {β γ : Type} {f : γ × State → β → γ × State} (h : ∀ a x, onlyParts l a.2 (f a x).2) :
    ∀ (xs : List β) {a : γ × State}, onlyParts l s a.2 → onlyParts l s (xs.foldl f a).2 := by
  intro xs
  induction xs with
  | nil => exact fun g => g
  | cons x xs ih => exact fun g => ih (onlyParts.then g (h _ x) (by simp))

/-! ### Updates of one part -/

theorem with_bw {l : List Part} {s t : State} {x0} (q : [.bw].all (l.contains ·) = true) : onlyParts l s { t with bw := x0 } ↔ onlyParts l s t :=
  onlyParts.step (fun p hp => by cases p <;> first | rfl | exact absurd (by simp) hp) q

theorem with_chan {l : List Part} {s t : State} {x0} (q : [.chan].all (l.contains ·) = true) : onlyParts l s { t with chan := x0 } ↔ onlyParts l s t :=
  onlyParts.step (fun p hp => by cases p <;> first | rfl | exact absurd (by simp) hp) q

theorem with_clk {l : List Part} {s t : State} {x0} (q : [.clk].all (l.contains ·) = true) : onlyParts l s { t with clk := x0 } ↔ onlyParts l s t :=
  onlyParts.step (fun p hp => by cases p <;> first | rfl | exact absurd (by simp) hp) q

theorem with_esmc {l : List Part} {s t : State} {x0} (q : [.esmc].all (l.contains ·) = true) : onlyParts l s { t with esmc := x0 } ↔ onlyParts l s t :=
  onlyParts.step (fun p hp => by cases p <;> first | rfl | exact absurd (by simp) hp) q

theorem with_evGrp {l : List Part} {s t : State} {x0} (q : [.evGrp].all (l.contains ·) = true) : onlyParts l s { t with evGrp := x0 } ↔ onlyParts l s t :=
  onlyParts.step (fun p hp => by cases p <;> first | rfl | exact absurd (by simp) hp) q

theorem with_evIn {l : List Part} {s t : State} {x0} (q : [.evIn].all (l.contains ·) = true) : onlyParts l s { t with evIn := x0 } ↔ onlyParts l s t :=
  onlyParts.step (fun p hp => by cases p <;> first | rfl | exact absurd (by simp) hp) q

theorem with_free {l : List Part} {s t : State} {x0} (q : [.free].all (l.contains ·) = true) : onlyParts l s { t with free := x0 } ↔ onlyParts l s t :=
  onlyParts.step (fun p hp => by cases p <;> first | rfl | exact absurd (by simp) hp) q

theorem with_frozen {l : List Part} {s t : State} {x0} (q : [.frozen].all (l.contains ·) = true) : onlyParts l s { t with frozen := x0 } ↔ onlyParts l s t :=
  onlyParts.step (fun p hp => by cases p <;> first | rfl | exact absurd (by simp) hp) q

theorem with_ft {l : List Part} {s t : State} {x0} (q : [.ft].all (l.contains ·) = true) : onlyParts l s { t with ft := x0 } ↔ onlyParts l s t :=
  onlyParts.step (fun p hp => by cases p <;> first | rfl | exact absurd (by simp) hp) q

theorem with_fu {l : List Part} {s t : State} {x0} (q : [.fu].all (l.contains ·) = true) : onlyParts l s { t with fu := x0 } ↔ onlyParts l s t :=
  onlyParts.step (fun p hp => by cases p <;> first | rfl | exact absurd (by simp) hp) q

theorem with_hl {l : List Part} {s t : State} {x0} (q : [.hl].all (l.contains ·) = true) : onlyParts l s { t with hl := x0 } ↔ onlyParts l s t :=
  onlyParts.step (fun p hp => by cases p <;> first | rfl | exact absurd (by simp) hp) q

theorem with_host {l : List Part} {s t : State} {x0} (q : [.host].all (l.contains ·) = true) : onlyParts l s { t with host := x0 } ↔ onlyParts l s t :=
  onlyParts.step (fun p hp => by cases p <;> first | rfl | exact absurd (by simp) hp) q

theorem with_lane {l : List Part} {s t : State} {x0} (q : [.lane].all (l.contains ·) = true) : onlyParts l s { t with lane := x0 } ↔ onlyParts l s t :=
  onlyParts.step (fun p hp => by cases p <;> first | rfl | exact absurd (by simp) hp) q

theorem with_mbox {l : List Part} {s t : State} {x0} (q : [.mbox].all (l.contains ·) = true) : onlyParts l s { t with mbox := x0 } ↔ onlyParts l s t :=
  onlyParts.step (fun p hp => by cases p <;> first | rfl | exact absurd (by simp) hp) q

theorem with_mp {l : List Part} {s t : State} {x0} (q : [.mp].all (l.contains ·) = true) : onlyParts l s { t with mp := x0 } ↔ onlyParts l s t :=
  onlyParts.step (fun p hp => by cases p <;> first | rfl | exact absurd (by simp) hp) q

theorem with_ou {l : List Part} {s t : State} {x0} (q : [.ou].all (l.contains ·) = true) : onlyParts l s { t with ou := x0 } ↔ onlyParts l s t :=
  onlyParts.step (fun p hp => by cases p <;> first | rfl | exact absurd (by simp) hp) q

theorem with_ownerNext {l : List Part} {s t : State} {x0} (q : [.ownerNext].all (l.contains ·) = true) : onlyParts l s { t with ownerNext := x0 } ↔ onlyParts l s t :=
  onlyParts.step (fun p hp => by cases p <;> first | rfl | exact absurd (by simp) hp) q

theorem with_pend {l : List Part} {s t : State} {x0} (q : [.pend].all (l.contains ·) = true) : onlyParts l s { t with pend := x0 } ↔ onlyParts l s t :=
  onlyParts.step (fun p hp => by cases p <;> first | rfl | exact absurd (by simp) hp) q

theorem with_pending {l : List Part} {s t : State} {x0} (q : [.pending].all (l.contains ·) = true) : onlyParts l s { t with pending := x0 } ↔ onlyParts l s t :=
  onlyParts.step (fun p hp => by cases p <;> first | rfl | exact absurd (by simp) hp) q

theorem with_port {l : List Part} {s t : State} {x0} (q : [.port].all (l.contains ·) = true) : onlyParts l s { t with port := x0 } ↔ onlyParts l s t :=
  onlyParts.step (fun p hp => by cases p <;> first | rfl | exact absurd (by simp) hp) q

theorem with_power {l : List Part} {s t : State} {x0} (q : [.power].all (l.contains ·) = true) : onlyParts l s { t with power := x0 } ↔ onlyParts l s t :=
  onlyParts.step (fun p hp => by cases p <;> first | rfl | exact absurd (by simp) hp) q

theorem with_pr {l : List Part} {s t : State} {x0} (q : [.pr].all (l.contains ·) = true) : onlyParts l s { t with pr := x0 } ↔ onlyParts l s t :=
  onlyParts.step (fun p hp => by cases p <;> first | rfl | exact absurd (by simp) hp) q

theorem with_ptp {l : List Part} {s t : State} {x0} (q : [.ptp].all (l.contains ·) = true) : onlyParts l s { t with ptp := x0 } ↔ onlyParts l s t :=
  onlyParts.step (fun p hp => by cases p <;> first | rfl | exact absurd (by simp) hp) q

theorem with_px {l : List Part} {s t : State} {x0} (q : [.px].all (l.contains ·) = true) : onlyParts l s { t with px := x0 } ↔ onlyParts l s t :=
  onlyParts.step (fun p hp => by cases p <;> first | rfl | exact absurd (by simp) hp) q

theorem with_regs {l : List Part} {s t : State} {x0} (q : [.regs].all (l.contains ·) = true) : onlyParts l s { t with regs := x0 } ↔ onlyParts l s t :=
  onlyParts.step (fun p hp => by cases p <;> first | rfl | exact absurd (by simp) hp) q

theorem with_retain {l : List Part} {s t : State} {x0} (q : [.retain].all (l.contains ·) = true) : onlyParts l s { t with retain := x0 } ↔ onlyParts l s t :=
  onlyParts.step (fun p hp => by cases p <;> first | rfl | exact absurd (by simp) hp) q

theorem with_sc {l : List Part} {s t : State} {x0} (q : [.sc].all (l.contains ·) = true) : onlyParts l s { t with sc := x0 } ↔ onlyParts l s t :=
  onlyParts.step (fun p hp => by cases p <;> first | rfl | exact absurd (by simp) hp) q

theorem with_sent {l : List Part} {s t : State} {x0} (q : [.sent].all (l.contains ·) = true) : onlyParts l s { t with sent := x0 } ↔ onlyParts l s t :=
  onlyParts.step (fun p hp => by cases p <;> first | rfl | exact absurd (by simp) hp) q

theorem with_smp {l : List Part} {s t : State} {x0} (q : [.smp].all (l.contains ·) = true) : onlyParts l s { t with smp := x0 } ↔ onlyParts l s t :=
  onlyParts.step (fun p hp => by cases p <;> first | rfl | exact absurd (by simp) hp) q

theorem with_taq {l : List Part} {s t : State} {x0} (q : [.taq].all (l.contains ·) = true) : onlyParts l s { t with taq := x0 } ↔ onlyParts l s t :=
  onlyParts.step (fun p hp => by cases p <;> first | rfl | exact absurd (by simp) hp) q

theorem with_tb {l : List Part} {s t : State} {x0} (q : [.tb].all (l.contains ·) = true) : onlyParts l s { t with tb := x0 } ↔ onlyParts l s t :=
  onlyParts.step (fun p hp => by cases p <;> first | rfl | exact absurd (by simp) hp) q

theorem with_tdc {l : List Part} {s t : State} {x0} (q : [.tdc].all (l.contains ·) = true) : onlyParts l s { t with tdc := x0 } ↔ onlyParts l s t :=
  onlyParts.step (fun p hp => by cases p <;> first | rfl | exact absurd (by simp) hp) q

theorem with_time {l : List Part} {s t : State} {x0} (q : [.time].all (l.contains ·) = true) : onlyParts l s { t with time := x0 } ↔ onlyParts l s t :=
  onlyParts.step (fun p hp => by cases p <;> first | rfl | exact absurd (by simp) hp) q

theorem with_tod {l : List Part} {s t : State} {x0} (q : [.tod].all (l.contains ·) = true) : onlyParts l s { t with tod := x0 } ↔ onlyParts l s t :=
  onlyParts.step (fun p hp => by cases p <;> first | rfl | exact absurd (by simp) hp) q

theorem with_treadRead {l : List Part} {s t : State} {x0} (q : [.treadRead].all (l.contains ·) = true) : onlyParts l s { t with treadRead := x0 } ↔ onlyParts l s t :=
  onlyParts.step (fun p hp => by cases p <;> first | rfl | exact absurd (by simp) hp) q

theorem with_tw {l : List Part} {s t : State} {x0} (q : [.tw].all (l.contains ·) = true) : onlyParts l s { t with tw := x0 } ↔ onlyParts l s t :=
  onlyParts.step (fun p hp => by cases p <;> first | rfl | exact absurd (by simp) hp) q

theorem with_txts {l : List Part} {s t : State} {x0} (q : [.txts].all (l.contains ·) = true) : onlyParts l s { t with txts := x0 } ↔ onlyParts l s t :=
  onlyParts.step (fun p hp => by cases p <;> first | rfl | exact absurd (by simp) hp) q

theorem with_unit {l : List Part} {s t : State} {x0} (q : [.unit].all (l.contains ·) = true) : onlyParts l s { t with unit := x0 } ↔ onlyParts l s t :=
  onlyParts.step (fun p hp => by cases p <;> first | rfl | exact absurd (by simp) hp) q

theorem with_variant {l : List Part} {s t : State} {x0} (q : [.variant].all (l.contains ·) = true) : onlyParts l s { t with variant := x0 } ↔ onlyParts l s t :=
  onlyParts.step (fun p hp => by cases p <;> first | rfl | exact absurd (by simp) hp) q

theorem with_mp_hl {l : List Part} {s t : State} {x0 x1} (q : [.mp, .hl].all (l.contains ·) = true) : onlyParts l s { t with mp := x0, hl := x1 } ↔ onlyParts l s t :=
  onlyParts.step (fun p hp => by cases p <;> first | rfl | exact absurd (by simp) hp) q

theorem with_pend_frozen {l : List Part} {s t : State} {x0 x1} (q : [.pend, .frozen].all (l.contains ·) = true) : onlyParts l s { t with pend := x0, frozen := x1 } ↔ onlyParts l s t :=
  onlyParts.step (fun p hp => by cases p <;> first | rfl | exact absurd (by simp) hp) q

theorem with_power_host {l : List Part} {s t : State} {x0 x1} (q : [.power, .host].all (l.contains ·) = true) : onlyParts l s { t with power := x0, host := x1 } ↔ onlyParts l s t :=
  onlyParts.step (fun p hp => by cases p <;> first | rfl | exact absurd (by simp) hp) q

theorem with_tb_time {l : List Part} {s t : State} {x0 x1} (q : [.tb, .time].all (l.contains ·) = true) : onlyParts l s { t with tb := x0, time := x1 } ↔ onlyParts l s t :=
  onlyParts.step (fun p hp => by cases p <;> first | rfl | exact absurd (by simp) hp) q

theorem with_pending_variant_free_sent_power_host_hl_tdc_retain_fu_unit {l : List Part} {s t : State} {x0 x1 x2 x3 x4 x5 x6 x7 x8 x9 x10} (q : [.pending, .variant, .free, .sent, .power, .host, .hl, .tdc, .retain, .fu, .unit].all (l.contains ·) = true) : onlyParts l s { t with pending := x0, variant := x1, free := x2, sent := x3, power := x4, host := x5, hl := x6, tdc := x7, retain := x8, fu := x9, unit := x10 } ↔ onlyParts l s t :=
  onlyParts.step (fun p hp => by cases p <;> first | rfl | exact absurd (by simp) hp) q

/-! ### Operations -/

theorem State.wr_parts (s : State) (a : Nat) (w : Word) : onlyParts [.regs] s (State.wr s a w) := by
  unfold State.wr
  try dsimp (proj := false) only
  repeat' (first | simp (disch := decide) only [↓onlyParts.self, ↓with_regs] | with_reducible (refine onlyParts.fold ?_ _ ?_) | with_reducible (refine onlyParts.foldSnd ?_ _ ?_) | (refine onlyParts.snd (by assumption) ?_) | split | (intro (_ : State) _; try dsimp (proj := false) only) | (intro (_ : _ × State) _; try dsimp (proj := false) only))
theorem State.wr_keeps {L₀ : List Part} {s₀ : State} (s : State) (a : Nat) (w : Word) (h₀ : [(.regs : Part)].all (L₀.contains ·) = true) : onlyParts L₀ s₀ (State.wr s a w) ↔ onlyParts L₀ s₀ s :=
  onlyParts.step (State.wr_parts s a w) h₀

theorem State.wrs_parts (s : State) (a : Nat) (ws : List Word) : onlyParts [.regs] s (s.wrs a ws) := by
  induction ws generalizing s a with
  | nil => exact onlyParts.refl
  | cons w ws ih => exact onlyParts.then (State.wr_parts s a w) (ih (s.wr a w) (a + 4)) (by decide)
theorem State.wrs_keeps {L₀ : List Part} {s₀ : State} (s : State) (a : Nat) (ws : List Word) (h₀ : [(.regs : Part)].all (L₀.contains ·) = true) :
    onlyParts L₀ s₀ (s.wrs a ws) ↔ onlyParts L₀ s₀ s := onlyParts.step (State.wrs_parts s a ws) h₀

theorem State.setEvIn_parts (s : State) (i : Nat) (e : EvIn) : onlyParts [.evIn] s (State.setEvIn s i e) := by
  unfold State.setEvIn
  try dsimp (proj := false) only
  repeat' (first | simp (disch := decide) only [↓onlyParts.self, ↓with_evIn] | with_reducible (refine onlyParts.fold ?_ _ ?_) | with_reducible (refine onlyParts.foldSnd ?_ _ ?_) | (refine onlyParts.snd (by assumption) ?_) | split | (intro (_ : State) _; try dsimp (proj := false) only) | (intro (_ : _ × State) _; try dsimp (proj := false) only))
theorem State.setEvIn_keeps {L₀ : List Part} {s₀ : State} (s : State) (i : Nat) (e : EvIn) (h₀ : [(.evIn : Part)].all (L₀.contains ·) = true) : onlyParts L₀ s₀ (State.setEvIn s i e) ↔ onlyParts L₀ s₀ s :=
  onlyParts.step (State.setEvIn_parts s i e) h₀

theorem State.set_parts (s : State) (f : FRef) (v : Nat) : onlyParts [.regs] s (State.set s f v) := by
  unfold State.set
  try dsimp (proj := false) only
  repeat' (first | simp (disch := decide) only [↓onlyParts.self, ↓State.wr_keeps, ↓with_regs] | with_reducible (refine onlyParts.fold ?_ _ ?_) | with_reducible (refine onlyParts.foldSnd ?_ _ ?_) | (refine onlyParts.snd (by assumption) ?_) | split | (intro (_ : State) _; try dsimp (proj := false) only) | (intro (_ : _ × State) _; try dsimp (proj := false) only))
theorem State.set_keeps {L₀ : List Part} {s₀ : State} (s : State) (f : FRef) (v : Nat) (h₀ : [(.regs : Part)].all (L₀.contains ·) = true) : onlyParts L₀ s₀ (State.set s f v) ↔ onlyParts L₀ s₀ s :=
  onlyParts.step (State.set_parts s f v) h₀

theorem State.evTsPop_parts (s : State) (i : Nat) : onlyParts [.regs, .evIn] s (State.evTsPop s i) := by
  unfold State.evTsPop
  try dsimp (proj := false) only
  repeat' (first | simp (disch := decide) only [↓onlyParts.self, ↓State.set_keeps, ↓State.setEvIn_keeps, ↓with_evIn, ↓with_regs] | with_reducible (refine onlyParts.fold ?_ _ ?_) | with_reducible (refine onlyParts.foldSnd ?_ _ ?_) | (refine onlyParts.snd (by assumption) ?_) | split | (intro (_ : State) _; try dsimp (proj := false) only) | (intro (_ : _ × State) _; try dsimp (proj := false) only))
theorem State.evTsPop_keeps {L₀ : List Part} {s₀ : State} (s : State) (i : Nat) (h₀ : [(.regs : Part), (.evIn : Part)].all (L₀.contains ·) = true) : onlyParts L₀ s₀ (State.evTsPop s i) ↔ onlyParts L₀ s₀ s :=
  onlyParts.step (State.evTsPop_parts s i) h₀

theorem State.txtsPop_parts (s : State) (m : Master) (p : Nat) : onlyParts [.regs, .txts] s (State.txtsPop s m p) := by
  unfold State.txtsPop
  try dsimp (proj := false) only
  repeat' (first | simp (disch := decide) only [↓onlyParts.self, ↓State.set_keeps, ↓with_regs, ↓with_txts] | with_reducible (refine onlyParts.fold ?_ _ ?_) | with_reducible (refine onlyParts.foldSnd ?_ _ ?_) | (refine onlyParts.snd (by assumption) ?_) | split | (intro (_ : State) _; try dsimp (proj := false) only) | (intro (_ : _ × State) _; try dsimp (proj := false) only))
theorem State.txtsPop_keeps {L₀ : List Part} {s₀ : State} (s : State) (m : Master) (p : Nat) (h₀ : [(.regs : Part), (.txts : Part)].all (L₀.contains ·) = true) : onlyParts L₀ s₀ (State.txtsPop s m p) ↔ onlyParts L₀ s₀ s :=
  onlyParts.step (State.txtsPop_parts s m p) h₀

theorem State.setEvGrp_parts (s : State) (g : Nat) (e : EvGrp) : onlyParts [.regs, .evGrp] s (State.setEvGrp s g e) := by
  unfold State.setEvGrp
  try dsimp (proj := false) only
  repeat' (first | simp (disch := decide) only [↓onlyParts.self, ↓State.set_keeps, ↓with_evGrp, ↓with_regs] | with_reducible (refine onlyParts.fold ?_ _ ?_) | with_reducible (refine onlyParts.foldSnd ?_ _ ?_) | (refine onlyParts.snd (by assumption) ?_) | split | (intro (_ : State) _; try dsimp (proj := false) only) | (intro (_ : _ × State) _; try dsimp (proj := false) only))
theorem State.setEvGrp_keeps {L₀ : List Part} {s₀ : State} (s : State) (g : Nat) (e : EvGrp) (h₀ : [(.regs : Part), (.evGrp : Part)].all (L₀.contains ·) = true) : onlyParts L₀ s₀ (State.setEvGrp s g e) ↔ onlyParts L₀ s₀ s :=
  onlyParts.step (State.setEvGrp_parts s g e) h₀

theorem State.setB_parts (s : State) (f : FRef) (b : Bool) : onlyParts [.regs] s (State.setB s f b) := by
  unfold State.setB
  try dsimp (proj := false) only
  repeat' (first | simp (disch := decide) only [↓onlyParts.self, ↓State.set_keeps, ↓with_regs] | with_reducible (refine onlyParts.fold ?_ _ ?_) | with_reducible (refine onlyParts.foldSnd ?_ _ ?_) | (refine onlyParts.snd (by assumption) ?_) | split | (intro (_ : State) _; try dsimp (proj := false) only) | (intro (_ : _ × State) _; try dsimp (proj := false) only))
theorem State.setB_keeps {L₀ : List Part} {s₀ : State} (s : State) (f : FRef) (b : Bool) (h₀ : [(.regs : Part)].all (L₀.contains ·) = true) : onlyParts L₀ s₀ (State.setB s f b) ↔ onlyParts L₀ s₀ s :=
  onlyParts.step (State.setB_parts s f b) h₀

theorem State.latchStop_parts (s : State) (g i : Nat) (x : Interval) : onlyParts [.regs] s (State.latchStop s g i x) := by
  unfold State.latchStop
  try dsimp (proj := false) only
  repeat' (first | simp (disch := decide) only [↓onlyParts.self, ↓State.set_keeps, ↓State.setB_keeps, ↓with_regs] | with_reducible (refine onlyParts.fold ?_ _ ?_) | with_reducible (refine onlyParts.foldSnd ?_ _ ?_) | (refine onlyParts.snd (by assumption) ?_) | split | (intro (_ : State) _; try dsimp (proj := false) only) | (intro (_ : _ × State) _; try dsimp (proj := false) only))
theorem State.latchStop_keeps {L₀ : List Part} {s₀ : State} (s : State) (g i : Nat) (x : Interval) (h₀ : [(.regs : Part)].all (L₀.contains ·) = true) : onlyParts L₀ s₀ (State.latchStop s g i x) ↔ onlyParts L₀ s₀ s :=
  onlyParts.step (State.latchStop_parts s g i x) h₀

theorem State.evResPop_parts (s : State) (g : Nat) : onlyParts [.regs, .evGrp] s (State.evResPop s g) := by
  unfold State.evResPop
  try dsimp (proj := false) only
  repeat' (first | simp (disch := decide) only [↓onlyParts.self, ↓State.latchStop_keeps, ↓State.set_keeps, ↓State.setEvGrp_keeps, ↓with_evGrp, ↓with_regs] | with_reducible (refine onlyParts.fold ?_ _ ?_) | with_reducible (refine onlyParts.foldSnd ?_ _ ?_) | (refine onlyParts.snd (by assumption) ?_) | split | (intro (_ : State) _; try dsimp (proj := false) only) | (intro (_ : _ × State) _; try dsimp (proj := false) only))
theorem State.evResPop_keeps {L₀ : List Part} {s₀ : State} (s : State) (g : Nat) (h₀ : [(.regs : Part), (.evGrp : Part)].all (L₀.contains ·) = true) : onlyParts L₀ s₀ (State.evResPop s g) ↔ onlyParts L₀ s₀ s :=
  onlyParts.step (State.evResPop_parts s g) h₀

theorem State.readEffect_parts (s : State) (m : Master) (p : Place) : onlyParts [.regs, .txts, .taq, .evIn, .evGrp] s (State.readEffect s m p) := by
  unfold State.readEffect
  try dsimp (proj := false) only
  repeat' (first | simp (disch := decide) only [↓onlyParts.self, ↓State.evResPop_keeps, ↓State.evTsPop_keeps, ↓State.txtsPop_keeps, ↓State.wr_keeps, ↓with_evGrp, ↓with_evIn, ↓with_regs, ↓with_taq, ↓with_txts] | with_reducible (refine onlyParts.fold ?_ _ ?_) | with_reducible (refine onlyParts.foldSnd ?_ _ ?_) | (refine onlyParts.snd (by assumption) ?_) | split | (intro (_ : State) _; try dsimp (proj := false) only) | (intro (_ : _ × State) _; try dsimp (proj := false) only))
theorem State.readEffect_keeps {L₀ : List Part} {s₀ : State} (s : State) (m : Master) (p : Place) (h₀ : [(.regs : Part), (.txts : Part), (.taq : Part), (.evIn : Part), (.evGrp : Part)].all (L₀.contains ·) = true) : onlyParts L₀ s₀ (State.readEffect s m p) ↔ onlyParts L₀ s₀ s :=
  onlyParts.step (State.readEffect_parts s m p) h₀

theorem State.readPlace_parts (s : State) (m : Master) (p : Place) : onlyParts [.regs, .txts, .taq, .evIn, .evGrp] s (State.readPlace s m p).2 := by
  unfold State.readPlace
  try dsimp (proj := false) only
  repeat' (first | simp (disch := decide) only [↓onlyParts.self, ↓State.readEffect_keeps, ↓with_evGrp, ↓with_evIn, ↓with_regs, ↓with_taq, ↓with_txts] | with_reducible (refine onlyParts.fold ?_ _ ?_) | with_reducible (refine onlyParts.foldSnd ?_ _ ?_) | (refine onlyParts.snd (by assumption) ?_) | split | (intro (_ : State) _; try dsimp (proj := false) only) | (intro (_ : _ × State) _; try dsimp (proj := false) only))
theorem State.readPlace_keeps {L₀ : List Part} {s₀ : State} (s : State) (m : Master) (p : Place) (h₀ : [(.regs : Part), (.txts : Part), (.taq : Part), (.evIn : Part), (.evGrp : Part)].all (L₀.contains ·) = true) : onlyParts L₀ s₀ (State.readPlace s m p).2 ↔ onlyParts L₀ s₀ s :=
  onlyParts.step (State.readPlace_parts s m p) h₀

theorem State.raise_parts (s : State) (f : FRef) : onlyParts [.regs] s (State.raise s f) := by
  unfold State.raise
  try dsimp (proj := false) only
  repeat' (first | simp (disch := decide) only [↓onlyParts.self, ↓State.set_keeps, ↓with_regs] | with_reducible (refine onlyParts.fold ?_ _ ?_) | with_reducible (refine onlyParts.foldSnd ?_ _ ?_) | (refine onlyParts.snd (by assumption) ?_) | split | (intro (_ : State) _; try dsimp (proj := false) only) | (intro (_ : _ × State) _; try dsimp (proj := false) only))
theorem State.raise_keeps {L₀ : List Part} {s₀ : State} (s : State) (f : FRef) (h₀ : [(.regs : Part)].all (L₀.contains ·) = true) : onlyParts L₀ s₀ (State.raise s f) ↔ onlyParts L₀ s₀ s :=
  onlyParts.step (State.raise_parts s f) h₀

theorem State.setBit_parts (s : State) (a n : Nat) : onlyParts [.regs] s (State.setBit s a n) := by
  unfold State.setBit
  try dsimp (proj := false) only
  repeat' (first | simp (disch := decide) only [↓onlyParts.self, ↓State.set_keeps, ↓with_regs] | with_reducible (refine onlyParts.fold ?_ _ ?_) | with_reducible (refine onlyParts.foldSnd ?_ _ ?_) | (refine onlyParts.snd (by assumption) ?_) | split | (intro (_ : State) _; try dsimp (proj := false) only) | (intro (_ : _ × State) _; try dsimp (proj := false) only))
theorem State.setBit_keeps {L₀ : List Part} {s₀ : State} (s : State) (a n : Nat) (h₀ : [(.regs : Part)].all (L₀.contains ·) = true) : onlyParts L₀ s₀ (State.setBit s a n) ↔ onlyParts L₀ s₀ s :=
  onlyParts.step (State.setBit_parts s a n) h₀

theorem State.captureAt_parts (s : State) (more a : Nat) (w : Word) : onlyParts [.regs] s (State.captureAt s more a w) := by
  unfold State.captureAt
  try dsimp (proj := false) only
  repeat' (first | simp (disch := decide) only [↓onlyParts.self, ↓State.setBit_keeps, ↓State.wr_keeps, ↓with_regs] | with_reducible (refine onlyParts.fold ?_ _ ?_) | with_reducible (refine onlyParts.foldSnd ?_ _ ?_) | (refine onlyParts.snd (by assumption) ?_) | split | (intro (_ : State) _; try dsimp (proj := false) only) | (intro (_ : _ × State) _; try dsimp (proj := false) only))
theorem State.captureAt_keeps {L₀ : List Part} {s₀ : State} (s : State) (more a : Nat) (w : Word) (h₀ : [(.regs : Part)].all (L₀.contains ·) = true) : onlyParts L₀ s₀ (State.captureAt s more a w) ↔ onlyParts L₀ s₀ s :=
  onlyParts.step (State.captureAt_parts s more a w) h₀

theorem State.capture_parts (s : State) (a : Nat) (w : Word) : onlyParts [.regs] s (State.capture s a w) := by
  unfold State.capture
  try dsimp (proj := false) only
  repeat' (first | simp (disch := decide) only [↓onlyParts.self, ↓State.captureAt_keeps, ↓with_regs] | with_reducible (refine onlyParts.fold ?_ _ ?_) | with_reducible (refine onlyParts.foldSnd ?_ _ ?_) | (refine onlyParts.snd (by assumption) ?_) | split | (intro (_ : State) _; try dsimp (proj := false) only) | (intro (_ : _ × State) _; try dsimp (proj := false) only))
theorem State.capture_keeps {L₀ : List Part} {s₀ : State} (s : State) (a : Nat) (w : Word) (h₀ : [(.regs : Part)].all (L₀.contains ·) = true) : onlyParts L₀ s₀ (State.capture s a w) ↔ onlyParts L₀ s₀ s :=
  onlyParts.step (State.capture_parts s a w) h₀

theorem State.guardViol_parts (s : State) (m : Master) (badKey : Bool) (a : Nat) : onlyParts [.regs] s (State.guardViol s m badKey a) := by
  unfold State.guardViol
  try dsimp (proj := false) only
  repeat' (first | simp (disch := decide) only [↓onlyParts.self, ↓State.capture_keeps, ↓State.raise_keeps, ↓with_regs] | with_reducible (refine onlyParts.fold ?_ _ ?_) | with_reducible (refine onlyParts.foldSnd ?_ _ ?_) | (refine onlyParts.snd (by assumption) ?_) | split | (intro (_ : State) _; try dsimp (proj := false) only) | (intro (_ : _ × State) _; try dsimp (proj := false) only))
theorem State.guardViol_keeps {L₀ : List Part} {s₀ : State} (s : State) (m : Master) (badKey : Bool) (a : Nat) (h₀ : [(.regs : Part)].all (L₀.contains ·) = true) : onlyParts L₀ s₀ (State.guardViol s m badKey a) ↔ onlyParts L₀ s₀ s :=
  onlyParts.step (State.guardViol_parts s m badKey a) h₀

theorem State.guardTake_parts (s : State) (m : Master) (a : Nat) (r : Reg) : onlyParts [.regs, .host] s (State.guardTake s m a r).2 := by
  unfold State.guardTake
  try dsimp (proj := false) only
  repeat' (first | simp (disch := decide) only [↓onlyParts.self, ↓State.guardViol_keeps, ↓with_host, ↓with_regs] | with_reducible (refine onlyParts.fold ?_ _ ?_) | with_reducible (refine onlyParts.foldSnd ?_ _ ?_) | (refine onlyParts.snd (by assumption) ?_) | split | (intro (_ : State) _; try dsimp (proj := false) only) | (intro (_ : _ × State) _; try dsimp (proj := false) only))
theorem State.guardTake_keeps {L₀ : List Part} {s₀ : State} (s : State) (m : Master) (a : Nat) (r : Reg) (h₀ : [(.regs : Part), (.host : Part)].all (L₀.contains ·) = true) : onlyParts L₀ s₀ (State.guardTake s m a r).2 ↔ onlyParts L₀ s₀ s :=
  onlyParts.step (State.guardTake_parts s m a r) h₀

theorem State.unlock_parts (s : State) (m : Master) (a : Nat) (v : Word) : onlyParts [.regs, .host] s (State.unlock s m a v) := by
  unfold State.unlock
  try dsimp (proj := false) only
  repeat' (first | simp (disch := decide) only [↓onlyParts.self, ↓State.guardViol_keeps, ↓with_host, ↓with_regs] | with_reducible (refine onlyParts.fold ?_ _ ?_) | with_reducible (refine onlyParts.foldSnd ?_ _ ?_) | (refine onlyParts.snd (by assumption) ?_) | split | (intro (_ : State) _; try dsimp (proj := false) only) | (intro (_ : _ × State) _; try dsimp (proj := false) only))
theorem State.unlock_keeps {L₀ : List Part} {s₀ : State} (s : State) (m : Master) (a : Nat) (v : Word) (h₀ : [(.regs : Part), (.host : Part)].all (L₀.contains ·) = true) : onlyParts L₀ s₀ (State.unlock s m a v) ↔ onlyParts L₀ s₀ s :=
  onlyParts.step (State.unlock_parts s m a v) h₀

theorem State.pendWrite_parts (s : State) (a : Nat) (w : Word) : onlyParts [.pend] s (State.pendWrite s a w) := by
  unfold State.pendWrite
  try dsimp (proj := false) only
  repeat' (first | simp (disch := decide) only [↓onlyParts.self, ↓with_pend] | with_reducible (refine onlyParts.fold ?_ _ ?_) | with_reducible (refine onlyParts.foldSnd ?_ _ ?_) | (refine onlyParts.snd (by assumption) ?_) | split | (intro (_ : State) _; try dsimp (proj := false) only) | (intro (_ : _ × State) _; try dsimp (proj := false) only))
theorem State.pendWrite_keeps {L₀ : List Part} {s₀ : State} (s : State) (a : Nat) (w : Word) (h₀ : [(.pend : Part)].all (L₀.contains ·) = true) : onlyParts L₀ s₀ (State.pendWrite s a w) ↔ onlyParts L₀ s₀ s :=
  onlyParts.step (State.pendWrite_parts s a w) h₀

theorem State.store_parts (s : State) (a : Nat) (m w : Word) : onlyParts [.regs, .pend] s (State.store s a m w) := by
  unfold State.store
  try dsimp (proj := false) only
  repeat' (first | simp (disch := decide) only [↓onlyParts.self, ↓State.pendWrite_keeps, ↓State.wr_keeps, ↓with_pend, ↓with_regs] | with_reducible (refine onlyParts.fold ?_ _ ?_) | with_reducible (refine onlyParts.foldSnd ?_ _ ?_) | (refine onlyParts.snd (by assumption) ?_) | split | (intro (_ : State) _; try dsimp (proj := false) only) | (intro (_ : _ × State) _; try dsimp (proj := false) only))
theorem State.store_keeps {L₀ : List Part} {s₀ : State} (s : State) (a : Nat) (m w : Word) (h₀ : [(.regs : Part), (.pend : Part)].all (L₀.contains ·) = true) : onlyParts L₀ s₀ (State.store s a m w) ↔ onlyParts L₀ s₀ s :=
  onlyParts.step (State.store_parts s a m w) h₀

theorem State.plain_parts (s : State) (p : Place) (gw : Bool) (v : Word) : onlyParts [.regs, .pend] s (State.plain s p gw v) := by
  unfold State.plain
  try dsimp (proj := false) only
  repeat' (first | simp (disch := decide) only [↓onlyParts.self, ↓State.store_keeps, ↓with_pend, ↓with_regs] | with_reducible (refine onlyParts.fold ?_ _ ?_) | with_reducible (refine onlyParts.foldSnd ?_ _ ?_) | (refine onlyParts.snd (by assumption) ?_) | split | (intro (_ : State) _; try dsimp (proj := false) only) | (intro (_ : _ × State) _; try dsimp (proj := false) only))
theorem State.plain_keeps {L₀ : List Part} {s₀ : State} (s : State) (p : Place) (gw : Bool) (v : Word) (h₀ : [(.regs : Part), (.pend : Part)].all (L₀.contains ·) = true) : onlyParts L₀ s₀ (State.plain s p gw v) ↔ onlyParts L₀ s₀ s :=
  onlyParts.step (State.plain_parts s p gw v) h₀

theorem State.vecAck_parts (s : State) (hi : Bool) (v : Word) : onlyParts [.host] s (State.vecAck s hi v) := by
  unfold State.vecAck
  try dsimp (proj := false) only
  repeat' (first | simp (disch := decide) only [↓onlyParts.self, ↓with_host] | with_reducible (refine onlyParts.fold ?_ _ ?_) | with_reducible (refine onlyParts.foldSnd ?_ _ ?_) | (refine onlyParts.snd (by assumption) ?_) | split | (intro (_ : State) _; try dsimp (proj := false) only) | (intro (_ : _ × State) _; try dsimp (proj := false) only))
theorem State.vecAck_keeps {L₀ : List Part} {s₀ : State} (s : State) (hi : Bool) (v : Word) (h₀ : [(.host : Part)].all (L₀.contains ·) = true) : onlyParts L₀ s₀ (State.vecAck s hi v) ↔ onlyParts L₀ s₀ s :=
  onlyParts.step (State.vecAck_parts s hi v) h₀

theorem State.fuSlots_parts (s : State) : onlyParts [.regs] s (State.fuSlots s) := by
  unfold State.fuSlots
  try dsimp (proj := false) only
  repeat' (first | simp (disch := decide) only [↓onlyParts.self, ↓State.set_keeps, ↓State.setB_keeps, ↓with_regs] | with_reducible (refine onlyParts.fold ?_ _ ?_) | with_reducible (refine onlyParts.foldSnd ?_ _ ?_) | (refine onlyParts.snd (by assumption) ?_) | split | (intro (_ : State) _; try dsimp (proj := false) only) | (intro (_ : _ × State) _; try dsimp (proj := false) only))
theorem State.fuSlots_keeps {L₀ : List Part} {s₀ : State} (s : State) (h₀ : [(.regs : Part)].all (L₀.contains ·) = true) : onlyParts L₀ s₀ (State.fuSlots s) ↔ onlyParts L₀ s₀ s :=
  onlyParts.step (State.fuSlots_parts s) h₀

theorem State.moduleReset_parts (s : State) : onlyParts [.pending, .variant, .regs, .pend, .clk, .free, .sent, .tb, .power, .host, .ownerNext, .mbox, .mp, .hl, .bw, .lane, .port, .sc, .pr, .ft, .txts, .frozen, .taq, .time, .chan, .smp, .esmc, .ou, .tdc, .evIn, .evGrp, .tw, .px, .ptp, .tod, .retain, .fu, .unit, .treadRead] s (State.moduleReset s) := fun p hp => absurd (by cases p <;> decide) hp
theorem State.moduleReset_keeps {L₀ : List Part} {s₀ : State} (s : State) (h₀ : [(.pending : Part), (.variant : Part), (.regs : Part), (.pend : Part), (.clk : Part), (.free : Part), (.sent : Part), (.tb : Part), (.power : Part), (.host : Part), (.ownerNext : Part), (.mbox : Part), (.mp : Part), (.hl : Part), (.bw : Part), (.lane : Part), (.port : Part), (.sc : Part), (.pr : Part), (.ft : Part), (.txts : Part), (.frozen : Part), (.taq : Part), (.time : Part), (.chan : Part), (.smp : Part), (.esmc : Part), (.ou : Part), (.tdc : Part), (.evIn : Part), (.evGrp : Part), (.tw : Part), (.px : Part), (.ptp : Part), (.tod : Part), (.retain : Part), (.fu : Part), (.unit : Part), (.treadRead : Part)].all (L₀.contains ·) = true) : onlyParts L₀ s₀ (State.moduleReset s) ↔ onlyParts L₀ s₀ s :=
  onlyParts.step (State.moduleReset_parts s) h₀

theorem State.ownerApply_parts (s : State) : onlyParts [.regs] s (State.ownerApply s) := by
  unfold State.ownerApply
  try dsimp (proj := false) only
  repeat' (first | simp (disch := decide) only [↓onlyParts.self, ↓State.set_keeps, ↓with_regs] | with_reducible (refine onlyParts.fold ?_ _ ?_) | with_reducible (refine onlyParts.foldSnd ?_ _ ?_) | (refine onlyParts.snd (by assumption) ?_) | split | (intro (_ : State) _; try dsimp (proj := false) only) | (intro (_ : _ × State) _; try dsimp (proj := false) only))
theorem State.ownerApply_keeps {L₀ : List Part} {s₀ : State} (s : State) (h₀ : [(.regs : Part)].all (L₀.contains ·) = true) : onlyParts L₀ s₀ (State.ownerApply s) ↔ onlyParts L₀ s₀ s :=
  onlyParts.step (State.ownerApply_parts s) h₀

theorem State.add_parts (s : State) (f : FRef) (n : Nat) : onlyParts [.regs] s (State.add s f n) := by
  unfold State.add
  try dsimp (proj := false) only
  repeat' (first | simp (disch := decide) only [↓onlyParts.self, ↓State.set_keeps, ↓with_regs] | with_reducible (refine onlyParts.fold ?_ _ ?_) | with_reducible (refine onlyParts.foldSnd ?_ _ ?_) | (refine onlyParts.snd (by assumption) ?_) | split | (intro (_ : State) _; try dsimp (proj := false) only) | (intro (_ : _ × State) _; try dsimp (proj := false) only))
theorem State.add_keeps {L₀ : List Part} {s₀ : State} (s : State) (f : FRef) (n : Nat) (h₀ : [(.regs : Part)].all (L₀.contains ·) = true) : onlyParts L₀ s₀ (State.add s f n) ↔ onlyParts L₀ s₀ s :=
  onlyParts.step (State.add_parts s f n) h₀

theorem State.inc_parts (s : State) (f : FRef) : onlyParts [.regs] s (State.inc s f) := by
  unfold State.inc
  try dsimp (proj := false) only
  repeat' (first | simp (disch := decide) only [↓onlyParts.self, ↓State.add_keeps, ↓with_regs] | with_reducible (refine onlyParts.fold ?_ _ ?_) | with_reducible (refine onlyParts.foldSnd ?_ _ ?_) | (refine onlyParts.snd (by assumption) ?_) | split | (intro (_ : State) _; try dsimp (proj := false) only) | (intro (_ : _ × State) _; try dsimp (proj := false) only))
theorem State.inc_keeps {L₀ : List Part} {s₀ : State} (s : State) (f : FRef) (h₀ : [(.regs : Part)].all (L₀.contains ·) = true) : onlyParts L₀ s₀ (State.inc s f) ↔ onlyParts L₀ s₀ s :=
  onlyParts.step (State.inc_parts s f) h₀

theorem State.mbWrite_parts (s : State) (m : Master) (n w : Nat) (v : Word) : onlyParts [.regs] s (State.mbWrite s m n w v) := by
  unfold State.mbWrite
  try dsimp (proj := false) only
  repeat' (first | simp (disch := decide) only [↓onlyParts.self, ↓State.inc_keeps, ↓State.wr_keeps, ↓with_regs] | with_reducible (refine onlyParts.fold ?_ _ ?_) | with_reducible (refine onlyParts.foldSnd ?_ _ ?_) | (refine onlyParts.snd (by assumption) ?_) | split | (intro (_ : State) _; try dsimp (proj := false) only) | (intro (_ : _ × State) _; try dsimp (proj := false) only))
theorem State.mbWrite_keeps {L₀ : List Part} {s₀ : State} (s : State) (m : Master) (n w : Nat) (v : Word) (h₀ : [(.regs : Part)].all (L₀.contains ·) = true) : onlyParts L₀ s₀ (State.mbWrite s m n w v) ↔ onlyParts L₀ s₀ s :=
  onlyParts.step (State.mbWrite_parts s m n w v) h₀

theorem State.wr64_parts (s : State) (lo hi v : Nat) : onlyParts [.regs] s (State.wr64 s lo hi v) := by
  unfold State.wr64
  try dsimp (proj := false) only
  repeat' (first | simp (disch := decide) only [↓onlyParts.self, ↓State.wr_keeps, ↓with_regs] | with_reducible (refine onlyParts.fold ?_ _ ?_) | with_reducible (refine onlyParts.foldSnd ?_ _ ?_) | (refine onlyParts.snd (by assumption) ?_) | split | (intro (_ : State) _; try dsimp (proj := false) only) | (intro (_ : _ × State) _; try dsimp (proj := false) only))
theorem State.wr64_keeps {L₀ : List Part} {s₀ : State} (s : State) (lo hi v : Nat) (h₀ : [(.regs : Part)].all (L₀.contains ·) = true) : onlyParts L₀ s₀ (State.wr64 s lo hi v) ↔ onlyParts L₀ s₀ s :=
  onlyParts.step (State.wr64_parts s lo hi v) h₀

theorem State.pm_parts (s : State) (u ev n : Nat) : onlyParts [.regs] s (State.pm s u ev n) := by
  unfold State.pm
  try dsimp (proj := false) only
  repeat' (first | simp (disch := decide) only [↓onlyParts.self, ↓State.wr64_keeps, ↓with_regs] | with_reducible (refine onlyParts.fold ?_ _ ?_) | with_reducible (refine onlyParts.foldSnd ?_ _ ?_) | (refine onlyParts.snd (by assumption) ?_) | split | (intro (_ : State) _; try dsimp (proj := false) only) | (intro (_ : _ × State) _; try dsimp (proj := false) only))
theorem State.pm_keeps {L₀ : List Part} {s₀ : State} (s : State) (u ev n : Nat) (h₀ : [(.regs : Part)].all (L₀.contains ·) = true) : onlyParts L₀ s₀ (State.pm s u ev n) ↔ onlyParts L₀ s₀ s :=
  onlyParts.step (State.pm_parts s u ev n) h₀

theorem State.add64_parts (s : State) (lo hi n : Nat) : onlyParts [.regs] s (State.add64 s lo hi n) := by
  unfold State.add64
  try dsimp (proj := false) only
  repeat' (first | simp (disch := decide) only [↓onlyParts.self, ↓State.wr64_keeps, ↓with_regs] | with_reducible (refine onlyParts.fold ?_ _ ?_) | with_reducible (refine onlyParts.foldSnd ?_ _ ?_) | (refine onlyParts.snd (by assumption) ?_) | split | (intro (_ : State) _; try dsimp (proj := false) only) | (intro (_ : _ × State) _; try dsimp (proj := false) only))
theorem State.add64_keeps {L₀ : List Part} {s₀ : State} (s : State) (lo hi n : Nat) (h₀ : [(.regs : Part)].all (L₀.contains ·) = true) : onlyParts L₀ s₀ (State.add64 s lo hi n) ↔ onlyParts L₀ s₀ s :=
  onlyParts.step (State.add64_parts s lo hi n) h₀

theorem State.countRx_parts (s : State) (p n da : Nat) : onlyParts [.regs] s (State.countRx s p n da) := by
  unfold State.countRx
  try dsimp (proj := false) only
  repeat' (first | simp (disch := decide) only [↓onlyParts.self, ↓State.add64_keeps, ↓with_regs] | with_reducible (refine onlyParts.fold ?_ _ ?_) | with_reducible (refine onlyParts.foldSnd ?_ _ ?_) | (refine onlyParts.snd (by assumption) ?_) | split | (intro (_ : State) _; try dsimp (proj := false) only) | (intro (_ : _ × State) _; try dsimp (proj := false) only))
theorem State.countRx_keeps {L₀ : List Part} {s₀ : State} (s : State) (p n da : Nat) (h₀ : [(.regs : Part)].all (L₀.contains ·) = true) : onlyParts L₀ s₀ (State.countRx s p n da) ↔ onlyParts L₀ s₀ s :=
  onlyParts.step (State.countRx_parts s p n da) h₀

theorem State.bwCount_parts (s : State) (p len : Nat) (rx : Bool) : onlyParts [.bw] s (State.bwCount s p len rx) := by
  unfold State.bwCount
  try dsimp (proj := false) only
  repeat' (first | simp (disch := decide) only [↓onlyParts.self, ↓with_bw] | with_reducible (refine onlyParts.fold ?_ _ ?_) | with_reducible (refine onlyParts.foldSnd ?_ _ ?_) | (refine onlyParts.snd (by assumption) ?_) | split | (intro (_ : State) _; try dsimp (proj := false) only) | (intro (_ : _ × State) _; try dsimp (proj := false) only))
theorem State.bwCount_keeps {L₀ : List Part} {s₀ : State} (s : State) (p len : Nat) (rx : Bool) (h₀ : [(.bw : Part)].all (L₀.contains ·) = true) : onlyParts L₀ s₀ (State.bwCount s p len rx) ↔ onlyParts L₀ s₀ s :=
  onlyParts.step (State.bwCount_parts s p len rx) h₀

theorem State.draw_parts (s : State) (n : Nat) : onlyParts [.free] s (State.draw s n).2 := by
  unfold State.draw
  try dsimp (proj := false) only
  repeat' (first | simp (disch := decide) only [↓onlyParts.self, ↓with_free] | with_reducible (refine onlyParts.fold ?_ _ ?_) | with_reducible (refine onlyParts.foldSnd ?_ _ ?_) | (refine onlyParts.snd (by assumption) ?_) | split | (intro (_ : State) _; try dsimp (proj := false) only) | (intro (_ : _ × State) _; try dsimp (proj := false) only))
theorem State.draw_keeps {L₀ : List Part} {s₀ : State} (s : State) (n : Nat) (h₀ : [(.free : Part)].all (L₀.contains ·) = true) : onlyParts L₀ s₀ (State.draw s n).2 ↔ onlyParts L₀ s₀ s :=
  onlyParts.step (State.draw_parts s n) h₀

theorem State.tag_parts (s : State) (p : Nat) : onlyParts [.free] s (State.tag s p).2 := by
  unfold State.tag
  try dsimp (proj := false) only
  repeat' (first | simp (disch := decide) only [↓onlyParts.self, ↓State.draw_keeps, ↓with_free] | with_reducible (refine onlyParts.fold ?_ _ ?_) | with_reducible (refine onlyParts.foldSnd ?_ _ ?_) | (refine onlyParts.snd (by assumption) ?_) | split | (intro (_ : State) _; try dsimp (proj := false) only) | (intro (_ : _ × State) _; try dsimp (proj := false) only))
theorem State.tag_keeps {L₀ : List Part} {s₀ : State} (s : State) (p : Nat) (h₀ : [(.free : Part)].all (L₀.contains ·) = true) : onlyParts L₀ s₀ (State.tag s p).2 ↔ onlyParts L₀ s₀ s :=
  onlyParts.step (State.tag_parts s p) h₀

theorem State.dropDisabled_parts (s : State) (p : Nat) : onlyParts [.regs] s (State.dropDisabled s p) := by
  unfold State.dropDisabled
  try dsimp (proj := false) only
  repeat' (first | simp (disch := decide) only [↓onlyParts.self, ↓State.add64_keeps, ↓with_regs] | with_reducible (refine onlyParts.fold ?_ _ ?_) | with_reducible (refine onlyParts.foldSnd ?_ _ ?_) | (refine onlyParts.snd (by assumption) ?_) | split | (intro (_ : State) _; try dsimp (proj := false) only) | (intro (_ : _ × State) _; try dsimp (proj := false) only))
theorem State.dropDisabled_keeps {L₀ : List Part} {s₀ : State} (s : State) (p : Nat) (h₀ : [(.regs : Part)].all (L₀.contains ·) = true) : onlyParts L₀ s₀ (State.dropDisabled s p) ↔ onlyParts L₀ s₀ s :=
  onlyParts.step (State.dropDisabled_parts s p) h₀

theorem State.setPkt_parts (s : State) (id : Nat) (x : Pkt) : onlyParts [.sc] s (State.setPkt s id x) := by
  unfold State.setPkt
  try dsimp (proj := false) only
  repeat' (first | simp (disch := decide) only [↓onlyParts.self, ↓with_sc] | with_reducible (refine onlyParts.fold ?_ _ ?_) | with_reducible (refine onlyParts.foldSnd ?_ _ ?_) | (refine onlyParts.snd (by assumption) ?_) | split | (intro (_ : State) _; try dsimp (proj := false) only) | (intro (_ : _ × State) _; try dsimp (proj := false) only))
theorem State.setPkt_keeps {L₀ : List Part} {s₀ : State} (s : State) (id : Nat) (x : Pkt) (h₀ : [(.sc : Part)].all (L₀.contains ·) = true) : onlyParts L₀ s₀ (State.setPkt s id x) ↔ onlyParts L₀ s₀ s :=
  onlyParts.step (State.setPkt_parts s id x) h₀

theorem State.newPkt_parts (s : State) (x : Pkt) : onlyParts [.sc] s (State.newPkt s x) := by
  unfold State.newPkt
  try dsimp (proj := false) only
  repeat' (first | simp (disch := decide) only [↓onlyParts.self, ↓State.setPkt_keeps, ↓with_sc] | with_reducible (refine onlyParts.fold ?_ _ ?_) | with_reducible (refine onlyParts.foldSnd ?_ _ ?_) | (refine onlyParts.snd (by assumption) ?_) | split | (intro (_ : State) _; try dsimp (proj := false) only) | (intro (_ : _ × State) _; try dsimp (proj := false) only))
theorem State.newPkt_keeps {L₀ : List Part} {s₀ : State} (s : State) (x : Pkt) (h₀ : [(.sc : Part)].all (L₀.contains ·) = true) : onlyParts L₀ s₀ (State.newPkt s x) ↔ onlyParts L₀ s₀ s :=
  onlyParts.step (State.newPkt_parts s x) h₀

theorem State.macReceive_parts (s : State) (p : Nat) (b : Bytes) (fcs bad : Bool) (ago : Nat) : onlyParts [.regs, .free, .bw, .sc] s (State.macReceive s p b fcs bad ago) := by
  unfold State.macReceive
  try dsimp (proj := false) only
  repeat' (first | simp (disch := decide) only [↓onlyParts.self, ↓State.add64_keeps, ↓State.bwCount_keeps, ↓State.countRx_keeps, ↓State.dropDisabled_keeps, ↓State.newPkt_keeps, ↓State.pm_keeps, ↓State.tag_keeps, ↓with_bw, ↓with_free, ↓with_regs, ↓with_sc] | with_reducible (refine onlyParts.fold ?_ _ ?_) | with_reducible (refine onlyParts.foldSnd ?_ _ ?_) | (refine onlyParts.snd (by assumption) ?_) | split | (intro (_ : State) _; try dsimp (proj := false) only) | (intro (_ : _ × State) _; try dsimp (proj := false) only))
theorem State.macReceive_keeps {L₀ : List Part} {s₀ : State} (s : State) (p : Nat) (b : Bytes) (fcs bad : Bool) (ago : Nat) (h₀ : [(.regs : Part), (.free : Part), (.bw : Part), (.sc : Part)].all (L₀.contains ·) = true) : onlyParts L₀ s₀ (State.macReceive s p b fcs bad ago) ↔ onlyParts L₀ s₀ s :=
  onlyParts.step (State.macReceive_parts s p b fcs bad ago) h₀

theorem State.emit_parts (s : State) (x : Sent) : onlyParts [.sent] s (State.emit s x) := by
  unfold State.emit
  try dsimp (proj := false) only
  repeat' (first | simp (disch := decide) only [↓onlyParts.self, ↓with_sent] | with_reducible (refine onlyParts.fold ?_ _ ?_) | with_reducible (refine onlyParts.foldSnd ?_ _ ?_) | (refine onlyParts.snd (by assumption) ?_) | split | (intro (_ : State) _; try dsimp (proj := false) only) | (intro (_ : _ × State) _; try dsimp (proj := false) only))
theorem State.emit_keeps {L₀ : List Part} {s₀ : State} (s : State) (x : Sent) (h₀ : [(.sent : Part)].all (L₀.contains ·) = true) : onlyParts L₀ s₀ (State.emit s x) ↔ onlyParts L₀ s₀ s :=
  onlyParts.step (State.emit_parts s x) h₀

theorem State.sendOut_parts (s : State) (p : Nat) (b : Bytes) (good : Bool) : onlyParts [.regs, .sent, .bw] s (State.sendOut s p b good) := by
  unfold State.sendOut
  try dsimp (proj := false) only
  repeat' (first | simp (disch := decide) only [↓onlyParts.self, ↓State.add64_keeps, ↓State.bwCount_keeps, ↓State.emit_keeps, ↓with_bw, ↓with_regs, ↓with_sent] | with_reducible (refine onlyParts.fold ?_ _ ?_) | with_reducible (refine onlyParts.foldSnd ?_ _ ?_) | (refine onlyParts.snd (by assumption) ?_) | split | (intro (_ : State) _; try dsimp (proj := false) only) | (intro (_ : _ × State) _; try dsimp (proj := false) only))
theorem State.sendOut_keeps {L₀ : List Part} {s₀ : State} (s : State) (p : Nat) (b : Bytes) (good : Bool) (h₀ : [(.regs : Part), (.sent : Part), (.bw : Part)].all (L₀.contains ·) = true) : onlyParts L₀ s₀ (State.sendOut s p b good) ↔ onlyParts L₀ s₀ s :=
  onlyParts.step (State.sendOut_parts s p b good) h₀

theorem State.macSend_parts (s : State) (p : Nat) (b : Bytes) (good : Bool) : onlyParts [.regs, .free, .sent, .bw, .sc] s (State.macSend s p b good) := by
  unfold State.macSend State.macOut
  try dsimp (proj := false) only
  repeat' (first | simp (disch := decide) only [↓onlyParts.self, ↓State.dropDisabled_keeps, ↓State.macReceive_keeps, ↓State.sendOut_keeps, ↓with_bw, ↓with_free, ↓with_regs, ↓with_sc, ↓with_sent] | with_reducible (refine onlyParts.fold ?_ _ ?_) | with_reducible (refine onlyParts.foldSnd ?_ _ ?_) | (refine onlyParts.snd (by assumption) ?_) | split | (intro (_ : State) _; try dsimp (proj := false) only) | (intro (_ : _ × State) _; try dsimp (proj := false) only))
theorem State.macSend_keeps {L₀ : List Part} {s₀ : State} (s : State) (p : Nat) (b : Bytes) (good : Bool) (h₀ : [(.regs : Part), (.free : Part), (.sent : Part), (.bw : Part), (.sc : Part)].all (L₀.contains ·) = true) : onlyParts L₀ s₀ (State.macSend s p b good) ↔ onlyParts L₀ s₀ s :=
  onlyParts.step (State.macSend_parts s p b good) h₀

theorem State.slowFrame_parts (s : State) (b : Bytes) : onlyParts [.free] s (State.slowFrame s b).2 := by
  unfold State.slowFrame
  try dsimp (proj := false) only
  repeat' (first | simp (disch := decide) only [↓onlyParts.self, ↓State.draw_keeps, ↓with_free] | with_reducible (refine onlyParts.fold ?_ _ ?_) | with_reducible (refine onlyParts.foldSnd ?_ _ ?_) | (refine onlyParts.snd (by assumption) ?_) | split | (intro (_ : State) _; try dsimp (proj := false) only) | (intro (_ : _ × State) _; try dsimp (proj := false) only))
theorem State.slowFrame_keeps {L₀ : List Part} {s₀ : State} (s : State) (b : Bytes) (h₀ : [(.free : Part)].all (L₀.contains ·) = true) : onlyParts L₀ s₀ (State.slowFrame s b).2 ↔ onlyParts L₀ s₀ s :=
  onlyParts.step (State.slowFrame_parts s b) h₀

theorem State.slowSend_parts (s : State) (p : Nat) (b : Bytes) : onlyParts [.regs, .free, .sent, .bw, .sc] s (State.slowSend s p b) := by
  unfold State.slowSend
  try dsimp (proj := false) only
  repeat' (first | simp (disch := decide) only [↓onlyParts.self, ↓State.macSend_keeps, ↓State.slowFrame_keeps, ↓with_bw, ↓with_free, ↓with_regs, ↓with_sc, ↓with_sent] | with_reducible (refine onlyParts.fold ?_ _ ?_) | with_reducible (refine onlyParts.foldSnd ?_ _ ?_) | (refine onlyParts.snd (by assumption) ?_) | split | (intro (_ : State) _; try dsimp (proj := false) only) | (intro (_ : _ × State) _; try dsimp (proj := false) only))
theorem State.slowSend_keeps {L₀ : List Part} {s₀ : State} (s : State) (p : Nat) (b : Bytes) (h₀ : [(.regs : Part), (.free : Part), (.sent : Part), (.bw : Part), (.sc : Part)].all (L₀.contains ·) = true) : onlyParts L₀ s₀ (State.slowSend s p b) ↔ onlyParts L₀ s₀ s :=
  onlyParts.step (State.slowSend_parts s p b) h₀

theorem State.lacpNow_parts (s : State) (p : Nat) : onlyParts [.regs, .free, .sent, .bw, .sc, .tw] s (State.lacpNow s p) := by
  unfold State.lacpNow
  try dsimp (proj := false) only
  repeat' (first | simp (disch := decide) only [↓onlyParts.self, ↓State.slowSend_keeps, ↓with_bw, ↓with_free, ↓with_regs, ↓with_sc, ↓with_sent, ↓with_tw] | with_reducible (refine onlyParts.fold ?_ _ ?_) | with_reducible (refine onlyParts.foldSnd ?_ _ ?_) | (refine onlyParts.snd (by assumption) ?_) | split | (intro (_ : State) _; try dsimp (proj := false) only) | (intro (_ : _ × State) _; try dsimp (proj := false) only))
theorem State.lacpNow_keeps {L₀ : List Part} {s₀ : State} (s : State) (p : Nat) (h₀ : [(.regs : Part), (.free : Part), (.sent : Part), (.bw : Part), (.sc : Part), (.tw : Part)].all (L₀.contains ·) = true) : onlyParts L₀ s₀ (State.lacpNow s p) ↔ onlyParts L₀ s₀ s :=
  onlyParts.step (State.lacpNow_parts s p) h₀

theorem State.lacpCatchUp_parts (s : State) : onlyParts [.regs, .free, .sent, .bw, .sc, .tw] s (State.lacpCatchUp s) := by
  unfold State.lacpCatchUp
  try dsimp (proj := false) only
  repeat' (first | simp (disch := decide) only [↓onlyParts.self, ↓State.lacpNow_keeps, ↓with_bw, ↓with_free, ↓with_regs, ↓with_sc, ↓with_sent, ↓with_tw] | with_reducible (refine onlyParts.fold ?_ _ ?_) | with_reducible (refine onlyParts.foldSnd ?_ _ ?_) | (refine onlyParts.snd (by assumption) ?_) | split | (intro (_ : State) _; try dsimp (proj := false) only) | (intro (_ : _ × State) _; try dsimp (proj := false) only))
theorem State.lacpCatchUp_keeps {L₀ : List Part} {s₀ : State} (s : State) (h₀ : [(.regs : Part), (.free : Part), (.sent : Part), (.bw : Part), (.sc : Part), (.tw : Part)].all (L₀.contains ·) = true) : onlyParts L₀ s₀ (State.lacpCatchUp s) ↔ onlyParts L₀ s₀ s :=
  onlyParts.step (State.lacpCatchUp_parts s) h₀

theorem State.mpRestart_parts (s : State) (cause : Nat) : onlyParts [.regs, .free, .sent, .mp, .hl, .bw, .sc, .tw] s (State.mpRestart s cause) := by
  unfold State.mpRestart
  try dsimp (proj := false) only
  repeat' (first | simp (disch := decide) only [↓onlyParts.self, ↓State.inc_keeps, ↓State.lacpCatchUp_keeps, ↓State.set_keeps, ↓with_bw, ↓with_free, ↓with_hl, ↓with_mp, ↓with_mp_hl, ↓with_regs, ↓with_sc, ↓with_sent, ↓with_tw] | with_reducible (refine onlyParts.fold ?_ _ ?_) | with_reducible (refine onlyParts.foldSnd ?_ _ ?_) | (refine onlyParts.snd (by assumption) ?_) | split | (intro (_ : State) _; try dsimp (proj := false) only) | (intro (_ : _ × State) _; try dsimp (proj := false) only))
theorem State.mpRestart_keeps {L₀ : List Part} {s₀ : State} (s : State) (cause : Nat) (h₀ : [(.regs : Part), (.free : Part), (.sent : Part), (.mp : Part), (.hl : Part), (.bw : Part), (.sc : Part), (.tw : Part)].all (L₀.contains ·) = true) : onlyParts L₀ s₀ (State.mpRestart s cause) ↔ onlyParts L₀ s₀ s :=
  onlyParts.step (State.mpRestart_parts s cause) h₀

theorem State.mbDoorbell_parts (s : State) (m : Master) (n : Nat) : onlyParts [.regs, .mp] s (State.mbDoorbell s m n) := by
  unfold State.mbDoorbell
  try dsimp (proj := false) only
  repeat' (first | simp (disch := decide) only [↓onlyParts.self, ↓State.inc_keeps, ↓State.set_keeps, ↓with_mp, ↓with_regs] | with_reducible (refine onlyParts.fold ?_ _ ?_) | with_reducible (refine onlyParts.foldSnd ?_ _ ?_) | (refine onlyParts.snd (by assumption) ?_) | split | (intro (_ : State) _; try dsimp (proj := false) only) | (intro (_ : _ × State) _; try dsimp (proj := false) only))
theorem State.mbDoorbell_keeps {L₀ : List Part} {s₀ : State} (s : State) (m : Master) (n : Nat) (h₀ : [(.regs : Part), (.mp : Part)].all (L₀.contains ·) = true) : onlyParts L₀ s₀ (State.mbDoorbell s m n) ↔ onlyParts L₀ s₀ s :=
  onlyParts.step (State.mbDoorbell_parts s m n) h₀

theorem State.mbLeave_parts (s : State) (n : Nat) : onlyParts [.mp] s (State.mbLeave s n) := by
  unfold State.mbLeave
  try dsimp (proj := false) only
  repeat' (first | simp (disch := decide) only [↓onlyParts.self, ↓with_mp] | with_reducible (refine onlyParts.fold ?_ _ ?_) | with_reducible (refine onlyParts.foldSnd ?_ _ ?_) | (refine onlyParts.snd (by assumption) ?_) | split | (intro (_ : State) _; try dsimp (proj := false) only) | (intro (_ : _ × State) _; try dsimp (proj := false) only))
theorem State.mbLeave_keeps {L₀ : List Part} {s₀ : State} (s : State) (n : Nat) (h₀ : [(.mp : Part)].all (L₀.contains ·) = true) : onlyParts L₀ s₀ (State.mbLeave s n) ↔ onlyParts L₀ s₀ s :=
  onlyParts.step (State.mbLeave_parts s n) h₀

theorem State.mbToIdle_parts (s : State) (n : Nat) : onlyParts [.regs, .mp] s (State.mbToIdle s n) := by
  unfold State.mbToIdle
  try dsimp (proj := false) only
  repeat' (first | simp (disch := decide) only [↓onlyParts.self, ↓State.mbLeave_keeps, ↓State.ownerApply_keeps, ↓State.set_keeps, ↓with_mp, ↓with_regs] | with_reducible (refine onlyParts.fold ?_ _ ?_) | with_reducible (refine onlyParts.foldSnd ?_ _ ?_) | (refine onlyParts.snd (by assumption) ?_) | split | (intro (_ : State) _; try dsimp (proj := false) only) | (intro (_ : _ × State) _; try dsimp (proj := false) only))
theorem State.mbToIdle_keeps {L₀ : List Part} {s₀ : State} (s : State) (n : Nat) (h₀ : [(.regs : Part), (.mp : Part)].all (L₀.contains ·) = true) : onlyParts L₀ s₀ (State.mbToIdle s n) ↔ onlyParts L₀ s₀ s :=
  onlyParts.step (State.mbToIdle_parts s n) h₀

theorem State.mbAckIt_parts (s : State) (m : Master) (n : Nat) : onlyParts [.regs, .mp] s (State.mbAckIt s m n) := by
  unfold State.mbAckIt
  try dsimp (proj := false) only
  repeat' (first | simp (disch := decide) only [↓onlyParts.self, ↓State.mbToIdle_keeps, ↓with_mp, ↓with_regs] | with_reducible (refine onlyParts.fold ?_ _ ?_) | with_reducible (refine onlyParts.foldSnd ?_ _ ?_) | (refine onlyParts.snd (by assumption) ?_) | split | (intro (_ : State) _; try dsimp (proj := false) only) | (intro (_ : _ × State) _; try dsimp (proj := false) only))
theorem State.mbAckIt_keeps {L₀ : List Part} {s₀ : State} (s : State) (m : Master) (n : Nat) (h₀ : [(.regs : Part), (.mp : Part)].all (L₀.contains ·) = true) : onlyParts L₀ s₀ (State.mbAckIt s m n) ↔ onlyParts L₀ s₀ s :=
  onlyParts.step (State.mbAckIt_parts s m n) h₀

theorem State.writeSys_parts (s : State) (m : Master) (p : Place) (gw : Bool) (v : Word) : onlyParts [.pending, .variant, .regs, .pend, .clk, .free, .sent, .tb, .power, .host, .ownerNext, .mbox, .mp, .hl, .bw, .lane, .port, .sc, .pr, .ft, .txts, .frozen, .taq, .time, .chan, .smp, .esmc, .ou, .tdc, .evIn, .evGrp, .tw, .px, .ptp, .tod, .retain, .fu, .unit, .treadRead] s (State.writeSys s m p gw v) := fun p hp => absurd (by cases p <;> decide) hp
theorem State.writeSys_keeps {L₀ : List Part} {s₀ : State} (s : State) (m : Master) (p : Place) (gw : Bool) (v : Word) (h₀ : [(.pending : Part), (.variant : Part), (.regs : Part), (.pend : Part), (.clk : Part), (.free : Part), (.sent : Part), (.tb : Part), (.power : Part), (.host : Part), (.ownerNext : Part), (.mbox : Part), (.mp : Part), (.hl : Part), (.bw : Part), (.lane : Part), (.port : Part), (.sc : Part), (.pr : Part), (.ft : Part), (.txts : Part), (.frozen : Part), (.taq : Part), (.time : Part), (.chan : Part), (.smp : Part), (.esmc : Part), (.ou : Part), (.tdc : Part), (.evIn : Part), (.evGrp : Part), (.tw : Part), (.px : Part), (.ptp : Part), (.tod : Part), (.retain : Part), (.fu : Part), (.unit : Part), (.treadRead : Part)].all (L₀.contains ·) = true) : onlyParts L₀ s₀ (State.writeSys s m p gw v) ↔ onlyParts L₀ s₀ s :=
  onlyParts.step (State.writeSys_parts s m p gw v) h₀

theorem State.pmSnap_parts (s : State) : onlyParts [.regs] s (State.pmSnap s) := by
  unfold State.pmSnap
  try dsimp (proj := false) only
  repeat' (first | simp (disch := decide) only [↓onlyParts.self, ↓State.wr64_keeps, ↓with_regs] | with_reducible (refine onlyParts.fold ?_ _ ?_) | with_reducible (refine onlyParts.foldSnd ?_ _ ?_) | (refine onlyParts.snd (by assumption) ?_) | split | (intro (_ : State) _; try dsimp (proj := false) only) | (intro (_ : _ × State) _; try dsimp (proj := false) only))
theorem State.pmSnap_keeps {L₀ : List Part} {s₀ : State} (s : State) (h₀ : [(.regs : Part)].all (L₀.contains ·) = true) : onlyParts L₀ s₀ (State.pmSnap s) ↔ onlyParts L₀ s₀ s :=
  onlyParts.step (State.pmSnap_parts s) h₀

theorem State.pmClear_parts (s : State) : onlyParts [.regs] s (State.pmClear s) := by
  unfold State.pmClear
  try dsimp (proj := false) only
  repeat' (first | simp (disch := decide) only [↓onlyParts.self, ↓State.wr_keeps, ↓State.wr64_keeps, ↓with_regs] | with_reducible (refine onlyParts.fold ?_ _ ?_) | with_reducible (refine onlyParts.foldSnd ?_ _ ?_) | (refine onlyParts.snd (by assumption) ?_) | split | (intro (_ : State) _; try dsimp (proj := false) only) | (intro (_ : _ × State) _; try dsimp (proj := false) only))
theorem State.pmClear_keeps {L₀ : List Part} {s₀ : State} (s : State) (h₀ : [(.regs : Part)].all (L₀.contains ·) = true) : onlyParts L₀ s₀ (State.pmClear s) ↔ onlyParts L₀ s₀ s :=
  onlyParts.step (State.pmClear_parts s) h₀

theorem State.writePm_parts (s : State) (p : Place) (v : Word) : onlyParts [.regs, .pend] s (State.writePm s p v) := by
  unfold State.writePm
  try dsimp (proj := false) only
  repeat' (first | simp (disch := decide) only [↓onlyParts.self, ↓State.plain_keeps, ↓State.pmClear_keeps, ↓State.pmSnap_keeps, ↓with_pend, ↓with_regs] | with_reducible (refine onlyParts.fold ?_ _ ?_) | with_reducible (refine onlyParts.foldSnd ?_ _ ?_) | (refine onlyParts.snd (by assumption) ?_) | split | (intro (_ : State) _; try dsimp (proj := false) only) | (intro (_ : _ × State) _; try dsimp (proj := false) only))
theorem State.writePm_keeps {L₀ : List Part} {s₀ : State} (s : State) (p : Place) (v : Word) (h₀ : [(.regs : Part), (.pend : Part)].all (L₀.contains ·) = true) : onlyParts L₀ s₀ (State.writePm s p v) ↔ onlyParts L₀ s₀ s :=
  onlyParts.step (State.writePm_parts s p v) h₀

theorem State.setLane_parts (s : State) (l : Nat) (x : Lane) : onlyParts [.lane] s (State.setLane s l x) := by
  unfold State.setLane
  try dsimp (proj := false) only
  repeat' (first | simp (disch := decide) only [↓onlyParts.self, ↓with_lane] | with_reducible (refine onlyParts.fold ?_ _ ?_) | with_reducible (refine onlyParts.foldSnd ?_ _ ?_) | (refine onlyParts.snd (by assumption) ?_) | split | (intro (_ : State) _; try dsimp (proj := false) only) | (intro (_ : _ × State) _; try dsimp (proj := false) only))
theorem State.setLane_keeps {L₀ : List Part} {s₀ : State} (s : State) (l : Nat) (x : Lane) (h₀ : [(.lane : Part)].all (L₀.contains ·) = true) : onlyParts L₀ s₀ (State.setLane s l x) ↔ onlyParts L₀ s₀ s :=
  onlyParts.step (State.setLane_parts s l x) h₀

theorem State.setBit2_parts (s : State) (lo hi n : Nat) : onlyParts [.regs] s (State.setBit2 s lo hi n) := by
  unfold State.setBit2
  try dsimp (proj := false) only
  repeat' (first | simp (disch := decide) only [↓onlyParts.self, ↓State.setBit_keeps, ↓with_regs] | with_reducible (refine onlyParts.fold ?_ _ ?_) | with_reducible (refine onlyParts.foldSnd ?_ _ ?_) | (refine onlyParts.snd (by assumption) ?_) | split | (intro (_ : State) _; try dsimp (proj := false) only) | (intro (_ : _ × State) _; try dsimp (proj := false) only))
theorem State.setBit2_keeps {L₀ : List Part} {s₀ : State} (s : State) (lo hi n : Nat) (h₀ : [(.regs : Part)].all (L₀.contains ·) = true) : onlyParts L₀ s₀ (State.setBit2 s lo hi n) ↔ onlyParts L₀ s₀ s :=
  onlyParts.step (State.setBit2_parts s lo hi n) h₀

theorem State.pxCause_parts (s : State) (l : Nat) (f : FRef) : onlyParts [.regs] s (State.pxCause s l f) := by
  unfold State.pxCause
  try dsimp (proj := false) only
  repeat' (first | simp (disch := decide) only [↓onlyParts.self, ↓State.raise_keeps, ↓State.setBit2_keeps, ↓with_regs] | with_reducible (refine onlyParts.fold ?_ _ ?_) | with_reducible (refine onlyParts.foldSnd ?_ _ ?_) | (refine onlyParts.snd (by assumption) ?_) | split | (intro (_ : State) _; try dsimp (proj := false) only) | (intro (_ : _ × State) _; try dsimp (proj := false) only))
theorem State.pxCause_keeps {L₀ : List Part} {s₀ : State} (s : State) (l : Nat) (f : FRef) (h₀ : [(.regs : Part)].all (L₀.contains ·) = true) : onlyParts L₀ s₀ (State.pxCause s l f) ↔ onlyParts L₀ s₀ s :=
  onlyParts.step (State.pxCause_parts s l f) h₀

theorem State.pxRef_parts (s : State) : onlyParts [.regs] s (State.pxRef s) := by
  unfold State.pxRef
  try dsimp (proj := false) only
  repeat' (first | simp (disch := decide) only [↓onlyParts.self, ↓State.setB_keeps, ↓with_regs] | with_reducible (refine onlyParts.fold ?_ _ ?_) | with_reducible (refine onlyParts.foldSnd ?_ _ ?_) | (refine onlyParts.snd (by assumption) ?_) | split | (intro (_ : State) _; try dsimp (proj := false) only) | (intro (_ : _ × State) _; try dsimp (proj := false) only))
theorem State.pxRef_keeps {L₀ : List Part} {s₀ : State} (s : State) (h₀ : [(.regs : Part)].all (L₀.contains ·) = true) : onlyParts L₀ s₀ (State.pxRef s) ↔ onlyParts L₀ s₀ s :=
  onlyParts.step (State.pxRef_parts s) h₀

theorem State.setLink_parts (s : State) (l : Nat) (x : Link) : onlyParts [.px] s (State.setLink s l x) := by
  unfold State.setLink
  try dsimp (proj := false) only
  repeat' (first | simp (disch := decide) only [↓onlyParts.self, ↓with_px] | with_reducible (refine onlyParts.fold ?_ _ ?_) | with_reducible (refine onlyParts.foldSnd ?_ _ ?_) | (refine onlyParts.snd (by assumption) ?_) | split | (intro (_ : State) _; try dsimp (proj := false) only) | (intro (_ : _ × State) _; try dsimp (proj := false) only))
theorem State.setLink_keeps {L₀ : List Part} {s₀ : State} (s : State) (l : Nat) (x : Link) (h₀ : [(.px : Part)].all (L₀.contains ·) = true) : onlyParts L₀ s₀ (State.setLink s l x) ↔ onlyParts L₀ s₀ s :=
  onlyParts.step (State.setLink_parts s l x) h₀

theorem State.pairRestart_parts (s : State) (l : Nat) : onlyParts [.regs, .px] s (State.pairRestart s l) := by
  unfold State.pairRestart
  try dsimp (proj := false) only
  repeat' (first | simp (disch := decide) only [↓onlyParts.self, ↓State.raise_keeps, ↓State.setLink_keeps, ↓with_px, ↓with_regs] | with_reducible (refine onlyParts.fold ?_ _ ?_) | with_reducible (refine onlyParts.foldSnd ?_ _ ?_) | (refine onlyParts.snd (by assumption) ?_) | split | (intro (_ : State) _; try dsimp (proj := false) only) | (intro (_ : _ × State) _; try dsimp (proj := false) only))
theorem State.pairRestart_keeps {L₀ : List Part} {s₀ : State} (s : State) (l : Nat) (h₀ : [(.regs : Part), (.px : Part)].all (L₀.contains ·) = true) : onlyParts L₀ s₀ (State.pairRestart s l) ↔ onlyParts L₀ s₀ s :=
  onlyParts.step (State.pairRestart_parts s l) h₀

theorem State.setMb_parts (s : State) (n : Nat) (m : Mbox) : onlyParts [.mbox] s (State.setMb s n m) := by
  unfold State.setMb
  try dsimp (proj := false) only
  repeat' (first | simp (disch := decide) only [↓onlyParts.self, ↓with_mbox] | with_reducible (refine onlyParts.fold ?_ _ ?_) | with_reducible (refine onlyParts.foldSnd ?_ _ ?_) | (refine onlyParts.snd (by assumption) ?_) | split | (intro (_ : State) _; try dsimp (proj := false) only) | (intro (_ : _ × State) _; try dsimp (proj := false) only))
theorem State.setMb_keeps {L₀ : List Part} {s₀ : State} (s : State) (n : Nat) (m : Mbox) (h₀ : [(.mbox : Part)].all (L₀.contains ·) = true) : onlyParts L₀ s₀ (State.setMb s n m) ↔ onlyParts L₀ s₀ s :=
  onlyParts.step (State.setMb_parts s n m) h₀

theorem State.mbAnswerRaw_parts (s : State) (n : Nat) (r : MbReq) (payload : Bytes) : onlyParts [.regs, .mbox, .mp] s (State.mbAnswerRaw s n r payload) := by
  unfold State.mbAnswerRaw
  try dsimp (proj := false) only
  repeat' (first | simp (disch := decide) only [↓onlyParts.self, ↓State.mbLeave_keeps, ↓State.mbToIdle_keeps, ↓State.set_keeps, ↓State.setBit_keeps, ↓State.setMb_keeps, ↓State.wrs_keeps, ↓with_mbox, ↓with_mp, ↓with_regs] | with_reducible (refine onlyParts.fold ?_ _ ?_) | with_reducible (refine onlyParts.foldSnd ?_ _ ?_) | (refine onlyParts.snd (by assumption) ?_) | split | (intro (_ : State) _; try dsimp (proj := false) only) | (intro (_ : _ × State) _; try dsimp (proj := false) only))
theorem State.mbAnswerRaw_keeps {L₀ : List Part} {s₀ : State} (s : State) (n : Nat) (r : MbReq) (payload : Bytes) (h₀ : [(.regs : Part), (.mbox : Part), (.mp : Part)].all (L₀.contains ·) = true) : onlyParts L₀ s₀ (State.mbAnswerRaw s n r payload) ↔ onlyParts L₀ s₀ s :=
  onlyParts.step (State.mbAnswerRaw_parts s n r payload) h₀

theorem State.mbAnswer_parts (s : State) (n : Nat) (r : MbReq) (status detail value : Nat) (data : Bytes) : onlyParts [.regs, .mbox, .mp] s (State.mbAnswer s n r status detail value data) := by
  unfold State.mbAnswer
  try dsimp (proj := false) only
  repeat' (first | simp (disch := decide) only [↓onlyParts.self, ↓State.mbAnswerRaw_keeps, ↓State.setMb_keeps, ↓with_mbox, ↓with_mp, ↓with_regs] | with_reducible (refine onlyParts.fold ?_ _ ?_) | with_reducible (refine onlyParts.foldSnd ?_ _ ?_) | (refine onlyParts.snd (by assumption) ?_) | split | (intro (_ : State) _; try dsimp (proj := false) only) | (intro (_ : _ × State) _; try dsimp (proj := false) only))
theorem State.mbAnswer_keeps {L₀ : List Part} {s₀ : State} (s : State) (n : Nat) (r : MbReq) (status detail value : Nat) (data : Bytes) (h₀ : [(.regs : Part), (.mbox : Part), (.mp : Part)].all (L₀.contains ·) = true) : onlyParts L₀ s₀ (State.mbAnswer s n r status detail value data) ↔ onlyParts L₀ s₀ s :=
  onlyParts.step (State.mbAnswer_parts s n r status detail value data) h₀

theorem State.mbReject_parts (s : State) (n : Nat) (r : MbReq) (reason : Nat) : onlyParts [.regs, .mbox, .mp] s (State.mbReject s n r reason) := by
  unfold State.mbReject
  try dsimp (proj := false) only
  repeat' (first | simp (disch := decide) only [↓onlyParts.self, ↓State.mbAnswer_keeps, ↓with_mbox, ↓with_mp, ↓with_regs] | with_reducible (refine onlyParts.fold ?_ _ ?_) | with_reducible (refine onlyParts.foldSnd ?_ _ ?_) | (refine onlyParts.snd (by assumption) ?_) | split | (intro (_ : State) _; try dsimp (proj := false) only) | (intro (_ : _ × State) _; try dsimp (proj := false) only))
theorem State.mbReject_keeps {L₀ : List Part} {s₀ : State} (s : State) (n : Nat) (r : MbReq) (reason : Nat) (h₀ : [(.regs : Part), (.mbox : Part), (.mp : Part)].all (L₀.contains ·) = true) : onlyParts L₀ s₀ (State.mbReject s n r reason) ↔ onlyParts L₀ s₀ s :=
  onlyParts.step (State.mbReject_parts s n r reason) h₀

theorem State.mbAnswerWaiting_parts (s : State) (p : MbReq → Bool) (a : Nat ⊕ Bytes) : onlyParts [.regs, .mbox, .mp] s (State.mbAnswerWaiting s p a) := by
  unfold State.mbAnswerWaiting
  try dsimp (proj := false) only
  repeat' (first | simp (disch := decide) only [↓onlyParts.self, ↓State.mbAnswer_keeps, ↓State.mbReject_keeps, ↓with_mbox, ↓with_mp, ↓with_regs] | with_reducible (refine onlyParts.fold ?_ _ ?_) | with_reducible (refine onlyParts.foldSnd ?_ _ ?_) | (refine onlyParts.snd (by assumption) ?_) | split | (intro (_ : State) _; try dsimp (proj := false) only) | (intro (_ : _ × State) _; try dsimp (proj := false) only))
theorem State.mbAnswerWaiting_keeps {L₀ : List Part} {s₀ : State} (s : State) (p : MbReq → Bool) (a : Nat ⊕ Bytes) (h₀ : [(.regs : Part), (.mbox : Part), (.mp : Part)].all (L₀.contains ·) = true) : onlyParts L₀ s₀ (State.mbAnswerWaiting s p a) ↔ onlyParts L₀ s₀ s :=
  onlyParts.step (State.mbAnswerWaiting_parts s p a) h₀

theorem State.linkEnter_parts (s : State) (l st : Nat) : onlyParts [.regs, .mbox, .mp, .px] s (State.linkEnter s l st) := by
  unfold State.linkEnter
  try dsimp (proj := false) only
  repeat' (first | simp (disch := decide) only [↓onlyParts.self, ↓State.mbAnswerWaiting_keeps, ↓State.pairRestart_keeps, ↓State.pxCause_keeps, ↓State.pxRef_keeps, ↓State.set_keeps, ↓State.setLink_keeps, ↓with_mbox, ↓with_mp, ↓with_px, ↓with_regs] | with_reducible (refine onlyParts.fold ?_ _ ?_) | with_reducible (refine onlyParts.foldSnd ?_ _ ?_) | (refine onlyParts.snd (by assumption) ?_) | split | (intro (_ : State) _; try dsimp (proj := false) only) | (intro (_ : _ × State) _; try dsimp (proj := false) only))
theorem State.linkEnter_keeps {L₀ : List Part} {s₀ : State} (s : State) (l st : Nat) (h₀ : [(.regs : Part), (.mbox : Part), (.mp : Part), (.px : Part)].all (L₀.contains ·) = true) : onlyParts L₀ s₀ (State.linkEnter s l st) ↔ onlyParts L₀ s₀ s :=
  onlyParts.step (State.linkEnter_parts s l st) h₀

theorem State.linkWait_parts (s : State) (l : Nat) : onlyParts [.regs, .mbox, .mp, .px] s (State.linkWait s l) := by
  unfold State.linkWait
  try dsimp (proj := false) only
  repeat' (first | simp (disch := decide) only [↓onlyParts.self, ↓State.linkEnter_keeps, ↓State.raise_keeps, ↓State.setLink_keeps, ↓with_mbox, ↓with_mp, ↓with_px, ↓with_regs] | with_reducible (refine onlyParts.fold ?_ _ ?_) | with_reducible (refine onlyParts.foldSnd ?_ _ ?_) | (refine onlyParts.snd (by assumption) ?_) | split | (intro (_ : State) _; try dsimp (proj := false) only) | (intro (_ : _ × State) _; try dsimp (proj := false) only))
theorem State.linkWait_keeps {L₀ : List Part} {s₀ : State} (s : State) (l : Nat) (h₀ : [(.regs : Part), (.mbox : Part), (.mp : Part), (.px : Part)].all (L₀.contains ·) = true) : onlyParts L₀ s₀ (State.linkWait s l) ↔ onlyParts L₀ s₀ s :=
  onlyParts.step (State.linkWait_parts s l) h₀

theorem State.linkClockLost_parts (s : State) (l : Nat) : onlyParts [.regs, .mbox, .mp, .px] s (State.linkClockLost s l) := by
  unfold State.linkClockLost
  try dsimp (proj := false) only
  repeat' (first | simp (disch := decide) only [↓onlyParts.self, ↓State.linkWait_keeps, ↓with_mbox, ↓with_mp, ↓with_px, ↓with_regs] | with_reducible (refine onlyParts.fold ?_ _ ?_) | with_reducible (refine onlyParts.foldSnd ?_ _ ?_) | (refine onlyParts.snd (by assumption) ?_) | split | (intro (_ : State) _; try dsimp (proj := false) only) | (intro (_ : _ × State) _; try dsimp (proj := false) only))
theorem State.linkClockLost_keeps {L₀ : List Part} {s₀ : State} (s : State) (l : Nat) (h₀ : [(.regs : Part), (.mbox : Part), (.mp : Part), (.px : Part)].all (L₀.contains ·) = true) : onlyParts L₀ s₀ (State.linkClockLost s l) ↔ onlyParts L₀ s₀ s :=
  onlyParts.step (State.linkClockLost_parts s l) h₀

theorem State.setChan_parts (s : State) (c : Nat) (k : Chan) : onlyParts [.chan] s (State.setChan s c k) := by
  unfold State.setChan
  try dsimp (proj := false) only
  repeat' (first | simp (disch := decide) only [↓onlyParts.self, ↓with_chan] | with_reducible (refine onlyParts.fold ?_ _ ?_) | with_reducible (refine onlyParts.foldSnd ?_ _ ?_) | (refine onlyParts.snd (by assumption) ?_) | split | (intro (_ : State) _; try dsimp (proj := false) only) | (intro (_ : _ × State) _; try dsimp (proj := false) only))
theorem State.setChan_keeps {L₀ : List Part} {s₀ : State} (s : State) (c : Nat) (k : Chan) (h₀ : [(.chan : Part)].all (L₀.contains ·) = true) : onlyParts L₀ s₀ (State.setChan s c k) ↔ onlyParts L₀ s₀ s :=
  onlyParts.step (State.setChan_parts s c k) h₀

theorem State.probDiscard_parts (s : State) (c : Nat) : onlyParts [.chan] s (State.probDiscard s c) := by
  unfold State.probDiscard
  try dsimp (proj := false) only
  repeat' (first | simp (disch := decide) only [↓onlyParts.self, ↓State.setChan_keeps, ↓with_chan] | with_reducible (refine onlyParts.fold ?_ _ ?_) | with_reducible (refine onlyParts.foldSnd ?_ _ ?_) | (refine onlyParts.snd (by assumption) ?_) | split | (intro (_ : State) _; try dsimp (proj := false) only) | (intro (_ : _ × State) _; try dsimp (proj := false) only))
theorem State.probDiscard_keeps {L₀ : List Part} {s₀ : State} (s : State) (c : Nat) (h₀ : [(.chan : Part)].all (L₀.contains ·) = true) : onlyParts L₀ s₀ (State.probDiscard s c) ↔ onlyParts L₀ s₀ s :=
  onlyParts.step (State.probDiscard_parts s c) h₀

theorem State.selStatus_parts (s : State) (c old st : Nat) : onlyParts [.regs, .chan] s (State.selStatus s c old st) := by
  unfold State.selStatus
  try dsimp (proj := false) only
  repeat' (first | simp (disch := decide) only [↓onlyParts.self, ↓State.inc_keeps, ↓State.probDiscard_keeps, ↓State.raise_keeps, ↓State.setChan_keeps, ↓with_chan, ↓with_regs] | with_reducible (refine onlyParts.fold ?_ _ ?_) | with_reducible (refine onlyParts.foldSnd ?_ _ ?_) | (refine onlyParts.snd (by assumption) ?_) | split | (intro (_ : State) _; try dsimp (proj := false) only) | (intro (_ : _ × State) _; try dsimp (proj := false) only))
theorem State.selStatus_keeps {L₀ : List Part} {s₀ : State} (s : State) (c old st : Nat) (h₀ : [(.regs : Part), (.chan : Part)].all (L₀.contains ·) = true) : onlyParts L₀ s₀ (State.selStatus s c old st) ↔ onlyParts L₀ s₀ s :=
  onlyParts.step (State.selStatus_parts s c old st) h₀

theorem State.setStatus_parts (s : State) (c r st : Nat) : onlyParts [.regs, .chan] s (State.setStatus s c r st) := by
  unfold State.setStatus
  try dsimp (proj := false) only
  repeat' (first | simp (disch := decide) only [↓onlyParts.self, ↓State.raise_keeps, ↓State.selStatus_keeps, ↓State.set_keeps, ↓State.setChan_keeps, ↓with_chan, ↓with_regs] | with_reducible (refine onlyParts.fold ?_ _ ?_) | with_reducible (refine onlyParts.foldSnd ?_ _ ?_) | (refine onlyParts.snd (by assumption) ?_) | split | (intro (_ : State) _; try dsimp (proj := false) only) | (intro (_ : _ × State) _; try dsimp (proj := false) only))
theorem State.setStatus_keeps {L₀ : List Part} {s₀ : State} (s : State) (c r st : Nat) (h₀ : [(.regs : Part), (.chan : Part)].all (L₀.contains ·) = true) : onlyParts L₀ s₀ (State.setStatus s c r st) ↔ onlyParts L₀ s₀ s :=
  onlyParts.step (State.setStatus_parts s c r st) h₀

theorem State.refLoss_parts (s : State) (r : Nat) : onlyParts [.regs, .time, .chan] s (State.refLoss s r) := by
  unfold State.refLoss
  try dsimp (proj := false) only
  repeat' (first | simp (disch := decide) only [↓onlyParts.self, ↓State.set_keeps, ↓State.setStatus_keeps, ↓with_chan, ↓with_regs, ↓with_time] | with_reducible (refine onlyParts.fold ?_ _ ?_) | with_reducible (refine onlyParts.foldSnd ?_ _ ?_) | (refine onlyParts.snd (by assumption) ?_) | split | (intro (_ : State) _; try dsimp (proj := false) only) | (intro (_ : _ × State) _; try dsimp (proj := false) only))
theorem State.refLoss_keeps {L₀ : List Part} {s₀ : State} (s : State) (r : Nat) (h₀ : [(.regs : Part), (.time : Part), (.chan : Part)].all (L₀.contains ·) = true) : onlyParts L₀ s₀ (State.refLoss s r) ↔ onlyParts L₀ s₀ s :=
  onlyParts.step (State.refLoss_parts s r) h₀

theorem State.calLost_parts (s : State) (l : Nat) : onlyParts [.regs] s (State.calLost s l) := by
  unfold State.calLost
  try dsimp (proj := false) only
  repeat' (first | simp (disch := decide) only [↓onlyParts.self, ↓State.raise_keeps, ↓State.set_keeps, ↓with_regs] | with_reducible (refine onlyParts.fold ?_ _ ?_) | with_reducible (refine onlyParts.foldSnd ?_ _ ?_) | (refine onlyParts.snd (by assumption) ?_) | split | (intro (_ : State) _; try dsimp (proj := false) only) | (intro (_ : _ × State) _; try dsimp (proj := false) only))
theorem State.calLost_keeps {L₀ : List Part} {s₀ : State} (s : State) (l : Nat) (h₀ : [(.regs : Part)].all (L₀.contains ·) = true) : onlyParts L₀ s₀ (State.calLost s l) ↔ onlyParts L₀ s₀ s :=
  onlyParts.step (State.calLost_parts s l) h₀

theorem State.laneClk_parts (s : State) (l : Nat) : onlyParts [.regs, .mbox, .mp, .time, .chan, .px] s (State.laneClk s l) := by
  unfold State.laneClk
  try dsimp (proj := false) only
  repeat' (first | simp (disch := decide) only [↓onlyParts.self, ↓State.calLost_keeps, ↓State.linkClockLost_keeps, ↓State.linkWait_keeps, ↓State.refLoss_keeps, ↓State.setB_keeps, ↓with_chan, ↓with_mbox, ↓with_mp, ↓with_px, ↓with_regs, ↓with_time] | with_reducible (refine onlyParts.fold ?_ _ ?_) | with_reducible (refine onlyParts.foldSnd ?_ _ ?_) | (refine onlyParts.snd (by assumption) ?_) | split | (intro (_ : State) _; try dsimp (proj := false) only) | (intro (_ : _ × State) _; try dsimp (proj := false) only))
theorem State.laneClk_keeps {L₀ : List Part} {s₀ : State} (s : State) (l : Nat) (h₀ : [(.regs : Part), (.mbox : Part), (.mp : Part), (.time : Part), (.chan : Part), (.px : Part)].all (L₀.contains ·) = true) : onlyParts L₀ s₀ (State.laneClk s l) ↔ onlyParts L₀ s₀ s :=
  onlyParts.step (State.laneClk_parts s l) h₀

theorem State.lnCalBegin_parts (s : State) (l : Nat) : onlyParts [.regs, .mbox, .mp, .lane, .time, .chan, .px] s (State.lnCalBegin s l) := by
  unfold State.lnCalBegin
  try dsimp (proj := false) only
  repeat' (first | simp (disch := decide) only [↓onlyParts.self, ↓State.laneClk_keeps, ↓State.raise_keeps, ↓State.setLane_keeps, ↓with_chan, ↓with_lane, ↓with_mbox, ↓with_mp, ↓with_px, ↓with_regs, ↓with_time] | with_reducible (refine onlyParts.fold ?_ _ ?_) | with_reducible (refine onlyParts.foldSnd ?_ _ ?_) | (refine onlyParts.snd (by assumption) ?_) | split | (intro (_ : State) _; try dsimp (proj := false) only) | (intro (_ : _ × State) _; try dsimp (proj := false) only))
theorem State.lnCalBegin_keeps {L₀ : List Part} {s₀ : State} (s : State) (l : Nat) (h₀ : [(.regs : Part), (.mbox : Part), (.mp : Part), (.lane : Part), (.time : Part), (.chan : Part), (.px : Part)].all (L₀.contains ·) = true) : onlyParts L₀ s₀ (State.lnCalBegin s l) ↔ onlyParts L₀ s₀ s :=
  onlyParts.step (State.lnCalBegin_parts s l) h₀

theorem State.writeLn_parts (s : State) (p : Place) (v : Word) : onlyParts [.regs, .pend, .mbox, .mp, .lane, .time, .chan, .px] s (State.writeLn s p v) := by
  unfold State.writeLn
  try dsimp (proj := false) only
  repeat' (first | simp (disch := decide) only [↓onlyParts.self, ↓State.lnCalBegin_keeps, ↓State.plain_keeps, ↓State.setLane_keeps, ↓with_chan, ↓with_lane, ↓with_mbox, ↓with_mp, ↓with_pend, ↓with_px, ↓with_regs, ↓with_time] | with_reducible (refine onlyParts.fold ?_ _ ?_) | with_reducible (refine onlyParts.foldSnd ?_ _ ?_) | (refine onlyParts.snd (by assumption) ?_) | split | (intro (_ : State) _; try dsimp (proj := false) only) | (intro (_ : _ × State) _; try dsimp (proj := false) only))
theorem State.writeLn_keeps {L₀ : List Part} {s₀ : State} (s : State) (p : Place) (v : Word) (h₀ : [(.regs : Part), (.pend : Part), (.mbox : Part), (.mp : Part), (.lane : Part), (.time : Part), (.chan : Part), (.px : Part)].all (L₀.contains ·) = true) : onlyParts L₀ s₀ (State.writeLn s p v) ↔ onlyParts L₀ s₀ s :=
  onlyParts.step (State.writeLn_parts s p v) h₀

theorem State.bankDrop_parts (s : State) : onlyParts [.regs] s (State.bankDrop s) := by
  unfold State.bankDrop
  try dsimp (proj := false) only
  repeat' (first | simp (disch := decide) only [↓onlyParts.self, ↓State.inc_keeps, ↓State.raise_keeps, ↓with_regs] | with_reducible (refine onlyParts.fold ?_ _ ?_) | with_reducible (refine onlyParts.foldSnd ?_ _ ?_) | (refine onlyParts.snd (by assumption) ?_) | split | (intro (_ : State) _; try dsimp (proj := false) only) | (intro (_ : _ × State) _; try dsimp (proj := false) only))
theorem State.bankDrop_keeps {L₀ : List Part} {s₀ : State} (s : State) (h₀ : [(.regs : Part)].all (L₀.contains ·) = true) : onlyParts L₀ s₀ (State.bankDrop s) ↔ onlyParts L₀ s₀ s :=
  onlyParts.step (State.bankDrop_parts s) h₀

theorem State.prSwap_parts (s : State) (v : Word) : onlyParts [.pr] s (State.prSwap s v) := by
  unfold State.prSwap
  try dsimp (proj := false) only
  repeat' (first | simp (disch := decide) only [↓onlyParts.self, ↓with_pr] | with_reducible (refine onlyParts.fold ?_ _ ?_) | with_reducible (refine onlyParts.foldSnd ?_ _ ?_) | (refine onlyParts.snd (by assumption) ?_) | split | (intro (_ : State) _; try dsimp (proj := false) only) | (intro (_ : _ × State) _; try dsimp (proj := false) only))
theorem State.prSwap_keeps {L₀ : List Part} {s₀ : State} (s : State) (v : Word) (h₀ : [(.pr : Part)].all (L₀.contains ·) = true) : onlyParts L₀ s₀ (State.prSwap s v) ↔ onlyParts L₀ s₀ s :=
  onlyParts.step (State.prSwap_parts s v) h₀

theorem State.writePr_parts (s : State) (p : Place) (v : Word) : onlyParts [.regs, .pend, .pr] s (State.writePr s p v) := by
  unfold State.writePr
  try dsimp (proj := false) only
  repeat' (first | simp (disch := decide) only [↓onlyParts.self, ↓State.bankDrop_keeps, ↓State.plain_keeps, ↓State.prSwap_keeps, ↓with_pend, ↓with_pr, ↓with_regs] | with_reducible (refine onlyParts.fold ?_ _ ?_) | with_reducible (refine onlyParts.foldSnd ?_ _ ?_) | (refine onlyParts.snd (by assumption) ?_) | split | (intro (_ : State) _; try dsimp (proj := false) only) | (intro (_ : _ × State) _; try dsimp (proj := false) only))
theorem State.writePr_keeps {L₀ : List Part} {s₀ : State} (s : State) (p : Place) (v : Word) (h₀ : [(.regs : Part), (.pend : Part), (.pr : Part)].all (L₀.contains ·) = true) : onlyParts L₀ s₀ (State.writePr s p v) ↔ onlyParts L₀ s₀ s :=
  onlyParts.step (State.writePr_parts s p v) h₀

theorem State.epochAdvance_parts (s : State) : onlyParts [.regs] s (State.epochAdvance s).2 := by
  unfold State.epochAdvance
  try dsimp (proj := false) only
  repeat' (first | simp (disch := decide) only [↓onlyParts.self, ↓State.raise_keeps, ↓State.set_keeps, ↓with_regs] | with_reducible (refine onlyParts.fold ?_ _ ?_) | with_reducible (refine onlyParts.foldSnd ?_ _ ?_) | (refine onlyParts.snd (by assumption) ?_) | split | (intro (_ : State) _; try dsimp (proj := false) only) | (intro (_ : _ × State) _; try dsimp (proj := false) only))
theorem State.epochAdvance_keeps {L₀ : List Part} {s₀ : State} (s : State) (h₀ : [(.regs : Part)].all (L₀.contains ·) = true) : onlyParts L₀ s₀ (State.epochAdvance s).2 ↔ onlyParts L₀ s₀ s :=
  onlyParts.step (State.epochAdvance_parts s) h₀

theorem State.ringIdle_parts (s : State) (k : Ring) : onlyParts [.regs] s (State.ringIdle s k) := by
  unfold State.ringIdle
  try dsimp (proj := false) only
  repeat' (first | simp (disch := decide) only [↓onlyParts.self, ↓State.setB_keeps, ↓with_regs] | with_reducible (refine onlyParts.fold ?_ _ ?_) | with_reducible (refine onlyParts.foldSnd ?_ _ ?_) | (refine onlyParts.snd (by assumption) ?_) | split | (intro (_ : State) _; try dsimp (proj := false) only) | (intro (_ : _ × State) _; try dsimp (proj := false) only))
theorem State.ringIdle_keeps {L₀ : List Part} {s₀ : State} (s : State) (k : Ring) (h₀ : [(.regs : Part)].all (L₀.contains ·) = true) : onlyParts L₀ s₀ (State.ringIdle s k) ↔ onlyParts L₀ s₀ s :=
  onlyParts.step (State.ringIdle_parts s k) h₀

theorem State.setEnt_parts (s : State) (t i : Nat) (e : Ent) : onlyParts [.regs, .ft] s (State.setEnt s t i e) := by
  unfold State.setEnt
  try dsimp (proj := false) only
  repeat' (first | simp (disch := decide) only [↓onlyParts.self, ↓State.set_keeps, ↓with_ft, ↓with_regs] | with_reducible (refine onlyParts.fold ?_ _ ?_) | with_reducible (refine onlyParts.foldSnd ?_ _ ?_) | (refine onlyParts.snd (by assumption) ?_) | split | (intro (_ : State) _; try dsimp (proj := false) only) | (intro (_ : _ × State) _; try dsimp (proj := false) only))
theorem State.setEnt_keeps {L₀ : List Part} {s₀ : State} (s : State) (t i : Nat) (e : Ent) (h₀ : [(.regs : Part), (.ft : Part)].all (L₀.contains ·) = true) : onlyParts L₀ s₀ (State.setEnt s t i e) ↔ onlyParts L₀ s₀ s :=
  onlyParts.step (State.setEnt_parts s t i e) h₀

theorem State.doDestRefresh_parts (s : State) (v : LearnEv) : onlyParts [.regs, .ft] s (State.doDestRefresh s v) := by
  unfold State.doDestRefresh
  try dsimp (proj := false) only
  repeat' (first | simp (disch := decide) only [↓onlyParts.self, ↓State.setEnt_keeps, ↓with_ft, ↓with_regs] | with_reducible (refine onlyParts.fold ?_ _ ?_) | with_reducible (refine onlyParts.foldSnd ?_ _ ?_) | (refine onlyParts.snd (by assumption) ?_) | split | (intro (_ : State) _; try dsimp (proj := false) only) | (intro (_ : _ × State) _; try dsimp (proj := false) only))
theorem State.doDestRefresh_keeps {L₀ : List Part} {s₀ : State} (s : State) (v : LearnEv) (h₀ : [(.regs : Part), (.ft : Part)].all (L₀.contains ·) = true) : onlyParts L₀ s₀ (State.doDestRefresh s v) ↔ onlyParts L₀ s₀ s :=
  onlyParts.step (State.doDestRefresh_parts s v) h₀

theorem State.delta_parts (s : State) (fid mac : Nat) (e : Ent) : onlyParts [.regs, .ft] s (State.delta s fid mac e) := by
  unfold State.delta
  try dsimp (proj := false) only
  repeat' (first | simp (disch := decide) only [↓onlyParts.self, ↓State.raise_keeps, ↓with_ft, ↓with_regs] | with_reducible (refine onlyParts.fold ?_ _ ?_) | with_reducible (refine onlyParts.foldSnd ?_ _ ?_) | (refine onlyParts.snd (by assumption) ?_) | split | (intro (_ : State) _; try dsimp (proj := false) only) | (intro (_ : _ × State) _; try dsimp (proj := false) only))
theorem State.delta_keeps {L₀ : List Part} {s₀ : State} (s : State) (fid mac : Nat) (e : Ent) (h₀ : [(.regs : Part), (.ft : Part)].all (L₀.contains ·) = true) : onlyParts L₀ s₀ (State.delta s fid mac e) ↔ onlyParts L₀ s₀ s :=
  onlyParts.step (State.delta_parts s fid mac e) h₀

theorem State.station_parts (s : State) (loc ident : Nat) : onlyParts [.regs, .ft] s (State.station s loc ident) := by
  unfold State.station
  try dsimp (proj := false) only
  repeat' (first | simp (disch := decide) only [↓onlyParts.self, ↓State.delta_keeps, ↓State.inc_keeps, ↓State.setEnt_keeps, ↓with_ft, ↓with_regs] | with_reducible (refine onlyParts.fold ?_ _ ?_) | with_reducible (refine onlyParts.foldSnd ?_ _ ?_) | (refine onlyParts.snd (by assumption) ?_) | split | (intro (_ : State) _; try dsimp (proj := false) only) | (intro (_ : _ × State) _; try dsimp (proj := false) only))
theorem State.station_keeps {L₀ : List Part} {s₀ : State} (s : State) (loc ident : Nat) (h₀ : [(.regs : Part), (.ft : Part)].all (L₀.contains ·) = true) : onlyParts L₀ s₀ (State.station s loc ident) ↔ onlyParts L₀ s₀ s :=
  onlyParts.step (State.station_parts s loc ident) h₀

theorem State.doRefresh_parts (s : State) (v : LearnEv) : onlyParts [.regs, .ft] s (State.doRefresh s v) := by
  unfold State.doRefresh
  try dsimp (proj := false) only
  repeat' (first | simp (disch := decide) only [↓onlyParts.self, ↓State.setEnt_keeps, ↓with_ft, ↓with_regs] | with_reducible (refine onlyParts.fold ?_ _ ?_) | with_reducible (refine onlyParts.foldSnd ?_ _ ?_) | (refine onlyParts.snd (by assumption) ?_) | split | (intro (_ : State) _; try dsimp (proj := false) only) | (intro (_ : _ × State) _; try dsimp (proj := false) only))
theorem State.doRefresh_keeps {L₀ : List Part} {s₀ : State} (s : State) (v : LearnEv) (h₀ : [(.regs : Part), (.ft : Part)].all (L₀.contains ·) = true) : onlyParts L₀ s₀ (State.doRefresh s v) ↔ onlyParts L₀ s₀ s :=
  onlyParts.step (State.doRefresh_parts s v) h₀

theorem State.swapStart_parts (s : State) (pos : Nat) : onlyParts [.regs, .sc] s (State.swapStart s pos) := by
  unfold State.swapStart
  try dsimp (proj := false) only
  repeat' (first | simp (disch := decide) only [↓onlyParts.self, ↓State.set_keeps, ↓with_regs, ↓with_sc] | with_reducible (refine onlyParts.fold ?_ _ ?_) | with_reducible (refine onlyParts.foldSnd ?_ _ ?_) | (refine onlyParts.snd (by assumption) ?_) | split | (intro (_ : State) _; try dsimp (proj := false) only) | (intro (_ : _ × State) _; try dsimp (proj := false) only))
theorem State.swapStart_keeps {L₀ : List Part} {s₀ : State} (s : State) (pos : Nat) (h₀ : [(.regs : Part), (.sc : Part)].all (L₀.contains ·) = true) : onlyParts L₀ s₀ (State.swapStart s pos) ↔ onlyParts L₀ s₀ s :=
  onlyParts.step (State.swapStart_parts s pos) h₀

theorem State.writeSc_parts (s : State) (p : Place) (gw : Bool) (v : Word) : onlyParts [.regs, .pend, .sc] s (State.writeSc s p gw v) := by
  unfold State.writeSc State.writeRing
  try dsimp (proj := false) only
  repeat' (first | simp (disch := decide) only [↓onlyParts.self, ↓State.plain_keeps, ↓State.ringIdle_keeps, ↓State.set_keeps, ↓State.store_keeps, ↓State.swapStart_keeps, ↓with_pend, ↓with_regs, ↓with_sc] | with_reducible (refine onlyParts.fold ?_ _ ?_) | with_reducible (refine onlyParts.foldSnd ?_ _ ?_) | (refine onlyParts.snd (by assumption) ?_) | split | (intro (_ : State) _; try dsimp (proj := false) only) | (intro (_ : _ × State) _; try dsimp (proj := false) only))
theorem State.writeSc_keeps {L₀ : List Part} {s₀ : State} (s : State) (p : Place) (gw : Bool) (v : Word) (h₀ : [(.regs : Part), (.pend : Part), (.sc : Part)].all (L₀.contains ·) = true) : onlyParts L₀ s₀ (State.writeSc s p gw v) ↔ onlyParts L₀ s₀ s :=
  onlyParts.step (State.writeSc_parts s p gw v) h₀

theorem State.groupDone_parts (s : State) (tag : Nat) : onlyParts [.regs, .taq] s (State.groupDone s tag) := by
  unfold State.groupDone
  try dsimp (proj := false) only
  repeat' (first | simp (disch := decide) only [↓onlyParts.self, ↓State.raise_keeps, ↓State.set_keeps, ↓State.setB_keeps, ↓with_regs, ↓with_taq] | with_reducible (refine onlyParts.fold ?_ _ ?_) | with_reducible (refine onlyParts.foldSnd ?_ _ ?_) | (refine onlyParts.snd (by assumption) ?_) | split | (intro (_ : State) _; try dsimp (proj := false) only) | (intro (_ : _ × State) _; try dsimp (proj := false) only))
theorem State.groupDone_keeps {L₀ : List Part} {s₀ : State} (s : State) (tag : Nat) (h₀ : [(.regs : Part), (.taq : Part)].all (L₀.contains ·) = true) : onlyParts L₀ s₀ (State.groupDone s tag) ↔ onlyParts L₀ s₀ s :=
  onlyParts.step (State.groupDone_parts s tag) h₀

theorem State.taqLeave_parts (s : State) (i st : Nat) : onlyParts [.regs, .taq] s (State.taqLeave s i st) := by
  unfold State.taqLeave
  try dsimp (proj := false) only
  repeat' (first | simp (disch := decide) only [↓onlyParts.self, ↓State.set_keeps, ↓State.setBit_keeps, ↓with_regs, ↓with_taq] | with_reducible (refine onlyParts.fold ?_ _ ?_) | with_reducible (refine onlyParts.foldSnd ?_ _ ?_) | (refine onlyParts.snd (by assumption) ?_) | split | (intro (_ : State) _; try dsimp (proj := false) only) | (intro (_ : _ × State) _; try dsimp (proj := false) only))
theorem State.taqLeave_keeps {L₀ : List Part} {s₀ : State} (s : State) (i st : Nat) (h₀ : [(.regs : Part), (.taq : Part)].all (L₀.contains ·) = true) : onlyParts L₀ s₀ (State.taqLeave s i st) ↔ onlyParts L₀ s₀ s :=
  onlyParts.step (State.taqLeave_parts s i st) h₀

theorem State.taqCancel_parts (s : State) (i : Nat) : onlyParts [.regs, .taq] s (State.taqCancel s i) := by
  unfold State.taqCancel
  try dsimp (proj := false) only
  repeat' (first | simp (disch := decide) only [↓onlyParts.self, ↓State.groupDone_keeps, ↓State.taqLeave_keeps, ↓with_regs, ↓with_taq] | with_reducible (refine onlyParts.fold ?_ _ ?_) | with_reducible (refine onlyParts.foldSnd ?_ _ ?_) | (refine onlyParts.snd (by assumption) ?_) | split | (intro (_ : State) _; try dsimp (proj := false) only) | (intro (_ : _ × State) _; try dsimp (proj := false) only))
theorem State.taqCancel_keeps {L₀ : List Part} {s₀ : State} (s : State) (i : Nat) (h₀ : [(.regs : Part), (.taq : Part)].all (L₀.contains ·) = true) : onlyParts L₀ s₀ (State.taqCancel s i) ↔ onlyParts L₀ s₀ s :=
  onlyParts.step (State.taqCancel_parts s i) h₀

theorem State.taqCancelGroup_parts (s : State) (tag : Nat) : onlyParts [.regs, .taq] s (State.taqCancelGroup s tag) := by
  unfold State.taqCancelGroup
  try dsimp (proj := false) only
  repeat' (first | simp (disch := decide) only [↓onlyParts.self, ↓State.groupDone_keeps, ↓State.taqLeave_keeps, ↓with_regs, ↓with_taq] | with_reducible (refine onlyParts.fold ?_ _ ?_) | with_reducible (refine onlyParts.foldSnd ?_ _ ?_) | (refine onlyParts.snd (by assumption) ?_) | split | (intro (_ : State) _; try dsimp (proj := false) only) | (intro (_ : _ × State) _; try dsimp (proj := false) only))
theorem State.taqCancelGroup_keeps {L₀ : List Part} {s₀ : State} (s : State) (tag : Nat) (h₀ : [(.regs : Part), (.taq : Part)].all (L₀.contains ·) = true) : onlyParts L₀ s₀ (State.taqCancelGroup s tag) ↔ onlyParts L₀ s₀ s :=
  onlyParts.step (State.taqCancelGroup_parts s tag) h₀

theorem State.taqDrop_parts (s : State) (i st : Nat) : onlyParts [.regs, .taq] s (State.taqDrop s i st) := by
  unfold State.taqDrop
  try dsimp (proj := false) only
  repeat' (first | simp (disch := decide) only [↓onlyParts.self, ↓State.groupDone_keeps, ↓State.raise_keeps, ↓State.taqLeave_keeps, ↓with_regs, ↓with_taq] | with_reducible (refine onlyParts.fold ?_ _ ?_) | with_reducible (refine onlyParts.foldSnd ?_ _ ?_) | (refine onlyParts.snd (by assumption) ?_) | split | (intro (_ : State) _; try dsimp (proj := false) only) | (intro (_ : _ × State) _; try dsimp (proj := false) only))
theorem State.taqDrop_keeps {L₀ : List Part} {s₀ : State} (s : State) (i st : Nat) (h₀ : [(.regs : Part), (.taq : Part)].all (L₀.contains ·) = true) : onlyParts L₀ s₀ (State.taqDrop s i st) ↔ onlyParts L₀ s₀ s :=
  onlyParts.step (State.taqDrop_parts s i st) h₀

theorem State.taqDue_parts (s : State) (i : Nat) : onlyParts [.regs, .taq] s (State.taqDue s i) := by
  unfold State.taqDue
  try dsimp (proj := false) only
  repeat' (first | simp (disch := decide) only [↓onlyParts.self, ↓State.taqDrop_keeps, ↓with_regs, ↓with_taq] | with_reducible (refine onlyParts.fold ?_ _ ?_) | with_reducible (refine onlyParts.foldSnd ?_ _ ?_) | (refine onlyParts.snd (by assumption) ?_) | split | (intro (_ : State) _; try dsimp (proj := false) only) | (intro (_ : _ × State) _; try dsimp (proj := false) only))
theorem State.taqDue_keeps {L₀ : List Part} {s₀ : State} (s : State) (i : Nat) (h₀ : [(.regs : Part), (.taq : Part)].all (L₀.contains ·) = true) : onlyParts L₀ s₀ (State.taqDue s i) ↔ onlyParts L₀ s₀ s :=
  onlyParts.step (State.taqDue_parts s i) h₀

theorem State.taqArm_parts (s : State) (m : Master) (i : Nat) (guarded : Bool) : onlyParts [.regs, .taq] s (State.taqArm s m i guarded) := by
  unfold State.taqArm
  try dsimp (proj := false) only
  repeat' (first | simp (disch := decide) only [↓onlyParts.self, ↓State.set_keeps, ↓State.taqDrop_keeps, ↓State.taqDue_keeps, ↓State.wr_keeps, ↓with_regs, ↓with_taq] | with_reducible (refine onlyParts.fold ?_ _ ?_) | with_reducible (refine onlyParts.foldSnd ?_ _ ?_) | (refine onlyParts.snd (by assumption) ?_) | split | (intro (_ : State) _; try dsimp (proj := false) only) | (intro (_ : _ × State) _; try dsimp (proj := false) only))
theorem State.taqArm_keeps {L₀ : List Part} {s₀ : State} (s : State) (m : Master) (i : Nat) (guarded : Bool) (h₀ : [(.regs : Part), (.taq : Part)].all (L₀.contains ·) = true) : onlyParts L₀ s₀ (State.taqArm s m i guarded) ↔ onlyParts L₀ s₀ s :=
  onlyParts.step (State.taqArm_parts s m i guarded) h₀

theorem State.writeGt_parts (s : State) (m : Master) (p : Place) (gw : Bool) (v : Word) : onlyParts [.regs, .pend, .taq] s (State.writeGt s m p gw v) := by
  unfold State.writeGt
  try dsimp (proj := false) only
  repeat' (first | simp (disch := decide) only [↓onlyParts.self, ↓State.inc_keeps, ↓State.plain_keeps, ↓State.raise_keeps, ↓State.taqArm_keeps, ↓State.taqCancel_keeps, ↓State.taqCancelGroup_keeps, ↓with_pend, ↓with_regs, ↓with_taq] | with_reducible (refine onlyParts.fold ?_ _ ?_) | with_reducible (refine onlyParts.foldSnd ?_ _ ?_) | (refine onlyParts.snd (by assumption) ?_) | split | (intro (_ : State) _; try dsimp (proj := false) only) | (intro (_ : _ × State) _; try dsimp (proj := false) only))
theorem State.writeGt_keeps {L₀ : List Part} {s₀ : State} (s : State) (m : Master) (p : Place) (gw : Bool) (v : Word) (h₀ : [(.regs : Part), (.pend : Part), (.taq : Part)].all (L₀.contains ·) = true) : onlyParts L₀ s₀ (State.writeGt s m p gw v) ↔ onlyParts L₀ s₀ s :=
  onlyParts.step (State.writeGt_parts s m p gw v) h₀

theorem State.incrNext_parts (s : State) (v : Nat) : onlyParts [.time] s (State.incrNext s v) := by
  unfold State.incrNext
  try dsimp (proj := false) only
  repeat' (first | simp (disch := decide) only [↓onlyParts.self, ↓with_time] | with_reducible (refine onlyParts.fold ?_ _ ?_) | with_reducible (refine onlyParts.foldSnd ?_ _ ?_) | (refine onlyParts.snd (by assumption) ?_) | split | (intro (_ : State) _; try dsimp (proj := false) only) | (intro (_ : _ × State) _; try dsimp (proj := false) only))
theorem State.incrNext_keeps {L₀ : List Part} {s₀ : State} (s : State) (v : Nat) (h₀ : [(.time : Part)].all (L₀.contains ·) = true) : onlyParts L₀ s₀ (State.incrNext s v) ↔ onlyParts L₀ s₀ s :=
  onlyParts.step (State.incrNext_parts s v) h₀

theorem State.incrCommit_parts (s : State) (m : Master) (v : Word) : onlyParts [.regs, .time] s (State.incrCommit s m v) := by
  unfold State.incrCommit
  try dsimp (proj := false) only
  repeat' (first | simp (disch := decide) only [↓onlyParts.self, ↓State.capture_keeps, ↓State.incrNext_keeps, ↓State.raise_keeps, ↓with_regs, ↓with_time] | with_reducible (refine onlyParts.fold ?_ _ ?_) | with_reducible (refine onlyParts.foldSnd ?_ _ ?_) | (refine onlyParts.snd (by assumption) ?_) | split | (intro (_ : State) _; try dsimp (proj := false) only) | (intro (_ : _ × State) _; try dsimp (proj := false) only))
theorem State.incrCommit_keeps {L₀ : List Part} {s₀ : State} (s : State) (m : Master) (v : Word) (h₀ : [(.regs : Part), (.time : Part)].all (L₀.contains ·) = true) : onlyParts L₀ s₀ (State.incrCommit s m v) ↔ onlyParts L₀ s₀ s :=
  onlyParts.step (State.incrCommit_parts s m v) h₀

theorem State.stepNext_parts (s : State) (d : Int) : onlyParts [.time] s (State.stepNext s d) := by
  unfold State.stepNext
  try dsimp (proj := false) only
  repeat' (first | simp (disch := decide) only [↓onlyParts.self, ↓with_time] | with_reducible (refine onlyParts.fold ?_ _ ?_) | with_reducible (refine onlyParts.foldSnd ?_ _ ?_) | (refine onlyParts.snd (by assumption) ?_) | split | (intro (_ : State) _; try dsimp (proj := false) only) | (intro (_ : _ × State) _; try dsimp (proj := false) only))
theorem State.stepNext_keeps {L₀ : List Part} {s₀ : State} (s : State) (d : Int) (h₀ : [(.time : Part)].all (L₀.contains ·) = true) : onlyParts L₀ s₀ (State.stepNext s d) ↔ onlyParts L₀ s₀ s :=
  onlyParts.step (State.stepNext_parts s d) h₀

theorem State.stepGo_parts (s : State) (v : Word) : onlyParts [.regs, .time] s (State.stepGo s v) := by
  unfold State.stepGo
  try dsimp (proj := false) only
  repeat' (first | simp (disch := decide) only [↓onlyParts.self, ↓State.raise_keeps, ↓State.stepNext_keeps, ↓with_regs, ↓with_time] | with_reducible (refine onlyParts.fold ?_ _ ?_) | with_reducible (refine onlyParts.foldSnd ?_ _ ?_) | (refine onlyParts.snd (by assumption) ?_) | split | (intro (_ : State) _; try dsimp (proj := false) only) | (intro (_ : _ × State) _; try dsimp (proj := false) only))
theorem State.stepGo_keeps {L₀ : List Part} {s₀ : State} (s : State) (v : Word) (h₀ : [(.regs : Part), (.time : Part)].all (L₀.contains ·) = true) : onlyParts L₀ s₀ (State.stepGo s v) ↔ onlyParts L₀ s₀ s :=
  onlyParts.step (State.stepGo_parts s v) h₀

theorem State.incrStage_parts (s : State) (v : Word) : onlyParts [.time] s (State.incrStage s v) := by
  unfold State.incrStage
  try dsimp (proj := false) only
  repeat' (first | simp (disch := decide) only [↓onlyParts.self, ↓with_time] | with_reducible (refine onlyParts.fold ?_ _ ?_) | with_reducible (refine onlyParts.foldSnd ?_ _ ?_) | (refine onlyParts.snd (by assumption) ?_) | split | (intro (_ : State) _; try dsimp (proj := false) only) | (intro (_ : _ × State) _; try dsimp (proj := false) only))
theorem State.incrStage_keeps {L₀ : List Part} {s₀ : State} (s : State) (v : Word) (h₀ : [(.time : Part)].all (L₀.contains ·) = true) : onlyParts L₀ s₀ (State.incrStage s v) ↔ onlyParts L₀ s₀ s :=
  onlyParts.step (State.incrStage_parts s v) h₀

theorem State.suspectClear_parts (s : State) : onlyParts [.regs] s (State.suspectClear s) := by
  unfold State.suspectClear
  try dsimp (proj := false) only
  repeat' (first | simp (disch := decide) only [↓onlyParts.self, ↓State.raise_keeps, ↓State.set_keeps, ↓with_regs] | with_reducible (refine onlyParts.fold ?_ _ ?_) | with_reducible (refine onlyParts.foldSnd ?_ _ ?_) | (refine onlyParts.snd (by assumption) ?_) | split | (intro (_ : State) _; try dsimp (proj := false) only) | (intro (_ : _ × State) _; try dsimp (proj := false) only))
theorem State.suspectClear_keeps {L₀ : List Part} {s₀ : State} (s : State) (h₀ : [(.regs : Part)].all (L₀.contains ·) = true) : onlyParts L₀ s₀ (State.suspectClear s) ↔ onlyParts L₀ s₀ s :=
  onlyParts.step (State.suspectClear_parts s) h₀

theorem State.suspectClrWrite_parts (s : State) (v : Word) : onlyParts [.regs] s (State.suspectClrWrite s v) := by
  unfold State.suspectClrWrite
  try dsimp (proj := false) only
  repeat' (first | simp (disch := decide) only [↓onlyParts.self, ↓State.suspectClear_keeps, ↓with_regs] | with_reducible (refine onlyParts.fold ?_ _ ?_) | with_reducible (refine onlyParts.foldSnd ?_ _ ?_) | (refine onlyParts.snd (by assumption) ?_) | split | (intro (_ : State) _; try dsimp (proj := false) only) | (intro (_ : _ × State) _; try dsimp (proj := false) only))
theorem State.suspectClrWrite_keeps {L₀ : List Part} {s₀ : State} (s : State) (v : Word) (h₀ : [(.regs : Part)].all (L₀.contains ·) = true) : onlyParts L₀ s₀ (State.suspectClrWrite s v) ↔ onlyParts L₀ s₀ s :=
  onlyParts.step (State.suspectClrWrite_parts s v) h₀

theorem State.snapWrite_parts (s : State) (m : Master) : onlyParts [.time] s (State.snapWrite s m) := by
  unfold State.snapWrite
  try dsimp (proj := false) only
  repeat' (first | simp (disch := decide) only [↓onlyParts.self, ↓with_time] | with_reducible (refine onlyParts.fold ?_ _ ?_) | with_reducible (refine onlyParts.foldSnd ?_ _ ?_) | (refine onlyParts.snd (by assumption) ?_) | split | (intro (_ : State) _; try dsimp (proj := false) only) | (intro (_ : _ × State) _; try dsimp (proj := false) only))
theorem State.snapWrite_keeps {L₀ : List Part} {s₀ : State} (s : State) (m : Master) (h₀ : [(.time : Part)].all (L₀.contains ·) = true) : onlyParts L₀ s₀ (State.snapWrite s m) ↔ onlyParts L₀ s₀ s :=
  onlyParts.step (State.snapWrite_parts s m) h₀

theorem State.txtsOwnerChange_parts (s : State) (p : Nat) : onlyParts [.txts] s (State.txtsOwnerChange s p) := by
  unfold State.txtsOwnerChange
  try dsimp (proj := false) only
  repeat' (first | simp (disch := decide) only [↓onlyParts.self, ↓with_txts] | with_reducible (refine onlyParts.fold ?_ _ ?_) | with_reducible (refine onlyParts.foldSnd ?_ _ ?_) | (refine onlyParts.snd (by assumption) ?_) | split | (intro (_ : State) _; try dsimp (proj := false) only) | (intro (_ : _ × State) _; try dsimp (proj := false) only))
theorem State.txtsOwnerChange_keeps {L₀ : List Part} {s₀ : State} (s : State) (p : Nat) (h₀ : [(.txts : Part)].all (L₀.contains ·) = true) : onlyParts L₀ s₀ (State.txtsOwnerChange s p) ↔ onlyParts L₀ s₀ s :=
  onlyParts.step (State.txtsOwnerChange_parts s p) h₀

theorem State.writeTb_parts (s : State) (m : Master) (p : Place) (gw : Bool) (v : Word) : onlyParts [.regs, .pend, .txts, .time] s (State.writeTb s m p gw v) := by
  unfold State.writeTb
  try dsimp (proj := false) only
  repeat' (first | simp (disch := decide) only [↓onlyParts.self, ↓State.incrCommit_keeps, ↓State.incrStage_keeps, ↓State.plain_keeps, ↓State.snapWrite_keeps, ↓State.stepGo_keeps, ↓State.suspectClrWrite_keeps, ↓State.txtsOwnerChange_keeps, ↓with_pend, ↓with_regs, ↓with_time, ↓with_txts] | with_reducible (refine onlyParts.fold ?_ _ ?_) | with_reducible (refine onlyParts.foldSnd ?_ _ ?_) | (refine onlyParts.snd (by assumption) ?_) | split | (intro (_ : State) _; try dsimp (proj := false) only) | (intro (_ : _ × State) _; try dsimp (proj := false) only))
theorem State.writeTb_keeps {L₀ : List Part} {s₀ : State} (s : State) (m : Master) (p : Place) (gw : Bool) (v : Word) (h₀ : [(.regs : Part), (.pend : Part), (.txts : Part), (.time : Part)].all (L₀.contains ·) = true) : onlyParts L₀ s₀ (State.writeTb s m p gw v) ↔ onlyParts L₀ s₀ s :=
  onlyParts.step (State.writeTb_parts s m p gw v) h₀

theorem State.refRestart_parts (s : State) (c r : Nat) : onlyParts [.regs, .chan] s (State.refRestart s c r) := by
  unfold State.refRestart
  try dsimp (proj := false) only
  repeat' (first | simp (disch := decide) only [↓onlyParts.self, ↓State.setStatus_keeps, ↓with_chan, ↓with_regs] | with_reducible (refine onlyParts.fold ?_ _ ?_) | with_reducible (refine onlyParts.foldSnd ?_ _ ?_) | (refine onlyParts.snd (by assumption) ?_) | split | (intro (_ : State) _; try dsimp (proj := false) only) | (intro (_ : _ × State) _; try dsimp (proj := false) only))
theorem State.refRestart_keeps {L₀ : List Part} {s₀ : State} (s : State) (c r : Nat) (h₀ : [(.regs : Part), (.chan : Part)].all (L₀.contains ·) = true) : onlyParts L₀ s₀ (State.refRestart s c r) ↔ onlyParts L₀ s₀ s :=
  onlyParts.step (State.refRestart_parts s c r) h₀

theorem State.ouCause_parts (s : State) (o : Nat) (f : FRef) : onlyParts [.regs] s (State.ouCause s o f) := by
  unfold State.ouCause
  try dsimp (proj := false) only
  repeat' (first | simp (disch := decide) only [↓onlyParts.self, ↓State.raise_keeps, ↓State.setBit_keeps, ↓with_regs] | with_reducible (refine onlyParts.fold ?_ _ ?_) | with_reducible (refine onlyParts.foldSnd ?_ _ ?_) | (refine onlyParts.snd (by assumption) ?_) | split | (intro (_ : State) _; try dsimp (proj := false) only) | (intro (_ : _ × State) _; try dsimp (proj := false) only))
theorem State.ouCause_keeps {L₀ : List Part} {s₀ : State} (s : State) (o : Nat) (f : FRef) (h₀ : [(.regs : Part)].all (L₀.contains ·) = true) : onlyParts L₀ s₀ (State.ouCause s o f) ↔ onlyParts L₀ s₀ s :=
  onlyParts.step (State.ouCause_parts s o f) h₀

theorem State.outFollow_parts (s : State) (o : Nat) : onlyParts [.ou] s (State.outFollow s o) := by
  unfold State.outFollow
  try dsimp (proj := false) only
  repeat' (first | simp (disch := decide) only [↓onlyParts.self, ↓with_ou] | with_reducible (refine onlyParts.fold ?_ _ ?_) | with_reducible (refine onlyParts.foldSnd ?_ _ ?_) | (refine onlyParts.snd (by assumption) ?_) | split | (intro (_ : State) _; try dsimp (proj := false) only) | (intro (_ : _ × State) _; try dsimp (proj := false) only))
theorem State.outFollow_keeps {L₀ : List Part} {s₀ : State} (s : State) (o : Nat) (h₀ : [(.ou : Part)].all (L₀.contains ·) = true) : onlyParts L₀ s₀ (State.outFollow s o) ↔ onlyParts L₀ s₀ s :=
  onlyParts.step (State.outFollow_parts s o) h₀

theorem State.ouRefresh_parts (s : State) (o : Nat) : onlyParts [.regs, .ou] s (State.ouRefresh s o) := by
  unfold State.ouRefresh
  try dsimp (proj := false) only
  repeat' (first | simp (disch := decide) only [↓onlyParts.self, ↓State.ouCause_keeps, ↓State.outFollow_keeps, ↓State.setB_keeps, ↓with_ou, ↓with_regs] | with_reducible (refine onlyParts.fold ?_ _ ?_) | with_reducible (refine onlyParts.foldSnd ?_ _ ?_) | (refine onlyParts.snd (by assumption) ?_) | split | (intro (_ : State) _; try dsimp (proj := false) only) | (intro (_ : _ × State) _; try dsimp (proj := false) only))
theorem State.ouRefresh_keeps {L₀ : List Part} {s₀ : State} (s : State) (o : Nat) (h₀ : [(.regs : Part), (.ou : Part)].all (L₀.contains ·) = true) : onlyParts L₀ s₀ (State.ouRefresh s o) ↔ onlyParts L₀ s₀ s :=
  onlyParts.step (State.ouRefresh_parts s o) h₀

theorem State.ouRefreshAll_parts (s : State) : onlyParts [.regs, .ou] s (State.ouRefreshAll s) := by
  unfold State.ouRefreshAll
  try dsimp (proj := false) only
  repeat' (first | simp (disch := decide) only [↓onlyParts.self, ↓State.ouRefresh_keeps, ↓with_ou, ↓with_regs] | with_reducible (refine onlyParts.fold ?_ _ ?_) | with_reducible (refine onlyParts.foldSnd ?_ _ ?_) | (refine onlyParts.snd (by assumption) ?_) | split | (intro (_ : State) _; try dsimp (proj := false) only) | (intro (_ : _ × State) _; try dsimp (proj := false) only))
theorem State.ouRefreshAll_keeps {L₀ : List Part} {s₀ : State} (s : State) (h₀ : [(.regs : Part), (.ou : Part)].all (L₀.contains ·) = true) : onlyParts L₀ s₀ (State.ouRefreshAll s) ↔ onlyParts L₀ s₀ s :=
  onlyParts.step (State.ouRefreshAll_parts s) h₀

theorem State.tcRelease_parts (s : State) (c : Nat) : onlyParts [.regs, .chan] s (State.tcRelease s c) := by
  unfold State.tcRelease
  try dsimp (proj := false) only
  repeat' (first | simp (disch := decide) only [↓onlyParts.self, ↓State.set_keeps, ↓State.setChan_keeps, ↓with_chan, ↓with_regs] | with_reducible (refine onlyParts.fold ?_ _ ?_) | with_reducible (refine onlyParts.foldSnd ?_ _ ?_) | (refine onlyParts.snd (by assumption) ?_) | split | (intro (_ : State) _; try dsimp (proj := false) only) | (intro (_ : _ × State) _; try dsimp (proj := false) only))
theorem State.tcRelease_keeps {L₀ : List Part} {s₀ : State} (s : State) (c : Nat) (h₀ : [(.regs : Part), (.chan : Part)].all (L₀.contains ·) = true) : onlyParts L₀ s₀ (State.tcRelease s c) ↔ onlyParts L₀ s₀ s :=
  onlyParts.step (State.tcRelease_parts s c) h₀

theorem State.tcResetStart_parts (s : State) (c : Nat) : onlyParts [.regs, .chan, .ou] s (State.tcResetStart s c) := by
  unfold State.tcResetStart
  try dsimp (proj := false) only
  repeat' (first | simp (disch := decide) only [↓onlyParts.self, ↓State.ouRefreshAll_keeps, ↓State.refRestart_keeps, ↓State.set_keeps, ↓State.setChan_keeps, ↓State.tcRelease_keeps, ↓with_chan, ↓with_ou, ↓with_regs] | with_reducible (refine onlyParts.fold ?_ _ ?_) | with_reducible (refine onlyParts.foldSnd ?_ _ ?_) | (refine onlyParts.snd (by assumption) ?_) | split | (intro (_ : State) _; try dsimp (proj := false) only) | (intro (_ : _ × State) _; try dsimp (proj := false) only))
theorem State.tcResetStart_keeps {L₀ : List Part} {s₀ : State} (s : State) (c : Nat) (h₀ : [(.regs : Part), (.chan : Part), (.ou : Part)].all (L₀.contains ·) = true) : onlyParts L₀ s₀ (State.tcResetStart s c) ↔ onlyParts L₀ s₀ s :=
  onlyParts.step (State.tcResetStart_parts s c) h₀

theorem State.leaseRenew_parts (s : State) : onlyParts [.regs] s (State.leaseRenew s) := by
  unfold State.leaseRenew
  try dsimp (proj := false) only
  repeat' (first | simp (disch := decide) only [↓onlyParts.self, ↓State.pxRef_keeps, ↓State.raise_keeps, ↓with_regs] | with_reducible (refine onlyParts.fold ?_ _ ?_) | with_reducible (refine onlyParts.foldSnd ?_ _ ?_) | (refine onlyParts.snd (by assumption) ?_) | split | (intro (_ : State) _; try dsimp (proj := false) only) | (intro (_ : _ × State) _; try dsimp (proj := false) only))
theorem State.leaseRenew_keeps {L₀ : List Part} {s₀ : State} (s : State) (h₀ : [(.regs : Part)].all (L₀.contains ·) = true) : onlyParts L₀ s₀ (State.leaseRenew s) ↔ onlyParts L₀ s₀ s :=
  onlyParts.step (State.leaseRenew_parts s) h₀

theorem State.ptpOfsLo_parts (s : State) (v : Word) : onlyParts [.smp] s (State.ptpOfsLo s v) := by
  unfold State.ptpOfsLo
  try dsimp (proj := false) only
  repeat' (first | simp (disch := decide) only [↓onlyParts.self, ↓with_smp] | with_reducible (refine onlyParts.fold ?_ _ ?_) | with_reducible (refine onlyParts.foldSnd ?_ _ ?_) | (refine onlyParts.snd (by assumption) ?_) | split | (intro (_ : State) _; try dsimp (proj := false) only) | (intro (_ : _ × State) _; try dsimp (proj := false) only))
theorem State.ptpOfsLo_keeps {L₀ : List Part} {s₀ : State} (s : State) (v : Word) (h₀ : [(.smp : Part)].all (L₀.contains ·) = true) : onlyParts L₀ s₀ (State.ptpOfsLo s v) ↔ onlyParts L₀ s₀ s :=
  onlyParts.step (State.ptpOfsLo_parts s v) h₀

theorem State.ptpOfsHi_parts (s : State) (v : Word) (since : Nat) : onlyParts [.smp] s (State.ptpOfsHi s v since) := by
  unfold State.ptpOfsHi
  try dsimp (proj := false) only
  repeat' (first | simp (disch := decide) only [↓onlyParts.self, ↓with_smp] | with_reducible (refine onlyParts.fold ?_ _ ?_) | with_reducible (refine onlyParts.foldSnd ?_ _ ?_) | (refine onlyParts.snd (by assumption) ?_) | split | (intro (_ : State) _; try dsimp (proj := false) only) | (intro (_ : _ × State) _; try dsimp (proj := false) only))
theorem State.ptpOfsHi_keeps {L₀ : List Part} {s₀ : State} (s : State) (v : Word) (since : Nat) (h₀ : [(.smp : Part)].all (L₀.contains ·) = true) : onlyParts L₀ s₀ (State.ptpOfsHi s v since) ↔ onlyParts L₀ s₀ s :=
  onlyParts.step (State.ptpOfsHi_parts s v since) h₀

theorem State.realignReq_parts (s : State) (v : Nat) : onlyParts [.regs, .ou] s (State.realignReq s v) := by
  unfold State.realignReq
  try dsimp (proj := false) only
  repeat' (first | simp (disch := decide) only [↓onlyParts.self, ↓State.raise_keeps, ↓with_ou, ↓with_regs] | with_reducible (refine onlyParts.fold ?_ _ ?_) | with_reducible (refine onlyParts.foldSnd ?_ _ ?_) | (refine onlyParts.snd (by assumption) ?_) | split | (intro (_ : State) _; try dsimp (proj := false) only) | (intro (_ : _ × State) _; try dsimp (proj := false) only))
theorem State.realignReq_keeps {L₀ : List Part} {s₀ : State} (s : State) (v : Nat) (h₀ : [(.regs : Part), (.ou : Part)].all (L₀.contains ·) = true) : onlyParts L₀ s₀ (State.realignReq s v) ↔ onlyParts L₀ s₀ s :=
  onlyParts.step (State.realignReq_parts s v) h₀

theorem State.grpWritten_parts (s : State) (g : Nat) : onlyParts [.regs, .evGrp] s (State.grpWritten s g) := by
  unfold State.grpWritten
  try dsimp (proj := false) only
  repeat' (first | simp (disch := decide) only [↓onlyParts.self, ↓State.setB_keeps, ↓State.setEvGrp_keeps, ↓with_evGrp, ↓with_regs] | with_reducible (refine onlyParts.fold ?_ _ ?_) | with_reducible (refine onlyParts.foldSnd ?_ _ ?_) | (refine onlyParts.snd (by assumption) ?_) | split | (intro (_ : State) _; try dsimp (proj := false) only) | (intro (_ : _ × State) _; try dsimp (proj := false) only))
theorem State.grpWritten_keeps {L₀ : List Part} {s₀ : State} (s : State) (g : Nat) (h₀ : [(.regs : Part), (.evGrp : Part)].all (L₀.contains ·) = true) : onlyParts L₀ s₀ (State.grpWritten s g) ↔ onlyParts L₀ s₀ s :=
  onlyParts.step (State.grpWritten_parts s g) h₀

theorem State.rampStop_parts (s : State) (v : Nat) : onlyParts [.chan] s (State.rampStop s v) := by
  unfold State.rampStop
  try dsimp (proj := false) only
  repeat' (first | simp (disch := decide) only [↓onlyParts.self, ↓State.setChan_keeps, ↓with_chan] | with_reducible (refine onlyParts.fold ?_ _ ?_) | with_reducible (refine onlyParts.foldSnd ?_ _ ?_) | (refine onlyParts.snd (by assumption) ?_) | split | (intro (_ : State) _; try dsimp (proj := false) only) | (intro (_ : _ × State) _; try dsimp (proj := false) only))
theorem State.rampStop_keeps {L₀ : List Part} {s₀ : State} (s : State) (v : Nat) (h₀ : [(.chan : Part)].all (L₀.contains ·) = true) : onlyParts L₀ s₀ (State.rampStop s v) ↔ onlyParts L₀ s₀ s :=
  onlyParts.step (State.rampStop_parts s v) h₀

theorem State.galPut_parts (s : State) (f : GalFrame) : onlyParts [.sent] s (State.galPut s f) := by
  unfold State.galPut
  try dsimp (proj := false) only
  repeat' (first | simp (disch := decide) only [↓onlyParts.self, ↓State.emit_keeps, ↓with_sent] | with_reducible (refine onlyParts.fold ?_ _ ?_) | with_reducible (refine onlyParts.foldSnd ?_ _ ?_) | (refine onlyParts.snd (by assumption) ?_) | split | (intro (_ : State) _; try dsimp (proj := false) only) | (intro (_ : _ × State) _; try dsimp (proj := false) only))
theorem State.galPut_keeps {L₀ : List Part} {s₀ : State} (s : State) (f : GalFrame) (h₀ : [(.sent : Part)].all (L₀.contains ·) = true) : onlyParts L₀ s₀ (State.galPut s f) ↔ onlyParts L₀ s₀ s :=
  onlyParts.step (State.galPut_parts s f) h₀

theorem State.galSend_parts (s : State) (b : GalBody) : onlyParts [.sent] s (State.galSend s b) := by
  unfold State.galSend
  try dsimp (proj := false) only
  repeat' (first | simp (disch := decide) only [↓onlyParts.self, ↓State.galPut_keeps, ↓with_sent] | with_reducible (refine onlyParts.fold ?_ _ ?_) | with_reducible (refine onlyParts.foldSnd ?_ _ ?_) | (refine onlyParts.snd (by assumption) ?_) | split | (intro (_ : State) _; try dsimp (proj := false) only) | (intro (_ : _ × State) _; try dsimp (proj := false) only))
theorem State.galSend_keeps {L₀ : List Part} {s₀ : State} (s : State) (b : GalBody) (h₀ : [(.sent : Part)].all (L₀.contains ·) = true) : onlyParts L₀ s₀ (State.galSend s b) ↔ onlyParts L₀ s₀ s :=
  onlyParts.step (State.galSend_parts s b) h₀

theorem State.twWith_parts (s : State) (f : Twin → Twin) : onlyParts [.tw] s (State.twWith s f) := by
  unfold State.twWith
  try dsimp (proj := false) only
  repeat' (first | simp (disch := decide) only [↓onlyParts.self, ↓with_tw] | with_reducible (refine onlyParts.fold ?_ _ ?_) | with_reducible (refine onlyParts.foldSnd ?_ _ ?_) | (refine onlyParts.snd (by assumption) ?_) | split | (intro (_ : State) _; try dsimp (proj := false) only) | (intro (_ : _ × State) _; try dsimp (proj := false) only))
theorem State.twWith_keeps {L₀ : List Part} {s₀ : State} (s : State) (f : Twin → Twin) (h₀ : [(.tw : Part)].all (L₀.contains ·) = true) : onlyParts L₀ s₀ (State.twWith s f) ↔ onlyParts L₀ s₀ s :=
  onlyParts.step (State.twWith_parts s f) h₀

theorem State.takeover_parts (s : State) (cause : Nat) : onlyParts [.sent, .tw] s (State.takeover s cause) := by
  unfold State.takeover
  try dsimp (proj := false) only
  repeat' (first | simp (disch := decide) only [↓onlyParts.self, ↓State.galSend_keeps, ↓State.twWith_keeps, ↓with_sent, ↓with_tw] | with_reducible (refine onlyParts.fold ?_ _ ?_) | with_reducible (refine onlyParts.foldSnd ?_ _ ?_) | (refine onlyParts.snd (by assumption) ?_) | split | (intro (_ : State) _; try dsimp (proj := false) only) | (intro (_ : _ × State) _; try dsimp (proj := false) only))
theorem State.takeover_keeps {L₀ : List Part} {s₀ : State} (s : State) (cause : Nat) (h₀ : [(.sent : Part), (.tw : Part)].all (L₀.contains ·) = true) : onlyParts L₀ s₀ (State.takeover s cause) ↔ onlyParts L₀ s₀ s :=
  onlyParts.step (State.takeover_parts s cause) h₀

theorem State.twEnter_parts (s : State) (st : Nat) : onlyParts [.regs, .ou] s (State.twEnter s st) := by
  unfold State.twEnter
  try dsimp (proj := false) only
  repeat' (first | simp (disch := decide) only [↓onlyParts.self, ↓State.ouRefreshAll_keeps, ↓State.raise_keeps, ↓State.set_keeps, ↓State.setB_keeps, ↓with_ou, ↓with_regs] | with_reducible (refine onlyParts.fold ?_ _ ?_) | with_reducible (refine onlyParts.foldSnd ?_ _ ?_) | (refine onlyParts.snd (by assumption) ?_) | split | (intro (_ : State) _; try dsimp (proj := false) only) | (intro (_ : _ × State) _; try dsimp (proj := false) only))
theorem State.twEnter_keeps {L₀ : List Part} {s₀ : State} (s : State) (st : Nat) (h₀ : [(.regs : Part), (.ou : Part)].all (L₀.contains ·) = true) : onlyParts L₀ s₀ (State.twEnter s st) ↔ onlyParts L₀ s₀ s :=
  onlyParts.step (State.twEnter_parts s st) h₀

theorem State.enterFaulted_parts (s : State) (cause : Nat) : onlyParts [.regs, .ou] s (State.enterFaulted s cause) := by
  unfold State.enterFaulted
  try dsimp (proj := false) only
  repeat' (first | simp (disch := decide) only [↓onlyParts.self, ↓State.set_keeps, ↓State.twEnter_keeps, ↓with_ou, ↓with_regs] | with_reducible (refine onlyParts.fold ?_ _ ?_) | with_reducible (refine onlyParts.foldSnd ?_ _ ?_) | (refine onlyParts.snd (by assumption) ?_) | split | (intro (_ : State) _; try dsimp (proj := false) only) | (intro (_ : _ × State) _; try dsimp (proj := false) only))
theorem State.enterFaulted_keeps {L₀ : List Part} {s₀ : State} (s : State) (cause : Nat) (h₀ : [(.regs : Part), (.ou : Part)].all (L₀.contains ·) = true) : onlyParts L₀ s₀ (State.enterFaulted s cause) ↔ onlyParts L₀ s₀ s :=
  onlyParts.step (State.enterFaulted_parts s cause) h₀

theorem State.lacpRole_parts (s : State) : onlyParts [.regs, .free, .sent, .bw, .sc, .tw] s (State.lacpRole s) := by
  unfold State.lacpRole
  try dsimp (proj := false) only
  repeat' (first | simp (disch := decide) only [↓onlyParts.self, ↓State.lacpNow_keeps, ↓with_bw, ↓with_free, ↓with_regs, ↓with_sc, ↓with_sent, ↓with_tw] | with_reducible (refine onlyParts.fold ?_ _ ?_) | with_reducible (refine onlyParts.foldSnd ?_ _ ?_) | (refine onlyParts.snd (by assumption) ?_) | split | (intro (_ : State) _; try dsimp (proj := false) only) | (intro (_ : _ × State) _; try dsimp (proj := false) only))
theorem State.lacpRole_keeps {L₀ : List Part} {s₀ : State} (s : State) (h₀ : [(.regs : Part), (.free : Part), (.sent : Part), (.bw : Part), (.sc : Part), (.tw : Part)].all (L₀.contains ·) = true) : onlyParts L₀ s₀ (State.lacpRole s) ↔ onlyParts L₀ s₀ s :=
  onlyParts.step (State.lacpRole_parts s) h₀

theorem State.addWrap_parts (s : State) (f : FRef) (n : Nat) : onlyParts [.regs] s (State.addWrap s f n) := by
  unfold State.addWrap
  try dsimp (proj := false) only
  repeat' (first | simp (disch := decide) only [↓onlyParts.self, ↓State.set_keeps, ↓with_regs] | with_reducible (refine onlyParts.fold ?_ _ ?_) | with_reducible (refine onlyParts.foldSnd ?_ _ ?_) | (refine onlyParts.snd (by assumption) ?_) | split | (intro (_ : State) _; try dsimp (proj := false) only) | (intro (_ : _ × State) _; try dsimp (proj := false) only))
theorem State.addWrap_keeps {L₀ : List Part} {s₀ : State} (s : State) (f : FRef) (n : Nat) (h₀ : [(.regs : Part)].all (L₀.contains ·) = true) : onlyParts L₀ s₀ (State.addWrap s f n) ↔ onlyParts L₀ s₀ s :=
  onlyParts.step (State.addWrap_parts s f n) h₀

theorem State.roleCount_parts (s : State) (cause : Nat) : onlyParts [.regs, .tw] s (State.roleCount s cause) := by
  unfold State.roleCount
  try dsimp (proj := false) only
  repeat' (first | simp (disch := decide) only [↓onlyParts.self, ↓State.addWrap_keeps, ↓State.set_keeps, ↓State.setB_keeps, ↓with_regs, ↓with_tw] | with_reducible (refine onlyParts.fold ?_ _ ?_) | with_reducible (refine onlyParts.foldSnd ?_ _ ?_) | (refine onlyParts.snd (by assumption) ?_) | split | (intro (_ : State) _; try dsimp (proj := false) only) | (intro (_ : _ × State) _; try dsimp (proj := false) only))
theorem State.roleCount_keeps {L₀ : List Part} {s₀ : State} (s : State) (cause : Nat) (h₀ : [(.regs : Part), (.tw : Part)].all (L₀.contains ·) = true) : onlyParts L₀ s₀ (State.roleCount s cause) ↔ onlyParts L₀ s₀ s :=
  onlyParts.step (State.roleCount_parts s cause) h₀

theorem State.resyncBegin_parts (s : State) : onlyParts [.regs, .ft] s (State.resyncBegin s) := by
  unfold State.resyncBegin
  try dsimp (proj := false) only
  repeat' (first | simp (disch := decide) only [↓onlyParts.self, ↓State.raise_keeps, ↓State.set_keeps, ↓State.setEnt_keeps, ↓with_ft, ↓with_regs] | with_reducible (refine onlyParts.fold ?_ _ ?_) | with_reducible (refine onlyParts.foldSnd ?_ _ ?_) | (refine onlyParts.snd (by assumption) ?_) | split | (intro (_ : State) _; try dsimp (proj := false) only) | (intro (_ : _ × State) _; try dsimp (proj := false) only))
theorem State.resyncBegin_keeps {L₀ : List Part} {s₀ : State} (s : State) (h₀ : [(.regs : Part), (.ft : Part)].all (L₀.contains ·) = true) : onlyParts L₀ s₀ (State.resyncBegin s) ↔ onlyParts L₀ s₀ s :=
  onlyParts.step (State.resyncBegin_parts s) h₀

theorem State.enterSyncing_parts (s : State) : onlyParts [.regs, .ft, .ou, .tw] s (State.enterSyncing s) := by
  unfold State.enterSyncing
  try dsimp (proj := false) only
  repeat' (first | simp (disch := decide) only [↓onlyParts.self, ↓State.resyncBegin_keeps, ↓State.set_keeps, ↓State.twEnter_keeps, ↓with_ft, ↓with_ou, ↓with_regs, ↓with_tw] | with_reducible (refine onlyParts.fold ?_ _ ?_) | with_reducible (refine onlyParts.foldSnd ?_ _ ?_) | (refine onlyParts.snd (by assumption) ?_) | split | (intro (_ : State) _; try dsimp (proj := false) only) | (intro (_ : _ × State) _; try dsimp (proj := false) only))
theorem State.enterSyncing_keeps {L₀ : List Part} {s₀ : State} (s : State) (h₀ : [(.regs : Part), (.ft : Part), (.ou : Part), (.tw : Part)].all (L₀.contains ·) = true) : onlyParts L₀ s₀ (State.enterSyncing s) ↔ onlyParts L₀ s₀ s :=
  onlyParts.step (State.enterSyncing_parts s) h₀

theorem State.giveRole_parts (s : State) (fault : Option Nat) (cause : Nat) : onlyParts [.regs, .free, .sent, .mbox, .mp, .bw, .sc, .ft, .ou, .tw] s (State.giveRole s fault cause) := by
  unfold State.giveRole
  try dsimp (proj := false) only
  repeat' (first | simp (disch := decide) only [↓onlyParts.self, ↓State.enterFaulted_keeps, ↓State.enterSyncing_keeps, ↓State.lacpRole_keeps, ↓State.mbAnswerWaiting_keeps, ↓State.raise_keeps, ↓State.roleCount_keeps, ↓with_bw, ↓with_free, ↓with_ft, ↓with_mbox, ↓with_mp, ↓with_ou, ↓with_regs, ↓with_sc, ↓with_sent, ↓with_tw] | with_reducible (refine onlyParts.fold ?_ _ ?_) | with_reducible (refine onlyParts.foldSnd ?_ _ ?_) | (refine onlyParts.snd (by assumption) ?_) | split | (intro (_ : State) _; try dsimp (proj := false) only) | (intro (_ : _ × State) _; try dsimp (proj := false) only))
theorem State.giveRole_keeps {L₀ : List Part} {s₀ : State} (s : State) (fault : Option Nat) (cause : Nat) (h₀ : [(.regs : Part), (.free : Part), (.sent : Part), (.mbox : Part), (.mp : Part), (.bw : Part), (.sc : Part), (.ft : Part), (.ou : Part), (.tw : Part)].all (L₀.contains ·) = true) : onlyParts L₀ s₀ (State.giveRole s fault cause) ↔ onlyParts L₀ s₀ s :=
  onlyParts.step (State.giveRole_parts s fault cause) h₀

theorem State.twForce_parts (s : State) (role : Nat) : onlyParts [.regs, .free, .sent, .mbox, .mp, .bw, .sc, .ft, .ou, .tw] s (State.twForce s role) := by
  unfold State.twForce
  try dsimp (proj := false) only
  repeat' (first | simp (disch := decide) only [↓onlyParts.self, ↓State.galSend_keeps, ↓State.giveRole_keeps, ↓State.takeover_keeps, ↓with_bw, ↓with_free, ↓with_ft, ↓with_mbox, ↓with_mp, ↓with_ou, ↓with_regs, ↓with_sc, ↓with_sent, ↓with_tw] | with_reducible (refine onlyParts.fold ?_ _ ?_) | with_reducible (refine onlyParts.foldSnd ?_ _ ?_) | (refine onlyParts.snd (by assumption) ?_) | split | (intro (_ : State) _; try dsimp (proj := false) only) | (intro (_ : _ × State) _; try dsimp (proj := false) only))
theorem State.twForce_keeps {L₀ : List Part} {s₀ : State} (s : State) (role : Nat) (h₀ : [(.regs : Part), (.free : Part), (.sent : Part), (.mbox : Part), (.mp : Part), (.bw : Part), (.sc : Part), (.ft : Part), (.ou : Part), (.tw : Part)].all (L₀.contains ·) = true) : onlyParts L₀ s₀ (State.twForce s role) ↔ onlyParts L₀ s₀ s :=
  onlyParts.step (State.twForce_parts s role) h₀

theorem State.writeTw_parts (s : State) (p : Place) (gw : Bool) (v : Word) : onlyParts [.regs, .pend, .free, .sent, .mbox, .mp, .bw, .sc, .ft, .ou, .tw] s (State.writeTw s p gw v) := by
  unfold State.writeTw
  try dsimp (proj := false) only
  repeat' (first | simp (disch := decide) only [↓onlyParts.self, ↓State.plain_keeps, ↓State.twForce_keeps, ↓with_bw, ↓with_free, ↓with_ft, ↓with_mbox, ↓with_mp, ↓with_ou, ↓with_pend, ↓with_regs, ↓with_sc, ↓with_sent, ↓with_tw] | with_reducible (refine onlyParts.fold ?_ _ ?_) | with_reducible (refine onlyParts.foldSnd ?_ _ ?_) | (refine onlyParts.snd (by assumption) ?_) | split | (intro (_ : State) _; try dsimp (proj := false) only) | (intro (_ : _ × State) _; try dsimp (proj := false) only))
theorem State.writeTw_keeps {L₀ : List Part} {s₀ : State} (s : State) (p : Place) (gw : Bool) (v : Word) (h₀ : [(.regs : Part), (.pend : Part), (.free : Part), (.sent : Part), (.mbox : Part), (.mp : Part), (.bw : Part), (.sc : Part), (.ft : Part), (.ou : Part), (.tw : Part)].all (L₀.contains ·) = true) : onlyParts L₀ s₀ (State.writeTw s p gw v) ↔ onlyParts L₀ s₀ s :=
  onlyParts.step (State.writeTw_parts s p gw v) h₀

theorem State.writeAt_parts (s : State) (m : Master) (p : Place) (gw : Bool) (v : Word) : onlyParts [.pending, .variant, .regs, .pend, .clk, .free, .sent, .tb, .power, .host, .ownerNext, .mbox, .mp, .hl, .bw, .lane, .port, .sc, .pr, .ft, .txts, .frozen, .taq, .time, .chan, .smp, .esmc, .ou, .tdc, .evIn, .evGrp, .tw, .px, .ptp, .tod, .retain, .fu, .unit, .treadRead] s (State.writeAt s m p gw v) := fun p hp => absurd (by cases p <;> decide) hp
theorem State.writeAt_keeps {L₀ : List Part} {s₀ : State} (s : State) (m : Master) (p : Place) (gw : Bool) (v : Word) (h₀ : [(.pending : Part), (.variant : Part), (.regs : Part), (.pend : Part), (.clk : Part), (.free : Part), (.sent : Part), (.tb : Part), (.power : Part), (.host : Part), (.ownerNext : Part), (.mbox : Part), (.mp : Part), (.hl : Part), (.bw : Part), (.lane : Part), (.port : Part), (.sc : Part), (.pr : Part), (.ft : Part), (.txts : Part), (.frozen : Part), (.taq : Part), (.time : Part), (.chan : Part), (.smp : Part), (.esmc : Part), (.ou : Part), (.tdc : Part), (.evIn : Part), (.evGrp : Part), (.tw : Part), (.px : Part), (.ptp : Part), (.tod : Part), (.retain : Part), (.fu : Part), (.unit : Part), (.treadRead : Part)].all (L₀.contains ·) = true) : onlyParts L₀ s₀ (State.writeAt s m p gw v) ↔ onlyParts L₀ s₀ s :=
  onlyParts.step (State.writeAt_parts s m p gw v) h₀

theorem State.woViol_parts (s : State) (m : Master) (a : Nat) : onlyParts [.regs] s (State.woViol s m a) := by
  unfold State.woViol
  try dsimp (proj := false) only
  repeat' (first | simp (disch := decide) only [↓onlyParts.self, ↓State.capture_keeps, ↓State.raise_keeps, ↓with_regs] | with_reducible (refine onlyParts.fold ?_ _ ?_) | with_reducible (refine onlyParts.foldSnd ?_ _ ?_) | (refine onlyParts.snd (by assumption) ?_) | split | (intro (_ : State) _; try dsimp (proj := false) only) | (intro (_ : _ × State) _; try dsimp (proj := false) only))
theorem State.woViol_keeps {L₀ : List Part} {s₀ : State} (s : State) (m : Master) (a : Nat) (h₀ : [(.regs : Part)].all (L₀.contains ·) = true) : onlyParts L₀ s₀ (State.woViol s m a) ↔ onlyParts L₀ s₀ s :=
  onlyParts.step (State.woViol_parts s m a) h₀

theorem State.woField_parts (s : State) (m : Master) (a : Nat) (p : Place) (v : Word) (f : Fld) : onlyParts [.regs, .host] s (State.woField s m a p v f) := by
  unfold State.woField
  try dsimp (proj := false) only
  repeat' (first | simp (disch := decide) only [↓onlyParts.self, ↓State.set_keeps, ↓State.woViol_keeps, ↓with_host, ↓with_regs] | with_reducible (refine onlyParts.fold ?_ _ ?_) | with_reducible (refine onlyParts.foldSnd ?_ _ ?_) | (refine onlyParts.snd (by assumption) ?_) | split | (intro (_ : State) _; try dsimp (proj := false) only) | (intro (_ : _ × State) _; try dsimp (proj := false) only))
theorem State.woField_keeps {L₀ : List Part} {s₀ : State} (s : State) (m : Master) (a : Nat) (p : Place) (v : Word) (f : Fld) (h₀ : [(.regs : Part), (.host : Part)].all (L₀.contains ·) = true) : onlyParts L₀ s₀ (State.woField s m a p v f) ↔ onlyParts L₀ s₀ s :=
  onlyParts.step (State.woField_parts s m a p v f) h₀

theorem State.writePlace_parts (s : State) (m : Master) (a : Nat) (p : Place) (v : Word) : onlyParts [.pending, .variant, .regs, .pend, .clk, .free, .sent, .tb, .power, .host, .ownerNext, .mbox, .mp, .hl, .bw, .lane, .port, .sc, .pr, .ft, .txts, .frozen, .taq, .time, .chan, .smp, .esmc, .ou, .tdc, .evIn, .evGrp, .tw, .px, .ptp, .tod, .retain, .fu, .unit, .treadRead] s (State.writePlace s m a p v) := fun p hp => absurd (by cases p <;> decide) hp
theorem State.writePlace_keeps {L₀ : List Part} {s₀ : State} (s : State) (m : Master) (a : Nat) (p : Place) (v : Word) (h₀ : [(.pending : Part), (.variant : Part), (.regs : Part), (.pend : Part), (.clk : Part), (.free : Part), (.sent : Part), (.tb : Part), (.power : Part), (.host : Part), (.ownerNext : Part), (.mbox : Part), (.mp : Part), (.hl : Part), (.bw : Part), (.lane : Part), (.port : Part), (.sc : Part), (.pr : Part), (.ft : Part), (.txts : Part), (.frozen : Part), (.taq : Part), (.time : Part), (.chan : Part), (.smp : Part), (.esmc : Part), (.ou : Part), (.tdc : Part), (.evIn : Part), (.evGrp : Part), (.tw : Part), (.px : Part), (.ptp : Part), (.tod : Part), (.retain : Part), (.fu : Part), (.unit : Part), (.treadRead : Part)].all (L₀.contains ·) = true) : onlyParts L₀ s₀ (State.writePlace s m a p v) ↔ onlyParts L₀ s₀ s :=
  onlyParts.step (State.writePlace_parts s m a p v) h₀

theorem State.busErr_parts (s : State) (m : Master) (write : Bool) (reason a : Nat) : onlyParts [.regs] s (State.busErr s m write reason a) := by
  unfold State.busErr
  try dsimp (proj := false) only
  repeat' (first | simp (disch := decide) only [↓onlyParts.self, ↓State.capture_keeps, ↓State.raise_keeps, ↓with_regs] | with_reducible (refine onlyParts.fold ?_ _ ?_) | with_reducible (refine onlyParts.foldSnd ?_ _ ?_) | (refine onlyParts.snd (by assumption) ?_) | split | (intro (_ : State) _; try dsimp (proj := false) only) | (intro (_ : _ × State) _; try dsimp (proj := false) only))
theorem State.busErr_keeps {L₀ : List Part} {s₀ : State} (s : State) (m : Master) (write : Bool) (reason a : Nat) (h₀ : [(.regs : Part)].all (L₀.contains ·) = true) : onlyParts L₀ s₀ (State.busErr s m write reason a) ↔ onlyParts L₀ s₀ s :=
  onlyParts.step (State.busErr_parts s m write reason a) h₀

theorem State.busWrite_parts (s : State) (q : Req) (v hi : Word) : onlyParts [.pending, .variant, .regs, .pend, .clk, .free, .sent, .tb, .power, .host, .ownerNext, .mbox, .mp, .hl, .bw, .lane, .port, .sc, .pr, .ft, .txts, .frozen, .taq, .time, .chan, .smp, .esmc, .ou, .tdc, .evIn, .evGrp, .tw, .px, .ptp, .tod, .retain, .fu, .unit, .treadRead] s (State.busWrite s q v hi).2 := fun p hp => absurd (by cases p <;> decide) hp
theorem State.busWrite_keeps {L₀ : List Part} {s₀ : State} (s : State) (q : Req) (v hi : Word) (h₀ : [(.pending : Part), (.variant : Part), (.regs : Part), (.pend : Part), (.clk : Part), (.free : Part), (.sent : Part), (.tb : Part), (.power : Part), (.host : Part), (.ownerNext : Part), (.mbox : Part), (.mp : Part), (.hl : Part), (.bw : Part), (.lane : Part), (.port : Part), (.sc : Part), (.pr : Part), (.ft : Part), (.txts : Part), (.frozen : Part), (.taq : Part), (.time : Part), (.chan : Part), (.smp : Part), (.esmc : Part), (.ou : Part), (.tdc : Part), (.evIn : Part), (.evGrp : Part), (.tw : Part), (.px : Part), (.ptp : Part), (.tod : Part), (.retain : Part), (.fu : Part), (.unit : Part), (.treadRead : Part)].all (L₀.contains ·) = true) : onlyParts L₀ s₀ (State.busWrite s q v hi).2 ↔ onlyParts L₀ s₀ s :=
  onlyParts.step (State.busWrite_parts s q v hi) h₀

theorem State.busRead_parts (s : State) (q : Req) : onlyParts [.regs, .txts, .taq, .evIn, .evGrp] s (State.busRead s q).2 := by
  unfold State.busRead
  try dsimp (proj := false) only
  repeat' (first | simp (disch := decide) only [↓onlyParts.self, ↓State.busErr_keeps, ↓State.readPlace_keeps, ↓with_evGrp, ↓with_evIn, ↓with_regs, ↓with_taq, ↓with_txts] | with_reducible (refine onlyParts.fold ?_ _ ?_) | with_reducible (refine onlyParts.foldSnd ?_ _ ?_) | (refine onlyParts.snd (by assumption) ?_) | split | (intro (_ : State) _; try dsimp (proj := false) only) | (intro (_ : _ × State) _; try dsimp (proj := false) only))
theorem State.busRead_keeps {L₀ : List Part} {s₀ : State} (s : State) (q : Req) (h₀ : [(.regs : Part), (.txts : Part), (.taq : Part), (.evIn : Part), (.evGrp : Part)].all (L₀.contains ·) = true) : onlyParts L₀ s₀ (State.busRead s q).2 ↔ onlyParts L₀ s₀ s :=
  onlyParts.step (State.busRead_parts s q) h₀

theorem State.accessWrite_parts (s : State) (q : Req) (v hi : Word) : onlyParts [.pending, .variant, .regs, .pend, .clk, .free, .sent, .tb, .power, .host, .ownerNext, .mbox, .mp, .hl, .bw, .lane, .port, .sc, .pr, .ft, .txts, .frozen, .taq, .time, .chan, .smp, .esmc, .ou, .tdc, .evIn, .evGrp, .tw, .px, .ptp, .tod, .retain, .fu, .unit, .treadRead] s (State.accessWrite s q v hi) := fun p hp => absurd (by cases p <;> decide) hp
theorem State.accessWrite_keeps {L₀ : List Part} {s₀ : State} (s : State) (q : Req) (v hi : Word) (h₀ : [(.pending : Part), (.variant : Part), (.regs : Part), (.pend : Part), (.clk : Part), (.free : Part), (.sent : Part), (.tb : Part), (.power : Part), (.host : Part), (.ownerNext : Part), (.mbox : Part), (.mp : Part), (.hl : Part), (.bw : Part), (.lane : Part), (.port : Part), (.sc : Part), (.pr : Part), (.ft : Part), (.txts : Part), (.frozen : Part), (.taq : Part), (.time : Part), (.chan : Part), (.smp : Part), (.esmc : Part), (.ou : Part), (.tdc : Part), (.evIn : Part), (.evGrp : Part), (.tw : Part), (.px : Part), (.ptp : Part), (.tod : Part), (.retain : Part), (.fu : Part), (.unit : Part), (.treadRead : Part)].all (L₀.contains ·) = true) : onlyParts L₀ s₀ (State.accessWrite s q v hi) ↔ onlyParts L₀ s₀ s :=
  onlyParts.step (State.accessWrite_parts s q v hi) h₀

theorem State.accessRead_parts (s : State) (q : Req) : onlyParts [.regs, .sent, .txts, .taq, .evIn, .evGrp] s (State.accessRead s q) := by
  unfold State.accessRead
  try dsimp (proj := false) only
  repeat' (first | simp (disch := decide) only [↓onlyParts.self, ↓State.busRead_keeps, ↓State.emit_keeps, ↓with_evGrp, ↓with_evIn, ↓with_regs, ↓with_sent, ↓with_taq, ↓with_txts] | with_reducible (refine onlyParts.fold ?_ _ ?_) | with_reducible (refine onlyParts.foldSnd ?_ _ ?_) | (refine onlyParts.snd (by assumption) ?_) | split | (intro (_ : State) _; try dsimp (proj := false) only) | (intro (_ : _ × State) _; try dsimp (proj := false) only))
theorem State.accessRead_keeps {L₀ : List Part} {s₀ : State} (s : State) (q : Req) (h₀ : [(.regs : Part), (.sent : Part), (.txts : Part), (.taq : Part), (.evIn : Part), (.evGrp : Part)].all (L₀.contains ·) = true) : onlyParts L₀ s₀ (State.accessRead s q) ↔ onlyParts L₀ s₀ s :=
  onlyParts.step (State.accessRead_parts s q) h₀

theorem State.setPort_parts (s : State) (p : Nat) (x : Port) : onlyParts [.port] s (State.setPort s p x) := by
  unfold State.setPort
  try dsimp (proj := false) only
  repeat' (first | simp (disch := decide) only [↓onlyParts.self, ↓with_port] | with_reducible (refine onlyParts.fold ?_ _ ?_) | with_reducible (refine onlyParts.foldSnd ?_ _ ?_) | (refine onlyParts.snd (by assumption) ?_) | split | (intro (_ : State) _; try dsimp (proj := false) only) | (intro (_ : _ × State) _; try dsimp (proj := false) only))
theorem State.setPort_keeps {L₀ : List Part} {s₀ : State} (s : State) (p : Nat) (x : Port) (h₀ : [(.port : Part)].all (L₀.contains ·) = true) : onlyParts L₀ s₀ (State.setPort s p x) ↔ onlyParts L₀ s₀ s :=
  onlyParts.step (State.setPort_parts s p x) h₀

theorem State.stagingCheck_parts (s : State) : onlyParts [.regs, .fu] s (State.stagingCheck s) := by
  unfold State.stagingCheck
  try dsimp (proj := false) only
  repeat' (first | simp (disch := decide) only [↓onlyParts.self, ↓State.raise_keeps, ↓with_fu, ↓with_regs] | with_reducible (refine onlyParts.fold ?_ _ ?_) | with_reducible (refine onlyParts.foldSnd ?_ _ ?_) | (refine onlyParts.snd (by assumption) ?_) | split | (intro (_ : State) _; try dsimp (proj := false) only) | (intro (_ : _ × State) _; try dsimp (proj := false) only))
theorem State.stagingCheck_keeps {L₀ : List Part} {s₀ : State} (s : State) (h₀ : [(.regs : Part), (.fu : Part)].all (L₀.contains ·) = true) : onlyParts L₀ s₀ (State.stagingCheck s) ↔ onlyParts L₀ s₀ s :=
  onlyParts.step (State.stagingCheck_parts s) h₀

theorem State.bootSlot_parts (s : State) (k : Nat) : onlyParts [.fu] s (State.bootSlot s k) := by
  unfold State.bootSlot
  try dsimp (proj := false) only
  repeat' (first | simp (disch := decide) only [↓onlyParts.self, ↓with_fu] | with_reducible (refine onlyParts.fold ?_ _ ?_) | with_reducible (refine onlyParts.foldSnd ?_ _ ?_) | (refine onlyParts.snd (by assumption) ?_) | split | (intro (_ : State) _; try dsimp (proj := false) only) | (intro (_ : _ × State) _; try dsimp (proj := false) only))
theorem State.bootSlot_keeps {L₀ : List Part} {s₀ : State} (s : State) (k : Nat) (h₀ : [(.fu : Part)].all (L₀.contains ·) = true) : onlyParts L₀ s₀ (State.bootSlot s k) ↔ onlyParts L₀ s₀ s :=
  onlyParts.step (State.bootSlot_parts s k) h₀

theorem State.hlHeld_parts (s : State) : onlyParts [.regs] s (State.hlHeld s) := by
  unfold State.hlHeld
  try dsimp (proj := false) only
  repeat' (first | simp (disch := decide) only [↓onlyParts.self, ↓State.setB_keeps, ↓with_regs] | with_reducible (refine onlyParts.fold ?_ _ ?_) | with_reducible (refine onlyParts.foldSnd ?_ _ ?_) | (refine onlyParts.snd (by assumption) ?_) | split | (intro (_ : State) _; try dsimp (proj := false) only) | (intro (_ : _ × State) _; try dsimp (proj := false) only))
theorem State.hlHeld_keeps {L₀ : List Part} {s₀ : State} (s : State) (h₀ : [(.regs : Part)].all (L₀.contains ·) = true) : onlyParts L₀ s₀ (State.hlHeld s) ↔ onlyParts L₀ s₀ s :=
  onlyParts.step (State.hlHeld_parts s) h₀

theorem State.hlLog_parts (s : State) (code cls inst row detail : Nat) : onlyParts [.regs, .hl] s (State.hlLog s code cls inst row detail) := by
  unfold State.hlLog
  try dsimp (proj := false) only
  repeat' (first | simp (disch := decide) only [↓onlyParts.self, ↓State.inc_keeps, ↓State.raise_keeps, ↓State.set_keeps, ↓with_hl, ↓with_regs] | with_reducible (refine onlyParts.fold ?_ _ ?_) | with_reducible (refine onlyParts.foldSnd ?_ _ ?_) | (refine onlyParts.snd (by assumption) ?_) | split | (intro (_ : State) _; try dsimp (proj := false) only) | (intro (_ : _ × State) _; try dsimp (proj := false) only))
theorem State.hlLog_keeps {L₀ : List Part} {s₀ : State} (s : State) (code cls inst row detail : Nat) (h₀ : [(.regs : Part), (.hl : Part)].all (L₀.contains ·) = true) : onlyParts L₀ s₀ (State.hlLog s code cls inst row detail) ↔ onlyParts L₀ s₀ s :=
  onlyParts.step (State.hlLog_parts s code cls inst row detail) h₀

theorem State.hlHold_parts (s : State) (code inst : Nat) : onlyParts [.regs, .hl] s (State.hlHold s code inst) := by
  unfold State.hlHold
  try dsimp (proj := false) only
  repeat' (first | simp (disch := decide) only [↓onlyParts.self, ↓State.hlHeld_keeps, ↓State.hlLog_keeps, ↓with_hl, ↓with_regs] | with_reducible (refine onlyParts.fold ?_ _ ?_) | with_reducible (refine onlyParts.foldSnd ?_ _ ?_) | (refine onlyParts.snd (by assumption) ?_) | split | (intro (_ : State) _; try dsimp (proj := false) only) | (intro (_ : _ × State) _; try dsimp (proj := false) only))
theorem State.hlHold_keeps {L₀ : List Part} {s₀ : State} (s : State) (code inst : Nat) (h₀ : [(.regs : Part), (.hl : Part)].all (L₀.contains ·) = true) : onlyParts L₀ s₀ (State.hlHold s code inst) ↔ onlyParts L₀ s₀ s :=
  onlyParts.step (State.hlHold_parts s code inst) h₀

theorem State.hlLastingAs_parts (s : State) (cls code inst row detail : Nat) : onlyParts [.regs, .hl] s (State.hlLastingAs s cls code inst row detail) := by
  unfold State.hlLastingAs
  try dsimp (proj := false) only
  repeat' (first | simp (disch := decide) only [↓onlyParts.self, ↓State.captureAt_keeps, ↓State.hlHold_keeps, ↓State.hlLog_keeps, ↓State.inc_keeps, ↓State.raise_keeps, ↓with_hl, ↓with_regs] | with_reducible (refine onlyParts.fold ?_ _ ?_) | with_reducible (refine onlyParts.foldSnd ?_ _ ?_) | (refine onlyParts.snd (by assumption) ?_) | split | (intro (_ : State) _; try dsimp (proj := false) only) | (intro (_ : _ × State) _; try dsimp (proj := false) only))
theorem State.hlLastingAs_keeps {L₀ : List Part} {s₀ : State} (s : State) (cls code inst row detail : Nat) (h₀ : [(.regs : Part), (.hl : Part)].all (L₀.contains ·) = true) : onlyParts L₀ s₀ (State.hlLastingAs s cls code inst row detail) ↔ onlyParts L₀ s₀ s :=
  onlyParts.step (State.hlLastingAs_parts s cls code inst row detail) h₀

theorem State.hlLasting_parts (s : State) (code inst row detail : Nat) : onlyParts [.regs, .hl] s (State.hlLasting s code inst row detail) := by
  unfold State.hlLasting
  try dsimp (proj := false) only
  repeat' (first | simp (disch := decide) only [↓onlyParts.self, ↓State.hlLastingAs_keeps, ↓with_hl, ↓with_regs] | with_reducible (refine onlyParts.fold ?_ _ ?_) | with_reducible (refine onlyParts.foldSnd ?_ _ ?_) | (refine onlyParts.snd (by assumption) ?_) | split | (intro (_ : State) _; try dsimp (proj := false) only) | (intro (_ : _ × State) _; try dsimp (proj := false) only))
theorem State.hlLasting_keeps {L₀ : List Part} {s₀ : State} (s : State) (code inst row detail : Nat) (h₀ : [(.regs : Part), (.hl : Part)].all (L₀.contains ·) = true) : onlyParts L₀ s₀ (State.hlLasting s code inst row detail) ↔ onlyParts L₀ s₀ s :=
  onlyParts.step (State.hlLasting_parts s code inst row detail) h₀

theorem State.flashFault_parts (s : State) : onlyParts [.regs, .hl] s (State.flashFault s) := by
  unfold State.flashFault
  try dsimp (proj := false) only
  repeat' (first | simp (disch := decide) only [↓onlyParts.self, ↓State.hlLasting_keeps, ↓State.raise_keeps, ↓with_hl, ↓with_regs] | with_reducible (refine onlyParts.fold ?_ _ ?_) | with_reducible (refine onlyParts.foldSnd ?_ _ ?_) | (refine onlyParts.snd (by assumption) ?_) | split | (intro (_ : State) _; try dsimp (proj := false) only) | (intro (_ : _ × State) _; try dsimp (proj := false) only))
theorem State.flashFault_keeps {L₀ : List Part} {s₀ : State} (s : State) (h₀ : [(.regs : Part), (.hl : Part)].all (L₀.contains ·) = true) : onlyParts L₀ s₀ (State.flashFault s) ↔ onlyParts L₀ s₀ s :=
  onlyParts.step (State.flashFault_parts s) h₀

theorem State.writePtr_parts (s : State) (flash : Bool) (r : PtrRec) : onlyParts [.regs, .hl, .fu] s (State.writePtr s flash r) := by
  unfold State.writePtr
  try dsimp (proj := false) only
  repeat' (first | simp (disch := decide) only [↓onlyParts.self, ↓State.flashFault_keeps, ↓with_fu, ↓with_hl, ↓with_regs] | with_reducible (refine onlyParts.fold ?_ _ ?_) | with_reducible (refine onlyParts.foldSnd ?_ _ ?_) | (refine onlyParts.snd (by assumption) ?_) | split | (intro (_ : State) _; try dsimp (proj := false) only) | (intro (_ : _ × State) _; try dsimp (proj := false) only))
theorem State.writePtr_keeps {L₀ : List Part} {s₀ : State} (s : State) (flash : Bool) (r : PtrRec) (h₀ : [(.regs : Part), (.hl : Part), (.fu : Part)].all (L₀.contains ·) = true) : onlyParts L₀ s₀ (State.writePtr s flash r) ↔ onlyParts L₀ s₀ s :=
  onlyParts.step (State.writePtr_parts s flash r) h₀

theorem State.fuState_parts (s : State) (st : Nat) : onlyParts [.regs, .fu] s (State.fuState s st) := by
  unfold State.fuState
  try dsimp (proj := false) only
  repeat' (first | simp (disch := decide) only [↓onlyParts.self, ↓State.set_keeps, ↓with_fu, ↓with_regs] | with_reducible (refine onlyParts.fold ?_ _ ?_) | with_reducible (refine onlyParts.foldSnd ?_ _ ?_) | (refine onlyParts.snd (by assumption) ?_) | split | (intro (_ : State) _; try dsimp (proj := false) only) | (intro (_ : _ × State) _; try dsimp (proj := false) only))
theorem State.fuState_keeps {L₀ : List Part} {s₀ : State} (s : State) (st : Nat) (h₀ : [(.regs : Part), (.fu : Part)].all (L₀.contains ·) = true) : onlyParts L₀ s₀ (State.fuState s st) ↔ onlyParts L₀ s₀ s :=
  onlyParts.step (State.fuState_parts s st) h₀

theorem State.stagingClear_parts (s : State) : onlyParts [.fu] s (State.stagingClear s) := by
  unfold State.stagingClear
  try dsimp (proj := false) only
  repeat' (first | simp (disch := decide) only [↓onlyParts.self, ↓with_fu] | with_reducible (refine onlyParts.fold ?_ _ ?_) | with_reducible (refine onlyParts.foldSnd ?_ _ ?_) | (refine onlyParts.snd (by assumption) ?_) | split | (intro (_ : State) _; try dsimp (proj := false) only) | (intro (_ : _ × State) _; try dsimp (proj := false) only))
theorem State.stagingClear_keeps {L₀ : List Part} {s₀ : State} (s : State) (h₀ : [(.fu : Part)].all (L₀.contains ·) = true) : onlyParts L₀ s₀ (State.stagingClear s) ↔ onlyParts L₀ s₀ s :=
  onlyParts.step (State.stagingClear_parts s) h₀

theorem State.fuIdle_parts (s : State) (result : Nat) : onlyParts [.regs, .fu] s (State.fuIdle s result) := by
  unfold State.fuIdle
  try dsimp (proj := false) only
  repeat' (first | simp (disch := decide) only [↓onlyParts.self, ↓State.fuState_keeps, ↓State.set_keeps, ↓State.stagingClear_keeps, ↓with_fu, ↓with_regs] | with_reducible (refine onlyParts.fold ?_ _ ?_) | with_reducible (refine onlyParts.foldSnd ?_ _ ?_) | (refine onlyParts.snd (by assumption) ?_) | split | (intro (_ : State) _; try dsimp (proj := false) only) | (intro (_ : _ × State) _; try dsimp (proj := false) only))
theorem State.fuIdle_keeps {L₀ : List Part} {s₀ : State} (s : State) (result : Nat) (h₀ : [(.regs : Part), (.fu : Part)].all (L₀.contains ·) = true) : onlyParts L₀ s₀ (State.fuIdle s result) ↔ onlyParts L₀ s₀ s :=
  onlyParts.step (State.fuIdle_parts s result) h₀

theorem State.fallBack_parts (s : State) (flash : Bool) (w : PtrRec) (result : Nat) : onlyParts [.regs, .hl, .fu] s (State.fallBack s flash w result) := by
  unfold State.fallBack
  try dsimp (proj := false) only
  repeat' (first | simp (disch := decide) only [↓onlyParts.self, ↓State.fuIdle_keeps, ↓State.raise_keeps, ↓State.writePtr_keeps, ↓with_fu, ↓with_hl, ↓with_regs] | with_reducible (refine onlyParts.fold ?_ _ ?_) | with_reducible (refine onlyParts.foldSnd ?_ _ ?_) | (refine onlyParts.snd (by assumption) ?_) | split | (intro (_ : State) _; try dsimp (proj := false) only) | (intro (_ : _ × State) _; try dsimp (proj := false) only))
theorem State.fallBack_keeps {L₀ : List Part} {s₀ : State} (s : State) (flash : Bool) (w : PtrRec) (result : Nat) (h₀ : [(.regs : Part), (.hl : Part), (.fu : Part)].all (L₀.contains ·) = true) : onlyParts L₀ s₀ (State.fallBack s flash w result) ↔ onlyParts L₀ s₀ s :=
  onlyParts.step (State.fallBack_parts s flash w result) h₀

theorem State.loader_parts (s : State) (flash : Bool) : onlyParts [.regs, .hl, .fu] s (State.loader s flash) := by
  unfold State.loader
  try dsimp (proj := false) only
  repeat' (first | simp (disch := decide) only [↓onlyParts.self, ↓State.bootSlot_keeps, ↓State.fallBack_keeps, ↓State.writePtr_keeps, ↓with_fu, ↓with_hl, ↓with_regs] | with_reducible (refine onlyParts.fold ?_ _ ?_) | with_reducible (refine onlyParts.foldSnd ?_ _ ?_) | (refine onlyParts.snd (by assumption) ?_) | split | (intro (_ : State) _; try dsimp (proj := false) only) | (intro (_ : _ × State) _; try dsimp (proj := false) only))
theorem State.loader_keeps {L₀ : List Part} {s₀ : State} (s : State) (flash : Bool) (h₀ : [(.regs : Part), (.hl : Part), (.fu : Part)].all (L₀.contains ·) = true) : onlyParts L₀ s₀ (State.loader s flash) ↔ onlyParts L₀ s₀ s :=
  onlyParts.step (State.loader_parts s flash) h₀

theorem State.fuRegs_parts (s : State) : onlyParts [.regs] s (State.fuRegs s) := by
  unfold State.fuRegs
  try dsimp (proj := false) only
  repeat' (first | simp (disch := decide) only [↓onlyParts.self, ↓State.fuSlots_keeps, ↓State.set_keeps, ↓State.setB_keeps, ↓with_regs] | with_reducible (refine onlyParts.fold ?_ _ ?_) | with_reducible (refine onlyParts.foldSnd ?_ _ ?_) | (refine onlyParts.snd (by assumption) ?_) | split | (intro (_ : State) _; try dsimp (proj := false) only) | (intro (_ : _ × State) _; try dsimp (proj := false) only))
theorem State.fuRegs_keeps {L₀ : List Part} {s₀ : State} (s : State) (h₀ : [(.regs : Part)].all (L₀.contains ·) = true) : onlyParts L₀ s₀ (State.fuRegs s) ↔ onlyParts L₀ s₀ s :=
  onlyParts.step (State.fuRegs_parts s) h₀

theorem State.fuResume_parts (s : State) : onlyParts [.regs, .fu] s (State.fuResume s) := by
  unfold State.fuResume
  try dsimp (proj := false) only
  repeat' (first | simp (disch := decide) only [↓onlyParts.self, ↓State.fuRegs_keeps, ↓State.fuState_keeps, ↓State.set_keeps, ↓State.stagingClear_keeps, ↓with_fu, ↓with_regs] | with_reducible (refine onlyParts.fold ?_ _ ?_) | with_reducible (refine onlyParts.foldSnd ?_ _ ?_) | (refine onlyParts.snd (by assumption) ?_) | split | (intro (_ : State) _; try dsimp (proj := false) only) | (intro (_ : _ × State) _; try dsimp (proj := false) only))
theorem State.fuResume_keeps {L₀ : List Part} {s₀ : State} (s : State) (h₀ : [(.regs : Part), (.fu : Part)].all (L₀.contains ·) = true) : onlyParts L₀ s₀ (State.fuResume s) ↔ onlyParts L₀ s₀ s :=
  onlyParts.step (State.fuResume_parts s) h₀

theorem State.writeRecord_parts (s : State) (k : Nat) (data : Tab Word) : onlyParts [.fu] s (State.writeRecord s k data) := by
  unfold State.writeRecord
  try dsimp (proj := false) only
  repeat' (first | simp (disch := decide) only [↓onlyParts.self, ↓State.store_keeps, ↓with_fu] | with_reducible (refine onlyParts.fold ?_ _ ?_) | with_reducible (refine onlyParts.foldSnd ?_ _ ?_) | (refine onlyParts.snd (by assumption) ?_) | split | (intro (_ : State) _; try dsimp (proj := false) only) | (intro (_ : _ × State) _; try dsimp (proj := false) only))
theorem State.writeRecord_keeps {L₀ : List Part} {s₀ : State} (s : State) (k : Nat) (data : Tab Word) (h₀ : [(.fu : Part)].all (L₀.contains ·) = true) : onlyParts L₀ s₀ (State.writeRecord s k data) ↔ onlyParts L₀ s₀ s :=
  onlyParts.step (State.writeRecord_parts s k data) h₀

theorem State.settle_parts (s : State) : onlyParts [.fu] s (State.settle s) := by
  unfold State.settle
  try dsimp (proj := false) only
  repeat' (first | simp (disch := decide) only [↓onlyParts.self, ↓State.store_keeps, ↓State.writeRecord_keeps, ↓with_fu] | with_reducible (refine onlyParts.fold ?_ _ ?_) | with_reducible (refine onlyParts.foldSnd ?_ _ ?_) | (refine onlyParts.snd (by assumption) ?_) | split | (intro (_ : State) _; try dsimp (proj := false) only) | (intro (_ : _ × State) _; try dsimp (proj := false) only))
theorem State.settle_keeps {L₀ : List Part} {s₀ : State} (s : State) (h₀ : [(.fu : Part)].all (L₀.contains ·) = true) : onlyParts L₀ s₀ (State.settle s) ↔ onlyParts L₀ s₀ s :=
  onlyParts.step (State.settle_parts s) h₀

theorem State.setTemplate_parts (s : State) (p : Nat) (b : Bytes) (fast : Bool) : onlyParts [.tw] s (State.setTemplate s p b fast) := by
  unfold State.setTemplate
  try dsimp (proj := false) only
  repeat' (first | simp (disch := decide) only [↓onlyParts.self, ↓State.twWith_keeps, ↓with_tw] | with_reducible (refine onlyParts.fold ?_ _ ?_) | with_reducible (refine onlyParts.foldSnd ?_ _ ?_) | (refine onlyParts.snd (by assumption) ?_) | split | (intro (_ : State) _; try dsimp (proj := false) only) | (intro (_ : _ × State) _; try dsimp (proj := false) only))
theorem State.setTemplate_keeps {L₀ : List Part} {s₀ : State} (s : State) (p : Nat) (b : Bytes) (fast : Bool) (h₀ : [(.tw : Part)].all (L₀.contains ·) = true) : onlyParts L₀ s₀ (State.setTemplate s p b fast) ↔ onlyParts L₀ s₀ s :=
  onlyParts.step (State.setTemplate_parts s p b fast) h₀

theorem State.put_parts (s : State) (f : FRef) (v : Nat) : onlyParts [.regs, .pend] s (State.put s f v) := by
  unfold State.put
  try dsimp (proj := false) only
  repeat' (first | simp (disch := decide) only [↓onlyParts.self, ↓State.store_keeps, ↓with_pend, ↓with_regs] | with_reducible (refine onlyParts.fold ?_ _ ?_) | with_reducible (refine onlyParts.foldSnd ?_ _ ?_) | (refine onlyParts.snd (by assumption) ?_) | split | (intro (_ : State) _; try dsimp (proj := false) only) | (intro (_ : _ × State) _; try dsimp (proj := false) only))
theorem State.put_keeps {L₀ : List Part} {s₀ : State} (s : State) (f : FRef) (v : Nat) (h₀ : [(.regs : Part), (.pend : Part)].all (L₀.contains ·) = true) : onlyParts L₀ s₀ (State.put s f v) ↔ onlyParts L₀ s₀ s :=
  onlyParts.step (State.put_parts s f v) h₀

theorem State.lagTemplates_parts (s : State) (mask : Nat) : onlyParts [.regs, .pend, .tw] s (State.lagTemplates s mask) := by
  unfold State.lagTemplates
  try dsimp (proj := false) only
  repeat' (first | simp (disch := decide) only [↓onlyParts.self, ↓State.put_keeps, ↓State.setTemplate_keeps, ↓with_pend, ↓with_regs, ↓with_tw] | with_reducible (refine onlyParts.fold ?_ _ ?_) | with_reducible (refine onlyParts.foldSnd ?_ _ ?_) | (refine onlyParts.snd (by assumption) ?_) | split | (intro (_ : State) _; try dsimp (proj := false) only) | (intro (_ : _ × State) _; try dsimp (proj := false) only))
theorem State.lagTemplates_keeps {L₀ : List Part} {s₀ : State} (s : State) (mask : Nat) (h₀ : [(.regs : Part), (.pend : Part), (.tw : Part)].all (L₀.contains ·) = true) : onlyParts L₀ s₀ (State.lagTemplates s mask) ↔ onlyParts L₀ s₀ s :=
  onlyParts.step (State.lagTemplates_parts s mask) h₀

theorem State.restore_parts (s : State) : onlyParts [.regs, .pend, .tw] s (State.restore s) := by
  unfold State.restore
  try dsimp (proj := false) only
  repeat' (first | simp (disch := decide) only [↓onlyParts.self, ↓State.lagTemplates_keeps, ↓State.store_keeps, ↓State.twWith_keeps, ↓with_pend, ↓with_regs, ↓with_tw] | with_reducible (refine onlyParts.fold ?_ _ ?_) | with_reducible (refine onlyParts.foldSnd ?_ _ ?_) | (refine onlyParts.snd (by assumption) ?_) | split | (intro (_ : State) _; try dsimp (proj := false) only) | (intro (_ : _ × State) _; try dsimp (proj := false) only))
theorem State.restore_keeps {L₀ : List Part} {s₀ : State} (s : State) (h₀ : [(.regs : Part), (.pend : Part), (.tw : Part)].all (L₀.contains ·) = true) : onlyParts L₀ s₀ (State.restore s) ↔ onlyParts L₀ s₀ s :=
  onlyParts.step (State.restore_parts s) h₀

theorem State.abortAll_parts (s : State) : onlyParts [.regs, .mbox, .mp] s (State.abortAll s) := by
  unfold State.abortAll
  try dsimp (proj := false) only
  repeat' (first | simp (disch := decide) only [↓onlyParts.self, ↓State.mbAnswer_keeps, ↓State.setMb_keeps, ↓with_mbox, ↓with_mp, ↓with_regs] | with_reducible (refine onlyParts.fold ?_ _ ?_) | with_reducible (refine onlyParts.foldSnd ?_ _ ?_) | (refine onlyParts.snd (by assumption) ?_) | split | (intro (_ : State) _; try dsimp (proj := false) only) | (intro (_ : _ × State) _; try dsimp (proj := false) only))
theorem State.abortAll_keeps {L₀ : List Part} {s₀ : State} (s : State) (h₀ : [(.regs : Part), (.mbox : Part), (.mp : Part)].all (L₀.contains ·) = true) : onlyParts L₀ s₀ (State.abortAll s) ↔ onlyParts L₀ s₀ s :=
  onlyParts.step (State.abortAll_parts s) h₀

theorem State.epochNext_parts (s : State) : onlyParts [.regs] s (State.epochNext s) := by
  unfold State.epochNext
  try dsimp (proj := false) only
  repeat' (first | simp (disch := decide) only [↓onlyParts.self, ↓State.raise_keeps, ↓State.set_keeps, ↓with_regs] | with_reducible (refine onlyParts.fold ?_ _ ?_) | with_reducible (refine onlyParts.foldSnd ?_ _ ?_) | (refine onlyParts.snd (by assumption) ?_) | split | (intro (_ : State) _; try dsimp (proj := false) only) | (intro (_ : _ × State) _; try dsimp (proj := false) only))
theorem State.epochNext_keeps {L₀ : List Part} {s₀ : State} (s : State) (h₀ : [(.regs : Part)].all (L₀.contains ·) = true) : onlyParts L₀ s₀ (State.epochNext s) ↔ onlyParts L₀ s₀ s :=
  onlyParts.step (State.epochNext_parts s) h₀

theorem State.stacksAnew_parts (s : State) : onlyParts [.hl, .chan, .ptp] s (State.stacksAnew s) := by
  unfold State.stacksAnew
  try dsimp (proj := false) only
  repeat' (first | simp (disch := decide) only [↓onlyParts.self, ↓State.setChan_keeps, ↓with_chan, ↓with_hl, ↓with_ptp] | with_reducible (refine onlyParts.fold ?_ _ ?_) | with_reducible (refine onlyParts.foldSnd ?_ _ ?_) | (refine onlyParts.snd (by assumption) ?_) | split | (intro (_ : State) _; try dsimp (proj := false) only) | (intro (_ : _ × State) _; try dsimp (proj := false) only))
theorem State.stacksAnew_keeps {L₀ : List Part} {s₀ : State} (s : State) (h₀ : [(.hl : Part), (.chan : Part), (.ptp : Part)].all (L₀.contains ·) = true) : onlyParts L₀ s₀ (State.stacksAnew s) ↔ onlyParts L₀ s₀ s :=
  onlyParts.step (State.stacksAnew_parts s) h₀

theorem State.factoryGrammar_parts (s : State) : onlyParts [.regs, .pend, .free] s (State.factoryGrammar s) := by
  unfold State.factoryGrammar
  try dsimp (proj := false) only
  repeat' (first | simp (disch := decide) only [↓onlyParts.self, ↓State.put_keeps, ↓State.wrs_keeps, ↓with_free, ↓with_pend, ↓with_regs] | with_reducible (refine onlyParts.fold ?_ _ ?_) | with_reducible (refine onlyParts.foldSnd ?_ _ ?_) | (refine onlyParts.snd (by assumption) ?_) | split | (intro (_ : State) _; try dsimp (proj := false) only) | (intro (_ : _ × State) _; try dsimp (proj := false) only))
theorem State.factoryGrammar_keeps {L₀ : List Part} {s₀ : State} (s : State) (h₀ : [(.regs : Part), (.pend : Part), (.free : Part)].all (L₀.contains ·) = true) : onlyParts L₀ s₀ (State.factoryGrammar s) ↔ onlyParts L₀ s₀ s :=
  onlyParts.step (State.factoryGrammar_parts s) h₀

theorem State.mpServes_parts (s : State) : onlyParts [.regs, .pend, .free, .mbox, .mp, .hl, .chan, .tw, .ptp] s (State.mpServes s) := by
  unfold State.mpServes
  try dsimp (proj := false) only
  repeat' (first | simp (disch := decide) only [↓onlyParts.self, ↓State.abortAll_keeps, ↓State.epochNext_keeps, ↓State.factoryGrammar_keeps, ↓State.restore_keeps, ↓State.set_keeps, ↓State.setB_keeps, ↓State.stacksAnew_keeps, ↓with_chan, ↓with_free, ↓with_hl, ↓with_mbox, ↓with_mp, ↓with_pend, ↓with_ptp, ↓with_regs, ↓with_tw] | with_reducible (refine onlyParts.fold ?_ _ ?_) | with_reducible (refine onlyParts.foldSnd ?_ _ ?_) | (refine onlyParts.snd (by assumption) ?_) | split | (intro (_ : State) _; try dsimp (proj := false) only) | (intro (_ : _ × State) _; try dsimp (proj := false) only))
theorem State.mpServes_keeps {L₀ : List Part} {s₀ : State} (s : State) (h₀ : [(.regs : Part), (.pend : Part), (.free : Part), (.mbox : Part), (.mp : Part), (.hl : Part), (.chan : Part), (.tw : Part), (.ptp : Part)].all (L₀.contains ·) = true) : onlyParts L₀ s₀ (State.mpServes s) ↔ onlyParts L₀ s₀ s :=
  onlyParts.step (State.mpServes_parts s) h₀

theorem State.dwrr_parts (s : State) (srv : Nat) (qs : List Nat) (ready : Nat → Bool) (weight : Nat → Nat) (n : Nat) : onlyParts [.sc] s (State.dwrr s srv qs ready weight n).2 := by
  induction n generalizing s with
  | zero => exact onlyParts.refl
  | succ n ih =>
    have keep {L₀ : List Part} {s₀ : State} (t : State) (q : ([.sc] : List Part).all (L₀.contains ·) = true) : onlyParts L₀ s₀ (State.dwrr t srv qs ready weight n).2 ↔ onlyParts L₀ s₀ t := onlyParts.step (ih (s := t)) q
    unfold State.dwrr
    try dsimp (proj := false) only
    repeat' (first | simp (disch := decide) only [↓onlyParts.self, ↓State.put_keeps, ↓with_sc, ↓keep] | with_reducible (refine onlyParts.fold ?_ _ ?_) | with_reducible (refine onlyParts.foldSnd ?_ _ ?_) | (refine onlyParts.snd (by assumption) ?_) | split | (intro (_ : State) _; try dsimp (proj := false) only) | (intro (_ : _ × State) _; try dsimp (proj := false) only))
theorem State.dwrr_keeps {L₀ : List Part} {s₀ : State} (s : State) (srv : Nat) (qs : List Nat) (ready : Nat → Bool) (weight : Nat → Nat) (n : Nat) (h₀ : [(.sc : Part)].all (L₀.contains ·) = true) : onlyParts L₀ s₀ (State.dwrr s srv qs ready weight n).2 ↔ onlyParts L₀ s₀ s :=
  onlyParts.step (State.dwrr_parts s srv qs ready weight n) h₀

theorem State.hostServe_parts (s : State) : onlyParts [.sc] s (State.hostServe s).2 := by
  unfold State.hostServe
  try dsimp (proj := false) only
  repeat' (first | simp (disch := decide) only [↓onlyParts.self, ↓State.dwrr_keeps, ↓with_sc] | with_reducible (refine onlyParts.fold ?_ _ ?_) | with_reducible (refine onlyParts.foldSnd ?_ _ ?_) | (refine onlyParts.snd (by assumption) ?_) | split | (intro (_ : State) _; try dsimp (proj := false) only) | (intro (_ : _ × State) _; try dsimp (proj := false) only))
theorem State.hostServe_keeps {L₀ : List Part} {s₀ : State} (s : State) (h₀ : [(.sc : Part)].all (L₀.contains ·) = true) : onlyParts L₀ s₀ (State.hostServe s).2 ↔ onlyParts L₀ s₀ s :=
  onlyParts.step (State.hostServe_parts s) h₀

theorem State.setOcc_parts (s : State) (q n : Nat) : onlyParts [.regs] s (State.setOcc s q n) := by
  unfold State.setOcc
  try dsimp (proj := false) only
  repeat' (first | simp (disch := decide) only [↓onlyParts.self, ↓State.set_keeps, ↓with_regs] | with_reducible (refine onlyParts.fold ?_ _ ?_) | with_reducible (refine onlyParts.foldSnd ?_ _ ?_) | (refine onlyParts.snd (by assumption) ?_) | split | (intro (_ : State) _; try dsimp (proj := false) only) | (intro (_ : _ × State) _; try dsimp (proj := false) only))
theorem State.setOcc_keeps {L₀ : List Part} {s₀ : State} (s : State) (q n : Nat) (h₀ : [(.regs : Part)].all (L₀.contains ·) = true) : onlyParts L₀ s₀ (State.setOcc s q n) ↔ onlyParts L₀ s₀ s :=
  onlyParts.step (State.setOcc_parts s q n) h₀

theorem State.markHead_parts (s : State) (q : Nat) : onlyParts [.sc] s (State.markHead s q) := by
  unfold State.markHead
  try dsimp (proj := false) only
  repeat' (first | simp (disch := decide) only [↓onlyParts.self, ↓State.setPkt_keeps, ↓with_sc] | with_reducible (refine onlyParts.fold ?_ _ ?_) | with_reducible (refine onlyParts.foldSnd ?_ _ ?_) | (refine onlyParts.snd (by assumption) ?_) | split | (intro (_ : State) _; try dsimp (proj := false) only) | (intro (_ : _ × State) _; try dsimp (proj := false) only))
theorem State.markHead_keeps {L₀ : List Part} {s₀ : State} (s : State) (q : Nat) (h₀ : [(.sc : Part)].all (L₀.contains ·) = true) : onlyParts L₀ s₀ (State.markHead s q) ↔ onlyParts L₀ s₀ s :=
  onlyParts.step (State.markHead_parts s q) h₀

theorem State.fetch_parts (s : State) (q : Nat) : onlyParts [.regs, .sc] s (State.fetch s q) := by
  unfold State.fetch
  try dsimp (proj := false) only
  repeat' (first | simp (disch := decide) only [↓onlyParts.self, ↓State.pm_keeps, ↓State.setPkt_keeps, ↓State.store_keeps, ↓with_regs, ↓with_sc] | with_reducible (refine onlyParts.fold ?_ _ ?_) | with_reducible (refine onlyParts.foldSnd ?_ _ ?_) | (refine onlyParts.snd (by assumption) ?_) | split | (intro (_ : State) _; try dsimp (proj := false) only) | (intro (_ : _ × State) _; try dsimp (proj := false) only))
theorem State.fetch_keeps {L₀ : List Part} {s₀ : State} (s : State) (q : Nat) (h₀ : [(.regs : Part), (.sc : Part)].all (L₀.contains ·) = true) : onlyParts L₀ s₀ (State.fetch s q) ↔ onlyParts L₀ s₀ s :=
  onlyParts.step (State.fetch_parts s q) h₀

theorem State.setQueue_parts (s : State) (q : Nat) (l : List (Nat × Nat)) : onlyParts [.regs, .sc] s (State.setQueue s q l) := by
  unfold State.setQueue
  try dsimp (proj := false) only
  repeat' (first | simp (disch := decide) only [↓onlyParts.self, ↓State.fetch_keeps, ↓State.markHead_keeps, ↓State.put_keeps, ↓with_regs, ↓with_sc] | with_reducible (refine onlyParts.fold ?_ _ ?_) | with_reducible (refine onlyParts.foldSnd ?_ _ ?_) | (refine onlyParts.snd (by assumption) ?_) | split | (intro (_ : State) _; try dsimp (proj := false) only) | (intro (_ : _ × State) _; try dsimp (proj := false) only))
theorem State.setQueue_keeps {L₀ : List Part} {s₀ : State} (s : State) (q : Nat) (l : List (Nat × Nat)) (h₀ : [(.regs : Part), (.sc : Part)].all (L₀.contains ·) = true) : onlyParts L₀ s₀ (State.setQueue s q l) ↔ onlyParts L₀ s₀ s :=
  onlyParts.step (State.setQueue_parts s q l) h₀

theorem State.dequeue_parts (s : State) (id q : Nat) : onlyParts [.regs, .sc] s (State.dequeue s id q) := by
  unfold State.dequeue
  try dsimp (proj := false) only
  repeat' (first | simp (disch := decide) only [↓onlyParts.self, ↓State.setOcc_keeps, ↓State.setQueue_keeps, ↓with_regs, ↓with_sc] | with_reducible (refine onlyParts.fold ?_ _ ?_) | with_reducible (refine onlyParts.foldSnd ?_ _ ?_) | (refine onlyParts.snd (by assumption) ?_) | split | (intro (_ : State) _; try dsimp (proj := false) only) | (intro (_ : _ × State) _; try dsimp (proj := false) only))
theorem State.dequeue_keeps {L₀ : List Part} {s₀ : State} (s : State) (id q : Nat) (h₀ : [(.regs : Part), (.sc : Part)].all (L₀.contains ·) = true) : onlyParts L₀ s₀ (State.dequeue s id q) ↔ onlyParts L₀ s₀ s :=
  onlyParts.step (State.dequeue_parts s id q) h₀

theorem State.lateFail_parts (s : State) (x : Pkt) : onlyParts [.regs] s (State.lateFail s x) := by
  unfold State.lateFail
  try dsimp (proj := false) only
  repeat' (first | simp (disch := decide) only [↓onlyParts.self, ↓State.inc_keeps, ↓State.pm_keeps, ↓with_regs] | with_reducible (refine onlyParts.fold ?_ _ ?_) | with_reducible (refine onlyParts.foldSnd ?_ _ ?_) | (refine onlyParts.snd (by assumption) ?_) | split | (intro (_ : State) _; try dsimp (proj := false) only) | (intro (_ : _ × State) _; try dsimp (proj := false) only))
theorem State.lateFail_keeps {L₀ : List Part} {s₀ : State} (s : State) (x : Pkt) (h₀ : [(.regs : Part)].all (L₀.contains ·) = true) : onlyParts L₀ s₀ (State.lateFail s x) ↔ onlyParts L₀ s₀ s :=
  onlyParts.step (State.lateFail_parts s x) h₀

theorem State.dropPkt_parts (s : State) (id : Nat) : onlyParts [.regs, .sc] s (State.dropPkt s id) := by
  unfold State.dropPkt
  try dsimp (proj := false) only
  repeat' (first | simp (disch := decide) only [↓onlyParts.self, ↓State.lateFail_keeps, ↓State.setPkt_keeps, ↓with_regs, ↓with_sc] | with_reducible (refine onlyParts.fold ?_ _ ?_) | with_reducible (refine onlyParts.foldSnd ?_ _ ?_) | (refine onlyParts.snd (by assumption) ?_) | split | (intro (_ : State) _; try dsimp (proj := false) only) | (intro (_ : _ × State) _; try dsimp (proj := false) only))
theorem State.dropPkt_keeps {L₀ : List Part} {s₀ : State} (s : State) (id : Nat) (h₀ : [(.regs : Part), (.sc : Part)].all (L₀.contains ·) = true) : onlyParts L₀ s₀ (State.dropPkt s id) ↔ onlyParts L₀ s₀ s :=
  onlyParts.step (State.dropPkt_parts s id) h₀

theorem State.flowCheck_parts (s : State) (p t : Nat) : onlyParts [.sc] s (State.flowCheck s p t) := by
  unfold State.flowCheck
  try dsimp (proj := false) only
  repeat' (first | simp (disch := decide) only [↓onlyParts.self, ↓State.put_keeps, ↓with_sc] | with_reducible (refine onlyParts.fold ?_ _ ?_) | with_reducible (refine onlyParts.foldSnd ?_ _ ?_) | (refine onlyParts.snd (by assumption) ?_) | split | (intro (_ : State) _; try dsimp (proj := false) only) | (intro (_ : _ × State) _; try dsimp (proj := false) only))
theorem State.flowCheck_keeps {L₀ : List Part} {s₀ : State} (s : State) (p t : Nat) (h₀ : [(.sc : Part)].all (L₀.contains ·) = true) : onlyParts L₀ s₀ (State.flowCheck s p t) ↔ onlyParts L₀ s₀ s :=
  onlyParts.step (State.flowCheck_parts s p t) h₀

theorem State.hold_parts (s : State) (x : Pkt) (add : Bool) : onlyParts [.sc] s (State.hold s x add) := by
  unfold State.hold
  try dsimp (proj := false) only
  repeat' (first | simp (disch := decide) only [↓onlyParts.self, ↓State.flowCheck_keeps, ↓State.put_keeps, ↓with_sc] | with_reducible (refine onlyParts.fold ?_ _ ?_) | with_reducible (refine onlyParts.foldSnd ?_ _ ?_) | (refine onlyParts.snd (by assumption) ?_) | split | (intro (_ : State) _; try dsimp (proj := false) only) | (intro (_ : _ × State) _; try dsimp (proj := false) only))
theorem State.hold_keeps {L₀ : List Part} {s₀ : State} (s : State) (x : Pkt) (add : Bool) (h₀ : [(.sc : Part)].all (L₀.contains ·) = true) : onlyParts L₀ s₀ (State.hold s x add) ↔ onlyParts L₀ s₀ s :=
  onlyParts.step (State.hold_parts s x add) h₀

theorem State.unref_parts (s : State) (id : Nat) : onlyParts [.regs, .sc] s (State.unref s id) := by
  unfold State.unref
  try dsimp (proj := false) only
  repeat' (first | simp (disch := decide) only [↓onlyParts.self, ↓State.dropPkt_keeps, ↓State.hold_keeps, ↓State.set_keeps, ↓State.setPkt_keeps, ↓State.store_keeps, ↓with_regs, ↓with_sc] | with_reducible (refine onlyParts.fold ?_ _ ?_) | with_reducible (refine onlyParts.foldSnd ?_ _ ?_) | (refine onlyParts.snd (by assumption) ?_) | split | (intro (_ : State) _; try dsimp (proj := false) only) | (intro (_ : _ × State) _; try dsimp (proj := false) only))
theorem State.unref_keeps {L₀ : List Part} {s₀ : State} (s : State) (id : Nat) (h₀ : [(.regs : Part), (.sc : Part)].all (L₀.contains ·) = true) : onlyParts L₀ s₀ (State.unref s id) ↔ onlyParts L₀ s₀ s :=
  onlyParts.step (State.unref_parts s id) h₀

theorem State.countDelay_parts (s : State) (q d : Nat) : onlyParts [.regs] s (State.countDelay s q d) := by
  unfold State.countDelay
  try dsimp (proj := false) only
  repeat' (first | simp (disch := decide) only [↓onlyParts.self, ↓State.inc_keeps, ↓with_regs] | with_reducible (refine onlyParts.fold ?_ _ ?_) | with_reducible (refine onlyParts.foldSnd ?_ _ ?_) | (refine onlyParts.snd (by assumption) ?_) | split | (intro (_ : State) _; try dsimp (proj := false) only) | (intro (_ : _ × State) _; try dsimp (proj := false) only))
theorem State.countDelay_keeps {L₀ : List Part} {s₀ : State} (s : State) (q d : Nat) (h₀ : [(.regs : Part)].all (L₀.contains ·) = true) : onlyParts L₀ s₀ (State.countDelay s q d) ↔ onlyParts L₀ s₀ s :=
  onlyParts.step (State.countDelay_parts s q d) h₀

theorem State.cpuDone_parts (s : State) (id q since : Nat) : onlyParts [.regs, .sc] s (State.cpuDone s id q since) := by
  unfold State.cpuDone
  try dsimp (proj := false) only
  repeat' (first | simp (disch := decide) only [↓onlyParts.self, ↓State.countDelay_keeps, ↓State.dequeue_keeps, ↓State.unref_keeps, ↓with_regs, ↓with_sc] | with_reducible (refine onlyParts.fold ?_ _ ?_) | with_reducible (refine onlyParts.foldSnd ?_ _ ?_) | (refine onlyParts.snd (by assumption) ?_) | split | (intro (_ : State) _; try dsimp (proj := false) only) | (intro (_ : _ × State) _; try dsimp (proj := false) only))
theorem State.cpuDone_keeps {L₀ : List Part} {s₀ : State} (s : State) (id q since : Nat) (h₀ : [(.regs : Part), (.sc : Part)].all (L₀.contains ·) = true) : onlyParts L₀ s₀ (State.cpuDone s id q since) ↔ onlyParts L₀ s₀ s :=
  onlyParts.step (State.cpuDone_parts s id q since) h₀

theorem State.descWrite_parts (s : State) (addr i : Nat) (ws : List Word) : onlyParts [.sent] s (State.descWrite s addr i ws) := by
  unfold State.descWrite
  try dsimp (proj := false) only
  repeat' (first | simp (disch := decide) only [↓onlyParts.self, ↓State.emit_keeps, ↓with_sent] | with_reducible (refine onlyParts.fold ?_ _ ?_) | with_reducible (refine onlyParts.foldSnd ?_ _ ?_) | (refine onlyParts.snd (by assumption) ?_) | split | (intro (_ : State) _; try dsimp (proj := false) only) | (intro (_ : _ × State) _; try dsimp (proj := false) only))
theorem State.descWrite_keeps {L₀ : List Part} {s₀ : State} (s : State) (addr i : Nat) (ws : List Word) (h₀ : [(.sent : Part)].all (L₀.contains ·) = true) : onlyParts L₀ s₀ (State.descWrite s addr i ws) ↔ onlyParts L₀ s₀ s :=
  onlyParts.step (State.descWrite_parts s addr i ws) h₀

theorem State.ringNext_parts (s : State) (k : Ring) : onlyParts [.regs] s (State.ringNext s k) := by
  unfold State.ringNext
  try dsimp (proj := false) only
  repeat' (first | simp (disch := decide) only [↓onlyParts.self, ↓State.ringIdle_keeps, ↓State.set_keeps, ↓with_regs] | with_reducible (refine onlyParts.fold ?_ _ ?_) | with_reducible (refine onlyParts.foldSnd ?_ _ ?_) | (refine onlyParts.snd (by assumption) ?_) | split | (intro (_ : State) _; try dsimp (proj := false) only) | (intro (_ : _ × State) _; try dsimp (proj := false) only))
theorem State.ringNext_keeps {L₀ : List Part} {s₀ : State} (s : State) (k : Ring) (h₀ : [(.regs : Part)].all (L₀.contains ·) = true) : onlyParts L₀ s₀ (State.ringNext s k) ↔ onlyParts L₀ s₀ s :=
  onlyParts.step (State.ringNext_parts s k) h₀

theorem State.charge_parts (s : State) (q len : Nat) : onlyParts [.sc] s (State.charge s q len) := by
  unfold State.charge
  try dsimp (proj := false) only
  repeat' (first | simp (disch := decide) only [↓onlyParts.self, ↓State.put_keeps, ↓with_sc] | with_reducible (refine onlyParts.fold ?_ _ ?_) | with_reducible (refine onlyParts.foldSnd ?_ _ ?_) | (refine onlyParts.snd (by assumption) ?_) | split | (intro (_ : State) _; try dsimp (proj := false) only) | (intro (_ : _ × State) _; try dsimp (proj := false) only))
theorem State.charge_keeps {L₀ : List Part} {s₀ : State} (s : State) (q len : Nat) (h₀ : [(.sc : Part)].all (L₀.contains ·) = true) : onlyParts L₀ s₀ (State.charge s q len) ↔ onlyParts L₀ s₀ s :=
  onlyParts.step (State.charge_parts s q len) h₀

theorem State.ringStop_parts (s : State) (k : Ring) : onlyParts [.regs] s (State.ringStop s k) := by
  unfold State.ringStop
  try dsimp (proj := false) only
  repeat' (first | simp (disch := decide) only [↓onlyParts.self, ↓State.set_keeps, ↓with_regs] | with_reducible (refine onlyParts.fold ?_ _ ?_) | with_reducible (refine onlyParts.foldSnd ?_ _ ?_) | (refine onlyParts.snd (by assumption) ?_) | split | (intro (_ : State) _; try dsimp (proj := false) only) | (intro (_ : _ × State) _; try dsimp (proj := false) only))
theorem State.ringStop_keeps {L₀ : List Part} {s₀ : State} (s : State) (k : Ring) (h₀ : [(.regs : Part)].all (L₀.contains ·) = true) : onlyParts L₀ s₀ (State.ringStop s k) ↔ onlyParts L₀ s₀ s :=
  onlyParts.step (State.ringStop_parts s k) h₀

theorem State.receive_parts (s : State) (c : Nat) (w : List Word) (dma : DmaEnd) : onlyParts [.regs, .sent, .sc] s (State.receive s c w dma) := by
  unfold State.receive
  try dsimp (proj := false) only
  repeat' (first | simp (disch := decide) only [↓onlyParts.self, ↓State.charge_keeps, ↓State.cpuDone_keeps, ↓State.descWrite_keeps, ↓State.emit_keeps, ↓State.ringNext_keeps, ↓State.ringStop_keeps, ↓State.setBit_keeps, ↓with_regs, ↓with_sc, ↓with_sent] | with_reducible (refine onlyParts.fold ?_ _ ?_) | with_reducible (refine onlyParts.foldSnd ?_ _ ?_) | (refine onlyParts.snd (by assumption) ?_) | split | (intro (_ : State) _; try dsimp (proj := false) only) | (intro (_ : _ × State) _; try dsimp (proj := false) only))
theorem State.receive_keeps {L₀ : List Part} {s₀ : State} (s : State) (c : Nat) (w : List Word) (dma : DmaEnd) (h₀ : [(.regs : Part), (.sent : Part), (.sc : Part)].all (L₀.contains ·) = true) : onlyParts L₀ s₀ (State.receive s c w dma) ↔ onlyParts L₀ s₀ s :=
  onlyParts.step (State.receive_parts s c w dma) h₀

theorem State.mpServe_parts (s : State) : onlyParts [.sc] s (State.mpServe s).2 := by
  unfold State.mpServe
  try dsimp (proj := false) only
  repeat' (first | simp (disch := decide) only [↓onlyParts.self, ↓State.dwrr_keeps, ↓with_sc] | with_reducible (refine onlyParts.fold ?_ _ ?_) | with_reducible (refine onlyParts.foldSnd ?_ _ ?_) | (refine onlyParts.snd (by assumption) ?_) | split | (intro (_ : State) _; try dsimp (proj := false) only) | (intro (_ : _ × State) _; try dsimp (proj := false) only))
theorem State.mpServe_keeps {L₀ : List Part} {s₀ : State} (s : State) (h₀ : [(.sc : Part)].all (L₀.contains ·) = true) : onlyParts L₀ s₀ (State.mpServe s).2 ↔ onlyParts L₀ s₀ s :=
  onlyParts.step (State.mpServe_parts s) h₀

theorem State.mpNext_parts (s : State) (n : Nat) : onlyParts [.regs, .sc] s (State.mpNext s n).2 := by
  induction n generalizing s with
  | zero => exact onlyParts.refl
  | succ n ih =>
    have keep {L₀ : List Part} {s₀ : State} (t : State) (q : ([.regs, .sc] : List Part).all (L₀.contains ·) = true) : onlyParts L₀ s₀ (State.mpNext t n).2 ↔ onlyParts L₀ s₀ t := onlyParts.step (ih (s := t)) q
    unfold State.mpNext
    try dsimp (proj := false) only
    repeat' (first | simp (disch := decide) only [↓onlyParts.self, ↓State.charge_keeps, ↓State.dequeue_keeps, ↓State.mpServe_keeps, ↓State.unref_keeps, ↓with_regs, ↓with_sc, ↓keep] | with_reducible (refine onlyParts.fold ?_ _ ?_) | with_reducible (refine onlyParts.foldSnd ?_ _ ?_) | (refine onlyParts.snd (by assumption) ?_) | split | (intro (_ : State) _; try dsimp (proj := false) only) | (intro (_ : _ × State) _; try dsimp (proj := false) only))
theorem State.mpNext_keeps {L₀ : List Part} {s₀ : State} (s : State) (n : Nat) (h₀ : [(.regs : Part), (.sc : Part)].all (L₀.contains ·) = true) : onlyParts L₀ s₀ (State.mpNext s n).2 ↔ onlyParts L₀ s₀ s :=
  onlyParts.step (State.mpNext_parts s n) h₀

theorem State.mpHead_parts (s : State) : onlyParts [.regs, .sc] s (State.mpHead s).2 := by
  unfold State.mpHead
  try dsimp (proj := false) only
  repeat' (first | simp (disch := decide) only [↓onlyParts.self, ↓State.mpNext_keeps, ↓with_regs, ↓with_sc] | with_reducible (refine onlyParts.fold ?_ _ ?_) | with_reducible (refine onlyParts.foldSnd ?_ _ ?_) | (refine onlyParts.snd (by assumption) ?_) | split | (intro (_ : State) _; try dsimp (proj := false) only) | (intro (_ : _ × State) _; try dsimp (proj := false) only))
theorem State.mpHead_keeps {L₀ : List Part} {s₀ : State} (s : State) (h₀ : [(.regs : Part), (.sc : Part)].all (L₀.contains ·) = true) : onlyParts L₀ s₀ (State.mpHead s).2 ↔ onlyParts L₀ s₀ s :=
  onlyParts.step (State.mpHead_parts s) h₀

theorem State.mpTakes_parts (s : State) : onlyParts [.regs, .sc] s (State.mpTakes s) := by
  unfold State.mpTakes
  try dsimp (proj := false) only
  repeat' (first | simp (disch := decide) only [↓onlyParts.self, ↓State.charge_keeps, ↓State.cpuDone_keeps, ↓State.mpHead_keeps, ↓State.pm_keeps, ↓with_regs, ↓with_sc] | with_reducible (refine onlyParts.fold ?_ _ ?_) | with_reducible (refine onlyParts.foldSnd ?_ _ ?_) | (refine onlyParts.snd (by assumption) ?_) | split | (intro (_ : State) _; try dsimp (proj := false) only) | (intro (_ : _ × State) _; try dsimp (proj := false) only))
theorem State.mpTakes_keeps {L₀ : List Part} {s₀ : State} (s : State) (h₀ : [(.regs : Part), (.sc : Part)].all (L₀.contains ·) = true) : onlyParts L₀ s₀ (State.mpTakes s) ↔ onlyParts L₀ s₀ s :=
  onlyParts.step (State.mpTakes_parts s) h₀

theorem State.takeFrom_parts (s : State) (size : Nat) (used : List Nat) (n : Nat) : onlyParts [.free] s (State.takeFrom s size used n).2 := by
  induction n generalizing s used with
  | zero => exact onlyParts.refl
  | succ n ih =>
    have keep {L₀ : List Part} {s₀ : State} (t : State) (used : List Nat) (q : ([.free] : List Part).all (L₀.contains ·) = true) : onlyParts L₀ s₀ (State.takeFrom t size used n).2 ↔ onlyParts L₀ s₀ t := onlyParts.step (ih (s := t) (used := used)) q
    unfold State.takeFrom
    try dsimp (proj := false) only
    repeat' (first | simp (disch := decide) only [↓onlyParts.self, ↓State.draw_keeps, ↓with_free, ↓keep] | with_reducible (refine onlyParts.fold ?_ _ ?_) | with_reducible (refine onlyParts.foldSnd ?_ _ ?_) | (refine onlyParts.snd (by assumption) ?_) | split | (intro (_ : State) _; try dsimp (proj := false) only) | (intro (_ : _ × State) _; try dsimp (proj := false) only))
theorem State.takeFrom_keeps {L₀ : List Part} {s₀ : State} (s : State) (size : Nat) (used : List Nat) (n : Nat) (h₀ : [(.free : Part)].all (L₀.contains ·) = true) : onlyParts L₀ s₀ (State.takeFrom s size used n).2 ↔ onlyParts L₀ s₀ s :=
  onlyParts.step (State.takeFrom_parts s size used n) h₀

theorem State.takeCells_parts (s : State) (m n : Nat) : onlyParts [.free] s (State.takeCells s m n).2 := by
  unfold State.takeCells
  try dsimp (proj := false) only
  repeat' (first | simp (disch := decide) only [↓onlyParts.self, ↓State.takeFrom_keeps, ↓with_free] | with_reducible (refine onlyParts.fold ?_ _ ?_) | with_reducible (refine onlyParts.foldSnd ?_ _ ?_) | (refine onlyParts.snd (by assumption) ?_) | split | (intro (_ : State) _; try dsimp (proj := false) only) | (intro (_ : _ × State) _; try dsimp (proj := false) only))
theorem State.takeCells_keeps {L₀ : List Part} {s₀ : State} (s : State) (m n : Nat) (h₀ : [(.free : Part)].all (L₀.contains ·) = true) : onlyParts L₀ s₀ (State.takeCells s m n).2 ↔ onlyParts L₀ s₀ s :=
  onlyParts.step (State.takeCells_parts s m n) h₀

theorem State.countDrop_parts (s : State) (q code : Nat) : onlyParts [.regs] s (State.countDrop s q code) := by
  unfold State.countDrop
  try dsimp (proj := false) only
  repeat' (first | simp (disch := decide) only [↓onlyParts.self, ↓State.inc_keeps, ↓State.raise_keeps, ↓with_regs] | with_reducible (refine onlyParts.fold ?_ _ ?_) | with_reducible (refine onlyParts.foldSnd ?_ _ ?_) | (refine onlyParts.snd (by assumption) ?_) | split | (intro (_ : State) _; try dsimp (proj := false) only) | (intro (_ : _ × State) _; try dsimp (proj := false) only))
theorem State.countDrop_keeps {L₀ : List Part} {s₀ : State} (s : State) (q code : Nat) (h₀ : [(.regs : Part)].all (L₀.contains ·) = true) : onlyParts L₀ s₀ (State.countDrop s q code) ↔ onlyParts L₀ s₀ s :=
  onlyParts.step (State.countDrop_parts s q code) h₀

theorem State.replicate_parts (s : State) (id : Nat) : onlyParts [.regs, .sc] s (State.replicate s id) := by
  unfold State.replicate
  try dsimp (proj := false) only
  repeat' (first | simp (disch := decide) only [↓onlyParts.self, ↓State.countDrop_keeps, ↓State.setPkt_keeps, ↓with_regs, ↓with_sc] | with_reducible (refine onlyParts.fold ?_ _ ?_) | with_reducible (refine onlyParts.foldSnd ?_ _ ?_) | (refine onlyParts.snd (by assumption) ?_) | split | (intro (_ : State) _; try dsimp (proj := false) only) | (intro (_ : _ × State) _; try dsimp (proj := false) only))
theorem State.replicate_keeps {L₀ : List Part} {s₀ : State} (s : State) (id : Nat) (h₀ : [(.regs : Part), (.sc : Part)].all (L₀.contains ·) = true) : onlyParts L₀ s₀ (State.replicate s id) ↔ onlyParts L₀ s₀ s :=
  onlyParts.step (State.replicate_parts s id) h₀

theorem State.redAvg_parts (s : State) (q : Nat) : onlyParts [.sc] s (State.redAvg s q) := by
  unfold State.redAvg
  try dsimp (proj := false) only
  repeat' (first | simp (disch := decide) only [↓onlyParts.self, ↓State.put_keeps, ↓with_sc] | with_reducible (refine onlyParts.fold ?_ _ ?_) | with_reducible (refine onlyParts.foldSnd ?_ _ ?_) | (refine onlyParts.snd (by assumption) ?_) | split | (intro (_ : State) _; try dsimp (proj := false) only) | (intro (_ : _ × State) _; try dsimp (proj := false) only))
theorem State.redAvg_keeps {L₀ : List Part} {s₀ : State} (s : State) (q : Nat) (h₀ : [(.sc : Part)].all (L₀.contains ·) = true) : onlyParts L₀ s₀ (State.redAvg s q) ↔ onlyParts L₀ s₀ s :=
  onlyParts.step (State.redAvg_parts s q) h₀

theorem State.pmTrace_parts (s : State) (rcd : List Word) : onlyParts [.regs] s (State.pmTrace s rcd) := by
  unfold State.pmTrace
  try dsimp (proj := false) only
  repeat' (first | simp (disch := decide) only [↓onlyParts.self, ↓State.inc_keeps, ↓State.raise_keeps, ↓State.set_keeps, ↓State.wrs_keeps, ↓with_regs] | with_reducible (refine onlyParts.fold ?_ _ ?_) | with_reducible (refine onlyParts.foldSnd ?_ _ ?_) | (refine onlyParts.snd (by assumption) ?_) | split | (intro (_ : State) _; try dsimp (proj := false) only) | (intro (_ : _ × State) _; try dsimp (proj := false) only))
theorem State.pmTrace_keeps {L₀ : List Part} {s₀ : State} (s : State) (rcd : List Word) (h₀ : [(.regs : Part)].all (L₀.contains ·) = true) : onlyParts L₀ s₀ (State.pmTrace s rcd) ↔ onlyParts L₀ s₀ s :=
  onlyParts.step (State.pmTrace_parts s rcd) h₀

theorem State.traceOut_parts (s : State) (id : Nat) (out q : Nat) (drop : Option Nat) (d5 : Option Nat) : onlyParts [.regs, .sc] s (State.traceOut s id out q drop d5) := by
  unfold State.traceOut
  try dsimp (proj := false) only
  repeat' (first | simp (disch := decide) only [↓onlyParts.self, ↓State.pmTrace_keeps, ↓State.setPkt_keeps, ↓with_regs, ↓with_sc] | with_reducible (refine onlyParts.fold ?_ _ ?_) | with_reducible (refine onlyParts.foldSnd ?_ _ ?_) | (refine onlyParts.snd (by assumption) ?_) | split | (intro (_ : State) _; try dsimp (proj := false) only) | (intro (_ : _ × State) _; try dsimp (proj := false) only))
theorem State.traceOut_keeps {L₀ : List Part} {s₀ : State} (s : State) (id : Nat) (out q : Nat) (drop : Option Nat) (d5 : Option Nat) (h₀ : [(.regs : Part), (.sc : Part)].all (L₀.contains ·) = true) : onlyParts L₀ s₀ (State.traceOut s id out q drop d5) ↔ onlyParts L₀ s₀ s :=
  onlyParts.step (State.traceOut_parts s id out q drop d5) h₀

theorem State.txStamp_parts (s : State) (p : Nat) (x : Pkt) (t : Option Time) : onlyParts [.regs, .txts] s (State.txStamp s p x t) := by
  unfold State.txStamp
  try dsimp (proj := false) only
  repeat' (first | simp (disch := decide) only [↓onlyParts.self, ↓State.inc_keeps, ↓State.pm_keeps, ↓State.put_keeps, ↓State.raise_keeps, ↓with_regs, ↓with_txts] | with_reducible (refine onlyParts.fold ?_ _ ?_) | with_reducible (refine onlyParts.foldSnd ?_ _ ?_) | (refine onlyParts.snd (by assumption) ?_) | split | (intro (_ : State) _; try dsimp (proj := false) only) | (intro (_ : _ × State) _; try dsimp (proj := false) only))
theorem State.txStamp_keeps {L₀ : List Part} {s₀ : State} (s : State) (p : Nat) (x : Pkt) (t : Option Time) (h₀ : [(.regs : Part), (.txts : Part)].all (L₀.contains ·) = true) : onlyParts L₀ s₀ (State.txStamp s p x t) ↔ onlyParts L₀ s₀ s :=
  onlyParts.step (State.txStamp_parts s p x t) h₀

theorem State.txDropped_parts (s : State) (q : Nat) (x : Pkt) : onlyParts [.regs, .txts] s (State.txDropped s q x) := by
  unfold State.txDropped
  try dsimp (proj := false) only
  repeat' (first | simp (disch := decide) only [↓onlyParts.self, ↓State.txStamp_keeps, ↓with_regs, ↓with_txts] | with_reducible (refine onlyParts.fold ?_ _ ?_) | with_reducible (refine onlyParts.foldSnd ?_ _ ?_) | (refine onlyParts.snd (by assumption) ?_) | split | (intro (_ : State) _; try dsimp (proj := false) only) | (intro (_ : _ × State) _; try dsimp (proj := false) only))
theorem State.txDropped_keeps {L₀ : List Part} {s₀ : State} (s : State) (q : Nat) (x : Pkt) (h₀ : [(.regs : Part), (.txts : Part)].all (L₀.contains ·) = true) : onlyParts L₀ s₀ (State.txDropped s q x) ↔ onlyParts L₀ s₀ s :=
  onlyParts.step (State.txDropped_parts s q x) h₀

theorem State.refuse_parts (s : State) (id : Nat) (x : Pkt) (q code : Nat) : onlyParts [.regs, .sc, .txts] s (State.refuse s id x q code) := by
  unfold State.refuse
  try dsimp (proj := false) only
  repeat' (first | simp (disch := decide) only [↓onlyParts.self, ↓State.countDrop_keeps, ↓State.inc_keeps, ↓State.pm_keeps, ↓State.traceOut_keeps, ↓State.txDropped_keeps, ↓with_regs, ↓with_sc, ↓with_txts] | with_reducible (refine onlyParts.fold ?_ _ ?_) | with_reducible (refine onlyParts.foldSnd ?_ _ ?_) | (refine onlyParts.snd (by assumption) ?_) | split | (intro (_ : State) _; try dsimp (proj := false) only) | (intro (_ : _ × State) _; try dsimp (proj := false) only))
theorem State.refuse_keeps {L₀ : List Part} {s₀ : State} (s : State) (id : Nat) (x : Pkt) (q code : Nat) (h₀ : [(.regs : Part), (.sc : Part), (.txts : Part)].all (L₀.contains ·) = true) : onlyParts L₀ s₀ (State.refuse s id x q code) ↔ onlyParts L₀ s₀ s :=
  onlyParts.step (State.refuse_parts s id x q code) h₀

theorem State.red_parts (s : State) (x : Pkt) (q : Nat) : onlyParts [.free] s (State.red s x q).2 := by
  unfold State.red
  try dsimp (proj := false) only
  repeat' (first | simp (disch := decide) only [↓onlyParts.self, ↓State.draw_keeps, ↓with_free] | with_reducible (refine onlyParts.fold ?_ _ ?_) | with_reducible (refine onlyParts.foldSnd ?_ _ ?_) | (refine onlyParts.snd (by assumption) ?_) | split | (intro (_ : State) _; try dsimp (proj := false) only) | (intro (_ : _ × State) _; try dsimp (proj := false) only))
theorem State.red_keeps {L₀ : List Part} {s₀ : State} (s : State) (x : Pkt) (q : Nat) (h₀ : [(.free : Part)].all (L₀.contains ·) = true) : onlyParts L₀ s₀ (State.red s x q).2 ↔ onlyParts L₀ s₀ s :=
  onlyParts.step (State.red_parts s x q) h₀

theorem State.refuses_parts (s : State) (x : Pkt) (q : Nat) : onlyParts [.free] s (State.refuses s x q).2 := by
  unfold State.refuses
  try dsimp (proj := false) only
  repeat' (first | simp (disch := decide) only [↓onlyParts.self, ↓State.red_keeps, ↓with_free] | with_reducible (refine onlyParts.fold ?_ _ ?_) | with_reducible (refine onlyParts.foldSnd ?_ _ ?_) | (refine onlyParts.snd (by assumption) ?_) | split | (intro (_ : State) _; try dsimp (proj := false) only) | (intro (_ : _ × State) _; try dsimp (proj := false) only))
theorem State.refuses_keeps {L₀ : List Part} {s₀ : State} (s : State) (x : Pkt) (q : Nat) (h₀ : [(.free : Part)].all (L₀.contains ·) = true) : onlyParts L₀ s₀ (State.refuses s x q).2 ↔ onlyParts L₀ s₀ s :=
  onlyParts.step (State.refuses_parts s x q) h₀

theorem State.decide'_parts (s : State) (id : Nat) (x : Pkt) (dbm : Bool) (c : Copy) : onlyParts [.regs, .free, .sc, .txts] s (State.decide' s id x dbm c).2 := by
  unfold State.decide'
  try dsimp (proj := false) only
  repeat' (first | simp (disch := decide) only [↓onlyParts.self, ↓State.pm_keeps, ↓State.redAvg_keeps, ↓State.refuse_keeps, ↓State.refuses_keeps, ↓with_free, ↓with_regs, ↓with_sc, ↓with_txts] | with_reducible (refine onlyParts.fold ?_ _ ?_) | with_reducible (refine onlyParts.foldSnd ?_ _ ?_) | (refine onlyParts.snd (by assumption) ?_) | split | (intro (_ : State) _; try dsimp (proj := false) only) | (intro (_ : _ × State) _; try dsimp (proj := false) only))
theorem State.decide'_keeps {L₀ : List Part} {s₀ : State} (s : State) (id : Nat) (x : Pkt) (dbm : Bool) (c : Copy) (h₀ : [(.regs : Part), (.free : Part), (.sc : Part), (.txts : Part)].all (L₀.contains ·) = true) : onlyParts L₀ s₀ (State.decide' s id x dbm c).2 ↔ onlyParts L₀ s₀ s :=
  onlyParts.step (State.decide'_parts s id x dbm c) h₀

theorem State.admitFrame_parts (s : State) (id : Nat) (dbm : Bool) : onlyParts [.regs, .free, .sc, .txts] s (State.admitFrame s id dbm) := by
  unfold State.admitFrame
  try dsimp (proj := false) only
  repeat' (first | simp (disch := decide) only [↓onlyParts.self, ↓State.decide'_keeps, ↓State.dropPkt_keeps, ↓State.hold_keeps, ↓State.pm_keeps, ↓State.replicate_keeps, ↓State.set_keeps, ↓State.setOcc_keeps, ↓State.setPkt_keeps, ↓State.setQueue_keeps, ↓State.takeCells_keeps, ↓with_free, ↓with_regs, ↓with_sc, ↓with_txts] | with_reducible (refine onlyParts.fold ?_ _ ?_) | with_reducible (refine onlyParts.foldSnd ?_ _ ?_) | (refine onlyParts.snd (by assumption) ?_) | split | (intro (_ : State) _; try dsimp (proj := false) only) | (intro (_ : _ × State) _; try dsimp (proj := false) only))
theorem State.admitFrame_keeps {L₀ : List Part} {s₀ : State} (s : State) (id : Nat) (dbm : Bool) (h₀ : [(.regs : Part), (.free : Part), (.sc : Part), (.txts : Part)].all (L₀.contains ·) = true) : onlyParts L₀ s₀ (State.admitFrame s id dbm) ↔ onlyParts L₀ s₀ s :=
  onlyParts.step (State.admitFrame_parts s id dbm) h₀

theorem State.injectAs_parts (s : State) (base : Pkt) (p t : Nat) (classT fromMp : Bool) (tsId : Option Nat) (b : Bytes) (dbm : Bool) : onlyParts [.regs, .free, .sc, .txts] s (State.injectAs s base p t classT fromMp tsId b dbm) := by
  unfold State.injectAs
  try dsimp (proj := false) only
  repeat' (first | simp (disch := decide) only [↓onlyParts.self, ↓State.admitFrame_keeps, ↓State.newPkt_keeps, ↓with_free, ↓with_regs, ↓with_sc, ↓with_txts] | with_reducible (refine onlyParts.fold ?_ _ ?_) | with_reducible (refine onlyParts.foldSnd ?_ _ ?_) | (refine onlyParts.snd (by assumption) ?_) | split | (intro (_ : State) _; try dsimp (proj := false) only) | (intro (_ : _ × State) _; try dsimp (proj := false) only))
theorem State.injectAs_keeps {L₀ : List Part} {s₀ : State} (s : State) (base : Pkt) (p t : Nat) (classT fromMp : Bool) (tsId : Option Nat) (b : Bytes) (dbm : Bool) (h₀ : [(.regs : Part), (.free : Part), (.sc : Part), (.txts : Part)].all (L₀.contains ·) = true) : onlyParts L₀ s₀ (State.injectAs s base p t classT fromMp tsId b dbm) ↔ onlyParts L₀ s₀ s :=
  onlyParts.step (State.injectAs_parts s base p t classT fromMp tsId b dbm) h₀

theorem State.inject_parts (s : State) (p t : Nat) (classT fromMp : Bool) (tsId : Option Nat) (b : Bytes) (dbm : Bool) : onlyParts [.regs, .free, .sc, .txts] s (State.inject s p t classT fromMp tsId b dbm) := by
  unfold State.inject
  try dsimp (proj := false) only
  repeat' (first | simp (disch := decide) only [↓onlyParts.self, ↓State.injectAs_keeps, ↓with_free, ↓with_regs, ↓with_sc, ↓with_txts] | with_reducible (refine onlyParts.fold ?_ _ ?_) | with_reducible (refine onlyParts.foldSnd ?_ _ ?_) | (refine onlyParts.snd (by assumption) ?_) | split | (intro (_ : State) _; try dsimp (proj := false) only) | (intro (_ : _ × State) _; try dsimp (proj := false) only))
theorem State.inject_keeps {L₀ : List Part} {s₀ : State} (s : State) (p t : Nat) (classT fromMp : Bool) (tsId : Option Nat) (b : Bytes) (dbm : Bool) (h₀ : [(.regs : Part), (.free : Part), (.sc : Part), (.txts : Part)].all (L₀.contains ·) = true) : onlyParts L₀ s₀ (State.inject s p t classT fromMp tsId b dbm) ↔ onlyParts L₀ s₀ s :=
  onlyParts.step (State.inject_parts s p t classT fromMp tsId b dbm) h₀

theorem State.txFail_parts (s : State) (r : Nat) : onlyParts [.regs] s (State.txFail s r) := by
  unfold State.txFail
  try dsimp (proj := false) only
  repeat' (first | simp (disch := decide) only [↓onlyParts.self, ↓State.raise_keeps, ↓State.ringStop_keeps, ↓with_regs] | with_reducible (refine onlyParts.fold ?_ _ ?_) | with_reducible (refine onlyParts.foldSnd ?_ _ ?_) | (refine onlyParts.snd (by assumption) ?_) | split | (intro (_ : State) _; try dsimp (proj := false) only) | (intro (_ : _ × State) _; try dsimp (proj := false) only))
theorem State.txFail_keeps {L₀ : List Part} {s₀ : State} (s : State) (r : Nat) (h₀ : [(.regs : Part)].all (L₀.contains ·) = true) : onlyParts L₀ s₀ (State.txFail s r) ↔ onlyParts L₀ s₀ s :=
  onlyParts.step (State.txFail_parts s r) h₀

theorem State.txComplete_parts (s : State) (r : Nat) (w : List Word) (st : Nat) : onlyParts [.regs, .sent] s (State.txComplete s r w st) := by
  unfold State.txComplete
  try dsimp (proj := false) only
  repeat' (first | simp (disch := decide) only [↓onlyParts.self, ↓State.descWrite_keeps, ↓State.ringNext_keeps, ↓State.setBit_keeps, ↓with_regs, ↓with_sent] | with_reducible (refine onlyParts.fold ?_ _ ?_) | with_reducible (refine onlyParts.foldSnd ?_ _ ?_) | (refine onlyParts.snd (by assumption) ?_) | split | (intro (_ : State) _; try dsimp (proj := false) only) | (intro (_ : _ × State) _; try dsimp (proj := false) only))
theorem State.txComplete_keeps {L₀ : List Part} {s₀ : State} (s : State) (r : Nat) (w : List Word) (st : Nat) (h₀ : [(.regs : Part), (.sent : Part)].all (L₀.contains ·) = true) : onlyParts L₀ s₀ (State.txComplete s r w st) ↔ onlyParts L₀ s₀ s :=
  onlyParts.step (State.txComplete_parts s r w st) h₀

theorem State.twEnable_parts (s : State) (was : Bool) : onlyParts [.regs, .time, .chan, .ou, .tw] s (State.twEnable s was) := by
  unfold State.twEnable
  try dsimp (proj := false) only
  repeat' (first | simp (disch := decide) only [↓onlyParts.self, ↓State.refLoss_keeps, ↓State.set_keeps, ↓State.twEnter_keeps, ↓State.twWith_keeps, ↓with_chan, ↓with_ou, ↓with_regs, ↓with_time, ↓with_tw] | with_reducible (refine onlyParts.fold ?_ _ ?_) | with_reducible (refine onlyParts.foldSnd ?_ _ ?_) | (refine onlyParts.snd (by assumption) ?_) | split | (intro (_ : State) _; try dsimp (proj := false) only) | (intro (_ : _ × State) _; try dsimp (proj := false) only))
theorem State.twEnable_keeps {L₀ : List Part} {s₀ : State} (s : State) (was : Bool) (h₀ : [(.regs : Part), (.time : Part), (.chan : Part), (.ou : Part), (.tw : Part)].all (L₀.contains ·) = true) : onlyParts L₀ s₀ (State.twEnable s was) ↔ onlyParts L₀ s₀ s :=
  onlyParts.step (State.twEnable_parts s was) h₀

theorem State.takePend_parts (s : State) (p : Nat → Bool) : onlyParts [.pend] s (State.takePend s p).2 := by
  unfold State.takePend
  try dsimp (proj := false) only
  repeat' (first | simp (disch := decide) only [↓onlyParts.self, ↓with_pend] | with_reducible (refine onlyParts.fold ?_ _ ?_) | with_reducible (refine onlyParts.foldSnd ?_ _ ?_) | (refine onlyParts.snd (by assumption) ?_) | split | (intro (_ : State) _; try dsimp (proj := false) only) | (intro (_ : _ × State) _; try dsimp (proj := false) only))
theorem State.takePend_keeps {L₀ : List Part} {s₀ : State} (s : State) (p : Nat → Bool) (h₀ : [(.pend : Part)].all (L₀.contains ·) = true) : onlyParts L₀ s₀ (State.takePend s p).2 ↔ onlyParts L₀ s₀ s :=
  onlyParts.step (State.takePend_parts s p) h₀

theorem State.twBoundary_parts (s : State) : onlyParts [.regs, .pend, .time, .chan, .ou, .tw] s (State.twBoundary s) := by
  unfold State.twBoundary
  try dsimp (proj := false) only
  repeat' (first | simp (disch := decide) only [↓onlyParts.self, ↓State.ouRefreshAll_keeps, ↓State.set_keeps, ↓State.takePend_keeps, ↓State.twEnable_keeps, ↓State.wr_keeps, ↓with_chan, ↓with_ou, ↓with_pend, ↓with_regs, ↓with_time, ↓with_tw] | with_reducible (refine onlyParts.fold ?_ _ ?_) | with_reducible (refine onlyParts.foldSnd ?_ _ ?_) | (refine onlyParts.snd (by assumption) ?_) | split | (intro (_ : State) _; try dsimp (proj := false) only) | (intro (_ : _ × State) _; try dsimp (proj := false) only))
theorem State.twBoundary_keeps {L₀ : List Part} {s₀ : State} (s : State) (h₀ : [(.regs : Part), (.pend : Part), (.time : Part), (.chan : Part), (.ou : Part), (.tw : Part)].all (L₀.contains ·) = true) : onlyParts L₀ s₀ (State.twBoundary s) ↔ onlyParts L₀ s₀ s :=
  onlyParts.step (State.twBoundary_parts s) h₀

theorem State.applyPend_parts (s : State) (p : Nat → Bool) : onlyParts [.regs, .pend] s (State.applyPend s p) := by
  unfold State.applyPend
  try dsimp (proj := false) only
  repeat' (first | simp (disch := decide) only [↓onlyParts.self, ↓State.wr_keeps, ↓with_pend, ↓with_regs] | with_reducible (refine onlyParts.fold ?_ _ ?_) | with_reducible (refine onlyParts.foldSnd ?_ _ ?_) | (refine onlyParts.snd (by assumption) ?_) | split | (intro (_ : State) _; try dsimp (proj := false) only) | (intro (_ : _ × State) _; try dsimp (proj := false) only))
theorem State.applyPend_keeps {L₀ : List Part} {s₀ : State} (s : State) (p : Nat → Bool) (h₀ : [(.regs : Part), (.pend : Part)].all (L₀.contains ·) = true) : onlyParts L₀ s₀ (State.applyPend s p) ↔ onlyParts L₀ s₀ s :=
  onlyParts.step (State.applyPend_parts s p) h₀

theorem State.fplSend_parts (s : State) (l : Nat) (m : Bytes) (n : Option (Nat × Bool)) : onlyParts [.regs, .free, .sc, .txts, .px] s (State.fplSend s l m n).2 := by
  unfold State.fplSend
  try dsimp (proj := false) only
  repeat' (first | simp (disch := decide) only [↓onlyParts.self, ↓State.injectAs_keeps, ↓State.setLink_keeps, ↓with_free, ↓with_px, ↓with_regs, ↓with_sc, ↓with_txts] | with_reducible (refine onlyParts.fold ?_ _ ?_) | with_reducible (refine onlyParts.foldSnd ?_ _ ?_) | (refine onlyParts.snd (by assumption) ?_) | split | (intro (_ : State) _; try dsimp (proj := false) only) | (intro (_ : _ × State) _; try dsimp (proj := false) only))
theorem State.fplSend_keeps {L₀ : List Part} {s₀ : State} (s : State) (l : Nat) (m : Bytes) (n : Option (Nat × Bool)) (h₀ : [(.regs : Part), (.free : Part), (.sc : Part), (.txts : Part), (.px : Part)].all (L₀.contains ·) = true) : onlyParts L₀ s₀ (State.fplSend s l m n).2 ↔ onlyParts L₀ s₀ s :=
  onlyParts.step (State.fplSend_parts s l m n) h₀

theorem State.fplLog_parts (s : State) (l : Nat) : onlyParts [.free] s (State.fplLog s l).2 := by
  unfold State.fplLog
  try dsimp (proj := false) only
  repeat' (first | simp (disch := decide) only [↓onlyParts.self, ↓State.draw_keeps, ↓with_free] | with_reducible (refine onlyParts.fold ?_ _ ?_) | with_reducible (refine onlyParts.foldSnd ?_ _ ?_) | (refine onlyParts.snd (by assumption) ?_) | split | (intro (_ : State) _; try dsimp (proj := false) only) | (intro (_ : _ × State) _; try dsimp (proj := false) only))
theorem State.fplLog_keeps {L₀ : List Part} {s₀ : State} (s : State) (l : Nat) (h₀ : [(.free : Part)].all (L₀.contains ·) = true) : onlyParts L₀ s₀ (State.fplLog s l).2 ↔ onlyParts L₀ s₀ s :=
  onlyParts.step (State.fplLog_parts s l) h₀

theorem State.fplOther_parts (s : State) (l kind : Nat) (tlvs : Bytes) : onlyParts [.regs, .free, .sc, .txts, .px] s (State.fplOther s l kind tlvs) := by
  unfold State.fplOther
  try dsimp (proj := false) only
  repeat' (first | simp (disch := decide) only [↓onlyParts.self, ↓State.fplLog_keeps, ↓State.fplSend_keeps, ↓State.setLink_keeps, ↓with_free, ↓with_px, ↓with_regs, ↓with_sc, ↓with_txts] | with_reducible (refine onlyParts.fold ?_ _ ?_) | with_reducible (refine onlyParts.foldSnd ?_ _ ?_) | (refine onlyParts.snd (by assumption) ?_) | split | (intro (_ : State) _; try dsimp (proj := false) only) | (intro (_ : _ × State) _; try dsimp (proj := false) only))
theorem State.fplOther_keeps {L₀ : List Part} {s₀ : State} (s : State) (l kind : Nat) (tlvs : Bytes) (h₀ : [(.regs : Part), (.free : Part), (.sc : Part), (.txts : Part), (.px : Part)].all (L₀.contains ·) = true) : onlyParts L₀ s₀ (State.fplOther s l kind tlvs) ↔ onlyParts L₀ s₀ s :=
  onlyParts.step (State.fplOther_parts s l kind tlvs) h₀

theorem State.linkRole_parts (s : State) (l : Nat) : onlyParts [.regs, .mbox, .mp, .px] s (State.linkRole s l) := by
  unfold State.linkRole
  try dsimp (proj := false) only
  repeat' (first | simp (disch := decide) only [↓onlyParts.self, ↓State.linkWait_keeps, ↓State.pxRef_keeps, ↓State.set_keeps, ↓State.setB_keeps, ↓State.setLink_keeps, ↓with_mbox, ↓with_mp, ↓with_px, ↓with_regs] | with_reducible (refine onlyParts.fold ?_ _ ?_) | with_reducible (refine onlyParts.foldSnd ?_ _ ?_) | (refine onlyParts.snd (by assumption) ?_) | split | (intro (_ : State) _; try dsimp (proj := false) only) | (intro (_ : _ × State) _; try dsimp (proj := false) only))
theorem State.linkRole_keeps {L₀ : List Part} {s₀ : State} (s : State) (l : Nat) (h₀ : [(.regs : Part), (.mbox : Part), (.mp : Part), (.px : Part)].all (L₀.contains ·) = true) : onlyParts L₀ s₀ (State.linkRole s l) ↔ onlyParts L₀ s₀ s :=
  onlyParts.step (State.linkRole_parts s l) h₀

theorem State.linkChange_parts (s : State) (l : Nat) (now : List (Nat × Word × Nat)) : onlyParts [.regs, .mbox, .mp, .px] s (State.linkChange s l now) := by
  unfold State.linkChange
  try dsimp (proj := false) only
  repeat' (first | simp (disch := decide) only [↓onlyParts.self, ↓State.linkRole_keeps, ↓State.linkWait_keeps, ↓State.pairRestart_keeps, ↓State.set_keeps, ↓State.wr_keeps, ↓with_mbox, ↓with_mp, ↓with_px, ↓with_regs] | with_reducible (refine onlyParts.fold ?_ _ ?_) | with_reducible (refine onlyParts.foldSnd ?_ _ ?_) | (refine onlyParts.snd (by assumption) ?_) | split | (intro (_ : State) _; try dsimp (proj := false) only) | (intro (_ : _ × State) _; try dsimp (proj := false) only))
theorem State.linkChange_keeps {L₀ : List Part} {s₀ : State} (s : State) (l : Nat) (now : List (Nat × Word × Nat)) (h₀ : [(.regs : Part), (.mbox : Part), (.mp : Part), (.px : Part)].all (L₀.contains ·) = true) : onlyParts L₀ s₀ (State.linkChange s l now) ↔ onlyParts L₀ s₀ s :=
  onlyParts.step (State.linkChange_parts s l now) h₀

theorem State.linkBoundary_parts (s : State) (l : Nat) : onlyParts [.regs, .pend, .free, .mbox, .mp, .sc, .txts, .px] s (State.linkBoundary s l) := by
  unfold State.linkBoundary
  try dsimp (proj := false) only
  repeat' (first | simp (disch := decide) only [↓onlyParts.self, ↓State.fplOther_keeps, ↓State.linkChange_keeps, ↓State.linkEnter_keeps, ↓State.setLink_keeps, ↓State.takePend_keeps, ↓State.wr_keeps, ↓with_free, ↓with_mbox, ↓with_mp, ↓with_pend, ↓with_px, ↓with_regs, ↓with_sc, ↓with_txts] | with_reducible (refine onlyParts.fold ?_ _ ?_) | with_reducible (refine onlyParts.foldSnd ?_ _ ?_) | (refine onlyParts.snd (by assumption) ?_) | split | (intro (_ : State) _; try dsimp (proj := false) only) | (intro (_ : _ × State) _; try dsimp (proj := false) only))
theorem State.linkBoundary_keeps {L₀ : List Part} {s₀ : State} (s : State) (l : Nat) (h₀ : [(.regs : Part), (.pend : Part), (.free : Part), (.mbox : Part), (.mp : Part), (.sc : Part), (.txts : Part), (.px : Part)].all (L₀.contains ·) = true) : onlyParts L₀ s₀ (State.linkBoundary s l) ↔ onlyParts L₀ s₀ s :=
  onlyParts.step (State.linkBoundary_parts s l) h₀

theorem State.pxBoundary_parts (s : State) : onlyParts [.regs, .pend, .free, .mbox, .mp, .sc, .txts, .px] s (State.pxBoundary s) := by
  unfold State.pxBoundary
  try dsimp (proj := false) only
  repeat' (first | simp (disch := decide) only [↓onlyParts.self, ↓State.applyPend_keeps, ↓State.linkBoundary_keeps, ↓State.pxRef_keeps, ↓State.set_keeps, ↓with_free, ↓with_mbox, ↓with_mp, ↓with_pend, ↓with_px, ↓with_regs, ↓with_sc, ↓with_txts] | with_reducible (refine onlyParts.fold ?_ _ ?_) | with_reducible (refine onlyParts.foldSnd ?_ _ ?_) | (refine onlyParts.snd (by assumption) ?_) | split | (intro (_ : State) _; try dsimp (proj := false) only) | (intro (_ : _ × State) _; try dsimp (proj := false) only))
theorem State.pxBoundary_keeps {L₀ : List Part} {s₀ : State} (s : State) (h₀ : [(.regs : Part), (.pend : Part), (.free : Part), (.mbox : Part), (.mp : Part), (.sc : Part), (.txts : Part), (.px : Part)].all (L₀.contains ·) = true) : onlyParts L₀ s₀ (State.pxBoundary s) ↔ onlyParts L₀ s₀ s :=
  onlyParts.step (State.pxBoundary_parts s) h₀

theorem State.txOnRoot_parts (s : State) (update : Bool) : onlyParts [.regs] s (State.txOnRoot s update) := by
  unfold State.txOnRoot
  try dsimp (proj := false) only
  repeat' (first | simp (disch := decide) only [↓onlyParts.self, ↓State.set_keeps, ↓with_regs] | with_reducible (refine onlyParts.fold ?_ _ ?_) | with_reducible (refine onlyParts.foldSnd ?_ _ ?_) | (refine onlyParts.snd (by assumption) ?_) | split | (intro (_ : State) _; try dsimp (proj := false) only) | (intro (_ : _ × State) _; try dsimp (proj := false) only))
theorem State.txOnRoot_keeps {L₀ : List Part} {s₀ : State} (s : State) (update : Bool) (h₀ : [(.regs : Part)].all (L₀.contains ·) = true) : onlyParts L₀ s₀ (State.txOnRoot s update) ↔ onlyParts L₀ s₀ s :=
  onlyParts.step (State.txOnRoot_parts s update) h₀

theorem State.tbStatTc_parts (s : State) : onlyParts [.regs] s (State.tbStatTc s) := by
  unfold State.tbStatTc
  try dsimp (proj := false) only
  repeat' (first | simp (disch := decide) only [↓onlyParts.self, ↓State.set_keeps, ↓with_regs] | with_reducible (refine onlyParts.fold ?_ _ ?_) | with_reducible (refine onlyParts.foldSnd ?_ _ ?_) | (refine onlyParts.snd (by assumption) ?_) | split | (intro (_ : State) _; try dsimp (proj := false) only) | (intro (_ : _ × State) _; try dsimp (proj := false) only))
theorem State.tbStatTc_keeps {L₀ : List Part} {s₀ : State} (s : State) (h₀ : [(.regs : Part)].all (L₀.contains ·) = true) : onlyParts L₀ s₀ (State.tbStatTc s) ↔ onlyParts L₀ s₀ s :=
  onlyParts.step (State.tbStatTc_parts s) h₀

theorem State.tcEnter_parts (s : State) (c st : Nat) : onlyParts [.regs, .chan, .ou] s (State.tcEnter s c st) := by
  unfold State.tcEnter
  try dsimp (proj := false) only
  repeat' (first | simp (disch := decide) only [↓onlyParts.self, ↓State.ouRefreshAll_keeps, ↓State.raise_keeps, ↓State.set_keeps, ↓State.setB_keeps, ↓State.setChan_keeps, ↓State.tbStatTc_keeps, ↓with_chan, ↓with_ou, ↓with_regs] | with_reducible (refine onlyParts.fold ?_ _ ?_) | with_reducible (refine onlyParts.foldSnd ?_ _ ?_) | (refine onlyParts.snd (by assumption) ?_) | split | (intro (_ : State) _; try dsimp (proj := false) only) | (intro (_ : _ × State) _; try dsimp (proj := false) only))
theorem State.tcEnter_keeps {L₀ : List Part} {s₀ : State} (s : State) (c st : Nat) (h₀ : [(.regs : Part), (.chan : Part), (.ou : Part)].all (L₀.contains ·) = true) : onlyParts L₀ s₀ (State.tcEnter s c st) ↔ onlyParts L₀ s₀ s :=
  onlyParts.step (State.tcEnter_parts s c st) h₀

theorem State.freerun_parts (s : State) (c : Nat) : onlyParts [.regs, .chan, .ou] s (State.freerun s c) := by
  unfold State.freerun
  try dsimp (proj := false) only
  repeat' (first | simp (disch := decide) only [↓onlyParts.self, ↓State.tcEnter_keeps, ↓State.tcRelease_keeps, ↓with_chan, ↓with_ou, ↓with_regs] | with_reducible (refine onlyParts.fold ?_ _ ?_) | with_reducible (refine onlyParts.foldSnd ?_ _ ?_) | (refine onlyParts.snd (by assumption) ?_) | split | (intro (_ : State) _; try dsimp (proj := false) only) | (intro (_ : _ × State) _; try dsimp (proj := false) only))
theorem State.freerun_keeps {L₀ : List Part} {s₀ : State} (s : State) (c : Nat) (h₀ : [(.regs : Part), (.chan : Part), (.ou : Part)].all (L₀.contains ·) = true) : onlyParts L₀ s₀ (State.freerun s c) ↔ onlyParts L₀ s₀ s :=
  onlyParts.step (State.freerun_parts s c) h₀

theorem State.dcoMove_parts (s : State) (c : Nat) : onlyParts [.regs, .chan, .ou] s (State.dcoMove s c) := by
  unfold State.dcoMove
  try dsimp (proj := false) only
  repeat' (first | simp (disch := decide) only [↓onlyParts.self, ↓State.ouRefreshAll_keeps, ↓State.setChan_keeps, ↓with_chan, ↓with_ou, ↓with_regs] | with_reducible (refine onlyParts.fold ?_ _ ?_) | with_reducible (refine onlyParts.foldSnd ?_ _ ?_) | (refine onlyParts.snd (by assumption) ?_) | split | (intro (_ : State) _; try dsimp (proj := false) only) | (intro (_ : _ × State) _; try dsimp (proj := false) only))
theorem State.dcoMove_keeps {L₀ : List Part} {s₀ : State} (s : State) (c : Nat) (h₀ : [(.regs : Part), (.chan : Part), (.ou : Part)].all (L₀.contains ·) = true) : onlyParts L₀ s₀ (State.dcoMove s c) ↔ onlyParts L₀ s₀ s :=
  onlyParts.step (State.dcoMove_parts s c) h₀

theorem State.suspectCheck_parts (s : State) : onlyParts [.regs] s (State.suspectCheck s) := by
  unfold State.suspectCheck
  try dsimp (proj := false) only
  repeat' (first | simp (disch := decide) only [↓onlyParts.self, ↓State.suspectClear_keeps, ↓with_regs] | with_reducible (refine onlyParts.fold ?_ _ ?_) | with_reducible (refine onlyParts.foldSnd ?_ _ ?_) | (refine onlyParts.snd (by assumption) ?_) | split | (intro (_ : State) _; try dsimp (proj := false) only) | (intro (_ : _ × State) _; try dsimp (proj := false) only))
theorem State.suspectCheck_keeps {L₀ : List Part} {s₀ : State} (s : State) (h₀ : [(.regs : Part)].all (L₀.contains ·) = true) : onlyParts L₀ s₀ (State.suspectCheck s) ↔ onlyParts L₀ s₀ s :=
  onlyParts.step (State.suspectCheck_parts s) h₀

theorem State.setBins_parts (s : State) (t k : Nat) (b : Option BinSet) : onlyParts [.tdc] s (State.setBins s t k b) := by
  unfold State.setBins
  try dsimp (proj := false) only
  repeat' (first | simp (disch := decide) only [↓onlyParts.self, ↓State.put_keeps, ↓with_tdc] | with_reducible (refine onlyParts.fold ?_ _ ?_) | with_reducible (refine onlyParts.foldSnd ?_ _ ?_) | (refine onlyParts.snd (by assumption) ?_) | split | (intro (_ : State) _; try dsimp (proj := false) only) | (intro (_ : _ × State) _; try dsimp (proj := false) only))
theorem State.setBins_keeps {L₀ : List Part} {s₀ : State} (s : State) (t k : Nat) (b : Option BinSet) (h₀ : [(.tdc : Part)].all (L₀.contains ·) = true) : onlyParts L₀ s₀ (State.setBins s t k b) ↔ onlyParts L₀ s₀ s :=
  onlyParts.step (State.setBins_parts s t k b) h₀

theorem State.tdcBoundary_parts (s : State) : onlyParts [.tdc] s (State.tdcBoundary s) := by
  unfold State.tdcBoundary
  try dsimp (proj := false) only
  repeat' (first | simp (disch := decide) only [↓onlyParts.self, ↓State.setBins_keeps, ↓with_tdc] | with_reducible (refine onlyParts.fold ?_ _ ?_) | with_reducible (refine onlyParts.foldSnd ?_ _ ?_) | (refine onlyParts.snd (by assumption) ?_) | split | (intro (_ : State) _; try dsimp (proj := false) only) | (intro (_ : _ × State) _; try dsimp (proj := false) only))
theorem State.tdcBoundary_keeps {L₀ : List Part} {s₀ : State} (s : State) (h₀ : [(.tdc : Part)].all (L₀.contains ·) = true) : onlyParts L₀ s₀ (State.tdcBoundary s) ↔ onlyParts L₀ s₀ s :=
  onlyParts.step (State.tdcBoundary_parts s) h₀

theorem State.tcCommonBoundary_parts (s : State) : onlyParts [.regs, .pend, .time, .chan] s (State.tcCommonBoundary s) := by
  unfold State.tcCommonBoundary
  try dsimp (proj := false) only
  repeat' (first | simp (disch := decide) only [↓onlyParts.self, ↓State.raise_keeps, ↓State.refLoss_keeps, ↓State.refRestart_keeps, ↓State.set_keeps, ↓State.setChan_keeps, ↓State.takePend_keeps, ↓State.tbStatTc_keeps, ↓State.wr_keeps, ↓with_chan, ↓with_pend, ↓with_regs, ↓with_time] | with_reducible (refine onlyParts.fold ?_ _ ?_) | with_reducible (refine onlyParts.foldSnd ?_ _ ?_) | (refine onlyParts.snd (by assumption) ?_) | split | (intro (_ : State) _; try dsimp (proj := false) only) | (intro (_ : _ × State) _; try dsimp (proj := false) only))
theorem State.tcCommonBoundary_keeps {L₀ : List Part} {s₀ : State} (s : State) (h₀ : [(.regs : Part), (.pend : Part), (.time : Part), (.chan : Part)].all (L₀.contains ·) = true) : onlyParts L₀ s₀ (State.tcCommonBoundary s) ↔ onlyParts L₀ s₀ s :=
  onlyParts.step (State.tcCommonBoundary_parts s) h₀

theorem State.setGen_parts (s : State) (o : Nat) (g : Gen) : onlyParts [.ou] s (State.setGen s o g) := by
  unfold State.setGen
  try dsimp (proj := false) only
  repeat' (first | simp (disch := decide) only [↓onlyParts.self, ↓State.put_keeps, ↓with_ou] | with_reducible (refine onlyParts.fold ?_ _ ?_) | with_reducible (refine onlyParts.foldSnd ?_ _ ?_) | (refine onlyParts.snd (by assumption) ?_) | split | (intro (_ : State) _; try dsimp (proj := false) only) | (intro (_ : _ × State) _; try dsimp (proj := false) only))
theorem State.setGen_keeps {L₀ : List Part} {s₀ : State} (s : State) (o : Nat) (g : Gen) (h₀ : [(.ou : Part)].all (L₀.contains ·) = true) : onlyParts L₀ s₀ (State.setGen s o g) ↔ onlyParts L₀ s₀ s :=
  onlyParts.step (State.setGen_parts s o g) h₀

theorem State.alignGen_parts (s : State) (o : Nat) : onlyParts [.ou] s (State.alignGen s o) := by
  unfold State.alignGen
  try dsimp (proj := false) only
  repeat' (first | simp (disch := decide) only [↓onlyParts.self, ↓State.setGen_keeps, ↓with_ou] | with_reducible (refine onlyParts.fold ?_ _ ?_) | with_reducible (refine onlyParts.foldSnd ?_ _ ?_) | (refine onlyParts.snd (by assumption) ?_) | split | (intro (_ : State) _; try dsimp (proj := false) only) | (intro (_ : _ × State) _; try dsimp (proj := false) only))
theorem State.alignGen_keeps {L₀ : List Part} {s₀ : State} (s : State) (o : Nat) (h₀ : [(.ou : Part)].all (L₀.contains ·) = true) : onlyParts L₀ s₀ (State.alignGen s o) ↔ onlyParts L₀ s₀ s :=
  onlyParts.step (State.alignGen_parts s o) h₀

theorem State.outBoundary_parts (s : State) (o : Nat) : onlyParts [.regs, .pend, .ou] s (State.outBoundary s o) := by
  unfold State.outBoundary
  try dsimp (proj := false) only
  repeat' (first | simp (disch := decide) only [↓onlyParts.self, ↓State.alignGen_keeps, ↓State.ouCause_keeps, ↓State.raise_keeps, ↓State.set_keeps, ↓State.setGen_keeps, ↓State.takePend_keeps, ↓State.wr_keeps, ↓with_ou, ↓with_pend, ↓with_regs] | with_reducible (refine onlyParts.fold ?_ _ ?_) | with_reducible (refine onlyParts.foldSnd ?_ _ ?_) | (refine onlyParts.snd (by assumption) ?_) | split | (intro (_ : State) _; try dsimp (proj := false) only) | (intro (_ : _ × State) _; try dsimp (proj := false) only))
theorem State.outBoundary_keeps {L₀ : List Part} {s₀ : State} (s : State) (o : Nat) (h₀ : [(.regs : Part), (.pend : Part), (.ou : Part)].all (L₀.contains ·) = true) : onlyParts L₀ s₀ (State.outBoundary s o) ↔ onlyParts L₀ s₀ s :=
  onlyParts.step (State.outBoundary_parts s o) h₀

theorem State.outTail_parts (was s : State) (o : Nat) : onlyParts [.free, .ou] s (State.outTail was s o) := by
  unfold State.outTail
  try dsimp (proj := false) only
  repeat' (first | simp (disch := decide) only [↓onlyParts.self, ↓State.draw_keeps, ↓State.put_keeps, ↓with_free, ↓with_ou] | with_reducible (refine onlyParts.fold ?_ _ ?_) | with_reducible (refine onlyParts.foldSnd ?_ _ ?_) | (refine onlyParts.snd (by assumption) ?_) | split | (intro (_ : State) _; try dsimp (proj := false) only) | (intro (_ : _ × State) _; try dsimp (proj := false) only))
theorem State.outTail_keeps {L₀ : List Part} {s₀ : State} (was s : State) (o : Nat) (h₀ : [(.free : Part), (.ou : Part)].all (L₀.contains ·) = true) : onlyParts L₀ s₀ (State.outTail was s o) ↔ onlyParts L₀ s₀ s :=
  onlyParts.step (State.outTail_parts was s o) h₀

theorem State.outRestarts_parts (was s : State) : onlyParts [.free, .ou] s (State.outRestarts was s) := by
  unfold State.outRestarts
  try dsimp (proj := false) only
  repeat' (first | simp (disch := decide) only [↓onlyParts.self, ↓State.outTail_keeps, ↓State.put_keeps, ↓with_free, ↓with_ou] | with_reducible (refine onlyParts.fold ?_ _ ?_) | with_reducible (refine onlyParts.foldSnd ?_ _ ?_) | (refine onlyParts.snd (by assumption) ?_) | split | (intro (_ : State) _; try dsimp (proj := false) only) | (intro (_ : _ × State) _; try dsimp (proj := false) only))
theorem State.outRestarts_keeps {L₀ : List Part} {s₀ : State} (was s : State) (h₀ : [(.free : Part), (.ou : Part)].all (L₀.contains ·) = true) : onlyParts L₀ s₀ (State.outRestarts was s) ↔ onlyParts L₀ s₀ s :=
  onlyParts.step (State.outRestarts_parts was s) h₀

theorem State.realignBoundary_parts (s : State) : onlyParts [.regs, .ou] s (State.realignBoundary s) := by
  unfold State.realignBoundary
  try dsimp (proj := false) only
  repeat' (first | simp (disch := decide) only [↓onlyParts.self, ↓State.alignGen_keeps, ↓State.setB_keeps, ↓with_ou, ↓with_regs] | with_reducible (refine onlyParts.fold ?_ _ ?_) | with_reducible (refine onlyParts.foldSnd ?_ _ ?_) | (refine onlyParts.snd (by assumption) ?_) | split | (intro (_ : State) _; try dsimp (proj := false) only) | (intro (_ : _ × State) _; try dsimp (proj := false) only))
theorem State.realignBoundary_keeps {L₀ : List Part} {s₀ : State} (s : State) (h₀ : [(.regs : Part), (.ou : Part)].all (L₀.contains ·) = true) : onlyParts L₀ s₀ (State.realignBoundary s) ↔ onlyParts L₀ s₀ s :=
  onlyParts.step (State.realignBoundary_parts s) h₀

theorem State.ouBoundary_parts (s : State) : onlyParts [.regs, .pend, .free, .ou] s (State.ouBoundary s) := by
  unfold State.ouBoundary
  try dsimp (proj := false) only
  repeat' (first | simp (disch := decide) only [↓onlyParts.self, ↓State.ouRefreshAll_keeps, ↓State.outBoundary_keeps, ↓State.outRestarts_keeps, ↓State.realignBoundary_keeps, ↓with_free, ↓with_ou, ↓with_pend, ↓with_regs] | with_reducible (refine onlyParts.fold ?_ _ ?_) | with_reducible (refine onlyParts.foldSnd ?_ _ ?_) | (refine onlyParts.snd (by assumption) ?_) | split | (intro (_ : State) _; try dsimp (proj := false) only) | (intro (_ : _ × State) _; try dsimp (proj := false) only))
theorem State.ouBoundary_keeps {L₀ : List Part} {s₀ : State} (s : State) (h₀ : [(.regs : Part), (.pend : Part), (.free : Part), (.ou : Part)].all (L₀.contains ·) = true) : onlyParts L₀ s₀ (State.ouBoundary s) ↔ onlyParts L₀ s₀ s :=
  onlyParts.step (State.ouBoundary_parts s) h₀

theorem State.stairNow_parts (s : State) (p : Nat) : onlyParts [.regs, .treadRead] s (State.stairNow s p) := by
  unfold State.stairNow
  try dsimp (proj := false) only
  repeat' (first | simp (disch := decide) only [↓onlyParts.self, ↓State.pm_keeps, ↓State.put_keeps, ↓State.set_keeps, ↓with_regs, ↓with_treadRead] | with_reducible (refine onlyParts.fold ?_ _ ?_) | with_reducible (refine onlyParts.foldSnd ?_ _ ?_) | (refine onlyParts.snd (by assumption) ?_) | split | (intro (_ : State) _; try dsimp (proj := false) only) | (intro (_ : _ × State) _; try dsimp (proj := false) only))
theorem State.stairNow_keeps {L₀ : List Part} {s₀ : State} (s : State) (p : Nat) (h₀ : [(.regs : Part), (.treadRead : Part)].all (L₀.contains ·) = true) : onlyParts L₀ s₀ (State.stairNow s p) ↔ onlyParts L₀ s₀ s :=
  onlyParts.step (State.stairNow_parts s p) h₀

theorem State.hlRetire_parts (s : State) (g b r : Nat) : onlyParts [.regs, .hl] s (State.hlRetire s g b r) := by
  unfold State.hlRetire
  try dsimp (proj := false) only
  repeat' (first | simp (disch := decide) only [↓onlyParts.self, ↓State.add_keeps, ↓State.hlLog_keeps, ↓State.raise_keeps, ↓State.set_keeps, ↓with_hl, ↓with_regs] | with_reducible (refine onlyParts.fold ?_ _ ?_) | with_reducible (refine onlyParts.foldSnd ?_ _ ?_) | (refine onlyParts.snd (by assumption) ?_) | split | (intro (_ : State) _; try dsimp (proj := false) only) | (intro (_ : _ × State) _; try dsimp (proj := false) only))
theorem State.hlRetire_keeps {L₀ : List Part} {s₀ : State} (s : State) (g b r : Nat) (h₀ : [(.regs : Part), (.hl : Part)].all (L₀.contains ·) = true) : onlyParts L₀ s₀ (State.hlRetire s g b r) ↔ onlyParts L₀ s₀ s :=
  onlyParts.step (State.hlRetire_parts s g b r) h₀

theorem State.sparesLow_parts (s : State) : onlyParts [.regs] s (State.sparesLow s) := by
  unfold State.sparesLow
  try dsimp (proj := false) only
  repeat' (first | simp (disch := decide) only [↓onlyParts.self, ↓State.raise_keeps, ↓with_regs] | with_reducible (refine onlyParts.fold ?_ _ ?_) | with_reducible (refine onlyParts.foldSnd ?_ _ ?_) | (refine onlyParts.snd (by assumption) ?_) | split | (intro (_ : State) _; try dsimp (proj := false) only) | (intro (_ : _ × State) _; try dsimp (proj := false) only))
theorem State.sparesLow_keeps {L₀ : List Part} {s₀ : State} (s : State) (h₀ : [(.regs : Part)].all (L₀.contains ·) = true) : onlyParts L₀ s₀ (State.sparesLow s) ↔ onlyParts L₀ s₀ s :=
  onlyParts.step (State.sparesLow_parts s) h₀

theorem State.hlQueueRow_parts (s : State) (g b r : Nat) : onlyParts [.regs, .hl] s (State.hlQueueRow s g b r) := by
  unfold State.hlQueueRow
  try dsimp (proj := false) only
  repeat' (first | simp (disch := decide) only [↓onlyParts.self, ↓State.hlRetire_keeps, ↓State.raise_keeps, ↓State.sparesLow_keeps, ↓with_hl, ↓with_regs] | with_reducible (refine onlyParts.fold ?_ _ ?_) | with_reducible (refine onlyParts.foldSnd ?_ _ ?_) | (refine onlyParts.snd (by assumption) ?_) | split | (intro (_ : State) _; try dsimp (proj := false) only) | (intro (_ : _ × State) _; try dsimp (proj := false) only))
theorem State.hlQueueRow_keeps {L₀ : List Part} {s₀ : State} (s : State) (g b r : Nat) (h₀ : [(.regs : Part), (.hl : Part)].all (L₀.contains ·) = true) : onlyParts L₀ s₀ (State.hlQueueRow s g b r) ↔ onlyParts L₀ s₀ s :=
  onlyParts.step (State.hlQueueRow_parts s g b r) h₀

theorem State.hlTransient_parts (s : State) (code inst row detail : Nat) : onlyParts [.regs, .hl] s (State.hlTransient s code inst row detail).2 := by
  unfold State.hlTransient
  try dsimp (proj := false) only
  repeat' (first | simp (disch := decide) only [↓onlyParts.self, ↓State.hlLastingAs_keeps, ↓State.hlLog_keeps, ↓State.inc_keeps, ↓with_hl, ↓with_regs] | with_reducible (refine onlyParts.fold ?_ _ ?_) | with_reducible (refine onlyParts.foldSnd ?_ _ ?_) | (refine onlyParts.snd (by assumption) ?_) | split | (intro (_ : State) _; try dsimp (proj := false) only) | (intro (_ : _ × State) _; try dsimp (proj := false) only))
theorem State.hlTransient_keeps {L₀ : List Part} {s₀ : State} (s : State) (code inst row detail : Nat) (h₀ : [(.regs : Part), (.hl : Part)].all (L₀.contains ·) = true) : onlyParts L₀ s₀ (State.hlTransient s code inst row detail).2 ↔ onlyParts L₀ s₀ s :=
  onlyParts.step (State.hlTransient_parts s code inst row detail) h₀

theorem State.treadFault_parts (s : State) (p tread : Nat) (lasting : Bool) (bank row : Nat) : onlyParts [.regs, .hl, .frozen] s (State.treadFault s p tread lasting bank row) := by
  unfold State.treadFault
  try dsimp (proj := false) only
  repeat' (first | simp (disch := decide) only [↓onlyParts.self, ↓State.hlLasting_keeps, ↓State.hlQueueRow_keeps, ↓State.hlTransient_keeps, ↓State.inc_keeps, ↓State.put_keeps, ↓State.raise_keeps, ↓State.set_keeps, ↓with_frozen, ↓with_hl, ↓with_regs] | with_reducible (refine onlyParts.fold ?_ _ ?_) | with_reducible (refine onlyParts.foldSnd ?_ _ ?_) | (refine onlyParts.snd (by assumption) ?_) | split | (intro (_ : State) _; try dsimp (proj := false) only) | (intro (_ : _ × State) _; try dsimp (proj := false) only))
theorem State.treadFault_keeps {L₀ : List Part} {s₀ : State} (s : State) (p tread : Nat) (lasting : Bool) (bank row : Nat) (h₀ : [(.regs : Part), (.hl : Part), (.frozen : Part)].all (L₀.contains ·) = true) : onlyParts L₀ s₀ (State.treadFault s p tread lasting bank row) ↔ onlyParts L₀ s₀ s :=
  onlyParts.step (State.treadFault_parts s p tread lasting bank row) h₀

theorem State.treadTake_parts (s : State) (p : Nat) (fault : Option (Bool × Nat × Nat)) : onlyParts [.regs, .hl, .frozen, .treadRead] s (State.treadTake s p fault) := by
  unfold State.treadTake
  try dsimp (proj := false) only
  repeat' (first | simp (disch := decide) only [↓onlyParts.self, ↓State.stairNow_keeps, ↓State.treadFault_keeps, ↓with_frozen, ↓with_hl, ↓with_regs, ↓with_treadRead] | with_reducible (refine onlyParts.fold ?_ _ ?_) | with_reducible (refine onlyParts.foldSnd ?_ _ ?_) | (refine onlyParts.snd (by assumption) ?_) | split | (intro (_ : State) _; try dsimp (proj := false) only) | (intro (_ : _ × State) _; try dsimp (proj := false) only))
theorem State.treadTake_keeps {L₀ : List Part} {s₀ : State} (s : State) (p : Nat) (fault : Option (Bool × Nat × Nat)) (h₀ : [(.regs : Part), (.hl : Part), (.frozen : Part), (.treadRead : Part)].all (L₀.contains ·) = true) : onlyParts L₀ s₀ (State.treadTake s p fault) ↔ onlyParts L₀ s₀ s :=
  onlyParts.step (State.treadTake_parts s p fault) h₀

theorem State.discard_parts (s : State) (id q code : Nat) : onlyParts [.regs, .sc, .txts] s (State.discard s id q code) := by
  unfold State.discard
  try dsimp (proj := false) only
  repeat' (first | simp (disch := decide) only [↓onlyParts.self, ↓State.countDrop_keeps, ↓State.dequeue_keeps, ↓State.traceOut_keeps, ↓State.txDropped_keeps, ↓State.unref_keeps, ↓with_regs, ↓with_sc, ↓with_txts] | with_reducible (refine onlyParts.fold ?_ _ ?_) | with_reducible (refine onlyParts.foldSnd ?_ _ ?_) | (refine onlyParts.snd (by assumption) ?_) | split | (intro (_ : State) _; try dsimp (proj := false) only) | (intro (_ : _ × State) _; try dsimp (proj := false) only))
theorem State.discard_keeps {L₀ : List Part} {s₀ : State} (s : State) (id q code : Nat) (h₀ : [(.regs : Part), (.sc : Part), (.txts : Part)].all (L₀.contains ·) = true) : onlyParts L₀ s₀ (State.discard s id q code) ↔ onlyParts L₀ s₀ s :=
  onlyParts.step (State.discard_parts s id q code) h₀

theorem State.noFit_parts (s : State) (p : Nat) : onlyParts [.regs, .sc, .txts] s (State.noFit s p) := by
  unfold State.noFit
  try dsimp (proj := false) only
  repeat' (first | simp (disch := decide) only [↓onlyParts.self, ↓State.discard_keeps, ↓State.pm_keeps, ↓with_regs, ↓with_sc, ↓with_txts] | with_reducible (refine onlyParts.fold ?_ _ ?_) | with_reducible (refine onlyParts.foldSnd ?_ _ ?_) | (refine onlyParts.snd (by assumption) ?_) | split | (intro (_ : State) _; try dsimp (proj := false) only) | (intro (_ : _ × State) _; try dsimp (proj := false) only))
theorem State.noFit_keeps {L₀ : List Part} {s₀ : State} (s : State) (p : Nat) (h₀ : [(.regs : Part), (.sc : Part), (.txts : Part)].all (L₀.contains ·) = true) : onlyParts L₀ s₀ (State.noFit s p) ↔ onlyParts L₀ s₀ s :=
  onlyParts.step (State.noFit_parts s p) h₀

theorem State.stairApply_parts (s : State) (p : Nat) (fault : Option (Bool × Nat × Nat)) : onlyParts [.regs, .pend, .hl, .sc, .txts, .frozen, .treadRead] s (State.stairApply s p fault) := by
  unfold State.stairApply
  try dsimp (proj := false) only
  repeat' (first | simp (disch := decide) only [↓onlyParts.self, ↓State.applyPend_keeps, ↓State.noFit_keeps, ↓State.put_keeps, ↓State.raise_keeps, ↓State.set_keeps, ↓State.setB_keeps, ↓State.setBit2_keeps, ↓State.treadTake_keeps, ↓with_frozen, ↓with_hl, ↓with_pend, ↓with_pend_frozen, ↓with_regs, ↓with_sc, ↓with_treadRead, ↓with_txts] | with_reducible (refine onlyParts.fold ?_ _ ?_) | with_reducible (refine onlyParts.foldSnd ?_ _ ?_) | (refine onlyParts.snd (by assumption) ?_) | split | (intro (_ : State) _; try dsimp (proj := false) only) | (intro (_ : _ × State) _; try dsimp (proj := false) only))
theorem State.stairApply_keeps {L₀ : List Part} {s₀ : State} (s : State) (p : Nat) (fault : Option (Bool × Nat × Nat)) (h₀ : [(.regs : Part), (.pend : Part), (.hl : Part), (.sc : Part), (.txts : Part), (.frozen : Part), (.treadRead : Part)].all (L₀.contains ·) = true) : onlyParts L₀ s₀ (State.stairApply s p fault) ↔ onlyParts L₀ s₀ s :=
  onlyParts.step (State.stairApply_parts s p fault) h₀

theorem State.stairCycle_parts (s : State) : onlyParts [.regs, .pend, .hl, .sc, .txts, .frozen, .treadRead] s (State.stairCycle s) := by
  unfold State.stairCycle
  try dsimp (proj := false) only
  repeat' (first | simp (disch := decide) only [↓onlyParts.self, ↓State.stairApply_keeps, ↓with_frozen, ↓with_hl, ↓with_pend, ↓with_regs, ↓with_sc, ↓with_treadRead, ↓with_txts] | with_reducible (refine onlyParts.fold ?_ _ ?_) | with_reducible (refine onlyParts.foldSnd ?_ _ ?_) | (refine onlyParts.snd (by assumption) ?_) | split | (intro (_ : State) _; try dsimp (proj := false) only) | (intro (_ : _ × State) _; try dsimp (proj := false) only))
theorem State.stairCycle_keeps {L₀ : List Part} {s₀ : State} (s : State) (h₀ : [(.regs : Part), (.pend : Part), (.hl : Part), (.sc : Part), (.txts : Part), (.frozen : Part), (.treadRead : Part)].all (L₀.contains ·) = true) : onlyParts L₀ s₀ (State.stairCycle s) ↔ onlyParts L₀ s₀ s :=
  onlyParts.step (State.stairCycle_parts s) h₀

theorem State.galRecords_parts (s : State) (c : Nat) : onlyParts [.sent, .tw] s (State.galRecords s c) := by
  unfold State.galRecords
  try dsimp (proj := false) only
  repeat' (first | simp (disch := decide) only [↓onlyParts.self, ↓State.galSend_keeps, ↓State.twWith_keeps, ↓with_sent, ↓with_tw] | with_reducible (refine onlyParts.fold ?_ _ ?_) | with_reducible (refine onlyParts.foldSnd ?_ _ ?_) | (refine onlyParts.snd (by assumption) ?_) | split | (intro (_ : State) _; try dsimp (proj := false) only) | (intro (_ : _ × State) _; try dsimp (proj := false) only))
theorem State.galRecords_keeps {L₀ : List Part} {s₀ : State} (s : State) (c : Nat) (h₀ : [(.sent : Part), (.tw : Part)].all (L₀.contains ·) = true) : onlyParts L₀ s₀ (State.galRecords s c) ↔ onlyParts L₀ s₀ s :=
  onlyParts.step (State.galRecords_parts s c) h₀

theorem State.galBulk_parts (s : State) : onlyParts [.regs, .sent, .tw] s (State.galBulk s) := by
  unfold State.galBulk
  try dsimp (proj := false) only
  repeat' (first | simp (disch := decide) only [↓onlyParts.self, ↓State.addWrap_keeps, ↓State.galRecords_keeps, ↓State.galSend_keeps, ↓State.set_keeps, ↓State.twWith_keeps, ↓with_regs, ↓with_sent, ↓with_tw] | with_reducible (refine onlyParts.fold ?_ _ ?_) | with_reducible (refine onlyParts.foldSnd ?_ _ ?_) | (refine onlyParts.snd (by assumption) ?_) | split | (intro (_ : State) _; try dsimp (proj := false) only) | (intro (_ : _ × State) _; try dsimp (proj := false) only))
theorem State.galBulk_keeps {L₀ : List Part} {s₀ : State} (s : State) (h₀ : [(.regs : Part), (.sent : Part), (.tw : Part)].all (L₀.contains ·) = true) : onlyParts L₀ s₀ (State.galBulk s) ↔ onlyParts L₀ s₀ s :=
  onlyParts.step (State.galBulk_parts s) h₀

theorem State.galDeltas_parts (s : State) (cycle : Nat) (l : List Delta) : onlyParts [.sent] s (State.galDeltas s cycle l) := by
  unfold State.galDeltas
  try dsimp (proj := false) only
  repeat' (first | simp (disch := decide) only [↓onlyParts.self, ↓State.delta_keeps, ↓State.galPut_keeps, ↓with_sent] | with_reducible (refine onlyParts.fold ?_ _ ?_) | with_reducible (refine onlyParts.foldSnd ?_ _ ?_) | (refine onlyParts.snd (by assumption) ?_) | split | (intro (_ : State) _; try dsimp (proj := false) only) | (intro (_ : _ × State) _; try dsimp (proj := false) only))
theorem State.galDeltas_keeps {L₀ : List Part} {s₀ : State} (s : State) (cycle : Nat) (l : List Delta) (h₀ : [(.sent : Part)].all (L₀.contains ·) = true) : onlyParts L₀ s₀ (State.galDeltas s cycle l) ↔ onlyParts L₀ s₀ s :=
  onlyParts.step (State.galDeltas_parts s cycle l) h₀

theorem State.galAgain_parts (s : State) (k : Nat) : onlyParts [.sent] s (State.galAgain s k) := by
  unfold State.galAgain
  try dsimp (proj := false) only
  repeat' (first | simp (disch := decide) only [↓onlyParts.self, ↓State.galDeltas_keeps, ↓with_sent] | with_reducible (refine onlyParts.fold ?_ _ ?_) | with_reducible (refine onlyParts.foldSnd ?_ _ ?_) | (refine onlyParts.snd (by assumption) ?_) | split | (intro (_ : State) _; try dsimp (proj := false) only) | (intro (_ : _ × State) _; try dsimp (proj := false) only))
theorem State.galAgain_keeps {L₀ : List Part} {s₀ : State} (s : State) (k : Nat) (h₀ : [(.sent : Part)].all (L₀.contains ·) = true) : onlyParts L₀ s₀ (State.galAgain s k) ↔ onlyParts L₀ s₀ s :=
  onlyParts.step (State.galAgain_parts s k) h₀

theorem State.galActive_parts (s : State) (egress : Stamp16) : onlyParts [.regs, .sent, .tw] s (State.galActive s egress) := by
  unfold State.galActive
  try dsimp (proj := false) only
  repeat' (first | simp (disch := decide) only [↓onlyParts.self, ↓State.galAgain_keeps, ↓State.galBulk_keeps, ↓State.galDeltas_keeps, ↓State.galSend_keeps, ↓State.raise_keeps, ↓State.twWith_keeps, ↓with_regs, ↓with_sent, ↓with_tw] | with_reducible (refine onlyParts.fold ?_ _ ?_) | with_reducible (refine onlyParts.foldSnd ?_ _ ?_) | (refine onlyParts.snd (by assumption) ?_) | split | (intro (_ : State) _; try dsimp (proj := false) only) | (intro (_ : _ × State) _; try dsimp (proj := false) only))
theorem State.galActive_keeps {L₀ : List Part} {s₀ : State} (s : State) (egress : Stamp16) (h₀ : [(.regs : Part), (.sent : Part), (.tw : Part)].all (L₀.contains ·) = true) : onlyParts L₀ s₀ (State.galActive s egress) ↔ onlyParts L₀ s₀ s :=
  onlyParts.step (State.galActive_parts s egress) h₀

theorem State.galCycle_parts (s : State) (egress : Stamp16) : onlyParts [.regs, .sent, .tw] s (State.galCycle s egress) := by
  unfold State.galCycle
  try dsimp (proj := false) only
  repeat' (first | simp (disch := decide) only [↓onlyParts.self, ↓State.galActive_keeps, ↓State.galPut_keeps, ↓State.galSend_keeps, ↓with_regs, ↓with_sent, ↓with_tw] | with_reducible (refine onlyParts.fold ?_ _ ?_) | with_reducible (refine onlyParts.foldSnd ?_ _ ?_) | (refine onlyParts.snd (by assumption) ?_) | split | (intro (_ : State) _; try dsimp (proj := false) only) | (intro (_ : _ × State) _; try dsimp (proj := false) only))
theorem State.galCycle_keeps {L₀ : List Part} {s₀ : State} (s : State) (egress : Stamp16) (h₀ : [(.regs : Part), (.sent : Part), (.tw : Part)].all (L₀.contains ·) = true) : onlyParts L₀ s₀ (State.galCycle s egress) ↔ onlyParts L₀ s₀ s :=
  onlyParts.step (State.galCycle_parts s egress) h₀

theorem State.retainChan_parts (s : State) (c : Nat) : onlyParts [.retain] s (State.retainChan s c) := by
  unfold State.retainChan
  try dsimp (proj := false) only
  repeat' (first | simp (disch := decide) only [↓onlyParts.self, ↓State.put_keeps, ↓with_retain] | with_reducible (refine onlyParts.fold ?_ _ ?_) | with_reducible (refine onlyParts.foldSnd ?_ _ ?_) | (refine onlyParts.snd (by assumption) ?_) | split | (intro (_ : State) _; try dsimp (proj := false) only) | (intro (_ : _ × State) _; try dsimp (proj := false) only))
theorem State.retainChan_keeps {L₀ : List Part} {s₀ : State} (s : State) (c : Nat) (h₀ : [(.retain : Part)].all (L₀.contains ·) = true) : onlyParts L₀ s₀ (State.retainChan s c) ↔ onlyParts L₀ s₀ s :=
  onlyParts.step (State.retainChan_parts s c) h₀

theorem State.cycleClear_parts (s : State) : onlyParts [.ft, .chan] s (State.cycleClear s) := by
  unfold State.cycleClear
  try dsimp (proj := false) only
  repeat' (first | simp (disch := decide) only [↓onlyParts.self, ↓State.setChan_keeps, ↓with_chan, ↓with_ft] | with_reducible (refine onlyParts.fold ?_ _ ?_) | with_reducible (refine onlyParts.foldSnd ?_ _ ?_) | (refine onlyParts.snd (by assumption) ?_) | split | (intro (_ : State) _; try dsimp (proj := false) only) | (intro (_ : _ × State) _; try dsimp (proj := false) only))
theorem State.cycleClear_keeps {L₀ : List Part} {s₀ : State} (s : State) (h₀ : [(.ft : Part), (.chan : Part)].all (L₀.contains ·) = true) : onlyParts L₀ s₀ (State.cycleClear s) ↔ onlyParts L₀ s₀ s :=
  onlyParts.step (State.cycleClear_parts s) h₀

theorem State.stairStep_parts (s : State) (from' to' : Time) : onlyParts [.regs, .pend, .hl, .sc, .txts, .frozen, .treadRead] s (State.stairStep s from' to') := by
  unfold State.stairStep
  try dsimp (proj := false) only
  repeat' (first | simp (disch := decide) only [↓onlyParts.self, ↓State.addWrap_keeps, ↓State.stairApply_keeps, ↓State.stairNow_keeps, ↓with_frozen, ↓with_hl, ↓with_pend, ↓with_regs, ↓with_sc, ↓with_treadRead, ↓with_txts] | with_reducible (refine onlyParts.fold ?_ _ ?_) | with_reducible (refine onlyParts.foldSnd ?_ _ ?_) | (refine onlyParts.snd (by assumption) ?_) | split | (intro (_ : State) _; try dsimp (proj := false) only) | (intro (_ : _ × State) _; try dsimp (proj := false) only))
theorem State.stairStep_keeps {L₀ : List Part} {s₀ : State} (s : State) (from' to' : Time) (h₀ : [(.regs : Part), (.pend : Part), (.hl : Part), (.sc : Part), (.txts : Part), (.frozen : Part), (.treadRead : Part)].all (L₀.contains ·) = true) : onlyParts L₀ s₀ (State.stairStep s from' to') ↔ onlyParts L₀ s₀ s :=
  onlyParts.step (State.stairStep_parts s from' to') h₀

theorem State.stepTick_parts (s : State) : onlyParts [.regs, .tb, .time] s (State.stepTick s) := by
  unfold State.stepTick
  try dsimp (proj := false) only
  repeat' (first | simp (disch := decide) only [↓onlyParts.self, ↓State.addWrap_keeps, ↓State.raise_keeps, ↓with_regs, ↓with_tb, ↓with_tb_time, ↓with_time] | with_reducible (refine onlyParts.fold ?_ _ ?_) | with_reducible (refine onlyParts.foldSnd ?_ _ ?_) | (refine onlyParts.snd (by assumption) ?_) | split | (intro (_ : State) _; try dsimp (proj := false) only) | (intro (_ : _ × State) _; try dsimp (proj := false) only))
theorem State.stepTick_keeps {L₀ : List Part} {s₀ : State} (s : State) (h₀ : [(.regs : Part), (.tb : Part), (.time : Part)].all (L₀.contains ·) = true) : onlyParts L₀ s₀ (State.stepTick s) ↔ onlyParts L₀ s₀ s :=
  onlyParts.step (State.stepTick_parts s) h₀

theorem State.pmFree_parts (s : State) (n : Nat) (e : Nat × Nat) : onlyParts [.regs, .free] s (State.pmFree s n e) := by
  unfold State.pmFree
  try dsimp (proj := false) only
  repeat' (first | simp (disch := decide) only [↓onlyParts.self, ↓State.draw_keeps, ↓State.pm_keeps, ↓with_free, ↓with_regs] | with_reducible (refine onlyParts.fold ?_ _ ?_) | with_reducible (refine onlyParts.foldSnd ?_ _ ?_) | (refine onlyParts.snd (by assumption) ?_) | split | (intro (_ : State) _; try dsimp (proj := false) only) | (intro (_ : _ × State) _; try dsimp (proj := false) only))
theorem State.pmFree_keeps {L₀ : List Part} {s₀ : State} (s : State) (n : Nat) (e : Nat × Nat) (h₀ : [(.regs : Part), (.free : Part)].all (L₀.contains ·) = true) : onlyParts L₀ s₀ (State.pmFree s n e) ↔ onlyParts L₀ s₀ s :=
  onlyParts.step (State.pmFree_parts s n e) h₀

theorem State.pmClocks_parts (s : State) (n : Nat) : onlyParts [.regs, .free] s (State.pmClocks s n) := by
  unfold State.pmClocks
  try dsimp (proj := false) only
  repeat' (first | simp (disch := decide) only [↓onlyParts.self, ↓State.add64_keeps, ↓State.pm_keeps, ↓State.pmFree_keeps, ↓with_free, ↓with_regs] | with_reducible (refine onlyParts.fold ?_ _ ?_) | with_reducible (refine onlyParts.foldSnd ?_ _ ?_) | (refine onlyParts.snd (by assumption) ?_) | split | (intro (_ : State) _; try dsimp (proj := false) only) | (intro (_ : _ × State) _; try dsimp (proj := false) only))
theorem State.pmClocks_keeps {L₀ : List Part} {s₀ : State} (s : State) (n : Nat) (h₀ : [(.regs : Part), (.free : Part)].all (L₀.contains ·) = true) : onlyParts L₀ s₀ (State.pmClocks s n) ↔ onlyParts L₀ s₀ s :=
  onlyParts.step (State.pmClocks_parts s n) h₀

theorem State.incrTick_parts (s : State) : onlyParts [.regs, .time] s (State.incrTick s) := by
  unfold State.incrTick
  try dsimp (proj := false) only
  repeat' (first | simp (disch := decide) only [↓onlyParts.self, ↓State.set_keeps, ↓State.wr_keeps, ↓with_regs, ↓with_time] | with_reducible (refine onlyParts.fold ?_ _ ?_) | with_reducible (refine onlyParts.foldSnd ?_ _ ?_) | (refine onlyParts.snd (by assumption) ?_) | split | (intro (_ : State) _; try dsimp (proj := false) only) | (intro (_ : _ × State) _; try dsimp (proj := false) only))
theorem State.incrTick_keeps {L₀ : List Part} {s₀ : State} (s : State) (h₀ : [(.regs : Part), (.time : Part)].all (L₀.contains ·) = true) : onlyParts L₀ s₀ (State.incrTick s) ↔ onlyParts L₀ s₀ s :=
  onlyParts.step (State.incrTick_parts s) h₀

theorem State.taqTick_parts (s : State) : onlyParts [.regs, .taq] s (State.taqTick s) := by
  unfold State.taqTick
  try dsimp (proj := false) only
  repeat' (first | simp (disch := decide) only [↓onlyParts.self, ↓State.taqDue_keeps, ↓with_regs, ↓with_taq] | with_reducible (refine onlyParts.fold ?_ _ ?_) | with_reducible (refine onlyParts.foldSnd ?_ _ ?_) | (refine onlyParts.snd (by assumption) ?_) | split | (intro (_ : State) _; try dsimp (proj := false) only) | (intro (_ : _ × State) _; try dsimp (proj := false) only))
theorem State.taqTick_keeps {L₀ : List Part} {s₀ : State} (s : State) (h₀ : [(.regs : Part), (.taq : Part)].all (L₀.contains ·) = true) : onlyParts L₀ s₀ (State.taqTick s) ↔ onlyParts L₀ s₀ s :=
  onlyParts.step (State.taqTick_parts s) h₀

theorem State.snap_parts (s : State) (k : Nat) : onlyParts [.regs] s (State.snap s k) := by
  unfold State.snap
  try dsimp (proj := false) only
  repeat' (first | simp (disch := decide) only [↓onlyParts.self, ↓State.set_keeps, ↓State.setB_keeps, ↓with_regs] | with_reducible (refine onlyParts.fold ?_ _ ?_) | with_reducible (refine onlyParts.foldSnd ?_ _ ?_) | (refine onlyParts.snd (by assumption) ?_) | split | (intro (_ : State) _; try dsimp (proj := false) only) | (intro (_ : _ × State) _; try dsimp (proj := false) only))
theorem State.snap_keeps {L₀ : List Part} {s₀ : State} (s : State) (k : Nat) (h₀ : [(.regs : Part)].all (L₀.contains ·) = true) : onlyParts L₀ s₀ (State.snap s k) ↔ onlyParts L₀ s₀ s :=
  onlyParts.step (State.snap_parts s k) h₀

theorem State.ouTick_parts (s : State) : onlyParts [.regs, .sent, .ou] s (State.ouTick s) := by
  unfold State.ouTick
  try dsimp (proj := false) only
  repeat' (first | simp (disch := decide) only [↓onlyParts.self, ↓State.emit_keeps, ↓State.ouRefreshAll_keeps, ↓with_ou, ↓with_regs, ↓with_sent] | with_reducible (refine onlyParts.fold ?_ _ ?_) | with_reducible (refine onlyParts.foldSnd ?_ _ ?_) | (refine onlyParts.snd (by assumption) ?_) | split | (intro (_ : State) _; try dsimp (proj := false) only) | (intro (_ : _ × State) _; try dsimp (proj := false) only))
theorem State.ouTick_keeps {L₀ : List Part} {s₀ : State} (s : State) (h₀ : [(.regs : Part), (.sent : Part), (.ou : Part)].all (L₀.contains ·) = true) : onlyParts L₀ s₀ (State.ouTick s) ↔ onlyParts L₀ s₀ s :=
  onlyParts.step (State.ouTick_parts s) h₀

theorem State.forgetLapsed_parts (s : State) (r t : Nat) (own : List Nat) : onlyParts [.ft] s (State.forgetLapsed s r t own) := by
  unfold State.forgetLapsed
  try dsimp (proj := false) only
  repeat' (first | simp (disch := decide) only [↓onlyParts.self, ↓State.put_keeps, ↓with_ft] | with_reducible (refine onlyParts.fold ?_ _ ?_) | with_reducible (refine onlyParts.foldSnd ?_ _ ?_) | (refine onlyParts.snd (by assumption) ?_) | split | (intro (_ : State) _; try dsimp (proj := false) only) | (intro (_ : _ × State) _; try dsimp (proj := false) only))
theorem State.forgetLapsed_keeps {L₀ : List Part} {s₀ : State} (s : State) (r t : Nat) (own : List Nat) (h₀ : [(.ft : Part)].all (L₀.contains ·) = true) : onlyParts L₀ s₀ (State.forgetLapsed s r t own) ↔ onlyParts L₀ s₀ s :=
  onlyParts.step (State.forgetLapsed_parts s r t own) h₀

theorem State.ftLock_parts (s : State) (r t : Nat) (slots : List Nat) : onlyParts [.regs, .ft] s (State.ftLock s r t slots).2 := by
  unfold State.ftLock
  try dsimp (proj := false) only
  repeat' (first | simp (disch := decide) only [↓onlyParts.self, ↓State.forgetLapsed_keeps, ↓State.put_keeps, ↓State.set_keeps, ↓with_ft, ↓with_regs] | with_reducible (refine onlyParts.fold ?_ _ ?_) | with_reducible (refine onlyParts.foldSnd ?_ _ ?_) | (refine onlyParts.snd (by assumption) ?_) | split | (intro (_ : State) _; try dsimp (proj := false) only) | (intro (_ : _ × State) _; try dsimp (proj := false) only))
theorem State.ftLock_keeps {L₀ : List Part} {s₀ : State} (s : State) (r t : Nat) (slots : List Nat) (h₀ : [(.regs : Part), (.ft : Part)].all (L₀.contains ·) = true) : onlyParts L₀ s₀ (State.ftLock s r t slots).2 ↔ onlyParts L₀ s₀ s :=
  onlyParts.step (State.ftLock_parts s r t slots) h₀

theorem State.ftStopped_parts (s : State) (r t : Nat) (own : List Nat) (st : Nat) : onlyParts [.ft] s (State.ftStopped s r t own st) := by
  unfold State.ftStopped
  try dsimp (proj := false) only
  repeat' (first | simp (disch := decide) only [↓onlyParts.self, ↓State.forgetLapsed_keeps, ↓with_ft] | with_reducible (refine onlyParts.fold ?_ _ ?_) | with_reducible (refine onlyParts.foldSnd ?_ _ ?_) | (refine onlyParts.snd (by assumption) ?_) | split | (intro (_ : State) _; try dsimp (proj := false) only) | (intro (_ : _ × State) _; try dsimp (proj := false) only))
theorem State.ftStopped_keeps {L₀ : List Part} {s₀ : State} (s : State) (r t : Nat) (own : List Nat) (st : Nat) (h₀ : [(.ft : Part)].all (L₀.contains ·) = true) : onlyParts L₀ s₀ (State.ftStopped s r t own st) ↔ onlyParts L₀ s₀ s :=
  onlyParts.step (State.ftStopped_parts s r t own st) h₀

theorem State.ptpErr_parts (s : State) (f : FRef) : onlyParts [.regs] s (State.ptpErr s f) := by
  unfold State.ptpErr
  try dsimp (proj := false) only
  repeat' (first | simp (disch := decide) only [↓onlyParts.self, ↓State.inc_keeps, ↓State.raise_keeps, ↓with_regs] | with_reducible (refine onlyParts.fold ?_ _ ?_) | with_reducible (refine onlyParts.foldSnd ?_ _ ?_) | (refine onlyParts.snd (by assumption) ?_) | split | (intro (_ : State) _; try dsimp (proj := false) only) | (intro (_ : _ × State) _; try dsimp (proj := false) only))
theorem State.ptpErr_keeps {L₀ : List Part} {s₀ : State} (s : State) (f : FRef) (h₀ : [(.regs : Part)].all (L₀.contains ·) = true) : onlyParts L₀ s₀ (State.ptpErr s f) ↔ onlyParts L₀ s₀ s :=
  onlyParts.step (State.ptpErr_parts s f) h₀

theorem State.ptpEgress_parts (s : State) (x : Pkt) (p : Nat) (e : Edited) (egr : Time) : onlyParts [.regs] s (State.ptpEgress s x p e egr).2 := by
  unfold State.ptpEgress
  try dsimp (proj := false) only
  repeat' (first | simp (disch := decide) only [↓onlyParts.self, ↓State.inc_keeps, ↓State.pm_keeps, ↓State.ptpErr_keeps, ↓with_regs] | with_reducible (refine onlyParts.fold ?_ _ ?_) | with_reducible (refine onlyParts.foldSnd ?_ _ ?_) | (refine onlyParts.snd (by assumption) ?_) | split | (intro (_ : State) _; try dsimp (proj := false) only) | (intro (_ : _ × State) _; try dsimp (proj := false) only))
theorem State.ptpEgress_keeps {L₀ : List Part} {s₀ : State} (s : State) (x : Pkt) (p : Nat) (e : Edited) (egr : Time) (h₀ : [(.regs : Part)].all (L₀.contains ·) = true) : onlyParts L₀ s₀ (State.ptpEgress s x p e egr).2 ↔ onlyParts L₀ s₀ s :=
  onlyParts.step (State.ptpEgress_parts s x p e egr) h₀

theorem State.evQueue_parts (s : State) (i : Nat) (x : Stamp) : onlyParts [.regs, .evIn] s (State.evQueue s i x) := by
  unfold State.evQueue
  try dsimp (proj := false) only
  repeat' (first | simp (disch := decide) only [↓onlyParts.self, ↓State.inc_keeps, ↓State.raise_keeps, ↓State.set_keeps, ↓State.setEvIn_keeps, ↓with_evIn, ↓with_regs] | with_reducible (refine onlyParts.fold ?_ _ ?_) | with_reducible (refine onlyParts.foldSnd ?_ _ ?_) | (refine onlyParts.snd (by assumption) ?_) | split | (intro (_ : State) _; try dsimp (proj := false) only) | (intro (_ : _ × State) _; try dsimp (proj := false) only))
theorem State.evQueue_keeps {L₀ : List Part} {s₀ : State} (s : State) (i : Nat) (x : Stamp) (h₀ : [(.regs : Part), (.evIn : Part)].all (L₀.contains ·) = true) : onlyParts L₀ s₀ (State.evQueue s i x) ↔ onlyParts L₀ s₀ s :=
  onlyParts.step (State.evQueue_parts s i x) h₀

theorem State.evStarts_parts (s : State) (i : Nat) (x : Stamp) : onlyParts [.regs, .evGrp] s (State.evStarts s i x) := by
  unfold State.evStarts
  try dsimp (proj := false) only
  repeat' (first | simp (disch := decide) only [↓onlyParts.self, ↓State.setEvGrp_keeps, ↓with_evGrp, ↓with_regs] | with_reducible (refine onlyParts.fold ?_ _ ?_) | with_reducible (refine onlyParts.foldSnd ?_ _ ?_) | (refine onlyParts.snd (by assumption) ?_) | split | (intro (_ : State) _; try dsimp (proj := false) only) | (intro (_ : _ × State) _; try dsimp (proj := false) only))
theorem State.evStarts_keeps {L₀ : List Part} {s₀ : State} (s : State) (i : Nat) (x : Stamp) (h₀ : [(.regs : Part), (.evGrp : Part)].all (L₀.contains ·) = true) : onlyParts L₀ s₀ (State.evStarts s i x) ↔ onlyParts L₀ s₀ s :=
  onlyParts.step (State.evStarts_parts s i x) h₀

theorem State.evAccept_parts (s : State) (i : Nat) (falling : Bool) (core at' : Int) : onlyParts [.regs, .evIn, .evGrp] s (State.evAccept s i falling core at') := by
  unfold State.evAccept
  try dsimp (proj := false) only
  repeat' (first | simp (disch := decide) only [↓onlyParts.self, ↓State.addWrap_keeps, ↓State.evQueue_keeps, ↓State.evStarts_keeps, ↓State.setEvIn_keeps, ↓with_evGrp, ↓with_evIn, ↓with_regs] | with_reducible (refine onlyParts.fold ?_ _ ?_) | with_reducible (refine onlyParts.foldSnd ?_ _ ?_) | (refine onlyParts.snd (by assumption) ?_) | split | (intro (_ : State) _; try dsimp (proj := false) only) | (intro (_ : _ × State) _; try dsimp (proj := false) only))
theorem State.evAccept_keeps {L₀ : List Part} {s₀ : State} (s : State) (i : Nat) (falling : Bool) (core at' : Int) (h₀ : [(.regs : Part), (.evIn : Part), (.evGrp : Part)].all (L₀.contains ·) = true) : onlyParts L₀ s₀ (State.evAccept s i falling core at') ↔ onlyParts L₀ s₀ s :=
  onlyParts.step (State.evAccept_parts s i falling core at') h₀

theorem State.sendVec_parts (s : State) (v : Nat) : onlyParts [.sent, .host] s (State.sendVec s v) := by
  unfold State.sendVec
  try dsimp (proj := false) only
  repeat' (first | simp (disch := decide) only [↓onlyParts.self, ↓State.emit_keeps, ↓with_host, ↓with_sent] | with_reducible (refine onlyParts.fold ?_ _ ?_) | with_reducible (refine onlyParts.foldSnd ?_ _ ?_) | (refine onlyParts.snd (by assumption) ?_) | split | (intro (_ : State) _; try dsimp (proj := false) only) | (intro (_ : _ × State) _; try dsimp (proj := false) only))
theorem State.sendVec_keeps {L₀ : List Part} {s₀ : State} (s : State) (v : Nat) (h₀ : [(.sent : Part), (.host : Part)].all (L₀.contains ·) = true) : onlyParts L₀ s₀ (State.sendVec s v) ↔ onlyParts L₀ s₀ s :=
  onlyParts.step (State.sendVec_parts s v) h₀

theorem State.serveVec_parts (s : State) (v : Nat) : onlyParts [.regs, .sent, .host] s (State.serveVec s v) := by
  unfold State.serveVec
  try dsimp (proj := false) only
  repeat' (first | simp (disch := decide) only [↓onlyParts.self, ↓State.sendVec_keeps, ↓State.set_keeps, ↓with_host, ↓with_regs, ↓with_sent] | with_reducible (refine onlyParts.fold ?_ _ ?_) | with_reducible (refine onlyParts.foldSnd ?_ _ ?_) | (refine onlyParts.snd (by assumption) ?_) | split | (intro (_ : State) _; try dsimp (proj := false) only) | (intro (_ : _ × State) _; try dsimp (proj := false) only))
theorem State.serveVec_keeps {L₀ : List Part} {s₀ : State} (s : State) (v : Nat) (h₀ : [(.regs : Part), (.sent : Part), (.host : Part)].all (L₀.contains ·) = true) : onlyParts L₀ s₀ (State.serveVec s v) ↔ onlyParts L₀ s₀ s :=
  onlyParts.step (State.serveVec_parts s v) h₀

theorem State.deliver_parts (s : State) : onlyParts [.regs, .sent, .host] s (State.deliver s) := by
  unfold State.deliver
  try dsimp (proj := false) only
  repeat' (first | simp (disch := decide) only [↓onlyParts.self, ↓State.serveVec_keeps, ↓with_host, ↓with_regs, ↓with_sent] | with_reducible (refine onlyParts.fold ?_ _ ?_) | with_reducible (refine onlyParts.foldSnd ?_ _ ?_) | (refine onlyParts.snd (by assumption) ?_) | split | (intro (_ : State) _; try dsimp (proj := false) only) | (intro (_ : _ × State) _; try dsimp (proj := false) only))
theorem State.deliver_keeps {L₀ : List Part} {s₀ : State} (s : State) (h₀ : [(.regs : Part), (.sent : Part), (.host : Part)].all (L₀.contains ·) = true) : onlyParts L₀ s₀ (State.deliver s) ↔ onlyParts L₀ s₀ s :=
  onlyParts.step (State.deliver_parts s) h₀

theorem State.erasePtr_parts (s : State) : onlyParts [.fu] s (State.erasePtr s) := by
  unfold State.erasePtr
  try dsimp (proj := false) only
  repeat' (first | simp (disch := decide) only [↓onlyParts.self, ↓with_fu] | with_reducible (refine onlyParts.fold ?_ _ ?_) | with_reducible (refine onlyParts.foldSnd ?_ _ ?_) | (refine onlyParts.snd (by assumption) ?_) | split | (intro (_ : State) _; try dsimp (proj := false) only) | (intro (_ : _ × State) _; try dsimp (proj := false) only))
theorem State.erasePtr_keeps {L₀ : List Part} {s₀ : State} (s : State) (h₀ : [(.fu : Part)].all (L₀.contains ·) = true) : onlyParts L₀ s₀ (State.erasePtr s) ↔ onlyParts L₀ s₀ s :=
  onlyParts.step (State.erasePtr_parts s) h₀

theorem State.setBlock_parts (s : State) (i : Nat) (b : Option FwBlock) : onlyParts [.fu] s (State.setBlock s i b) := by
  unfold State.setBlock
  try dsimp (proj := false) only
  repeat' (first | simp (disch := decide) only [↓onlyParts.self, ↓State.put_keeps, ↓with_fu] | with_reducible (refine onlyParts.fold ?_ _ ?_) | with_reducible (refine onlyParts.foldSnd ?_ _ ?_) | (refine onlyParts.snd (by assumption) ?_) | split | (intro (_ : State) _; try dsimp (proj := false) only) | (intro (_ : _ × State) _; try dsimp (proj := false) only))
theorem State.setBlock_keeps {L₀ : List Part} {s₀ : State} (s : State) (i : Nat) (b : Option FwBlock) (h₀ : [(.fu : Part)].all (L₀.contains ·) = true) : onlyParts L₀ s₀ (State.setBlock s i b) ↔ onlyParts L₀ s₀ s :=
  onlyParts.step (State.setBlock_parts s i b) h₀

theorem State.setSlot_parts (s : State) (k : Nat) (x : FwSlot) : onlyParts [.fu] s (State.setSlot s k x) := by
  unfold State.setSlot
  try dsimp (proj := false) only
  repeat' (first | simp (disch := decide) only [↓onlyParts.self, ↓with_fu] | with_reducible (refine onlyParts.fold ?_ _ ?_) | with_reducible (refine onlyParts.foldSnd ?_ _ ?_) | (refine onlyParts.snd (by assumption) ?_) | split | (intro (_ : State) _; try dsimp (proj := false) only) | (intro (_ : _ × State) _; try dsimp (proj := false) only))
theorem State.setSlot_keeps {L₀ : List Part} {s₀ : State} (s : State) (k : Nat) (x : FwSlot) (h₀ : [(.fu : Part)].all (L₀.contains ·) = true) : onlyParts L₀ s₀ (State.setSlot s k x) ↔ onlyParts L₀ s₀ s :=
  onlyParts.step (State.setSlot_parts s k x) h₀

theorem State.eraseHeader_parts (s : State) : onlyParts [.regs, .fu] s (State.eraseHeader s) := by
  unfold State.eraseHeader
  try dsimp (proj := false) only
  repeat' (first | simp (disch := decide) only [↓onlyParts.self, ↓State.fuSlots_keeps, ↓State.set_keeps, ↓State.setSlot_keeps, ↓with_fu, ↓with_regs] | with_reducible (refine onlyParts.fold ?_ _ ?_) | with_reducible (refine onlyParts.foldSnd ?_ _ ?_) | (refine onlyParts.snd (by assumption) ?_) | split | (intro (_ : State) _; try dsimp (proj := false) only) | (intro (_ : _ × State) _; try dsimp (proj := false) only))
theorem State.eraseHeader_keeps {L₀ : List Part} {s₀ : State} (s : State) (h₀ : [(.regs : Part), (.fu : Part)].all (L₀.contains ·) = true) : onlyParts L₀ s₀ (State.eraseHeader s) ↔ onlyParts L₀ s₀ s :=
  onlyParts.step (State.eraseHeader_parts s) h₀

theorem State.verifyFails_parts (s : State) (result : Nat) : onlyParts [.regs, .fu] s (State.verifyFails s result) := by
  unfold State.verifyFails
  try dsimp (proj := false) only
  repeat' (first | simp (disch := decide) only [↓onlyParts.self, ↓State.fuState_keeps, ↓State.raise_keeps, ↓State.set_keeps, ↓with_fu, ↓with_regs] | with_reducible (refine onlyParts.fold ?_ _ ?_) | with_reducible (refine onlyParts.foldSnd ?_ _ ?_) | (refine onlyParts.snd (by assumption) ?_) | split | (intro (_ : State) _; try dsimp (proj := false) only) | (intro (_ : _ × State) _; try dsimp (proj := false) only))
theorem State.verifyFails_keeps {L₀ : List Part} {s₀ : State} (s : State) (result : Nat) (h₀ : [(.regs : Part), (.fu : Part)].all (L₀.contains ·) = true) : onlyParts L₀ s₀ (State.verifyFails s result) ↔ onlyParts L₀ s₀ s :=
  onlyParts.step (State.verifyFails_parts s result) h₀

theorem State.handoverCommit_parts (s : State) (window : Nat) : onlyParts [.regs, .mbox, .mp, .hl, .fu] s (State.handoverCommit s window) := by
  unfold State.handoverCommit
  try dsimp (proj := false) only
  repeat' (first | simp (disch := decide) only [↓onlyParts.self, ↓State.fuRegs_keeps, ↓State.fuState_keeps, ↓State.mbAnswerWaiting_keeps, ↓State.raise_keeps, ↓State.writePtr_keeps, ↓State.writeRecord_keeps, ↓with_fu, ↓with_hl, ↓with_mbox, ↓with_mp, ↓with_regs] | with_reducible (refine onlyParts.fold ?_ _ ?_) | with_reducible (refine onlyParts.foldSnd ?_ _ ?_) | (refine onlyParts.snd (by assumption) ?_) | split | (intro (_ : State) _; try dsimp (proj := false) only) | (intro (_ : _ × State) _; try dsimp (proj := false) only))
theorem State.handoverCommit_keeps {L₀ : List Part} {s₀ : State} (s : State) (window : Nat) (h₀ : [(.regs : Part), (.mbox : Part), (.mp : Part), (.hl : Part), (.fu : Part)].all (L₀.contains ·) = true) : onlyParts L₀ s₀ (State.handoverCommit s window) ↔ onlyParts L₀ s₀ s :=
  onlyParts.step (State.handoverCommit_parts s window) h₀

theorem State.handoverReturn_parts (s : State) (result reason : Nat) : onlyParts [.regs, .free, .mbox, .mp, .hl, .fu] s (State.handoverReturn s result reason) := by
  unfold State.handoverReturn
  try dsimp (proj := false) only
  repeat' (first | simp (disch := decide) only [↓onlyParts.self, ↓State.draw_keeps, ↓State.fuState_keeps, ↓State.hlLog_keeps, ↓State.mbAnswerWaiting_keeps, ↓State.set_keeps, ↓State.store_keeps, ↓with_free, ↓with_fu, ↓with_hl, ↓with_mbox, ↓with_mp, ↓with_regs] | with_reducible (refine onlyParts.fold ?_ _ ?_) | with_reducible (refine onlyParts.foldSnd ?_ _ ?_) | (refine onlyParts.snd (by assumption) ?_) | split | (intro (_ : State) _; try dsimp (proj := false) only) | (intro (_ : _ × State) _; try dsimp (proj := false) only))
theorem State.handoverReturn_keeps {L₀ : List Part} {s₀ : State} (s : State) (result reason : Nat) (h₀ : [(.regs : Part), (.free : Part), (.mbox : Part), (.mp : Part), (.hl : Part), (.fu : Part)].all (L₀.contains ·) = true) : onlyParts L₀ s₀ (State.handoverReturn s result reason) ↔ onlyParts L₀ s₀ s :=
  onlyParts.step (State.handoverReturn_parts s result reason) h₀

theorem State.otpBurn_parts (s : State) (burn : Bool) : onlyParts [.regs, .fu] s (State.otpBurn s burn) := by
  unfold State.otpBurn
  try dsimp (proj := false) only
  repeat' (first | simp (disch := decide) only [↓onlyParts.self, ↓State.raise_keeps, ↓State.set_keeps, ↓with_fu, ↓with_regs] | with_reducible (refine onlyParts.fold ?_ _ ?_) | with_reducible (refine onlyParts.foldSnd ?_ _ ?_) | (refine onlyParts.snd (by assumption) ?_) | split | (intro (_ : State) _; try dsimp (proj := false) only) | (intro (_ : _ × State) _; try dsimp (proj := false) only))
theorem State.otpBurn_keeps {L₀ : List Part} {s₀ : State} (s : State) (burn : Bool) (h₀ : [(.regs : Part), (.fu : Part)].all (L₀.contains ·) = true) : onlyParts L₀ s₀ (State.otpBurn s burn) ↔ onlyParts L₀ s₀ s :=
  onlyParts.step (State.otpBurn_parts s burn) h₀

theorem State.revert_parts (s : State) (flash : Bool) (result : Nat) : onlyParts [.regs, .free, .sent, .mp, .hl, .bw, .sc, .tw, .fu] s (State.revert s flash result) := by
  unfold State.revert
  try dsimp (proj := false) only
  repeat' (first | simp (disch := decide) only [↓onlyParts.self, ↓State.fuIdle_keeps, ↓State.mpRestart_keeps, ↓State.raise_keeps, ↓State.writePtr_keeps, ↓with_bw, ↓with_free, ↓with_fu, ↓with_hl, ↓with_mp, ↓with_regs, ↓with_sc, ↓with_sent, ↓with_tw] | with_reducible (refine onlyParts.fold ?_ _ ?_) | with_reducible (refine onlyParts.foldSnd ?_ _ ?_) | (refine onlyParts.snd (by assumption) ?_) | split | (intro (_ : State) _; try dsimp (proj := false) only) | (intro (_ : _ × State) _; try dsimp (proj := false) only))
theorem State.revert_keeps {L₀ : List Part} {s₀ : State} (s : State) (flash : Bool) (result : Nat) (h₀ : [(.regs : Part), (.free : Part), (.sent : Part), (.mp : Part), (.hl : Part), (.bw : Part), (.sc : Part), (.tw : Part), (.fu : Part)].all (L₀.contains ·) = true) : onlyParts L₀ s₀ (State.revert s flash result) ↔ onlyParts L₀ s₀ s :=
  onlyParts.step (State.revert_parts s flash result) h₀

theorem State.hlRelease_parts (s : State) (code inst : Nat) : onlyParts [.regs, .hl] s (State.hlRelease s code inst) := by
  unfold State.hlRelease
  try dsimp (proj := false) only
  repeat' (first | simp (disch := decide) only [↓onlyParts.self, ↓State.hlHeld_keeps, ↓State.hlLog_keeps, ↓with_hl, ↓with_regs] | with_reducible (refine onlyParts.fold ?_ _ ?_) | with_reducible (refine onlyParts.foldSnd ?_ _ ?_) | (refine onlyParts.snd (by assumption) ?_) | split | (intro (_ : State) _; try dsimp (proj := false) only) | (intro (_ : _ × State) _; try dsimp (proj := false) only))
theorem State.hlRelease_keeps {L₀ : List Part} {s₀ : State} (s : State) (code inst : Nat) (h₀ : [(.regs : Part), (.hl : Part)].all (L₀.contains ·) = true) : onlyParts L₀ s₀ (State.hlRelease s code inst) ↔ onlyParts L₀ s₀ s :=
  onlyParts.step (State.hlRelease_parts s code inst) h₀

theorem State.hlCauseEnds_parts (s : State) (code inst : Nat) : onlyParts [.hl] s (State.hlCauseEnds s code inst) := by
  unfold State.hlCauseEnds
  try dsimp (proj := false) only
  repeat' (first | simp (disch := decide) only [↓onlyParts.self, ↓with_hl] | with_reducible (refine onlyParts.fold ?_ _ ?_) | with_reducible (refine onlyParts.foldSnd ?_ _ ?_) | (refine onlyParts.snd (by assumption) ?_) | split | (intro (_ : State) _; try dsimp (proj := false) only) | (intro (_ : _ × State) _; try dsimp (proj := false) only))
theorem State.hlCauseEnds_keeps {L₀ : List Part} {s₀ : State} (s : State) (code inst : Nat) (h₀ : [(.hl : Part)].all (L₀.contains ·) = true) : onlyParts L₀ s₀ (State.hlCauseEnds s code inst) ↔ onlyParts L₀ s₀ s :=
  onlyParts.step (State.hlCauseEnds_parts s code inst) h₀

theorem State.saveSettings_parts (s : State) (l : List (Nat × Word)) : onlyParts [.fu] s (State.saveSettings s l) := by
  unfold State.saveSettings
  try dsimp (proj := false) only
  repeat' (first | simp (disch := decide) only [↓onlyParts.self, ↓State.put_keeps, ↓State.writeRecord_keeps, ↓with_fu] | with_reducible (refine onlyParts.fold ?_ _ ?_) | with_reducible (refine onlyParts.foldSnd ?_ _ ?_) | (refine onlyParts.snd (by assumption) ?_) | split | (intro (_ : State) _; try dsimp (proj := false) only) | (intro (_ : _ × State) _; try dsimp (proj := false) only))
theorem State.saveSettings_keeps {L₀ : List Part} {s₀ : State} (s : State) (l : List (Nat × Word)) (h₀ : [(.fu : Part)].all (L₀.contains ·) = true) : onlyParts L₀ s₀ (State.saveSettings s l) ↔ onlyParts L₀ s₀ s :=
  onlyParts.step (State.saveSettings_parts s l) h₀

theorem State.codeReload_parts (s : State) (b r : Nat) : onlyParts [.regs, .free, .sent, .mp, .hl, .bw, .sc, .tw] s (State.codeReload s b r) := by
  unfold State.codeReload
  try dsimp (proj := false) only
  repeat' (first | simp (disch := decide) only [↓onlyParts.self, ↓State.mpRestart_keeps, ↓with_bw, ↓with_free, ↓with_hl, ↓with_mp, ↓with_regs, ↓with_sc, ↓with_sent, ↓with_tw] | with_reducible (refine onlyParts.fold ?_ _ ?_) | with_reducible (refine onlyParts.foldSnd ?_ _ ?_) | (refine onlyParts.snd (by assumption) ?_) | split | (intro (_ : State) _; try dsimp (proj := false) only) | (intro (_ : _ × State) _; try dsimp (proj := false) only))
theorem State.codeReload_keeps {L₀ : List Part} {s₀ : State} (s : State) (b r : Nat) (h₀ : [(.regs : Part), (.free : Part), (.sent : Part), (.mp : Part), (.hl : Part), (.bw : Part), (.sc : Part), (.tw : Part)].all (L₀.contains ·) = true) : onlyParts L₀ s₀ (State.codeReload s b r) ↔ onlyParts L₀ s₀ s :=
  onlyParts.step (State.codeReload_parts s b r) h₀

theorem State.tempOne_parts (s : State) (k : Nat) (v : Int) : onlyParts [.regs, .hl] s (State.tempOne s k v) := by
  unfold State.tempOne
  try dsimp (proj := false) only
  repeat' (first | simp (disch := decide) only [↓onlyParts.self, ↓State.hlCauseEnds_keeps, ↓State.hlLasting_keeps, ↓State.hlTransient_keeps, ↓State.raise_keeps, ↓State.set_keeps, ↓with_hl, ↓with_regs] | with_reducible (refine onlyParts.fold ?_ _ ?_) | with_reducible (refine onlyParts.foldSnd ?_ _ ?_) | (refine onlyParts.snd (by assumption) ?_) | split | (intro (_ : State) _; try dsimp (proj := false) only) | (intro (_ : _ × State) _; try dsimp (proj := false) only))
theorem State.tempOne_keeps {L₀ : List Part} {s₀ : State} (s : State) (k : Nat) (v : Int) (h₀ : [(.regs : Part), (.hl : Part)].all (L₀.contains ·) = true) : onlyParts L₀ s₀ (State.tempOne s k v) ↔ onlyParts L₀ s₀ s :=
  onlyParts.step (State.tempOne_parts s k v) h₀

theorem State.supplyOne_parts (s : State) (k v : Nat) : onlyParts [.regs, .hl] s (State.supplyOne s k v) := by
  unfold State.supplyOne
  try dsimp (proj := false) only
  repeat' (first | simp (disch := decide) only [↓onlyParts.self, ↓State.hlCauseEnds_keeps, ↓State.hlLasting_keeps, ↓State.hlTransient_keeps, ↓State.raise_keeps, ↓State.set_keeps, ↓with_hl, ↓with_regs] | with_reducible (refine onlyParts.fold ?_ _ ?_) | with_reducible (refine onlyParts.foldSnd ?_ _ ?_) | (refine onlyParts.snd (by assumption) ?_) | split | (intro (_ : State) _; try dsimp (proj := false) only) | (intro (_ : _ × State) _; try dsimp (proj := false) only))
theorem State.supplyOne_keeps {L₀ : List Part} {s₀ : State} (s : State) (k v : Nat) (h₀ : [(.regs : Part), (.hl : Part)].all (L₀.contains ·) = true) : onlyParts L₀ s₀ (State.supplyOne s k v) ↔ onlyParts L₀ s₀ s :=
  onlyParts.step (State.supplyOne_parts s k v) h₀

theorem State.loopStart_parts (s : State) (n kind depth index peer : Nat) : onlyParts [.regs, .pend, .hl] s (State.loopStart s n kind depth index peer) := by
  unfold State.loopStart
  try dsimp (proj := false) only
  repeat' (first | simp (disch := decide) only [↓onlyParts.self, ↓State.put_keeps, ↓with_hl, ↓with_pend, ↓with_regs] | with_reducible (refine onlyParts.fold ?_ _ ?_) | with_reducible (refine onlyParts.foldSnd ?_ _ ?_) | (refine onlyParts.snd (by assumption) ?_) | split | (intro (_ : State) _; try dsimp (proj := false) only) | (intro (_ : _ × State) _; try dsimp (proj := false) only))
theorem State.loopStart_keeps {L₀ : List Part} {s₀ : State} (s : State) (n kind depth index peer : Nat) (h₀ : [(.regs : Part), (.pend : Part), (.hl : Part)].all (L₀.contains ·) = true) : onlyParts L₀ s₀ (State.loopStart s n kind depth index peer) ↔ onlyParts L₀ s₀ s :=
  onlyParts.step (State.loopStart_parts s n kind depth index peer) h₀

theorem State.histStat_parts (s : State) (c : Nat) : onlyParts [.regs] s (State.histStat s c) := by
  unfold State.histStat
  try dsimp (proj := false) only
  repeat' (first | simp (disch := decide) only [↓onlyParts.self, ↓State.set_keeps, ↓State.setB_keeps, ↓with_regs] | with_reducible (refine onlyParts.fold ?_ _ ?_) | with_reducible (refine onlyParts.foldSnd ?_ _ ?_) | (refine onlyParts.snd (by assumption) ?_) | split | (intro (_ : State) _; try dsimp (proj := false) only) | (intro (_ : _ × State) _; try dsimp (proj := false) only))
theorem State.histStat_keeps {L₀ : List Part} {s₀ : State} (s : State) (c : Nat) (h₀ : [(.regs : Part)].all (L₀.contains ·) = true) : onlyParts L₀ s₀ (State.histStat s c) ↔ onlyParts L₀ s₀ s :=
  onlyParts.step (State.histStat_parts s c) h₀

theorem State.mspWrite_parts (s : State) (b : Bytes) : onlyParts [.pending, .variant, .regs, .pend, .clk, .free, .sent, .tb, .power, .host, .ownerNext, .mbox, .mp, .hl, .bw, .lane, .port, .sc, .pr, .ft, .txts, .frozen, .taq, .time, .chan, .smp, .esmc, .ou, .tdc, .evIn, .evGrp, .tw, .px, .ptp, .tod, .retain, .fu, .unit, .treadRead] s (State.mspWrite s b).2 := fun p hp => absurd (by cases p <;> decide) hp
theorem State.mspWrite_keeps {L₀ : List Part} {s₀ : State} (s : State) (b : Bytes) (h₀ : [(.pending : Part), (.variant : Part), (.regs : Part), (.pend : Part), (.clk : Part), (.free : Part), (.sent : Part), (.tb : Part), (.power : Part), (.host : Part), (.ownerNext : Part), (.mbox : Part), (.mp : Part), (.hl : Part), (.bw : Part), (.lane : Part), (.port : Part), (.sc : Part), (.pr : Part), (.ft : Part), (.txts : Part), (.frozen : Part), (.taq : Part), (.time : Part), (.chan : Part), (.smp : Part), (.esmc : Part), (.ou : Part), (.tdc : Part), (.evIn : Part), (.evGrp : Part), (.tw : Part), (.px : Part), (.ptp : Part), (.tod : Part), (.retain : Part), (.fu : Part), (.unit : Part), (.treadRead : Part)].all (L₀.contains ·) = true) : onlyParts L₀ s₀ (State.mspWrite s b).2 ↔ onlyParts L₀ s₀ s :=
  onlyParts.step (State.mspWrite_parts s b) h₀

theorem State.mspRead_parts (s : State) (b : Bytes) : onlyParts [.regs, .txts, .taq, .evIn, .evGrp] s (State.mspRead s b).2 := by
  unfold State.mspRead
  try dsimp (proj := false) only
  repeat' (first | simp (disch := decide) only [↓onlyParts.self, ↓State.busRead_keeps, ↓with_evGrp, ↓with_evIn, ↓with_regs, ↓with_taq, ↓with_txts] | with_reducible (refine onlyParts.fold ?_ _ ?_) | with_reducible (refine onlyParts.foldSnd ?_ _ ?_) | (refine onlyParts.snd (by assumption) ?_) | split | (intro (_ : State) _; try dsimp (proj := false) only) | (intro (_ : _ × State) _; try dsimp (proj := false) only))
theorem State.mspRead_keeps {L₀ : List Part} {s₀ : State} (s : State) (b : Bytes) (h₀ : [(.regs : Part), (.txts : Part), (.taq : Part), (.evIn : Part), (.evGrp : Part)].all (L₀.contains ·) = true) : onlyParts L₀ s₀ (State.mspRead s b).2 ↔ onlyParts L₀ s₀ s :=
  onlyParts.step (State.mspRead_parts s b) h₀

theorem State.taqRun_parts (s : State) (i : Nat) : onlyParts [.pending, .variant, .regs, .pend, .clk, .free, .sent, .tb, .power, .host, .ownerNext, .mbox, .mp, .hl, .bw, .lane, .port, .sc, .pr, .ft, .txts, .frozen, .taq, .time, .chan, .smp, .esmc, .ou, .tdc, .evIn, .evGrp, .tw, .px, .ptp, .tod, .retain, .fu, .unit, .treadRead] s (State.taqRun s i) := fun p hp => absurd (by cases p <;> decide) hp
theorem State.taqRun_keeps {L₀ : List Part} {s₀ : State} (s : State) (i : Nat) (h₀ : [(.pending : Part), (.variant : Part), (.regs : Part), (.pend : Part), (.clk : Part), (.free : Part), (.sent : Part), (.tb : Part), (.power : Part), (.host : Part), (.ownerNext : Part), (.mbox : Part), (.mp : Part), (.hl : Part), (.bw : Part), (.lane : Part), (.port : Part), (.sc : Part), (.pr : Part), (.ft : Part), (.txts : Part), (.frozen : Part), (.taq : Part), (.time : Part), (.chan : Part), (.smp : Part), (.esmc : Part), (.ou : Part), (.tdc : Part), (.evIn : Part), (.evGrp : Part), (.tw : Part), (.px : Part), (.ptp : Part), (.tod : Part), (.retain : Part), (.fu : Part), (.unit : Part), (.treadRead : Part)].all (L₀.contains ·) = true) : onlyParts L₀ s₀ (State.taqRun s i) ↔ onlyParts L₀ s₀ s :=
  onlyParts.step (State.taqRun_parts s i) h₀

theorem State.laneCause_parts (s : State) (l : Nat) (f : FRef) : onlyParts [.regs] s (State.laneCause s l f) := by
  unfold State.laneCause
  try dsimp (proj := false) only
  repeat' (first | simp (disch := decide) only [↓onlyParts.self, ↓State.raise_keeps, ↓with_regs] | with_reducible (refine onlyParts.fold ?_ _ ?_) | with_reducible (refine onlyParts.foldSnd ?_ _ ?_) | (refine onlyParts.snd (by assumption) ?_) | split | (intro (_ : State) _; try dsimp (proj := false) only) | (intro (_ : _ × State) _; try dsimp (proj := false) only))
theorem State.laneCause_keeps {L₀ : List Part} {s₀ : State} (s : State) (l : Nat) (f : FRef) (h₀ : [(.regs : Part)].all (L₀.contains ·) = true) : onlyParts L₀ s₀ (State.laneCause s l f) ↔ onlyParts L₀ s₀ s :=
  onlyParts.step (State.laneCause_parts s l f) h₀

theorem State.laneTx_parts (s : State) (l : Nat) : onlyParts [.regs] s (State.laneTx s l) := by
  unfold State.laneTx
  try dsimp (proj := false) only
  repeat' (first | simp (disch := decide) only [↓onlyParts.self, ↓State.setB_keeps, ↓with_regs] | with_reducible (refine onlyParts.fold ?_ _ ?_) | with_reducible (refine onlyParts.foldSnd ?_ _ ?_) | (refine onlyParts.snd (by assumption) ?_) | split | (intro (_ : State) _; try dsimp (proj := false) only) | (intro (_ : _ × State) _; try dsimp (proj := false) only))
theorem State.laneTx_keeps {L₀ : List Part} {s₀ : State} (s : State) (l : Nat) (h₀ : [(.regs : Part)].all (L₀.contains ·) = true) : onlyParts L₀ s₀ (State.laneTx s l) ↔ onlyParts L₀ s₀ s :=
  onlyParts.step (State.laneTx_parts s l) h₀

theorem State.scDiscardPort_parts (s : State) (p code : Nat) : onlyParts [.regs, .sc, .txts] s (State.scDiscardPort s p code) := by
  unfold State.scDiscardPort
  try dsimp (proj := false) only
  repeat' (first | simp (disch := decide) only [↓onlyParts.self, ↓State.discard_keeps, ↓with_regs, ↓with_sc, ↓with_txts] | with_reducible (refine onlyParts.fold ?_ _ ?_) | with_reducible (refine onlyParts.foldSnd ?_ _ ?_) | (refine onlyParts.snd (by assumption) ?_) | split | (intro (_ : State) _; try dsimp (proj := false) only) | (intro (_ : _ × State) _; try dsimp (proj := false) only))
theorem State.scDiscardPort_keeps {L₀ : List Part} {s₀ : State} (s : State) (p code : Nat) (h₀ : [(.regs : Part), (.sc : Part), (.txts : Part)].all (L₀.contains ·) = true) : onlyParts L₀ s₀ (State.scDiscardPort s p code) ↔ onlyParts L₀ s₀ s :=
  onlyParts.step (State.scDiscardPort_parts s p code) h₀

theorem State.portDown_parts (s : State) (p : Nat) : onlyParts [.regs, .sc, .txts] s (State.portDown s p) := by
  unfold State.portDown
  try dsimp (proj := false) only
  repeat' (first | simp (disch := decide) only [↓onlyParts.self, ↓State.raise_keeps, ↓State.scDiscardPort_keeps, ↓State.set_keeps, ↓with_regs, ↓with_sc, ↓with_txts] | with_reducible (refine onlyParts.fold ?_ _ ?_) | with_reducible (refine onlyParts.foldSnd ?_ _ ?_) | (refine onlyParts.snd (by assumption) ?_) | split | (intro (_ : State) _; try dsimp (proj := false) only) | (intro (_ : _ × State) _; try dsimp (proj := false) only))
theorem State.portDown_keeps {L₀ : List Part} {s₀ : State} (s : State) (p : Nat) (h₀ : [(.regs : Part), (.sc : Part), (.txts : Part)].all (L₀.contains ·) = true) : onlyParts L₀ s₀ (State.portDown s p) ↔ onlyParts L₀ s₀ s :=
  onlyParts.step (State.portDown_parts s p) h₀

theorem State.faultTx_parts (s : State) (p : Nat) : onlyParts [.sent, .port] s (State.faultTx s p) := by
  unfold State.faultTx
  try dsimp (proj := false) only
  repeat' (first | simp (disch := decide) only [↓onlyParts.self, ↓State.emit_keeps, ↓State.setPort_keeps, ↓with_port, ↓with_sent] | with_reducible (refine onlyParts.fold ?_ _ ?_) | with_reducible (refine onlyParts.foldSnd ?_ _ ?_) | (refine onlyParts.snd (by assumption) ?_) | split | (intro (_ : State) _; try dsimp (proj := false) only) | (intro (_ : _ × State) _; try dsimp (proj := false) only))
theorem State.faultTx_keeps {L₀ : List Part} {s₀ : State} (s : State) (p : Nat) (h₀ : [(.sent : Part), (.port : Part)].all (L₀.contains ·) = true) : onlyParts L₀ s₀ (State.faultTx s p) ↔ onlyParts L₀ s₀ s :=
  onlyParts.step (State.faultTx_parts s p) h₀

theorem State.portUp_parts (s : State) (p : Nat) : onlyParts [.regs, .port] s (State.portUp s p) := by
  unfold State.portUp
  try dsimp (proj := false) only
  repeat' (first | simp (disch := decide) only [↓onlyParts.self, ↓State.raise_keeps, ↓State.setPort_keeps, ↓with_port, ↓with_regs] | with_reducible (refine onlyParts.fold ?_ _ ?_) | with_reducible (refine onlyParts.foldSnd ?_ _ ?_) | (refine onlyParts.snd (by assumption) ?_) | split | (intro (_ : State) _; try dsimp (proj := false) only) | (intro (_ : _ × State) _; try dsimp (proj := false) only))
theorem State.portUp_keeps {L₀ : List Part} {s₀ : State} (s : State) (p : Nat) (h₀ : [(.regs : Part), (.port : Part)].all (L₀.contains ·) = true) : onlyParts L₀ s₀ (State.portUp s p) ↔ onlyParts L₀ s₀ s :=
  onlyParts.step (State.portUp_parts s p) h₀

theorem State.linkPortLost_parts (s : State) (p : Nat) : onlyParts [.regs, .mbox, .mp, .px] s (State.linkPortLost s p) := by
  unfold State.linkPortLost
  try dsimp (proj := false) only
  repeat' (first | simp (disch := decide) only [↓onlyParts.self, ↓State.linkWait_keeps, ↓with_mbox, ↓with_mp, ↓with_px, ↓with_regs] | with_reducible (refine onlyParts.fold ?_ _ ?_) | with_reducible (refine onlyParts.foldSnd ?_ _ ?_) | (refine onlyParts.snd (by assumption) ?_) | split | (intro (_ : State) _; try dsimp (proj := false) only) | (intro (_ : _ × State) _; try dsimp (proj := false) only))
theorem State.linkPortLost_keeps {L₀ : List Part} {s₀ : State} (s : State) (p : Nat) (h₀ : [(.regs : Part), (.mbox : Part), (.mp : Part), (.px : Part)].all (L₀.contains ·) = true) : onlyParts L₀ s₀ (State.linkPortLost s p) ↔ onlyParts L₀ s₀ s :=
  onlyParts.step (State.linkPortLost_parts s p) h₀

theorem State.portLink_parts (s : State) (p : Nat) : onlyParts [.regs, .sent, .mbox, .mp, .port, .sc, .txts, .px] s (State.portLink s p) := by
  unfold State.portLink
  try dsimp (proj := false) only
  repeat' (first | simp (disch := decide) only [↓onlyParts.self, ↓State.faultTx_keeps, ↓State.linkPortLost_keeps, ↓State.portDown_keeps, ↓State.portUp_keeps, ↓State.setB_keeps, ↓with_mbox, ↓with_mp, ↓with_port, ↓with_px, ↓with_regs, ↓with_sc, ↓with_sent, ↓with_txts] | with_reducible (refine onlyParts.fold ?_ _ ?_) | with_reducible (refine onlyParts.foldSnd ?_ _ ?_) | (refine onlyParts.snd (by assumption) ?_) | split | (intro (_ : State) _; try dsimp (proj := false) only) | (intro (_ : _ × State) _; try dsimp (proj := false) only))
theorem State.portLink_keeps {L₀ : List Part} {s₀ : State} (s : State) (p : Nat) (h₀ : [(.regs : Part), (.sent : Part), (.mbox : Part), (.mp : Part), (.port : Part), (.sc : Part), (.txts : Part), (.px : Part)].all (L₀.contains ·) = true) : onlyParts L₀ s₀ (State.portLink s p) ↔ onlyParts L₀ s₀ s :=
  onlyParts.step (State.portLink_parts s p) h₀

theorem State.portLooped_parts (s : State) (p : Nat) : onlyParts [.regs] s (State.portLooped s p) := by
  unfold State.portLooped
  try dsimp (proj := false) only
  repeat' (first | simp (disch := decide) only [↓onlyParts.self, ↓State.setB_keeps, ↓with_regs] | with_reducible (refine onlyParts.fold ?_ _ ?_) | with_reducible (refine onlyParts.foldSnd ?_ _ ?_) | (refine onlyParts.snd (by assumption) ?_) | split | (intro (_ : State) _; try dsimp (proj := false) only) | (intro (_ : _ × State) _; try dsimp (proj := false) only))
theorem State.portLooped_keeps {L₀ : List Part} {s₀ : State} (s : State) (p : Nat) (h₀ : [(.regs : Part)].all (L₀.contains ·) = true) : onlyParts L₀ s₀ (State.portLooped s p) ↔ onlyParts L₀ s₀ s :=
  onlyParts.step (State.portLooped_parts s p) h₀

theorem State.laneRepair_parts (s : State) (l : Nat) : onlyParts [.regs, .mbox, .mp, .hl, .lane, .time, .chan, .px] s (State.laneRepair s l) := by
  unfold State.laneRepair
  try dsimp (proj := false) only
  repeat' (first | simp (disch := decide) only [↓onlyParts.self, ↓State.lnCalBegin_keeps, ↓State.setLane_keeps, ↓with_chan, ↓with_hl, ↓with_lane, ↓with_mbox, ↓with_mp, ↓with_px, ↓with_regs, ↓with_time] | with_reducible (refine onlyParts.fold ?_ _ ?_) | with_reducible (refine onlyParts.foldSnd ?_ _ ?_) | (refine onlyParts.snd (by assumption) ?_) | split | (intro (_ : State) _; try dsimp (proj := false) only) | (intro (_ : _ × State) _; try dsimp (proj := false) only))
theorem State.laneRepair_keeps {L₀ : List Part} {s₀ : State} (s : State) (l : Nat) (h₀ : [(.regs : Part), (.mbox : Part), (.mp : Part), (.hl : Part), (.lane : Part), (.time : Part), (.chan : Part), (.px : Part)].all (L₀.contains ·) = true) : onlyParts L₀ s₀ (State.laneRepair s l) ↔ onlyParts L₀ s₀ s :=
  onlyParts.step (State.laneRepair_parts s l) h₀

theorem State.lossLasting_parts (s : State) (h : Nat) : onlyParts [.regs, .mbox, .mp, .hl, .lane, .port, .time, .chan, .px] s (State.lossLasting s h) := by
  unfold State.lossLasting
  try dsimp (proj := false) only
  repeat' (first | simp (disch := decide) only [↓onlyParts.self, ↓State.hlLasting_keeps, ↓State.inc_keeps, ↓State.laneCause_keeps, ↓State.laneRepair_keeps, ↓State.raise_keeps, ↓State.setLane_keeps, ↓State.setPort_keeps, ↓with_chan, ↓with_hl, ↓with_lane, ↓with_mbox, ↓with_mp, ↓with_port, ↓with_px, ↓with_regs, ↓with_time] | with_reducible (refine onlyParts.fold ?_ _ ?_) | with_reducible (refine onlyParts.foldSnd ?_ _ ?_) | (refine onlyParts.snd (by assumption) ?_) | split | (intro (_ : State) _; try dsimp (proj := false) only) | (intro (_ : _ × State) _; try dsimp (proj := false) only))
theorem State.lossLasting_keeps {L₀ : List Part} {s₀ : State} (s : State) (h : Nat) (h₀ : [(.regs : Part), (.mbox : Part), (.mp : Part), (.hl : Part), (.lane : Part), (.port : Part), (.time : Part), (.chan : Part), (.px : Part)].all (L₀.contains ·) = true) : onlyParts L₀ s₀ (State.lossLasting s h) ↔ onlyParts L₀ s₀ s :=
  onlyParts.step (State.lossLasting_parts s h) h₀

theorem State.lockEnds_parts (s : State) (l : Nat) : onlyParts [.regs, .sent, .mbox, .mp, .hl, .lane, .port, .sc, .txts, .time, .chan, .px] s (State.lockEnds s l) := by
  unfold State.lockEnds
  try dsimp (proj := false) only
  repeat' (first | simp (disch := decide) only [↓onlyParts.self, ↓State.laneClk_keeps, ↓State.lossLasting_keeps, ↓State.portLink_keeps, ↓State.setLane_keeps, ↓with_chan, ↓with_hl, ↓with_lane, ↓with_mbox, ↓with_mp, ↓with_port, ↓with_px, ↓with_regs, ↓with_sc, ↓with_sent, ↓with_time, ↓with_txts] | with_reducible (refine onlyParts.fold ?_ _ ?_) | with_reducible (refine onlyParts.foldSnd ?_ _ ?_) | (refine onlyParts.snd (by assumption) ?_) | split | (intro (_ : State) _; try dsimp (proj := false) only) | (intro (_ : _ × State) _; try dsimp (proj := false) only))
theorem State.lockEnds_keeps {L₀ : List Part} {s₀ : State} (s : State) (l : Nat) (h₀ : [(.regs : Part), (.sent : Part), (.mbox : Part), (.mp : Part), (.hl : Part), (.lane : Part), (.port : Part), (.sc : Part), (.txts : Part), (.time : Part), (.chan : Part), (.px : Part)].all (L₀.contains ·) = true) : onlyParts L₀ s₀ (State.lockEnds s l) ↔ onlyParts L₀ s₀ s :=
  onlyParts.step (State.lockEnds_parts s l) h₀

theorem State.lockReturns_parts (s : State) (h : Nat) : onlyParts [.regs, .sent, .mbox, .mp, .lane, .port, .sc, .txts, .px] s (State.lockReturns s h) := by
  unfold State.lockReturns
  try dsimp (proj := false) only
  repeat' (first | simp (disch := decide) only [↓onlyParts.self, ↓State.portLink_keeps, ↓State.setLane_keeps, ↓with_lane, ↓with_mbox, ↓with_mp, ↓with_port, ↓with_px, ↓with_regs, ↓with_sc, ↓with_sent, ↓with_txts] | with_reducible (refine onlyParts.fold ?_ _ ?_) | with_reducible (refine onlyParts.foldSnd ?_ _ ?_) | (refine onlyParts.snd (by assumption) ?_) | split | (intro (_ : State) _; try dsimp (proj := false) only) | (intro (_ : _ × State) _; try dsimp (proj := false) only))
theorem State.lockReturns_keeps {L₀ : List Part} {s₀ : State} (s : State) (h : Nat) (h₀ : [(.regs : Part), (.sent : Part), (.mbox : Part), (.mp : Part), (.lane : Part), (.port : Part), (.sc : Part), (.txts : Part), (.px : Part)].all (L₀.contains ·) = true) : onlyParts L₀ s₀ (State.lockReturns s h) ↔ onlyParts L₀ s₀ s :=
  onlyParts.step (State.lockReturns_parts s h) h₀

theorem State.lossForget_parts (s : State) (h : Nat) : onlyParts [.regs, .lane, .port] s (State.lossForget s h) := by
  unfold State.lossForget
  try dsimp (proj := false) only
  repeat' (first | simp (disch := decide) only [↓onlyParts.self, ↓State.set_keeps, ↓State.setLane_keeps, ↓State.setPort_keeps, ↓with_lane, ↓with_port, ↓with_regs] | with_reducible (refine onlyParts.fold ?_ _ ?_) | with_reducible (refine onlyParts.foldSnd ?_ _ ?_) | (refine onlyParts.snd (by assumption) ?_) | split | (intro (_ : State) _; try dsimp (proj := false) only) | (intro (_ : _ × State) _; try dsimp (proj := false) only))
theorem State.lossForget_keeps {L₀ : List Part} {s₀ : State} (s : State) (h : Nat) (h₀ : [(.regs : Part), (.lane : Part), (.port : Part)].all (L₀.contains ·) = true) : onlyParts L₀ s₀ (State.lossForget s h) ↔ onlyParts L₀ s₀ s :=
  onlyParts.step (State.lossForget_parts s h) h₀

theorem State.laneRestart_parts (s : State) (l : Nat) : onlyParts [.regs, .mbox, .mp, .lane, .port, .time, .chan, .px] s (State.laneRestart s l) := by
  unfold State.laneRestart
  try dsimp (proj := false) only
  repeat' (first | simp (disch := decide) only [↓onlyParts.self, ↓State.laneClk_keeps, ↓State.lossForget_keeps, ↓State.set_keeps, ↓with_chan, ↓with_lane, ↓with_mbox, ↓with_mp, ↓with_port, ↓with_px, ↓with_regs, ↓with_time] | with_reducible (refine onlyParts.fold ?_ _ ?_) | with_reducible (refine onlyParts.foldSnd ?_ _ ?_) | (refine onlyParts.snd (by assumption) ?_) | split | (intro (_ : State) _; try dsimp (proj := false) only) | (intro (_ : _ × State) _; try dsimp (proj := false) only))
theorem State.laneRestart_keeps {L₀ : List Part} {s₀ : State} (s : State) (l : Nat) (h₀ : [(.regs : Part), (.mbox : Part), (.mp : Part), (.lane : Part), (.port : Part), (.time : Part), (.chan : Part), (.px : Part)].all (L₀.contains ·) = true) : onlyParts L₀ s₀ (State.laneRestart s l) ↔ onlyParts L₀ s₀ s :=
  onlyParts.step (State.laneRestart_parts s l) h₀

theorem State.lanePowerDown_parts (s : State) (l : Nat) : onlyParts [.regs, .mbox, .mp, .lane, .port, .time, .chan, .px] s (State.lanePowerDown s l) := by
  unfold State.lanePowerDown
  try dsimp (proj := false) only
  repeat' (first | simp (disch := decide) only [↓onlyParts.self, ↓State.laneClk_keeps, ↓State.laneRestart_keeps, ↓State.laneTx_keeps, ↓State.set_keeps, ↓with_chan, ↓with_lane, ↓with_mbox, ↓with_mp, ↓with_port, ↓with_px, ↓with_regs, ↓with_time] | with_reducible (refine onlyParts.fold ?_ _ ?_) | with_reducible (refine onlyParts.foldSnd ?_ _ ?_) | (refine onlyParts.snd (by assumption) ?_) | split | (intro (_ : State) _; try dsimp (proj := false) only) | (intro (_ : _ × State) _; try dsimp (proj := false) only))
theorem State.lanePowerDown_keeps {L₀ : List Part} {s₀ : State} (s : State) (l : Nat) (h₀ : [(.regs : Part), (.mbox : Part), (.mp : Part), (.lane : Part), (.port : Part), (.time : Part), (.chan : Part), (.px : Part)].all (L₀.contains ·) = true) : onlyParts L₀ s₀ (State.lanePowerDown s l) ↔ onlyParts L₀ s₀ s :=
  onlyParts.step (State.lanePowerDown_parts s l) h₀

theorem State.portIdle_parts (s : State) (p : Nat) : onlyParts [.regs] s (State.portIdle s p) := by
  unfold State.portIdle
  try dsimp (proj := false) only
  repeat' (first | simp (disch := decide) only [↓onlyParts.self, ↓State.raise_keeps, ↓State.set_keeps, ↓with_regs] | with_reducible (refine onlyParts.fold ?_ _ ?_) | with_reducible (refine onlyParts.foldSnd ?_ _ ?_) | (refine onlyParts.snd (by assumption) ?_) | split | (intro (_ : State) _; try dsimp (proj := false) only) | (intro (_ : _ × State) _; try dsimp (proj := false) only))
theorem State.portIdle_keeps {L₀ : List Part} {s₀ : State} (s : State) (p : Nat) (h₀ : [(.regs : Part)].all (L₀.contains ·) = true) : onlyParts L₀ s₀ (State.portIdle s p) ↔ onlyParts L₀ s₀ s :=
  onlyParts.step (State.portIdle_parts s p) h₀

theorem State.portStop_parts (s : State) (p : Nat) (drain : Bool) : onlyParts [.regs, .mbox, .mp, .sc, .txts, .px] s (State.portStop s p drain) := by
  unfold State.portStop
  try dsimp (proj := false) only
  repeat' (first | simp (disch := decide) only [↓onlyParts.self, ↓State.linkWait_keeps, ↓State.portIdle_keeps, ↓State.scDiscardPort_keeps, ↓State.set_keeps, ↓with_mbox, ↓with_mp, ↓with_px, ↓with_regs, ↓with_sc, ↓with_txts] | with_reducible (refine onlyParts.fold ?_ _ ?_) | with_reducible (refine onlyParts.foldSnd ?_ _ ?_) | (refine onlyParts.snd (by assumption) ?_) | split | (intro (_ : State) _; try dsimp (proj := false) only) | (intro (_ : _ × State) _; try dsimp (proj := false) only))
theorem State.portStop_keeps {L₀ : List Part} {s₀ : State} (s : State) (p : Nat) (drain : Bool) (h₀ : [(.regs : Part), (.mbox : Part), (.mp : Part), (.sc : Part), (.txts : Part), (.px : Part)].all (L₀.contains ·) = true) : onlyParts L₀ s₀ (State.portStop s p drain) ↔ onlyParts L₀ s₀ s :=
  onlyParts.step (State.portStop_parts s p drain) h₀

theorem State.portStart_parts (s : State) (p : Nat) : onlyParts [.regs] s (State.portStart s p) := by
  unfold State.portStart
  try dsimp (proj := false) only
  repeat' (first | simp (disch := decide) only [↓onlyParts.self, ↓State.set_keeps, ↓with_regs] | with_reducible (refine onlyParts.fold ?_ _ ?_) | with_reducible (refine onlyParts.foldSnd ?_ _ ?_) | (refine onlyParts.snd (by assumption) ?_) | split | (intro (_ : State) _; try dsimp (proj := false) only) | (intro (_ : _ × State) _; try dsimp (proj := false) only))
theorem State.portStart_keeps {L₀ : List Part} {s₀ : State} (s : State) (p : Nat) (h₀ : [(.regs : Part)].all (L₀.contains ·) = true) : onlyParts L₀ s₀ (State.portStart s p) ↔ onlyParts L₀ s₀ s :=
  onlyParts.step (State.portStart_parts s p) h₀

theorem State.laneTaps_parts (s : State) (l : Nat) : onlyParts [.regs, .lane] s (State.laneTaps s l) := by
  unfold State.laneTaps
  try dsimp (proj := false) only
  repeat' (first | simp (disch := decide) only [↓onlyParts.self, ↓State.set_keeps, ↓State.setLane_keeps, ↓with_lane, ↓with_regs] | with_reducible (refine onlyParts.fold ?_ _ ?_) | with_reducible (refine onlyParts.foldSnd ?_ _ ?_) | (refine onlyParts.snd (by assumption) ?_) | split | (intro (_ : State) _; try dsimp (proj := false) only) | (intro (_ : _ × State) _; try dsimp (proj := false) only))
theorem State.laneTaps_keeps {L₀ : List Part} {s₀ : State} (s : State) (l : Nat) (h₀ : [(.regs : Part), (.lane : Part)].all (L₀.contains ·) = true) : onlyParts L₀ s₀ (State.laneTaps s l) ↔ onlyParts L₀ s₀ s :=
  onlyParts.step (State.laneTaps_parts s l) h₀

theorem State.laneCheck_parts (s : State) (l : Nat) : onlyParts [.regs] s (State.laneCheck s l) := by
  unfold State.laneCheck
  try dsimp (proj := false) only
  repeat' (first | simp (disch := decide) only [↓onlyParts.self, ↓State.setB_keeps, ↓with_regs] | with_reducible (refine onlyParts.fold ?_ _ ?_) | with_reducible (refine onlyParts.foldSnd ?_ _ ?_) | (refine onlyParts.snd (by assumption) ?_) | split | (intro (_ : State) _; try dsimp (proj := false) only) | (intro (_ : _ × State) _; try dsimp (proj := false) only))
theorem State.laneCheck_keeps {L₀ : List Part} {s₀ : State} (s : State) (l : Nat) (h₀ : [(.regs : Part)].all (L₀.contains ·) = true) : onlyParts L₀ s₀ (State.laneCheck s l) ↔ onlyParts L₀ s₀ s :=
  onlyParts.step (State.laneCheck_parts s l) h₀

theorem State.laneApply_parts (s : State) (l : Nat) : onlyParts [.regs, .pend, .sent, .mbox, .mp, .lane, .port, .sc, .txts, .time, .chan, .px] s (State.laneApply s l) := by
  unfold State.laneApply
  try dsimp (proj := false) only
  repeat' (first | simp (disch := decide) only [↓onlyParts.self, ↓State.applyPend_keeps, ↓State.laneCheck_keeps, ↓State.laneClk_keeps, ↓State.lanePowerDown_keeps, ↓State.laneRestart_keeps, ↓State.laneTaps_keeps, ↓State.laneTx_keeps, ↓State.portLink_keeps, ↓State.portLooped_keeps, ↓State.portStop_keeps, ↓with_chan, ↓with_lane, ↓with_mbox, ↓with_mp, ↓with_pend, ↓with_port, ↓with_px, ↓with_regs, ↓with_sc, ↓with_sent, ↓with_time, ↓with_txts] | with_reducible (refine onlyParts.fold ?_ _ ?_) | with_reducible (refine onlyParts.foldSnd ?_ _ ?_) | (refine onlyParts.snd (by assumption) ?_) | split | (intro (_ : State) _; try dsimp (proj := false) only) | (intro (_ : _ × State) _; try dsimp (proj := false) only))
theorem State.laneApply_keeps {L₀ : List Part} {s₀ : State} (s : State) (l : Nat) (h₀ : [(.regs : Part), (.pend : Part), (.sent : Part), (.mbox : Part), (.mp : Part), (.lane : Part), (.port : Part), (.sc : Part), (.txts : Part), (.time : Part), (.chan : Part), (.px : Part)].all (L₀.contains ·) = true) : onlyParts L₀ s₀ (State.laneApply s l) ↔ onlyParts L₀ s₀ s :=
  onlyParts.step (State.laneApply_parts s l) h₀

theorem State.laneFollow_parts (s : State) (l was : Nat) : onlyParts [.regs, .mbox, .mp, .lane, .port, .time, .chan, .px] s (State.laneFollow s l was) := by
  unfold State.laneFollow
  try dsimp (proj := false) only
  repeat' (first | simp (disch := decide) only [↓onlyParts.self, ↓State.laneCheck_keeps, ↓State.laneClk_keeps, ↓State.laneRestart_keeps, ↓State.laneTx_keeps, ↓with_chan, ↓with_lane, ↓with_mbox, ↓with_mp, ↓with_port, ↓with_px, ↓with_regs, ↓with_time] | with_reducible (refine onlyParts.fold ?_ _ ?_) | with_reducible (refine onlyParts.foldSnd ?_ _ ?_) | (refine onlyParts.snd (by assumption) ?_) | split | (intro (_ : State) _; try dsimp (proj := false) only) | (intro (_ : _ × State) _; try dsimp (proj := false) only))
theorem State.laneFollow_keeps {L₀ : List Part} {s₀ : State} (s : State) (l was : Nat) (h₀ : [(.regs : Part), (.mbox : Part), (.mp : Part), (.lane : Part), (.port : Part), (.time : Part), (.chan : Part), (.px : Part)].all (L₀.contains ·) = true) : onlyParts L₀ s₀ (State.laneFollow s l was) ↔ onlyParts L₀ s₀ s :=
  onlyParts.step (State.laneFollow_parts s l was) h₀

theorem State.laneResetAt_parts (s : State) (l : Nat) : onlyParts [.regs, .sent, .mbox, .mp, .lane, .port, .sc, .txts, .time, .chan, .px] s (State.laneResetAt s l) := by
  unfold State.laneResetAt
  try dsimp (proj := false) only
  repeat' (first | simp (disch := decide) only [↓onlyParts.self, ↓State.laneRestart_keeps, ↓State.laneTx_keeps, ↓State.portLink_keeps, ↓State.portStop_keeps, ↓State.setLane_keeps, ↓with_chan, ↓with_lane, ↓with_mbox, ↓with_mp, ↓with_port, ↓with_px, ↓with_regs, ↓with_sc, ↓with_sent, ↓with_time, ↓with_txts] | with_reducible (refine onlyParts.fold ?_ _ ?_) | with_reducible (refine onlyParts.foldSnd ?_ _ ?_) | (refine onlyParts.snd (by assumption) ?_) | split | (intro (_ : State) _; try dsimp (proj := false) only) | (intro (_ : _ × State) _; try dsimp (proj := false) only))
theorem State.laneResetAt_keeps {L₀ : List Part} {s₀ : State} (s : State) (l : Nat) (h₀ : [(.regs : Part), (.sent : Part), (.mbox : Part), (.mp : Part), (.lane : Part), (.port : Part), (.sc : Part), (.txts : Part), (.time : Part), (.chan : Part), (.px : Part)].all (L₀.contains ·) = true) : onlyParts L₀ s₀ (State.laneResetAt s l) ↔ onlyParts L₀ s₀ s :=
  onlyParts.step (State.laneResetAt_parts s l) h₀

theorem State.lnPtBoundary_parts (s : State) (p : Nat) : onlyParts [.regs, .pend, .sent, .mbox, .mp, .lane, .port, .sc, .txts, .time, .chan, .px] s (State.lnPtBoundary s p) := by
  unfold State.lnPtBoundary
  try dsimp (proj := false) only
  repeat' (first | simp (disch := decide) only [↓onlyParts.self, ↓State.applyPend_keeps, ↓State.faultTx_keeps, ↓State.laneApply_keeps, ↓State.laneFollow_keeps, ↓State.laneResetAt_keeps, ↓State.portLink_keeps, ↓State.portLooped_keeps, ↓State.portStart_keeps, ↓State.portStop_keeps, ↓with_chan, ↓with_lane, ↓with_mbox, ↓with_mp, ↓with_pend, ↓with_port, ↓with_px, ↓with_regs, ↓with_sc, ↓with_sent, ↓with_time, ↓with_txts] | with_reducible (refine onlyParts.fold ?_ _ ?_) | with_reducible (refine onlyParts.foldSnd ?_ _ ?_) | (refine onlyParts.snd (by assumption) ?_) | split | (intro (_ : State) _; try dsimp (proj := false) only) | (intro (_ : _ × State) _; try dsimp (proj := false) only))
theorem State.lnPtBoundary_keeps {L₀ : List Part} {s₀ : State} (s : State) (p : Nat) (h₀ : [(.regs : Part), (.pend : Part), (.sent : Part), (.mbox : Part), (.mp : Part), (.lane : Part), (.port : Part), (.sc : Part), (.txts : Part), (.time : Part), (.chan : Part), (.px : Part)].all (L₀.contains ·) = true) : onlyParts L₀ s₀ (State.lnPtBoundary s p) ↔ onlyParts L₀ s₀ s :=
  onlyParts.step (State.lnPtBoundary_parts s p) h₀

theorem State.eyePublish_parts (s : State) (l width height : Nat) : onlyParts [.regs] s (State.eyePublish s l width height) := by
  unfold State.eyePublish
  try dsimp (proj := false) only
  repeat' (first | simp (disch := decide) only [↓onlyParts.self, ↓State.laneCause_keeps, ↓State.set_keeps, ↓with_regs] | with_reducible (refine onlyParts.fold ?_ _ ?_) | with_reducible (refine onlyParts.foldSnd ?_ _ ?_) | (refine onlyParts.snd (by assumption) ?_) | split | (intro (_ : State) _; try dsimp (proj := false) only) | (intro (_ : _ × State) _; try dsimp (proj := false) only))
theorem State.eyePublish_keeps {L₀ : List Part} {s₀ : State} (s : State) (l width height : Nat) (h₀ : [(.regs : Part)].all (L₀.contains ·) = true) : onlyParts L₀ s₀ (State.eyePublish s l width height) ↔ onlyParts L₀ s₀ s :=
  onlyParts.step (State.eyePublish_parts s l width height) h₀

theorem State.portPaused_parts (s : State) (p : Nat) : onlyParts [.regs] s (State.portPaused s p) := by
  unfold State.portPaused
  try dsimp (proj := false) only
  repeat' (first | simp (disch := decide) only [↓onlyParts.self, ↓State.setB_keeps, ↓with_regs] | with_reducible (refine onlyParts.fold ?_ _ ?_) | with_reducible (refine onlyParts.foldSnd ?_ _ ?_) | (refine onlyParts.snd (by assumption) ?_) | split | (intro (_ : State) _; try dsimp (proj := false) only) | (intro (_ : _ × State) _; try dsimp (proj := false) only))
theorem State.portPaused_keeps {L₀ : List Part} {s₀ : State} (s : State) (p : Nat) (h₀ : [(.regs : Part)].all (L₀.contains ·) = true) : onlyParts L₀ s₀ (State.portPaused s p) ↔ onlyParts L₀ s₀ s :=
  onlyParts.step (State.portPaused_parts s p) h₀

theorem State.pauseTake_parts (s : State) (p quanta : Nat) : onlyParts [.regs, .port] s (State.pauseTake s p quanta) := by
  unfold State.pauseTake
  try dsimp (proj := false) only
  repeat' (first | simp (disch := decide) only [↓onlyParts.self, ↓State.portPaused_keeps, ↓State.setPort_keeps, ↓with_port, ↓with_regs] | with_reducible (refine onlyParts.fold ?_ _ ?_) | with_reducible (refine onlyParts.foldSnd ?_ _ ?_) | (refine onlyParts.snd (by assumption) ?_) | split | (intro (_ : State) _; try dsimp (proj := false) only) | (intro (_ : _ × State) _; try dsimp (proj := false) only))
theorem State.pauseTake_keeps {L₀ : List Part} {s₀ : State} (s : State) (p quanta : Nat) (h₀ : [(.regs : Part), (.port : Part)].all (L₀.contains ·) = true) : onlyParts L₀ s₀ (State.pauseTake s p quanta) ↔ onlyParts L₀ s₀ s :=
  onlyParts.step (State.pauseTake_parts s p quanta) h₀

theorem State.pfcTake_parts (s : State) (p : Nat) (vector zero : BitVec 8) : onlyParts [.regs, .port] s (State.pfcTake s p vector zero) := by
  unfold State.pfcTake
  try dsimp (proj := false) only
  repeat' (first | simp (disch := decide) only [↓onlyParts.self, ↓State.portPaused_keeps, ↓State.setPort_keeps, ↓with_port, ↓with_regs] | with_reducible (refine onlyParts.fold ?_ _ ?_) | with_reducible (refine onlyParts.foldSnd ?_ _ ?_) | (refine onlyParts.snd (by assumption) ?_) | split | (intro (_ : State) _; try dsimp (proj := false) only) | (intro (_ : _ × State) _; try dsimp (proj := false) only))
theorem State.pfcTake_keeps {L₀ : List Part} {s₀ : State} (s : State) (p : Nat) (vector zero : BitVec 8) (h₀ : [(.regs : Part), (.port : Part)].all (L₀.contains ·) = true) : onlyParts L₀ s₀ (State.pfcTake s p vector zero) ↔ onlyParts L₀ s₀ s :=
  onlyParts.step (State.pfcTake_parts s p vector zero) h₀

theorem State.mbSegment_parts (s : State) (n : Nat) (r : MbReq) : onlyParts [.regs, .mbox, .mp] s (State.mbSegment s n r) := by
  unfold State.mbSegment
  try dsimp (proj := false) only
  repeat' (first | simp (disch := decide) only [↓onlyParts.self, ↓State.mbAnswer_keeps, ↓State.mbReject_keeps, ↓State.setMb_keeps, ↓with_mbox, ↓with_mp, ↓with_regs] | with_reducible (refine onlyParts.fold ?_ _ ?_) | with_reducible (refine onlyParts.foldSnd ?_ _ ?_) | (refine onlyParts.snd (by assumption) ?_) | split | (intro (_ : State) _; try dsimp (proj := false) only) | (intro (_ : _ × State) _; try dsimp (proj := false) only))
theorem State.mbSegment_keeps {L₀ : List Part} {s₀ : State} (s : State) (n : Nat) (r : MbReq) (h₀ : [(.regs : Part), (.mbox : Part), (.mp : Part)].all (L₀.contains ·) = true) : onlyParts L₀ s₀ (State.mbSegment s n r) ↔ onlyParts L₀ s₀ s :=
  onlyParts.step (State.mbSegment_parts s n r) h₀

theorem State.mbChecks_parts (s : State) (n : Nat) (r : MbReq) : onlyParts [.regs, .mbox, .mp] s (State.mbChecks s n r) := by
  unfold State.mbChecks
  try dsimp (proj := false) only
  repeat' (first | simp (disch := decide) only [↓onlyParts.self, ↓State.mbAnswer_keeps, ↓State.mbAnswerRaw_keeps, ↓State.mbReject_keeps, ↓State.mbSegment_keeps, ↓with_mbox, ↓with_mp, ↓with_regs] | with_reducible (refine onlyParts.fold ?_ _ ?_) | with_reducible (refine onlyParts.foldSnd ?_ _ ?_) | (refine onlyParts.snd (by assumption) ?_) | split | (intro (_ : State) _; try dsimp (proj := false) only) | (intro (_ : _ × State) _; try dsimp (proj := false) only))
theorem State.mbChecks_keeps {L₀ : List Part} {s₀ : State} (s : State) (n : Nat) (r : MbReq) (h₀ : [(.regs : Part), (.mbox : Part), (.mp : Part)].all (L₀.contains ·) = true) : onlyParts L₀ s₀ (State.mbChecks s n r) ↔ onlyParts L₀ s₀ s :=
  onlyParts.step (State.mbChecks_parts s n r) h₀

theorem State.mbTakeReq_parts (s : State) (n : Nat) (misread : Bool) (busyUs : Option Nat) : onlyParts [.regs, .mbox, .mp, .hl] s (State.mbTakeReq s n misread busyUs) := by
  unfold State.mbTakeReq
  try dsimp (proj := false) only
  repeat' (first | simp (disch := decide) only [↓onlyParts.self, ↓State.hlTransient_keeps, ↓State.mbAnswer_keeps, ↓State.mbChecks_keeps, ↓State.mbReject_keeps, ↓State.pm_keeps, ↓State.set_keeps, ↓State.setMb_keeps, ↓with_hl, ↓with_mbox, ↓with_mp, ↓with_regs] | with_reducible (refine onlyParts.fold ?_ _ ?_) | with_reducible (refine onlyParts.foldSnd ?_ _ ?_) | (refine onlyParts.snd (by assumption) ?_) | split | (intro (_ : State) _; try dsimp (proj := false) only) | (intro (_ : _ × State) _; try dsimp (proj := false) only))
theorem State.mbTakeReq_keeps {L₀ : List Part} {s₀ : State} (s : State) (n : Nat) (misread : Bool) (busyUs : Option Nat) (h₀ : [(.regs : Part), (.mbox : Part), (.mp : Part), (.hl : Part)].all (L₀.contains ·) = true) : onlyParts L₀ s₀ (State.mbTakeReq s n misread busyUs) ↔ onlyParts L₀ s₀ s :=
  onlyParts.step (State.mbTakeReq_parts s n misread busyUs) h₀

theorem State.partnerTakes_parts (s : State) : onlyParts [.free] s (State.partnerTakes s).2 := by
  unfold State.partnerTakes
  try dsimp (proj := false) only
  repeat' (first | simp (disch := decide) only [↓onlyParts.self, ↓State.draw_keeps, ↓with_free] | with_reducible (refine onlyParts.fold ?_ _ ?_) | with_reducible (refine onlyParts.foldSnd ?_ _ ?_) | (refine onlyParts.snd (by assumption) ?_) | split | (intro (_ : State) _; try dsimp (proj := false) only) | (intro (_ : _ × State) _; try dsimp (proj := false) only))
theorem State.partnerTakes_keeps {L₀ : List Part} {s₀ : State} (s : State) (h₀ : [(.free : Part)].all (L₀.contains ·) = true) : onlyParts L₀ s₀ (State.partnerTakes s).2 ↔ onlyParts L₀ s₀ s :=
  onlyParts.step (State.partnerTakes_parts s) h₀

theorem State.lanesIdle_parts (s : State) : onlyParts [.regs, .pend] s (State.lanesIdle s) := by
  unfold State.lanesIdle
  try dsimp (proj := false) only
  repeat' (first | simp (disch := decide) only [↓onlyParts.self, ↓State.laneTx_keeps, ↓State.put_keeps, ↓State.set_keeps, ↓with_pend, ↓with_regs] | with_reducible (refine onlyParts.fold ?_ _ ?_) | with_reducible (refine onlyParts.foldSnd ?_ _ ?_) | (refine onlyParts.snd (by assumption) ?_) | split | (intro (_ : State) _; try dsimp (proj := false) only) | (intro (_ : _ × State) _; try dsimp (proj := false) only))
theorem State.lanesIdle_keeps {L₀ : List Part} {s₀ : State} (s : State) (h₀ : [(.regs : Part), (.pend : Part)].all (L₀.contains ·) = true) : onlyParts L₀ s₀ (State.lanesIdle s) ↔ onlyParts L₀ s₀ s :=
  onlyParts.step (State.lanesIdle_parts s) h₀

theorem State.twSelfFault_parts (s : State) : onlyParts [.regs, .pend, .free, .sent, .mbox, .mp, .bw, .sc, .ft, .ou, .tw] s (State.twSelfFault s) := by
  unfold State.twSelfFault
  try dsimp (proj := false) only
  repeat' (first | simp (disch := decide) only [↓onlyParts.self, ↓State.galSend_keeps, ↓State.giveRole_keeps, ↓State.lanesIdle_keeps, ↓State.partnerTakes_keeps, ↓with_bw, ↓with_free, ↓with_ft, ↓with_mbox, ↓with_mp, ↓with_ou, ↓with_pend, ↓with_regs, ↓with_sc, ↓with_sent, ↓with_tw] | with_reducible (refine onlyParts.fold ?_ _ ?_) | with_reducible (refine onlyParts.foldSnd ?_ _ ?_) | (refine onlyParts.snd (by assumption) ?_) | split | (intro (_ : State) _; try dsimp (proj := false) only) | (intro (_ : _ × State) _; try dsimp (proj := false) only))
theorem State.twSelfFault_keeps {L₀ : List Part} {s₀ : State} (s : State) (h₀ : [(.regs : Part), (.pend : Part), (.free : Part), (.sent : Part), (.mbox : Part), (.mp : Part), (.bw : Part), (.sc : Part), (.ft : Part), (.ou : Part), (.tw : Part)].all (L₀.contains ·) = true) : onlyParts L₀ s₀ (State.twSelfFault s) ↔ onlyParts L₀ s₀ s :=
  onlyParts.step (State.twSelfFault_parts s) h₀

theorem State.wdogRestart_parts (s : State) : onlyParts [.regs, .pend, .free, .sent, .mbox, .mp, .hl, .bw, .sc, .ft, .ou, .tw] s (State.wdogRestart s) := by
  unfold State.wdogRestart
  try dsimp (proj := false) only
  repeat' (first | simp (disch := decide) only [↓onlyParts.self, ↓State.hlHold_keeps, ↓State.hlLasting_keeps, ↓State.mpRestart_keeps, ↓State.twSelfFault_keeps, ↓with_bw, ↓with_free, ↓with_ft, ↓with_hl, ↓with_mbox, ↓with_mp, ↓with_ou, ↓with_pend, ↓with_regs, ↓with_sc, ↓with_sent, ↓with_tw] | with_reducible (refine onlyParts.fold ?_ _ ?_) | with_reducible (refine onlyParts.foldSnd ?_ _ ?_) | (refine onlyParts.snd (by assumption) ?_) | split | (intro (_ : State) _; try dsimp (proj := false) only) | (intro (_ : _ × State) _; try dsimp (proj := false) only))
theorem State.wdogRestart_keeps {L₀ : List Part} {s₀ : State} (s : State) (h₀ : [(.regs : Part), (.pend : Part), (.free : Part), (.sent : Part), (.mbox : Part), (.mp : Part), (.hl : Part), (.bw : Part), (.sc : Part), (.ft : Part), (.ou : Part), (.tw : Part)].all (L₀.contains ·) = true) : onlyParts L₀ s₀ (State.wdogRestart s) ↔ onlyParts L₀ s₀ s :=
  onlyParts.step (State.wdogRestart_parts s) h₀

theorem State.putW_parts (s : State) (a v : Nat) : onlyParts [.regs, .pend] s (State.putW s a v) := by
  unfold State.putW
  try dsimp (proj := false) only
  repeat' (first | simp (disch := decide) only [↓onlyParts.self, ↓State.store_keeps, ↓with_pend, ↓with_regs] | with_reducible (refine onlyParts.fold ?_ _ ?_) | with_reducible (refine onlyParts.foldSnd ?_ _ ?_) | (refine onlyParts.snd (by assumption) ?_) | split | (intro (_ : State) _; try dsimp (proj := false) only) | (intro (_ : _ × State) _; try dsimp (proj := false) only))
theorem State.putW_keeps {L₀ : List Part} {s₀ : State} (s : State) (a v : Nat) (h₀ : [(.regs : Part), (.pend : Part)].all (L₀.contains ·) = true) : onlyParts L₀ s₀ (State.putW s a v) ↔ onlyParts L₀ s₀ s :=
  onlyParts.step (State.putW_parts s a v) h₀

theorem State.genPlaced_parts (s : State) (o : Nat) (ofs : Int) : onlyParts [.regs, .ou] s (State.genPlaced s o ofs) := by
  unfold State.genPlaced
  try dsimp (proj := false) only
  repeat' (first | simp (disch := decide) only [↓onlyParts.self, ↓State.ouCause_keeps, ↓State.set_keeps, ↓State.setB_keeps, ↓State.setGen_keeps, ↓with_ou, ↓with_regs] | with_reducible (refine onlyParts.fold ?_ _ ?_) | with_reducible (refine onlyParts.foldSnd ?_ _ ?_) | (refine onlyParts.snd (by assumption) ?_) | split | (intro (_ : State) _; try dsimp (proj := false) only) | (intro (_ : _ × State) _; try dsimp (proj := false) only))
theorem State.genPlaced_keeps {L₀ : List Part} {s₀ : State} (s : State) (o : Nat) (ofs : Int) (h₀ : [(.regs : Part), (.ou : Part)].all (L₀.contains ·) = true) : onlyParts L₀ s₀ (State.genPlaced s o ofs) ↔ onlyParts L₀ s₀ s :=
  onlyParts.step (State.genPlaced_parts s o ofs) h₀

theorem State.pulseAt_parts (s : State) (g : Nat) (cap : Int) : onlyParts [.regs, .sent, .ou] s (State.pulseAt s g cap) := by
  unfold State.pulseAt
  try dsimp (proj := false) only
  repeat' (first | simp (disch := decide) only [↓onlyParts.self, ↓State.emit_keeps, ↓State.ouCause_keeps, ↓State.raise_keeps, ↓State.set_keeps, ↓State.setGen_keeps, ↓with_ou, ↓with_regs, ↓with_sent] | with_reducible (refine onlyParts.fold ?_ _ ?_) | with_reducible (refine onlyParts.foldSnd ?_ _ ?_) | (refine onlyParts.snd (by assumption) ?_) | split | (intro (_ : State) _; try dsimp (proj := false) only) | (intro (_ : _ × State) _; try dsimp (proj := false) only))
theorem State.pulseAt_keeps {L₀ : List Part} {s₀ : State} (s : State) (g : Nat) (cap : Int) (h₀ : [(.regs : Part), (.sent : Part), (.ou : Part)].all (L₀.contains ·) = true) : onlyParts L₀ s₀ (State.pulseAt s g cap) ↔ onlyParts L₀ s₀ s :=
  onlyParts.step (State.pulseAt_parts s g cap) h₀

theorem State.planCtrl_parts (s : State) (o c mode fmt fl : Nat) : onlyParts [.regs, .pend] s (State.planCtrl s o c mode fmt fl) := by
  unfold State.planCtrl
  try dsimp (proj := false) only
  repeat' (first | simp (disch := decide) only [↓onlyParts.self, ↓State.put_keeps, ↓with_pend, ↓with_regs] | with_reducible (refine onlyParts.fold ?_ _ ?_) | with_reducible (refine onlyParts.foldSnd ?_ _ ?_) | (refine onlyParts.snd (by assumption) ?_) | split | (intro (_ : State) _; try dsimp (proj := false) only) | (intro (_ : _ × State) _; try dsimp (proj := false) only))
theorem State.planCtrl_keeps {L₀ : List Part} {s₀ : State} (s : State) (o c mode fmt fl : Nat) (h₀ : [(.regs : Part), (.pend : Part)].all (L₀.contains ·) = true) : onlyParts L₀ s₀ (State.planCtrl s o c mode fmt fl) ↔ onlyParts L₀ s₀ s :=
  onlyParts.step (State.planCtrl_parts s o c mode fmt fl) h₀

theorem State.prFault_parts (s : State) (bank : Nat) (x : PrFault) : onlyParts [.regs, .hl, .pr] s (State.prFault s bank x) := by
  unfold State.prFault
  try dsimp (proj := false) only
  repeat' (first | simp (disch := decide) only [↓onlyParts.self, ↓State.captureAt_keeps, ↓State.hlLasting_keeps, ↓State.hlQueueRow_keeps, ↓State.hlTransient_keeps, ↓State.raise_keeps, ↓with_hl, ↓with_pr, ↓with_regs] | with_reducible (refine onlyParts.fold ?_ _ ?_) | with_reducible (refine onlyParts.foldSnd ?_ _ ?_) | (refine onlyParts.snd (by assumption) ?_) | split | (intro (_ : State) _; try dsimp (proj := false) only) | (intro (_ : _ × State) _; try dsimp (proj := false) only))
theorem State.prFault_keeps {L₀ : List Part} {s₀ : State} (s : State) (bank : Nat) (x : PrFault) (h₀ : [(.regs : Part), (.hl : Part), (.pr : Part)].all (L₀.contains ·) = true) : onlyParts L₀ s₀ (State.prFault s bank x) ↔ onlyParts L₀ s₀ s :=
  onlyParts.step (State.prFault_parts s bank x) h₀

theorem State.sampleDue_parts (s : State) (p dir : Nat) : onlyParts [.free, .sc] s (State.sampleDue s p dir).2 := by
  unfold State.sampleDue
  try dsimp (proj := false) only
  repeat' (first | simp (disch := decide) only [↓onlyParts.self, ↓State.draw_keeps, ↓State.put_keeps, ↓with_free, ↓with_sc] | with_reducible (refine onlyParts.fold ?_ _ ?_) | with_reducible (refine onlyParts.foldSnd ?_ _ ?_) | (refine onlyParts.snd (by assumption) ?_) | split | (intro (_ : State) _; try dsimp (proj := false) only) | (intro (_ : _ × State) _; try dsimp (proj := false) only))
theorem State.sampleDue_keeps {L₀ : List Part} {s₀ : State} (s : State) (p dir : Nat) (h₀ : [(.free : Part), (.sc : Part)].all (L₀.contains ·) = true) : onlyParts L₀ s₀ (State.sampleDue s p dir).2 ↔ onlyParts L₀ s₀ s :=
  onlyParts.step (State.sampleDue_parts s p dir) h₀

theorem State.sample_parts (s : State) (x : Pkt) (p dir : Nat) (ts : Time) (suspect : Bool) : onlyParts [.regs, .free, .sc] s (State.sample s x p dir ts suspect) := by
  unfold State.sample
  try dsimp (proj := false) only
  repeat' (first | simp (disch := decide) only [↓onlyParts.self, ↓State.hold_keeps, ↓State.inc_keeps, ↓State.newPkt_keeps, ↓State.raise_keeps, ↓State.sampleDue_keeps, ↓State.set_keeps, ↓State.setOcc_keeps, ↓State.setQueue_keeps, ↓State.takeCells_keeps, ↓with_free, ↓with_regs, ↓with_sc] | with_reducible (refine onlyParts.fold ?_ _ ?_) | with_reducible (refine onlyParts.foldSnd ?_ _ ?_) | (refine onlyParts.snd (by assumption) ?_) | split | (intro (_ : State) _; try dsimp (proj := false) only) | (intro (_ : _ × State) _; try dsimp (proj := false) only))
theorem State.sample_keeps {L₀ : List Part} {s₀ : State} (s : State) (x : Pkt) (p dir : Nat) (ts : Time) (suspect : Bool) (h₀ : [(.regs : Part), (.free : Part), (.sc : Part)].all (L₀.contains ·) = true) : onlyParts L₀ s₀ (State.sample s x p dir ts suspect) ↔ onlyParts L₀ s₀ s :=
  onlyParts.step (State.sample_parts s x p dir ts suspect) h₀

theorem State.destination_parts (s : State) (x : Pkt) (l : Look) (redirect : Option Nat) (grp : Option Nat) (hash : Nat → Nat) : onlyParts [.regs] s (State.destination s x l redirect grp hash).2 := by
  unfold State.destination
  try dsimp (proj := false) only
  repeat' (first | simp (disch := decide) only [↓onlyParts.self, ↓State.inc_keeps, ↓State.pm_keeps, ↓with_regs] | with_reducible (refine onlyParts.fold ?_ _ ?_) | with_reducible (refine onlyParts.foldSnd ?_ _ ?_) | (refine onlyParts.snd (by assumption) ?_) | split | (intro (_ : State) _; try dsimp (proj := false) only) | (intro (_ : _ × State) _; try dsimp (proj := false) only))
theorem State.destination_keeps {L₀ : List Part} {s₀ : State} (s : State) (x : Pkt) (l : Look) (redirect : Option Nat) (grp : Option Nat) (hash : Nat → Nat) (h₀ : [(.regs : Part)].all (L₀.contains ·) = true) : onlyParts L₀ s₀ (State.destination s x l redirect grp hash).2 ↔ onlyParts L₀ s₀ s :=
  onlyParts.step (State.destination_parts s x l redirect grp hash) h₀

theorem State.traceVerbDrop_parts (s : State) (id : Nat) : onlyParts [.regs, .free, .sc] s (State.traceVerbDrop s id) := by
  unfold State.traceVerbDrop
  try dsimp (proj := false) only
  repeat' (first | simp (disch := decide) only [↓onlyParts.self, ↓State.draw_keeps, ↓State.traceOut_keeps, ↓with_free, ↓with_regs, ↓with_sc] | with_reducible (refine onlyParts.fold ?_ _ ?_) | with_reducible (refine onlyParts.foldSnd ?_ _ ?_) | (refine onlyParts.snd (by assumption) ?_) | split | (intro (_ : State) _; try dsimp (proj := false) only) | (intro (_ : _ × State) _; try dsimp (proj := false) only))
theorem State.traceVerbDrop_keeps {L₀ : List Part} {s₀ : State} (s : State) (id : Nat) (h₀ : [(.regs : Part), (.free : Part), (.sc : Part)].all (L₀.contains ·) = true) : onlyParts L₀ s₀ (State.traceVerbDrop s id) ↔ onlyParts L₀ s₀ s :=
  onlyParts.step (State.traceVerbDrop_parts s id) h₀

theorem State.endDropped_parts (s : State) (id : Nat) (code : Option Nat) : onlyParts [.regs, .free, .sc] s (State.endDropped s id code) := by
  unfold State.endDropped
  try dsimp (proj := false) only
  repeat' (first | simp (disch := decide) only [↓onlyParts.self, ↓State.countDrop_keeps, ↓State.dropPkt_keeps, ↓State.traceOut_keeps, ↓State.traceVerbDrop_keeps, ↓with_free, ↓with_regs, ↓with_sc] | with_reducible (refine onlyParts.fold ?_ _ ?_) | with_reducible (refine onlyParts.foldSnd ?_ _ ?_) | (refine onlyParts.snd (by assumption) ?_) | split | (intro (_ : State) _; try dsimp (proj := false) only) | (intro (_ : _ × State) _; try dsimp (proj := false) only))
theorem State.endDropped_keeps {L₀ : List Part} {s₀ : State} (s : State) (id : Nat) (code : Option Nat) (h₀ : [(.regs : Part), (.free : Part), (.sc : Part)].all (L₀.contains ·) = true) : onlyParts L₀ s₀ (State.endDropped s id code) ↔ onlyParts L₀ s₀ s :=
  onlyParts.step (State.endDropped_parts s id code) h₀

theorem State.countOutcome_parts (s : State) (x : Pkt) (w : Walk) : onlyParts [.regs] s (State.countOutcome s x w) := by
  unfold State.countOutcome
  try dsimp (proj := false) only
  repeat' (first | simp (disch := decide) only [↓onlyParts.self, ↓State.inc_keeps, ↓State.pm_keeps, ↓with_regs] | with_reducible (refine onlyParts.fold ?_ _ ?_) | with_reducible (refine onlyParts.foldSnd ?_ _ ?_) | (refine onlyParts.snd (by assumption) ?_) | split | (intro (_ : State) _; try dsimp (proj := false) only) | (intro (_ : _ × State) _; try dsimp (proj := false) only))
theorem State.countOutcome_keeps {L₀ : List Part} {s₀ : State} (s : State) (x : Pkt) (w : Walk) (h₀ : [(.regs : Part)].all (L₀.contains ·) = true) : onlyParts L₀ s₀ (State.countOutcome s x w) ↔ onlyParts L₀ s₀ s :=
  onlyParts.step (State.countOutcome_parts s x w) h₀

theorem State.effective_parts (s : State) (x : Pkt) (v : Verdict) : onlyParts [.regs] s (State.effective s x v).2 := by
  unfold State.effective
  try dsimp (proj := false) only
  repeat' (first | simp (disch := decide) only [↓onlyParts.self, ↓State.inc_keeps, ↓with_regs] | with_reducible (refine onlyParts.fold ?_ _ ?_) | with_reducible (refine onlyParts.foldSnd ?_ _ ?_) | (refine onlyParts.snd (by assumption) ?_) | split | (intro (_ : State) _; try dsimp (proj := false) only) | (intro (_ : _ × State) _; try dsimp (proj := false) only))
theorem State.effective_keeps {L₀ : List Part} {s₀ : State} (s : State) (x : Pkt) (v : Verdict) (h₀ : [(.regs : Part)].all (L₀.contains ·) = true) : onlyParts L₀ s₀ (State.effective s x v).2 ↔ onlyParts L₀ s₀ s :=
  onlyParts.step (State.effective_parts s x v) h₀

theorem State.learnPut_parts (s : State) (e : LearnEv) : onlyParts [.regs, .ft] s (State.learnPut s e) := by
  unfold State.learnPut
  try dsimp (proj := false) only
  repeat' (first | simp (disch := decide) only [↓onlyParts.self, ↓State.inc_keeps, ↓State.pm_keeps, ↓State.raise_keeps, ↓with_ft, ↓with_regs] | with_reducible (refine onlyParts.fold ?_ _ ?_) | with_reducible (refine onlyParts.foldSnd ?_ _ ?_) | (refine onlyParts.snd (by assumption) ?_) | split | (intro (_ : State) _; try dsimp (proj := false) only) | (intro (_ : _ × State) _; try dsimp (proj := false) only))
theorem State.learnPut_keeps {L₀ : List Part} {s₀ : State} (s : State) (e : LearnEv) (h₀ : [(.regs : Part), (.ft : Part)].all (L₀.contains ·) = true) : onlyParts L₀ s₀ (State.learnPut s e) ↔ onlyParts L₀ s₀ s :=
  onlyParts.step (State.learnPut_parts s e) h₀

theorem State.learnIssue_parts (s : State) (fid mac ident : Nat) (src : Option Ent) : onlyParts [.regs, .ft] s (State.learnIssue s fid mac ident src) := by
  unfold State.learnIssue
  try dsimp (proj := false) only
  repeat' (first | simp (disch := decide) only [↓onlyParts.self, ↓State.learnPut_keeps, ↓with_ft, ↓with_regs] | with_reducible (refine onlyParts.fold ?_ _ ?_) | with_reducible (refine onlyParts.foldSnd ?_ _ ?_) | (refine onlyParts.snd (by assumption) ?_) | split | (intro (_ : State) _; try dsimp (proj := false) only) | (intro (_ : _ × State) _; try dsimp (proj := false) only))
theorem State.learnIssue_keeps {L₀ : List Part} {s₀ : State} (s : State) (fid mac ident : Nat) (src : Option Ent) (h₀ : [(.regs : Part), (.ft : Part)].all (L₀.contains ·) = true) : onlyParts L₀ s₀ (State.learnIssue s fid mac ident src) ↔ onlyParts L₀ s₀ s :=
  onlyParts.step (State.learnIssue_parts s fid mac ident src) h₀

theorem State.learnFrom_parts (s : State) (x : Pkt) (l : Look) (act : Nat) : onlyParts [.regs, .ft] s (State.learnFrom s x l act) := by
  unfold State.learnFrom
  try dsimp (proj := false) only
  repeat' (first | simp (disch := decide) only [↓onlyParts.self, ↓State.learnIssue_keeps, ↓with_ft, ↓with_regs] | with_reducible (refine onlyParts.fold ?_ _ ?_) | with_reducible (refine onlyParts.foldSnd ?_ _ ?_) | (refine onlyParts.snd (by assumption) ?_) | split | (intro (_ : State) _; try dsimp (proj := false) only) | (intro (_ : _ × State) _; try dsimp (proj := false) only))
theorem State.learnFrom_keeps {L₀ : List Part} {s₀ : State} (s : State) (x : Pkt) (l : Look) (act : Nat) (h₀ : [(.regs : Part), (.ft : Part)].all (L₀.contains ·) = true) : onlyParts L₀ s₀ (State.learnFrom s x l act) ↔ onlyParts L₀ s₀ s :=
  onlyParts.step (State.learnFrom_parts s x l act) h₀

theorem State.refreshFrom_parts (s : State) (x : Pkt) (l : Look) : onlyParts [.regs, .ft] s (State.refreshFrom s x l) := by
  unfold State.refreshFrom
  try dsimp (proj := false) only
  repeat' (first | simp (disch := decide) only [↓onlyParts.self, ↓State.learnPut_keeps, ↓with_ft, ↓with_regs] | with_reducible (refine onlyParts.fold ?_ _ ?_) | with_reducible (refine onlyParts.foldSnd ?_ _ ?_) | (refine onlyParts.snd (by assumption) ?_) | split | (intro (_ : State) _; try dsimp (proj := false) only) | (intro (_ : _ × State) _; try dsimp (proj := false) only))
theorem State.refreshFrom_keeps {L₀ : List Part} {s₀ : State} (s : State) (x : Pkt) (l : Look) (h₀ : [(.regs : Part), (.ft : Part)].all (L₀.contains ·) = true) : onlyParts L₀ s₀ (State.refreshFrom s x l) ↔ onlyParts L₀ s₀ s :=
  onlyParts.step (State.refreshFrom_parts s x l) h₀

theorem State.macRemove_parts (s : State) (loc : Nat) : onlyParts [.regs, .ft] s (State.macRemove s loc) := by
  unfold State.macRemove
  try dsimp (proj := false) only
  repeat' (first | simp (disch := decide) only [↓onlyParts.self, ↓State.delta_keeps, ↓State.setEnt_keeps, ↓with_ft, ↓with_regs] | with_reducible (refine onlyParts.fold ?_ _ ?_) | with_reducible (refine onlyParts.foldSnd ?_ _ ?_) | (refine onlyParts.snd (by assumption) ?_) | split | (intro (_ : State) _; try dsimp (proj := false) only) | (intro (_ : _ × State) _; try dsimp (proj := false) only))
theorem State.macRemove_keeps {L₀ : List Part} {s₀ : State} (s : State) (loc : Nat) (h₀ : [(.regs : Part), (.ft : Part)].all (L₀.contains ·) = true) : onlyParts L₀ s₀ (State.macRemove s loc) ↔ onlyParts L₀ s₀ s :=
  onlyParts.step (State.macRemove_parts s loc) h₀

theorem State.ftFault_parts (s : State) (f : FtFault) : onlyParts [.regs, .hl, .ft] s (State.ftFault s f) := by
  unfold State.ftFault
  try dsimp (proj := false) only
  repeat' (first | simp (disch := decide) only [↓onlyParts.self, ↓State.captureAt_keeps, ↓State.hlLasting_keeps, ↓State.hlQueueRow_keeps, ↓State.hlTransient_keeps, ↓State.inc_keeps, ↓State.macRemove_keeps, ↓State.raise_keeps, ↓with_ft, ↓with_hl, ↓with_regs] | with_reducible (refine onlyParts.fold ?_ _ ?_) | with_reducible (refine onlyParts.foldSnd ?_ _ ?_) | (refine onlyParts.snd (by assumption) ?_) | split | (intro (_ : State) _; try dsimp (proj := false) only) | (intro (_ : _ × State) _; try dsimp (proj := false) only))
theorem State.ftFault_keeps {L₀ : List Part} {s₀ : State} (s : State) (f : FtFault) (h₀ : [(.regs : Part), (.hl : Part), (.ft : Part)].all (L₀.contains ·) = true) : onlyParts L₀ s₀ (State.ftFault s f) ↔ onlyParts L₀ s₀ s :=
  onlyParts.step (State.ftFault_parts s f) h₀

theorem State.endSending_parts (s : State) (id : Nat) (good : Bool) : onlyParts [.regs, .sent, .bw, .sc] s (State.endSending s id good) := by
  unfold State.endSending
  try dsimp (proj := false) only
  repeat' (first | simp (disch := decide) only [↓onlyParts.self, ↓State.put_keeps, ↓State.sendOut_keeps, ↓State.setPkt_keeps, ↓State.unref_keeps, ↓with_bw, ↓with_regs, ↓with_sc, ↓with_sent] | with_reducible (refine onlyParts.fold ?_ _ ?_) | with_reducible (refine onlyParts.foldSnd ?_ _ ?_) | (refine onlyParts.snd (by assumption) ?_) | split | (intro (_ : State) _; try dsimp (proj := false) only) | (intro (_ : _ × State) _; try dsimp (proj := false) only))
theorem State.endSending_keeps {L₀ : List Part} {s₀ : State} (s : State) (id : Nat) (good : Bool) (h₀ : [(.regs : Part), (.sent : Part), (.bw : Part), (.sc : Part)].all (L₀.contains ·) = true) : onlyParts L₀ s₀ (State.endSending s id good) ↔ onlyParts L₀ s₀ s :=
  onlyParts.step (State.endSending_parts s id good) h₀

theorem State.killPkt_parts (s : State) (id code : Nat) : onlyParts [.regs, .sent, .bw, .sc, .txts] s (State.killPkt s id code) := by
  unfold State.killPkt
  try dsimp (proj := false) only
  repeat' (first | simp (disch := decide) only [↓onlyParts.self, ↓State.countDrop_keeps, ↓State.discard_keeps, ↓State.dropPkt_keeps, ↓State.endSending_keeps, ↓State.store_keeps, ↓State.traceOut_keeps, ↓State.txDropped_keeps, ↓with_bw, ↓with_regs, ↓with_sc, ↓with_sent, ↓with_txts] | with_reducible (refine onlyParts.fold ?_ _ ?_) | with_reducible (refine onlyParts.foldSnd ?_ _ ?_) | (refine onlyParts.snd (by assumption) ?_) | split | (intro (_ : State) _; try dsimp (proj := false) only) | (intro (_ : _ × State) _; try dsimp (proj := false) only))
theorem State.killPkt_keeps {L₀ : List Part} {s₀ : State} (s : State) (id code : Nat) (h₀ : [(.regs : Part), (.sent : Part), (.bw : Part), (.sc : Part), (.txts : Part)].all (L₀.contains ·) = true) : onlyParts L₀ s₀ (State.killPkt s id code) ↔ onlyParts L₀ s₀ s :=
  onlyParts.step (State.killPkt_parts s id code) h₀

theorem State.formCells_parts (s : State) (id src : Nat) : onlyParts [.regs, .sent, .bw, .sc, .txts] s (State.formCells s id src) := by
  unfold State.formCells
  try dsimp (proj := false) only
  repeat' (first | simp (disch := decide) only [↓onlyParts.self, ↓State.killPkt_keeps, ↓State.pm_keeps, ↓State.put_keeps, ↓State.setPkt_keeps, ↓with_bw, ↓with_regs, ↓with_sc, ↓with_sent, ↓with_txts] | with_reducible (refine onlyParts.fold ?_ _ ?_) | with_reducible (refine onlyParts.foldSnd ?_ _ ?_) | (refine onlyParts.snd (by assumption) ?_) | split | (intro (_ : State) _; try dsimp (proj := false) only) | (intro (_ : _ × State) _; try dsimp (proj := false) only))
theorem State.formCells_keeps {L₀ : List Part} {s₀ : State} (s : State) (id src : Nat) (h₀ : [(.regs : Part), (.sent : Part), (.bw : Part), (.sc : Part), (.txts : Part)].all (L₀.contains ·) = true) : onlyParts L₀ s₀ (State.formCells s id src) ↔ onlyParts L₀ s₀ s :=
  onlyParts.step (State.formCells_parts s id src) h₀

theorem State.crossConnect_parts (s : State) (id peer : Nat) : onlyParts [.regs, .free, .sent, .bw, .sc, .txts] s (State.crossConnect s id peer) := by
  unfold State.crossConnect
  try dsimp (proj := false) only
  repeat' (first | simp (disch := decide) only [↓onlyParts.self, ↓State.formCells_keeps, ↓State.sample_keeps, ↓State.setPkt_keeps, ↓with_bw, ↓with_free, ↓with_regs, ↓with_sc, ↓with_sent, ↓with_txts] | with_reducible (refine onlyParts.fold ?_ _ ?_) | with_reducible (refine onlyParts.foldSnd ?_ _ ?_) | (refine onlyParts.snd (by assumption) ?_) | split | (intro (_ : State) _; try dsimp (proj := false) only) | (intro (_ : _ × State) _; try dsimp (proj := false) only))
theorem State.crossConnect_keeps {L₀ : List Part} {s₀ : State} (s : State) (id peer : Nat) (h₀ : [(.regs : Part), (.free : Part), (.sent : Part), (.bw : Part), (.sc : Part), (.txts : Part)].all (L₀.contains ·) = true) : onlyParts L₀ s₀ (State.crossConnect s id peer) ↔ onlyParts L₀ s₀ s :=
  onlyParts.step (State.crossConnect_parts s id peer) h₀

theorem State.bwEnd_parts (s : State) (p : Nat) (stepped : Bool) : onlyParts [.regs, .bw] s (State.bwEnd s p stepped) := by
  unfold State.bwEnd
  try dsimp (proj := false) only
  repeat' (first | simp (disch := decide) only [↓onlyParts.self, ↓State.put_keeps, ↓State.set_keeps, ↓State.setB_keeps, ↓with_bw, ↓with_regs] | with_reducible (refine onlyParts.fold ?_ _ ?_) | with_reducible (refine onlyParts.foldSnd ?_ _ ?_) | (refine onlyParts.snd (by assumption) ?_) | split | (intro (_ : State) _; try dsimp (proj := false) only) | (intro (_ : _ × State) _; try dsimp (proj := false) only))
theorem State.bwEnd_keeps {L₀ : List Part} {s₀ : State} (s : State) (p : Nat) (stepped : Bool) (h₀ : [(.regs : Part), (.bw : Part)].all (L₀.contains ·) = true) : onlyParts L₀ s₀ (State.bwEnd s p stepped) ↔ onlyParts L₀ s₀ s :=
  onlyParts.step (State.bwEnd_parts s p stepped) h₀

theorem State.serve_parts (s : State) (p at' : Nat) : onlyParts [.sc] s (State.serve s p at').2 := by
  unfold State.serve
  try dsimp (proj := false) only
  repeat' (first | simp (disch := decide) only [↓onlyParts.self, ↓State.dwrr_keeps, ↓with_sc] | with_reducible (refine onlyParts.fold ?_ _ ?_) | with_reducible (refine onlyParts.foldSnd ?_ _ ?_) | (refine onlyParts.snd (by assumption) ?_) | split | (intro (_ : State) _; try dsimp (proj := false) only) | (intro (_ : _ × State) _; try dsimp (proj := false) only))
theorem State.serve_keeps {L₀ : List Part} {s₀ : State} (s : State) (p at' : Nat) (h₀ : [(.sc : Part)].all (L₀.contains ·) = true) : onlyParts L₀ s₀ (State.serve s p at').2 ↔ onlyParts L₀ s₀ s :=
  onlyParts.step (State.serve_parts s p at') h₀

theorem State.addExch_parts (s : State) (l : Nat) (e : Exch) : onlyParts [.px] s (State.addExch s l e) := by
  unfold State.addExch
  try dsimp (proj := false) only
  repeat' (first | simp (disch := decide) only [↓onlyParts.self, ↓State.setLink_keeps, ↓with_px] | with_reducible (refine onlyParts.fold ?_ _ ?_) | with_reducible (refine onlyParts.foldSnd ?_ _ ?_) | (refine onlyParts.snd (by assumption) ?_) | split | (intro (_ : State) _; try dsimp (proj := false) only) | (intro (_ : _ × State) _; try dsimp (proj := false) only))
theorem State.addExch_keeps {L₀ : List Part} {s₀ : State} (s : State) (l : Nat) (e : Exch) (h₀ : [(.px : Part)].all (L₀.contains ·) = true) : onlyParts L₀ s₀ (State.addExch s l e) ↔ onlyParts L₀ s₀ s :=
  onlyParts.step (State.addExch_parts s l e) h₀

theorem State.fplDeparts_parts (s : State) (l : Nat) (m : Option (Nat × Bool)) (t : Time) : onlyParts [.px] s (State.fplDeparts s l m t) := by
  unfold State.fplDeparts
  try dsimp (proj := false) only
  repeat' (first | simp (disch := decide) only [↓onlyParts.self, ↓State.addExch_keeps, ↓State.setLink_keeps, ↓with_px] | with_reducible (refine onlyParts.fold ?_ _ ?_) | with_reducible (refine onlyParts.foldSnd ?_ _ ?_) | (refine onlyParts.snd (by assumption) ?_) | split | (intro (_ : State) _; try dsimp (proj := false) only) | (intro (_ : _ × State) _; try dsimp (proj := false) only))
theorem State.fplDeparts_keeps {L₀ : List Part} {s₀ : State} (s : State) (l : Nat) (m : Option (Nat × Bool)) (t : Time) (h₀ : [(.px : Part)].all (L₀.contains ·) = true) : onlyParts L₀ s₀ (State.fplDeparts s l m t) ↔ onlyParts L₀ s₀ s :=
  onlyParts.step (State.fplDeparts_parts s l m t) h₀

theorem State.flowSend_parts (s : State) (p : Nat) (f : FlowFrame) : onlyParts [.regs, .sent, .port] s (State.flowSend s p f) := by
  unfold State.flowSend
  try dsimp (proj := false) only
  repeat' (first | simp (disch := decide) only [↓onlyParts.self, ↓State.add64_keeps, ↓State.dropDisabled_keeps, ↓State.emit_keeps, ↓State.pauseTake_keeps, ↓State.pfcTake_keeps, ↓State.pm_keeps, ↓with_port, ↓with_regs, ↓with_sent] | with_reducible (refine onlyParts.fold ?_ _ ?_) | with_reducible (refine onlyParts.foldSnd ?_ _ ?_) | (refine onlyParts.snd (by assumption) ?_) | split | (intro (_ : State) _; try dsimp (proj := false) only) | (intro (_ : _ × State) _; try dsimp (proj := false) only))
theorem State.flowSend_keeps {L₀ : List Part} {s₀ : State} (s : State) (p : Nat) (f : FlowFrame) (h₀ : [(.regs : Part), (.sent : Part), (.port : Part)].all (L₀.contains ·) = true) : onlyParts L₀ s₀ (State.flowSend s p f) ↔ onlyParts L₀ s₀ s :=
  onlyParts.step (State.flowSend_parts s p f) h₀

theorem State.powerUp_parts (s : State) : onlyParts [.pending, .variant, .regs, .pend, .clk, .free, .sent, .tb, .power, .host, .ownerNext, .mbox, .mp, .hl, .bw, .lane, .port, .sc, .pr, .ft, .txts, .frozen, .taq, .time, .chan, .smp, .esmc, .ou, .tdc, .evIn, .evGrp, .tw, .px, .ptp, .tod, .retain, .fu, .unit, .treadRead] s (State.powerUp s) := fun p hp => absurd (by cases p <;> decide) hp
theorem State.powerUp_keeps {L₀ : List Part} {s₀ : State} (s : State) (h₀ : [(.pending : Part), (.variant : Part), (.regs : Part), (.pend : Part), (.clk : Part), (.free : Part), (.sent : Part), (.tb : Part), (.power : Part), (.host : Part), (.ownerNext : Part), (.mbox : Part), (.mp : Part), (.hl : Part), (.bw : Part), (.lane : Part), (.port : Part), (.sc : Part), (.pr : Part), (.ft : Part), (.txts : Part), (.frozen : Part), (.taq : Part), (.time : Part), (.chan : Part), (.smp : Part), (.esmc : Part), (.ou : Part), (.tdc : Part), (.evIn : Part), (.evGrp : Part), (.tw : Part), (.px : Part), (.ptp : Part), (.tod : Part), (.retain : Part), (.fu : Part), (.unit : Part), (.treadRead : Part)].all (L₀.contains ·) = true) : onlyParts L₀ s₀ (State.powerUp s) ↔ onlyParts L₀ s₀ s :=
  onlyParts.step (State.powerUp_parts s) h₀

theorem State.vinGone_parts (s : State) (tripped : Bool) : onlyParts [.power, .host] s (State.vinGone s tripped) := by
  unfold State.vinGone
  try dsimp (proj := false) only
  repeat' (first | simp (disch := decide) only [↓onlyParts.self, ↓with_host, ↓with_power, ↓with_power_host] | with_reducible (refine onlyParts.fold ?_ _ ?_) | with_reducible (refine onlyParts.foldSnd ?_ _ ?_) | (refine onlyParts.snd (by assumption) ?_) | split | (intro (_ : State) _; try dsimp (proj := false) only) | (intro (_ : _ × State) _; try dsimp (proj := false) only))
theorem State.vinGone_keeps {L₀ : List Part} {s₀ : State} (s : State) (tripped : Bool) (h₀ : [(.power : Part), (.host : Part)].all (L₀.contains ·) = true) : onlyParts L₀ s₀ (State.vinGone s tripped) ↔ onlyParts L₀ s₀ s :=
  onlyParts.step (State.vinGone_parts s tripped) h₀

theorem State.setPtp_parts (s : State) (p : Nat) (x : Option PtpPort) : onlyParts [.ptp] s (State.setPtp s p x) := by
  unfold State.setPtp
  try dsimp (proj := false) only
  repeat' (first | simp (disch := decide) only [↓onlyParts.self, ↓State.put_keeps, ↓with_ptp] | with_reducible (refine onlyParts.fold ?_ _ ?_) | with_reducible (refine onlyParts.foldSnd ?_ _ ?_) | (refine onlyParts.snd (by assumption) ?_) | split | (intro (_ : State) _; try dsimp (proj := false) only) | (intro (_ : _ × State) _; try dsimp (proj := false) only))
theorem State.setPtp_keeps {L₀ : List Part} {s₀ : State} (s : State) (p : Nat) (x : Option PtpPort) (h₀ : [(.ptp : Part)].all (L₀.contains ·) = true) : onlyParts L₀ s₀ (State.setPtp s p x) ↔ onlyParts L₀ s₀ s :=
  onlyParts.step (State.setPtp_parts s p x) h₀

theorem State.ptpRole_parts (s : State) (p : Nat) : onlyParts [.regs, .mbox, .mp, .px] s (State.ptpRole s p) := by
  unfold State.ptpRole
  try dsimp (proj := false) only
  repeat' (first | simp (disch := decide) only [↓onlyParts.self, ↓State.linkRole_keeps, ↓State.setLink_keeps, ↓with_mbox, ↓with_mp, ↓with_px, ↓with_regs] | with_reducible (refine onlyParts.fold ?_ _ ?_) | with_reducible (refine onlyParts.foldSnd ?_ _ ?_) | (refine onlyParts.snd (by assumption) ?_) | split | (intro (_ : State) _; try dsimp (proj := false) only) | (intro (_ : _ × State) _; try dsimp (proj := false) only))
theorem State.ptpRole_keeps {L₀ : List Part} {s₀ : State} (s : State) (p : Nat) (h₀ : [(.regs : Part), (.mbox : Part), (.mp : Part), (.px : Part)].all (L₀.contains ·) = true) : onlyParts L₀ s₀ (State.ptpRole s p) ↔ onlyParts L₀ s₀ s :=
  onlyParts.step (State.ptpRole_parts s p) h₀

theorem State.ptpRefLink_parts (s : State) : onlyParts [.regs, .pend] s (State.ptpRefLink s) := by
  unfold State.ptpRefLink
  try dsimp (proj := false) only
  repeat' (first | simp (disch := decide) only [↓onlyParts.self, ↓State.put_keeps, ↓with_pend, ↓with_regs] | with_reducible (refine onlyParts.fold ?_ _ ?_) | with_reducible (refine onlyParts.foldSnd ?_ _ ?_) | (refine onlyParts.snd (by assumption) ?_) | split | (intro (_ : State) _; try dsimp (proj := false) only) | (intro (_ : _ × State) _; try dsimp (proj := false) only))
theorem State.ptpRefLink_keeps {L₀ : List Part} {s₀ : State} (s : State) (h₀ : [(.regs : Part), (.pend : Part)].all (L₀.contains ·) = true) : onlyParts L₀ s₀ (State.ptpRefLink s) ↔ onlyParts L₀ s₀ s :=
  onlyParts.step (State.ptpRefLink_parts s) h₀

theorem State.ptpState_parts (s : State) (p st : Nat) : onlyParts [.regs, .mbox, .mp, .px, .ptp] s (State.ptpState s p st) := by
  unfold State.ptpState
  try dsimp (proj := false) only
  repeat' (first | simp (disch := decide) only [↓onlyParts.self, ↓State.ptpRole_keeps, ↓State.setPtp_keeps, ↓with_mbox, ↓with_mp, ↓with_ptp, ↓with_px, ↓with_regs] | with_reducible (refine onlyParts.fold ?_ _ ?_) | with_reducible (refine onlyParts.foldSnd ?_ _ ?_) | (refine onlyParts.snd (by assumption) ?_) | split | (intro (_ : State) _; try dsimp (proj := false) only) | (intro (_ : _ × State) _; try dsimp (proj := false) only))
theorem State.ptpState_keeps {L₀ : List Part} {s₀ : State} (s : State) (p st : Nat) (h₀ : [(.regs : Part), (.mbox : Part), (.mp : Part), (.px : Part), (.ptp : Part)].all (L₀.contains ·) = true) : onlyParts L₀ s₀ (State.ptpState s p st) ↔ onlyParts L₀ s₀ s :=
  onlyParts.step (State.ptpState_parts s p st) h₀

theorem State.servo_parts (s : State) (p : Nat) (ofs : Int) (since : Nat) : onlyParts [.time, .smp, .ptp] s (State.servo s p ofs since) := by
  unfold State.servo
  try dsimp (proj := false) only
  repeat' (first | simp (disch := decide) only [↓onlyParts.self, ↓State.ptpOfsHi_keeps, ↓State.ptpOfsLo_keeps, ↓State.stepNext_keeps, ↓with_ptp, ↓with_smp, ↓with_time] | with_reducible (refine onlyParts.fold ?_ _ ?_) | with_reducible (refine onlyParts.foldSnd ?_ _ ?_) | (refine onlyParts.snd (by assumption) ?_) | split | (intro (_ : State) _; try dsimp (proj := false) only) | (intro (_ : _ × State) _; try dsimp (proj := false) only))
theorem State.servo_keeps {L₀ : List Part} {s₀ : State} (s : State) (p : Nat) (ofs : Int) (since : Nat) (h₀ : [(.time : Part), (.smp : Part), (.ptp : Part)].all (L₀.contains ·) = true) : onlyParts L₀ s₀ (State.servo s p ofs since) ↔ onlyParts L₀ s₀ s :=
  onlyParts.step (State.servo_parts s p ofs since) h₀

theorem State.setQl_parts (s : State) (r q : Nat) : onlyParts [.regs, .pend] s (State.setQl s r q) := by
  unfold State.setQl
  try dsimp (proj := false) only
  repeat' (first | simp (disch := decide) only [↓onlyParts.self, ↓State.put_keeps, ↓with_pend, ↓with_regs] | with_reducible (refine onlyParts.fold ?_ _ ?_) | with_reducible (refine onlyParts.foldSnd ?_ _ ?_) | (refine onlyParts.snd (by assumption) ?_) | split | (intro (_ : State) _; try dsimp (proj := false) only) | (intro (_ : _ × State) _; try dsimp (proj := false) only))
theorem State.setQl_keeps {L₀ : List Part} {s₀ : State} (s : State) (r q : Nat) (h₀ : [(.regs : Part), (.pend : Part)].all (L₀.contains ·) = true) : onlyParts L₀ s₀ (State.setQl s r q) ↔ onlyParts L₀ s₀ s :=
  onlyParts.step (State.setQl_parts s r q) h₀

theorem State.esmcPdu_parts (s : State) (event : Bool) (ql : Nat) : onlyParts [.free] s (State.esmcPdu s event ql).2 := by
  unfold State.esmcPdu
  try dsimp (proj := false) only
  repeat' (first | simp (disch := decide) only [↓onlyParts.self, ↓State.draw_keeps, ↓with_free] | with_reducible (refine onlyParts.fold ?_ _ ?_) | with_reducible (refine onlyParts.foldSnd ?_ _ ?_) | (refine onlyParts.snd (by assumption) ?_) | split | (intro (_ : State) _; try dsimp (proj := false) only) | (intro (_ : _ × State) _; try dsimp (proj := false) only))
theorem State.esmcPdu_keeps {L₀ : List Part} {s₀ : State} (s : State) (event : Bool) (ql : Nat) (h₀ : [(.free : Part)].all (L₀.contains ·) = true) : onlyParts L₀ s₀ (State.esmcPdu s event ql).2 ↔ onlyParts L₀ s₀ s :=
  onlyParts.step (State.esmcPdu_parts s event ql) h₀

theorem State.esmcOut_parts (s : State) (p : Nat) (event : Bool) : onlyParts [.regs, .free, .sent, .bw, .sc] s (State.esmcOut s p event) := by
  unfold State.esmcOut
  try dsimp (proj := false) only
  repeat' (first | simp (disch := decide) only [↓onlyParts.self, ↓State.esmcPdu_keeps, ↓State.slowSend_keeps, ↓with_bw, ↓with_free, ↓with_regs, ↓with_sc, ↓with_sent] | with_reducible (refine onlyParts.fold ?_ _ ?_) | with_reducible (refine onlyParts.foldSnd ?_ _ ?_) | (refine onlyParts.snd (by assumption) ?_) | split | (intro (_ : State) _; try dsimp (proj := false) only) | (intro (_ : _ × State) _; try dsimp (proj := false) only))
theorem State.esmcOut_keeps {L₀ : List Part} {s₀ : State} (s : State) (p : Nat) (event : Bool) (h₀ : [(.regs : Part), (.free : Part), (.sent : Part), (.bw : Part), (.sc : Part)].all (L₀.contains ·) = true) : onlyParts L₀ s₀ (State.esmcOut s p event) ↔ onlyParts L₀ s₀ s :=
  onlyParts.step (State.esmcOut_parts s p event) h₀

theorem State.esmcSend_parts (s : State) (event : Bool) : onlyParts [.regs, .free, .sent, .bw, .sc, .esmc] s (State.esmcSend s event) := by
  unfold State.esmcSend
  try dsimp (proj := false) only
  repeat' (first | simp (disch := decide) only [↓onlyParts.self, ↓State.esmcOut_keeps, ↓with_bw, ↓with_esmc, ↓with_free, ↓with_regs, ↓with_sc, ↓with_sent] | with_reducible (refine onlyParts.fold ?_ _ ?_) | with_reducible (refine onlyParts.foldSnd ?_ _ ?_) | (refine onlyParts.snd (by assumption) ?_) | split | (intro (_ : State) _; try dsimp (proj := false) only) | (intro (_ : _ × State) _; try dsimp (proj := false) only))
theorem State.esmcSend_keeps {L₀ : List Part} {s₀ : State} (s : State) (event : Bool) (h₀ : [(.regs : Part), (.free : Part), (.sent : Part), (.bw : Part), (.sc : Part), (.esmc : Part)].all (L₀.contains ·) = true) : onlyParts L₀ s₀ (State.esmcSend s event) ↔ onlyParts L₀ s₀ s :=
  onlyParts.step (State.esmcSend_parts s event) h₀

theorem State.esmcCheck_parts (s : State) : onlyParts [.regs, .free, .sent, .bw, .sc, .esmc] s (State.esmcCheck s) := by
  unfold State.esmcCheck
  try dsimp (proj := false) only
  repeat' (first | simp (disch := decide) only [↓onlyParts.self, ↓State.esmcSend_keeps, ↓with_bw, ↓with_esmc, ↓with_free, ↓with_regs, ↓with_sc, ↓with_sent] | with_reducible (refine onlyParts.fold ?_ _ ?_) | with_reducible (refine onlyParts.foldSnd ?_ _ ?_) | (refine onlyParts.snd (by assumption) ?_) | split | (intro (_ : State) _; try dsimp (proj := false) only) | (intro (_ : _ × State) _; try dsimp (proj := false) only))
theorem State.esmcCheck_keeps {L₀ : List Part} {s₀ : State} (s : State) (h₀ : [(.regs : Part), (.free : Part), (.sent : Part), (.bw : Part), (.sc : Part), (.esmc : Part)].all (L₀.contains ·) = true) : onlyParts L₀ s₀ (State.esmcCheck s) ↔ onlyParts L₀ s₀ s :=
  onlyParts.step (State.esmcCheck_parts s) h₀

theorem State.ptpConclude_parts (s : State) (p : Nat) (ports : List (Fin 48 × Nat × Int)) (after : PtpData) (fresh : Option (Fin 65536))
    (ql : Option (Fin 16)) : onlyParts [.regs, .pend, .free, .sent, .mbox, .mp, .bw, .sc, .time, .smp, .esmc, .px, .ptp] s (State.ptpConclude s p ports after fresh ql) := by
  unfold State.ptpConclude
  try dsimp (proj := false) only
  repeat' (first | simp (disch := decide) only [↓onlyParts.self, ↓State.esmcCheck_keeps, ↓State.ptpRefLink_keeps, ↓State.ptpState_keeps, ↓State.servo_keeps, ↓State.setPtp_keeps, ↓State.setQl_keeps, ↓with_bw, ↓with_esmc, ↓with_free, ↓with_mbox, ↓with_mp, ↓with_pend, ↓with_ptp, ↓with_px, ↓with_regs, ↓with_sc, ↓with_sent, ↓with_smp, ↓with_time] | with_reducible (refine onlyParts.fold ?_ _ ?_) | with_reducible (refine onlyParts.foldSnd ?_ _ ?_) | (refine onlyParts.snd (by assumption) ?_) | split | (intro (_ : State) _; try dsimp (proj := false) only) | (intro (_ : _ × State) _; try dsimp (proj := false) only))
theorem State.ptpConclude_keeps {L₀ : List Part} {s₀ : State} (s : State) (p : Nat) (ports : List (Fin 48 × Nat × Int)) (after : PtpData) (fresh : Option (Fin 65536))
    (ql : Option (Fin 16)) (h₀ : [(.regs : Part), (.pend : Part), (.free : Part), (.sent : Part), (.mbox : Part), (.mp : Part), (.bw : Part), (.sc : Part), (.time : Part), (.smp : Part), (.esmc : Part), (.px : Part), (.ptp : Part)].all (L₀.contains ·) = true) : onlyParts L₀ s₀ (State.ptpConclude s p ports after fresh ql) ↔ onlyParts L₀ s₀ s :=
  onlyParts.step (State.ptpConclude_parts s p ports after fresh ql) h₀

theorem State.ptpGrants_parts (s : State) (m : Bytes) (grants : Fin 65 × Fin 5) : onlyParts [.ptp] s (State.ptpGrants s m grants) := by
  unfold State.ptpGrants
  try dsimp (proj := false) only
  repeat' (first | simp (disch := decide) only [↓onlyParts.self, ↓with_ptp] | with_reducible (refine onlyParts.fold ?_ _ ?_) | with_reducible (refine onlyParts.foldSnd ?_ _ ?_) | (refine onlyParts.snd (by assumption) ?_) | split | (intro (_ : State) _; try dsimp (proj := false) only) | (intro (_ : _ × State) _; try dsimp (proj := false) only))
theorem State.ptpGrants_keeps {L₀ : List Part} {s₀ : State} (s : State) (m : Bytes) (grants : Fin 65 × Fin 5) (h₀ : [(.ptp : Part)].all (L₀.contains ·) = true) : onlyParts L₀ s₀ (State.ptpGrants s m grants) ↔ onlyParts L₀ s₀ s :=
  onlyParts.step (State.ptpGrants_parts s m grants) h₀

theorem State.fplBad_parts (s : State) (l : Nat) : onlyParts [.regs] s (State.fplBad s l) := by
  unfold State.fplBad
  try dsimp (proj := false) only
  repeat' (first | simp (disch := decide) only [↓onlyParts.self, ↓State.inc_keeps, ↓State.pxCause_keeps, ↓with_regs] | with_reducible (refine onlyParts.fold ?_ _ ?_) | with_reducible (refine onlyParts.foldSnd ?_ _ ?_) | (refine onlyParts.snd (by assumption) ?_) | split | (intro (_ : State) _; try dsimp (proj := false) only) | (intro (_ : _ × State) _; try dsimp (proj := false) only))
theorem State.fplBad_keeps {L₀ : List Part} {s₀ : State} (s : State) (l : Nat) (h₀ : [(.regs : Part)].all (L₀.contains ·) = true) : onlyParts L₀ s₀ (State.fplBad s l) ↔ onlyParts L₀ s₀ s :=
  onlyParts.step (State.fplBad_parts s l) h₀

theorem State.farFlags_parts (s : State) (l : Nat) (m : FplMsg) : onlyParts [.regs, .px] s (State.farFlags s l m) := by
  unfold State.farFlags
  try dsimp (proj := false) only
  repeat' (first | simp (disch := decide) only [↓onlyParts.self, ↓State.setB_keeps, ↓State.setLink_keeps, ↓with_px, ↓with_regs] | with_reducible (refine onlyParts.fold ?_ _ ?_) | with_reducible (refine onlyParts.foldSnd ?_ _ ?_) | (refine onlyParts.snd (by assumption) ?_) | split | (intro (_ : State) _; try dsimp (proj := false) only) | (intro (_ : _ × State) _; try dsimp (proj := false) only))
theorem State.farFlags_keeps {L₀ : List Part} {s₀ : State} (s : State) (l : Nat) (m : FplMsg) (h₀ : [(.regs : Part), (.px : Part)].all (L₀.contains ·) = true) : onlyParts L₀ s₀ (State.farFlags s l m) ↔ onlyParts L₀ s₀ s :=
  onlyParts.step (State.farFlags_parts s l m) h₀

theorem State.farInWait_parts (s : State) (l : Nat) (m : FplMsg) : onlyParts [.regs, .mbox, .mp, .px] s (State.farInWait s l m) := by
  unfold State.farInWait
  try dsimp (proj := false) only
  repeat' (first | simp (disch := decide) only [↓onlyParts.self, ↓State.farFlags_keeps, ↓State.linkEnter_keeps, ↓State.pxCause_keeps, ↓State.raise_keeps, ↓State.set_keeps, ↓with_mbox, ↓with_mp, ↓with_px, ↓with_regs] | with_reducible (refine onlyParts.fold ?_ _ ?_) | with_reducible (refine onlyParts.foldSnd ?_ _ ?_) | (refine onlyParts.snd (by assumption) ?_) | split | (intro (_ : State) _; try dsimp (proj := false) only) | (intro (_ : _ × State) _; try dsimp (proj := false) only))
theorem State.farInWait_keeps {L₀ : List Part} {s₀ : State} (s : State) (l : Nat) (m : FplMsg) (h₀ : [(.regs : Part), (.mbox : Part), (.mp : Part), (.px : Part)].all (L₀.contains ·) = true) : onlyParts L₀ s₀ (State.farInWait s l m) ↔ onlyParts L₀ s₀ s :=
  onlyParts.step (State.farInWait_parts s l m) h₀

theorem State.farMessage_parts (s : State) (l : Nat) (m : FplMsg) : onlyParts [.regs, .mbox, .mp, .px] s (State.farMessage s l m).2 := by
  unfold State.farMessage
  try dsimp (proj := false) only
  repeat' (first | simp (disch := decide) only [↓onlyParts.self, ↓State.farFlags_keeps, ↓State.farInWait_keeps, ↓State.linkWait_keeps, ↓with_mbox, ↓with_mp, ↓with_px, ↓with_regs] | with_reducible (refine onlyParts.fold ?_ _ ?_) | with_reducible (refine onlyParts.foldSnd ?_ _ ?_) | (refine onlyParts.snd (by assumption) ?_) | split | (intro (_ : State) _; try dsimp (proj := false) only) | (intro (_ : _ × State) _; try dsimp (proj := false) only))
theorem State.farMessage_keeps {L₀ : List Part} {s₀ : State} (s : State) (l : Nat) (m : FplMsg) (h₀ : [(.regs : Part), (.mbox : Part), (.mp : Part), (.px : Part)].all (L₀.contains ·) = true) : onlyParts L₀ s₀ (State.farMessage s l m).2 ↔ onlyParts L₀ s₀ s :=
  onlyParts.step (State.farMessage_parts s l m) h₀

theorem State.fineCount_parts (s : State) (l : Nat) (ok : Bool) : onlyParts [.regs, .mbox, .mp, .px] s (State.fineCount s l ok) := by
  unfold State.fineCount
  try dsimp (proj := false) only
  repeat' (first | simp (disch := decide) only [↓onlyParts.self, ↓State.linkEnter_keeps, ↓State.setLink_keeps, ↓with_mbox, ↓with_mp, ↓with_px, ↓with_regs] | with_reducible (refine onlyParts.fold ?_ _ ?_) | with_reducible (refine onlyParts.foldSnd ?_ _ ?_) | (refine onlyParts.snd (by assumption) ?_) | split | (intro (_ : State) _; try dsimp (proj := false) only) | (intro (_ : _ × State) _; try dsimp (proj := false) only))
theorem State.fineCount_keeps {L₀ : List Part} {s₀ : State} (s : State) (l : Nat) (ok : Bool) (h₀ : [(.regs : Part), (.mbox : Part), (.mp : Part), (.px : Part)].all (L₀.contains ·) = true) : onlyParts L₀ s₀ (State.fineCount s l ok) ↔ onlyParts L₀ s₀ s :=
  onlyParts.step (State.fineCount_parts s l ok) h₀

theorem State.linkResult_parts (s : State) (l : Nat) (e : Exch) (t3 : Int) (x p : Bytes) (suspect : Bool) : onlyParts [.regs, .mbox, .mp, .px] s (State.linkResult s l e t3 x p suspect).2 := by
  unfold State.linkResult
  try dsimp (proj := false) only
  repeat' (first | simp (disch := decide) only [↓onlyParts.self, ↓State.add_keeps, ↓State.fineCount_keeps, ↓State.inc_keeps, ↓State.setLink_keeps, ↓with_mbox, ↓with_mp, ↓with_px, ↓with_regs] | with_reducible (refine onlyParts.fold ?_ _ ?_) | with_reducible (refine onlyParts.foldSnd ?_ _ ?_) | (refine onlyParts.snd (by assumption) ?_) | split | (intro (_ : State) _; try dsimp (proj := false) only) | (intro (_ : _ × State) _; try dsimp (proj := false) only))
theorem State.linkResult_keeps {L₀ : List Part} {s₀ : State} (s : State) (l : Nat) (e : Exch) (t3 : Int) (x p : Bytes) (suspect : Bool) (h₀ : [(.regs : Part), (.mbox : Part), (.mp : Part), (.px : Part)].all (L₀.contains ·) = true) : onlyParts L₀ s₀ (State.linkResult s l e t3 x p suspect).2 ↔ onlyParts L₀ s₀ s :=
  onlyParts.step (State.linkResult_parts s l e t3 x p suspect) h₀

theorem State.linkDiscard_parts (s : State) (l : Nat) (f : FRef) : onlyParts [.regs] s (State.linkDiscard s l f) := by
  unfold State.linkDiscard
  try dsimp (proj := false) only
  repeat' (first | simp (disch := decide) only [↓onlyParts.self, ↓State.inc_keeps, ↓State.pxCause_keeps, ↓with_regs] | with_reducible (refine onlyParts.fold ?_ _ ?_) | with_reducible (refine onlyParts.foldSnd ?_ _ ?_) | (refine onlyParts.snd (by assumption) ?_) | split | (intro (_ : State) _; try dsimp (proj := false) only) | (intro (_ : _ × State) _; try dsimp (proj := false) only))
theorem State.linkDiscard_keeps {L₀ : List Part} {s₀ : State} (s : State) (l : Nat) (f : FRef) (h₀ : [(.regs : Part)].all (L₀.contains ·) = true) : onlyParts L₀ s₀ (State.linkDiscard s l f) ↔ onlyParts L₀ s₀ s :=
  onlyParts.step (State.linkDiscard_parts s l f) h₀

theorem State.linkCompute_parts (s : State) (l : Nat) (m : FplMsg) (x : Bytes) : onlyParts [.regs, .mbox, .mp, .px] s (State.linkCompute s l m x).2 := by
  unfold State.linkCompute
  try dsimp (proj := false) only
  repeat' (first | simp (disch := decide) only [↓onlyParts.self, ↓State.linkDiscard_keeps, ↓State.linkResult_keeps, ↓with_mbox, ↓with_mp, ↓with_px, ↓with_regs] | with_reducible (refine onlyParts.fold ?_ _ ?_) | with_reducible (refine onlyParts.foldSnd ?_ _ ?_) | (refine onlyParts.snd (by assumption) ?_) | split | (intro (_ : State) _; try dsimp (proj := false) only) | (intro (_ : _ × State) _; try dsimp (proj := false) only))
theorem State.linkCompute_keeps {L₀ : List Part} {s₀ : State} (s : State) (l : Nat) (m : FplMsg) (x : Bytes) (h₀ : [(.regs : Part), (.mbox : Part), (.mp : Part), (.px : Part)].all (L₀.contains ·) = true) : onlyParts L₀ s₀ (State.linkCompute s l m x).2 ↔ onlyParts L₀ s₀ s :=
  onlyParts.step (State.linkCompute_parts s l m x) h₀

theorem State.drawBytes_parts (s : State) (n : Nat) : onlyParts [.free] s (State.drawBytes s n).2 := by
  induction n generalizing s with
  | zero => exact onlyParts.refl
  | succ n ih =>
    have keep {L₀ : List Part} {s₀ : State} (t : State) (q : ([.free] : List Part).all (L₀.contains ·) = true) : onlyParts L₀ s₀ (State.drawBytes t n).2 ↔ onlyParts L₀ s₀ t := onlyParts.step (ih (s := t)) q
    unfold State.drawBytes
    try dsimp (proj := false) only
    repeat' (first | simp (disch := decide) only [↓onlyParts.self, ↓State.draw_keeps, ↓with_free, ↓keep] | with_reducible (refine onlyParts.fold ?_ _ ?_) | with_reducible (refine onlyParts.foldSnd ?_ _ ?_) | (refine onlyParts.snd (by assumption) ?_) | split | (intro (_ : State) _; try dsimp (proj := false) only) | (intro (_ : _ × State) _; try dsimp (proj := false) only))
theorem State.drawBytes_keeps {L₀ : List Part} {s₀ : State} (s : State) (n : Nat) (h₀ : [(.free : Part)].all (L₀.contains ·) = true) : onlyParts L₀ s₀ (State.drawBytes s n).2 ↔ onlyParts L₀ s₀ s :=
  onlyParts.step (State.drawBytes_parts s n) h₀

theorem State.pong_parts (s : State) (l : Nat) (m : FplMsg) (t2 : Int) : onlyParts [.regs, .free, .mbox, .mp, .sc, .txts, .px] s (State.pong s l m t2) := by
  unfold State.pong
  try dsimp (proj := false) only
  repeat' (first | simp (disch := decide) only [↓onlyParts.self, ↓State.addExch_keeps, ↓State.drawBytes_keeps, ↓State.fplSend_keeps, ↓State.linkCompute_keeps, ↓with_free, ↓with_mbox, ↓with_mp, ↓with_px, ↓with_regs, ↓with_sc, ↓with_txts] | with_reducible (refine onlyParts.fold ?_ _ ?_) | with_reducible (refine onlyParts.foldSnd ?_ _ ?_) | (refine onlyParts.snd (by assumption) ?_) | split | (intro (_ : State) _; try dsimp (proj := false) only) | (intro (_ : _ × State) _; try dsimp (proj := false) only))
theorem State.pong_keeps {L₀ : List Part} {s₀ : State} (s : State) (l : Nat) (m : FplMsg) (t2 : Int) (h₀ : [(.regs : Part), (.free : Part), (.mbox : Part), (.mp : Part), (.sc : Part), (.txts : Part), (.px : Part)].all (L₀.contains ·) = true) : onlyParts L₀ s₀ (State.pong s l m t2) ↔ onlyParts L₀ s₀ s :=
  onlyParts.step (State.pong_parts s l m t2) h₀

theorem State.pongTaken_parts (s : State) (l : Nat) (m : FplMsg) (t4 : Int) : onlyParts [.regs, .mbox, .mp, .px] s (State.pongTaken s l m t4) := by
  unfold State.pongTaken
  try dsimp (proj := false) only
  repeat' (first | simp (disch := decide) only [↓onlyParts.self, ↓State.fineCount_keeps, ↓State.inc_keeps, ↓State.linkDiscard_keeps, ↓State.setLink_keeps, ↓with_mbox, ↓with_mp, ↓with_px, ↓with_regs] | with_reducible (refine onlyParts.fold ?_ _ ?_) | with_reducible (refine onlyParts.foldSnd ?_ _ ?_) | (refine onlyParts.snd (by assumption) ?_) | split | (intro (_ : State) _; try dsimp (proj := false) only) | (intro (_ : _ × State) _; try dsimp (proj := false) only))
theorem State.pongTaken_keeps {L₀ : List Part} {s₀ : State} (s : State) (l : Nat) (m : FplMsg) (t4 : Int) (h₀ : [(.regs : Part), (.mbox : Part), (.mp : Part), (.px : Part)].all (L₀.contains ·) = true) : onlyParts L₀ s₀ (State.pongTaken s l m t4) ↔ onlyParts L₀ s₀ s :=
  onlyParts.step (State.pongTaken_parts s l m t4) h₀

theorem State.syntonise_parts (s : State) (l : Nat) (chi : Option Nat) : onlyParts [.regs, .px] s (State.syntonise s l chi) := by
  unfold State.syntonise
  try dsimp (proj := false) only
  repeat' (first | simp (disch := decide) only [↓onlyParts.self, ↓State.raise_keeps, ↓State.set_keeps, ↓State.setLink_keeps, ↓with_px, ↓with_regs] | with_reducible (refine onlyParts.fold ?_ _ ?_) | with_reducible (refine onlyParts.foldSnd ?_ _ ?_) | (refine onlyParts.snd (by assumption) ?_) | split | (intro (_ : State) _; try dsimp (proj := false) only) | (intro (_ : _ × State) _; try dsimp (proj := false) only))
theorem State.syntonise_keeps {L₀ : List Part} {s₀ : State} (s : State) (l : Nat) (chi : Option Nat) (h₀ : [(.regs : Part), (.px : Part)].all (L₀.contains ·) = true) : onlyParts L₀ s₀ (State.syntonise s l chi) ↔ onlyParts L₀ s₀ s :=
  onlyParts.step (State.syntonise_parts s l chi) h₀

theorem State.publishPhases_parts (s : State) (l cycle : Nat) (v : Option (Nat × Nat × Nat)) : onlyParts [.regs, .px] s (State.publishPhases s l cycle v) := by
  unfold State.publishPhases
  try dsimp (proj := false) only
  repeat' (first | simp (disch := decide) only [↓onlyParts.self, ↓State.set_keeps, ↓State.setLink_keeps, ↓State.syntonise_keeps, ↓with_px, ↓with_regs] | with_reducible (refine onlyParts.fold ?_ _ ?_) | with_reducible (refine onlyParts.foldSnd ?_ _ ?_) | (refine onlyParts.snd (by assumption) ?_) | split | (intro (_ : State) _; try dsimp (proj := false) only) | (intro (_ : _ × State) _; try dsimp (proj := false) only))
theorem State.publishPhases_keeps {L₀ : List Part} {s₀ : State} (s : State) (l cycle : Nat) (v : Option (Nat × Nat × Nat)) (h₀ : [(.regs : Part), (.px : Part)].all (L₀.contains ·) = true) : onlyParts L₀ s₀ (State.publishPhases s l cycle v) ↔ onlyParts L₀ s₀ s :=
  onlyParts.step (State.publishPhases_parts s l cycle v) h₀

theorem State.publishResult_parts (s : State) (l : Nat) : onlyParts [.regs, .smp, .px] s (State.publishResult s l) := by
  unfold State.publishResult
  try dsimp (proj := false) only
  repeat' (first | simp (disch := decide) only [↓onlyParts.self, ↓State.deliver_keeps, ↓State.set_keeps, ↓State.setLink_keeps, ↓State.wr64_keeps, ↓with_px, ↓with_regs, ↓with_smp] | with_reducible (refine onlyParts.fold ?_ _ ?_) | with_reducible (refine onlyParts.foldSnd ?_ _ ?_) | (refine onlyParts.snd (by assumption) ?_) | split | (intro (_ : State) _; try dsimp (proj := false) only) | (intro (_ : _ × State) _; try dsimp (proj := false) only))
theorem State.publishResult_keeps {L₀ : List Part} {s₀ : State} (s : State) (l : Nat) (h₀ : [(.regs : Part), (.smp : Part), (.px : Part)].all (L₀.contains ·) = true) : onlyParts L₀ s₀ (State.publishResult s l) ↔ onlyParts L₀ s₀ s :=
  onlyParts.step (State.publishResult_parts s l) h₀

theorem State.pxPublish_parts (s : State) (cycle : Nat) (v : List (Fin 48 × Fin 16384 × Fin 16384 × Nat)) (l : Nat) : onlyParts [.regs, .smp, .px] s (State.pxPublish s cycle v l) := by
  unfold State.pxPublish
  try dsimp (proj := false) only
  repeat' (first | simp (disch := decide) only [↓onlyParts.self, ↓State.publishPhases_keeps, ↓State.publishResult_keeps, ↓with_px, ↓with_regs, ↓with_smp] | with_reducible (refine onlyParts.fold ?_ _ ?_) | with_reducible (refine onlyParts.foldSnd ?_ _ ?_) | (refine onlyParts.snd (by assumption) ?_) | split | (intro (_ : State) _; try dsimp (proj := false) only) | (intro (_ : _ × State) _; try dsimp (proj := false) only))
theorem State.pxPublish_keeps {L₀ : List Part} {s₀ : State} (s : State) (cycle : Nat) (v : List (Fin 48 × Fin 16384 × Fin 16384 × Nat)) (l : Nat) (h₀ : [(.regs : Part), (.smp : Part), (.px : Part)].all (L₀.contains ·) = true) : onlyParts L₀ s₀ (State.pxPublish s cycle v l) ↔ onlyParts L₀ s₀ s :=
  onlyParts.step (State.pxPublish_parts s cycle v l) h₀

theorem State.refReturn_parts (s : State) (r : Nat) : onlyParts [.regs, .chan] s (State.refReturn s r) := by
  unfold State.refReturn
  try dsimp (proj := false) only
  repeat' (first | simp (disch := decide) only [↓onlyParts.self, ↓State.set_keeps, ↓State.setStatus_keeps, ↓with_chan, ↓with_regs] | with_reducible (refine onlyParts.fold ?_ _ ?_) | with_reducible (refine onlyParts.foldSnd ?_ _ ?_) | (refine onlyParts.snd (by assumption) ?_) | split | (intro (_ : State) _; try dsimp (proj := false) only) | (intro (_ : _ × State) _; try dsimp (proj := false) only))
theorem State.refReturn_keeps {L₀ : List Part} {s₀ : State} (s : State) (r : Nat) (h₀ : [(.regs : Part), (.chan : Part)].all (L₀.contains ·) = true) : onlyParts L₀ s₀ (State.refReturn s r) ↔ onlyParts L₀ s₀ s :=
  onlyParts.step (State.refReturn_parts s r) h₀

theorem State.msixReset_parts (s : State) : onlyParts [.regs, .host] s (State.msixReset s) := by
  unfold State.msixReset
  try dsimp (proj := false) only
  repeat' (first | simp (disch := decide) only [↓onlyParts.self, ↓with_host, ↓with_regs] | with_reducible (refine onlyParts.fold ?_ _ ?_) | with_reducible (refine onlyParts.foldSnd ?_ _ ?_) | (refine onlyParts.snd (by assumption) ?_) | split | (intro (_ : State) _; try dsimp (proj := false) only) | (intro (_ : _ × State) _; try dsimp (proj := false) only))
theorem State.msixReset_keeps {L₀ : List Part} {s₀ : State} (s : State) (h₀ : [(.regs : Part), (.host : Part)].all (L₀.contains ·) = true) : onlyParts L₀ s₀ (State.msixReset s) ↔ onlyParts L₀ s₀ s :=
  onlyParts.step (State.msixReset_parts s) h₀

theorem State.mbPcieReset_parts (s : State) (n : Nat) : onlyParts [.regs, .mbox, .mp] s (State.mbPcieReset s n) := by
  unfold State.mbPcieReset
  try dsimp (proj := false) only
  repeat' (first | simp (disch := decide) only [↓onlyParts.self, ↓State.mbToIdle_keeps, ↓State.setMb_keeps, ↓with_mbox, ↓with_mp, ↓with_regs] | with_reducible (refine onlyParts.fold ?_ _ ?_) | with_reducible (refine onlyParts.foldSnd ?_ _ ?_) | (refine onlyParts.snd (by assumption) ?_) | split | (intro (_ : State) _; try dsimp (proj := false) only) | (intro (_ : _ × State) _; try dsimp (proj := false) only))
theorem State.mbPcieReset_keeps {L₀ : List Part} {s₀ : State} (s : State) (n : Nat) (h₀ : [(.regs : Part), (.mbox : Part), (.mp : Part)].all (L₀.contains ·) = true) : onlyParts L₀ s₀ (State.mbPcieReset s n) ↔ onlyParts L₀ s₀ s :=
  onlyParts.step (State.mbPcieReset_parts s n) h₀

theorem State.hardRepairs_parts (s : State) : onlyParts [.regs, .hl] s (State.hardRepairs s) := by
  unfold State.hardRepairs
  try dsimp (proj := false) only
  repeat' (first | simp (disch := decide) only [↓onlyParts.self, ↓State.set_keeps, ↓with_hl, ↓with_regs] | with_reducible (refine onlyParts.fold ?_ _ ?_) | with_reducible (refine onlyParts.foldSnd ?_ _ ?_) | (refine onlyParts.snd (by assumption) ?_) | split | (intro (_ : State) _; try dsimp (proj := false) only) | (intro (_ : _ × State) _; try dsimp (proj := false) only))
theorem State.hardRepairs_keeps {L₀ : List Part} {s₀ : State} (s : State) (h₀ : [(.regs : Part), (.hl : Part)].all (L₀.contains ·) = true) : onlyParts L₀ s₀ (State.hardRepairs s) ↔ onlyParts L₀ s₀ s :=
  onlyParts.step (State.hardRepairs_parts s) h₀

theorem State.holdOrLost_parts (s : State) (c : Nat) : onlyParts [.regs, .chan, .ou] s (State.holdOrLost s c) := by
  unfold State.holdOrLost
  try dsimp (proj := false) only
  repeat' (first | simp (disch := decide) only [↓onlyParts.self, ↓State.histStat_keeps, ↓State.set_keeps, ↓State.setChan_keeps, ↓State.tcEnter_keeps, ↓State.tcRelease_keeps, ↓with_chan, ↓with_ou, ↓with_regs] | with_reducible (refine onlyParts.fold ?_ _ ?_) | with_reducible (refine onlyParts.foldSnd ?_ _ ?_) | (refine onlyParts.snd (by assumption) ?_) | split | (intro (_ : State) _; try dsimp (proj := false) only) | (intro (_ : _ × State) _; try dsimp (proj := false) only))
theorem State.holdOrLost_keeps {L₀ : List Part} {s₀ : State} (s : State) (c : Nat) (h₀ : [(.regs : Part), (.chan : Part), (.ou : Part)].all (L₀.contains ·) = true) : onlyParts L₀ s₀ (State.holdOrLost s c) ↔ onlyParts L₀ s₀ s :=
  onlyParts.step (State.holdOrLost_parts s c) h₀

theorem State.chanStart_parts (s : State) (c : Nat) : onlyParts [.regs, .chan, .ou] s (State.chanStart s c) := by
  unfold State.chanStart
  try dsimp (proj := false) only
  repeat' (first | simp (disch := decide) only [↓onlyParts.self, ↓State.holdOrLost_keeps, ↓State.setChan_keeps, ↓State.wr_keeps, ↓with_chan, ↓with_ou, ↓with_regs] | with_reducible (refine onlyParts.fold ?_ _ ?_) | with_reducible (refine onlyParts.foldSnd ?_ _ ?_) | (refine onlyParts.snd (by assumption) ?_) | split | (intro (_ : State) _; try dsimp (proj := false) only) | (intro (_ : _ × State) _; try dsimp (proj := false) only))
theorem State.chanStart_keeps {L₀ : List Part} {s₀ : State} (s : State) (c : Nat) (h₀ : [(.regs : Part), (.chan : Part), (.ou : Part)].all (L₀.contains ·) = true) : onlyParts L₀ s₀ (State.chanStart s c) ↔ onlyParts L₀ s₀ s :=
  onlyParts.step (State.chanStart_parts s c) h₀

theorem State.rootStart_parts (s : State) (xin : Option Nat) : onlyParts [.regs] s (State.rootStart s xin) := by
  unfold State.rootStart
  try dsimp (proj := false) only
  repeat' (first | simp (disch := decide) only [↓onlyParts.self, ↓State.setB_keeps, ↓with_regs] | with_reducible (refine onlyParts.fold ?_ _ ?_) | with_reducible (refine onlyParts.foldSnd ?_ _ ?_) | (refine onlyParts.snd (by assumption) ?_) | split | (intro (_ : State) _; try dsimp (proj := false) only) | (intro (_ : _ × State) _; try dsimp (proj := false) only))
theorem State.rootStart_keeps {L₀ : List Part} {s₀ : State} (s : State) (xin : Option Nat) (h₀ : [(.regs : Part)].all (L₀.contains ·) = true) : onlyParts L₀ s₀ (State.rootStart s xin) ↔ onlyParts L₀ s₀ s :=
  onlyParts.step (State.rootStart_parts s xin) h₀

theorem State.takeModel_parts (s : State) (c : Nat) : onlyParts [.free, .chan] s (State.takeModel s c) := by
  unfold State.takeModel
  try dsimp (proj := false) only
  repeat' (first | simp (disch := decide) only [↓onlyParts.self, ↓State.draw_keeps, ↓State.setChan_keeps, ↓with_chan, ↓with_free] | with_reducible (refine onlyParts.fold ?_ _ ?_) | with_reducible (refine onlyParts.foldSnd ?_ _ ?_) | (refine onlyParts.snd (by assumption) ?_) | split | (intro (_ : State) _; try dsimp (proj := false) only) | (intro (_ : _ × State) _; try dsimp (proj := false) only))
theorem State.takeModel_keeps {L₀ : List Part} {s₀ : State} (s : State) (c : Nat) (h₀ : [(.free : Part), (.chan : Part)].all (L₀.contains ·) = true) : onlyParts L₀ s₀ (State.takeModel s c) ↔ onlyParts L₀ s₀ s :=
  onlyParts.step (State.takeModel_parts s c) h₀

theorem State.pxSeed_parts (s : State) : onlyParts [.tw] s (State.pxSeed s) := by
  unfold State.pxSeed
  try dsimp (proj := false) only
  repeat' (first | simp (disch := decide) only [↓onlyParts.self, ↓State.put_keeps, ↓with_tw] | with_reducible (refine onlyParts.fold ?_ _ ?_) | with_reducible (refine onlyParts.foldSnd ?_ _ ?_) | (refine onlyParts.snd (by assumption) ?_) | split | (intro (_ : State) _; try dsimp (proj := false) only) | (intro (_ : _ × State) _; try dsimp (proj := false) only))
theorem State.pxSeed_keeps {L₀ : List Part} {s₀ : State} (s : State) (h₀ : [(.tw : Part)].all (L₀.contains ·) = true) : onlyParts L₀ s₀ (State.pxSeed s) ↔ onlyParts L₀ s₀ s :=
  onlyParts.step (State.pxSeed_parts s) h₀

theorem State.takeRole_parts (s : State) (st cause : Nat) : onlyParts [.regs, .free, .sent, .mbox, .mp, .bw, .sc, .time, .chan, .ou, .tw] s (State.takeRole s st cause) := by
  unfold State.takeRole
  try dsimp (proj := false) only
  repeat' (first | simp (disch := decide) only [↓onlyParts.self, ↓State.lacpRole_keeps, ↓State.mbAnswerWaiting_keeps, ↓State.pxSeed_keeps, ↓State.raise_keeps, ↓State.refLoss_keeps, ↓State.roleCount_keeps, ↓State.set_keeps, ↓State.setChan_keeps, ↓State.takeModel_keeps, ↓State.twEnter_keeps, ↓with_bw, ↓with_chan, ↓with_free, ↓with_mbox, ↓with_mp, ↓with_ou, ↓with_regs, ↓with_sc, ↓with_sent, ↓with_time, ↓with_tw] | with_reducible (refine onlyParts.fold ?_ _ ?_) | with_reducible (refine onlyParts.foldSnd ?_ _ ?_) | (refine onlyParts.snd (by assumption) ?_) | split | (intro (_ : State) _; try dsimp (proj := false) only) | (intro (_ : _ × State) _; try dsimp (proj := false) only))
theorem State.takeRole_keeps {L₀ : List Part} {s₀ : State} (s : State) (st cause : Nat) (h₀ : [(.regs : Part), (.free : Part), (.sent : Part), (.mbox : Part), (.mp : Part), (.bw : Part), (.sc : Part), (.time : Part), (.chan : Part), (.ou : Part), (.tw : Part)].all (L₀.contains ·) = true) : onlyParts L₀ s₀ (State.takeRole s st cause) ↔ onlyParts L₀ s₀ s :=
  onlyParts.step (State.takeRole_parts s st cause) h₀

theorem State.rootAction_parts (s : State) : onlyParts [.regs, .pend, .free, .sent, .power, .mbox, .mp, .bw, .sc, .ft, .ou, .tw] s (State.rootAction s) := by
  unfold State.rootAction
  try dsimp (proj := false) only
  repeat' (first | simp (disch := decide) only [↓onlyParts.self, ↓State.lanesIdle_keeps, ↓State.twSelfFault_keeps, ↓with_bw, ↓with_free, ↓with_ft, ↓with_mbox, ↓with_mp, ↓with_ou, ↓with_pend, ↓with_power, ↓with_regs, ↓with_sc, ↓with_sent, ↓with_tw] | with_reducible (refine onlyParts.fold ?_ _ ?_) | with_reducible (refine onlyParts.foldSnd ?_ _ ?_) | (refine onlyParts.snd (by assumption) ?_) | split | (intro (_ : State) _; try dsimp (proj := false) only) | (intro (_ : _ × State) _; try dsimp (proj := false) only))
theorem State.rootAction_keeps {L₀ : List Part} {s₀ : State} (s : State) (h₀ : [(.regs : Part), (.pend : Part), (.free : Part), (.sent : Part), (.power : Part), (.mbox : Part), (.mp : Part), (.bw : Part), (.sc : Part), (.ft : Part), (.ou : Part), (.tw : Part)].all (L₀.contains ·) = true) : onlyParts L₀ s₀ (State.rootAction s) ↔ onlyParts L₀ s₀ s :=
  onlyParts.step (State.rootAction_parts s) h₀

theorem State.noFitAll_parts (s : State) : onlyParts [.regs, .sc, .txts] s (State.noFitAll s) := by
  unfold State.noFitAll
  try dsimp (proj := false) only
  repeat' (first | simp (disch := decide) only [↓onlyParts.self, ↓State.noFit_keeps, ↓with_regs, ↓with_sc, ↓with_txts] | with_reducible (refine onlyParts.fold ?_ _ ?_) | with_reducible (refine onlyParts.foldSnd ?_ _ ?_) | (refine onlyParts.snd (by assumption) ?_) | split | (intro (_ : State) _; try dsimp (proj := false) only) | (intro (_ : _ × State) _; try dsimp (proj := false) only))
theorem State.noFitAll_keeps {L₀ : List Part} {s₀ : State} (s : State) (h₀ : [(.regs : Part), (.sc : Part), (.txts : Part)].all (L₀.contains ·) = true) : onlyParts L₀ s₀ (State.noFitAll s) ↔ onlyParts L₀ s₀ s :=
  onlyParts.step (State.noFitAll_parts s) h₀

theorem State.withFetchWord_parts (s : State) (nbits w : Nat) : onlyParts [.pending] s (State.withFetchWord s nbits w) := by
  unfold State.withFetchWord
  try dsimp (proj := false) only
  repeat' (first | simp (disch := decide) only [↓onlyParts.self, ↓with_pending] | with_reducible (refine onlyParts.fold ?_ _ ?_) | with_reducible (refine onlyParts.foldSnd ?_ _ ?_) | (refine onlyParts.snd (by assumption) ?_) | split | (intro (_ : State) _; try dsimp (proj := false) only) | (intro (_ : _ × State) _; try dsimp (proj := false) only))
theorem State.withFetchWord_keeps {L₀ : List Part} {s₀ : State} (s : State) (nbits w : Nat) (h₀ : [(.pending : Part)].all (L₀.contains ·) = true) : onlyParts L₀ s₀ (State.withFetchWord s nbits w) ↔ onlyParts L₀ s₀ s :=
  onlyParts.step (State.withFetchWord_parts s nbits w) h₀

theorem State.wholeNow_parts (s : State) (id : Nat) : onlyParts [.regs, .sc] s (State.wholeNow s id) := by
  unfold State.wholeNow
  try dsimp (proj := false) only
  repeat' (first | simp (disch := decide) only [↓onlyParts.self, ↓State.fetch_keeps, ↓State.setPkt_keeps, ↓with_regs, ↓with_sc] | with_reducible (refine onlyParts.fold ?_ _ ?_) | with_reducible (refine onlyParts.foldSnd ?_ _ ?_) | (refine onlyParts.snd (by assumption) ?_) | split | (intro (_ : State) _; try dsimp (proj := false) only) | (intro (_ : _ × State) _; try dsimp (proj := false) only))
theorem State.wholeNow_keeps {L₀ : List Part} {s₀ : State} (s : State) (id : Nat) (h₀ : [(.regs : Part), (.sc : Part)].all (L₀.contains ·) = true) : onlyParts L₀ s₀ (State.wholeNow s id) ↔ onlyParts L₀ s₀ s :=
  onlyParts.step (State.wholeNow_parts s id) h₀

theorem State.flowMode_parts (s : State) (p was : Nat) : onlyParts [.sc] s (State.flowMode s p was) := by
  unfold State.flowMode
  try dsimp (proj := false) only
  repeat' (first | simp (disch := decide) only [↓onlyParts.self, ↓State.put_keeps, ↓with_sc] | with_reducible (refine onlyParts.fold ?_ _ ?_) | with_reducible (refine onlyParts.foldSnd ?_ _ ?_) | (refine onlyParts.snd (by assumption) ?_) | split | (intro (_ : State) _; try dsimp (proj := false) only) | (intro (_ : _ × State) _; try dsimp (proj := false) only))
theorem State.flowMode_keeps {L₀ : List Part} {s₀ : State} (s : State) (p was : Nat) (h₀ : [(.sc : Part)].all (L₀.contains ·) = true) : onlyParts L₀ s₀ (State.flowMode s p was) ↔ onlyParts L₀ s₀ s :=
  onlyParts.step (State.flowMode_parts s p was) h₀

theorem State.releaseCell_parts (s : State) (dbm : Bool) (c : Cell) : onlyParts [.regs, .free, .sent, .bw, .sc, .txts] s (State.releaseCell s dbm c) := by
  unfold State.releaseCell
  try dsimp (proj := false) only
  repeat' (first | simp (disch := decide) only [↓onlyParts.self, ↓State.admitFrame_keeps, ↓State.endSending_keeps, ↓State.killPkt_keeps, ↓State.pm_keeps, ↓State.wholeNow_keeps, ↓with_bw, ↓with_free, ↓with_regs, ↓with_sc, ↓with_sent, ↓with_txts] | with_reducible (refine onlyParts.fold ?_ _ ?_) | with_reducible (refine onlyParts.foldSnd ?_ _ ?_) | (refine onlyParts.snd (by assumption) ?_) | split | (intro (_ : State) _; try dsimp (proj := false) only) | (intro (_ : _ × State) _; try dsimp (proj := false) only))
theorem State.releaseCell_keeps {L₀ : List Part} {s₀ : State} (s : State) (dbm : Bool) (c : Cell) (h₀ : [(.regs : Part), (.free : Part), (.sent : Part), (.bw : Part), (.sc : Part), (.txts : Part)].all (L₀.contains ·) = true) : onlyParts L₀ s₀ (State.releaseCell s dbm c) ↔ onlyParts L₀ s₀ s :=
  onlyParts.step (State.releaseCell_parts s dbm c) h₀

theorem State.releaseHeld_parts (s : State) (dbm : Bool) (e key : Nat) (n : Nat) : onlyParts [.regs, .free, .sent, .bw, .sc, .txts] s (State.releaseHeld s dbm e key n) := by
  induction n generalizing s with
  | zero => exact onlyParts.refl
  | succ n ih =>
    have keep {L₀ : List Part} {s₀ : State} (t : State) (q : ([.regs, .free, .sent, .bw, .sc, .txts] : List Part).all (L₀.contains ·) = true) : onlyParts L₀ s₀ (State.releaseHeld t dbm e key n) ↔ onlyParts L₀ s₀ t := onlyParts.step (ih (s := t)) q
    unfold State.releaseHeld
    try dsimp (proj := false) only
    repeat' (first | simp (disch := decide) only [↓onlyParts.self, ↓State.put_keeps, ↓State.releaseCell_keeps, ↓with_bw, ↓with_free, ↓with_regs, ↓with_sc, ↓with_sent, ↓with_txts, ↓keep] | with_reducible (refine onlyParts.fold ?_ _ ?_) | with_reducible (refine onlyParts.foldSnd ?_ _ ?_) | (refine onlyParts.snd (by assumption) ?_) | split | (intro (_ : State) _; try dsimp (proj := false) only) | (intro (_ : _ × State) _; try dsimp (proj := false) only))
theorem State.releaseHeld_keeps {L₀ : List Part} {s₀ : State} (s : State) (dbm : Bool) (e key : Nat) (n : Nat) (h₀ : [(.regs : Part), (.free : Part), (.sent : Part), (.bw : Part), (.sc : Part), (.txts : Part)].all (L₀.contains ·) = true) : onlyParts L₀ s₀ (State.releaseHeld s dbm e key n) ↔ onlyParts L₀ s₀ s :=
  onlyParts.step (State.releaseHeld_parts s dbm e key n) h₀

theorem State.arrive_parts (s : State) (dbm : Bool) (c : Cell) : onlyParts [.regs, .free, .sent, .bw, .sc, .txts] s (State.arrive s dbm c) := by
  unfold State.arrive
  try dsimp (proj := false) only
  repeat' (first | simp (disch := decide) only [↓onlyParts.self, ↓State.put_keeps, ↓State.releaseHeld_keeps, ↓with_bw, ↓with_free, ↓with_regs, ↓with_sc, ↓with_sent, ↓with_txts] | with_reducible (refine onlyParts.fold ?_ _ ?_) | with_reducible (refine onlyParts.foldSnd ?_ _ ?_) | (refine onlyParts.snd (by assumption) ?_) | split | (intro (_ : State) _; try dsimp (proj := false) only) | (intro (_ : _ × State) _; try dsimp (proj := false) only))
theorem State.arrive_keeps {L₀ : List Part} {s₀ : State} (s : State) (dbm : Bool) (c : Cell) (h₀ : [(.regs : Part), (.free : Part), (.sent : Part), (.bw : Part), (.sc : Part), (.txts : Part)].all (L₀.contains ·) = true) : onlyParts L₀ s₀ (State.arrive s dbm c) ↔ onlyParts L₀ s₀ s :=
  onlyParts.step (State.arrive_parts s dbm c) h₀

theorem State.dlmCheck_parts (s : State) : onlyParts [.regs] s (State.dlmCheck s) := by
  unfold State.dlmCheck
  try dsimp (proj := false) only
  repeat' (first | simp (disch := decide) only [↓onlyParts.self, ↓State.setB_keeps, ↓with_regs] | with_reducible (refine onlyParts.fold ?_ _ ?_) | with_reducible (refine onlyParts.foldSnd ?_ _ ?_) | (refine onlyParts.snd (by assumption) ?_) | split | (intro (_ : State) _; try dsimp (proj := false) only) | (intro (_ : _ × State) _; try dsimp (proj := false) only))
theorem State.dlmCheck_keeps {L₀ : List Part} {s₀ : State} (s : State) (h₀ : [(.regs : Part)].all (L₀.contains ·) = true) : onlyParts L₀ s₀ (State.dlmCheck s) ↔ onlyParts L₀ s₀ s :=
  onlyParts.step (State.dlmCheck_parts s) h₀

theorem State.setMezz_parts (s : State) (m : Nat) (l : List Cell) : onlyParts [.sc] s (State.setMezz s m l) := by
  unfold State.setMezz
  try dsimp (proj := false) only
  repeat' (first | simp (disch := decide) only [↓onlyParts.self, ↓State.put_keeps, ↓with_sc] | with_reducible (refine onlyParts.fold ?_ _ ?_) | with_reducible (refine onlyParts.foldSnd ?_ _ ?_) | (refine onlyParts.snd (by assumption) ?_) | split | (intro (_ : State) _; try dsimp (proj := false) only) | (intro (_ : _ × State) _; try dsimp (proj := false) only))
theorem State.setMezz_keeps {L₀ : List Part} {s₀ : State} (s : State) (m : Nat) (l : List Cell) (h₀ : [(.sc : Part)].all (L₀.contains ·) = true) : onlyParts L₀ s₀ (State.setMezz s m l) ↔ onlyParts L₀ s₀ s :=
  onlyParts.step (State.setMezz_parts s m l) h₀

theorem State.quarantine_parts (s : State) (pos : Nat) : onlyParts [.regs, .sc] s (State.quarantine s pos) := by
  unfold State.quarantine
  try dsimp (proj := false) only
  repeat' (first | simp (disch := decide) only [↓onlyParts.self, ↓State.dlmCheck_keeps, ↓State.raise_keeps, ↓State.setBit_keeps, ↓State.setMezz_keeps, ↓with_regs, ↓with_sc] | with_reducible (refine onlyParts.fold ?_ _ ?_) | with_reducible (refine onlyParts.foldSnd ?_ _ ?_) | (refine onlyParts.snd (by assumption) ?_) | split | (intro (_ : State) _; try dsimp (proj := false) only) | (intro (_ : _ × State) _; try dsimp (proj := false) only))
theorem State.quarantine_keeps {L₀ : List Part} {s₀ : State} (s : State) (pos : Nat) (h₀ : [(.regs : Part), (.sc : Part)].all (L₀.contains ·) = true) : onlyParts L₀ s₀ (State.quarantine s pos) ↔ onlyParts L₀ s₀ s :=
  onlyParts.step (State.quarantine_parts s pos) h₀

theorem State.mezzFaulty_parts (s : State) (m : Nat) : onlyParts [.regs, .sc] s (State.mezzFaulty s m) := by
  unfold State.mezzFaulty
  try dsimp (proj := false) only
  repeat' (first | simp (disch := decide) only [↓onlyParts.self, ↓State.quarantine_keeps, ↓State.setBit_keeps, ↓State.swapStart_keeps, ↓with_regs, ↓with_sc] | with_reducible (refine onlyParts.fold ?_ _ ?_) | with_reducible (refine onlyParts.foldSnd ?_ _ ?_) | (refine onlyParts.snd (by assumption) ?_) | split | (intro (_ : State) _; try dsimp (proj := false) only) | (intro (_ : _ × State) _; try dsimp (proj := false) only))
theorem State.mezzFaulty_keeps {L₀ : List Part} {s₀ : State} (s : State) (m : Nat) (h₀ : [(.regs : Part), (.sc : Part)].all (L₀.contains ·) = true) : onlyParts L₀ s₀ (State.mezzFaulty s m) ↔ onlyParts L₀ s₀ s :=
  onlyParts.step (State.mezzFaulty_parts s m) h₀

theorem State.mezzReturned_parts (s : State) (m : Nat) : onlyParts [.regs, .sc] s (State.mezzReturned s m) := by
  unfold State.mezzReturned
  try dsimp (proj := false) only
  repeat' (first | simp (disch := decide) only [↓onlyParts.self, ↓State.set_keeps, ↓State.swapStart_keeps, ↓with_regs, ↓with_sc] | with_reducible (refine onlyParts.fold ?_ _ ?_) | with_reducible (refine onlyParts.foldSnd ?_ _ ?_) | (refine onlyParts.snd (by assumption) ?_) | split | (intro (_ : State) _; try dsimp (proj := false) only) | (intro (_ : _ × State) _; try dsimp (proj := false) only))
theorem State.mezzReturned_keeps {L₀ : List Part} {s₀ : State} (s : State) (m : Nat) (h₀ : [(.regs : Part), (.sc : Part)].all (L₀.contains ·) = true) : onlyParts L₀ s₀ (State.mezzReturned s m) ↔ onlyParts L₀ s₀ s :=
  onlyParts.step (State.mezzReturned_parts s m) h₀

theorem State.mezzEcc_parts (s : State) (m : Nat) (e : Ecc) : onlyParts [.regs, .hl, .sc] s (State.mezzEcc s m e).2 := by
  unfold State.mezzEcc
  try dsimp (proj := false) only
  repeat' (first | simp (disch := decide) only [↓onlyParts.self, ↓State.hlLasting_keeps, ↓State.hlTransient_keeps, ↓State.inc_keeps, ↓State.mezzFaulty_keeps, ↓State.raise_keeps, ↓with_hl, ↓with_regs, ↓with_sc] | with_reducible (refine onlyParts.fold ?_ _ ?_) | with_reducible (refine onlyParts.foldSnd ?_ _ ?_) | (refine onlyParts.snd (by assumption) ?_) | split | (intro (_ : State) _; try dsimp (proj := false) only) | (intro (_ : _ × State) _; try dsimp (proj := false) only))
theorem State.mezzEcc_keeps {L₀ : List Part} {s₀ : State} (s : State) (m : Nat) (e : Ecc) (h₀ : [(.regs : Part), (.hl : Part), (.sc : Part)].all (L₀.contains ·) = true) : onlyParts L₀ s₀ (State.mezzEcc s m e).2 ↔ onlyParts L₀ s₀ s :=
  onlyParts.step (State.mezzEcc_parts s m e) h₀

theorem State.upperHall_parts (s : State) (dbm : Bool) (ecc : List (Fin 17 × Ecc)) (l : Nat) : onlyParts [.regs, .free, .sent, .hl, .bw, .sc, .txts] s (State.upperHall s dbm ecc l) := by
  unfold State.upperHall
  try dsimp (proj := false) only
  repeat' (first | simp (disch := decide) only [↓onlyParts.self, ↓State.arrive_keeps, ↓State.mezzEcc_keeps, ↓State.setMezz_keeps, ↓with_bw, ↓with_free, ↓with_hl, ↓with_regs, ↓with_sc, ↓with_sent, ↓with_txts] | with_reducible (refine onlyParts.fold ?_ _ ?_) | with_reducible (refine onlyParts.foldSnd ?_ _ ?_) | (refine onlyParts.snd (by assumption) ?_) | split | (intro (_ : State) _; try dsimp (proj := false) only) | (intro (_ : _ × State) _; try dsimp (proj := false) only))
theorem State.upperHall_keeps {L₀ : List Part} {s₀ : State} (s : State) (dbm : Bool) (ecc : List (Fin 17 × Ecc)) (l : Nat) (h₀ : [(.regs : Part), (.free : Part), (.sent : Part), (.hl : Part), (.bw : Part), (.sc : Part), (.txts : Part)].all (L₀.contains ·) = true) : onlyParts L₀ s₀ (State.upperHall s dbm ecc l) ↔ onlyParts L₀ s₀ s :=
  onlyParts.step (State.upperHall_parts s dbm ecc l) h₀

theorem State.lowerHall_parts (s : State) (b : Nat) : onlyParts [.regs, .sc] s (State.lowerHall s b) := by
  unfold State.lowerHall
  try dsimp (proj := false) only
  repeat' (first | simp (disch := decide) only [↓onlyParts.self, ↓State.pm_keeps, ↓State.put_keeps, ↓State.setMezz_keeps, ↓State.setPkt_keeps, ↓with_regs, ↓with_sc] | with_reducible (refine onlyParts.fold ?_ _ ?_) | with_reducible (refine onlyParts.foldSnd ?_ _ ?_) | (refine onlyParts.snd (by assumption) ?_) | split | (intro (_ : State) _; try dsimp (proj := false) only) | (intro (_ : _ × State) _; try dsimp (proj := false) only))
theorem State.lowerHall_keeps {L₀ : List Part} {s₀ : State} (s : State) (b : Nat) (h₀ : [(.regs : Part), (.sc : Part)].all (L₀.contains ·) = true) : onlyParts L₀ s₀ (State.lowerHall s b) ↔ onlyParts L₀ s₀ s :=
  onlyParts.step (State.lowerHall_parts s b) h₀

theorem State.storeEcc_parts (s : State) (f : StoreFault) : onlyParts [.regs, .sent, .hl, .bw, .sc, .txts] s (State.storeEcc s f) := by
  unfold State.storeEcc
  try dsimp (proj := false) only
  repeat' (first | simp (disch := decide) only [↓onlyParts.self, ↓State.hlLasting_keeps, ↓State.hlQueueRow_keeps, ↓State.hlTransient_keeps, ↓State.inc_keeps, ↓State.killPkt_keeps, ↓State.raise_keeps, ↓State.store_keeps, ↓with_bw, ↓with_hl, ↓with_regs, ↓with_sc, ↓with_sent, ↓with_txts] | with_reducible (refine onlyParts.fold ?_ _ ?_) | with_reducible (refine onlyParts.foldSnd ?_ _ ?_) | (refine onlyParts.snd (by assumption) ?_) | split | (intro (_ : State) _; try dsimp (proj := false) only) | (intro (_ : _ × State) _; try dsimp (proj := false) only))
theorem State.storeEcc_keeps {L₀ : List Part} {s₀ : State} (s : State) (f : StoreFault) (h₀ : [(.regs : Part), (.sent : Part), (.hl : Part), (.bw : Part), (.sc : Part), (.txts : Part)].all (L₀.contains ·) = true) : onlyParts L₀ s₀ (State.storeEcc s f) ↔ onlyParts L₀ s₀ s :=
  onlyParts.step (State.storeEcc_parts s f) h₀

theorem State.applyRes_parts (s : State) (l : List (Nat × Word × Nat)) : onlyParts [.regs] s (State.applyRes s l) := by
  unfold State.applyRes
  try dsimp (proj := false) only
  repeat' (first | simp (disch := decide) only [↓onlyParts.self, ↓State.raise_keeps, ↓State.set_keeps, ↓State.wr_keeps, ↓with_regs] | with_reducible (refine onlyParts.fold ?_ _ ?_) | with_reducible (refine onlyParts.foldSnd ?_ _ ?_) | (refine onlyParts.snd (by assumption) ?_) | split | (intro (_ : State) _; try dsimp (proj := false) only) | (intro (_ : _ × State) _; try dsimp (proj := false) only))
theorem State.applyRes_keeps {L₀ : List Part} {s₀ : State} (s : State) (l : List (Nat × Word × Nat)) (h₀ : [(.regs : Part)].all (L₀.contains ·) = true) : onlyParts L₀ s₀ (State.applyRes s l) ↔ onlyParts L₀ s₀ s :=
  onlyParts.step (State.applyRes_parts s l) h₀

theorem State.moveNote_parts (s : State) (o d : Nat) : onlyParts [.ft] s (State.moveNote s o d) := by
  unfold State.moveNote
  try dsimp (proj := false) only
  repeat' (first | simp (disch := decide) only [↓onlyParts.self, ↓with_ft] | with_reducible (refine onlyParts.fold ?_ _ ?_) | with_reducible (refine onlyParts.foldSnd ?_ _ ?_) | (refine onlyParts.snd (by assumption) ?_) | split | (intro (_ : State) _; try dsimp (proj := false) only) | (intro (_ : _ × State) _; try dsimp (proj := false) only))
theorem State.moveNote_keeps {L₀ : List Part} {s₀ : State} (s : State) (o d : Nat) (h₀ : [(.ft : Part)].all (L₀.contains ·) = true) : onlyParts L₀ s₀ (State.moveNote s o d) ↔ onlyParts L₀ s₀ s :=
  onlyParts.step (State.moveNote_parts s o d) h₀

theorem State.ftRepaired_parts (s : State) (bank row : Nat) : onlyParts [.regs, .ft] s (State.ftRepaired s bank row) := by
  unfold State.ftRepaired
  try dsimp (proj := false) only
  repeat' (first | simp (disch := decide) only [↓onlyParts.self, ↓State.setEnt_keeps, ↓with_ft, ↓with_regs] | with_reducible (refine onlyParts.fold ?_ _ ?_) | with_reducible (refine onlyParts.foldSnd ?_ _ ?_) | (refine onlyParts.snd (by assumption) ?_) | split | (intro (_ : State) _; try dsimp (proj := false) only) | (intro (_ : _ × State) _; try dsimp (proj := false) only))
theorem State.ftRepaired_keeps {L₀ : List Part} {s₀ : State} (s : State) (bank row : Nat) (h₀ : [(.regs : Part), (.ft : Part)].all (L₀.contains ·) = true) : onlyParts L₀ s₀ (State.ftRepaired s bank row) ↔ onlyParts L₀ s₀ s :=
  onlyParts.step (State.ftRepaired_parts s bank row) h₀

theorem State.age_parts (s : State) (loc : Nat) : onlyParts [.regs, .ft] s (State.age s loc) := by
  unfold State.age
  try dsimp (proj := false) only
  repeat' (first | simp (disch := decide) only [↓onlyParts.self, ↓State.inc_keeps, ↓State.macRemove_keeps, ↓State.setEnt_keeps, ↓with_ft, ↓with_regs] | with_reducible (refine onlyParts.fold ?_ _ ?_) | with_reducible (refine onlyParts.foldSnd ?_ _ ?_) | (refine onlyParts.snd (by assumption) ?_) | split | (intro (_ : State) _; try dsimp (proj := false) only) | (intro (_ : _ × State) _; try dsimp (proj := false) only))
theorem State.age_keeps {L₀ : List Part} {s₀ : State} (s : State) (loc : Nat) (h₀ : [(.regs : Part), (.ft : Part)].all (L₀.contains ·) = true) : onlyParts L₀ s₀ (State.age s loc) ↔ onlyParts L₀ s₀ s :=
  onlyParts.step (State.age_parts s loc) h₀

theorem State.switchTo_parts (s : State) (c n : Nat) (forced : Bool) : onlyParts [.regs, .chan, .ou] s (State.switchTo s c n forced) := by
  unfold State.switchTo
  try dsimp (proj := false) only
  repeat' (first | simp (disch := decide) only [↓onlyParts.self, ↓State.set_keeps, ↓State.setChan_keeps, ↓State.tcEnter_keeps, ↓with_chan, ↓with_ou, ↓with_regs] | with_reducible (refine onlyParts.fold ?_ _ ?_) | with_reducible (refine onlyParts.foldSnd ?_ _ ?_) | (refine onlyParts.snd (by assumption) ?_) | split | (intro (_ : State) _; try dsimp (proj := false) only) | (intro (_ : _ × State) _; try dsimp (proj := false) only))
theorem State.switchTo_keeps {L₀ : List Part} {s₀ : State} (s : State) (c n : Nat) (forced : Bool) (h₀ : [(.regs : Part), (.chan : Part), (.ou : Part)].all (L₀.contains ·) = true) : onlyParts L₀ s₀ (State.switchTo s c n forced) ↔ onlyParts L₀ s₀ s :=
  onlyParts.step (State.switchTo_parts s c n forced) h₀

theorem State.selectForced_parts (s : State) (c r : Nat) : onlyParts [.regs, .chan, .ou] s (State.selectForced s c r) := by
  unfold State.selectForced
  try dsimp (proj := false) only
  repeat' (first | simp (disch := decide) only [↓onlyParts.self, ↓State.holdOrLost_keeps, ↓State.switchTo_keeps, ↓with_chan, ↓with_ou, ↓with_regs] | with_reducible (refine onlyParts.fold ?_ _ ?_) | with_reducible (refine onlyParts.foldSnd ?_ _ ?_) | (refine onlyParts.snd (by assumption) ?_) | split | (intro (_ : State) _; try dsimp (proj := false) only) | (intro (_ : _ × State) _; try dsimp (proj := false) only))
theorem State.selectForced_keeps {L₀ : List Part} {s₀ : State} (s : State) (c r : Nat) (h₀ : [(.regs : Part), (.chan : Part), (.ou : Part)].all (L₀.contains ·) = true) : onlyParts L₀ s₀ (State.selectForced s c r) ↔ onlyParts L₀ s₀ s :=
  onlyParts.step (State.selectForced_parts s c r) h₀

theorem State.selectBest_parts (s : State) (c : Nat) : onlyParts [.regs, .chan, .ou] s (State.selectBest s c) := by
  unfold State.selectBest
  try dsimp (proj := false) only
  repeat' (first | simp (disch := decide) only [↓onlyParts.self, ↓State.holdOrLost_keeps, ↓State.switchTo_keeps, ↓with_chan, ↓with_ou, ↓with_regs] | with_reducible (refine onlyParts.fold ?_ _ ?_) | with_reducible (refine onlyParts.foldSnd ?_ _ ?_) | (refine onlyParts.snd (by assumption) ?_) | split | (intro (_ : State) _; try dsimp (proj := false) only) | (intro (_ : _ × State) _; try dsimp (proj := false) only))
theorem State.selectBest_keeps {L₀ : List Part} {s₀ : State} (s : State) (c : Nat) (h₀ : [(.regs : Part), (.chan : Part), (.ou : Part)].all (L₀.contains ·) = true) : onlyParts L₀ s₀ (State.selectBest s c) ↔ onlyParts L₀ s₀ s :=
  onlyParts.step (State.selectBest_parts s c) h₀

theorem State.select_parts (s : State) (c : Nat) : onlyParts [.regs, .chan, .ou] s (State.select s c) := by
  unfold State.select
  try dsimp (proj := false) only
  repeat' (first | simp (disch := decide) only [↓onlyParts.self, ↓State.freerun_keeps, ↓State.holdOrLost_keeps, ↓State.selectBest_keeps, ↓State.selectForced_keeps, ↓with_chan, ↓with_ou, ↓with_regs] | with_reducible (refine onlyParts.fold ?_ _ ?_) | with_reducible (refine onlyParts.foldSnd ?_ _ ?_) | (refine onlyParts.snd (by assumption) ?_) | split | (intro (_ : State) _; try dsimp (proj := false) only) | (intro (_ : _ × State) _; try dsimp (proj := false) only))
theorem State.select_keeps {L₀ : List Part} {s₀ : State} (s : State) (c : Nat) (h₀ : [(.regs : Part), (.chan : Part), (.ou : Part)].all (L₀.contains ·) = true) : onlyParts L₀ s₀ (State.select s c) ↔ onlyParts L₀ s₀ s :=
  onlyParts.step (State.select_parts s c) h₀

theorem State.switchUpdate_parts (s : State) (c : Nat) (w : Switching) : onlyParts [.regs, .chan, .ou] s (State.switchUpdate s c w) := by
  unfold State.switchUpdate
  try dsimp (proj := false) only
  repeat' (first | simp (disch := decide) only [↓onlyParts.self, ↓State.select_keeps, ↓State.setChan_keeps, ↓State.tcRelease_keeps, ↓with_chan, ↓with_ou, ↓with_regs] | with_reducible (refine onlyParts.fold ?_ _ ?_) | with_reducible (refine onlyParts.foldSnd ?_ _ ?_) | (refine onlyParts.snd (by assumption) ?_) | split | (intro (_ : State) _; try dsimp (proj := false) only) | (intro (_ : _ × State) _; try dsimp (proj := false) only))
theorem State.switchUpdate_keeps {L₀ : List Part} {s₀ : State} (s : State) (c : Nat) (w : Switching) (h₀ : [(.regs : Part), (.chan : Part), (.ou : Part)].all (L₀.contains ·) = true) : onlyParts L₀ s₀ (State.switchUpdate s c w) ↔ onlyParts L₀ s₀ s :=
  onlyParts.step (State.switchUpdate_parts s c w) h₀

theorem State.rampStat_parts (s : State) (c : Nat) : onlyParts [.regs] s (State.rampStat s c) := by
  unfold State.rampStat
  try dsimp (proj := false) only
  repeat' (first | simp (disch := decide) only [↓onlyParts.self, ↓State.set_keeps, ↓State.wr_keeps, ↓with_regs] | with_reducible (refine onlyParts.fold ?_ _ ?_) | with_reducible (refine onlyParts.foldSnd ?_ _ ?_) | (refine onlyParts.snd (by assumption) ?_) | split | (intro (_ : State) _; try dsimp (proj := false) only) | (intro (_ : _ × State) _; try dsimp (proj := false) only))
theorem State.rampStat_keeps {L₀ : List Part} {s₀ : State} (s : State) (c : Nat) (h₀ : [(.regs : Part)].all (L₀.contains ·) = true) : onlyParts L₀ s₀ (State.rampStat s c) ↔ onlyParts L₀ s₀ s :=
  onlyParts.step (State.rampStat_parts s c) h₀

theorem State.rampEnd_parts (s : State) (c : Nat) : onlyParts [.regs, .chan, .ou] s (State.rampEnd s c) := by
  unfold State.rampEnd
  try dsimp (proj := false) only
  repeat' (first | simp (disch := decide) only [↓onlyParts.self, ↓State.ouRefreshAll_keeps, ↓State.raise_keeps, ↓State.rampStat_keeps, ↓State.setChan_keeps, ↓with_chan, ↓with_ou, ↓with_regs] | with_reducible (refine onlyParts.fold ?_ _ ?_) | with_reducible (refine onlyParts.foldSnd ?_ _ ?_) | (refine onlyParts.snd (by assumption) ?_) | split | (intro (_ : State) _; try dsimp (proj := false) only) | (intro (_ : _ × State) _; try dsimp (proj := false) only))
theorem State.rampEnd_keeps {L₀ : List Part} {s₀ : State} (s : State) (c : Nat) (h₀ : [(.regs : Part), (.chan : Part), (.ou : Part)].all (L₀.contains ·) = true) : onlyParts L₀ s₀ (State.rampEnd s c) ↔ onlyParts L₀ s₀ s :=
  onlyParts.step (State.rampEnd_parts s c) h₀

theorem State.rampUpdate_parts (s : State) (c : Nat) : onlyParts [.regs, .chan, .ou] s (State.rampUpdate s c) := by
  unfold State.rampUpdate
  try dsimp (proj := false) only
  repeat' (first | simp (disch := decide) only [↓onlyParts.self, ↓State.raise_keeps, ↓State.rampEnd_keeps, ↓State.rampStat_keeps, ↓State.setChan_keeps, ↓with_chan, ↓with_ou, ↓with_regs] | with_reducible (refine onlyParts.fold ?_ _ ?_) | with_reducible (refine onlyParts.foldSnd ?_ _ ?_) | (refine onlyParts.snd (by assumption) ?_) | split | (intro (_ : State) _; try dsimp (proj := false) only) | (intro (_ : _ × State) _; try dsimp (proj := false) only))
theorem State.rampUpdate_keeps {L₀ : List Part} {s₀ : State} (s : State) (c : Nat) (h₀ : [(.regs : Part), (.chan : Part), (.ou : Part)].all (L₀.contains ·) = true) : onlyParts L₀ s₀ (State.rampUpdate s c) ↔ onlyParts L₀ s₀ s :=
  onlyParts.step (State.rampUpdate_parts s c) h₀

theorem State.putSteer_parts (s : State) (c : Nat) (y fine : Int) (keep : Bool) : onlyParts [.regs, .chan] s (State.putSteer s c y fine keep) := by
  unfold State.putSteer
  try dsimp (proj := false) only
  repeat' (first | simp (disch := decide) only [↓onlyParts.self, ↓State.set_keeps, ↓State.setChan_keeps, ↓with_chan, ↓with_regs] | with_reducible (refine onlyParts.fold ?_ _ ?_) | with_reducible (refine onlyParts.foldSnd ?_ _ ?_) | (refine onlyParts.snd (by assumption) ?_) | split | (intro (_ : State) _; try dsimp (proj := false) only) | (intro (_ : _ × State) _; try dsimp (proj := false) only))
theorem State.putSteer_keeps {L₀ : List Part} {s₀ : State} (s : State) (c : Nat) (y fine : Int) (keep : Bool) (h₀ : [(.regs : Part), (.chan : Part)].all (L₀.contains ·) = true) : onlyParts L₀ s₀ (State.putSteer s c y fine keep) ↔ onlyParts L₀ s₀ s :=
  onlyParts.step (State.putSteer_parts s c y fine keep) h₀

theorem State.loopSteer_parts (s : State) (c : Nat) : onlyParts [.regs, .free, .chan] s (State.loopSteer s c) := by
  unfold State.loopSteer
  try dsimp (proj := false) only
  repeat' (first | simp (disch := decide) only [↓onlyParts.self, ↓State.draw_keeps, ↓State.putSteer_keeps, ↓State.setChan_keeps, ↓with_chan, ↓with_free, ↓with_regs] | with_reducible (refine onlyParts.fold ?_ _ ?_) | with_reducible (refine onlyParts.foldSnd ?_ _ ?_) | (refine onlyParts.snd (by assumption) ?_) | split | (intro (_ : State) _; try dsimp (proj := false) only) | (intro (_ : _ × State) _; try dsimp (proj := false) only))
theorem State.loopSteer_keeps {L₀ : List Part} {s₀ : State} (s : State) (c : Nat) (h₀ : [(.regs : Part), (.free : Part), (.chan : Part)].all (L₀.contains ·) = true) : onlyParts L₀ s₀ (State.loopSteer s c) ↔ onlyParts L₀ s₀ s :=
  onlyParts.step (State.loopSteer_parts s c) h₀

theorem State.sameSteer_parts (s : State) (c : Nat) : onlyParts [.regs, .chan] s (State.sameSteer s c) := by
  unfold State.sameSteer
  try dsimp (proj := false) only
  repeat' (first | simp (disch := decide) only [↓onlyParts.self, ↓State.putSteer_keeps, ↓with_chan, ↓with_regs] | with_reducible (refine onlyParts.fold ?_ _ ?_) | with_reducible (refine onlyParts.foldSnd ?_ _ ?_) | (refine onlyParts.snd (by assumption) ?_) | split | (intro (_ : State) _; try dsimp (proj := false) only) | (intro (_ : _ × State) _; try dsimp (proj := false) only))
theorem State.sameSteer_keeps {L₀ : List Part} {s₀ : State} (s : State) (c : Nat) (h₀ : [(.regs : Part), (.chan : Part)].all (L₀.contains ·) = true) : onlyParts L₀ s₀ (State.sameSteer s c) ↔ onlyParts L₀ s₀ s :=
  onlyParts.step (State.sameSteer_parts s c) h₀

theorem State.ownSteer_parts (s : State) (c : Nat) (y : Int) : onlyParts [.regs, .free, .chan] s (State.ownSteer s c y) := by
  unfold State.ownSteer
  try dsimp (proj := false) only
  repeat' (first | simp (disch := decide) only [↓onlyParts.self, ↓State.draw_keeps, ↓State.putSteer_keeps, ↓with_chan, ↓with_free, ↓with_regs] | with_reducible (refine onlyParts.fold ?_ _ ?_) | with_reducible (refine onlyParts.foldSnd ?_ _ ?_) | (refine onlyParts.snd (by assumption) ?_) | split | (intro (_ : State) _; try dsimp (proj := false) only) | (intro (_ : _ × State) _; try dsimp (proj := false) only))
theorem State.ownSteer_keeps {L₀ : List Part} {s₀ : State} (s : State) (c : Nat) (y : Int) (h₀ : [(.regs : Part), (.free : Part), (.chan : Part)].all (L₀.contains ·) = true) : onlyParts L₀ s₀ (State.ownSteer s c y) ↔ onlyParts L₀ s₀ s :=
  onlyParts.step (State.ownSteer_parts s c y) h₀

theorem State.steer_parts (s : State) (c : Nat) : onlyParts [.regs, .free, .chan] s (State.steer s c) := by
  unfold State.steer
  try dsimp (proj := false) only
  repeat' (first | simp (disch := decide) only [↓onlyParts.self, ↓State.loopSteer_keeps, ↓State.ownSteer_keeps, ↓State.putSteer_keeps, ↓State.sameSteer_keeps, ↓with_chan, ↓with_free, ↓with_regs] | with_reducible (refine onlyParts.fold ?_ _ ?_) | with_reducible (refine onlyParts.foldSnd ?_ _ ?_) | (refine onlyParts.snd (by assumption) ?_) | split | (intro (_ : State) _; try dsimp (proj := false) only) | (intro (_ : _ × State) _; try dsimp (proj := false) only))
theorem State.steer_keeps {L₀ : List Part} {s₀ : State} (s : State) (c : Nat) (h₀ : [(.regs : Part), (.free : Part), (.chan : Part)].all (L₀.contains ·) = true) : onlyParts L₀ s₀ (State.steer s c) ↔ onlyParts L₀ s₀ s :=
  onlyParts.step (State.steer_parts s c) h₀

theorem State.tbSteer_parts (s : State) (c : Nat) : onlyParts [.regs, .time, .chan] s (State.tbSteer s c) := by
  unfold State.tbSteer
  try dsimp (proj := false) only
  repeat' (first | simp (disch := decide) only [↓onlyParts.self, ↓State.incrNext_keeps, ↓State.raise_keeps, ↓State.setChan_keeps, ↓with_chan, ↓with_regs, ↓with_time] | with_reducible (refine onlyParts.fold ?_ _ ?_) | with_reducible (refine onlyParts.foldSnd ?_ _ ?_) | (refine onlyParts.snd (by assumption) ?_) | split | (intro (_ : State) _; try dsimp (proj := false) only) | (intro (_ : _ × State) _; try dsimp (proj := false) only))
theorem State.tbSteer_keeps {L₀ : List Part} {s₀ : State} (s : State) (c : Nat) (h₀ : [(.regs : Part), (.time : Part), (.chan : Part)].all (L₀.contains ·) = true) : onlyParts L₀ s₀ (State.tbSteer s c) ↔ onlyParts L₀ s₀ s :=
  onlyParts.step (State.tbSteer_parts s c) h₀

theorem State.phaseIs_parts (s : State) (c : Nat) (x : Int) : onlyParts [.regs] s (State.phaseIs s c x) := by
  unfold State.phaseIs
  try dsimp (proj := false) only
  repeat' (first | simp (disch := decide) only [↓onlyParts.self, ↓State.set_keeps, ↓with_regs] | with_reducible (refine onlyParts.fold ?_ _ ?_) | with_reducible (refine onlyParts.foldSnd ?_ _ ?_) | (refine onlyParts.snd (by assumption) ?_) | split | (intro (_ : State) _; try dsimp (proj := false) only) | (intro (_ : _ × State) _; try dsimp (proj := false) only))
theorem State.phaseIs_keeps {L₀ : List Part} {s₀ : State} (s : State) (c : Nat) (x : Int) (h₀ : [(.regs : Part)].all (L₀.contains ·) = true) : onlyParts L₀ s₀ (State.phaseIs s c x) ↔ onlyParts L₀ s₀ s :=
  onlyParts.step (State.phaseIs_parts s c x) h₀

theorem State.timeSample_parts (s : State) (c : Nat) : onlyParts [.regs] s (State.timeSample s c) := by
  unfold State.timeSample
  try dsimp (proj := false) only
  repeat' (first | simp (disch := decide) only [↓onlyParts.self, ↓State.phaseIs_keeps, ↓with_regs] | with_reducible (refine onlyParts.fold ?_ _ ?_) | with_reducible (refine onlyParts.foldSnd ?_ _ ?_) | (refine onlyParts.snd (by assumption) ?_) | split | (intro (_ : State) _; try dsimp (proj := false) only) | (intro (_ : _ × State) _; try dsimp (proj := false) only))
theorem State.timeSample_keeps {L₀ : List Part} {s₀ : State} (s : State) (c : Nat) (h₀ : [(.regs : Part)].all (L₀.contains ·) = true) : onlyParts L₀ s₀ (State.timeSample s c) ↔ onlyParts L₀ s₀ s :=
  onlyParts.step (State.timeSample_parts s c) h₀

theorem State.lockCheck_parts (s : State) (c : Nat) : onlyParts [.regs, .chan, .ou] s (State.lockCheck s c) := by
  unfold State.lockCheck
  try dsimp (proj := false) only
  repeat' (first | simp (disch := decide) only [↓onlyParts.self, ↓State.set_keeps, ↓State.setChan_keeps, ↓State.tcEnter_keeps, ↓with_chan, ↓with_ou, ↓with_regs] | with_reducible (refine onlyParts.fold ?_ _ ?_) | with_reducible (refine onlyParts.foldSnd ?_ _ ?_) | (refine onlyParts.snd (by assumption) ?_) | split | (intro (_ : State) _; try dsimp (proj := false) only) | (intro (_ : _ × State) _; try dsimp (proj := false) only))
theorem State.lockCheck_keeps {L₀ : List Part} {s₀ : State} (s : State) (c : Nat) (h₀ : [(.regs : Part), (.chan : Part), (.ou : Part)].all (L₀.contains ·) = true) : onlyParts L₀ s₀ (State.lockCheck s c) ↔ onlyParts L₀ s₀ s :=
  onlyParts.step (State.lockCheck_parts s c) h₀

theorem State.addToSecond_parts (s : State) (c : Nat) : onlyParts [.chan] s (State.addToSecond s c) := by
  unfold State.addToSecond
  try dsimp (proj := false) only
  repeat' (first | simp (disch := decide) only [↓onlyParts.self, ↓State.setChan_keeps, ↓with_chan] | with_reducible (refine onlyParts.fold ?_ _ ?_) | with_reducible (refine onlyParts.foldSnd ?_ _ ?_) | (refine onlyParts.snd (by assumption) ?_) | split | (intro (_ : State) _; try dsimp (proj := false) only) | (intro (_ : _ × State) _; try dsimp (proj := false) only))
theorem State.addToSecond_keeps {L₀ : List Part} {s₀ : State} (s : State) (c : Nat) (h₀ : [(.chan : Part)].all (L₀.contains ·) = true) : onlyParts L₀ s₀ (State.addToSecond s c) ↔ onlyParts L₀ s₀ s :=
  onlyParts.step (State.addToSecond_parts s c) h₀

theorem State.selectUpdate_parts (s : State) (c : Nat) : onlyParts [.regs, .chan, .ou] s (State.selectUpdate s c) := by
  unfold State.selectUpdate
  try dsimp (proj := false) only
  repeat' (first | simp (disch := decide) only [↓onlyParts.self, ↓State.select_keeps, ↓State.switchUpdate_keeps, ↓with_chan, ↓with_ou, ↓with_regs] | with_reducible (refine onlyParts.fold ?_ _ ?_) | with_reducible (refine onlyParts.foldSnd ?_ _ ?_) | (refine onlyParts.snd (by assumption) ?_) | split | (intro (_ : State) _; try dsimp (proj := false) only) | (intro (_ : _ × State) _; try dsimp (proj := false) only))
theorem State.selectUpdate_keeps {L₀ : List Part} {s₀ : State} (s : State) (c : Nat) (h₀ : [(.regs : Part), (.chan : Part), (.ou : Part)].all (L₀.contains ·) = true) : onlyParts L₀ s₀ (State.selectUpdate s c) ↔ onlyParts L₀ s₀ s :=
  onlyParts.step (State.selectUpdate_parts s c) h₀

theorem State.steerUpdate_parts (s : State) (c : Nat) : onlyParts [.regs, .free, .time, .chan] s (State.steerUpdate s c) := by
  unfold State.steerUpdate
  try dsimp (proj := false) only
  repeat' (first | simp (disch := decide) only [↓onlyParts.self, ↓State.addToSecond_keeps, ↓State.set_keeps, ↓State.setB_keeps, ↓State.steer_keeps, ↓State.tbSteer_keeps, ↓with_chan, ↓with_free, ↓with_regs, ↓with_time] | with_reducible (refine onlyParts.fold ?_ _ ?_) | with_reducible (refine onlyParts.foldSnd ?_ _ ?_) | (refine onlyParts.snd (by assumption) ?_) | split | (intro (_ : State) _; try dsimp (proj := false) only) | (intro (_ : _ × State) _; try dsimp (proj := false) only))
theorem State.steerUpdate_keeps {L₀ : List Part} {s₀ : State} (s : State) (c : Nat) (h₀ : [(.regs : Part), (.free : Part), (.time : Part), (.chan : Part)].all (L₀.contains ·) = true) : onlyParts L₀ s₀ (State.steerUpdate s c) ↔ onlyParts L₀ s₀ s :=
  onlyParts.step (State.steerUpdate_parts s c) h₀

theorem State.chanUpdate_parts (s : State) (c : Nat) (phase : Option Int) : onlyParts [.regs, .free, .time, .chan, .ou] s (State.chanUpdate s c phase) := by
  unfold State.chanUpdate
  try dsimp (proj := false) only
  repeat' (first | simp (disch := decide) only [↓onlyParts.self, ↓State.lockCheck_keeps, ↓State.phaseIs_keeps, ↓State.rampUpdate_keeps, ↓State.selectUpdate_keeps, ↓State.steerUpdate_keeps, ↓State.timeSample_keeps, ↓with_chan, ↓with_free, ↓with_ou, ↓with_regs, ↓with_time] | with_reducible (refine onlyParts.fold ?_ _ ?_) | with_reducible (refine onlyParts.foldSnd ?_ _ ?_) | (refine onlyParts.snd (by assumption) ?_) | split | (intro (_ : State) _; try dsimp (proj := false) only) | (intro (_ : _ × State) _; try dsimp (proj := false) only))
theorem State.chanUpdate_keeps {L₀ : List Part} {s₀ : State} (s : State) (c : Nat) (phase : Option Int) (h₀ : [(.regs : Part), (.free : Part), (.time : Part), (.chan : Part), (.ou : Part)].all (L₀.contains ·) = true) : onlyParts L₀ s₀ (State.chanUpdate s c phase) ↔ onlyParts L₀ s₀ s :=
  onlyParts.step (State.chanUpdate_parts s c phase) h₀

theorem State.absorb_parts (s : State) (c : Nat) (ofs : Int) : onlyParts [.regs, .chan] s (State.absorb s c ofs) := by
  unfold State.absorb
  try dsimp (proj := false) only
  repeat' (first | simp (disch := decide) only [↓onlyParts.self, ↓State.set_keeps, ↓State.setB_keeps, ↓State.setChan_keeps, ↓with_chan, ↓with_regs] | with_reducible (refine onlyParts.fold ?_ _ ?_) | with_reducible (refine onlyParts.foldSnd ?_ _ ?_) | (refine onlyParts.snd (by assumption) ?_) | split | (intro (_ : State) _; try dsimp (proj := false) only) | (intro (_ : _ × State) _; try dsimp (proj := false) only))
theorem State.absorb_keeps {L₀ : List Part} {s₀ : State} (s : State) (c : Nat) (ofs : Int) (h₀ : [(.regs : Part), (.chan : Part)].all (L₀.contains ·) = true) : onlyParts L₀ s₀ (State.absorb s c ofs) ↔ onlyParts L₀ s₀ s :=
  onlyParts.step (State.absorb_parts s c ofs) h₀

theorem State.place325_parts (s : State) (c : Nat) : onlyParts [.chan] s (State.place325 s c) := by
  unfold State.place325
  try dsimp (proj := false) only
  repeat' (first | simp (disch := decide) only [↓onlyParts.self, ↓State.setChan_keeps, ↓with_chan] | with_reducible (refine onlyParts.fold ?_ _ ?_) | with_reducible (refine onlyParts.foldSnd ?_ _ ?_) | (refine onlyParts.snd (by assumption) ?_) | split | (intro (_ : State) _; try dsimp (proj := false) only) | (intro (_ : _ × State) _; try dsimp (proj := false) only))
theorem State.place325_keeps {L₀ : List Part} {s₀ : State} (s : State) (c : Nat) (h₀ : [(.chan : Part)].all (L₀.contains ·) = true) : onlyParts L₀ s₀ (State.place325 s c) ↔ onlyParts L₀ s₀ s :=
  onlyParts.step (State.place325_parts s c) h₀

theorem State.judge_parts (s : State) (c r : Nat) (d : Int) : onlyParts [.regs, .time, .chan] s (State.judge s c r d) := by
  unfold State.judge
  try dsimp (proj := false) only
  repeat' (first | simp (disch := decide) only [↓onlyParts.self, ↓State.put_keeps, ↓State.set_keeps, ↓State.setStatus_keeps, ↓with_chan, ↓with_regs, ↓with_time] | with_reducible (refine onlyParts.fold ?_ _ ?_) | with_reducible (refine onlyParts.foldSnd ?_ _ ?_) | (refine onlyParts.snd (by assumption) ?_) | split | (intro (_ : State) _; try dsimp (proj := false) only) | (intro (_ : _ × State) _; try dsimp (proj := false) only))
theorem State.judge_keeps {L₀ : List Part} {s₀ : State} (s : State) (c r : Nat) (d : Int) (h₀ : [(.regs : Part), (.time : Part), (.chan : Part)].all (L₀.contains ·) = true) : onlyParts L₀ s₀ (State.judge s c r d) ↔ onlyParts L₀ s₀ s :=
  onlyParts.step (State.judge_parts s c r d) h₀

theorem State.monitor_parts (s : State) (c : Nat) : onlyParts [.regs, .time, .chan] s (State.monitor s c) := by
  unfold State.monitor
  try dsimp (proj := false) only
  repeat' (first | simp (disch := decide) only [↓onlyParts.self, ↓State.judge_keeps, ↓with_chan, ↓with_regs, ↓with_time] | with_reducible (refine onlyParts.fold ?_ _ ?_) | with_reducible (refine onlyParts.foldSnd ?_ _ ?_) | (refine onlyParts.snd (by assumption) ?_) | split | (intro (_ : State) _; try dsimp (proj := false) only) | (intro (_ : _ × State) _; try dsimp (proj := false) only))
theorem State.monitor_keeps {L₀ : List Part} {s₀ : State} (s : State) (c : Nat) (h₀ : [(.regs : Part), (.time : Part), (.chan : Part)].all (L₀.contains ·) = true) : onlyParts L₀ s₀ (State.monitor s c) ↔ onlyParts L₀ s₀ s :=
  onlyParts.step (State.monitor_parts s c) h₀

theorem State.qualified_parts (s : State) (c r : Nat) : onlyParts [.time] s (State.qualified s c r) := by
  unfold State.qualified
  try dsimp (proj := false) only
  repeat' (first | simp (disch := decide) only [↓onlyParts.self, ↓with_time] | with_reducible (refine onlyParts.fold ?_ _ ?_) | with_reducible (refine onlyParts.foldSnd ?_ _ ?_) | (refine onlyParts.snd (by assumption) ?_) | split | (intro (_ : State) _; try dsimp (proj := false) only) | (intro (_ : _ × State) _; try dsimp (proj := false) only))
theorem State.qualified_keeps {L₀ : List Part} {s₀ : State} (s : State) (c r : Nat) (h₀ : [(.time : Part)].all (L₀.contains ·) = true) : onlyParts L₀ s₀ (State.qualified s c r) ↔ onlyParts L₀ s₀ s :=
  onlyParts.step (State.qualified_parts s c r) h₀

theorem State.rampSegment_parts (s : State) (c : Nat) (r : Ramp) (i : Nat) : onlyParts [.regs, .chan, .ou] s (State.rampSegment s c r i) := by
  unfold State.rampSegment
  try dsimp (proj := false) only
  repeat' (first | simp (disch := decide) only [↓onlyParts.self, ↓State.rampEnd_keeps, ↓State.rampStat_keeps, ↓State.setChan_keeps, ↓with_chan, ↓with_ou, ↓with_regs] | with_reducible (refine onlyParts.fold ?_ _ ?_) | with_reducible (refine onlyParts.foldSnd ?_ _ ?_) | (refine onlyParts.snd (by assumption) ?_) | split | (intro (_ : State) _; try dsimp (proj := false) only) | (intro (_ : _ × State) _; try dsimp (proj := false) only))
theorem State.rampSegment_keeps {L₀ : List Part} {s₀ : State} (s : State) (c : Nat) (r : Ramp) (i : Nat) (h₀ : [(.regs : Part), (.chan : Part), (.ou : Part)].all (L₀.contains ·) = true) : onlyParts L₀ s₀ (State.rampSegment s c r i) ↔ onlyParts L₀ s₀ s :=
  onlyParts.step (State.rampSegment_parts s c r i) h₀

theorem State.tcConfigure_parts (s : State) (c : Nat) (b : Bytes) : onlyParts [.regs, .pend] s (State.tcConfigure s c b) := by
  unfold State.tcConfigure
  try dsimp (proj := false) only
  repeat' (first | simp (disch := decide) only [↓onlyParts.self, ↓State.put_keeps, ↓State.putW_keeps, ↓with_pend, ↓with_regs] | with_reducible (refine onlyParts.fold ?_ _ ?_) | with_reducible (refine onlyParts.foldSnd ?_ _ ?_) | (refine onlyParts.snd (by assumption) ?_) | split | (intro (_ : State) _; try dsimp (proj := false) only) | (intro (_ : _ × State) _; try dsimp (proj := false) only))
theorem State.tcConfigure_keeps {L₀ : List Part} {s₀ : State} (s : State) (c : Nat) (b : Bytes) (h₀ : [(.regs : Part), (.pend : Part)].all (L₀.contains ·) = true) : onlyParts L₀ s₀ (State.tcConfigure s c b) ↔ onlyParts L₀ s₀ s :=
  onlyParts.step (State.tcConfigure_parts s c b) h₀

theorem State.portSetQl_parts (s : State) (p q : Nat) : onlyParts [.regs, .pend, .free, .sent, .bw, .sc, .esmc] s (State.portSetQl s p q) := by
  unfold State.portSetQl
  try dsimp (proj := false) only
  repeat' (first | simp (disch := decide) only [↓onlyParts.self, ↓State.esmcCheck_keeps, ↓State.setQl_keeps, ↓with_bw, ↓with_esmc, ↓with_free, ↓with_pend, ↓with_regs, ↓with_sc, ↓with_sent] | with_reducible (refine onlyParts.fold ?_ _ ?_) | with_reducible (refine onlyParts.foldSnd ?_ _ ?_) | (refine onlyParts.snd (by assumption) ?_) | split | (intro (_ : State) _; try dsimp (proj := false) only) | (intro (_ : _ × State) _; try dsimp (proj := false) only))
theorem State.portSetQl_keeps {L₀ : List Part} {s₀ : State} (s : State) (p q : Nat) (h₀ : [(.regs : Part), (.pend : Part), (.free : Part), (.sent : Part), (.bw : Part), (.sc : Part), (.esmc : Part)].all (L₀.contains ·) = true) : onlyParts L₀ s₀ (State.portSetQl s p q) ↔ onlyParts L₀ s₀ s :=
  onlyParts.step (State.portSetQl_parts s p q) h₀

theorem State.setLive_parts (s : State) (t : Nat) (b : Option BinSet) : onlyParts [.regs, .tdc] s (State.setLive s t b) := by
  unfold State.setLive
  try dsimp (proj := false) only
  repeat' (first | simp (disch := decide) only [↓onlyParts.self, ↓State.setB_keeps, ↓State.setBins_keeps, ↓with_regs, ↓with_tdc] | with_reducible (refine onlyParts.fold ?_ _ ?_) | with_reducible (refine onlyParts.foldSnd ?_ _ ?_) | (refine onlyParts.snd (by assumption) ?_) | split | (intro (_ : State) _; try dsimp (proj := false) only) | (intro (_ : _ × State) _; try dsimp (proj := false) only))
theorem State.setLive_keeps {L₀ : List Part} {s₀ : State} (s : State) (t : Nat) (b : Option BinSet) (h₀ : [(.regs : Part), (.tdc : Part)].all (L₀.contains ·) = true) : onlyParts L₀ s₀ (State.setLive s t b) ↔ onlyParts L₀ s₀ s :=
  onlyParts.step (State.setLive_parts s t b) h₀

theorem State.storeBins_parts (s : State) (t : Nat) (b : BinSet) : onlyParts [.regs, .tdc] s (State.storeBins s t b) := by
  unfold State.storeBins
  try dsimp (proj := false) only
  repeat' (first | simp (disch := decide) only [↓onlyParts.self, ↓State.setBins_keeps, ↓State.setLive_keeps, ↓with_regs, ↓with_tdc] | with_reducible (refine onlyParts.fold ?_ _ ?_) | with_reducible (refine onlyParts.foldSnd ?_ _ ?_) | (refine onlyParts.snd (by assumption) ?_) | split | (intro (_ : State) _; try dsimp (proj := false) only) | (intro (_ : _ × State) _; try dsimp (proj := false) only))
theorem State.storeBins_keeps {L₀ : List Part} {s₀ : State} (s : State) (t : Nat) (b : BinSet) (h₀ : [(.regs : Part), (.tdc : Part)].all (L₀.contains ·) = true) : onlyParts L₀ s₀ (State.storeBins s t b) ↔ onlyParts L₀ s₀ s :=
  onlyParts.step (State.storeBins_parts s t b) h₀

theorem State.suspectSet_parts (s : State) (cause : FRef) : onlyParts [.regs, .time] s (State.suspectSet s cause) := by
  unfold State.suspectSet
  try dsimp (proj := false) only
  repeat' (first | simp (disch := decide) only [↓onlyParts.self, ↓State.raise_keeps, ↓with_regs, ↓with_time] | with_reducible (refine onlyParts.fold ?_ _ ?_) | with_reducible (refine onlyParts.foldSnd ?_ _ ?_) | (refine onlyParts.snd (by assumption) ?_) | split | (intro (_ : State) _; try dsimp (proj := false) only) | (intro (_ : _ × State) _; try dsimp (proj := false) only))
theorem State.suspectSet_keeps {L₀ : List Part} {s₀ : State} (s : State) (cause : FRef) (h₀ : [(.regs : Part), (.time : Part)].all (L₀.contains ·) = true) : onlyParts L₀ s₀ (State.suspectSet s cause) ↔ onlyParts L₀ s₀ s :=
  onlyParts.step (State.suspectSet_parts s cause) h₀

theorem State.setTod_parts (s : State) (x : Tod) : onlyParts [.tod] s (State.setTod s x) := by
  unfold State.setTod
  try dsimp (proj := false) only
  repeat' (first | simp (disch := decide) only [↓onlyParts.self, ↓with_tod] | with_reducible (refine onlyParts.fold ?_ _ ?_) | with_reducible (refine onlyParts.foldSnd ?_ _ ?_) | (refine onlyParts.snd (by assumption) ?_) | split | (intro (_ : State) _; try dsimp (proj := false) only) | (intro (_ : _ × State) _; try dsimp (proj := false) only))
theorem State.setTod_keeps {L₀ : List Part} {s₀ : State} (s : State) (x : Tod) (h₀ : [(.tod : Part)].all (L₀.contains ·) = true) : onlyParts L₀ s₀ (State.setTod s x) ↔ onlyParts L₀ s₀ s :=
  onlyParts.step (State.setTod_parts s x) h₀

theorem State.todOffer_parts (s : State) : onlyParts [.regs, .time, .chan] s (State.todOffer s) := by
  unfold State.todOffer
  try dsimp (proj := false) only
  repeat' (first | simp (disch := decide) only [↓onlyParts.self, ↓State.refLoss_keeps, ↓State.refReturn_keeps, ↓with_chan, ↓with_regs, ↓with_time] | with_reducible (refine onlyParts.fold ?_ _ ?_) | with_reducible (refine onlyParts.foldSnd ?_ _ ?_) | (refine onlyParts.snd (by assumption) ?_) | split | (intro (_ : State) _; try dsimp (proj := false) only) | (intro (_ : _ × State) _; try dsimp (proj := false) only))
theorem State.todOffer_keeps {L₀ : List Part} {s₀ : State} (s : State) (h₀ : [(.regs : Part), (.time : Part), (.chan : Part)].all (L₀.contains ·) = true) : onlyParts L₀ s₀ (State.todOffer s) ↔ onlyParts L₀ s₀ s :=
  onlyParts.step (State.todOffer_parts s) h₀

theorem State.todApply_parts (s : State) : onlyParts [.regs, .time, .chan, .tod] s (State.todApply s) := by
  unfold State.todApply
  try dsimp (proj := false) only
  repeat' (first | simp (disch := decide) only [↓onlyParts.self, ↓State.set_keeps, ↓State.setTod_keeps, ↓State.todOffer_keeps, ↓with_chan, ↓with_regs, ↓with_time, ↓with_tod] | with_reducible (refine onlyParts.fold ?_ _ ?_) | with_reducible (refine onlyParts.foldSnd ?_ _ ?_) | (refine onlyParts.snd (by assumption) ?_) | split | (intro (_ : State) _; try dsimp (proj := false) only) | (intro (_ : _ × State) _; try dsimp (proj := false) only))
theorem State.todApply_keeps {L₀ : List Part} {s₀ : State} (s : State) (h₀ : [(.regs : Part), (.time : Part), (.chan : Part), (.tod : Part)].all (L₀.contains ·) = true) : onlyParts L₀ s₀ (State.todApply s) ↔ onlyParts L₀ s₀ s :=
  onlyParts.step (State.todApply_parts s) h₀

theorem State.todDisq_parts (s : State) : onlyParts [.regs, .time, .chan, .tod] s (State.todDisq s) := by
  unfold State.todDisq
  try dsimp (proj := false) only
  repeat' (first | simp (disch := decide) only [↓onlyParts.self, ↓State.raise_keeps, ↓State.set_keeps, ↓State.setTod_keeps, ↓State.todOffer_keeps, ↓with_chan, ↓with_regs, ↓with_time, ↓with_tod] | with_reducible (refine onlyParts.fold ?_ _ ?_) | with_reducible (refine onlyParts.foldSnd ?_ _ ?_) | (refine onlyParts.snd (by assumption) ?_) | split | (intro (_ : State) _; try dsimp (proj := false) only) | (intro (_ : _ × State) _; try dsimp (proj := false) only))
theorem State.todDisq_keeps {L₀ : List Part} {s₀ : State} (s : State) (h₀ : [(.regs : Part), (.time : Part), (.chan : Part), (.tod : Part)].all (L₀.contains ·) = true) : onlyParts L₀ s₀ (State.todDisq s) ↔ onlyParts L₀ s₀ s :=
  onlyParts.step (State.todDisq_parts s) h₀

theorem State.todLasting_parts (s : State) : onlyParts [.regs, .hl, .time, .chan, .tod] s (State.todLasting s) := by
  unfold State.todLasting
  try dsimp (proj := false) only
  repeat' (first | simp (disch := decide) only [↓onlyParts.self, ↓State.hlLasting_keeps, ↓State.setTod_keeps, ↓State.todDisq_keeps, ↓with_chan, ↓with_hl, ↓with_regs, ↓with_time, ↓with_tod] | with_reducible (refine onlyParts.fold ?_ _ ?_) | with_reducible (refine onlyParts.foldSnd ?_ _ ?_) | (refine onlyParts.snd (by assumption) ?_) | split | (intro (_ : State) _; try dsimp (proj := false) only) | (intro (_ : _ × State) _; try dsimp (proj := false) only))
theorem State.todLasting_keeps {L₀ : List Part} {s₀ : State} (s : State) (h₀ : [(.regs : Part), (.hl : Part), (.time : Part), (.chan : Part), (.tod : Part)].all (L₀.contains ·) = true) : onlyParts L₀ s₀ (State.todLasting s) ↔ onlyParts L₀ s₀ s :=
  onlyParts.step (State.todLasting_parts s) h₀

theorem State.todBad_parts (s : State) : onlyParts [.regs, .hl, .time, .chan, .tod] s (State.todBad s) := by
  unfold State.todBad
  try dsimp (proj := false) only
  repeat' (first | simp (disch := decide) only [↓onlyParts.self, ↓State.inc_keeps, ↓State.setTod_keeps, ↓State.todLasting_keeps, ↓with_chan, ↓with_hl, ↓with_regs, ↓with_time, ↓with_tod] | with_reducible (refine onlyParts.fold ?_ _ ?_) | with_reducible (refine onlyParts.foldSnd ?_ _ ?_) | (refine onlyParts.snd (by assumption) ?_) | split | (intro (_ : State) _; try dsimp (proj := false) only) | (intro (_ : _ × State) _; try dsimp (proj := false) only))
theorem State.todBad_keeps {L₀ : List Part} {s₀ : State} (s : State) (h₀ : [(.regs : Part), (.hl : Part), (.time : Part), (.chan : Part), (.tod : Part)].all (L₀.contains ·) = true) : onlyParts L₀ s₀ (State.todBad s) ↔ onlyParts L₀ s₀ s :=
  onlyParts.step (State.todBad_parts s) h₀

theorem State.todDiff_parts (s : State) (d : Int) : onlyParts [.regs, .time, .tod] s (State.todDiff s d) := by
  unfold State.todDiff
  try dsimp (proj := false) only
  repeat' (first | simp (disch := decide) only [↓onlyParts.self, ↓State.inc_keeps, ↓State.raise_keeps, ↓State.set_keeps, ↓State.setTod_keeps, ↓State.stepNext_keeps, ↓with_regs, ↓with_time, ↓with_tod] | with_reducible (refine onlyParts.fold ?_ _ ?_) | with_reducible (refine onlyParts.foldSnd ?_ _ ?_) | (refine onlyParts.snd (by assumption) ?_) | split | (intro (_ : State) _; try dsimp (proj := false) only) | (intro (_ : _ × State) _; try dsimp (proj := false) only))
theorem State.todDiff_keeps {L₀ : List Part} {s₀ : State} (s : State) (d : Int) (h₀ : [(.regs : Part), (.time : Part), (.tod : Part)].all (L₀.contains ·) = true) : onlyParts L₀ s₀ (State.todDiff s d) ↔ onlyParts L₀ s₀ s :=
  onlyParts.step (State.todDiff_parts s d) h₀

theorem State.todGood_parts (s : State) (d : Int) : onlyParts [.regs, .hl, .time, .chan, .tod] s (State.todGood s d) := by
  unfold State.todGood
  try dsimp (proj := false) only
  repeat' (first | simp (disch := decide) only [↓onlyParts.self, ↓State.hlTransient_keeps, ↓State.raise_keeps, ↓State.set_keeps, ↓State.setTod_keeps, ↓State.todDiff_keeps, ↓State.todDisq_keeps, ↓State.todOffer_keeps, ↓with_chan, ↓with_hl, ↓with_regs, ↓with_time, ↓with_tod] | with_reducible (refine onlyParts.fold ?_ _ ?_) | with_reducible (refine onlyParts.foldSnd ?_ _ ?_) | (refine onlyParts.snd (by assumption) ?_) | split | (intro (_ : State) _; try dsimp (proj := false) only) | (intro (_ : _ × State) _; try dsimp (proj := false) only))
theorem State.todGood_keeps {L₀ : List Part} {s₀ : State} (s : State) (d : Int) (h₀ : [(.regs : Part), (.hl : Part), (.time : Part), (.chan : Part), (.tod : Part)].all (L₀.contains ·) = true) : onlyParts L₀ s₀ (State.todGood s d) ↔ onlyParts L₀ s₀ s :=
  onlyParts.step (State.todGood_parts s d) h₀

theorem State.partnerAbsent_parts (s : State) : onlyParts [.regs, .free, .sent, .mbox, .mp, .bw, .sc, .time, .chan, .ou, .tw] s (State.partnerAbsent s) := by
  unfold State.partnerAbsent
  try dsimp (proj := false) only
  repeat' (first | simp (disch := decide) only [↓onlyParts.self, ↓State.raise_keeps, ↓State.set_keeps, ↓State.takeRole_keeps, ↓State.twEnter_keeps, ↓State.twWith_keeps, ↓with_bw, ↓with_chan, ↓with_free, ↓with_mbox, ↓with_mp, ↓with_ou, ↓with_regs, ↓with_sc, ↓with_sent, ↓with_time, ↓with_tw] | with_reducible (refine onlyParts.fold ?_ _ ?_) | with_reducible (refine onlyParts.foldSnd ?_ _ ?_) | (refine onlyParts.snd (by assumption) ?_) | split | (intro (_ : State) _; try dsimp (proj := false) only) | (intro (_ : _ × State) _; try dsimp (proj := false) only))
theorem State.partnerAbsent_keeps {L₀ : List Part} {s₀ : State} (s : State) (h₀ : [(.regs : Part), (.free : Part), (.sent : Part), (.mbox : Part), (.mp : Part), (.bw : Part), (.sc : Part), (.time : Part), (.chan : Part), (.ou : Part), (.tw : Part)].all (L₀.contains ·) = true) : onlyParts L₀ s₀ (State.partnerAbsent s) ↔ onlyParts L₀ s₀ s :=
  onlyParts.step (State.partnerAbsent_parts s) h₀

theorem State.absentCheck_parts (s : State) : onlyParts [.regs, .free, .sent, .mbox, .mp, .bw, .sc, .time, .chan, .ou, .tw] s (State.absentCheck s) := by
  unfold State.absentCheck
  try dsimp (proj := false) only
  repeat' (first | simp (disch := decide) only [↓onlyParts.self, ↓State.partnerAbsent_keeps, ↓with_bw, ↓with_chan, ↓with_free, ↓with_mbox, ↓with_mp, ↓with_ou, ↓with_regs, ↓with_sc, ↓with_sent, ↓with_time, ↓with_tw] | with_reducible (refine onlyParts.fold ?_ _ ?_) | with_reducible (refine onlyParts.foldSnd ?_ _ ?_) | (refine onlyParts.snd (by assumption) ?_) | split | (intro (_ : State) _; try dsimp (proj := false) only) | (intro (_ : _ × State) _; try dsimp (proj := false) only))
theorem State.absentCheck_keeps {L₀ : List Part} {s₀ : State} (s : State) (h₀ : [(.regs : Part), (.free : Part), (.sent : Part), (.mbox : Part), (.mp : Part), (.bw : Part), (.sc : Part), (.time : Part), (.chan : Part), (.ou : Part), (.tw : Part)].all (L₀.contains ·) = true) : onlyParts L₀ s₀ (State.absentCheck s) ↔ onlyParts L₀ s₀ s :=
  onlyParts.step (State.absentCheck_parts s) h₀

theorem State.splitBrain_parts (s : State) : onlyParts [.regs, .free, .sent, .mbox, .mp, .bw, .sc, .ft, .ou, .tw] s (State.splitBrain s) := by
  unfold State.splitBrain
  try dsimp (proj := false) only
  repeat' (first | simp (disch := decide) only [↓onlyParts.self, ↓State.galSend_keeps, ↓State.giveRole_keeps, ↓State.raise_keeps, ↓with_bw, ↓with_free, ↓with_ft, ↓with_mbox, ↓with_mp, ↓with_ou, ↓with_regs, ↓with_sc, ↓with_sent, ↓with_tw] | with_reducible (refine onlyParts.fold ?_ _ ?_) | with_reducible (refine onlyParts.foldSnd ?_ _ ?_) | (refine onlyParts.snd (by assumption) ?_) | split | (intro (_ : State) _; try dsimp (proj := false) only) | (intro (_ : _ × State) _; try dsimp (proj := false) only))
theorem State.splitBrain_keeps {L₀ : List Part} {s₀ : State} (s : State) (h₀ : [(.regs : Part), (.free : Part), (.sent : Part), (.mbox : Part), (.mp : Part), (.bw : Part), (.sc : Part), (.ft : Part), (.ou : Part), (.tw : Part)].all (L₀.contains ·) = true) : onlyParts L₀ s₀ (State.splitBrain s) ↔ onlyParts L₀ s₀ s :=
  onlyParts.step (State.splitBrain_parts s) h₀

theorem State.standbyCheck_parts (s : State) : onlyParts [.regs, .ou] s (State.standbyCheck s) := by
  unfold State.standbyCheck
  try dsimp (proj := false) only
  repeat' (first | simp (disch := decide) only [↓onlyParts.self, ↓State.twEnter_keeps, ↓with_ou, ↓with_regs] | with_reducible (refine onlyParts.fold ?_ _ ?_) | with_reducible (refine onlyParts.foldSnd ?_ _ ?_) | (refine onlyParts.snd (by assumption) ?_) | split | (intro (_ : State) _; try dsimp (proj := false) only) | (intro (_ : _ × State) _; try dsimp (proj := false) only))
theorem State.standbyCheck_keeps {L₀ : List Part} {s₀ : State} (s : State) (h₀ : [(.regs : Part), (.ou : Part)].all (L₀.contains ·) = true) : onlyParts L₀ s₀ (State.standbyCheck s) ↔ onlyParts L₀ s₀ s :=
  onlyParts.step (State.standbyCheck_parts s) h₀

theorem State.galHeard_parts (s : State) (f : GalFrame) : onlyParts [.regs, .ft, .ou, .tw] s (State.galHeard s f) := by
  unfold State.galHeard
  try dsimp (proj := false) only
  repeat' (first | simp (disch := decide) only [↓onlyParts.self, ↓State.enterFaulted_keeps, ↓State.enterSyncing_keeps, ↓State.resyncBegin_keeps, ↓State.set_keeps, ↓State.setB_keeps, ↓State.twEnter_keeps, ↓State.twWith_keeps, ↓with_ft, ↓with_ou, ↓with_regs, ↓with_tw] | with_reducible (refine onlyParts.fold ?_ _ ?_) | with_reducible (refine onlyParts.foldSnd ?_ _ ?_) | (refine onlyParts.snd (by assumption) ?_) | split | (intro (_ : State) _; try dsimp (proj := false) only) | (intro (_ : _ × State) _; try dsimp (proj := false) only))
theorem State.galHeard_keeps {L₀ : List Part} {s₀ : State} (s : State) (f : GalFrame) (h₀ : [(.regs : Part), (.ft : Part), (.ou : Part), (.tw : Part)].all (L₀.contains ·) = true) : onlyParts L₀ s₀ (State.galHeard s f) ↔ onlyParts L₀ s₀ s :=
  onlyParts.step (State.galHeard_parts s f) h₀

theorem State.pxCopy_parts (s : State) (x : GalState) : onlyParts [.regs] s (State.pxCopy s x) := by
  unfold State.pxCopy
  try dsimp (proj := false) only
  repeat' (first | simp (disch := decide) only [↓onlyParts.self, ↓State.set_keeps, ↓State.setB_keeps, ↓State.wr64_keeps, ↓with_regs] | with_reducible (refine onlyParts.fold ?_ _ ?_) | with_reducible (refine onlyParts.foldSnd ?_ _ ?_) | (refine onlyParts.snd (by assumption) ?_) | split | (intro (_ : State) _; try dsimp (proj := false) only) | (intro (_ : _ × State) _; try dsimp (proj := false) only))
theorem State.pxCopy_keeps {L₀ : List Part} {s₀ : State} (s : State) (x : GalState) (h₀ : [(.regs : Part)].all (L₀.contains ·) = true) : onlyParts L₀ s₀ (State.pxCopy s x) ↔ onlyParts L₀ s₀ s :=
  onlyParts.step (State.pxCopy_parts s x) h₀

theorem State.syncChannel_parts (s : State) (c : Nat) (g : GalChan) (y delta : Int) : onlyParts [.regs, .free, .chan, .ou] s (State.syncChannel s c g y delta) := by
  unfold State.syncChannel
  try dsimp (proj := false) only
  repeat' (first | simp (disch := decide) only [↓onlyParts.self, ↓State.draw_keeps, ↓State.set_keeps, ↓State.setChan_keeps, ↓State.switchTo_keeps, ↓with_chan, ↓with_free, ↓with_ou, ↓with_regs] | with_reducible (refine onlyParts.fold ?_ _ ?_) | with_reducible (refine onlyParts.foldSnd ?_ _ ?_) | (refine onlyParts.snd (by assumption) ?_) | split | (intro (_ : State) _; try dsimp (proj := false) only) | (intro (_ : _ × State) _; try dsimp (proj := false) only))
theorem State.syncChannel_keeps {L₀ : List Part} {s₀ : State} (s : State) (c : Nat) (g : GalChan) (y delta : Int) (h₀ : [(.regs : Part), (.free : Part), (.chan : Part), (.ou : Part)].all (L₀.contains ·) = true) : onlyParts L₀ s₀ (State.syncChannel s c g y delta) ↔ onlyParts L₀ s₀ s :=
  onlyParts.step (State.syncChannel_parts s c g y delta) h₀

theorem State.syncFirst_parts (s : State) (x : GalState) (coarse delta : Int) : onlyParts [.regs, .pend, .free, .time, .chan, .ou, .tw] s (State.syncFirst s x coarse delta) := by
  unfold State.syncFirst
  try dsimp (proj := false) only
  repeat' (first | simp (disch := decide) only [↓onlyParts.self, ↓State.draw_keeps, ↓State.refReturn_keeps, ↓State.setQl_keeps, ↓State.stepNext_keeps, ↓State.syncChannel_keeps, ↓State.twWith_keeps, ↓with_chan, ↓with_free, ↓with_ou, ↓with_pend, ↓with_regs, ↓with_time, ↓with_tw] | with_reducible (refine onlyParts.fold ?_ _ ?_) | with_reducible (refine onlyParts.foldSnd ?_ _ ?_) | (refine onlyParts.snd (by assumption) ?_) | split | (intro (_ : State) _; try dsimp (proj := false) only) | (intro (_ : _ × State) _; try dsimp (proj := false) only))
theorem State.syncFirst_keeps {L₀ : List Part} {s₀ : State} (s : State) (x : GalState) (coarse delta : Int) (h₀ : [(.regs : Part), (.pend : Part), (.free : Part), (.time : Part), (.chan : Part), (.ou : Part), (.tw : Part)].all (L₀.contains ·) = true) : onlyParts L₀ s₀ (State.syncFirst s x coarse delta) ↔ onlyParts L₀ s₀ s :=
  onlyParts.step (State.syncFirst_parts s x coarse delta) h₀

theorem State.copyRecord_parts (s : State) (c : Nat) (r : HoRec) (delta : Int) : onlyParts [.regs, .chan] s (State.copyRecord s c r delta) := by
  unfold State.copyRecord
  try dsimp (proj := false) only
  repeat' (first | simp (disch := decide) only [↓onlyParts.self, ↓State.histStat_keeps, ↓State.setChan_keeps, ↓with_chan, ↓with_regs] | with_reducible (refine onlyParts.fold ?_ _ ?_) | with_reducible (refine onlyParts.foldSnd ?_ _ ?_) | (refine onlyParts.snd (by assumption) ?_) | split | (intro (_ : State) _; try dsimp (proj := false) only) | (intro (_ : _ × State) _; try dsimp (proj := false) only))
theorem State.copyRecord_keeps {L₀ : List Part} {s₀ : State} (s : State) (c : Nat) (r : HoRec) (delta : Int) (h₀ : [(.regs : Part), (.chan : Part)].all (L₀.contains ·) = true) : onlyParts L₀ s₀ (State.copyRecord s c r delta) ↔ onlyParts L₀ s₀ s :=
  onlyParts.step (State.copyRecord_parts s c r delta) h₀

theorem State.copyChannel_parts (s : State) (c : Nat) (g : GalChan) (delta : Int) : onlyParts [.regs, .chan] s (State.copyChannel s c g delta) := by
  unfold State.copyChannel
  try dsimp (proj := false) only
  repeat' (first | simp (disch := decide) only [↓onlyParts.self, ↓State.copyRecord_keeps, ↓State.setChan_keeps, ↓with_chan, ↓with_regs] | with_reducible (refine onlyParts.fold ?_ _ ?_) | with_reducible (refine onlyParts.foldSnd ?_ _ ?_) | (refine onlyParts.snd (by assumption) ?_) | split | (intro (_ : State) _; try dsimp (proj := false) only) | (intro (_ : _ × State) _; try dsimp (proj := false) only))
theorem State.copyChannel_keeps {L₀ : List Part} {s₀ : State} (s : State) (c : Nat) (g : GalChan) (delta : Int) (h₀ : [(.regs : Part), (.chan : Part)].all (L₀.contains ·) = true) : onlyParts L₀ s₀ (State.copyChannel s c g delta) ↔ onlyParts L₀ s₀ s :=
  onlyParts.step (State.copyChannel_parts s c g delta) h₀

theorem State.takeDelta_parts (s : State) (delta : Option Int) : onlyParts [.regs, .tw] s (State.takeDelta s delta) := by
  unfold State.takeDelta
  try dsimp (proj := false) only
  repeat' (first | simp (disch := decide) only [↓onlyParts.self, ↓State.set_keeps, ↓State.twWith_keeps, ↓with_regs, ↓with_tw] | with_reducible (refine onlyParts.fold ?_ _ ?_) | with_reducible (refine onlyParts.foldSnd ?_ _ ?_) | (refine onlyParts.snd (by assumption) ?_) | split | (intro (_ : State) _; try dsimp (proj := false) only) | (intro (_ : _ × State) _; try dsimp (proj := false) only))
theorem State.takeDelta_keeps {L₀ : List Part} {s₀ : State} (s : State) (delta : Option Int) (h₀ : [(.regs : Part), (.tw : Part)].all (L₀.contains ·) = true) : onlyParts L₀ s₀ (State.takeDelta s delta) ↔ onlyParts L₀ s₀ s :=
  onlyParts.step (State.takeDelta_parts s delta) h₀

theorem State.digestCheck_parts (s : State) (x : GalState) : onlyParts [.regs, .ft, .ou, .tw] s (State.digestCheck s x) := by
  unfold State.digestCheck
  try dsimp (proj := false) only
  repeat' (first | simp (disch := decide) only [↓onlyParts.self, ↓State.enterFaulted_keeps, ↓State.enterSyncing_keeps, ↓State.raise_keeps, ↓with_ft, ↓with_ou, ↓with_regs, ↓with_tw] | with_reducible (refine onlyParts.fold ?_ _ ?_) | with_reducible (refine onlyParts.foldSnd ?_ _ ?_) | (refine onlyParts.snd (by assumption) ?_) | split | (intro (_ : State) _; try dsimp (proj := false) only) | (intro (_ : _ × State) _; try dsimp (proj := false) only))
theorem State.digestCheck_keeps {L₀ : List Part} {s₀ : State} (s : State) (x : GalState) (h₀ : [(.regs : Part), (.ft : Part), (.ou : Part), (.tw : Part)].all (L₀.contains ·) = true) : onlyParts L₀ s₀ (State.digestCheck s x) ↔ onlyParts L₀ s₀ s :=
  onlyParts.step (State.digestCheck_parts s x) h₀

theorem State.partnerSays_parts (s : State) (x : GalState) (d : Int) : onlyParts [.chan] s (State.partnerSays s x d) := by
  unfold State.partnerSays
  try dsimp (proj := false) only
  repeat' (first | simp (disch := decide) only [↓onlyParts.self, ↓State.setChan_keeps, ↓with_chan] | with_reducible (refine onlyParts.fold ?_ _ ?_) | with_reducible (refine onlyParts.foldSnd ?_ _ ?_) | (refine onlyParts.snd (by assumption) ?_) | split | (intro (_ : State) _; try dsimp (proj := false) only) | (intro (_ : _ × State) _; try dsimp (proj := false) only))
theorem State.partnerSays_keeps {L₀ : List Part} {s₀ : State} (s : State) (x : GalState) (d : Int) (h₀ : [(.chan : Part)].all (L₀.contains ·) = true) : onlyParts L₀ s₀ (State.partnerSays s x d) ↔ onlyParts L₀ s₀ s :=
  onlyParts.step (State.partnerSays_parts s x d) h₀

theorem State.missTransient_parts (s : State) : onlyParts [.regs, .hl, .ft, .ou] s (State.missTransient s) := by
  unfold State.missTransient
  try dsimp (proj := false) only
  repeat' (first | simp (disch := decide) only [↓onlyParts.self, ↓State.hlTransient_keeps, ↓State.inc_keeps, ↓State.raise_keeps, ↓State.resyncBegin_keeps, ↓State.twEnter_keeps, ↓with_ft, ↓with_hl, ↓with_ou, ↓with_regs] | with_reducible (refine onlyParts.fold ?_ _ ?_) | with_reducible (refine onlyParts.foldSnd ?_ _ ?_) | (refine onlyParts.snd (by assumption) ?_) | split | (intro (_ : State) _; try dsimp (proj := false) only) | (intro (_ : _ × State) _; try dsimp (proj := false) only))
theorem State.missTransient_keeps {L₀ : List Part} {s₀ : State} (s : State) (h₀ : [(.regs : Part), (.hl : Part), (.ft : Part), (.ou : Part)].all (L₀.contains ·) = true) : onlyParts L₀ s₀ (State.missTransient s) ↔ onlyParts L₀ s₀ s :=
  onlyParts.step (State.missTransient_parts s) h₀

theorem State.stateCame_parts (s : State) (cycle : Nat) : onlyParts [.regs, .hl, .ft, .ou, .tw] s (State.stateCame s cycle) := by
  unfold State.stateCame
  try dsimp (proj := false) only
  repeat' (first | simp (disch := decide) only [↓onlyParts.self, ↓State.missTransient_keeps, ↓State.twWith_keeps, ↓with_ft, ↓with_hl, ↓with_ou, ↓with_regs, ↓with_tw] | with_reducible (refine onlyParts.fold ?_ _ ?_) | with_reducible (refine onlyParts.foldSnd ?_ _ ?_) | (refine onlyParts.snd (by assumption) ?_) | split | (intro (_ : State) _; try dsimp (proj := false) only) | (intro (_ : _ × State) _; try dsimp (proj := false) only))
theorem State.stateCame_keeps {L₀ : List Part} {s₀ : State} (s : State) (cycle : Nat) (h₀ : [(.regs : Part), (.hl : Part), (.ft : Part), (.ou : Part), (.tw : Part)].all (L₀.contains ·) = true) : onlyParts L₀ s₀ (State.stateCame s cycle) ↔ onlyParts L₀ s₀ s :=
  onlyParts.step (State.stateCame_parts s cycle) h₀

theorem State.deltasCame_parts (s : State) (cycle : Nat) : onlyParts [.regs, .hl, .ft, .ou, .tw] s (State.deltasCame s cycle) := by
  unfold State.deltasCame
  try dsimp (proj := false) only
  repeat' (first | simp (disch := decide) only [↓onlyParts.self, ↓State.missTransient_keeps, ↓State.twWith_keeps, ↓with_ft, ↓with_hl, ↓with_ou, ↓with_regs, ↓with_tw] | with_reducible (refine onlyParts.fold ?_ _ ?_) | with_reducible (refine onlyParts.foldSnd ?_ _ ?_) | (refine onlyParts.snd (by assumption) ?_) | split | (intro (_ : State) _; try dsimp (proj := false) only) | (intro (_ : _ × State) _; try dsimp (proj := false) only))
theorem State.deltasCame_keeps {L₀ : List Part} {s₀ : State} (s : State) (cycle : Nat) (h₀ : [(.regs : Part), (.hl : Part), (.ft : Part), (.ou : Part), (.tw : Part)].all (L₀.contains ·) = true) : onlyParts L₀ s₀ (State.deltasCame s cycle) ↔ onlyParts L₀ s₀ s :=
  onlyParts.step (State.deltasCame_parts s cycle) h₀

theorem State.bulkRecords_parts (s : State) (c : Nat) (long : Bool) (l : List HoRec) : onlyParts [.regs, .chan] s (State.bulkRecords s c long l) := by
  unfold State.bulkRecords
  try dsimp (proj := false) only
  repeat' (first | simp (disch := decide) only [↓onlyParts.self, ↓State.histStat_keeps, ↓State.setChan_keeps, ↓with_chan, ↓with_regs] | with_reducible (refine onlyParts.fold ?_ _ ?_) | with_reducible (refine onlyParts.foldSnd ?_ _ ?_) | (refine onlyParts.snd (by assumption) ?_) | split | (intro (_ : State) _; try dsimp (proj := false) only) | (intro (_ : _ × State) _; try dsimp (proj := false) only))
theorem State.bulkRecords_keeps {L₀ : List Part} {s₀ : State} (s : State) (c : Nat) (long : Bool) (l : List HoRec) (h₀ : [(.regs : Part), (.chan : Part)].all (L₀.contains ·) = true) : onlyParts L₀ s₀ (State.bulkRecords s c long l) ↔ onlyParts L₀ s₀ s :=
  onlyParts.step (State.bulkRecords_parts s c long l) h₀

theorem State.loseElection_parts (s : State) (h : Option GalHdr) : onlyParts [.regs, .ft, .ou, .tw] s (State.loseElection s h) := by
  unfold State.loseElection
  try dsimp (proj := false) only
  repeat' (first | simp (disch := decide) only [↓onlyParts.self, ↓State.enterFaulted_keeps, ↓State.enterSyncing_keeps, ↓with_ft, ↓with_ou, ↓with_regs, ↓with_tw] | with_reducible (refine onlyParts.fold ?_ _ ?_) | with_reducible (refine onlyParts.foldSnd ?_ _ ?_) | (refine onlyParts.snd (by assumption) ?_) | split | (intro (_ : State) _; try dsimp (proj := false) only) | (intro (_ : _ × State) _; try dsimp (proj := false) only))
theorem State.loseElection_keeps {L₀ : List Part} {s₀ : State} (s : State) (h : Option GalHdr) (h₀ : [(.regs : Part), (.ft : Part), (.ou : Part), (.tw : Part)].all (L₀.contains ·) = true) : onlyParts L₀ s₀ (State.loseElection s h) ↔ onlyParts L₀ s₀ s :=
  onlyParts.step (State.loseElection_parts s h) h₀

theorem State.electionCheck_parts (s : State) : onlyParts [.regs, .free, .sent, .mbox, .mp, .bw, .sc, .ft, .time, .chan, .ou, .tw] s (State.electionCheck s) := by
  unfold State.electionCheck
  try dsimp (proj := false) only
  repeat' (first | simp (disch := decide) only [↓onlyParts.self, ↓State.loseElection_keeps, ↓State.takeRole_keeps, ↓with_bw, ↓with_chan, ↓with_free, ↓with_ft, ↓with_mbox, ↓with_mp, ↓with_ou, ↓with_regs, ↓with_sc, ↓with_sent, ↓with_time, ↓with_tw] | with_reducible (refine onlyParts.fold ?_ _ ?_) | with_reducible (refine onlyParts.foldSnd ?_ _ ?_) | (refine onlyParts.snd (by assumption) ?_) | split | (intro (_ : State) _; try dsimp (proj := false) only) | (intro (_ : _ × State) _; try dsimp (proj := false) only))
theorem State.electionCheck_keeps {L₀ : List Part} {s₀ : State} (s : State) (h₀ : [(.regs : Part), (.free : Part), (.sent : Part), (.mbox : Part), (.mp : Part), (.bw : Part), (.sc : Part), (.ft : Part), (.time : Part), (.chan : Part), (.ou : Part), (.tw : Part)].all (L₀.contains ·) = true) : onlyParts L₀ s₀ (State.electionCheck s) ↔ onlyParts L₀ s₀ s :=
  onlyParts.step (State.electionCheck_parts s) h₀

theorem State.monMeasure_parts (s : State) (k : Nat) (m : Option (Int × Bool)) : onlyParts [.regs, .tw] s (State.monMeasure s k m) := by
  unfold State.monMeasure
  try dsimp (proj := false) only
  repeat' (first | simp (disch := decide) only [↓onlyParts.self, ↓State.inc_keeps, ↓State.put_keeps, ↓State.raise_keeps, ↓State.set_keeps, ↓State.setB_keeps, ↓State.twWith_keeps, ↓State.wr_keeps, ↓with_regs, ↓with_tw] | with_reducible (refine onlyParts.fold ?_ _ ?_) | with_reducible (refine onlyParts.foldSnd ?_ _ ?_) | (refine onlyParts.snd (by assumption) ?_) | split | (intro (_ : State) _; try dsimp (proj := false) only) | (intro (_ : _ × State) _; try dsimp (proj := false) only))
theorem State.monMeasure_keeps {L₀ : List Part} {s₀ : State} (s : State) (k : Nat) (m : Option (Int × Bool)) (h₀ : [(.regs : Part), (.tw : Part)].all (L₀.contains ·) = true) : onlyParts L₀ s₀ (State.monMeasure s k m) ↔ onlyParts L₀ s₀ s :=
  onlyParts.step (State.monMeasure_parts s k m) h₀

theorem State.judgePartner_parts (s : State) (c : Nat) : onlyParts [.regs, .free, .sent, .mbox, .mp, .bw, .sc, .time, .chan, .ou, .tw] s (State.judgePartner s c) := by
  unfold State.judgePartner
  try dsimp (proj := false) only
  repeat' (first | simp (disch := decide) only [↓onlyParts.self, ↓State.enterFaulted_keeps, ↓State.partnerAbsent_keeps, ↓State.raise_keeps, ↓State.takeover_keeps, ↓with_bw, ↓with_chan, ↓with_free, ↓with_mbox, ↓with_mp, ↓with_ou, ↓with_regs, ↓with_sc, ↓with_sent, ↓with_time, ↓with_tw] | with_reducible (refine onlyParts.fold ?_ _ ?_) | with_reducible (refine onlyParts.foldSnd ?_ _ ?_) | (refine onlyParts.snd (by assumption) ?_) | split | (intro (_ : State) _; try dsimp (proj := false) only) | (intro (_ : _ × State) _; try dsimp (proj := false) only))
theorem State.judgePartner_keeps {L₀ : List Part} {s₀ : State} (s : State) (c : Nat) (h₀ : [(.regs : Part), (.free : Part), (.sent : Part), (.mbox : Part), (.mp : Part), (.bw : Part), (.sc : Part), (.time : Part), (.chan : Part), (.ou : Part), (.tw : Part)].all (L₀.contains ·) = true) : onlyParts L₀ s₀ (State.judgePartner s c) ↔ onlyParts L₀ s₀ s :=
  onlyParts.step (State.judgePartner_parts s c) h₀

theorem State.decideCheck_parts (s : State) : onlyParts [.regs, .free, .sent, .mbox, .mp, .bw, .sc, .time, .chan, .ou, .tw] s (State.decideCheck s) := by
  unfold State.decideCheck
  try dsimp (proj := false) only
  repeat' (first | simp (disch := decide) only [↓onlyParts.self, ↓State.judgePartner_keeps, ↓with_bw, ↓with_chan, ↓with_free, ↓with_mbox, ↓with_mp, ↓with_ou, ↓with_regs, ↓with_sc, ↓with_sent, ↓with_time, ↓with_tw] | with_reducible (refine onlyParts.fold ?_ _ ?_) | with_reducible (refine onlyParts.foldSnd ?_ _ ?_) | (refine onlyParts.snd (by assumption) ?_) | split | (intro (_ : State) _; try dsimp (proj := false) only) | (intro (_ : _ × State) _; try dsimp (proj := false) only))
theorem State.decideCheck_keeps {L₀ : List Part} {s₀ : State} (s : State) (h₀ : [(.regs : Part), (.free : Part), (.sent : Part), (.mbox : Part), (.mp : Part), (.bw : Part), (.sc : Part), (.time : Part), (.chan : Part), (.ou : Part), (.tw : Part)].all (L₀.contains ·) = true) : onlyParts L₀ s₀ (State.decideCheck s) ↔ onlyParts L₀ s₀ s :=
  onlyParts.step (State.decideCheck_parts s) h₀

theorem State.heartbeat_parts (s : State) (hb : Option Bool) : onlyParts [.regs, .free, .sent, .mbox, .mp, .bw, .sc, .ft, .ou, .tw] s (State.heartbeat s hb) := by
  unfold State.heartbeat
  try dsimp (proj := false) only
  repeat' (first | simp (disch := decide) only [↓onlyParts.self, ↓State.setB_keeps, ↓State.splitBrain_keeps, ↓State.twEnter_keeps, ↓State.twWith_keeps, ↓with_bw, ↓with_free, ↓with_ft, ↓with_mbox, ↓with_mp, ↓with_ou, ↓with_regs, ↓with_sc, ↓with_sent, ↓with_tw] | with_reducible (refine onlyParts.fold ?_ _ ?_) | with_reducible (refine onlyParts.foldSnd ?_ _ ?_) | (refine onlyParts.snd (by assumption) ?_) | split | (intro (_ : State) _; try dsimp (proj := false) only) | (intro (_ : _ × State) _; try dsimp (proj := false) only))
theorem State.heartbeat_keeps {L₀ : List Part} {s₀ : State} (s : State) (hb : Option Bool) (h₀ : [(.regs : Part), (.free : Part), (.sent : Part), (.mbox : Part), (.mp : Part), (.bw : Part), (.sc : Part), (.ft : Part), (.ou : Part), (.tw : Part)].all (L₀.contains ·) = true) : onlyParts L₀ s₀ (State.heartbeat s hb) ↔ onlyParts L₀ s₀ s :=
  onlyParts.step (State.heartbeat_parts s hb) h₀

theorem State.twSave_parts (s : State) : onlyParts [.fu] s (State.twSave s) := by
  unfold State.twSave
  try dsimp (proj := false) only
  repeat' (first | simp (disch := decide) only [↓onlyParts.self, ↓State.saveSettings_keeps, ↓with_fu] | with_reducible (refine onlyParts.fold ?_ _ ?_) | with_reducible (refine onlyParts.foldSnd ?_ _ ?_) | (refine onlyParts.snd (by assumption) ?_) | split | (intro (_ : State) _; try dsimp (proj := false) only) | (intro (_ : _ × State) _; try dsimp (proj := false) only))
theorem State.twSave_keeps {L₀ : List Part} {s₀ : State} (s : State) (h₀ : [(.fu : Part)].all (L₀.contains ·) = true) : onlyParts L₀ s₀ (State.twSave s) ↔ onlyParts L₀ s₀ s :=
  onlyParts.step (State.twSave_parts s) h₀

end Sys2Proof.Machine
end

