-- ==== Sys2Proof/WellFormed.lean ====
section
/-! DEFINITION. Which commands can be given at all: the ranges of the operands that are no finite type of their own. -/

namespace Sys2Proof

/-- An access lies in BAR0 (R39: 64 MiB), has a length of one or two words (R52). -/
def Req.wf (q : Req) : Bool := decide (q.addr < 2 ^ 26) && decide (1 ≤ q.dws) && decide (q.dws ≤ 2)

/-- The sub-second part of a time lies below one second. -/
def Stamp16.wf (t : Stamp16) : Bool := decide (t.sec < 2 ^ 48) && decide (t.sub < 1000000000 * 2 ^ 16)

/-- The fields of a gallery header fit their bits: state, priority (R389). -/
def GalHdr.wf (h : GalHdr) : Bool := decide (h.state < 8) && decide (h.prio < 16)

/-- A descriptor that was fetched has `n` words (R164, R203). -/
def descWf (n : Nat) (d : Option (List Word)) : Bool := match d with | some w => decide (w.length = n) | none => true

/-- A signed value of `n` bits. -/
def fits (n : Nat) (z : Int) : Bool := decide (-(2 ^ (n - 1) : Nat) ≤ z) && decide (z < (2 ^ (n - 1) : Nat))

/-- The command can be given. -/
def Instr.wf : Instr → Bool
  | .registerWrite q _ _ => q.wf
  | .rcrRead q => q.wf
  | .sysUnlockWrite _ _ => true
  | .sysResetModule _ => true
  | .sysResetMp _ => true
  | .mspWriteFrame b => decide (b.head? = some 2) && decide (10 ≤ b.length)
  | .mspReadFrame b => decide (b.head? = some 3) && decide (6 ≤ b.length)
  | .mspUnknownCommand b => !b.isEmpty && decide (b.head? ≠ some 2) && decide (b.head? ≠ some 3)
  | .mspCsEarlyRise b => !b.isEmpty
  | .mrstAssert _ => true
  | .moduleResetEnd _ _ => true
  | .perstAssert _ => true
  | .pcieHotReset => true
  | .pcieFlr => true
  | .pcieCoreResetEnd => true
  | .vinRise _ => true
  | .vinReturn _ => true
  | .vinLoss _ _ => true
  | .vinOvervoltage _ _ => true
  | .vkeepLoss _ _ => true
  | .ovenAtTemperature => true
  | .sysVecAckWrite _ _ _ => true
  | .vecHoldoffExpiry _ => true
  | .mbRequestWrite _ _ _ _ => true
  | .mbDbWrite _ _ _ => true
  | .mbAckWrite _ _ _ => true
  | .mbTake _ _ _ => true
  | .mpHang => true
  | .mpWatchdogExpiry => true
  | .mpStart _ _ _ => true
  | .sysGetInfo _ => true
  | .sysEcho _ => true
  | .tcGetStatus _ => true
  | .tcSetConfig _ => true
  | .tcSetRefPriority _ => true
  | .tcForceSelect _ => true
  | .tcGetHoldover _ => true
  | .tcStorePreset _ => true
  | .tcRampStart _ => true
  | .tcEsmcConfig _ => true
  | .ouSetPlan _ => true
  | .ouRealignCmd _ => true
  | .ouGetStatus _ => true
  | .evSetGroup _ => true
  | .evCalStartCmd _ => true
  | .evGetCalTable _ => true
  | .evSetCalTable _ => true
  | .ptpSetProfile _ => true
  | .ptpPortConfig _ => true
  | .ptpGetStatus _ => true
  | .ptpGetDataset _ => true
  | .todConfig _ => true
  | .pxLinkEnable _ => true
  | .pxCalibrate _ => true
  | .pxGetLink _ => true
  | .pxSetAsym _ => true
  | .twGetStatus _ => true
  | .twConfig _ => true
  | .twForceRole _ => true
  | .twLagConfig _ => true
  | .fuBegin _ => true
  | .fuBlock _ => true
  | .fuVerify _ => true
  | .fuActivate _ _ => true
  | .fuConfirm _ _ _ => true
  | .fuStatus _ => true
  | .fuAbort _ => true
  | .hlGetHealth _ => true
  | .hlGetFaultLog _ => true
  | .hlRepair _ => true
  | .hlLoopback _ => true
  | .hlOpticsRead _ => true
  | .hlOpticsWrite _ => true
  | .pmGetTrace _ => true
  | .pmGetHistogram _ => true
  | .cycleBoundary egress => egress.wf
  | .pxPublish _ => true
  | .loopUpdate errs => decide (errs.map (·.1)).Nodup && errs.all fun e => fits 32 e.2
  | .switchComplete _ _ => true
  | .lockDeclared _ => true
  | .frameBoundary _ => true
  | .slotPatternBoundary => true
  | .flightBoundary _ => true
  | .tbTick => true
  | .rootLockLoss => true
  | .rootRelock => true
  | .rootFaultLasting => true
  | .lossOfSignal _ => true
  | .signalDetect _ => true
  | .cdrLossOfLock _ => true
  | .cdrLock _ => true
  | .blockLockLoss _ => true
  | .blockLock _ => true
  | .blockLockRetryExpiry _ => true
  | .blockLockStableExpiry _ => true
  | .hiBerWindow _ _ _ _ _ => true
  | .alignmentLoss _ => true
  | .alignment _ => true
  | .remoteFaultReceive _ => true
  | .bayModeApply _ => true
  | .lnCalStart _ _ _ => true
  | .lnCalEnd _ width height => decide (width < 2 ^ 8) && decide (height < 2 ^ 10)
  | .lnResetWrite _ _ _ => true
  | .laneResetEnd _ => true
  | .eyePublish _ width height => decide (width < 2 ^ 8) && decide (height < 2 ^ 10)
  | .frameReceive _ b _ _ _ => !b.isEmpty
  | .pauseFrameReceive _ _ => true
  | .pfcFrameReceive _ _ _ => true
  | .pauseExpiry _ _ _ => true
  | .portDisable _ => true
  | .drainDone _ => true
  | .drainTimeout _ => true
  | .portEnable _ => true
  | .frameTransmit _ _ _ _ => true
  | .parseClassify _ _ _ => true
  | .lateLengthCheck _ => true
  | .prCtrlSwapWrite _ _ => true
  | .prDrainComplete => true
  | .recircSecondPass _ _ => true
  | .recircAgeExpiry _ => true
  | .learn => true
  | .refresh => true
  | .destRefresh => true
  | .ageEvent => true
  | .failFilterExpiry => true
  | .ftAgeWrite _ _ => true
  | .ftRingHeadWrite _ _ _ => true
  | .ftRingEnable _ _ _ => true
  | .ftRingDisable _ _ _ => true
  | .nop _ d _ => descWf 8 d
  | .read _ d _ _ => descWf 8 d
  | .write _ d _ _ => descWf 8 d
  | .lookup _ d _ _ => descWf 8 d
  | .insert _ d _ _ => descWf 8 d
  | .delete _ d _ _ => descWf 8 d
  | .readBucket _ d _ _ => descWf 8 d
  | .flush _ d _ _ => descWf 8 d
  | .unlock _ d _ => descWf 8 d
  | .badOp _ d _ => descWf 8 d
  | .ftEpochAdvWrite _ _ => true
  | .drainEpochAdvance => true
  | .ftLockExpiry _ => true
  | .slotCrossing _ _ _ => true
  | .landingTimeout _ _ _ => true
  | .scMezzSwapWrite _ _ => true
  | .mezzSwapComplete => true
  | .ageLimit _ => true
  | .pfcRepeat _ _ => true
  | .cpuQueueDescriptor _ d _ => descWf 8 d
  | .txDescriptor _ d _ _ _ => descWf 8 d
  | .scRingHeadWrite _ _ _ => true
  | .scRingCfgWrite _ _ _ => true
  | .dlmRelease _ _ _ => true
  | .treadStart _ _ => true
  | .gtTaqArmWrite _ _ => true
  | .gtTaqArmGWrite _ _ => true
  | .taqExecute => true
  | .gtTaqCancelWrite _ _ => true
  | .gtTaqCancelGrpWrite _ _ => true
  | .tbSnapWrite _ _ => true
  | .tbIncrLoWrite _ _ => true
  | .tbIncrHiWrite _ _ => true
  | .tbStepGo _ _ => true
  | .tbSuspectClrWrite _ _ => true
  | .tbTxtsRead _ _ => true
  | .tbSecondBoundary => true
  | .todTxMessage => true
  | .todRxMessage _ _ => true
  | .todMissing => true
  | .tcPtpOfsLoWrite _ _ => true
  | .tcPtpOfsHiWrite _ _ => true
  | .fplHelloSend _ => true
  | .fplPingSend _ _ => true
  | .fplHelloReceive _ _ => true
  | .fplPingReceive _ _ _ _ => true
  | .fplPongReceive _ _ _ => true
  | .fplByeReceive _ _ => true
  | .fplExchangeMiss _ => true
  | .fplCalibrationStart _ => true
  | .fplCalibrationEnd _ _ _ _ => true
  | .pxRefRenewWrite _ _ => true
  | .leaseExpiry => true
  | .asymPairWindow _ _ => true
  | .refActivityLoss _ => true
  | .refActivityReturn _ => true
  | .refMonitorUpdate freqs => decide (freqs.map (·.1)).Nodup && freqs.all fun e => fits 24 e.2
  | .qualifyingComplete _ _ => true
  | .degradedRecovery _ _ => true
  | .wtrExpiry _ _ => true
  | .holdoverRecord _ => true
  | .holdoverRefit _ => true
  | .holdoverTeUpdate _ => true
  | .tcResetWrite _ _ _ => true
  | .tcResetEnd _ => true
  | .tcTdcCalWrite _ _ _ => true
  | .tdcCalEnd _ _ _ => true
  | .dcoAtFrequency _ => true
  | .rampStart _ => true
  | .rampSegmentEnd _ => true
  | .ouRampStopWrite _ _ => true
  | .esmcPduSend => true
  | .esmcPduReceive _ _ => true
  | .esmcTimeout _ => true
  | .qlHoldExpiry => true
  | .ouRealignWrite _ _ => true
  | .pulseEdge _ _ => true
  | .pathDelayUpdate => true
  | .evtEdge _ _ _ _ => true
  | .evTsRead _ _ => true
  | .evGroupResult _ => true
  | .evResRead _ _ => true
  | .evGrpCfgWrite _ _ _ _ => true
  | .evCalWrite _ _ _ => true
  | .evCalEnd _ _ _ => true
  | .tdcTableUpdate => true
  | .galStateReceive _ f _ _ _ => f.hdr.wf && (match f.body with | .state x => x.egress.wf | .other .. => true | _ => false)
  | .galDeltaReceive f => f.2.hdr.wf && (match f.2.body with | .delta _ => true | .other .. => true | _ => false)
  | .galBulkReceive f => f.2.hdr.wf && (match f.2.body with | .bulkMac .. => true | .bulkHo .. => true | .other .. => true | _ => false)
  | .galElectReceive f => f.2.hdr.wf && (match f.2.body with | .elect _ => true | .other .. => true | _ => false)
  | .galTakeoverReceive f => f.2.hdr.wf && (match f.2.body with | .takeover => true | .other .. => true | _ => false)
  | .galReleaseReceive f => f.2.hdr.wf && (match f.2.body with | .release _ => true | .other .. => true | _ => false)
  | .galReplyReceive f => f.2.hdr.wf && (match f.2.body with | .reply .. => true | .other .. => true | _ => false)
  | .galStateMissing => true
  | .twCheckPoint _ _ _ _ => true
  | .electWaitExpiry => true
  | .hbInLost => true
  | .takeoverReleaseWait => true
  | .twForceTake _ => true
  | .twForceRelease _ => true
  | .faultCauseExpiry => true
  | .resyncComplete => true
  | .lacpduTemplateSend _ => true
  | .fuVerifyComplete _ => true
  | .trialWindowExpiry _ => true
  | .activateReset => true
  | .abortRevert _ => true
  | .spareRowRepair _ _ _ _ => true
  | .dbmRowRepair _ _ => true
  | .mezzTest _ _ => true
  | .hlTdcAutocal _ => true
  | .tempSample lid sw timing dbm reg oven => [lid, sw, timing, dbm, reg, oven].all (fits 16)
  | .supplySample vin vinI vkeep v3p3 v3p3I pin _ => [vin, vinI, vkeep, v3p3, v3p3I, pin].all fun n => decide (n < 2 ^ 16)
  | .ovenFault => true
  | .heldFaultRelease _ _ => true
  | .wdogHoldExpiry => true
  | .faultLogWrite => true
  | .v3p3OutLimit _ => true
  | .v3p3OutRetry => true
  | .pmSnapWrite _ _ => true
  | .pmClrWrite _ _ => true
  | .bwWindowEnd _ _ => true
  | .mpHistAccumulate => true
  | .configSpaceWrite _ _ _ => true
  | .remoteFaultEnd _ => true
  | .refEdgeCapture _ => true
  | .mpSramEccFault _ _ _ _ => true
  | .loopbackTestEnd _ _ _ => true
  | .i2cTransferEnd _ _ => true
  | .blockProgramEnd _ _ => true
  | .handoverPauseEnd _ _ => true
  | .ptpMessageSend _ _ _ _ _ _ => true
  | .ptpMessageReceive _ _ _ _ _ => true
  | .lacpduSend _ _ _ => true
  | .lacpduReceive _ _ => true

end Sys2Proof
end

