-- ==== Sys2Proof/Tests/Slice0.lean ====
section
/-! SUPPORT. The model's own tests: commands that cannot be given are refused, figures worked out in the spec, and for each statement states
and operands that meet the hypotheses of its clauses. -/

set_option linter.all false
set_option Elab.async false

namespace Sys2Proof.Tests

open Sys2Proof.Machine

/-! ### Commands that cannot be given -/

theorem test_wf_refuses_an_address_beyond_BAR0 : (Instr.registerWrite ⟨.pcie, 2 ^ 26, 1, true⟩ 0 0).wf = false := by decide
theorem test_wf_refuses_an_access_of_three_words : (Instr.rcrRead ⟨.msp, 0, 3, true⟩).wf = false := by decide
theorem test_wf_refuses_a_read_as_an_msp_write : (Instr.mspWriteFrame (bytes [3, 0, 0, 0, 0, 0, 0, 0, 0, 0])).wf = false := by decide
theorem test_wf_refuses_a_short_msp_read : (Instr.mspReadFrame (bytes [3, 0, 0, 0, 0])).wf = false := by decide
theorem test_wf_refuses_a_known_command_as_unknown : (Instr.mspUnknownCommand (bytes [2])).wf = false := by decide
theorem test_wf_refuses_no_byte_before_cs_rises : (Instr.mspCsEarlyRise []).wf = false := by decide
theorem test_wf_refuses_a_second_above_48_bits : (Instr.cycleBoundary ⟨2 ^ 48, 0⟩).wf = false := by decide
theorem test_wf_refuses_two_updates_of_one_channel : (Instr.loopUpdate [(0, 1), (0, 2)]).wf = false := by decide
theorem test_wf_refuses_a_phase_error_of_33_bits : (Instr.loopUpdate [(0, 2 ^ 31)]).wf = false := by decide
theorem test_wf_refuses_an_eye_of_11_bits : (Instr.eyePublish 0 0 (2 ^ 10)).wf = false := by decide
theorem test_wf_refuses_a_wide_eye : (Instr.lnCalEnd 0 (2 ^ 8) 0).wf = false := by decide
theorem test_wf_refuses_an_empty_frame : (Instr.frameReceive 0 [] true false 0).wf = false := by decide
theorem test_wf_refuses_a_descriptor_of_seven_words : (Instr.nop 0 (some (List.replicate 7 0)) .done).wf = false := by decide
theorem test_wf_refuses_a_frequency_of_25_bits : (Instr.refMonitorUpdate [(0, 2 ^ 23)]).wf = false := by decide
theorem test_wf_refuses_another_frame_as_takeover :
    (Instr.galTakeoverReceive (0, ⟨⟨false, false, false, false, false, 0, 0, 0, 0, 0, 0⟩, .elect 0⟩)).wf = false := by decide
theorem test_wf_refuses_a_priority_of_5_bits :
    (Instr.galTakeoverReceive (1, ⟨⟨false, false, false, false, false, 0, 0, 0, 0, 16, 0⟩, .takeover⟩)).wf = false := by decide
theorem test_wf_refuses_a_temperature_of_17_bits : (Instr.tempSample 0 0 0 0 0 (2 ^ 15)).wf = false := by decide
theorem test_wf_refuses_a_supply_of_17_bits : (Instr.supplySample 0 0 0 0 0 (2 ^ 16) 0).wf = false := by decide

/-! ### Figures of the spec -/

/-- R173: a 64-byte frame takes 1 cell, a 1518-byte frame 6. -/
theorem test_cells : cellsOf 64 = 1 ∧ cellsOf 1518 = 6 := by decide
/-- R42: the key of the guard. -/
theorem test_the_key_opens_the_guard :
    (match Machine.step { State.reset with pending := [.sysUnlockWrite .pcie 0x7D2B4E19] } with | .next t => t.host.guardPcie | _ => false) = true := by
  decide +kernel
/-- R62: ringing the doorbell of an IDLE mailbox posts its request. -/
theorem test_the_doorbell_posts :
    (match Machine.step { State.reset with pending := [.mbDbWrite .pcie 0 1] } with | .next t => t.mbState 0 | _ => 9) = mbPosted := by decide +kernel
/-- R25: at the nominal increment a tick adds 1.6 ns. -/
theorem test_a_tick_adds_the_increment :
    (match Machine.step { State.reset with pending := [.tbTick] } with | .next t => t.tb | _ => ⟨0, 0, 0⟩) = ⟨0, 1, 0x9999999A⟩ := by decide +kernel
theorem test_an_empty_queue_idles : Machine.step State.reset = .next State.reset := rfl

/-! ### What the statements assume can be met -/

/-- The header of a full package of one body byte, 0x2A, for the FH4848 with serial number 0, signed over P-384 (R419). -/
def testHeader : Bytes :=
  leBytes 4 0x4C4F4C50 ++ bytes [1, 0, 0, 0] ++ leBytes 2 0x4848 ++ bytes [1, 0, 1, 2, 3, 4, 0, 0, 0, 0] ++ zeros 8 ++ leBytes 4 1 ++ leBytes 4 1
    ++ leBytes 4 1 ++ zeros 8
    ++ beBytes 48 0xF5B83D3F4BD3C29CFC2F499F883A7AE98D6C8FAD2FF8B82B2CA7D2F163968EC5ED1ABC31A618D82FBC61042632E2C7C6
    ++ zeros 48 ++ bytes [4]
    ++ beBytes 48 0xAA87CA22BE8B05378EB1C71EF320AD746E1D3B628BA79B9859F741E082542A385502F25DBF55296C3A545E3872760AB7
    ++ beBytes 48 0x3617DE4A96262C6F5D9E98BF9292DC29F8F41DBD289A147CE9DA3113B5F0B8C00A60B1CE1D7E819D7A431D7C90EA0E5F
    ++ zeros 15
    ++ beBytes 48 0xAA87CA22BE8B05378EB1C71EF320AD746E1D3B628BA79B9859F741E082542A385502F25DBF55296C3A545E3872760AB7
    ++ beBytes 48 0xDC5428E4BA0913C8E940770DD1D2B789A0C7492A9CAD30DB1AF56932A83B5E0C0739255EA6E91406EB90CC961A502AE2
    ++ zeros 672

/-- The unit whose OTP holds the hash of the key of `testHeader`. -/
def testUnit : UnitData :=
  ⟨0, beBytes 48 0x8C4F262412B7F9ED867606705A130DE5212FD048FBAF8C3842F4A240F4B45BA0C90F82194CCDDA3ED89C96B0AFE1D51D, []⟩

theorem test_HostRegisterAccess :
(∃ (m : Master) (n : Fin 64) (v : Word) (hi : Word) (s : State), (reaches m s)) ∧
(∃ (m : Master) (l : Fin 48) (v : Word) (hi : Word) (s : State), (reaches m s) ∧ (l.val < s.lanes)) ∧
(∃ (q : Req) (v : Word) (hi : Word) (reason : Nat) (s : State), (reaches q.m s) ∧ (widthOk q = false ∨ isPeek q.addr = false) ∧ (s.reach q = .inr
      reason) ∧ (s.bit SYS_BUS_ERR 31 = false)) ∧
(∃ (q : Req) (p : Place) (s : State), (reaches q.m s) ∧ (q.dws = 1) ∧ (s.reach q = .inl p) ∧ (p.shadow = false) ∧ (p.peek = false) ∧ (p.r.mask .rcr ≠
      0) ∧ (p.r.base ∉ [TB_TXTS 0, EV_TS 0, EV_RES 0, GT_TAQ_GRP_LAST])) :=
  ⟨⟨.msp, 63, 0xFFFFFFFF, 0, State.reset, by decide +kernel⟩,
   ⟨.pcie, 47, 0xFFFFFFFF, 0, { State.reset with pend := [(LN_TXEQ 47, 5, 0)] }, by decide +kernel⟩,
   ⟨⟨.pcie, 0x40000, 1, true⟩, 0, 0, 0, State.reset, by decide +kernel⟩,
   ⟨⟨.pcie, SYS_INT_STAT, 1, true⟩, ⟨SYS_INT_STAT, ((regFind SYS_INT_STAT).map (·.1)).getD ⟨"", 0, 0, 0, 0, 0, false, [], [], [], []⟩, 0, 0, false,
      false⟩, State.reset.raise SYS_INT_STAT_bus_err, by decide +kernel⟩⟩

theorem test_GuardAndVectors :
(∃ (m : Master) (s : State), (reaches m s) ∧ (m = .pcie ∨ m = .msp)) ∧
(∃ (m : Master) (v : Word) (s : State), (reaches m s) ∧ (m = .pcie ∨ m = .msp) ∧ (v ≠ 0x7D2B4E19) ∧ (s.bit SYS_GUARD_VIOL 31 = false)) ∧
(∃ (m : Master) (hi : Bool) (v : Word) (n : Fin 64) (s : State), (reaches m s) ∧ ((decide (32 ≤ n.val) == hi) = true) ∧ (bitOf v.toNat (n.val % 32) =
      true) ∧ (s.vecWants n = false)) ∧
(∃ (v : Fin 64) (s : State), (s.up) ∧ (s.host.holding.contains v.val = true) ∧ (s.armed v = true) ∧ (s.vecOpen v = true) ∧ (s.vecWants v = true)) ∧
(∃ (v : Fin 64) (s : State), (s.up) ∧ (s.host.holding.contains v.val = true) ∧ (s.vecWants v = false)) ∧
(∃ (msix : Bool) (mask : Bool) (d3hot : Bool) (c : PcieCfg) (s : State), (s.up) ∧ (s.power.pcieReset = false)) :=
  ⟨⟨.msp, State.reset, by decide +kernel⟩,
   ⟨.pcie, 0x7D2B4E18, { State.reset with host := { State.reset.host with guardPcie := true } }, by decide +kernel⟩,
   ⟨.pcie, true, 0x80000000, 63, { State.reset with host := { State.reset.host with disarmed := [3, 63] } }, by decide +kernel⟩,
   ⟨4,
      { ((((State.reset.raise SYS_INT_STAT_bus_err).wr SYS_INT_EN 4).wr SYS_SRC_EN_LO 0x10).wr (SYS_MSIX_CTRL 4) 0) with host := { State.reset.host with holding := [4], msixEnable := true } },
      by decide +kernel⟩,
   ⟨63, { State.reset with host := { State.reset.host with holding := [63] } }, by decide +kernel⟩,
   ⟨true, false, false, { PcieCfg.reset with ecrcGen := true, maxPayload := 256, maxRead := 512 }, State.reset, by decide +kernel⟩⟩

theorem test_MspFrames :
(∃ (b : Bytes) (n : Fin 64) (s : State), (s.up) ∧ (byteAt b 0 = 2) ∧ (10 ≤ b.length) ∧ (mspCrcOk (b.take 10) = true) ∧ (beAt b 1 4 = SYS_VEC_MAP n)) ∧
(∃ (b : Bytes) (s : State), (s.up) ∧ (byteAt b 0 = 2) ∧ (10 ≤ b.length) ∧ (mspCrcOk (b.take 10) = false)) ∧
(∃ (b : Bytes) (n : Fin 64) (s : State), (s.up) ∧ (byteAt b 0 = 3) ∧ (6 ≤ b.length) ∧ (mspCrcOk (b.take 6) = true) ∧ (beAt b 1 4 = SYS_VEC_MAP n)) ∧
(∃ (b : Bytes) (s : State), (s.up) ∧ (b ≠ []) ∧ (byteAt b 0 ≠ 2) ∧ (byteAt b 0 ≠ 3)) ∧
(∃ (b : Bytes) (s : State), (s.up) ∧ (b ≠ []) ∧ (byteAt b 0 = 2) ∧ (b.length < 10)) ∧
(∃ (b : Bytes) (n : Fin 64) (s : State), (s.up) ∧ (byteAt b 0 = 2) ∧ (10 ≤ b.length) ∧ (mspCrcOk (b.take 10) = true) ∧ (beAt b 1 4 = SYS_VEC_MAP n)) :=
  ⟨⟨[2, 0, 0, 1, 4, 0, 0, 0, 9, BitVec.ofNat 8 (crc8 [2, 0, 0, 1, 4, 0, 0, 0, 9])], 1, State.reset, by decide +kernel⟩,
   ⟨[2, 0, 0, 1, 4, 0, 0, 0, 9, 0], State.reset, by decide +kernel⟩,
   ⟨[3, 0, 0, 1, 252, BitVec.ofNat 8 (crc8 [3, 0, 0, 1, 252])], 63, State.reset, by decide +kernel⟩,
   ⟨[4], State.reset, by decide +kernel⟩,
   ⟨[2, 0, 0, 1, 4, 0, 0, 0, 9], State.reset, by decide +kernel⟩,
   ⟨[2, 0, 0, 1, 4, 0, 0, 0, 9, BitVec.ofNat 8 (crc8 [2, 0, 0, 1, 4, 0, 0, 0, 9])], 1, State.reset, by decide +kernel⟩⟩

theorem test_MailboxStates :
(∃ (m : Master) (n : Fin 4) (w : Fin 1024) (v : Word) (s : State), (reaches m s) ∧ (s.mbOwns m n = true) ∧ (s.mbState n = 0)) ∧
(∃ (m : Master) (n : Fin 4) (v : Word) (s : State), (reaches m s) ∧ (s.mbOwns m n = true) ∧ (s.mbState n = 0)) ∧
(∃ (n : Fin 4) (s : State), (s.up) ∧ (s.mpRuns = true) ∧ (s.mbState n = 1) ∧ (leAt (s.mbBytes n 4) 4 4 ≤ 4080) ∧ (crc32c (posted n s).payload =
      (posted n s).crc) ∧ ((posted n s).epoch = s.get MB_EPOCH_epoch) ∧ ((s.mb n).last = none) ∧ (opcodes.contains (posted n s).opcode = true) ∧ (s.on
      MB_EPOCH_recovery = false) ∧ (bitOf (posted n s).flags 1 = false)) ∧
(∃ (m : Master) (n : Fin 4) (v : Word) (s : State), (reaches m s) ∧ (s.mbOwns m n = true) ∧ (s.mbState n = 3)) :=
  ⟨⟨.pcie, 2, 1023, 7, State.reset, by decide +kernel⟩,
   ⟨.pcie, 2, 0, State.reset, by decide +kernel⟩,
   ⟨1, ((((State.reset.wr (MB_REQ 1 0) 0x00070100).wr (MB_REQ 1 2) 0x00010000).wr (MB_REQ 1 3) (BitVec.ofNat 32 (crc32c []))).set (MB_STAT_state 1)
      1).raise MB_EPOCH_mp_running, by decide +kernel⟩,
   ⟨.msp, 3, 1, State.reset.set (MB_STAT_state 3) 3, by decide +kernel⟩⟩

theorem test_EchoAndInfo :
(∃ (n : Fin 4) (r : MbReq) (s : State), (serving n 0x0101 r s) ∧ (r.payload.length ≤ 4072)) ∧
(∃ (n : Fin 4) (r : MbReq) (s : State), (serving n 0x0100 r s) ∧ (r.payload = [])) :=
  ⟨⟨3, ⟨0x0101, 5, 0, 1, 0, [1, 2, 3]⟩, ((State.reset.set (MB_STAT_state 3) 2).raise MB_EPOCH_mp_running).setMb 3
      { Mbox.empty with taken := some ⟨0x0101, 5, 0, 1, 0, [1, 2, 3]⟩ }, by decide +kernel⟩,
   ⟨0, ⟨0x0100, 5, 0, 1, 0, []⟩, ((State.reset.set (MB_STAT_state 0) 2).raise MB_EPOCH_mp_running).setMb 0
      { Mbox.empty with taken := some ⟨0x0100, 5, 0, 1, 0, []⟩ }, by decide +kernel⟩⟩

theorem test_MpStops :
(∃ (s : State), (s.up) ∧ (s.mpRuns = true)) ∧
(∃ (s : State), (s.up) ∧ (s.mpRuns = false) ∧ (s.mp.restarting = false)) ∧
(∃ (m : Master) (s : State), (reaches m s) ∧ (guardOpen m s = true) ∧ (s.mp.restarting = false)) ∧
(∃ (flash : Bool) (burn : Bool) (s : State), (s.up) ∧ (s.on MB_EPOCH_mp_running = false)) :=
  ⟨⟨State.reset.raise MB_EPOCH_mp_running, by decide +kernel⟩,
   ⟨{ State.reset.raise MB_EPOCH_mp_running with mp := ⟨true, false, true, 0, []⟩ }, by decide +kernel⟩,
   ⟨.pcie, { State.reset.raise MB_EPOCH_mp_running with host := { State.reset.host with guardPcie := true } }, by decide +kernel⟩,
   ⟨true, false, State.reset, by decide +kernel⟩⟩

theorem test_ModuleReset :
(∃ (ns : Nat) (s : State), (s.power.vin = true) ∧ (1000 ≤ ns)) ∧
(∃ (m : Master) (s : State), (reaches m s) ∧ (guardOpen m s = true)) ∧
(∃ (s : State), (s.up) ∧ (s.fu.resetDue = true)) ∧
(∃ (ns : Nat) (s : State), (s.power.vin = true) ∧ (ns < 500)) ∧
(∃ (seatB : Bool) (xin : Option Nat) (s : State), (s.power.vin = true) ∧ (s.power.inReset = true)) :=
  ⟨⟨1000, { (State.reset.wr (SYS_VEC_MAP 3) 9).wr TB_STAT 0 with tb := ⟨5, 6, 7⟩ }, by decide +kernel⟩,
   ⟨.msp, { { (State.reset.wr (SYS_VEC_MAP 3) 9).wr TB_STAT 0 with tb := ⟨5, 6, 7⟩ } with host := { State.reset.host with guardMsp := true } }, by
      decide +kernel⟩,
   ⟨{ State.reset with fu := { Fu.shipped with resetDue := true } }, by decide +kernel⟩,
   ⟨499, State.reset, by decide +kernel⟩,
   ⟨true, some 44000000, { State.reset with power := { State.reset.power with inReset := true } }, by decide +kernel⟩⟩

theorem test_Supplies :
(∃ (mv : Nat) (s : State), (s.vinStarts mv = true)) ∧
(∃ (mv : Nat) (s : State), (s.vinStarts mv = true) ∧ (s.power.keep = true)) ∧
(∃ (mv : Nat) (us : Nat) (s : State), (s.power.vin = true) ∧ (mv < 5300) ∧ (2 ≤ us)) ∧
(∃ (mv : Nat) (us : Nat) (s : State), (s.power.vin = true) ∧ (62500 < mv) ∧ (2 ≤ us)) ∧
(∃ (mv : Nat) (us : Nat) (s : State), (s.power.vin = false) ∧ (s.power.keep = true) ∧ (mv < 2700) ∧ (10 ≤ us)) :=
  ⟨⟨5700, { State.reset with tb := ⟨1, 2, 3⟩, power := { State.reset.power with vin := false, keep := false } }, by decide +kernel⟩,
   ⟨61499, { State.reset with tb := ⟨1, 2, 3⟩, power := { State.reset.power with vin := false, tripped := true } }, by decide +kernel⟩,
   ⟨5299, 2, State.reset, by decide +kernel⟩,
   ⟨62501, 2, State.reset, by decide +kernel⟩,
   ⟨2699, 10, { State.reset with tb := ⟨1, 2, 3⟩, power := { State.reset.power with vin := false } }, by decide +kernel⟩⟩

theorem test_PcieResets :
(∃ (ns : Nat) (s : State), (s.up) ∧ (1000 ≤ ns)) ∧
(∃ (s : State), (s.up) ∧ (s.power.pcieReset = false)) ∧
(∃ (s : State), (s.up) ∧ (s.power.pcieReset = false)) ∧
(∃ (s : State), (s.up) ∧ (s.power.pcieReset = true)) :=
  ⟨⟨1000, (((State.reset.set (MB_STAT_state 0) 1).set (MB_STAT_state 1) 2).set (MB_STAT_state 3) 3).raise (FT_RING_CFG_enable 7), by decide +kernel⟩,
   ⟨(((State.reset.set (MB_STAT_state 0) 1).set (MB_STAT_state 1) 2).set (MB_STAT_state 3) 3).raise (FT_RING_CFG_enable 7), by decide +kernel⟩,
   ⟨(((State.reset.set (MB_STAT_state 0) 1).set (MB_STAT_state 1) 2).set (MB_STAT_state 3) 3).raise (FT_RING_CFG_enable 7), by decide +kernel⟩,
   ⟨{ State.reset with power := { State.reset.power with pcieReset := true } }, by decide +kernel⟩⟩

theorem test_RootAndOven :
(∃ (s : State), (s.up) ∧ (s.rootLocked = true)) ∧
(∃ (s : State), (s.up) ∧ (s.rootLocked = false) ∧ (s.power.rootDone = false) ∧ (s.hl.causes.contains (0x0C, 0) = false)) ∧
(∃ (s : State), (s.up) ∧ (s.rootLocked = false) ∧ (s.power.rootDone = false) ∧ (s.twState = 0 ∨ s.twState = 2)) ∧
(∃ (s : State), (s.up) ∧ (s.rootLocked = false)) ∧
(∃ (mv : Nat) (s : State), (s.power.vin = true) ∧ (s.power.v3p3 = true) ∧ (mv < s.get (HL_SUPPLY_THR_low 3) ∨ s.get (HL_SUPPLY_THR_high 3) < mv)) ∧
(∃ (s : State), (s.power.vin = true) ∧ (s.power.v3p3 = false)) ∧
(∃ (s : State), (s.up)) :=
  ⟨⟨State.reset.wr TB_STAT 0, by decide +kernel⟩,
   ⟨State.reset.set SYS_ROOT_STAT_locked 0, by decide +kernel⟩,
   ⟨(State.reset.set SYS_ROOT_STAT_locked 0).set TW_STAT_state 2, by decide +kernel⟩,
   ⟨State.reset.set SYS_ROOT_STAT_locked 0, by decide +kernel⟩,
   ⟨0, State.reset, by decide +kernel⟩,
   ⟨{ State.reset with power := { State.reset.power with v3p3 := false } }, by decide +kernel⟩,
   ⟨State.reset, by decide +kernel⟩⟩

theorem test_LaneConditions :
(∃ (l : Fin 48) (s : State), (s.up) ∧ (s.on (LN_CTRL_enable l) = true) ∧ (s.on (LN_STAT_signal l) = true)) ∧
(∃ (l : Fin 48) (s : State), (s.up) ∧ (l.val < s.lanes) ∧ (s.on (LN_CTRL_enable l) = true) ∧ ((s.laneOf l).inReset = false) ∧ (s.on (LN_STAT_signal l)
      = false)) ∧
(∃ (l : Fin 48) (s : State), (s.up) ∧ (s.on (LN_STAT_cdr_lock l) = true)) ∧
(∃ (l : Fin 48) (s : State), (s.up) ∧ (s.on (LN_STAT_signal l) = true) ∧ (s.on (LN_STAT_cdr_lock l) = false)) ∧
(∃ (l : Fin 48) (s : State), (s.up) ∧ (s.on (LN_STAT_block_lock l) = true) ∧ ((s.lanesOf (s.headLane l)).any (fun k => s.on (LN_STAT_cal_busy k)) =
      false) ∧ (s.linkState (s.headLane l) ≠ 3) ∧ ((s.laneOf (s.headLane l)).loss = .none)) ∧
(∃ (l : Fin 48) (s : State), (s.up) ∧ (s.on (LN_STAT_cdr_lock l) = true) ∧ (s.on (LN_STAT_block_lock l) = false)) :=
  ⟨⟨5, ((((State.reset.raise (LN_CTRL_enable 5)).raise (LN_STAT_signal 5)).raise (LN_STAT_cdr_lock 5)).raise (LN_STAT_block_lock 5)), by decide +kernel⟩,
   ⟨47, State.reset.raise (LN_CTRL_enable 47), by decide +kernel⟩,
   ⟨5, ((((State.reset.raise (LN_CTRL_enable 5)).raise (LN_STAT_signal 5)).raise (LN_STAT_cdr_lock 5)).raise (LN_STAT_block_lock 5)), by decide +kernel⟩,
   ⟨5, (State.reset.raise (LN_STAT_signal 5)), by decide +kernel⟩,
   ⟨5, ((((State.reset.raise (LN_CTRL_enable 5)).raise (LN_STAT_signal 5)).raise (LN_STAT_cdr_lock 5)).raise (LN_STAT_block_lock 5)), by decide +kernel⟩,
   ⟨5, (State.reset.raise (LN_STAT_signal 5)).raise (LN_STAT_cdr_lock 5), by decide +kernel⟩⟩

theorem test_LaneLossClasses :
(∃ (l : Fin 48) (s : State), (s.up) ∧ ((s.laneOf l).loss = .retry) ∧ (s.rxLocked l = false)) ∧
(∃ (l : Fin 48) (s : State), (s.up) ∧ ((s.laneOf l).loss = .returned)) ∧
(∃ (l : Fin 48) (invalid : Nat) (corr : Nat) (uncorr : Nat) (sym : Nat) (s : State), (s.up) ∧ (s.on (LN_CTRL_enable l) = true)) ∧
(∃ (b : Fin 12) (s : State), (s.up) ∧ (s.wide (4 * b.val) = true) ∧ (s.on (LN_STAT_aligned (4 * b.val)) = true)) ∧
(∃ (b : Fin 12) (s : State), (s.up) ∧ (s.wide (4 * b.val) = true) ∧ ((s.lanesOf (4 * b.val)).all (fun l => s.on (LN_STAT_block_lock l)) = true) ∧
      (s.on (LN_STAT_aligned (4 * b.val)) = false)) :=
  ⟨⟨47, State.reset.setLane 47 { Lane.quiet with loss := .retry }, by decide +kernel⟩,
   ⟨0, State.reset.setLane 0 { Lane.quiet with loss := .returned }, by decide +kernel⟩,
   ⟨5, 16, 1, 0, 2, ((((State.reset.raise (LN_CTRL_enable 5)).raise (LN_STAT_signal 5)).raise (LN_STAT_cdr_lock 5)).raise (LN_STAT_block_lock 5)), by
      decide +kernel⟩,
   ⟨11, ((State.reset.set (LN_BAY_MODE_mode 11) 3).raise (LN_STAT_aligned 44)), by decide +kernel⟩,
   ⟨11, [44, 45, 46, 47].foldl (fun s l => s.raise (LN_STAT_block_lock l)) (State.reset.set (LN_BAY_MODE_mode 11) 3), by decide +kernel⟩⟩

theorem test_LaneModesAndCalibration :
(∃ (b : Fin 12) (v : Word) (c : Nat) (s : State), (s.up) ∧ (s.pend.filter (fun e => decide (e.1 = LN_BAY_MODE b)) = [(LN_BAY_MODE b, v, c)]) ∧ (c + 32
      < s.clk) ∧ ((∀ k : Nat, k < 4 → s.on (PT_IDLE_idle (4 * b.val + k)) = true))) ∧
(∃ (m : Master) (l : Fin 48) (v : Word) (s : State), (reaches m s) ∧ (l.val < s.lanes) ∧ (bitOf v.toNat 0 = true) ∧ (s.on (LN_STAT_cal_busy l) =
      false)) ∧
(∃ (l : Fin 48) (v : Word) (s : State), (s.up) ∧ ((s.laneOf l).calWanted = true) ∧ (s.on (LN_STAT_signal l) = true) ∧ (s.on (LN_STAT_cal_busy l) =
      false)) ∧
(∃ (l : Fin 48) (width : Nat) (height : Nat) (s : State), (s.up) ∧ (s.on (LN_STAT_cal_busy l) = true)) ∧
(∃ (m : Master) (l : Fin 48) (v : Word) (s : State), (reaches m s) ∧ (l.val < s.lanes) ∧ (bitOf v.toNat 0 = true)) ∧
(∃ (l : Fin 48) (s : State), (s.up) ∧ ((s.laneOf l).inReset = true)) ∧
(∃ (l : Fin 48) (v : Word) (c : Nat) (s : State), (s.up) ∧ ((s.laneOf l).inReset = true) ∧ (s.pend.filter (fun e => decide (e.1 = LN_EYE_THR l)) =
      [(LN_EYE_THR l, v, c)])) ∧
(∃ (l : Fin 48) (width : Nat) (height : Nat) (s : State), (s.up) ∧ (s.on (LN_CTRL_enable l) = true) ∧ (s.on (LN_STAT_cal_busy l) = false)) :=
  ⟨⟨11, 2, 7,
      { [44, 45, 46, 47].foldl (fun s p => (s.raise (PT_IDLE_idle p)).raise (LN_STAT_signal p)) State.reset with clk := 40, pend := [(5, 1, 2), (LN_BAY_MODE 11, 2, 7)] },
      by decide +kernel⟩,
   ⟨.pcie, 47, 1, State.reset, by decide +kernel⟩,
   ⟨5, 0, ((((State.reset.raise (LN_CTRL_enable 5)).raise (LN_STAT_signal 5)).raise (LN_STAT_cdr_lock 5)).raise (LN_STAT_block_lock 5)).setLane 5
      { Lane.quiet with calWanted := true }, by decide +kernel⟩,
   ⟨47, 255, 1023, (State.reset.raise (LN_STAT_cal_busy 47)).raise (LN_CTRL_enable 47), by decide +kernel⟩,
   ⟨.msp, 47, 1, State.reset, by decide +kernel⟩,
   ⟨47, { (State.reset.setLane 47 { Lane.quiet with inReset := true }) with pend := [(LN_TXEQ 47, 3, 0), (LN_TXEQ 46, 3, 0)] }, by decide +kernel⟩,
   ⟨47, 0xFF, 3, { (State.reset.setLane 47 { Lane.quiet with inReset := true }) with pend := [(LN_EYE_THR 47, 0xFF, 3)] }, by decide +kernel⟩,
   ⟨5, 0, 9, ((((State.reset.raise (LN_CTRL_enable 5)).raise (LN_STAT_signal 5)).raise (LN_STAT_cdr_lock 5)).raise (LN_STAT_block_lock 5)), by
      decide +kernel⟩⟩

theorem test_PortFaultsAndPause :
(∃ (p : Fin 48) (s : State), (s.up) ∧ (s.rxLocked p = true) ∧ (s.rxOut p = false) ∧ (s.on (PT_STAT_remote_fault p) = false)) ∧
(∃ (p : Fin 48) (s : State), (s.up) ∧ (s.on (PT_STAT_remote_fault p) = true)) ∧
(∃ (p : Fin 48) (quanta : Nat) (s : State), (s.up) ∧ (s.rxLocked p = true) ∧ (s.rxOut p = false) ∧ (s.loopOf p = 0) ∧ (s.portOff p = false)) ∧
(∃ (p : Fin 48) (vector : BitVec 8) (zero : BitVec 8) (s : State), (s.up) ∧ (s.rxLocked p = true) ∧ (s.rxOut p = false) ∧ (s.loopOf p = 0) ∧
      (s.portOff p = false)) ∧
(∃ (p : Fin 48) (quanta : Nat) (s : State), (s.up) ∧ (s.rxLocked p = true) ∧ (s.rxOut p = false) ∧ (s.loopOf p = 4 ∨ (s.loopOf p = 0 ∧ s.portOff p =
      true))) ∧
(∃ (p : Fin 48) (vector : BitVec 8) (zero : BitVec 8) (s : State), (s.up) ∧ (s.rxLocked p = true) ∧ (s.rxOut p = false) ∧ (s.loopOf p = 4 ∨ (s.loopOf
      p = 0 ∧ s.portOff p = true))) ∧
(∃ (p : Fin 48) (all : Bool) (classes : BitVec 8) (s : State), (s.up) ∧ (s.on (PT_STAT_paused p) = true)) :=
  ⟨⟨5, ((((State.reset.raise (LN_CTRL_enable 5)).raise (LN_STAT_signal 5)).raise (LN_STAT_cdr_lock 5)).raise (LN_STAT_block_lock 5)), by decide +kernel⟩,
   ⟨5, ((((State.reset.raise (LN_CTRL_enable 5)).raise (LN_STAT_signal 5)).raise (LN_STAT_cdr_lock 5)).raise (LN_STAT_block_lock 5)).raise
      (PT_STAT_remote_fault 5), by decide +kernel⟩,
   ⟨5, 1, ((((State.reset.raise (LN_CTRL_enable 5)).raise (LN_STAT_signal 5)).raise (LN_STAT_cdr_lock 5)).raise (LN_STAT_block_lock 5)).raise
      (PT_CTRL_enable 5) |>.raise (PT_CTRL_pause_rx 5), by decide +kernel⟩,
   ⟨5, 0xFF, 0x0F, ((((State.reset.raise (LN_CTRL_enable 5)).raise (LN_STAT_signal 5)).raise (LN_STAT_cdr_lock 5)).raise (LN_STAT_block_lock 5)).raise
      (PT_CTRL_enable 5) |>.raise (PT_CTRL_pfc_rx 5), by decide +kernel⟩,
   ⟨5, 1, ((((State.reset.raise (LN_CTRL_enable 5)).raise (LN_STAT_signal 5)).raise (LN_STAT_cdr_lock 5)).raise (LN_STAT_block_lock 5)), by
      decide +kernel⟩,
   ⟨5, 0xFF, 0, ((((State.reset.raise (LN_CTRL_enable 5)).raise (LN_STAT_signal 5)).raise (LN_STAT_cdr_lock 5)).raise (LN_STAT_block_lock 5)).set
      (LN_CTRL_loop 5) 4, by decide +kernel⟩,
   ⟨47, true, 0x80, (State.reset.raise (PT_STAT_paused 47)).setPort 47 { Port.quiet with pauseAll := true, pfc := 0x81 }, by decide +kernel⟩⟩

theorem test_PortDisableAndDrain :
(∃ (p : Fin 48) (v : Word) (c : Nat) (s : State), (s.up) ∧ (s.between p = true) ∧ (s.pend.filter (fun e => decide (e.1 = PT_CTRL p)) = [(PT_CTRL p, v,
      c)]) ∧ (c + 32 < s.clk) ∧ (s.on (PT_CTRL_enable p) = true) ∧ (bitOf v.toNat 0 = false)) ∧
(∃ (p : Fin 48) (v : Word) (c : Nat) (s : State), (s.up) ∧ (s.between p = true) ∧ (s.pend.filter (fun e => decide (e.1 = PT_CTRL p)) = [(PT_CTRL p, v,
      c)]) ∧ (c + 32 < s.clk) ∧ (s.on (PT_CTRL_enable p) = false) ∧ (s.on (PT_IDLE_idle p) = true) ∧ (bitOf v.toNat 0 = true)) ∧
(∃ (p : Fin 48) (v : Word) (c : Nat) (s : State), (s.up) ∧ (s.between p = true) ∧ (s.pend.filter (fun e => decide (e.1 = PT_TS_ING_ADJ p)) =
      [(PT_TS_ING_ADJ p, v, c)]) ∧ (c + 32 < s.clk)) ∧
(∃ (p : Fin 48) (s : State), (s.up) ∧ (s.on (PT_STAT_draining p) = true) ∧ (s.scHasPort p = false)) ∧
(∃ (p : Fin 48) (s : State), (s.up) ∧ (s.on (PT_STAT_draining p) = true) ∧ (0 < s.get (PT_DRAIN_ON_DISABLE_timeout_us p))) :=
  ⟨⟨47, 2, 7, { State.reset.raise (PT_CTRL_enable 47) with clk := 40, pend := [(PT_CTRL 47, 2, 7)] }, by decide +kernel⟩,
   ⟨47, 1, 7, { State.reset.raise (PT_IDLE_idle 47) with clk := 40, pend := [(PT_CTRL 47, 1, 7)] }, by decide +kernel⟩,
   ⟨47, 2, 7, { State.reset with clk := 40, pend := [(PT_TS_ING_ADJ 47, 2, 7)] }, by decide +kernel⟩,
   ⟨47, State.reset.raise (PT_STAT_draining 47), by decide +kernel⟩,
   ⟨47, (State.reset.raise (PT_STAT_draining 47)).set (PT_DRAIN_ON_DISABLE_timeout_us 47) 1, by decide +kernel⟩⟩

theorem test_FramesInAndOut :
(∃ (p : Fin 48) (b : Bytes) (ago : Nat) (s : State), (s.up) ∧ (s.portHere p = true) ∧ (s.rxLocked p = true) ∧ (s.rxOut p = false) ∧ (s.on
      (PT_STAT_local_fault p) = false) ∧ (s.loopOf p = 0) ∧ (s.portOff p = false) ∧ ((s.xconn p).all (fun k => decide (k ≠ p.val) && s.portHere k) =
      true) ∧ (64 ≤ b.length) ∧ (b.length ≤ s.get (PT_MAXFRM_max p)) ∧ (isFpl b = false ∨ s.linkState p = 0 ∨ (s.xconn p).isSome = true)) ∧
(∃ (p : Fin 48) (b : Bytes) (ago : Nat) (s : State), (s.up) ∧ (s.portHere p = true) ∧ (s.rxLocked p = true) ∧ (s.rxOut p = false) ∧ (s.on
      (PT_STAT_local_fault p) = false) ∧ (s.loopOf p = 0) ∧ (s.portOff p = false) ∧ ((s.xconn p).all (fun k => decide (k ≠ p.val) && s.portHere k) =
      true) ∧ (64 ≤ b.length) ∧ (b.length ≤ s.get (PT_MAXFRM_max p)) ∧ (isFpl b = true) ∧ (s.linkState p ≠ 0) ∧ (s.xconn p = none)) ∧
(∃ (p : Fin 48) (b : Bytes) (ago : Nat) (s : State), (s.up) ∧ (s.portHere p = true) ∧ (s.rxLocked p = true) ∧ (s.rxOut p = false) ∧ (s.on
      (PT_STAT_local_fault p) = false) ∧ (s.loopOf p = 0) ∧ (s.portOff p = false) ∧ ((s.xconn p).all (fun k => decide (k ≠ p.val) && s.portHere k) =
      true) ∧ (64 ≤ b.length) ∧ (b.length ≤ s.get (PT_MAXFRM_max p))) ∧
(∃ (p : Fin 48) (b : Bytes) (fcs : Bool) (bad : Bool) (ago : Nat) (s : State), (s.up) ∧ (s.portHere p = true) ∧ (s.rxLocked p = true) ∧ (s.rxOut p =
      false) ∧ (s.on (PT_STAT_local_fault p) = false) ∧ (s.loopOf p = 0) ∧ (s.portOff p = false) ∧ ((s.xconn p).all (fun k => decide (k ≠ p.val) &&
      s.portHere k) = true) ∧ (64 ≤ b.length) ∧ (s.get (PT_MAXFRM_max p) < b.length)) ∧
(∃ (p : Fin 48) (b : Bytes) (fcs : Bool) (bad : Bool) (ago : Nat) (s : State), (s.up) ∧ (s.portHere p = true) ∧ (s.rxLocked p = true) ∧ (s.rxOut p =
      false) ∧ (s.on (PT_STAT_local_fault p) = false) ∧ (s.loopOf p = 0) ∧ (s.portOff p = false) ∧ ((s.xconn p).all (fun k => decide (k ≠ p.val) &&
      s.portHere k) = true) ∧ (b.length < 64)) ∧
(∃ (p : Fin 48) (b : Bytes) (fcs : Bool) (bad : Bool) (ago : Nat) (s : State), (s.up) ∧ (s.portHere p = true) ∧ (s.rxLocked p = true) ∧ (s.rxOut p =
      false) ∧ (s.on (PT_STAT_local_fault p) = false) ∧ (s.loopOf p = 4 ∨ (s.loopOf p = 0 ∧ (s.portOff p = true ∨ (s.xconn p).any (fun k => decide (k
      = p.val) || !s.portHere k) = true)))) ∧
(∃ (p : Fin 48) (lead : Nat) (f : FlowFrame) (rest : List FlowFrame) (s : State), (s.up) ∧ (s.maySend p = true) ∧ (s.loopOf p = 0) ∧ (s.sc.flowOut.get
      [] p = f :: rest)) ∧
(∃ (p : Fin 48) (lead : Nat) (q : Nat) (id : Nat) (since : Nat) (rest : List (Nat × Nat)) (e : Edited) (s1 : State) (s : State), (s.up) ∧ (s.maySend p
      = true) ∧ (s.sc.flowOut.get [] p = []) ∧ ((s.noFit p).serve p (((s.noFit p).tb.move (((lead * 2 ^ 16 : Nat) : Int) + (s.noFit p).adj
      (PT_TS_EGR_ADJ p))).fifths) = (some q, s1)) ∧ (s1.queueOf q = (id, since) :: rest) ∧ (s1.edit (s1.pkt id) p (s1.copyOf id q) = .inr e) ∧
      ((s1.pkt id).whole = true) ∧ (s1.loopOf p = 0)) :=
  ⟨⟨5, zeros 64, 3, (((((((State.reset.raise (LN_CTRL_enable 5)).raise (LN_STAT_signal 5)).raise (LN_STAT_cdr_lock 5)).raise (LN_STAT_block_lock
      5)).raise (PT_CTRL_enable 5)).set (PT_MAXFRM_max 5) 1518).raise (PT_STAT_link_up 5)), by decide +kernel⟩,
   ⟨5, (beBytes 6 0x0180C200000E ++ beBytes 6 7 ++ beBytes 2 0x88B5 ++ zeros 50), 3, (((((((State.reset.raise (LN_CTRL_enable 5)).raise (LN_STAT_signal
      5)).raise (LN_STAT_cdr_lock 5)).raise (LN_STAT_block_lock 5)).raise (PT_CTRL_enable 5)).set (PT_MAXFRM_max 5) 1518).raise (PT_STAT_link_up
      5)).set (PX_STAT_state 5) 1, by decide +kernel⟩,
   ⟨5, zeros 64, 3, (((((((State.reset.raise (LN_CTRL_enable 5)).raise (LN_STAT_signal 5)).raise (LN_STAT_cdr_lock 5)).raise (LN_STAT_block_lock
      5)).raise (PT_CTRL_enable 5)).set (PT_MAXFRM_max 5) 1518).raise (PT_STAT_link_up 5)), by decide +kernel⟩,
   ⟨5, zeros 70, true, true, 3, (((((((State.reset.raise (LN_CTRL_enable 5)).raise (LN_STAT_signal 5)).raise (LN_STAT_cdr_lock 5)).raise
      (LN_STAT_block_lock 5)).raise (PT_CTRL_enable 5)).set (PT_MAXFRM_max 5) 1518).raise (PT_STAT_link_up 5)).set (PT_MAXFRM_max 5) 64, by
      decide +kernel⟩,
   ⟨5, zeros 63, false, false, 3, (((((((State.reset.raise (LN_CTRL_enable 5)).raise (LN_STAT_signal 5)).raise (LN_STAT_cdr_lock 5)).raise
      (LN_STAT_block_lock 5)).raise (PT_CTRL_enable 5)).set (PT_MAXFRM_max 5) 1518).raise (PT_STAT_link_up 5)), by decide +kernel⟩,
   ⟨5, zeros 64, true, false, 3, ((((((((State.reset.raise (LN_CTRL_enable 5)).raise (LN_STAT_signal 5)).raise (LN_STAT_cdr_lock 5)).raise
      (LN_STAT_block_lock 5)).raise (PT_CTRL_enable 5)).set (PT_MAXFRM_max 5) 1518).raise (PT_STAT_link_up 5)).raise (PT_XCONN_enable 5)).set
      (PT_XCONN_peer 5) 63, by decide +kernel⟩,
   ⟨5, 0, ⟨false, 0, 65535⟩, [],
      { (((((((State.reset.raise (LN_CTRL_enable 5)).raise (LN_STAT_signal 5)).raise (LN_STAT_cdr_lock 5)).raise (LN_STAT_block_lock 5)).raise (PT_CTRL_enable 5)).set (PT_MAXFRM_max 5) 1518).raise (PT_STAT_link_up 5)) with sc := { Switch.reset with flowOut := [(5, [⟨false, 0, 65535⟩])] } },
      by decide +kernel⟩,
   ⟨5, 0, 429, 0, 0, [], (match
      (({ (((((((State.reset.raise (LN_CTRL_enable 5)).raise (LN_STAT_signal 5)).raise (LN_STAT_cdr_lock 5)).raise (LN_STAT_block_lock 5)).raise (PT_CTRL_enable 5)).set (PT_MAXFRM_max 5) 1518).raise (PT_STAT_link_up 5)) with sc := { Switch.reset with frames := [(0, { Pkt.none with bytes := zeros 60, len := 64, whole := true, store := 1, n := 1, refs := 1, copies := [⟨429, none, 0, 0⟩] })], nextId := 1, queues := [(429, [(0, 0)])] } }).noFit
      5).edit
      ((({ (((((((State.reset.raise (LN_CTRL_enable 5)).raise (LN_STAT_signal 5)).raise (LN_STAT_cdr_lock 5)).raise (LN_STAT_block_lock 5)).raise (PT_CTRL_enable 5)).set (PT_MAXFRM_max 5) 1518).raise (PT_STAT_link_up 5)) with sc := { Switch.reset with frames := [(0, { Pkt.none with bytes := zeros 60, len := 64, whole := true, store := 1, n := 1, refs := 1, copies := [⟨429, none, 0, 0⟩] })], nextId := 1, queues := [(429, [(0, 0)])] } }).noFit
      5).pkt 0) 5
      ((({ (((((((State.reset.raise (LN_CTRL_enable 5)).raise (LN_STAT_signal 5)).raise (LN_STAT_cdr_lock 5)).raise (LN_STAT_block_lock 5)).raise (PT_CTRL_enable 5)).set (PT_MAXFRM_max 5) 1518).raise (PT_STAT_link_up 5)) with sc := { Switch.reset with frames := [(0, { Pkt.none with bytes := zeros 60, len := 64, whole := true, store := 1, n := 1, refs := 1, copies := [⟨429, none, 0, 0⟩] })], nextId := 1, queues := [(429, [(0, 0)])] } }).noFit
      5).copyOf 0 429) with | .inr e => e | .inl _ => ⟨[], [], false⟩),
      (({ (((((((State.reset.raise (LN_CTRL_enable 5)).raise (LN_STAT_signal 5)).raise (LN_STAT_cdr_lock 5)).raise (LN_STAT_block_lock 5)).raise (PT_CTRL_enable 5)).set (PT_MAXFRM_max 5) 1518).raise (PT_STAT_link_up 5)) with sc := { Switch.reset with frames := [(0, { Pkt.none with bytes := zeros 60, len := 64, whole := true, store := 1, n := 1, refs := 1, copies := [⟨429, none, 0, 0⟩] })], nextId := 1, queues := [(429, [(0, 0)])] } }).noFit
      5),
      { (((((((State.reset.raise (LN_CTRL_enable 5)).raise (LN_STAT_signal 5)).raise (LN_STAT_cdr_lock 5)).raise (LN_STAT_block_lock 5)).raise (PT_CTRL_enable 5)).set (PT_MAXFRM_max 5) 1518).raise (PT_STAT_link_up 5)) with sc := { Switch.reset with frames := [(0, { Pkt.none with bytes := zeros 60, len := 64, whole := true, store := 1, n := 1, refs := 1, copies := [⟨429, none, 0, 0⟩] })], nextId := 1, queues := [(429, [(0, 0)])] } },
      by decide +kernel⟩⟩

theorem test_ParserSwapAndDrain :
(∃ (m : Master) (v : Word) (s : State), (reaches m s)) ∧
(∃ (s : State), (s.up) ∧ (s.on PR_GR_DRAINED_drained = false) ∧ (s.pr.grSwap.head?.all (fun w => !w.started) = true) ∧ (s.livePkts.all (fun x =>
      decide (x.gr ≠ s.pr.grOld)) = true)) ∧
(∃ (s : State), (s.up) ∧ (s.on PR_RS_DRAINED_drained = false) ∧ (s.pr.rsSwap.head?.all (fun w => !w.started) = true) ∧ (s.livePkts.all (fun x =>
      decide (x.rs ≠ s.pr.rsOld)) = true)) :=
  ⟨⟨.pcie, 0xFFFFFFFF, State.reset, by decide +kernel⟩,
   ⟨State.reset.set PR_GR_DRAINED_drained 0, by decide +kernel⟩,
   ⟨State.reset.set PR_RS_DRAINED_drained 0, by decide +kernel⟩⟩

theorem test_PipelinePasses :
(∃ (k : Fin 2) (pf : List PrFault) (ff : List FtFault) (id : Nat) (peer : Nat) (s : State), (s.up) ∧ (s.sc.pipe.find? (fun i => decide (srcBay (s.pkt
      i) % 2 = k.val)) = some id) ∧ ((s.pkt id).xc = some peer) ∧ ((s.bayCells (srcBay (s.pkt id))).length + cellsOf (s.pkt id).len ≤ 960)) ∧
(∃ (k : Fin 2) (pf : List PrFault) (ff : List FtFault) (id : Nat) (peer : Nat) (s : State), (s.up) ∧ (s.sc.pipe.find? (fun i => decide (srcBay (s.pkt
      i) % 2 = k.val)) = some id) ∧ ((s.pkt id).xc = some peer) ∧ (peer < 48) ∧ ((s.pkt id).store = 0) ∧ (1024 < (s.bayCells (srcBay (s.pkt
      id))).length + cellsOf (s.pkt id).len)) ∧
(∃ (k : Fin 2) (id : Nat) (s : State), (s.up) ∧ (s.sc.pipe.find? (fun i => decide (srcBay (s.pkt i) % 2 = k.val)) = some id) ∧ ((s.pkt id).port < 48)
      ∧ ((s.pkt id).xc = none) ∧ (s.twHeld (s.pkt id).port = false) ∧ ((s.pkt id).len ≤ 256) ∧ ((s.parse (s.pkt id).gr (s.pkt id).bytes (s.pkt id).len
      (some ((s.pkt id).len - 4))).out = .unresolved)) ∧
(∃ (p : Fin 49) (id : Nat) (x : Pkt) (s : State), (s.up) ∧ (s.sc.frames.find? (fun e => e.2.lateDue && decide (e.2.port = p.val)) = some (id, x))) ∧
(∃ (pf : List PrFault) (ff : List FtFault) (k : Fin 8) (id : Nat) (since : Nat) (rest : List (Nat × Nat)) (s : State), (s.up) ∧ ((∀ j : Nat, j < 7 -
      k.val → s.queueOf (423 - j) = [])) ∧ (s.queueOf (416 + k) = (id, since) :: rest) ∧ ((s.pkt id).whole = true)) ∧
(∃ (r : Fin 8) (id : Nat) (since : Nat) (rest : List (Nat × Nat)) (s : State), (s.up) ∧ (s.queueOf (416 + r) = (id, since) :: rest) ∧ (max 1 (s.get
      PR_RECIRC_AGE_age_us) * 1250 ≤ s.clk - since)) :=
  ⟨⟨0, [], [], 4, 47,
      { State.reset with sc := { Switch.reset with frames := [(4, { Pkt.none with bytes := zeros 60, len := 64, port := 3, xc := some 47 })], nextId := 5, pipe := [4] } },
      by decide +kernel⟩,
   ⟨0, [], [], 4, 47,
      { State.reset with sc := { Switch.reset with frames := [(4, { Pkt.none with bytes := zeros 60, len := 64, port := 3, xc := some 47 })], nextId := 5, pipe := [4], ingress := [(0, (List.range 1024).map fun i => ⟨3, i, false, 0, 1, 0, i⟩)] } },
      by decide +kernel⟩,
   ⟨0, 4,
      { State.reset with sc := { Switch.reset with frames := [(4, { Pkt.none with bytes := zeros 60, len := 64, port := 3 })], nextId := 5, pipe := [4] } },
      by decide +kernel⟩,
   ⟨3, 4, {  Pkt.none with bytes := zeros 60, len := 64, port := 3 , lateDue := true, lateBad := true },
      { State.reset with sc := { Switch.reset with frames := [(4, {  Pkt.none with bytes := zeros 60, len := 64, port := 3 , lateDue := true, lateBad := true })], nextId := 5 } },
      by decide +kernel⟩,
   ⟨[], [], 7, 4, 0, [],
      { State.reset with sc := { Switch.reset with frames := [(4, {  Pkt.none with bytes := zeros 60, len := 64, port := 3 , whole := true, refs := 1, n := 1 })], nextId := 5, queues := [(423, [(4, 0)])] } },
      by decide +kernel⟩,
   ⟨0, 4, 0, [],
      { State.reset with sc := { Switch.reset with frames := [(4, {  Pkt.none with bytes := zeros 60, len := 64, port := 3 , whole := true, refs := 1, n := 1 })], nextId := 5, queues := [(416, [(4, 0)])] }, clk := 125000 },
      by decide +kernel⟩⟩

theorem test_LearnAndAge :
(∃ (v : LearnEv) (rest : List LearnEv) (loc : Nat) (s : State), (s.up) ∧ (s.ft.queue = v :: rest) ∧ (v.kind = 0) ∧ (s.ft.filter.contains (v.fid,
      v.mac) = false) ∧ (({ s with ft := { s.ft with queue := rest } } : State).macFind v.fid v.mac = none) ∧
      ((({ s with ft := { s.ft with queue := rest } } : State).macInsert (Ent.learned v.fid v.mac v.ident s.ms)).1 = some loc)) ∧
(∃ (v : LearnEv) (rest : List LearnEv) (loc : Nat) (s : State), (s.up) ∧ (s.ft.queue = v :: rest) ∧ (v.kind = 1) ∧
      (({ s with ft := { s.ft with queue := rest } } : State).macFind v.fid v.mac = some loc) ∧ (s.held 0 loc = false) ∧ ((s.ent 0 loc).dest =
      v.ident)) ∧
(∃ (v : LearnEv) (rest : List LearnEv) (loc : Nat) (s : State), (s.up) ∧ (s.ft.queue = v :: rest) ∧ (v.kind = 2) ∧
      (({ s with ft := { s.ft with queue := rest } } : State).macFind v.fid v.mac = some loc) ∧ (s.held 0 loc = false)) ∧
(∃ (s : State), (s.up) ∧ (s.get FT_AGE_period_s ≠ 0) ∧ ((s.ent 0 s.ft.sweep).valid1 = true) ∧ ((s.ent 0 s.ft.sweep).fixed = false) ∧ (s.held 0
      s.ft.sweep = false)) ∧
(∃ (k : Nat × Nat) (rest : List (Nat × Nat)) (s : State), (s.up) ∧ (s.ft.filter = k :: rest)) :=
  ⟨⟨⟨0, 1, 2, 3⟩, [⟨1, 1, 2, 3⟩], ((State.reset.macInsert (Ent.learned 1 2 3 0)).1).getD 0,
      { State.reset with ft := { State.reset.ft with queue := [⟨0, 1, 2, 3⟩, ⟨1, 1, 2, 3⟩] } }, by decide +kernel⟩,
   ⟨⟨1, 1, 2, 3⟩, [], (State.reset.ways 1 2).headD 0,
      { State.reset with ft := { State.reset.ft with queue := [⟨1, 1, 2, 3⟩], mac := [((State.reset.ways 1 2).headD 0, Ent.learned 1 2 3 0)] } }, by
      decide +kernel⟩,
   ⟨⟨2, 1, 2, 0⟩, [], (State.reset.ways 1 2).headD 0,
      { State.reset with ft := { State.reset.ft with queue := [⟨2, 1, 2, 0⟩], mac := [((State.reset.ways 1 2).headD 0, Ent.learned 1 2 3 0)] } }, by
      decide +kernel⟩,
   ⟨{ State.reset.set FT_AGE_period_s 300 with ft := { State.reset.ft with sweep := 524287, mac := [(524287, Ent.learned 1 2 3 0)] } }, by
      decide +kernel⟩,
   ⟨(1, 2), [(3, 4)], { State.reset with ft := { State.reset.ft with filter := [(1, 2), (3, 4)] } }, by decide +kernel⟩⟩

theorem test_DescriptorReads :
(∃ (r : Fin 8) (w : List Word) (s : State), (serves r 0 0 w s)) ∧
(∃ (r : Fin 8) (w : List Word) (during : Bool) (table : Nat) (i : Nat) (s : State), (serves r 1 table w s) ∧ (table < 7) ∧ (i = (if table = 0 then
      locOf w else bitsOf (dw w 1) 16 0)) ∧ (i < tableSize table) ∧ (bitOf (dw w 0).toNat 10 = false)) ∧
(∃ (r : Fin 8) (w : List Word) (during : Bool) (table : Nat) (i : Nat) (s : State), (serves r 1 table w s) ∧ (table < 7) ∧ (i = (if table = 0 then
      locOf w else bitsOf (dw w 1) 16 0)) ∧ (i < tableSize table) ∧ (bitOf (dw w 0).toNat 10 = true) ∧ (s.lockOf r = none) ∧ (s.heldByOther r table i
      = false)) ∧
(∃ (r : Fin 8) (w : List Word) (during : Bool) (table : Nat) (i : Nat) (s : State), (serves r 1 table w s) ∧ (table < 7) ∧ (i = (if table = 0 then
      locOf w else bitsOf (dw w 1) 16 0)) ∧ (i < tableSize table) ∧ (bitOf (dw w 0).toNat 10 = true) ∧ (s.lockOf r = none) ∧ (s.heldByOther r table i
      = true)) ∧
(∃ (r : Fin 8) (w : List Word) (i : Nat) (s : State), (serves r 3 0 w s) ∧ ((turned r s).macFind (entOf w).fid (entOf w).addr = some i) ∧ (bitOf (dw w
      0).toNat 10 = false)) ∧
(∃ (r : Fin 8) (w : List Word) (s : State), (serves r 3 0 w s) ∧ ((turned r s).macFind (entOf w).fid (entOf w).addr = none)) ∧
(∃ (r : Fin 8) (w : List Word) (during : Bool) (b : Nat) (s : State), (serves r 6 0 w s) ∧ (b = bitsOf (dw w 1) 15 0) ∧ (bitOf (dw w 0).toNat 10 =
      false) ∧ ((∀ k : Nat, k < 4 → s.entBad 0 (macLoc (bitsOf (dw w 1) 18 18) k b) = false))) ∧
(∃ (r : Fin 8) (w : List Word) (during : Bool) (b : Nat) (s : State), (serves r 6 0 w s) ∧ (b = bitsOf (dw w 1) 15 0) ∧ (bitOf (dw w 0).toNat 10 =
      true) ∧ (s.lockOf r = none) ∧ ((∀ k : Nat, k < 4 → s.heldByOther r 0 (macLoc (bitsOf (dw w 1) 18 18) k b) = false)) ∧ ((∀ k : Nat, k < 4 →
      s.entBad 0 (macLoc (bitsOf (dw w 1) 18 18) k b) = false))) :=
  ⟨⟨7, [0, 0, 0, 0, 0, 0, 0, 0], (((State.reset.set (FT_RING_CFG_enable 7) 1).set (FT_RING_CFG_size_log2 7) 4).set (FT_RING_HEAD_head 7) 1), by
      decide +kernel⟩,
   ⟨7, [385, 8191, 0, 0, 0, 0, 0, 0], true, 6, 8191, (((State.reset.set (FT_RING_CFG_enable 7) 1).set (FT_RING_CFG_size_log2 7) 4).set (FT_RING_HEAD_head
      7) 1), by decide +kernel⟩,
   ⟨7, [1089, 4095, 0, 0, 0, 0, 0, 0], false, 1, 4095, (((State.reset.set (FT_RING_CFG_enable 7) 1).set (FT_RING_CFG_size_log2 7) 4).set
      (FT_RING_HEAD_head 7) 1), by decide +kernel⟩,
   ⟨7, [1089, 4095, 0, 0, 0, 0, 0, 0], false, 1, 4095,
      { (((State.reset.set (FT_RING_CFG_enable 7) 1).set (FT_RING_CFG_size_log2 7) 4).set (FT_RING_HEAD_head 7) 1) with ft := { State.reset.ft with locks := [(6, some ⟨1, [4095]⟩)] } },
      by decide +kernel⟩,
   ⟨7, [3, 0, 0, 0, 2, 0x00010000, 0, 0], (State.reset.ways 1 2).headD 0,
      { (((State.reset.set (FT_RING_CFG_enable 7) 1).set (FT_RING_CFG_size_log2 7) 4).set (FT_RING_HEAD_head 7) 1) with ft := { State.reset.ft with mac := [((State.reset.ways 1 2).headD 0, Ent.learned 1 2 3 0)] } },
      by decide +kernel⟩,
   ⟨7, [3, 0, 0, 0, 2, 0x00010000, 0, 0], (((State.reset.set (FT_RING_CFG_enable 7) 1).set (FT_RING_CFG_size_log2 7) 4).set (FT_RING_HEAD_head 7) 1), by
      decide +kernel⟩,
   ⟨7, [6, 0x4FFFF, 0x1000, 0, 0, 0, 0, 0], true, 65535, (((State.reset.set (FT_RING_CFG_enable 7) 1).set (FT_RING_CFG_size_log2 7) 4).set
      (FT_RING_HEAD_head 7) 1), by decide +kernel⟩,
   ⟨7, [1030, 0x4FFFF, 0x1000, 0, 0, 0, 0, 0], false, 65535, (((State.reset.set (FT_RING_CFG_enable 7) 1).set (FT_RING_CFG_size_log2 7) 4).set
      (FT_RING_HEAD_head 7) 1), by decide +kernel⟩⟩

theorem test_DescriptorWrites :
(∃ (r : Fin 8) (w : List Word) (table : Nat) (i : Nat) (s : State), (serves r 2 table w s) ∧ (0 < table) ∧ (table < 7) ∧ (i = bitsOf (dw w 1) 16 0) ∧
      (i < tableSize table) ∧ ((turned r s).ftMay r table [i] [i] = .inr false) ∧ (s.slotRetired table i = false)) ∧
(∃ (r : Fin 8) (w : List Word) (table : Nat) (i : Nat) (s : State), (serves r 2 table w s) ∧ (0 < table) ∧ (table < 7) ∧ (i = bitsOf (dw w 1) 16 0) ∧
      (i < tableSize table) ∧ ((turned r s).ftMay r table [i] [i] = .inr true) ∧ (s.slotRetired table i = false)) ∧
(∃ (r : Fin 8) (w : List Word) (table : Nat) (i : Nat) (st : Nat) (s : State), (serves r 2 table w s) ∧ (0 < table) ∧ (table < 7) ∧ (i = bitsOf (dw w
      1) 16 0) ∧ (i < tableSize table) ∧ ((turned r s).ftMay r table [i] [i] = .inl st)) ∧
(∃ (r : Fin 8) (w : List Word) (i : Nat) (s : State), (serves r 2 0 w s) ∧ (i = locOf w) ∧ ((entOf w).valid1 = true) ∧ (((turned r s).ways (entOf
      w).fid (entOf w).addr).contains i = true) ∧ (((turned r s).ways (entOf w).fid (entOf w).addr).find? (fun k => (turned r s).holdsKey (entOf
      w).fid (entOf w).addr k && decide (k ≠ i)) = none) ∧ ((turned r s).ftMay r 0 [i] [i] = .inr false) ∧ (s.slotRetired 0 i = false)) ∧
(∃ (r : Fin 8) (w : List Word) (loc : Nat) (s : State), (serves r 4 0 w s) ∧ (mayInsert r (entOf w) (turned r s)) ∧ (((turned r s).macInsert (entOf
      w)).1 = some loc)) ∧
(∃ (r : Fin 8) (w : List Word) (i : Nat) (s : State), (serves r 5 0 w s) ∧ ((turned r s).macFind (entOf w).fid (entOf w).addr = some i) ∧ ((turned r
      s).ftMay r 0 [i] [i] = .inr false)) ∧
(∃ (r : Fin 8) (w : List Word) (s : State), (serves r 7 0 w s)) ∧
(∃ (r : Fin 8) (w : List Word) (l : DmaLock) (s : State), (serves r 8 0 w s) ∧ (s.lockOf r = some l)) ∧
(∃ (r : Fin 8) (w : List Word) (s : State), (serves r 8 0 w s) ∧ (s.lockOf r = none) ∧ (s.lapsedOf r ≠ [])) ∧
(∃ (r : Fin 8) (w : List Word) (s : State), (s.up) ∧ (s.ringTurn s.ft.turn ftRing = some r.val) ∧ (w.length = 8) ∧ (8 < bitsOf (dw w 0) 5 0) ∧ (bitOf
      (dw w 0).toNat 11 = false)) :=
  ⟨⟨7, [322, 4095, 0, 0, 9, 0x80000000, 0, 0], 5, 4095, (((State.reset.set (FT_RING_CFG_enable 7) 1).set (FT_RING_CFG_size_log2 7) 4).set
      (FT_RING_HEAD_head 7) 1), by decide +kernel⟩,
   ⟨7, [322, 4095, 0, 0, 9, 0x80000000, 0, 0], 5, 4095,
      { (((State.reset.set (FT_RING_CFG_enable 7) 1).set (FT_RING_CFG_size_log2 7) 4).set (FT_RING_HEAD_head 7) 1) with ft := { State.reset.ft with locks := [(7, some ⟨5, [4095]⟩)] } },
      by decide +kernel⟩,
   ⟨7, [322, 4095, 0, 0, 0, 0, 0, 0], 5, 4095, 8,
      { (((State.reset.set (FT_RING_CFG_enable 7) 1).set (FT_RING_CFG_size_log2 7) 4).set (FT_RING_HEAD_head 7) 1) with ft := { State.reset.ft with lapsed := [(7, [⟨5, [4095]⟩])] } },
      by decide +kernel⟩,
   ⟨7, [2, BitVec.ofNat 32 ((State.reset.ways 1 2).headD 0), 0, 0, 2, 0x80010000, 0, 0], (State.reset.ways 1 2).headD 0, (((State.reset.set
      (FT_RING_CFG_enable 7) 1).set (FT_RING_CFG_size_log2 7) 4).set (FT_RING_HEAD_head 7) 1), by decide +kernel⟩,
   ⟨7, [4, 0, 0, 0, 2, 0x80010000, 0, 0], (State.reset.ways 1 2).headD 0, (((State.reset.set (FT_RING_CFG_enable 7) 1).set (FT_RING_CFG_size_log2 7)
      4).set (FT_RING_HEAD_head 7) 1), by decide +kernel⟩,
   ⟨7, [5, 0, 0, 0, 2, 0x00010000, 0, 0], (State.reset.ways 1 2).headD 0,
      { (((State.reset.set (FT_RING_CFG_enable 7) 1).set (FT_RING_CFG_size_log2 7) 4).set (FT_RING_HEAD_head 7) 1) with ft := { State.reset.ft with mac := [((State.reset.ways 1 2).headD 0, Ent.learned 1 2 3 0)] } },
      by decide +kernel⟩,
   ⟨7, [7, 0, 0, 0, 0, 0, 0, 0],
      { (((State.reset.set (FT_RING_CFG_enable 7) 1).set (FT_RING_CFG_size_log2 7) 4).set (FT_RING_HEAD_head 7) 1) with ft := { State.reset.ft with mac := [((State.reset.ways 1 2).headD 0, Ent.learned 1 2 3 0)] } },
      by decide +kernel⟩,
   ⟨7, [8, 0, 0, 0, 0, 0, 0, 0], ⟨0, [5]⟩,
      { (((State.reset.set (FT_RING_CFG_enable 7) 1).set (FT_RING_CFG_size_log2 7) 4).set (FT_RING_HEAD_head 7) 1) with ft := { State.reset.ft with locks := [(7, some ⟨0, [5]⟩)] } },
      by decide +kernel⟩,
   ⟨7, [8, 0, 0, 0, 0, 0, 0, 0],
      { (((State.reset.set (FT_RING_CFG_enable 7) 1).set (FT_RING_CFG_size_log2 7) 4).set (FT_RING_HEAD_head 7) 1) with ft := { State.reset.ft with lapsed := [(7, [⟨0, [5]⟩])] } },
      by decide +kernel⟩,
   ⟨7, [9, 0, 0, 0, 0, 0, 0, 0], (((State.reset.set (FT_RING_CFG_enable 7) 1).set (FT_RING_CFG_size_log2 7) 4).set (FT_RING_HEAD_head 7) 1), by
      decide +kernel⟩⟩

theorem test_TableRegisters :
(∃ (m : Master) (v : Word) (s : State), (reaches m s)) ∧
(∃ (m : Master) (r : Fin 8) (v : Word) (s : State), (reaches m s)) ∧
(∃ (m : Master) (r : Fin 8) (v : Word) (s : State), (reaches m s) ∧ (s.on (FT_RING_CFG_enable r) = false)) ∧
(∃ (m : Master) (r : Fin 8) (v : Word) (s : State), (reaches m s) ∧ (s.on (FT_RING_CFG_enable r) = true)) ∧
(∃ (m : Master) (v : Word) (s : State), (reaches m s) ∧ ((s.get FT_EPOCH_current + 1 + 65536 - s.get FT_DRAIN_EPOCH_value) % 65536 ≠ 32768)) ∧
(∃ (s : State), (s.up) ∧ (s.oldestEpoch ≠ s.get FT_DRAIN_EPOCH_value)) ∧
(∃ (r : Fin 8) (l : DmaLock) (s : State), (s.up) ∧ (s.lockOf r = some l)) :=
  ⟨⟨.pcie, 0xFFF, State.reset, by decide +kernel⟩,
   ⟨.pcie, 7, 1, State.reset, by decide +kernel⟩,
   ⟨.msp, 7, 8, State.reset, by decide +kernel⟩,
   ⟨.msp, 7, 8, (((State.reset.set (FT_RING_CFG_enable 7) 1).set (FT_RING_CFG_size_log2 7) 4).set (FT_RING_HEAD_head 7) 1), by decide +kernel⟩,
   ⟨.pcie, 0, State.reset.set FT_EPOCH_current 65535, by decide +kernel⟩,
   ⟨State.reset.set FT_EPOCH_current 65535, by decide +kernel⟩,
   ⟨7, ⟨0, [5]⟩, { State.reset with ft := { State.reset.ft with locks := [(7, some ⟨0, [5]⟩)] } }, by decide +kernel⟩⟩

theorem test_SlotsAndLandings :
(∃ (b : Fin 15) (c : Cell) (dbm : Bool) (s : State), (s.up) ∧ (s.sc.ingress = [(b.val, [c])]) ∧ (s.sc.mezz = []) ∧ (s.sc.swap = none) ∧ (c.dst < 16) ∧
      (s.bit SC_MEZZ_IDLE ((b + s.sc.slot) % 16) = false) ∧ (s.mayCross ((b + s.sc.slot) % 16) c = true)) ∧
(∃ (dbm : Bool) (ecc : List (Fin 17 × Ecc)) (faults : List StoreFault) (s : State), (s.up)) ∧
(∃ (src : Fin 15) (dst : Fin 15) (space : Fin 3) (dbm : Bool) (c : Cell) (s : State), (s.up) ∧ (s.landed dst = [c]) ∧ (c.src = src) ∧ (c.dst = dst) ∧
      (c.space = space) ∧ (c.seq < 65536) ∧ (s.sc.seqIn.get 0 (pathKey src dst space) < 65536)) ∧
(∃ (q : Fin 472) (id : Nat) (since : Nat) (rest : List (Nat × Nat)) (s : State), (s.up) ∧ (s.queueOf q = (id, since) :: rest) ∧ (clamp 10 1000000
      (s.get SC_AGE_LIMIT_limit_us) * 1250 ≤ s.clk - since)) ∧
(∃ (p : Fin 48) (k : Fin 9) (s : State), (s.up) ∧ (bitOf (s.sc.above.get 0 p) k = true) ∧ (s.get (SC_FC_CFG_mode p) = (if k.val < 8 then 2 else 1)) ∧
      (s.get (SC_FC_XON_xon p) < s.flowHeld p k)) :=
  ⟨⟨2, ⟨7, 0, true, 2, 1, 0, 5⟩, true, { State.reset with sc := { Switch.reset with slot := 15, ingress := [(2, [⟨7, 0, true, 2, 1, 0, 5⟩])] } }, by
      decide +kernel⟩,
   ⟨false, [(16, .lasting)], [], { State.reset with sc := { Switch.reset with slot := 15, ingress := [(2, [⟨7, 0, true, 2, 1, 0, 5⟩])] } }, by
      decide +kernel⟩,
   ⟨2, 1, 0, true, ⟨7, 0, true, 2, 1, 0, 5⟩,
      { State.reset with sc := { Switch.reset with land := [(1, [⟨7, 0, true, 2, 1, 0, 5⟩])], seqIn := [(pathKey 2 1 0, 3)] } }, by decide +kernel⟩,
   ⟨471, 3, 0, [(4, 9)], { State.reset with sc := { Switch.reset with queues := [(471, [(3, 0), (4, 9)])], nextId := 5 }, clk := 1250000000 }, by
      decide +kernel⟩,
   ⟨47, 8, { State.reset.set (SC_FC_CFG_mode 47) 1 with sc := { Switch.reset with above := [(47, 256)], heldCells := [(379, 1000000)] } }, by
      decide +kernel⟩⟩

theorem test_PatternsAndMezzanines :
(∃ (a : Nat) (v : Word) (k : Nat) (s : State), (s.up) ∧ (s.sc.slot = 0) ∧ (s.sc.swap = none) ∧ (s.pend = [(a, v, k)]) ∧ (groupOf a = .switch) ∧ (k +
      32 < s.clk) ∧ (isRes a = false) ∧ (a ∉ [SC_STAT, SYS_PBA 0, SYS_PBA 1])) ∧
(∃ (w : MezzSwap) (s : State), (s.up) ∧ (s.sc.slot = 0) ∧ (s.sc.swap = some w)) ∧
(∃ (m : Master) (v : Word) (sp : Nat) (s : State), (reaches m s) ∧ (guardOpen m s = true) ∧ (bitOf v.toNat 4 = true) ∧ (s.sc.swap = none) ∧
      (s.sc.spare = some sp)) ∧
(∃ (m : Master) (v : Word) (s : State), (reaches m s) ∧ (guardOpen m s = false) ∧ (s.bit SYS_GUARD_VIOL 31 = false)) ∧
(∃ (w : MezzSwap) (s : State), (s.up) ∧ (s.sc.swap = some w) ∧ (w.started = true) ∧ (w.old = w.new ∨ s.mezzHolds w.old = 0)) :=
  ⟨⟨SC_Q_CFG 471, 1, 0, { State.reset with pend := [(SC_Q_CFG 471, 1, 0)], clk := 33 }, by decide +kernel⟩,
   ⟨⟨3, 3, 16, false⟩,
      { State.reset with sc := { Switch.reset with swap := some ⟨3, 3, 16, false⟩, spare := none }, pend := [(SC_Q_CFG 471, 1, 5)], clk := 37 }, by
      decide +kernel⟩,
   ⟨.pcie, 0x1F, 16, { State.reset with host := { State.reset.host with guardPcie := true } }, by decide +kernel⟩,
   ⟨.msp, 0x10, State.reset, by decide +kernel⟩,
   ⟨⟨3, 3, 16, true⟩, { State.reset.set SC_MEZZ_STAT_swap_busy 1 with sc := { Switch.reset with swap := some ⟨3, 3, 16, true⟩ } }, by decide +kernel⟩⟩

theorem test_CpuAndTransmitRings :
(∃ (c : Fin 32) (w : List Word) (id : Nat) (since : Nat) (rest : List (Nat × Nat)) (cp : Copy) (s : State), (s.up) ∧ (s.hostServe.1 = some (384 +
      c.val)) ∧ (w.length = 8) ∧ (s.queueOf (384 + c) = (id, since) :: rest) ∧ ((s.pkt id).copies.find? (fun e => decide (e.q = 384 + c.val)) = some
      cp)) ∧
(∃ (c : Fin 32) (s : State), (s.up) ∧ (s.hostServe.1 = some (384 + c.val))) ∧
(∃ (r : Fin 8) (w : List Word) (b : Bytes) (dbm : Bool) (s : State), (s.up) ∧ (s.ringTurn s.sc.txTurn txRing = some r.val) ∧ (w.length = 8) ∧ (s.badTx
      w = false) ∧ (b.length = bitsOf (dw w 0) 13 0)) ∧
(∃ (r : Fin 8) (w : List Word) (b : Bytes) (dbm : Bool) (s : State), (s.up) ∧ (s.ringTurn s.sc.txTurn txRing = some r.val) ∧ (w.length = 8) ∧ (s.badTx
      w = true)) ∧
(∃ (r : Fin 8) (w : List Word) (b : Bytes) (dbm : Bool) (s : State), (s.up) ∧ (s.ringTurn s.sc.txTurn txRing = some r.val) ∧ (w.length = 8) ∧ (s.badTx
      w = false)) ∧
(∃ (r : Fin 8) (b : Bytes) (dma : DmaEnd) (dbm : Bool) (s : State), (s.up) ∧ (s.ringTurn s.sc.txTurn txRing = some r.val)) ∧
(∃ (m : Master) (c : Fin 32) (v : Word) (s : State), (reaches m s)) ∧
(∃ (m : Master) (r : Fin 8) (v : Word) (s : State), (reaches m s)) ∧
(∃ (m : Master) (c : Fin 32) (v : Word) (s : State), (reaches m s)) ∧
(∃ (m : Master) (r : Fin 8) (v : Word) (s : State), (reaches m s)) :=
  ⟨⟨31, [0, 7, 0x1000, 0, 0xFF, 0, 0, 0], 0, 0, [], ⟨415, none, 2, 3⟩,
      { (((((State.reset.set (SC_CPUQ_RING_CFG_enable 31) 1).set (SC_CPUQ_RING_CFG_size_log2 31) 4).set (SC_CPUQ_RING_HEAD_head 31) 1).set (SC_CPUQ_CFG_dest 31) 0).set (SC_Q_OCC_cells 415) 1) with sc := { Switch.reset with frames := [(0, { Pkt.none with bytes := List.replicate 60 1, len := 64, n := 1, whole := true, refs := 1, store := 1, copies := [⟨415, none, 2, 3⟩] })], nextId := 1, queues := [(415, [(0, 0)])] } },
      by decide +kernel⟩,
   ⟨31,
      { (((((State.reset.set (SC_CPUQ_RING_CFG_enable 31) 1).set (SC_CPUQ_RING_CFG_size_log2 31) 4).set (SC_CPUQ_RING_HEAD_head 31) 1).set (SC_CPUQ_CFG_dest 31) 0).set (SC_Q_OCC_cells 415) 1) with sc := { Switch.reset with frames := [(0, { Pkt.none with bytes := List.replicate 60 1, len := 64, n := 1, whole := true, refs := 1, store := 1, copies := [⟨415, none, 2, 3⟩] })], nextId := 1, queues := [(415, [(0, 0)])] } },
      by decide +kernel⟩,
   ⟨7, [0x403C, 7, 0x1000, 0, 0xFF, 0, 0, 0], List.replicate 60 1, true, (((State.reset.set (SC_TXR_CFG_enable 7) 1).set (SC_TXR_CFG_size_log2 7) 4).set
      (SC_TXR_HEAD_head 7) 1), by decide +kernel⟩,
   ⟨7, [59, 7, 0x1000, 0, 0xFF, 0, 0, 0], [], true, (((State.reset.set (SC_TXR_CFG_enable 7) 1).set (SC_TXR_CFG_size_log2 7) 4).set (SC_TXR_HEAD_head 7)
      1), by decide +kernel⟩,
   ⟨7, [0x403C, 7, 0x1000, 0, 0xFF, 0, 0, 0], [], true, (((State.reset.set (SC_TXR_CFG_enable 7) 1).set (SC_TXR_CFG_size_log2 7) 4).set (SC_TXR_HEAD_head
      7) 1), by decide +kernel⟩,
   ⟨7, [], .done, true, (((State.reset.set (SC_TXR_CFG_enable 7) 1).set (SC_TXR_CFG_size_log2 7) 4).set (SC_TXR_HEAD_head 7) 1), by decide +kernel⟩,
   ⟨.pcie, 31, 0xFFF, State.reset, by decide +kernel⟩,
   ⟨.pcie, 7, 0xFFF, State.reset, by decide +kernel⟩,
   ⟨.msp, 31, 0x11, State.reset, by decide +kernel⟩,
   ⟨.msp, 7, 0, (((State.reset.set (SC_TXR_CFG_enable 7) 1).set (SC_TXR_CFG_size_log2 7) 4).set (SC_TXR_HEAD_head 7) 1), by decide +kernel⟩⟩

theorem test_Stairways :
(∃ (p : Fin 48) (s : State), (s.up) ∧ (s.stairOn p = true) ∧ (s.pends (.stair p) = false) ∧ (s.frozen.get none p.val = none)) ∧
(∃ (p : Fin 48) (bank : Nat) (row : Nat) (s : State), (s.up) ∧ (s.stairOn p = true) ∧ (s.pends (.stair p) = false) ∧ (s.frozen.get none p.val = none)
      ∧ (s.on GT_PARITY_valid = false)) ∧
(∃ (p : Fin 48) (v : Word) (k : Nat) (s : State), (s.up) ∧ (s.stairOn p = true) ∧ (s.pend = [(GT_CTRL p, v, k)]) ∧ (k + 32 < s.clk) ∧ (s.frozen.get
      none p.val = none)) ∧
(∃ (p : Fin 48) (s : State), (s.up) ∧ (s.stairOn p = true) ∧ (s.frozen.get none p.val = none)) ∧
(∃ (p : Fin 48) (bank : Nat) (row : Nat) (s : State), (s.up) ∧ (s.stairOn p = true) ∧ (s.frozen.get none p.val = none) ∧ (s.on GT_PARITY_valid =
      false)) ∧
(∃ (p : Fin 48) (k : Fin 8) (lead : Nat) (id : Nat) (since : Nat) (rest : List (Nat × Nat)) (absent : Bool) (s : State), (s.up) ∧ (s.queueOf (8 * p +
      k) = (id, since) :: rest) ∧ ((s.pkt id).early = true) ∧ ((∀ j : Nat, j < 8 → k.val < j → (s.queueOf (8 * p + j)).head?.all (fun e => !(s.pkt
      e.1).early) = true)) ∧ (s.maySend p = false)) ∧
(∃ (p : Fin 48) (k : Fin 8) (lead : Nat) (id : Nat) (since : Nat) (rest : List (Nat × Nat)) (absent : Bool) (s1 : State) (e : Edited) (s : State),
      (s.up) ∧ (s.queueOf (8 * p + k) = (id, since) :: rest) ∧ ((s.pkt id).early = true) ∧ ((∀ j : Nat, j < 8 → k.val < j → (s.queueOf (8 * p +
      j)).head?.all (fun e => !(s.pkt e.1).early) = true)) ∧ (s1 = s.setPkt id { s.pkt id with early := false }) ∧ (s1.maySend p = true) ∧ (s1.paused
      p k = false) ∧ (s1.headFits p k ((s1.tb.move (((lead * 2 ^ 16 : Nat) : Int) + s1.adj (PT_TS_EGR_ADJ p))).fifths) = true) ∧ (s1.edit (s1.pkt id)
      p (s1.copyOf id (8 * p + k)) = .inr e) ∧ ((s1.pkt id).whole = true) ∧ (s1.loopOf p = 0)) :=
  ⟨⟨47, (((State.reset.set (GT_CTRL_enable 47) 1).set (GT_TREAD_DUR_duration 47 0) 300).set (GT_TREAD_DUR_mark 47 0) 1).set (GT_TREAD_GATES_gates 47 0)
      0x81, by decide +kernel⟩,
   ⟨47, 0, 5, (((State.reset.set (GT_CTRL_enable 47) 1).set (GT_TREAD_DUR_duration 47 0) 300).set (GT_TREAD_DUR_mark 47 0) 1).set (GT_TREAD_GATES_gates
      47 0) 0x81, by decide +kernel⟩,
   ⟨47, 3, 0,
      { (((State.reset.set (GT_CTRL_enable 47) 1).set (GT_TREAD_DUR_duration 47 0) 300).set (GT_TREAD_DUR_mark 47 0) 1).set (GT_TREAD_GATES_gates 47 0) 0x81 with pend := [(GT_CTRL 47, 3, 0)], clk := 33 },
      by decide +kernel⟩,
   ⟨47, (((State.reset.set (GT_CTRL_enable 47) 1).set (GT_TREAD_DUR_duration 47 0) 300).set (GT_TREAD_DUR_mark 47 0) 1).set (GT_TREAD_GATES_gates 47 0)
      0x81, by decide +kernel⟩,
   ⟨47, 0, 5, (((State.reset.set (GT_CTRL_enable 47) 1).set (GT_TREAD_DUR_duration 47 0) 300).set (GT_TREAD_DUR_mark 47 0) 1).set (GT_TREAD_GATES_gates
      47 0) 0x81, by decide +kernel⟩,
   ⟨47, 7, 0, 0, 0, [], false,
      { State.reset with sc := { Switch.reset with frames := [(0, { Pkt.none with bytes := List.replicate 60 1, len := 64, n := 1, early := true, store := 1 })], nextId := 1, queues := [(383, [(0, 0)])] } },
      by decide +kernel⟩,
   ⟨5, 7, 0, 0, 0, [], true,
      (({ (((((((State.reset.raise (LN_CTRL_enable 5)).raise (LN_STAT_signal 5)).raise (LN_STAT_cdr_lock 5)).raise (LN_STAT_block_lock 5)).raise (PT_CTRL_enable 5)).set (PT_MAXFRM_max 5) 1518).raise (PT_STAT_link_up 5)) with sc := { Switch.reset with frames := [(0, { Pkt.none with bytes := List.replicate 60 1, len := 64, n := 1, whole := true, early := true, store := 1, refs := 1, copies := [⟨47, none, 0, 0⟩] })], nextId := 1, queues := [(47, [(0, 0)])] } }).setPkt
      0
      { ({ (((((((State.reset.raise (LN_CTRL_enable 5)).raise (LN_STAT_signal 5)).raise (LN_STAT_cdr_lock 5)).raise (LN_STAT_block_lock 5)).raise (PT_CTRL_enable 5)).set (PT_MAXFRM_max 5) 1518).raise (PT_STAT_link_up 5)) with sc := { Switch.reset with frames := [(0, { Pkt.none with bytes := List.replicate 60 1, len := 64, n := 1, whole := true, early := true, store := 1, refs := 1, copies := [⟨47, none, 0, 0⟩] })], nextId := 1, queues := [(47, [(0, 0)])] } }).pkt 0 with early := false }),
      (match
      (({ (((((((State.reset.raise (LN_CTRL_enable 5)).raise (LN_STAT_signal 5)).raise (LN_STAT_cdr_lock 5)).raise (LN_STAT_block_lock 5)).raise (PT_CTRL_enable 5)).set (PT_MAXFRM_max 5) 1518).raise (PT_STAT_link_up 5)) with sc := { Switch.reset with frames := [(0, { Pkt.none with bytes := List.replicate 60 1, len := 64, n := 1, whole := true, early := true, store := 1, refs := 1, copies := [⟨47, none, 0, 0⟩] })], nextId := 1, queues := [(47, [(0, 0)])] } }).setPkt
      0
      { ({ (((((((State.reset.raise (LN_CTRL_enable 5)).raise (LN_STAT_signal 5)).raise (LN_STAT_cdr_lock 5)).raise (LN_STAT_block_lock 5)).raise (PT_CTRL_enable 5)).set (PT_MAXFRM_max 5) 1518).raise (PT_STAT_link_up 5)) with sc := { Switch.reset with frames := [(0, { Pkt.none with bytes := List.replicate 60 1, len := 64, n := 1, whole := true, early := true, store := 1, refs := 1, copies := [⟨47, none, 0, 0⟩] })], nextId := 1, queues := [(47, [(0, 0)])] } }).pkt 0 with early := false }).edit
      ((({ (((((((State.reset.raise (LN_CTRL_enable 5)).raise (LN_STAT_signal 5)).raise (LN_STAT_cdr_lock 5)).raise (LN_STAT_block_lock 5)).raise (PT_CTRL_enable 5)).set (PT_MAXFRM_max 5) 1518).raise (PT_STAT_link_up 5)) with sc := { Switch.reset with frames := [(0, { Pkt.none with bytes := List.replicate 60 1, len := 64, n := 1, whole := true, early := true, store := 1, refs := 1, copies := [⟨47, none, 0, 0⟩] })], nextId := 1, queues := [(47, [(0, 0)])] } }).setPkt
      0
      { ({ (((((((State.reset.raise (LN_CTRL_enable 5)).raise (LN_STAT_signal 5)).raise (LN_STAT_cdr_lock 5)).raise (LN_STAT_block_lock 5)).raise (PT_CTRL_enable 5)).set (PT_MAXFRM_max 5) 1518).raise (PT_STAT_link_up 5)) with sc := { Switch.reset with frames := [(0, { Pkt.none with bytes := List.replicate 60 1, len := 64, n := 1, whole := true, early := true, store := 1, refs := 1, copies := [⟨47, none, 0, 0⟩] })], nextId := 1, queues := [(47, [(0, 0)])] } }).pkt 0 with early := false }).pkt
      0) 5
      ((({ (((((((State.reset.raise (LN_CTRL_enable 5)).raise (LN_STAT_signal 5)).raise (LN_STAT_cdr_lock 5)).raise (LN_STAT_block_lock 5)).raise (PT_CTRL_enable 5)).set (PT_MAXFRM_max 5) 1518).raise (PT_STAT_link_up 5)) with sc := { Switch.reset with frames := [(0, { Pkt.none with bytes := List.replicate 60 1, len := 64, n := 1, whole := true, early := true, store := 1, refs := 1, copies := [⟨47, none, 0, 0⟩] })], nextId := 1, queues := [(47, [(0, 0)])] } }).setPkt
      0
      { ({ (((((((State.reset.raise (LN_CTRL_enable 5)).raise (LN_STAT_signal 5)).raise (LN_STAT_cdr_lock 5)).raise (LN_STAT_block_lock 5)).raise (PT_CTRL_enable 5)).set (PT_MAXFRM_max 5) 1518).raise (PT_STAT_link_up 5)) with sc := { Switch.reset with frames := [(0, { Pkt.none with bytes := List.replicate 60 1, len := 64, n := 1, whole := true, early := true, store := 1, refs := 1, copies := [⟨47, none, 0, 0⟩] })], nextId := 1, queues := [(47, [(0, 0)])] } }).pkt 0 with early := false }).copyOf
      0 47) with | .inr e => e | .inl _ => ⟨[], [], false⟩),
      { (((((((State.reset.raise (LN_CTRL_enable 5)).raise (LN_STAT_signal 5)).raise (LN_STAT_cdr_lock 5)).raise (LN_STAT_block_lock 5)).raise (PT_CTRL_enable 5)).set (PT_MAXFRM_max 5) 1518).raise (PT_STAT_link_up 5)) with sc := { Switch.reset with frames := [(0, { Pkt.none with bytes := List.replicate 60 1, len := 64, n := 1, whole := true, early := true, store := 1, refs := 1, copies := [⟨47, none, 0, 0⟩] })], nextId := 1, queues := [(47, [(0, 0)])] } },
      by decide +kernel⟩⟩

theorem test_TimedActions :
(∃ (m : Master) (v : Word) (s : State), (reaches m s) ∧ (s.armCheck (bitsOf v 7 0) false = 0) ∧ (s.tb.toNat ≤ s.taqTime (bitsOf v 7 0))) ∧
(∃ (m : Master) (v : Word) (s : State), (reaches m s) ∧ (s.armCheck (bitsOf v 7 0) false = 0) ∧ (s.taqTime (bitsOf v 7 0) < s.tb.toNat) ∧ (s.on
      (GT_TAQ_TAG_late_drop (bitsOf v 7 0)) = true)) ∧
(∃ (m : Master) (v : Word) (s : State), (reaches m s) ∧ (s.armCheck (bitsOf v 7 0) false ≠ 0)) ∧
(∃ (m : Master) (v : Word) (s : State), (reaches m s) ∧ (guardOpen m s = true) ∧ (s.armCheck (bitsOf v 7 0) true = 0) ∧ (s.tb.toNat ≤ s.taqTime
      (bitsOf v 7 0))) ∧
(∃ (i : Fin 256) (s : State), (s.up) ∧ (s.taqNext = some i.val)) ∧
(∃ (i : Fin 256) (n : Fin 64) (s : State), (s.up) ∧ (s.taqNext = some i.val) ∧ (s.get (GT_TAQ_ADDR_addr i) = SYS_VEC_MAP n)) ∧
(∃ (m : Master) (v : Word) (s : State), (reaches m s) ∧ (s.taqState (bitsOf v 7 0) = 1)) ∧
(∃ (m : Master) (v : Word) (s : State), (reaches m s) ∧ (s.taqState (bitsOf v 7 0) ≠ 1)) ∧
(∃ (m : Master) (v : Word) (s : State), (reaches m s)) :=
  ⟨⟨.msp, 0xFFF, (((((State.reset.set (GT_TAQ_ADDR_addr 255) (SYS_VEC_MAP 3)).wr (GT_TAQ_VALUE 255) 9).wr (GT_TAQ_MASK 255) 0xFFFFFFFF).set
      (GT_TAQ_SEC_sec_lo 255) 1).set (GT_TAQ_TAG_group 255) 7), by decide +kernel⟩,
   ⟨.msp, 255,
      { (((((State.reset.set (GT_TAQ_ADDR_addr 255) (SYS_VEC_MAP 3)).wr (GT_TAQ_VALUE 255) 9).wr (GT_TAQ_MASK 255) 0xFFFFFFFF).set (GT_TAQ_SEC_sec_lo 255) 1).set (GT_TAQ_TAG_group 255) 7).raise (GT_TAQ_TAG_late_drop 255) with tb := ⟨2 ^ 33, 0, 0⟩ },
      by decide +kernel⟩,
   ⟨.pcie, 255, ((((((State.reset.set (GT_TAQ_ADDR_addr 255) (SYS_VEC_MAP 3)).wr (GT_TAQ_VALUE 255) 9).wr (GT_TAQ_MASK 255) 0xFFFFFFFF).set
      (GT_TAQ_SEC_sec_lo 255) 1).set (GT_TAQ_TAG_group 255) 7).set (GT_TAQ_STATE_state 255) 1), by decide +kernel⟩,
   ⟨.pcie, 255,
      { (((((State.reset.set (GT_TAQ_ADDR_addr 255) (SYS_VEC_MAP 3)).wr (GT_TAQ_VALUE 255) 9).wr (GT_TAQ_MASK 255) 0xFFFFFFFF).set (GT_TAQ_SEC_sec_lo 255) 1).set (GT_TAQ_TAG_group 255) 7).set (GT_TAQ_ADDR_addr 255) SYS_RESET with host := { State.reset.host with guardPcie := true } },
      by decide +kernel⟩,
   ⟨255,
      { ((((((State.reset.set (GT_TAQ_ADDR_addr 255) (SYS_VEC_MAP 3)).wr (GT_TAQ_VALUE 255) 9).wr (GT_TAQ_MASK 255) 0xFFFFFFFF).set (GT_TAQ_SEC_sec_lo 255) 1).set (GT_TAQ_TAG_group 255) 7).set (GT_TAQ_STATE_state 255) 1) with tb := ⟨2 ^ 32 + 1, 7, 0⟩, taq := ⟨[255], [], [255], false⟩ },
      by decide +kernel⟩,
   ⟨255, 3,
      { ((((((State.reset.set (GT_TAQ_ADDR_addr 255) (SYS_VEC_MAP 3)).wr (GT_TAQ_VALUE 255) 9).wr (GT_TAQ_MASK 255) 0xFFFFFFFF).set (GT_TAQ_SEC_sec_lo 255) 1).set (GT_TAQ_TAG_group 255) 7).set (GT_TAQ_STATE_state 255) 1).wr (GT_TAQ_MASK 255) 0x33 with tb := ⟨2 ^ 32 + 1, 7, 0⟩, taq := ⟨[255], [255], [], false⟩ },
      by decide +kernel⟩,
   ⟨.msp, 255, ((((((State.reset.set (GT_TAQ_ADDR_addr 255) (SYS_VEC_MAP 3)).wr (GT_TAQ_VALUE 255) 9).wr (GT_TAQ_MASK 255) 0xFFFFFFFF).set
      (GT_TAQ_SEC_sec_lo 255) 1).set (GT_TAQ_TAG_group 255) 7).set (GT_TAQ_STATE_state 255) 1), by decide +kernel⟩,
   ⟨.msp, 255, (((((State.reset.set (GT_TAQ_ADDR_addr 255) (SYS_VEC_MAP 3)).wr (GT_TAQ_VALUE 255) 9).wr (GT_TAQ_MASK 255) 0xFFFFFFFF).set
      (GT_TAQ_SEC_sec_lo 255) 1).set (GT_TAQ_TAG_group 255) 7), by decide +kernel⟩,
   ⟨.msp, 0x10007, ((((((State.reset.set (GT_TAQ_ADDR_addr 255) (SYS_VEC_MAP 3)).wr (GT_TAQ_VALUE 255) 9).wr (GT_TAQ_MASK 255) 0xFFFFFFFF).set
      (GT_TAQ_SEC_sec_lo 255) 1).set (GT_TAQ_TAG_group 255) 7).set (GT_TAQ_STATE_state 255) 1), by decide +kernel⟩⟩

theorem test_TimeBaseRegisters :
(∃ (m : Master) (v : Word) (k : Nat) (s : State), (reaches m s) ∧ (snapSet m = some k)) ∧
(∃ (m : Master) (v : Word) (s : State), (reaches m s)) ∧
(∃ (m : Master) (v : Word) (s : State), (reaches m s) ∧ (s.tcState s.timeCh = 2) ∧ (s.on TB_OWN_VIOL_valid = false)) ∧
(∃ (m : Master) (v : Word) (s : State), (reaches m s) ∧ (s.tcState s.timeCh ≠ 2) ∧ (s.time.lo.toNat + bitsOf v 7 0 * 2 ^ 32 < incrMin ∨ incrMax <
      s.time.lo.toNat + bitsOf v 7 0 * 2 ^ 32)) ∧
(∃ (m : Master) (v : Word) (s : State), (reaches m s) ∧ (s.tcState s.timeCh ≠ 2) ∧ (incrMin ≤ s.time.lo.toNat + bitsOf v 7 0 * 2 ^ 32) ∧
      (s.time.lo.toNat + bitsOf v 7 0 * 2 ^ 32 ≤ incrMax)) ∧
(∃ (m : Master) (v : Word) (s : State), (reaches m s) ∧ (guardOpen m s = true) ∧ (bitOf v.toNat 0 = true) ∧ (s.get TB_STEP_NS_ns ≤ 999999999)) ∧
(∃ (m : Master) (v : Word) (s : State), (reaches m s) ∧ (guardOpen m s = true) ∧ (bitOf v.toNat 0 = true) ∧ (999999999 < s.get TB_STEP_NS_ns)) ∧
(∃ (m : Master) (v : Word) (s : State), (reaches m s) ∧ (guardOpen m s = true) ∧ (bitOf v.toNat 0 = true) ∧ (s.rootLocked = true)) ∧
(∃ (m : Master) (v : Word) (s : State), (reaches m s) ∧ (guardOpen m s = true) ∧ (s.rootLocked = false)) ∧
(∃ (m : Master) (p : Fin 48) (e : TxStamp) (l : List TxStamp) (s : State), (reaches m s) ∧ (p.val < s.lanes) ∧ (s.txtsOwns m p = true) ∧ (s.txts.get
      [] p = e :: l)) :=
  ⟨⟨.msp, 0, 1, State.reset, by decide +kernel⟩,
   ⟨.mp, 0xFFFFFFFF, State.reset.raise MB_EPOCH_mp_running, by decide +kernel⟩,
   ⟨.msp, 1, State.reset.set (TC_STAT_state State.reset.timeCh) 2, by decide +kernel⟩,
   ⟨.pcie, 1, { State.reset with time := { TimeUnit.reset with lo := 0x9CE0761 } }, by decide +kernel⟩,
   ⟨.pcie, 1, { State.reset with time := { TimeUnit.reset with lo := 0x99CE0760 } }, by decide +kernel⟩,
   ⟨.pcie, 1, { State.reset.wr TB_STEP_NS 0xBB9AC9FF with host := { State.reset.host with guardPcie := true } }, by decide +kernel⟩,
   ⟨.pcie, 1, { State.reset.wr TB_STEP_NS 1000000000 with host := { State.reset.host with guardPcie := true } }, by decide +kernel⟩,
   ⟨.pcie, 3, { State.reset with host := { State.reset.host with guardPcie := true } }, by decide +kernel⟩,
   ⟨.pcie, 1, { State.reset.set SYS_ROOT_STAT_locked 0 with host := { State.reset.host with guardPcie := true } }, by decide +kernel⟩,
   ⟨.pcie, 47, ⟨7, ⟨1, 2, 3⟩, true, false⟩, [⟨8, ⟨1, 2, 3⟩, true, false⟩],
      { State.reset with txts := [(47, [⟨7, ⟨1, 2, 3⟩, true, false⟩, ⟨8, ⟨1, 2, 3⟩, true, false⟩])] }, by decide +kernel⟩⟩

theorem test_TheTimeTick :
(∃ (s : State), (s.power.vin = true ∨ s.power.keep = true) ∧ (s.time.incr = none) ∧ (s.time.step = none) ∧ (s.time.jump = none)) ∧
(∃ (v : Nat) (s : State), (s.power.vin = true ∨ s.power.keep = true) ∧ (s.time.incr = some v) ∧ (v < 2 ^ 40) ∧ (s.time.step = none) ∧ (s.time.jump =
      none)) ∧
(∃ (d : Int) (s : State), (s.power.vin = true ∨ s.power.keep = true) ∧ (s.time.incr = none) ∧ (s.time.step = some d) ∧ (s.time.jump = none) ∧ (0 ≤
      ((s.tb.move s.tbIncr).toNat : Int) + d)) ∧
(∃ (d : Int) (s : State), (s.power.vin = true ∨ s.power.keep = true) ∧ (s.time.incr = none) ∧ (s.time.step = some d) ∧ (s.time.jump = none) ∧
      (((s.tb.move s.tbIncr).toNat : Int) + d < 0)) ∧
(∃ (a : Time) (b : Time) (s : State), (s.power.vin = true ∨ s.power.keep = true) ∧ (s.time.incr = none) ∧ (s.time.step = none) ∧ (s.time.jump = some
      (a, b)) ∧ (b.cycle ≤ a.cycle) ∧ ((∀ p : Nat, p < 48 → s.stairOn p = false))) ∧
(∃ (x : Nat) (k : Nat) (v : Word) (a : Time) (b : Time) (s : State), (s.power.vin = true ∨ s.power.keep = true) ∧ (s.time.incr = none) ∧ (s.time.step
      = none) ∧ (s.time.jump = some (a, b)) ∧ (a.cycle < b.cycle) ∧ (s.pend = [(x, v, k)]) ∧ (x ∈ [TW_ELECT, TW_GAL_ASYM, PX_MAC_LO, PX_MAC_HI,
      PX_CAL_CFG]) ∧ (k + 32 < s.clk)) ∧
(∃ (s : State), (s.power.vin = false) ∧ (s.power.keep = false)) ∧
(∃ (a : Nat) (k : Nat) (v : Word) (egress : Stamp16) (s : State), (s.up) ∧ (s.time.atCycle = true) ∧ (s.pend = [(a, v, k)]) ∧ (a ∈ [TW_ELECT,
      TW_GAL_ASYM, PX_MAC_LO, PX_MAC_HI, PX_CAL_CFG]) ∧ (k + 32 < s.clk)) ∧
(∃ (a : Nat) (k : Nat) (v : Word) (egress : Stamp16) (s : State), (s.up) ∧ (s.time.atCycle = true) ∧ (s.pend = [(a, v, k)]) ∧ (a ∈ [TW_ELECT,
      TW_GAL_ASYM, PX_MAC_LO, PX_MAC_HI, PX_CAL_CFG]) ∧ (s.clk ≤ k + 32)) ∧
(∃ (egress : Stamp16) (s : State), (s.up) ∧ (s.time.atCycle = false)) ∧
(∃ (egress : Stamp16) (s : State), (s.up) ∧ (s.time.atCycle = true)) :=
  ⟨⟨{ State.reset with tb := ⟨5, 999999999, 4294967295⟩, time := { TimeUnit.reset with snaps := [0, 2] } }, by decide +kernel⟩,
   ⟨0x199999999, { State.reset with time := { TimeUnit.reset with incr := some 0x199999999 } }, by decide +kernel⟩,
   ⟨-4294967296, { State.reset with tb := ⟨5, 0, 0⟩, time := { TimeUnit.reset with step := some (-4294967296) } }, by decide +kernel⟩,
   ⟨-42949672960, { State.reset with time := { TimeUnit.reset with step := some (-42949672960) } }, by decide +kernel⟩,
   ⟨⟨5, 0, 0⟩, ⟨4, 0, 0⟩, { State.reset with time := { TimeUnit.reset with jump := some (⟨5, 0, 0⟩, ⟨4, 0, 0⟩) } }, by decide +kernel⟩,
   ⟨PX_CAL_CFG, 0, 0xFFFFFFFF, ⟨5, 0, 0⟩, ⟨6, 0, 0⟩,
      { State.reset with pend := [(PX_CAL_CFG, 0xFFFFFFFF, 0)], clk := 33, time := { TimeUnit.reset with jump := some (⟨5, 0, 0⟩, ⟨6, 0, 0⟩) } }, by
      decide +kernel⟩,
   ⟨{ State.reset with power := { State.reset.power with vin := false, keep := false } }, by decide +kernel⟩,
   ⟨PX_CAL_CFG, 0, 0xFFFFFFFF, ⟨0, 0⟩,
      { State.reset with pend := [(PX_CAL_CFG, 0xFFFFFFFF, 0)], clk := 33, time := { TimeUnit.reset with atCycle := true } }, by decide +kernel⟩,
   ⟨TW_ELECT, 1, 0xFFFFFFFF, ⟨0, 0⟩,
      { State.reset with pend := [(TW_ELECT, 0xFFFFFFFF, 1)], clk := 33, time := { TimeUnit.reset with atCycle := true } }, by decide +kernel⟩,
   ⟨⟨0, 0⟩, State.reset, by decide +kernel⟩,
   ⟨⟨0, 0⟩, { State.reset with time := { TimeUnit.reset with atCycle := true } }, by decide +kernel⟩⟩

theorem test_TimeOfDay :
(∃ (s : State), (s.up) ∧ (bitOf (s.rd TB_TOD_CFG).toNat 4 = true)) ∧
(∃ (s : State), (s.up) ∧ (bitOf (s.rd TB_TOD_CFG).toNat 4 = false)) ∧
(∃ (b : Bytes) (s : State), (s.up) ∧ (s.tod.latched = some b)) ∧
(∃ (r : Fin 12) (s : State), (s.up) ∧ (s.tod.rxFrom r = true)) ∧
(∃ (b : Bytes) (ms : Nat) (s : State), (s.up) ∧ (s.tod.rxFrom (bitsOf s.tod.cfg 23 20) = true) ∧ (b.length = 28) ∧ (slice b 0 2 = bytes [0x46, 0x59])
      ∧ (s.tod.edge = none ∨ ms < 1 ∨ 900 < ms)) ∧
(∃ (b : Bytes) (ms : Nat) (e : Time) (s : State), (s.up) ∧ (s.tod.rxFrom (bitsOf s.tod.cfg 23 20) = true) ∧ (b.length = 28) ∧ (slice b 0 2 = bytes
      [0x46, 0x59]) ∧ (s.tod.edge = some e) ∧ (1 ≤ ms) ∧ (ms ≤ 900) ∧ (beAt b 26 2 ≠ crc16 (slice b 2 24) ∨ byteAt b 3 ≠ 1) ∧ (s.tod.fails = 0)) ∧
(∃ (b : Bytes) (ms : Nat) (e : Time) (s : State), (s.up) ∧ (s.tod.rxFrom (bitsOf s.tod.cfg 23 20) = true) ∧ (b.length = 28) ∧ (slice b 0 2 = bytes
      [0x46, 0x59]) ∧ (s.tod.edge = some e) ∧ (1 ≤ ms) ∧ (ms ≤ 900) ∧ (beAt b 26 2 = crc16 (slice b 2 24)) ∧ (byteAt b 3 = 1) ∧ (s.tod.fails = 0) ∧ (2
      ≤ s.tod.valid)) ∧
(∃ (s : State), (s.up) ∧ (s.tod.rxFrom (bitsOf s.tod.cfg 23 20) = true) ∧ (s.tod.missed = 0)) ∧
(∃ (s : State), (s.up) ∧ (s.tod.rxFrom (bitsOf s.tod.cfg 23 20) = true) ∧ (1 ≤ s.tod.missed) ∧ (s.on TB_TOD_STAT_rx_fault = false)) ∧
(∃ (n : Fin 4) (r : MbReq) (s : State), (serving n 0x2004 r s) ∧ (r.payload.length = 8) ∧ (byteAt r.payload 0 ≤ 7) ∧ (byteAt r.payload 1 ≤ 3) ∧ (leAt
      r.payload 2 2 ≤ 511) ∧ (byteAt r.payload 4 ≤ 15) ∧ (byteAt r.payload 5 ≤ 1) ∧ (leAt r.payload 6 2 = 0)) :=
  ⟨⟨{ State.reset.raise TB_TOD_CFG_tx_en with tb := ⟨7, 0, 0⟩, tod := { State.reset.tod with seq := 255 } }, by decide +kernel⟩,
   ⟨State.reset.raise TB_TOD_CFG_rx_en, by decide +kernel⟩,
   ⟨[1], { State.reset with tod := { State.reset.tod with latched := some [1] } }, by decide +kernel⟩,
   ⟨11, { State.reset with tod := { State.reset.tod with cfg := 0x00B00034, edge := some ⟨99, 600000000, 0⟩, valid := 2, offered := true } }, by
      decide +kernel⟩,
   ⟨(let body := bytes [1, 1] ++ beBytes 2 20 ++ beBytes 6 100 ++ zeros 14; bytes [0x46, 0x59] ++ body ++ beBytes 2 (crc16 body)), 901,
      { State.reset with tod := { State.reset.tod with cfg := 0x00B00034, edge := some ⟨99, 600000000, 0⟩, valid := 2, offered := true } }, by
      decide +kernel⟩,
   ⟨((let body := bytes [1, 1] ++ beBytes 2 20 ++ beBytes 6 100 ++ zeros 14; bytes [0x46, 0x59] ++ body ++ beBytes 2 (crc16 body))).set 8 1, 900, ⟨99,
      600000000, 0⟩,
      { State.reset with tod := { State.reset.tod with cfg := 0x00B00034, edge := some ⟨99, 600000000, 0⟩, valid := 2, offered := true } }, by
      decide +kernel⟩,
   ⟨(let body := bytes [1, 1] ++ beBytes 2 20 ++ beBytes 6 100 ++ zeros 14; bytes [0x46, 0x59] ++ body ++ beBytes 2 (crc16 body)), 1, ⟨99, 600000000, 0⟩,
      { State.reset with tod := { State.reset.tod with cfg := 0x00B00034, edge := some ⟨99, 600000000, 0⟩, valid := 2, offered := true } }, by
      decide +kernel⟩,
   ⟨{ State.reset with tod := { State.reset.tod with cfg := 0x00B00034, edge := some ⟨99, 600000000, 0⟩, valid := 2, offered := true } }, by
      decide +kernel⟩,
   ⟨{ State.reset.raise TB_TOD_STAT_rx_qual with tod := { State.reset.tod with cfg := 0x00B00034, missed := 1 } }, by decide +kernel⟩,
   ⟨3, ⟨0x2004, 5, 0, 1, 0, [7, 3, 0xFF, 1, 15, 1, 0, 0]⟩, ((State.reset.set (MB_STAT_state 3) 2).raise MB_EPOCH_mp_running).setMb 3
      { Mbox.empty with taken := some ⟨0x2004, 5, 0, 1, 0, [7, 3, 0xFF, 1, 15, 1, 0, 0]⟩ }, by decide +kernel⟩⟩

theorem test_PtpInstance :
(∃ (n : Fin 4) (r : MbReq) (s : State), (serving n 0x2000 r s) ∧ (r.payload.length = 16) ∧ (byteAt r.payload 0 ≤ 3) ∧ (byteAt r.payload 2 ≤ 3) ∧
      (byteAt r.payload 5 ≠ 0) ∧ (byteAt r.payload 7 ≤ 3) ∧ (100 ≤ leAt r.payload 8 4) ∧ (leAt r.payload 8 4 ≤ 1000000000) ∧ (leAt r.payload 12 4 = 0)
      ∧ (domainOk (byteAt r.payload 0) (byteAt r.payload 1) = true) ∧ (clockTypeOk (byteAt r.payload 0) (byteAt r.payload 2) = true)) ∧
(∃ (n : Fin 4) (r : MbReq) (p : Fin 48) (s : State), (serving n 0x2001 r s) ∧ (r.payload.length = 16) ∧ (byteAt r.payload 0 = p.val) ∧ (p.val <
      s.lanes) ∧ (byteAt r.payload 1 = 1) ∧ (byteAt r.payload 2 ≤ 3) ∧ (byteAt r.payload 3 = 1 ∨ (byteAt r.payload 3 = 2 ∧ s.on (PX_LINK_CTRL_enable
      p) = false)) ∧ (-7 ≤ signed 8 (byteAt r.payload 4)) ∧ (signed 8 (byteAt r.payload 4) ≤ 0) ∧ (-7 ≤ signed 8 (byteAt r.payload 5)) ∧ (signed 8
      (byteAt r.payload 5) ≤ 0) ∧ (-3 ≤ signed 8 (byteAt r.payload 6)) ∧ (signed 8 (byteAt r.payload 6) ≤ 3) ∧ (byteAt r.payload 7 ≤ 2) ∧ (byteAt
      r.payload 8 ≠ 0) ∧ (byteAt r.payload 9 ≤ 3) ∧ (leAt r.payload 10 2 = 0)) ∧
(∃ (n : Fin 4) (r : MbReq) (p : Fin 48) (s : State), (serving n 0x2001 r s) ∧ (r.payload.length = 16) ∧ (byteAt r.payload 0 = p.val) ∧ (p.val <
      s.lanes) ∧ (byteAt r.payload 1 = 0) ∧ (byteAt r.payload 2 ≤ 3) ∧ (byteAt r.payload 3 = 1) ∧ (-7 ≤ signed 8 (byteAt r.payload 4)) ∧ (signed 8
      (byteAt r.payload 4) ≤ 0) ∧ (-7 ≤ signed 8 (byteAt r.payload 5)) ∧ (signed 8 (byteAt r.payload 5) ≤ 0) ∧ (-3 ≤ signed 8 (byteAt r.payload 6)) ∧
      (signed 8 (byteAt r.payload 6) ≤ 3) ∧ (byteAt r.payload 7 ≤ 2) ∧ (byteAt r.payload 8 ≠ 0) ∧ (byteAt r.payload 9 ≤ 3) ∧ (leAt r.payload 10 2 =
      0)) ∧
(∃ (n : Fin 4) (r : MbReq) (p : Fin 48) (s : State), (serving n 0x2002 r s) ∧ (r.payload.length = 4) ∧ (byteAt r.payload 0 = p.val) ∧ (p.val <
      s.lanes) ∧ (leAt r.payload 1 3 = 0)) ∧
(∃ (n : Fin 4) (r : MbReq) (b : Bytes) (s : State), (serving n 0x2003 r s) ∧ (r.payload.length = 4) ∧ (byteAt r.payload 0 ≤ 3 ∨ (byteAt r.payload 0 =
      4 ∧ s.portCheck (byteAt r.payload 1) = none)) ∧ (leAt r.payload 2 2 = 0) ∧ (s.dataset (byteAt r.payload 0) (byteAt r.payload 1) = some b)) ∧
(∃ (c : Fin 32) (ports : List (Fin 48 × Nat × Int)) (after : PtpData) (fresh : Option (Fin 65536)) (ql : Option (Fin 16)) (grants : Fin 65 × Fin 5) (x
      : Pkt) (s : State), (s.up) ∧ (s.mpFrame c = some x) ∧ (x.sysClass = 1) ∧ (s.ptpTakes x.port (s.ptpMsg x) = true) ∧ (byteAt (s.ptpMsg x) 0 % 16 ≠
      13)) ∧
(∃ (c : Fin 32) (ports : List (Fin 48 × Nat × Int)) (after : PtpData) (fresh : Option (Fin 65536)) (ql : Option (Fin 16)) (grants : Fin 65 × Fin 5) (x
      : Pkt) (s : State), (s.up) ∧ (s.mpFrame c = some x) ∧ (x.sysClass = 1) ∧ (s.ptpTakes x.port (s.ptpMsg x) = true) ∧ (byteAt (s.ptpMsg x) 0 % 16 =
      13)) ∧
(∃ (c : Fin 32) (ports : List (Fin 48 × Nat × Int)) (after : PtpData) (fresh : Option (Fin 65536)) (ql : Option (Fin 16)) (grants : Fin 65 × Fin 5) (x
      : Pkt) (s : State), (s.up) ∧ (s.mpFrame c = some x) ∧ (x.sysClass = 1) ∧ (s.ptpTakes x.port (s.ptpMsg x) = false)) ∧
(∃ (p : Fin 48) (tc : Fin 8) (hdr : Bytes) (msg : Bytes) (id : Option (Fin 65536)) (dbm : Bool) (x : PtpPort) (b : Bytes) (s : State), (s.up) ∧
      (s.ptpOf p = some x) ∧ (s.stacksRun = true) ∧ (s.ptpSends p x msg = true) ∧ (b = hdr ++ s.announced msg ++ zeros (60 - (hdr ++ s.announced
      msg).length)) ∧ (s.portOff p = false) ∧ (s.noMac p = false) ∧ (s.on (PT_STAT_link_up p) = true) ∧ (b.length + 4 ≤ s.get (PT_MAXFRM_max p)) ∧
      ((s.queueOf (424 + p)).length < 64) ∧ (cellsOf (b.length + 4) ≤ s.get SC_BUF_STAT_sram_free)) :=
  ⟨⟨2, ⟨0x2000, 5, 0, 1, 0, [3, 63, 1, 1, 2, 3, 4, 3, 100, 0, 0, 0, 0, 0, 0, 0]⟩, (((State.reset.set (TC_REF_FREQ_active 60) 1).set (MB_STAT_state 2)
      2).raise MB_EPOCH_mp_running).setMb 2
      { Mbox.empty with taken := some ⟨0x2000, 5, 0, 1, 0, [3, 63, 1, 1, 2, 3, 4, 3, 100, 0, 0, 0, 0, 0, 0, 0]⟩ }, by decide +kernel⟩,
   ⟨0, ⟨0x2001, 5, 0, 1, 0, [47, 1, 3, 1, 0xF9, 0, 3, 2, 1, 3, 0, 0, 0xFF, 0xFF, 0xFF, 0xFF]⟩, 47, ((State.reset.set (MB_STAT_state 0) 2).raise
      MB_EPOCH_mp_running).setMb 0
      { Mbox.empty with taken := some ⟨0x2001, 5, 0, 1, 0, [47, 1, 3, 1, 0xF9, 0, 3, 2, 1, 3, 0, 0, 0xFF, 0xFF, 0xFF, 0xFF]⟩ }, by decide +kernel⟩,
   ⟨0, ⟨0x2001, 5, 0, 1, 0, [47, 0, 3, 1, 0xF9, 0, 3, 2, 1, 3, 0, 0, 0xFF, 0xFF, 0xFF, 0xFF]⟩, 47, ((State.reset.set (MB_STAT_state 0) 2).raise
      MB_EPOCH_mp_running).setMb 0
      { Mbox.empty with taken := some ⟨0x2001, 5, 0, 1, 0, [47, 0, 3, 1, 0xF9, 0, 3, 2, 1, 3, 0, 0, 0xFF, 0xFF, 0xFF, 0xFF]⟩ }, by decide +kernel⟩,
   ⟨1, ⟨0x2002, 5, 0, 1, 0, [47, 0, 0, 0]⟩, 47, ((State.reset.set (MB_STAT_state 1) 2).raise MB_EPOCH_mp_running).setMb 1
      { Mbox.empty with taken := some ⟨0x2002, 5, 0, 1, 0, [47, 0, 0, 0]⟩ }, by decide +kernel⟩,
   ⟨1, ⟨0x2003, 5, 0, 1, 0, [1, 0, 0, 0]⟩, zeros 18, ((State.reset.set (MB_STAT_state 1) 2).raise MB_EPOCH_mp_running).setMb 1
      { Mbox.empty with taken := some ⟨0x2003, 5, 0, 1, 0, [1, 0, 0, 0]⟩ }, by decide +kernel⟩,
   ⟨31, [(5, 9, 0)], { State.reset.ptp.data with utc := 38 }, some 0, some 3, (64, 4),
      ({ ((((({ State.reset.raise MB_EPOCH_mp_running with ptp := { State.reset.ptp with profile := 1, ports := [(5, some ⟨0, 1, 0, 0, 0, 0, 128, 0, 9, 0⟩)] } }).set SC_BUF_STAT_sram_free 100).set (SC_Q_OCC_cells 415) 1).set (SC_CPUQ_CFG_dest 31) 1)) with sc := { Switch.reset with frames := [(0, { Pkt.none with bytes := List.replicate 60 0, len := 64, n := 1, port := 5, whole := true, refs := 1, store := 1, sysClass := 1, copies := [⟨415, none, 2, 3⟩] })], nextId := 1, queues := [(415, [(0, 0)])] } }).pkt
      0,
      { ((((({ State.reset.raise MB_EPOCH_mp_running with ptp := { State.reset.ptp with profile := 1, ports := [(5, some ⟨0, 1, 0, 0, 0, 0, 128, 0, 9, 0⟩)] } }).set SC_BUF_STAT_sram_free 100).set (SC_Q_OCC_cells 415) 1).set (SC_CPUQ_CFG_dest 31) 1)) with sc := { Switch.reset with frames := [(0, { Pkt.none with bytes := List.replicate 60 0, len := 64, n := 1, port := 5, whole := true, refs := 1, store := 1, sysClass := 1, copies := [⟨415, none, 2, 3⟩] })], nextId := 1, queues := [(415, [(0, 0)])] } },
      by decide +kernel⟩,
   ⟨31, [], State.reset.ptp.data, none, none, (0, 0),
      ({ ((((({ State.reset.raise MB_EPOCH_mp_running with ptp := { State.reset.ptp with profile := 1, ports := [(5, some ⟨0, 1, 0, 0, 0, 0, 128, 0, 9, 0⟩)] } }).set SC_BUF_STAT_sram_free 100).set (SC_Q_OCC_cells 415) 1).set (SC_CPUQ_CFG_dest 31) 1)) with sc := { Switch.reset with frames := [(0, { Pkt.none with bytes := List.replicate 60 0 |>.set 14 13, len := 64, n := 1, port := 5, whole := true, refs := 1, store := 1, sysClass := 1, copies := [⟨415, none, 2, 3⟩] })], nextId := 1, queues := [(415, [(0, 0)])] } }).pkt
      0,
      { ((((({ State.reset.raise MB_EPOCH_mp_running with ptp := { State.reset.ptp with profile := 1, ports := [(5, some ⟨0, 1, 0, 0, 0, 0, 128, 0, 9, 0⟩)] } }).set SC_BUF_STAT_sram_free 100).set (SC_Q_OCC_cells 415) 1).set (SC_CPUQ_CFG_dest 31) 1)) with sc := { Switch.reset with frames := [(0, { Pkt.none with bytes := List.replicate 60 0 |>.set 14 13, len := 64, n := 1, port := 5, whole := true, refs := 1, store := 1, sysClass := 1, copies := [⟨415, none, 2, 3⟩] })], nextId := 1, queues := [(415, [(0, 0)])] } },
      by decide +kernel⟩,
   ⟨31, [], State.reset.ptp.data, none, none, (0, 0),
      ({ ((((({ State.reset.raise MB_EPOCH_mp_running with ptp := { State.reset.ptp with profile := 1, ports := [(5, some ⟨0, 1, 0, 0, 0, 0, 128, 0, 9, 0⟩)] } }).set SC_BUF_STAT_sram_free 100).set (SC_Q_OCC_cells 415) 1).set (SC_CPUQ_CFG_dest 31) 1)) with sc := { Switch.reset with frames := [(0, { Pkt.none with bytes := List.replicate 60 0 |>.set 14 16, len := 64, n := 1, port := 5, whole := true, refs := 1, store := 1, sysClass := 1, copies := [⟨415, none, 2, 3⟩] })], nextId := 1, queues := [(415, [(0, 0)])] } }).pkt
      0,
      { ((((({ State.reset.raise MB_EPOCH_mp_running with ptp := { State.reset.ptp with profile := 1, ports := [(5, some ⟨0, 1, 0, 0, 0, 0, 128, 0, 9, 0⟩)] } }).set SC_BUF_STAT_sram_free 100).set (SC_Q_OCC_cells 415) 1).set (SC_CPUQ_CFG_dest 31) 1)) with sc := { Switch.reset with frames := [(0, { Pkt.none with bytes := List.replicate 60 0 |>.set 14 16, len := 64, n := 1, port := 5, whole := true, refs := 1, store := 1, sysClass := 1, copies := [⟨415, none, 2, 3⟩] })], nextId := 1, queues := [(415, [(0, 0)])] } },
      by decide +kernel⟩,
   ⟨5, 7, List.replicate 14 1, List.replicate 44 0, some 3, true, ⟨0, 1, 0, 0, 0, 0, 128, 0, 9, 0⟩, List.replicate 14 1 ++ (List.replicate 44 0) ++ zeros
      2,
      { ((((((((State.reset.raise (LN_CTRL_enable 5)).raise (LN_STAT_signal 5)).raise (LN_STAT_cdr_lock 5)).raise (LN_STAT_block_lock 5)).raise (PT_CTRL_enable 5)).set (PT_MAXFRM_max 5) 1518).raise (PT_STAT_link_up 5))).raise MB_EPOCH_mp_running with ptp := { State.reset.ptp with profile := 1, twoStep := false, ports := [(5, some ⟨0, 1, 0, 0, 0, 0, 128, 0, 9, 0⟩)] } },
      by decide +kernel⟩⟩

theorem test_FplMessages :
(∃ (p : Fin 48) (d : Bool) (s : State), (s.up) ∧ (s.linkState p = 1) ∧ ((s.linkOf p).role = some d) ∧ (s.on (LN_STAT_clk_valid p) = true) ∧
      (s.portHere p = true) ∧ (classTRoom p 64 s = true)) ∧
(∃ (p : Fin 48) (b : Bytes) (s : State), (s.up) ∧ (s.fplTakes p = true) ∧ (s.fplRead b = none)) ∧
(∃ (p : Fin 48) (b : Bytes) (m : FplMsg) (d : Bool) (s : State), (s.up) ∧ (s.fplTakes p = true) ∧ (s.fplRead b = some m) ∧ (m.kind = 0) ∧ (s.linkState
      p = 1) ∧ ((s.linkOf p).role = some d) ∧ (m.node ≠ s.get PX_CTRL_node_id) ∧ (m.node < 2 ^ 16) ∧ (m.port < 2 ^ 8) ∧ (m.claims = (if d then 1 else
      2))) ∧
(∃ (p : Fin 48) (b : Bytes) (m : FplMsg) (d : Bool) (s : State), (s.up) ∧ (s.fplTakes p = true) ∧ (s.fplRead b = some m) ∧ (m.kind = 0) ∧ (s.linkState
      p = 1) ∧ ((s.linkOf p).role = some d) ∧ (m.node ≠ s.get PX_CTRL_node_id) ∧ (m.claims = (if d then 2 else 1))) ∧
(∃ (p : Fin 48) (b : Bytes) (m : FplMsg) (s : State), (s.up) ∧ (s.fplTakes p = true) ∧ (s.fplRead b = some m) ∧ (m.kind = 3)) ∧
(∃ (p : Fin 48) (rep : Option Exch) (s : State), (s.up) ∧ (s.linkUp p = true) ∧ ((s.linkOf p).role = some false) ∧ (classTRoom p 128 s = true) ∧ (rep
      = (s.linkOf p).recs.find? (fun e => e.b.isSome && !e.reported)) ∧ (s.tb.cycle % 2 ^ s.get (PX_LINK_CTRL_interval_log p) = 0)) ∧
(∃ (p : Fin 48) (lead : Nat) (q : Nat) (id : Nat) (since : Nat) (n : Nat) (rest : List (Nat × Nat)) (e : Edited) (s1 : State) (s : State), (s.up) ∧
      (s.maySend p = true) ∧ (s.sc.flowOut.get [] p = []) ∧ ((s.noFit p).serve p (((s.noFit p).tb.move (((lead * 2 ^ 16 : Nat) : Int) + (s.noFit
      p).adj (PT_TS_EGR_ADJ p))).fifths) = (some q, s1)) ∧ (s1.queueOf q = (id, since) :: rest) ∧ (s1.edit (s1.pkt id) p (s1.copyOf id q) = .inr e) ∧
      ((s1.pkt id).whole = true) ∧ (s1.loopOf p = 0) ∧ ((s1.pkt id).fpl = some (n, false)) ∧ (s1.linkUp p = true)) ∧
(∃ (p : Fin 48) (b : Bytes) (m : FplMsg) (t2 : Int) (frac : Fin 65536) (s : State), (s.up) ∧ (s.fplTakes p = true) ∧ (s.fplRead b = some m) ∧ (m.kind
      = 1) ∧ (s.linkUp p = true) ∧ (s.get (PX_FAR_node p) = m.node) ∧ (s.get (PX_FAR_port p) = m.port) ∧ (s.linkDown p = true) ∧ (classTRoom p 128 s =
      true) ∧ (m.tlv 2 28 = none)) ∧
(∃ (p : Fin 48) (b : Bytes) (m : FplMsg) (t2 : Int) (t3a : Int) (frac : Fin 65536) (x : Bytes) (ph : Bytes) (e : Exch) (s1 : State) (s : State),
      (s.up) ∧ (s.fplTakes p = true) ∧ (s.fplRead b = some m) ∧ (m.kind = 1) ∧ (s.linkUp p = true) ∧ (s.get (PX_FAR_node p) = m.node) ∧ (s.get
      (PX_FAR_port p) = m.port) ∧ (s.linkDown p = true) ∧ (m.tlv 2 28 = some x) ∧ (m.tlv 3 8 = some ph) ∧ (s1 = (s.farMessage p m).2) ∧ ((s1.linkOf
      p).recs.find? (fun e => decide (e.seq = beAt x 0 2)) = some e) ∧ (e.b = some t3a) ∧ (s.rootLocked = true) ∧ (bitOf m.flags 4 = false) ∧ (bitOf
      m.flags 2 = false) ∧ (e.steps = s.get TB_STEP_CNT_count) ∧ ((phaseAt ph 0).isSome = true) ∧ ((phaseAt ph 4).isSome = true) ∧ (e.psi.isSome =
      true) ∧ (e.chi.isSome = true)) ∧
(∃ (p : Fin 48) (b : Bytes) (m : FplMsg) (t4 : Int) (r : Bytes) (ph : Bytes) (s : State), (s.up) ∧ (s.fplTakes p = true) ∧ (s.fplRead b = some m) ∧
      (m.kind = 2) ∧ (s.linkUp p = true) ∧ (s.get (PX_FAR_node p) = m.node) ∧ (s.get (PX_FAR_port p) = m.port) ∧ ((s.linkOf p).role = some false) ∧
      (s.rootLocked = true) ∧ (m.tlv 4 28 = some r) ∧ (m.tlv 3 8 = some ph) ∧ (bitOf m.flags 4 = false) ∧ ((s.linkOf p).recs.all (fun e => decide
      (e.seq ≠ beAt r 0 2) || decide (e.steps = s.get TB_STEP_CNT_count)) = true)) ∧
(∃ (p : Fin 48) (b : Bytes) (m : FplMsg) (t4 : Int) (r : Bytes) (ph : Bytes) (s : State), (s.up) ∧ (s.fplTakes p = true) ∧ (s.fplRead b = some m) ∧
      (m.kind = 2) ∧ (s.linkUp p = true) ∧ (s.get (PX_FAR_node p) = m.node) ∧ (s.get (PX_FAR_port p) = m.port) ∧ ((s.linkOf p).role = some false) ∧
      (s.rootLocked = true) ∧ (m.tlv 4 28 = some r) ∧ (m.tlv 3 8 = some ph) ∧ (bitOf m.flags 4 = true)) ∧
(∃ (p : Fin 48) (s : State), (s.up) ∧ (s.linkUp p = true) ∧ ((s.linkOf p).farCal.all (fun k => decide (k + 6250000 < s.clk)) = true) ∧ ((s.linkOf
      p).missed = false)) ∧
(∃ (p : Fin 48) (s : State), (s.up) ∧ (s.linkUp p = true) ∧ ((s.linkOf p).farCal.all (fun k => decide (k + 6250000 < s.clk)) = true) ∧ ((s.linkOf
      p).missed = true)) ∧
(∃ (p : Fin 48) (k : Nat) (s : State), (s.up) ∧ ((s.linkOf p).farCal = some k) ∧ (s.clk ≤ k + 6250000)) :=
  ⟨⟨5, true,
      { ((((((((State.reset.raise (LN_CTRL_enable 5)).raise (PT_CTRL_enable 5)).raise (PT_STAT_link_up 5)).raise (LN_STAT_clk_valid 5)).set (PX_STAT_state 5) 1)).set (PT_MAXFRM_max 5) 1518).set SC_BUF_STAT_sram_free 100) with px := [(5, { Link.reset with role := some true })] },
      by decide +kernel⟩,
   ⟨5, [0x10],
      { ((((((((State.reset.raise (LN_CTRL_enable 5)).raise (PT_CTRL_enable 5)).raise (PT_STAT_link_up 5)).raise (LN_STAT_clk_valid 5)).set (PX_STAT_state 5) 1)).set (PT_MAXFRM_max 5) 1518).set SC_BUF_STAT_sram_free 100) with px := [(5, { Link.reset with role := some false })] },
      by decide +kernel⟩,
   ⟨5, ([0x10, 0] ++ beBytes 2 24 ++ beBytes 2 9 ++ beBytes 2 77 ++ [0, 3, 3, 0] ++ tlvBytes 1 (beBytes 2 (3 + 4 * 2) ++ beBytes 2 26 ++ [0, 0] ++
      beBytes 2 0xFFFF)), (((State.reset.fplRead ([0x10, 0] ++ beBytes 2 24 ++ beBytes 2 9 ++ beBytes 2 77 ++ [0, 3, 3, 0] ++ tlvBytes 1 (beBytes 2 (3
      + 4 * 2) ++ beBytes 2 26 ++ [0, 0] ++ beBytes 2 0xFFFF)))).getD ⟨0, 0, 0, 0, 0, 0, []⟩), false,
      { ((((((((State.reset.raise (LN_CTRL_enable 5)).raise (PT_CTRL_enable 5)).raise (PT_STAT_link_up 5)).raise (LN_STAT_clk_valid 5)).set (PX_STAT_state 5) 1)).set (PT_MAXFRM_max 5) 1518).set SC_BUF_STAT_sram_free 100) with px := [(5, { Link.reset with role := some false })] },
      by decide +kernel⟩,
   ⟨5, ([0x10, 0] ++ beBytes 2 24 ++ beBytes 2 9 ++ beBytes 2 77 ++ [0, 3, 3, 0] ++ tlvBytes 1 (beBytes 2 (3 + 4 * 1) ++ beBytes 2 26 ++ [0, 0] ++
      beBytes 2 0xFFFF)), (((State.reset.fplRead ([0x10, 0] ++ beBytes 2 24 ++ beBytes 2 9 ++ beBytes 2 77 ++ [0, 3, 3, 0] ++ tlvBytes 1 (beBytes 2 (3
      + 4 * 1) ++ beBytes 2 26 ++ [0, 0] ++ beBytes 2 0xFFFF)))).getD ⟨0, 0, 0, 0, 0, 0, []⟩), false,
      { ((((((((State.reset.raise (LN_CTRL_enable 5)).raise (PT_CTRL_enable 5)).raise (PT_STAT_link_up 5)).raise (LN_STAT_clk_valid 5)).set (PX_STAT_state 5) 1)).set (PT_MAXFRM_max 5) 1518).set SC_BUF_STAT_sram_free 100) with px := [(5, { Link.reset with role := some false })] },
      by decide +kernel⟩,
   ⟨5, [0x13, 0, 0, 12, 0, 0, 0, 0, 0, 0, 3, 0], (((State.reset.fplRead [0x13, 0, 0, 12, 0, 0, 0, 0, 0, 0, 3, 0])).getD ⟨0, 0, 0, 0, 0, 0, []⟩),
      { ((((((((State.reset.raise (LN_CTRL_enable 5)).raise (PT_CTRL_enable 5)).raise (PT_STAT_link_up 5)).raise (LN_STAT_clk_valid 5)).set (PX_STAT_state 5) 2)).set (PT_MAXFRM_max 5) 1518).set SC_BUF_STAT_sram_free 100) with px := [(5, { Link.reset with role := some false })] },
      by decide +kernel⟩,
   ⟨5, some ⟨8, 0, 200000, some 700000, some 5, some 6, 0, false⟩,
      { ((((((((State.reset.raise (LN_CTRL_enable 5)).raise (PT_CTRL_enable 5)).raise (PT_STAT_link_up 5)).raise (LN_STAT_clk_valid 5)).set (PX_STAT_state 5) 4)).set (PT_MAXFRM_max 5) 1518).set SC_BUF_STAT_sram_free 100) with px := [(5, { Link.reset with role := some false, next := 65535, recs := [⟨8, 0, 200000, some 700000, some 5, some 6, 0, false⟩] })] },
      by decide +kernel⟩,
   ⟨5, 9, 429, 0, 0, 7, [], (match
      (({ { ((((((((State.reset.raise (LN_CTRL_enable 5)).raise (PT_CTRL_enable 5)).raise (PT_STAT_link_up 5)).raise (LN_STAT_clk_valid 5)).set (PX_STAT_state 5) 4)).set (PT_MAXFRM_max 5) 1518).set SC_BUF_STAT_sram_free 100) with px := [(5, { Link.reset with role := some false })] } with sc := { Switch.reset with frames := [(0, { Pkt.none with bytes := zeros 60, len := 64, whole := true, store := 1, n := 1, refs := 1, fpl := some (7, false), copies := [⟨429, none, 0, 0⟩] })], nextId := 1, queues := [(429, [(0, 0)])] } }).noFit
      5).edit
      ((({ { ((((((((State.reset.raise (LN_CTRL_enable 5)).raise (PT_CTRL_enable 5)).raise (PT_STAT_link_up 5)).raise (LN_STAT_clk_valid 5)).set (PX_STAT_state 5) 4)).set (PT_MAXFRM_max 5) 1518).set SC_BUF_STAT_sram_free 100) with px := [(5, { Link.reset with role := some false })] } with sc := { Switch.reset with frames := [(0, { Pkt.none with bytes := zeros 60, len := 64, whole := true, store := 1, n := 1, refs := 1, fpl := some (7, false), copies := [⟨429, none, 0, 0⟩] })], nextId := 1, queues := [(429, [(0, 0)])] } }).noFit
      5).pkt 0) 5
      ((({ { ((((((((State.reset.raise (LN_CTRL_enable 5)).raise (PT_CTRL_enable 5)).raise (PT_STAT_link_up 5)).raise (LN_STAT_clk_valid 5)).set (PX_STAT_state 5) 4)).set (PT_MAXFRM_max 5) 1518).set SC_BUF_STAT_sram_free 100) with px := [(5, { Link.reset with role := some false })] } with sc := { Switch.reset with frames := [(0, { Pkt.none with bytes := zeros 60, len := 64, whole := true, store := 1, n := 1, refs := 1, fpl := some (7, false), copies := [⟨429, none, 0, 0⟩] })], nextId := 1, queues := [(429, [(0, 0)])] } }).noFit
      5).copyOf 0 429) with | .inr e => e | .inl _ => ⟨[], [], false⟩),
      (({ { ((((((((State.reset.raise (LN_CTRL_enable 5)).raise (PT_CTRL_enable 5)).raise (PT_STAT_link_up 5)).raise (LN_STAT_clk_valid 5)).set (PX_STAT_state 5) 4)).set (PT_MAXFRM_max 5) 1518).set SC_BUF_STAT_sram_free 100) with px := [(5, { Link.reset with role := some false })] } with sc := { Switch.reset with frames := [(0, { Pkt.none with bytes := zeros 60, len := 64, whole := true, store := 1, n := 1, refs := 1, fpl := some (7, false), copies := [⟨429, none, 0, 0⟩] })], nextId := 1, queues := [(429, [(0, 0)])] } }).noFit
      5),
      { { ((((((((State.reset.raise (LN_CTRL_enable 5)).raise (PT_CTRL_enable 5)).raise (PT_STAT_link_up 5)).raise (LN_STAT_clk_valid 5)).set (PX_STAT_state 5) 4)).set (PT_MAXFRM_max 5) 1518).set SC_BUF_STAT_sram_free 100) with px := [(5, { Link.reset with role := some false })] } with sc := { Switch.reset with frames := [(0, { Pkt.none with bytes := zeros 60, len := 64, whole := true, store := 1, n := 1, refs := 1, fpl := some (7, false), copies := [⟨429, none, 0, 0⟩] })], nextId := 1, queues := [(429, [(0, 0)])] } },
      by decide +kernel⟩,
   ⟨5, (([0x11, 0x60] ++ beBytes 2 24 ++ beBytes 2 9 ++ beBytes 2 0 ++ [0, 0, 3, 0]) ++ tlvBytes 3 (beBytes 4 0x80000007 ++ beBytes 4 0x80000008)),
      (((State.reset.fplRead (([0x11, 0x60] ++ beBytes 2 24 ++ beBytes 2 9 ++ beBytes 2 0 ++ [0, 0, 3, 0]) ++ tlvBytes 3 (beBytes 4 0x80000007 ++
      beBytes 4 0x80000008)))).getD ⟨0, 0, 0, 0, 0, 0, []⟩), 7, 65535,
      { ((((((((State.reset.raise (LN_CTRL_enable 5)).raise (PT_CTRL_enable 5)).raise (PT_STAT_link_up 5)).raise (LN_STAT_clk_valid 5)).set (PX_STAT_state 5) 2)).set (PT_MAXFRM_max 5) 1518).set SC_BUF_STAT_sram_free 100) with px := [(5, { Link.reset with role := some true })] },
      by decide +kernel⟩,
   ⟨5, (([0x11, 0x60] ++ beBytes 2 56 ++ beBytes 2 9 ++ beBytes 2 0 ++ [0, 0, 3, 0]) ++ tlvBytes 3 (beBytes 4 0x80000007 ++ beBytes 4 0x80000008) ++
      tlvBytes 2 (beBytes 2 8 ++ [0, 0] ++ stampBytes 1000 ++ stampBytes 901000)), (((State.reset.fplRead (([0x11, 0x60] ++ beBytes 2 56 ++ beBytes 2
      9 ++ beBytes 2 0 ++ [0, 0, 3, 0]) ++ tlvBytes 3 (beBytes 4 0x80000007 ++ beBytes 4 0x80000008) ++ tlvBytes 2 (beBytes 2 8 ++ [0, 0] ++
      stampBytes 1000 ++ stampBytes 901000)))).getD ⟨0, 0, 0, 0, 0, 0, []⟩), 7, 700000, 1, (beBytes 2 8 ++ [0, 0] ++ stampBytes 1000 ++ stampBytes
      901000), (beBytes 4 0x80000007 ++ beBytes 4 0x80000008), ⟨8, 0, 200000, some 700000, some 5, some 6, 0, false⟩,
      (({ ((((((((State.reset.raise (LN_CTRL_enable 5)).raise (PT_CTRL_enable 5)).raise (PT_STAT_link_up 5)).raise (LN_STAT_clk_valid 5)).set (PX_STAT_state 5) 2)).set (PT_MAXFRM_max 5) 1518).set SC_BUF_STAT_sram_free 100) with px := [(5, { Link.reset with role := some true, recs := [⟨8, 0, 200000, some 700000, some 5, some 6, 0, false⟩] })] }
      : State).farMessage 5 (((State.reset.fplRead (([0x11, 0x60] ++ beBytes 2 56 ++ beBytes 2 9 ++ beBytes 2 0 ++ [0, 0, 3, 0]) ++ tlvBytes 3
      (beBytes 4 0x80000007 ++ beBytes 4 0x80000008) ++ tlvBytes 2 (beBytes 2 8 ++ [0, 0] ++ stampBytes 1000 ++ stampBytes 901000)))).getD ⟨0, 0, 0,
      0, 0, 0, []⟩)).2,
      { ((((((((State.reset.raise (LN_CTRL_enable 5)).raise (PT_CTRL_enable 5)).raise (PT_STAT_link_up 5)).raise (LN_STAT_clk_valid 5)).set (PX_STAT_state 5) 2)).set (PT_MAXFRM_max 5) 1518).set SC_BUF_STAT_sram_free 100) with px := [(5, { Link.reset with role := some true, recs := [⟨8, 0, 200000, some 700000, some 5, some 6, 0, false⟩] })] },
      by decide +kernel⟩,
   ⟨5, (([0x12, 0x60] ++ beBytes 2 88 ++ beBytes 2 9 ++ beBytes 2 0 ++ [0, 0, 3, 0]) ++ tlvBytes 3 (beBytes 4 0x80000007 ++ beBytes 4 0x80000008) ++
      tlvBytes 2 (beBytes 2 8 ++ [0, 0] ++ stampBytes 1000 ++ stampBytes 901000) ++ tlvBytes 4 (beBytes 2 8 ++ [1, 1] ++ beBytes 8 5 ++ beBytes 8 6 ++
      beBytes 8 0xFFFFFFFFFFFFFFFF)), (((State.reset.fplRead (([0x12, 0x60] ++ beBytes 2 88 ++ beBytes 2 9 ++ beBytes 2 0 ++ [0, 0, 3, 0]) ++ tlvBytes
      3 (beBytes 4 0x80000007 ++ beBytes 4 0x80000008) ++ tlvBytes 2 (beBytes 2 8 ++ [0, 0] ++ stampBytes 1000 ++ stampBytes 901000) ++ tlvBytes 4
      (beBytes 2 8 ++ [1, 1] ++ beBytes 8 5 ++ beBytes 8 6 ++ beBytes 8 0xFFFFFFFFFFFFFFFF)))).getD ⟨0, 0, 0, 0, 0, 0, []⟩), 7, (beBytes 2 8 ++ [1, 1]
      ++ beBytes 8 5 ++ beBytes 8 6 ++ beBytes 8 0xFFFFFFFFFFFFFFFF), (beBytes 4 0x80000007 ++ beBytes 4 0x80000008),
      { ((((((((State.reset.raise (LN_CTRL_enable 5)).raise (PT_CTRL_enable 5)).raise (PT_STAT_link_up 5)).raise (LN_STAT_clk_valid 5)).set (PX_STAT_state 5) 2)).set (PT_MAXFRM_max 5) 1518).set SC_BUF_STAT_sram_free 100) with px := [(5, { Link.reset with role := some false, recs := [⟨8, 0, 200000, some 700000, some 5, some 6, 0, false⟩] })] },
      by decide +kernel⟩,
   ⟨5, (([0x12, 0x70] ++ beBytes 2 88 ++ beBytes 2 9 ++ beBytes 2 0 ++ [0, 0, 3, 0]) ++ tlvBytes 3 (beBytes 4 0x80000007 ++ beBytes 4 0x80000008) ++
      tlvBytes 2 (beBytes 2 8 ++ [0, 0] ++ stampBytes 1000 ++ stampBytes 901000) ++ tlvBytes 4 (beBytes 2 8 ++ [1, 1] ++ beBytes 8 5 ++ beBytes 8 6 ++
      beBytes 8 0xFFFFFFFFFFFFFFFF)), (((State.reset.fplRead (([0x12, 0x70] ++ beBytes 2 88 ++ beBytes 2 9 ++ beBytes 2 0 ++ [0, 0, 3, 0]) ++ tlvBytes
      3 (beBytes 4 0x80000007 ++ beBytes 4 0x80000008) ++ tlvBytes 2 (beBytes 2 8 ++ [0, 0] ++ stampBytes 1000 ++ stampBytes 901000) ++ tlvBytes 4
      (beBytes 2 8 ++ [1, 1] ++ beBytes 8 5 ++ beBytes 8 6 ++ beBytes 8 0xFFFFFFFFFFFFFFFF)))).getD ⟨0, 0, 0, 0, 0, 0, []⟩), 7, (beBytes 2 8 ++ [1, 1]
      ++ beBytes 8 5 ++ beBytes 8 6 ++ beBytes 8 0xFFFFFFFFFFFFFFFF), (beBytes 4 0x80000007 ++ beBytes 4 0x80000008),
      { ((((((((State.reset.raise (LN_CTRL_enable 5)).raise (PT_CTRL_enable 5)).raise (PT_STAT_link_up 5)).raise (LN_STAT_clk_valid 5)).set (PX_STAT_state 5) 2)).set (PT_MAXFRM_max 5) 1518).set SC_BUF_STAT_sram_free 100) with px := [(5, { Link.reset with role := some false })] },
      by decide +kernel⟩,
   ⟨5,
      { ((((((((State.reset.raise (LN_CTRL_enable 5)).raise (PT_CTRL_enable 5)).raise (PT_STAT_link_up 5)).raise (LN_STAT_clk_valid 5)).set (PX_STAT_state 5) 4)).set (PT_MAXFRM_max 5) 1518).set SC_BUF_STAT_sram_free 100) with px := [(5, { Link.reset with role := some false })] },
      by decide +kernel⟩,
   ⟨5,
      { ((((((((State.reset.raise (LN_CTRL_enable 5)).raise (PT_CTRL_enable 5)).raise (PT_STAT_link_up 5)).raise (LN_STAT_clk_valid 5)).set (PX_STAT_state 5) 4)).set (PT_MAXFRM_max 5) 1518).set SC_BUF_STAT_sram_free 100) with px := [(5, { Link.reset with role := some false, missed := true })] },
      by decide +kernel⟩,
   ⟨5, 7,
      { ((((((((State.reset.raise (LN_CTRL_enable 5)).raise (PT_CTRL_enable 5)).raise (PT_STAT_link_up 5)).raise (LN_STAT_clk_valid 5)).set (PX_STAT_state 5) 4)).set (PT_MAXFRM_max 5) 1518).set SC_BUF_STAT_sram_free 100) with px := [(5, { Link.reset with role := some false, farCal := some 7 })] },
      by decide +kernel⟩⟩

theorem test_LinkResults :
(∃ (p : Fin 48) (s : State), (s.up) ∧ (s.calDue p = true)) ∧
(∃ (p : Fin 48) (lTx : Nat) (lRx : Nat) (residual : Nat) (s : State), (s.up) ∧ (s.linkState p = 3) ∧ ((s.linkOf p).calTold = true) ∧ (lTx < 2 ^ 32) ∧
      (lRx < 2 ^ 32)) ∧
(∃ (p : Fin 48) (lTx : Nat) (lRx : Nat) (residual : Nat) (n : Fin 4) (q : MbReq) (s : State), (s.up) ∧ (s.linkState p = 3) ∧ ((s.linkOf p).calTold =
      true) ∧ (awaiting n 0x2101 q s) ∧ (byteAt q.payload 0 = p.val)) ∧
(∃ (v : List (Fin 48 × Fin 16384 × Fin 16384 × Nat)) (l : Fin 48) (x : Fin 16384) (y : Fin 16384) (z : Nat) (r : PxResult) (s : State), (s.up) ∧
      (l.val < s.lanes) ∧ (s.upper l = false) ∧ (v.find? (fun e => decide (e.1.val = l.val)) = some (l, x, y, z)) ∧ (s.on (LN_STAT_clk_valid l) =
      true) ∧ (s.rootLocked = true) ∧ ((s.linkOf l).pub = some r) ∧ (s.on TB_STAT_cause_root = false)) ∧
(∃ (v : List (Fin 48 × Fin 16384 × Fin 16384 × Nat)) (l : Fin 48) (s : State), (s.up) ∧ (l.val < s.lanes) ∧ (s.upper l = false) ∧ (v.find? (fun e =>
      decide (e.1.val = l.val)) = none ∨ s.on (LN_STAT_clk_valid l) = false ∨ s.rootLocked = false)) ∧
(∃ (x : Fin 48) (y : Fin 48) (s : State), (s.up) ∧ (s.paired x y = true) ∧ (s.linkState x = 4) ∧ (s.linkState y = 4) ∧ (0 < (s.linkOf x).nRt) ∧ (0 <
      (s.linkOf y).nRt) ∧ (((s.get (PX_WL_RX_w x) : Int) + (s.get (PX_WL_TX_w x) : Int) - ((s.get (PX_WL_RX_w y) : Int) + (s.get (PX_WL_TX_w y) :
      Int))) ≠ 0)) ∧
(∃ (m : Master) (v : Word) (s : State), (reaches m s)) ∧
(∃ (s : State), (s.up) ∧ (s.on PX_REF_STAT_lease_ok = true)) :=
  ⟨⟨5,
      { ((((((((State.reset.raise (LN_CTRL_enable 5)).raise (PT_CTRL_enable 5)).raise (PT_STAT_link_up 5)).raise (LN_STAT_clk_valid 5)).set (PX_STAT_state 5) 2).raise (PX_STAT_syntonised 5)).set (PT_MAXFRM_max 5) 1518).set SC_BUF_STAT_sram_free 100) with px := [(5, { Link.reset with role := some true, far := 64, phases := true })] },
      by decide +kernel⟩,
   ⟨5, 4294967295, 1, 70000,
      { (((((((State.reset.raise (LN_CTRL_enable 5)).raise (PT_CTRL_enable 5)).raise (PT_STAT_link_up 5)).raise (LN_STAT_clk_valid 5)).set (PX_STAT_state 5) 3).set (MB_STAT_state 2) 2)) with px := [(5, { Link.reset with role := some true, calTold := true })], mbox := [(2, { Mbox.empty with taken := some ⟨0x2101, 5, 0, 1, 0, [5, 0, 0, 0]⟩, waiting := true })] },
      by decide +kernel⟩,
   ⟨5, 9, 1, 7, 2, ⟨0x2101, 5, 0, 1, 0, [5, 0, 0, 0]⟩,
      { (((((((State.reset.raise (LN_CTRL_enable 5)).raise (PT_CTRL_enable 5)).raise (PT_STAT_link_up 5)).raise (LN_STAT_clk_valid 5)).set (PX_STAT_state 5) 3).set (MB_STAT_state 2) 2)) with px := [(5, { Link.reset with role := some true, calTold := true })], mbox := [(2, { Mbox.empty with taken := some ⟨0x2101, 5, 0, 1, 0, [5, 0, 0, 0]⟩, waiting := true })] },
      by decide +kernel⟩,
   ⟨[(5, 1, 2, 3)], 5, 1, 2, 3, ⟨7, -1, 6, 0, -9, true, 0⟩,
      { (((((((State.reset.raise (LN_CTRL_enable 5)).raise (PT_CTRL_enable 5)).raise (PT_STAT_link_up 5)).raise (LN_STAT_clk_valid 5)).set (PX_STAT_state 5) 2).raise PX_REF_STAT_lease_ok).set PX_REF_STAT_link 5) with px := [(5, { Link.reset with role := some true, pub := some ⟨7, -1, 6, 0, -9, true, 0⟩ })] },
      by decide +kernel⟩,
   ⟨[], 5,
      { ((((((((State.reset.raise (LN_CTRL_enable 5)).raise (PT_CTRL_enable 5)).raise (PT_STAT_link_up 5)).raise (LN_STAT_clk_valid 5)).set (PX_STAT_state 5) 0).raise (PX_STAT_syntonised 5)).set (PT_MAXFRM_max 5) 1518).set SC_BUF_STAT_sram_free 100) with px := [(5, { Link.reset with role := some true, chi := some 3 })] },
      by decide +kernel⟩,
   ⟨5, 6,
      { (((((((((((State.reset.set (PX_STAT_state 5) 4).set (PX_STAT_state 6) 4).wr (PX_PAIR 5) 0x80000006).wr (PX_PAIR 6) 0x80000005).set (PX_LINK_CTRL_asym_src 5) 2).set (PX_LINK_CTRL_asym_src 6) 2).wr (PX_WL_TX 5) 100000).wr (PX_WL_RX 5) 400000).wr (PX_WL_TX 6) 1000).wr (PX_WL_RX 6) 3000).set (PX_STAT_asym_stale 5) 1) with px := [(5, { Link.reset with role := some true, sumRt := 90, nRt := 3 }), (6, { Link.reset with role := some true, sumRt := 10, nRt := 1 })] },
      by decide +kernel⟩,
   ⟨.pcie, 0,
      { (((((State.reset.raise (LN_CTRL_enable 5)).raise (PT_CTRL_enable 5)).raise (PT_STAT_link_up 5)).raise (LN_STAT_clk_valid 5)).set (PX_STAT_state 5) 2).set PX_REF_STAT_link 5 with px := [(5, { Link.reset with role := some true })] },
      by decide +kernel⟩,
   ⟨State.reset.raise PX_REF_STAT_lease_ok, by decide +kernel⟩⟩

theorem test_LinkOpcodes :
(∃ (n : Fin 4) (r : MbReq) (p : Fin 48) (s : State), (serving n 0x2100 r s) ∧ (r.payload.length = 8) ∧ (byteAt r.payload 0 = p.val) ∧ (p.val <
      s.lanes) ∧ (byteAt r.payload 1 ≤ 1) ∧ (byteAt r.payload 2 ≤ 3) ∧ (byteAt r.payload 3 ≤ 7) ∧ (byteAt r.payload 4 ≤ 1) ∧ (leAt r.payload 5 3 = 0)
      ∧ (byteAt r.payload 1 = 0 ∨ s.pdelay p = false) ∧ (byteAt r.payload 2 < 2 ∨ s.ptpPort p = true)) ∧
(∃ (n : Fin 4) (r : MbReq) (p : Fin 48) (s : State), (serving n 0x2101 r s) ∧ (r.payload.length = 4) ∧ (byteAt r.payload 0 = p.val) ∧ (p.val <
      s.lanes) ∧ (leAt r.payload 1 3 = 0) ∧ (s.linkState p = 2 ∨ s.linkState p = 4)) ∧
(∃ (n : Fin 4) (r : MbReq) (p : Fin 48) (s : State), (serving n 0x2102 r s) ∧ (r.payload.length = 4) ∧ (byteAt r.payload 0 = p.val) ∧ (p.val <
      s.lanes) ∧ (leAt r.payload 1 3 = 0)) ∧
(∃ (n : Fin 4) (r : MbReq) (p : Fin 48) (s : State), (serving n 0x2103 r s) ∧ (r.payload.length = 28) ∧ (byteAt r.payload 0 = p.val) ∧ (p.val <
      s.lanes) ∧ (byteAt r.payload 1 ≤ 1) ∧ (byteAt r.payload 3 = 0)) ∧
(∃ (n : Fin 4) (r : MbReq) (p : Fin 48) (y : Fin 48) (s : State), (serving n 0x2103 r s) ∧ (r.payload.length = 28) ∧ (byteAt r.payload 0 = p.val) ∧
      (p.val < s.lanes) ∧ (byteAt r.payload 1 = 2) ∧ (byteAt r.payload 2 = y.val) ∧ (y.val < s.lanes) ∧ (byteAt r.payload 3 = 0) ∧ (125000 ≤ leAt
      r.payload 8 4 ∧ leAt r.payload 8 4 ≤ 165000 ∧ 125000 ≤ leAt r.payload 12 4 ∧ leAt r.payload 12 4 ≤ 165000 ∧ 125000 ≤ leAt r.payload 16 4 ∧ leAt
      r.payload 16 4 ≤ 165000 ∧ 125000 ≤ leAt r.payload 20 4 ∧ leAt r.payload 20 4 ≤ 165000) ∧ (p ≠ y) ∧ (s.linkState p ≠ 0) ∧ (s.linkDown p = true) ∧
      (s.linkState y ≠ 0) ∧ (s.linkDown y = true) ∧ (256000 ≤ (((weight (leAt r.payload 12 4) (if leAt r.payload 24 4 = 0 then 131000 else leAt
      r.payload 24 4) + weight (leAt r.payload 8 4) (if leAt r.payload 24 4 = 0 then 131000 else leAt r.payload 24 4) : Nat) : Int) - ((weight (leAt
      r.payload 20 4) (if leAt r.payload 24 4 = 0 then 131000 else leAt r.payload 24 4) + weight (leAt r.payload 16 4) (if leAt r.payload 24 4 = 0
      then 131000 else leAt r.payload 24 4) : Nat) : Int)).natAbs)) :=
  ⟨⟨1, ⟨0x2100, 5, 0, 1, 0, [47, 1, 1, 7, 1, 0, 0, 0]⟩, 47, ((State.reset.set (MB_STAT_state 1) 2).raise MB_EPOCH_mp_running).setMb 1
      { Mbox.empty with taken := some ⟨0x2100, 5, 0, 1, 0, [47, 1, 1, 7, 1, 0, 0, 0]⟩ }, by decide +kernel⟩,
   ⟨1, ⟨0x2101, 5, 0, 1, 0, [47, 0, 0, 0]⟩, 47, (((State.reset.set (PX_STAT_state 47) 4).set (MB_STAT_state 1) 2).raise MB_EPOCH_mp_running).setMb 1
      { Mbox.empty with taken := some ⟨0x2101, 5, 0, 1, 0, [47, 0, 0, 0]⟩ }, by decide +kernel⟩,
   ⟨1, ⟨0x2102, 5, 0, 1, 0, [47, 0, 0, 0]⟩, 47, ((State.reset.set (MB_STAT_state 1) 2).raise MB_EPOCH_mp_running).setMb 1
      { Mbox.empty with taken := some ⟨0x2102, 5, 0, 1, 0, [47, 0, 0, 0]⟩ }, by decide +kernel⟩,
   ⟨1, ⟨0x2103, 5, 0, 1, 0, [47, 1, 0, 0, 0xFF, 0xFF, 0xFF, 0xFF] ++ zeros 20⟩, 47, ((State.reset.set (MB_STAT_state 1) 2).raise
      MB_EPOCH_mp_running).setMb 1 { Mbox.empty with taken := some ⟨0x2103, 5, 0, 1, 0, [47, 1, 0, 0, 0xFF, 0xFF, 0xFF, 0xFF] ++ zeros 20⟩ }, by
      decide +kernel⟩,
   ⟨1, ⟨0x2103, 5, 0, 1, 0, [5, 2, 6, 0, 0, 0, 0, 0] ++ leBytes 4 155000 ++ leBytes 4 131000 ++ leBytes 4 131000 ++ leBytes 4 131000 ++ zeros 4⟩, 5, 6,
      ((({ (State.reset.set (PX_STAT_state 5) 4).set (PX_STAT_state 6) 4 with px := [(5, { Link.reset with role := some true }), (6, { Link.reset with role := some true })] }
      : State).set (MB_STAT_state 1) 2).raise MB_EPOCH_mp_running).setMb 1
      { Mbox.empty with taken := some ⟨0x2103, 5, 0, 1, 0, [5, 2, 6, 0, 0, 0, 0, 0] ++ leBytes 4 155000 ++ leBytes 4 131000 ++ leBytes 4 131000 ++ leBytes 4 131000 ++ zeros 4⟩ },
      by decide +kernel⟩⟩

theorem test_LoopAndSwitch :
(∃ (errs : List (Fin 6 × Int)) (s : State), (s.up) ∧ (s.time.incr = none)) ∧
(∃ (errs : List (Fin 6 × Int)) (c : Fin 6) (b : Nat) (s : State), (s.up) ∧ (s.loopRuns c = true) ∧ ((s.chanOf c).sw = none) ∧ ((s.chanOf c).hold62 =
      false) ∧ (s.get (TC_FORCE_mode c) = 0) ∧ (s.selRef c = 63) ∧ (s.tcState c = 0) ∧ (s.refBest c = some b)) ∧
(∃ (c : Fin 6) (ofs : Int) (w : Switching) (s : State), (s.up) ∧ (s.loopRuns c = true) ∧ ((s.chanOf c).sw = some w) ∧ (w.count = 8) ∧ (w.failed =
      false)) ∧
(∃ (c : Fin 6) (s : State), (s.up) ∧ (s.loopRuns c = true) ∧ (s.tcState c = 1) ∧ (s.selRef c ≠ 63) ∧ ((s.chanOf c).sw = none) ∧ (s.withinWin c 1 =
      true)) ∧
(∃ (m : Master) (c : Fin 6) (v : Word) (s : State), (reaches m s) ∧ (c.val < s.chans) ∧ (bitOf v.toNat 0 = true) ∧ (s.on (TC_STAT_resetting c) =
      false)) ∧
(∃ (c : Fin 6) (s : State), (s.up) ∧ (s.on (TC_STAT_resetting c) = true) ∧ ((s.chanOf c).resetFrom = some 0)) ∧
(∃ (c : Fin 6) (x : Nat) (s : State), (s.up) ∧ (s.on (TC_STAT_resetting c) = true) ∧ ((s.chanOf c).resetFrom = some x) ∧ (x ≠ 0) ∧ (x ≠ 3 ∨
      s.histValid c = false)) ∧
(∃ (c : Fin 6) (s : State), (s.up) ∧ (s.on (TC_STAT_resetting c) = true) ∧ ((s.chanOf c).resetFrom = some 3) ∧ (s.histValid c = true)) ∧
(∃ (c : Fin 6) (i : Fin 16) (s : State), (s.up) ∧ (c.val < s.chans) ∧ (s.on (TC_CTRL_enable c) = true) ∧ ((s.chanOf c).hop = some (some i.val))) ∧
(∃ (c : Fin 6) (s : State), (s.up) ∧ (c.val < s.chans) ∧ (s.on (TC_CTRL_enable c) = true) ∧ ((s.chanOf c).hop = some none ∨ ((s.chanOf c).hop = none ∧
      (s.chanOf c).searched = false))) :=
  ⟨⟨[(0, 5)], State.reset.set (TC_STAT_state 0) 1, by decide +kernel⟩,
   ⟨[(3, 5)], 3, 61, ((State.reset.wr (TC_REF_PRIO 3 7) 0x00100000).set (TC_REF_STAT_status 3 61) 4), by decide +kernel⟩,
   ⟨5, -7, ⟨8, false, true⟩, ((State.reset.set (TC_STAT_state 5) 1) : State).setChan 5 { Chan.reset with sw := some ⟨8, false, true⟩ }, by
      decide +kernel⟩,
   ⟨5, ((State.reset.set (TC_STAT_state 5) 1).set (TC_STAT_sel_ref 5) 0).set (TC_PHASE_ERR_err 5) (2 ^ 32 - 131072), by decide +kernel⟩,
   ⟨.pcie, 5, 1, ((State.reset.set (TC_REF_FREQ_active 62) 1).set (TC_REF_STAT_status 5 62) 4).set (TC_STAT_sel_ref 5) 62, by decide +kernel⟩,
   ⟨5, ((State.reset.set (TC_STAT_resetting 5) 1) : State).setChan 5 { Chan.reset with resetFrom := some 0 }, by decide +kernel⟩,
   ⟨5, 2, ((State.reset.set (TC_STAT_resetting 5) 1) : State).setChan 5 { Chan.reset with resetFrom := some 2 }, by decide +kernel⟩,
   ⟨5, (((State.reset.set (TC_STAT_resetting 5) 1).set (TC_STAT_state 5) 3) : State).setChan 5
      { Chan.reset with resetFrom := some 3, copied := some (⟨-1500, 2500, 7, 100, 60, -8⟩, true) }, by decide +kernel⟩,
   ⟨5, 15, ((State.reset.set (TC_PRESET_HI_band 5 15) 9) : State).setChan 5 { Chan.reset with hop := some (some 15) }, by decide +kernel⟩,
   ⟨5, (State.reset.set (TC_STAT_sel_ref 5) 62 : State).setChan 5 { Chan.reset with hop := some none }, by decide +kernel⟩⟩

theorem test_ReferenceMonitors :
(∃ (c : Fin 6) (r : Fin 63) (s : State), (s.up) ∧ (c.val < s.chans) ∧ (s.refActive r = true)) ∧
(∃ (c : Fin 6) (r : Fin 63) (s : State), (s.up) ∧ (c.val < s.chans) ∧ (s.refActive r = true) ∧ (s.selRef c = r) ∧ (s.refStatus c r = 4 ∨ s.refStatus c
      r = 5)) ∧
(∃ (c : Fin 6) (r : Fin 63) (s : State), (s.up) ∧ (c.val < s.chans) ∧ (s.refOffered r = true) ∧ (s.refActive r = false)) ∧
(∃ (c : Fin 6) (r : Fin 63) (e : Int) (d : Int) (s : State), (s.up) ∧ (s.rootLocked = true) ∧ (c.val < s.chans) ∧ (s.on (TC_STAT_resetting c) = false)
      ∧ (s.refActive r = true) ∧ (s.refStatus c r ≠ 0) ∧ (d = satSigned 24 e - median (0 :: s.voters c r))) ∧
(∃ (c : Fin 6) (r : Fin 63) (s : State), (s.up) ∧ (c.val < s.chans) ∧ (s.on (TC_STAT_resetting c) = false) ∧ (s.withinSoft c r = true) ∧ (s.refStatus
      c r = 2)) ∧
(∃ (c : Fin 6) (r : Fin 63) (s : State), (s.up) ∧ (c.val < s.chans) ∧ (s.on (TC_STAT_resetting c) = false) ∧ (s.withinSoft c r = true) ∧ (s.refStatus
      c r = 5)) ∧
(∃ (c : Fin 6) (r : Fin 63) (s : State), (s.up) ∧ (c.val < s.chans) ∧ (s.on (TC_STAT_resetting c) = false) ∧ (s.withinSoft c r = true) ∧ (s.refStatus
      c r = 3)) :=
  ⟨⟨5, 62, (State.reset.set (TC_REF_FREQ_active 62) 1).set (TC_REF_STAT_status 5 62) 4, by decide +kernel⟩,
   ⟨5, 62, ((State.reset.set (TC_REF_FREQ_active 62) 1).set (TC_REF_STAT_status 5 62) 4).set (TC_STAT_sel_ref 5) 62, by decide +kernel⟩,
   ⟨5, 0, State.reset.set (TC_REF_CFG_freq_hz 0) 10000000, by decide +kernel⟩,
   ⟨5, 62, -2000, -1500, (((((State.reset.set (TC_REF_FREQ_active 62) 1).set (TC_REF_STAT_status 5 62) 4).wr (TC_REF_PRIO 5 0) 1).set (TC_REF_STAT_status
      5 0) 3).set (TC_REF_FREQ_valid 0) 1).set (TC_REF_FREQ_e 0) (2 ^ 24 - 1000), by decide +kernel⟩,
   ⟨5, 62, ((State.reset.set (TC_REF_STAT_status 5 62) 2) : State).setChan 5 { Chan.reset with had := [62] }, by decide +kernel⟩,
   ⟨5, 62, State.reset.set (TC_REF_STAT_status 5 62) 5, by decide +kernel⟩,
   ⟨5, 62, State.reset.set (TC_REF_STAT_status 5 62) 3, by decide +kernel⟩⟩

theorem test_HoldoverAndRamps :
(∃ (c : Fin 6) (s : State), (s.up) ∧ (c.val < s.chans) ∧ ((s.chanOf c).clean = true) ∧ (s.recordable c = true) ∧ (0 < (s.chanOf c).nY) ∧ ((s.chanOf
      c).hist.prob = [])) ∧
(∃ (c : Fin 6) (r : HoRec) (s : State), (s.up) ∧ (c.val < s.chans) ∧ ((s.chanOf c).clean = false) ∧ ((s.chanOf c).hist.prob = [r]) ∧ (r.t + 900 <
      s.tb.sec)) ∧
(∃ (c : Fin 6) (s : State), (s.up) ∧ ((s.chanOf c).hist.trained = true)) ∧
(∃ (c : Fin 6) (s : State), (s.up) ∧ (s.tcState c = 3) ∧ (s.get (TC_HO_LIMIT_max_h c) = 0) ∧ (s.get (TC_HO_LIMIT_te_limit_ns c) = 0)) ∧
(∃ (c : Fin 6) (s : State), (s.up) ∧ (s.tcState c = 3) ∧ (0 < s.get (TC_HO_LIMIT_max_h c)) ∧ (s.get (TC_HO_LIMIT_max_h c) * 3600 ≤ s.get
      (TC_HO_STAT_elapsed_s c) + 1)) ∧
(∃ (c : Fin 6) (s : State), (s.up) ∧ (s.tcState c = 3) ∧ (0 < s.get (TC_HO_LIMIT_te_limit_ns c)) ∧ (s.get (TC_HO_LIMIT_te_limit_ns c) * 1000 < teEst
      (s.chanOf c).trainedBy (s.on (TC_STAT_ensemble c)) (min 0xFFFFFF (s.get (TC_HO_STAT_elapsed_s c) + 1)) ((s.chanOf c).dT + (s.oven - (s.chanOf
      c).entryTemp).natAbs))) ∧
(∃ (c : Fin 6) (r : Ramp) (s : State), (s.up) ∧ ((s.chanOf c).ramp = some r) ∧ (r.profile < 8) ∧ (r.running = false) ∧ (r.stop = false) ∧ (r.start ≤
      s.tb.toNat) ∧ (s.rampHome c = true) ∧ (0 < s.get (OU_RAMP_DUR_duration_ms r.profile 0))) ∧
(∃ (c : Fin 6) (r : Ramp) (s : State), (s.up) ∧ ((s.chanOf c).ramp = some r) ∧ (r.profile < 8) ∧ (r.running = true) ∧ (r.holding = false) ∧ (r.seg <
      63) ∧ (0 < s.get (OU_RAMP_DUR_duration_ms r.profile (r.seg + 1)))) ∧
(∃ (c : Fin 6) (r : Ramp) (s : State), (s.up) ∧ ((s.chanOf c).ramp = some r) ∧ (r.profile < 8) ∧ (r.running = true) ∧ (r.holding = false) ∧ (r.seg =
      63 ∨ s.get (OU_RAMP_DUR_duration_ms r.profile (r.seg + 1)) = 0)) ∧
(∃ (m : Master) (v : Word) (s : State), (reaches m s)) :=
  ⟨⟨5, (((((State.reset.set (TC_STAT_state 5) 2).set (TC_STAT_sel_ref 5) 62).set (TC_REF_STAT_status 5 62) 4).raise TC_OVO_oven_ok) : State).setChan 5
      { Chan.reset with clean := true, nY := 3, sumY := -7 }, by decide +kernel⟩,
   ⟨5, ⟨3, -5, 400⟩, (({ State.reset with tb := ⟨904, 0, 0⟩ }) : State).setChan 5
      { Chan.reset with hist := { History.empty with prob := [⟨3, -5, 400⟩] } }, by decide +kernel⟩,
   ⟨5, (State.reset : State).setChan 5 { Chan.reset with hist := { History.empty with h15 := (List.range 288).map fun k => ⟨900 * k, k, 400⟩ } }, by
      decide +kernel⟩,
   ⟨5, State.reset.set (TC_STAT_state 5) 3, by decide +kernel⟩,
   ⟨5, ((State.reset.set (TC_STAT_state 5) 3).set (TC_HO_LIMIT_max_h 5) 1).set (TC_HO_STAT_elapsed_s 5) 3599, by decide +kernel⟩,
   ⟨5, ((State.reset.set (TC_STAT_state 5) 3).set (TC_HO_LIMIT_te_limit_ns 5) 1).set (TC_HO_STAT_elapsed_s 5) 3599, by decide +kernel⟩,
   ⟨5, ⟨7, 0, false, 0, false, 0, false⟩, ((State.reset.set (OU_RAMP_DUR_duration_ms 7 0) 1) : State).setChan 5
      { Chan.reset with ramp := some ⟨7, 0, false, 0, false, 0, false⟩ }, by decide +kernel⟩,
   ⟨5, ⟨7, 0, true, 62, false, 0, false⟩, ((State.reset.set (OU_RAMP_DUR_duration_ms 7 63) 1) : State).setChan 5
      { Chan.reset with ramp := some ⟨7, 0, true, 62, false, 0, false⟩ }, by decide +kernel⟩,
   ⟨5, ⟨7, 0, true, 62, false, 0, false⟩, ((State.reset.set (OU_RAMP_CFG_end_mode 7) 1) : State).setChan 5
      { Chan.reset with ramp := some ⟨7, 0, true, 62, false, 0, false⟩ }, by decide +kernel⟩,
   ⟨.pcie, 0x20, (State.reset : State).setChan 5 { Chan.reset with ramp := some ⟨7, 0, true, 62, false, 0, false⟩ }, by decide +kernel⟩⟩

theorem test_ChannelOpcodes :
(∃ (n : Fin 4) (r : MbReq) (c : Fin 6) (s : State), (serving n 0x1000 r s) ∧ (r.payload.length = 4) ∧ (byteAt r.payload 0 = c.val) ∧ (c.val < s.chans)
      ∧ (leAt r.payload 1 3 = 0)) ∧
(∃ (n : Fin 4) (r : MbReq) (c : Fin 6) (s : State), (serving n 0x1001 r s) ∧ (r.payload.length = 40) ∧ (byteAt r.payload 0 = c.val) ∧ (c.val <
      s.chans) ∧ (byteAt r.payload 1 ≤ 0x7F) ∧ (byteAt r.payload 2 ≤ 0x1F) ∧ (leAt r.payload 4 2 ≤ 0xFFF) ∧ (leAt r.payload 6 2 ≤ 0x1FFF) ∧ (leAt
      r.payload 8 4 ≤ 0xFFFFFF) ∧ (leAt r.payload 12 4 ≤ 0xFFFFFF) ∧ (9600000000 ≤ leAt r.payload 16 8) ∧ (leAt r.payload 16 8 ≤ 11200000000) ∧ (leAt
      r.payload 28 2 ≤ 0xFFF) ∧ (byteAt r.payload 31 ≤ 3) ∧ (leAt r.payload 32 4 ≤ 0xFFFFFF) ∧ (leAt r.payload 37 3 = 0)) ∧
(∃ (n : Fin 4) (r : MbReq) (c : Fin 6) (k : Fin 64) (s : State), (serving n 0x1002 r s) ∧ (r.payload.length = 2 + 2 * k.val) ∧ (byteAt r.payload 1 =
      k.val) ∧ (0 < k.val) ∧ (byteAt r.payload 0 = c.val) ∧ (c.val < s.chans) ∧ (∀ i : Nat, i < k.val → byteAt r.payload (2 + 2 * i) ≤ 62 ∧ byteAt
      r.payload (3 + 2 * i) ≤ 15 ∧ s.refHere (byteAt r.payload (2 + 2 * i)) = true)) ∧
(∃ (n : Fin 4) (r : MbReq) (c : Fin 6) (s : State), (serving n 0x1003 r s) ∧ (r.payload.length = 4) ∧ (byteAt r.payload 0 = c.val) ∧ (c.val < s.chans)
      ∧ (byteAt r.payload 1 ≤ 3) ∧ (byteAt r.payload 2 ≤ 63) ∧ (byteAt r.payload 3 = 0) ∧ (byteAt r.payload 1 ≠ 1 ∨ (s.refHere (byteAt r.payload 2) =
      true ∧ s.forceUsable c (byteAt r.payload 2) = true))) ∧
(∃ (n : Fin 4) (r : MbReq) (c : Fin 6) (s : State), (serving n 0x1003 r s) ∧ (r.payload.length = 4) ∧ (byteAt r.payload 0 = c.val) ∧ (c.val < s.chans)
      ∧ (byteAt r.payload 1 = 1) ∧ (byteAt r.payload 2 ≤ 63) ∧ (byteAt r.payload 3 = 0) ∧ (byteAt r.payload 2 = 63 ∨ s.refHere (byteAt r.payload 2) =
      true) ∧ (s.forceUsable c (byteAt r.payload 2) = false)) :=
  ⟨⟨1, ⟨0x1000, 5, 0, 1, 0, [5, 0, 0, 0]⟩, 5, ((((State.reset.set (TC_REF_STAT_status 5 62) 4).set (TC_REF_STAT_status 5 3) 4).set (MB_STAT_state 1)
      2).raise MB_EPOCH_mp_running).setMb 1 { Mbox.empty with taken := some ⟨0x1000, 5, 0, 1, 0, [5, 0, 0, 0]⟩ }, by decide +kernel⟩,
   ⟨1, ⟨0x1001, 5, 0, 1, 0, [5, 0x7F, 0x15, 10, 44, 1, 50, 0, 1, 0, 0, 0, 2, 0, 0, 0] ++ leBytes 8 11200000000 ++ [9, 9, 9, 0x80, 60, 0, 1, 3, 7, 0, 0,
      0, 20, 0, 0, 0]⟩, 5, ((State.reset.set (MB_STAT_state 1) 2).raise MB_EPOCH_mp_running).setMb 1
      { Mbox.empty with taken := some ⟨0x1001, 5, 0, 1, 0, [5, 0x7F, 0x15, 10, 44, 1, 50, 0, 1, 0, 0, 0, 2, 0, 0, 0] ++ leBytes 8 11200000000 ++ [9, 9, 9, 0x80, 60, 0, 1, 3, 7, 0, 0, 0, 20, 0, 0, 0]⟩ },
      by decide +kernel⟩,
   ⟨1, ⟨0x1002, 5, 0, 1, 0, [5, 3, 62, 15, 0, 1, 62, 2]⟩, 5, 3, ((State.reset.set (MB_STAT_state 1) 2).raise MB_EPOCH_mp_running).setMb 1
      { Mbox.empty with taken := some ⟨0x1002, 5, 0, 1, 0, [5, 3, 62, 15, 0, 1, 62, 2]⟩ }, by decide +kernel⟩,
   ⟨1, ⟨0x1003, 5, 0, 1, 0, [5, 1, 62, 0]⟩, 5, (((State.reset.set (TC_REF_STAT_status 5 62) 2).set (MB_STAT_state 1) 2).raise MB_EPOCH_mp_running).setMb
      1 { Mbox.empty with taken := some ⟨0x1003, 5, 0, 1, 0, [5, 1, 62, 0]⟩ }, by decide +kernel⟩,
   ⟨1, ⟨0x1003, 5, 0, 1, 0, [5, 1, 63, 0]⟩, 5, ((State.reset.set (MB_STAT_state 1) 2).raise MB_EPOCH_mp_running).setMb 1
      { Mbox.empty with taken := some ⟨0x1003, 5, 0, 1, 0, [5, 1, 63, 0]⟩ }, by decide +kernel⟩⟩

theorem test_HoldoverAndRampOpcodes :
(∃ (n : Fin 4) (r : MbReq) (c : Fin 6) (m : HoModel) (s : State), (serving n 0x1004 r s) ∧ (r.payload.length = 4) ∧ (byteAt r.payload 0 = c.val) ∧
      (c.val < s.chans) ∧ (leAt r.payload 1 3 = 0) ∧ (m = (if s.tcState c = 3 then (s.chanOf c).model else (s.buildModel c).1))) ∧
(∃ (n : Fin 4) (r : MbReq) (c : Fin 6) (i : Fin 16) (s : State), (serving n 0x1005 r s) ∧ (r.payload.length = 4) ∧ (byteAt r.payload 0 = c.val) ∧
      (c.val < s.chans) ∧ (byteAt r.payload 1 = i.val) ∧ (leAt r.payload 2 2 = 0) ∧ (s.searching c = false) ∧ (s.tcState c ≠ 0 ∨ (s.chanOf c).bandDone
      = true)) ∧
(∃ (n : Fin 4) (r : MbReq) (c : Fin 6) (s : State), (serving n 0x1006 r s) ∧ (r.payload.length = 16) ∧ (byteAt r.payload 0 = c.val) ∧ (c.val <
      s.chans) ∧ (byteAt r.payload 1 ≤ 7) ∧ (leAt r.payload 2 2 = 0) ∧ (leAt r.payload 10 4 ≤ 999999999) ∧ (c.val ≠ s.timeCh) ∧ (s.rampHome c = true)
      ∧ ((s.chanOf c).ramp.all (fun x => !x.running) = true)) ∧
(∃ (n : Fin 4) (r : MbReq) (s : State), (serving n 0x1007 r s) ∧ (r.payload.length = 16) ∧ (byteAt r.payload 0 ≤ 3) ∧ (byteAt r.payload 1 = 0) ∧ (leAt
      r.payload 4 6 < 2 ^ s.lanes) ∧ (leAt r.payload 10 6 < 2 ^ s.lanes)) :=
  ⟨⟨1, ⟨0x1004, 5, 0, 1, 0, [5, 0, 0, 0]⟩, 5, ⟨-1500, 2500, 7, 100, 60, -8⟩, (((((State.reset.set (TC_STAT_state 5) 3) : State).setChan 5
      { Chan.reset with model := ⟨-1500, 2500, 7, 100, 60, -8⟩ }).set (MB_STAT_state 1) 2).raise MB_EPOCH_mp_running).setMb 1
      { Mbox.empty with taken := some ⟨0x1004, 5, 0, 1, 0, [5, 0, 0, 0]⟩ }, by decide +kernel⟩,
   ⟨1, ⟨0x1005, 5, 0, 1, 0, [5, 15, 0, 0]⟩, 5, 15, (((((State.reset.set (TC_DCO_WORD_band 5) 200) : State).setChan 5
      { Chan.reset with bandDone := true }).set (MB_STAT_state 1) 2).raise MB_EPOCH_mp_running).setMb 1
      { Mbox.empty with taken := some ⟨0x1005, 5, 0, 1, 0, [5, 15, 0, 0]⟩ }, by decide +kernel⟩,
   ⟨1, ⟨0x1006, 5, 0, 1, 0, [5, 7, 0, 0, 1, 0, 0, 0, 0, 0, 2, 0, 0, 0, 3, 0]⟩, 5, ((State.reset.set (MB_STAT_state 1) 2).raise MB_EPOCH_mp_running).setMb
      1 { Mbox.empty with taken := some ⟨0x1006, 5, 0, 1, 0, [5, 7, 0, 0, 1, 0, 0, 0, 0, 0, 2, 0, 0, 0, 3, 0]⟩ }, by decide +kernel⟩,
   ⟨1, ⟨0x1007, 5, 0, 1, 0, [3, 0, 44, 1, 1, 0, 0, 0, 0, 0, 1, 0, 0, 0, 0, 0x80]⟩, ((State.reset.set (MB_STAT_state 1) 2).raise
      MB_EPOCH_mp_running).setMb 1 { Mbox.empty with taken := some ⟨0x1007, 5, 0, 1, 0, [3, 0, 44, 1, 1, 0, 0, 0, 0, 0, 1, 0, 0, 0, 0, 0x80]⟩ }, by
      decide +kernel⟩⟩

theorem test_EsmcAndReference60 :
(∃ (p : Fin 48) (s : State), (s.up) ∧ (s.stacksRun = true) ∧ (s.esmc.on = true) ∧ (p.val < s.lanes) ∧ (bitOf s.esmc.send p = true) ∧ (s.portSends p =
      true) ∧ (s.loopOf p = 0)) ∧
(∃ (p : Fin 48) (ql : Fin 16) (s : State), (s.up) ∧ (s.stacksRun = true) ∧ (s.esmc.on = true) ∧ (p.val < s.lanes) ∧ (bitOf s.esmc.accept p = true)) ∧
(∃ (p : Fin 48) (s : State), (s.up) ∧ (s.stacksRun = true) ∧ (s.esmc.on = true) ∧ (p.val < s.lanes) ∧ (bitOf s.esmc.accept p = true)) ∧
(∃ (s : State), (s.up) ∧ (s.stacksRun = true) ∧ (s.tcState s.synceCh = 3)) ∧
(∃ (m : Master) (v : Word) (s : State), (reaches m s) ∧ (m = .mp)) ∧
(∃ (m : Master) (v : Word) (s : State), (reaches m s) ∧ (m = .mp) ∧ (s.on PX_REF_STAT_delivering = false)) ∧
(∃ (m : Master) (v : Word) (s : State), (reaches m s) ∧ (m ≠ .mp)) :=
  ⟨⟨47,
      { ((((State.reset.raise MB_EPOCH_mp_running).raise (PT_CTRL_enable 47)).raise (PT_STAT_link_up 47)).raise (LN_CTRL_enable 47)) with esmc := { State.reset.esmc with on := true, send := 2 ^ 47, accept := 2 ^ 47 } },
      by decide +kernel⟩,
   ⟨47, 3, { State.reset.raise MB_EPOCH_mp_running with esmc := { State.reset.esmc with on := true, send := 2 ^ 47, accept := 2 ^ 47 } }, by
      decide +kernel⟩,
   ⟨47, { State.reset.raise MB_EPOCH_mp_running with esmc := { State.reset.esmc with on := true, send := 2 ^ 47, accept := 2 ^ 47 } }, by decide +kernel⟩,
   ⟨(State.reset.raise MB_EPOCH_mp_running).set (TC_STAT_state 1) 3, by decide +kernel⟩,
   ⟨.mp, 5, State.reset.raise MB_EPOCH_mp_running, by decide +kernel⟩,
   ⟨.mp, 0x80000000, State.reset.raise MB_EPOCH_mp_running, by decide +kernel⟩,
   ⟨.pcie, 0x80000000, State.reset, by decide +kernel⟩⟩

theorem test_Outputs :
(∃ (n : Fin 4) (r : MbReq) (o : Fin 18) (c : Fin 6) (f : Nat) (d : Nat) (N : Nat) (s : State), (serving n 0x1100 r s) ∧ (r.payload.length = 24) ∧
      (byteAt r.payload 0 = o.val) ∧ (byteAt r.payload 1 = c.val) ∧ (s.outHere o = true) ∧ (c.val < s.chans) ∧ (byteAt r.payload 3 ≤ 5) ∧ (byteAt
      r.payload 4 ≤ 15) ∧ (leAt r.payload 5 3 = 0) ∧ (leAt r.payload 20 4 = 0) ∧ (byteAt r.payload 2 = 0) ∧ (o.val < 16) ∧ (f = leAt r.payload 8 8) ∧
      (d = leAt r.payload 16 4) ∧ (0 < f) ∧ (0 < d) ∧ (N = s.dcoNom c * d / f) ∧ (8 ≤ N) ∧ (N ≤ 4294967295) ∧ (f / Nat.gcd (s.dcoNom c * d % f) f ≤
      16777215) ∧ (f ≤ formatMax (byteAt r.payload 3) * d)) ∧
(∃ (n : Fin 4) (r : MbReq) (o : Fin 18) (c : Fin 6) (s : State), (serving n 0x1100 r s) ∧ (r.payload.length = 24) ∧ (byteAt r.payload 0 = o.val) ∧
      (byteAt r.payload 1 = c.val) ∧ (s.outHere o = true) ∧ (c.val < s.chans) ∧ (byteAt r.payload 3 ≤ 5) ∧ (byteAt r.payload 4 ≤ 15) ∧ (leAt r.payload
      5 3 = 0) ∧ (leAt r.payload 20 4 = 0) ∧ (byteAt r.payload 2 = 1) ∧ (pulseOk (leAt r.payload 8 4) (leAt r.payload 12 4) = true) ∧ (leAt r.payload
      16 4 = 0)) ∧
(∃ (n : Fin 4) (r : MbReq) (s : State), (serving n 0x1101 r s) ∧ (r.payload.length = 4) ∧ (byteAt r.payload 3 = 0) ∧ (leAt r.payload 0 3 < 2 ^ 18) ∧
      (∀ o : Nat, o < 18 → bitOf (leAt r.payload 0 3) o = true → s.outHere o = true)) ∧
(∃ (n : Fin 4) (r : MbReq) (o : Fin 18) (s : State), (serving n 0x1101 r s) ∧ (r.payload.length = 4) ∧ (byteAt r.payload 3 = 0) ∧ (leAt r.payload 0 3
      < 2 ^ 18) ∧ (bitOf (leAt r.payload 0 3) o = true) ∧ (s.outHere o = false)) ∧
(∃ (m : Master) (v : Word) (s : State), (reaches m s)) ∧
(∃ (n : Fin 4) (r : MbReq) (o : Fin 18) (s : State), (serving n 0x1102 r s) ∧ (r.payload.length = 4) ∧ (byteAt r.payload 0 = o.val) ∧ (s.outHere o =
      true) ∧ (leAt r.payload 1 3 = 0)) ∧
(∃ (g : Fin 18) (back : Fin 104858) (k : Gen) (e : Int) (s : State), (s.up) ∧ (s.outHere g = true) ∧ (s.isGen g = true) ∧ (s.outRuns g = true) ∧ (k =
      s.genOf g) ∧ (k.live = true) ∧ (k.align.all (fun x => decide (s.tb16 - back.val < s.oldPhaseEnd g x.1)) = true) ∧ (s.gated g = false) ∧ (e =
      (s.tb16 - back.val - k.ofs + s.gridPer g / 2) % s.gridPer g - s.gridPer g / 2)) ∧
(∃ (g : Fin 18) (back : Fin 104858) (k : Gen) (s : State), (s.up) ∧ (s.outHere g = true) ∧ (s.isGen g = true) ∧ (s.outRuns g = true) ∧ (k = s.genOf g)
      ∧ (k.live = true) ∧ (k.align.all (fun x => decide (s.tb16 - back.val < s.oldPhaseEnd g x.1)) = true) ∧ (s.gated g = true)) ∧
(∃ (g : Fin 18) (back : Fin 104858) (k : Gen) (line : Int) (ofs : Int) (e : Int) (s : State), (s.up) ∧ (s.outHere g = true) ∧ (s.isGen g = true) ∧
      (s.outRuns g = true) ∧ (k = s.genOf g) ∧ (k.align = some (line, ofs)) ∧ (s.oldPhaseEnd g line ≤ s.tb16 - back.val) ∧ (e = (s.tb16 - back.val -
      ofs + s.gridPer g / 2) % s.gridPer g - s.gridPer g / 2)) ∧
(∃ (s : State), (s.up)) :=
  ⟨⟨1, ⟨0x1100, 5, 0, 1, 0, [15, 5, 0, 0, 9, 0, 0, 0] ++ leBytes 8 491520000 ++ leBytes 4 7 ++ zeros 4⟩, 15, 5, 491520000, 7, 142, ((State.reset.set
      (MB_STAT_state 1) 2).raise MB_EPOCH_mp_running).setMb 1
      { Mbox.empty with taken := some ⟨0x1100, 5, 0, 1, 0, [15, 5, 0, 0, 9, 0, 0, 0] ++ leBytes 8 491520000 ++ leBytes 4 7 ++ zeros 4⟩ }, by
      decide +kernel⟩,
   ⟨1, ⟨0x1100, 5, 0, 1, 0, [17, 5, 1, 5, 15, 0, 0, 0] ++ leBytes 4 4000000000 ++ leBytes 4 8 ++ zeros 8⟩, 17, 5, ((State.reset.set (MB_STAT_state 1)
      2).raise MB_EPOCH_mp_running).setMb 1
      { Mbox.empty with taken := some ⟨0x1100, 5, 0, 1, 0, [17, 5, 1, 5, 15, 0, 0, 0] ++ leBytes 4 4000000000 ++ leBytes 4 8 ++ zeros 8⟩ }, by
      decide +kernel⟩,
   ⟨1, ⟨0x1101, 5, 0, 1, 0, [0, 0, 2, 0]⟩, (((State.reset.set (OU_CTRL_enable 17) 1).set (MB_STAT_state 1) 2).raise MB_EPOCH_mp_running).setMb 1
      { Mbox.empty with taken := some ⟨0x1101, 5, 0, 1, 0, [0, 0, 2, 0]⟩ }, by decide +kernel⟩,
   ⟨1, ⟨0x1101, 5, 0, 1, 0, [0, 0x80, 0, 0]⟩, 15, (({ State.reset with variant := .fh4824 }.set (MB_STAT_state 1) 2).raise MB_EPOCH_mp_running).setMb 1
      { Mbox.empty with taken := some ⟨0x1101, 5, 0, 1, 0, [0, 0x80, 0, 0]⟩ }, by decide +kernel⟩,
   ⟨.pcie, 0x20000, (State.reset.set (OU_CTRL_enable 17) 1), by decide +kernel⟩,
   ⟨1, ⟨0x1102, 5, 0, 1, 0, [17, 0, 0, 0]⟩, 17, (((State.reset.set (OU_PULSE_ERR_err 17) (2 ^ 32 - 5)).set (MB_STAT_state 1) 2).raise
      MB_EPOCH_mp_running).setMb 1 { Mbox.empty with taken := some ⟨0x1102, 5, 0, 1, 0, [17, 0, 0, 0]⟩ }, by decide +kernel⟩,
   ⟨17, 70000, ⟨3, none, true, 0, 7⟩, -70003,
      { ((State.reset.set (OU_CTRL_enable 17) 1).set (OU_STAT_unaligned 17) 0) with ou := { State.reset.ou with gens := [(17, ⟨3, none, true, 0, 7⟩)] } },
      by decide +kernel⟩,
   ⟨17, 70000, ⟨3, none, true, 0, 7⟩,
      { (((State.reset.set (OU_CTRL_enable 17) 1).raise TW_CTRL_out_gate).wr TW_OUT_MASK 0x20000) with ou := { State.reset.ou with gens := [(17, ⟨3, none, true, 0, 7⟩)] } },
      by decide +kernel⟩,
   ⟨17, 0, ⟨3, some (0, 0), true, 0, 7⟩, 0, 0, 0,
      { (State.reset.set (OU_CTRL_enable 17) 1) with ou := { State.reset.ou with gens := [(17, ⟨3, some (0, 0), true, 0, 7⟩)] } }, by decide +kernel⟩,
   ⟨State.reset, by decide +kernel⟩⟩

theorem test_EventTimestamps :
(∃ (i : Fin 8) (falling : Bool) (phase : Fin 4) (bin : Fin 512) (s : State), (s.up) ∧ (i.val < s.evts) ∧ (s.on (EV_STAT_cal_busy i) = true)) ∧
(∃ (i : Fin 8) (falling : Bool) (phase : Fin 4) (bin : Fin 512) (s : State), (s.up) ∧ (i.val < s.evts) ∧ (s.on (EV_STAT_cal_busy i) = false) ∧
      (s.evSelects i falling = true) ∧ ((s.evInput i).dead (s.evLocal i phase bin) = true)) ∧
(∃ (i : Fin 8) (falling : Bool) (phase : Fin 4) (bin : Fin 512) (s : State), (s.up) ∧ (i.val < s.evts) ∧ (s.on (EV_STAT_cal_busy i) = false) ∧
      (s.evSelects i falling = true) ∧ ((s.evInput i).dead (s.evLocal i phase bin) = false) ∧ ((s.evInput i).skipped < s.get (EV_IN_CFG_decim i))) ∧
(∃ (i : Fin 8) (falling : Bool) (phase : Fin 4) (bin : Fin 512) (s : State), (s.up) ∧ (i.val < s.evts) ∧ (s.on (EV_STAT_cal_busy i) = false) ∧
      (s.evSelects i falling = true) ∧ ((s.evInput i).dead (s.evLocal i phase bin) = false) ∧ (s.get (EV_IN_CFG_decim i) ≤ (s.evInput i).skipped) ∧
      (s.on (EV_IN_CFG_ts_fifo i) = true) ∧ ((s.evInput i).fifo.length < 64)) ∧
(∃ (i : Fin 8) (falling : Bool) (phase : Fin 4) (bin : Fin 512) (s : State), (s.up) ∧ (i.val < s.evts) ∧ (s.on (EV_STAT_cal_busy i) = false) ∧
      (s.evSelects i falling = true) ∧ ((s.evInput i).dead (s.evLocal i phase bin) = false) ∧ (s.get (EV_IN_CFG_decim i) ≤ (s.evInput i).skipped) ∧
      (s.on (EV_IN_CFG_ts_fifo i) = true) ∧ (64 ≤ (s.evInput i).fifo.length)) ∧
(∃ (m : Master) (i : Fin 8) (x : Stamp) (l : List Stamp) (s : State), (reaches m s) ∧ (i.val < s.evts) ∧ ((s.evInput i).fifo = x :: l)) ∧
(∃ (g : Fin 8) (x : Stamp) (l : List Stamp) (s : State), (s.up) ∧ ((s.evGroup g).starts = x :: l) ∧ (x.t + s.grpWin g ≤ ((s.tb.toNat / 2 ^ 16 : Nat) :
      Int)) ∧ ((s.evGroup g).fifo.length < 64)) ∧
(∃ (g : Fin 8) (x : Stamp) (l : List Stamp) (s : State), (s.up) ∧ ((s.evGroup g).starts = x :: l) ∧ (x.t + s.grpWin g ≤ ((s.tb.toNat / 2 ^ 16 : Nat) :
      Int)) ∧ (64 ≤ (s.evGroup g).fifo.length)) ∧
(∃ (m : Master) (g : Fin 8) (x : EvResult) (l : List EvResult) (s : State), (reaches m s) ∧ ((s.evGroup g).fifo = x :: l)) :=
  ⟨⟨7, true, 3, 511, ((State.reset.set (EV_IN_CFG_enable 7) 1).set (EV_IN_CFG_edge 7) 2).raise (EV_STAT_cal_busy 7), by decide +kernel⟩,
   ⟨7, true, 3, 511,
      { ((State.reset.set (EV_IN_CFG_enable 7) 1).set (EV_IN_CFG_edge 7) 2).setEvIn 7 { EvIn.quiet with last := some 0 } with tdc := { State.reset.tdc with sets := [(62, some (⟨320, 7, 0, 1, [9, 9]⟩ : BinSet))] } },
      by decide +kernel⟩,
   ⟨7, true, 3, 511, ((State.reset.set (EV_IN_CFG_enable 7) 1).set (EV_IN_CFG_edge 7) 2).set (EV_IN_CFG_decim 7) 1, by decide +kernel⟩,
   ⟨7, true, 3, 511, (((((State.reset.set (EV_IN_CFG_enable 7) 1).set (EV_IN_CFG_edge 7) 2).set (EV_IN_CFG_ts_fifo 7) 1).set (EV_IN_ADJ_adj 7) (2 ^ 32 -
      9)).wr (EV_GRP_CFG 3) 0xF), by decide +kernel⟩,
   ⟨7, true, 3, 511, (((((State.reset.set (EV_IN_CFG_enable 7) 1).set (EV_IN_CFG_edge 7) 2).set (EV_IN_CFG_ts_fifo 7) 1).set (EV_IN_ADJ_adj 7) (2 ^ 32 -
      9)).wr (EV_GRP_CFG 3) 0xF).setEvIn 7 { EvIn.quiet with fifo := List.replicate 64 ⟨0, 0, false, false, 0⟩ }, by decide +kernel⟩,
   ⟨.pcie, 7, (⟨7 * 65536 * 1000000000 + 65536, 4, true, false, 0⟩ : Stamp), [(⟨7 * 65536 * 1000000000 + 65536, 4, true, false, 0⟩ : Stamp)],
      State.reset.setEvIn 7
      { EvIn.quiet with fifo := [(⟨7 * 65536 * 1000000000 + 65536, 4, true, false, 0⟩ : Stamp), (⟨7 * 65536 * 1000000000 + 65536, 4, true, false, 0⟩ : Stamp)] },
      by decide +kernel⟩,
   ⟨7, ⟨5, 4, true, false, 0⟩, [], ({ State.reset with tb := ⟨1, 0, 0⟩ } : State).setEvGrp 7 ⟨[⟨5, 4, true, false, 0⟩], []⟩, by decide +kernel⟩,
   ⟨7, ⟨5, 4, true, false, 0⟩, [], ({ State.reset with tb := ⟨1, 0, 0⟩ } : State).setEvGrp 7 ⟨[⟨5, 4, true, false, 0⟩], List.replicate 64 (⟨4, 65536,
      false, true, false, [⟨5, true, false, false⟩]⟩ : EvResult)⟩, by decide +kernel⟩,
   ⟨.pcie, 7, (⟨4, 65536, false, true, false, [⟨5, true, false, false⟩]⟩ : EvResult), [(⟨4, 65536, false, true, false, [⟨5, true, false, false⟩]⟩ :
      EvResult)], State.reset.setEvGrp 7 ⟨[], [(⟨4, 65536, false, true, false, [⟨5, true, false, false⟩]⟩ : EvResult), (⟨4, 65536, false, true, false,
      [⟨5, true, false, false⟩]⟩ : EvResult)]⟩, by decide +kernel⟩⟩

theorem test_GroupsAndCalibrations :
(∃ (m : Master) (g : Fin 8) (win : Bool) (v : Word) (s : State), (reaches m s)) ∧
(∃ (n : Fin 4) (r : MbReq) (g : Fin 8) (s : State), (serving n 0x1200 r s) ∧ (r.payload.length = 12) ∧ (byteAt r.payload 0 = g.val) ∧ (byteAt
      r.payload 1 ≤ 1) ∧ (byteAt r.payload 2 < s.evts) ∧ (byteAt r.payload 3 < 2 ^ s.evts) ∧ (1 ≤ leAt r.payload 4 4) ∧ (leAt r.payload 4 4 ≤
      1000000000) ∧ (leAt r.payload 8 4 = 0)) ∧
(∃ (m : Master) (i : Fin 8) (v : Word) (s : State), (reaches m s) ∧ (i.val < s.evts) ∧ (bitOf v.toNat 0 = true) ∧ (s.tdcBusy i = false)) ∧
(∃ (m : Master) (i : Fin 8) (v : Word) (s : State), (reaches m s) ∧ (i.val < s.evts) ∧ (s.tdcBusy i = true)) ∧
(∃ (i : Fin 8) (hits : List Nat) (residual : Nat) (k : Fin 5) (s : State), (s.up) ∧ (s.tdcBusy i = true) ∧ (s.tdcGood i hits residual = true) ∧
      (nearSet s.lid = some k.val)) ∧
(∃ (i : Fin 8) (hits : List Nat) (residual : Nat) (s : State), (s.up) ∧ (s.tdcBusy i = true) ∧ (s.tdcGood i hits residual = true) ∧ (nearSet s.lid =
      none)) ∧
(∃ (i : Fin 8) (hits : List Nat) (residual : Nat) (s : State), (s.up) ∧ (s.tdcBusy i = true) ∧ (s.tdcGood i hits residual = false)) ∧
(∃ (m : Master) (c : Fin 6) (v : Word) (s : State), (reaches m s) ∧ (c.val < s.chans) ∧ (bitOf v.toNat 0 = true) ∧ (s.tdcBusy (8 + c.val) = false) ∧
      (s.on (TC_STAT_resetting c) = false)) ∧
(∃ (c : Fin 6) (hits : List Nat) (residual : Nat) (s : State), (s.up) ∧ (s.tdcBusy (8 + c.val) = true)) ∧
(∃ (s : State), (s.up)) ∧
(∃ (n : Fin 4) (r : MbReq) (k : Fin 14) (s : State), (serving n 0x1201 r s) ∧ (r.payload.length = 4) ∧ (byteAt r.payload 0 = tdcCode k) ∧ (s.tdcHere k
      = true) ∧ (leAt r.payload 1 3 = 0) ∧ (s.tdcFree k = true)) ∧
(∃ (n : Fin 4) (r : MbReq) (k : Fin 14) (b : BinSet) (s : State), (serving n 0x1202 r s) ∧ (r.payload.length = 4) ∧ (byteAt r.payload 0 = tdcCode k) ∧
      (s.tdcHere k = true) ∧ (byteAt r.payload 1 ≤ 6) ∧ (leAt r.payload 2 2 = 0) ∧ ((if byteAt r.payload 1 = 6 then s.liveSet k else if byteAt
      r.payload 1 = 5 then some (s.tableInUse k) else some (s.binSet k (byteAt r.payload 1))) = some b)) ∧
(∃ (n : Fin 4) (r : MbReq) (k : Fin 14) (j : Fin 5) (s : State), (serving n 0x1203 r s) ∧ (r.payload.length = 1032) ∧ (byteAt r.payload 0 = tdcCode k)
      ∧ (s.tdcHere k = true) ∧ (byteAt r.payload 1 = j.val) ∧ (leAt r.payload 2 2 = 0) ∧ (leAt r.payload 6 2 ≤ 511) ∧ (leAt r.payload 4 2 ≤ leAt
      r.payload 6 2) ∧ (s.tdcBusy k = false) ∧ (((List.range 512).map fun b => leAt r.payload (8 + 2 * b) 2).sum * 100 ≤ s.tdcSpan k * 105) ∧
      (s.tdcSpan k * 95 ≤ ((List.range 512).map fun b => leAt r.payload (8 + 2 * b) 2).sum * 100) ∧ (k.val < 8)) ∧
(∃ (n : Fin 4) (r : MbReq) (k : Fin 14) (j : Fin 5) (s : State), (serving n 0x1203 r s) ∧ (r.payload.length = 1032) ∧ (byteAt r.payload 0 = tdcCode k)
      ∧ (s.tdcHere k = true) ∧ (byteAt r.payload 1 = j.val) ∧ (leAt r.payload 2 2 = 0) ∧ (leAt r.payload 6 2 ≤ 511) ∧ (leAt r.payload 4 2 ≤ leAt
      r.payload 6 2) ∧ (s.tdcBusy k = false) ∧ (((List.range 512).map fun b => leAt r.payload (8 + 2 * b) 2).sum * 100 ≤ s.tdcSpan k * 105) ∧
      (s.tdcSpan k * 95 ≤ ((List.range 512).map fun b => leAt r.payload (8 + 2 * b) 2).sum * 100) ∧ (8 ≤ k.val)) :=
  ⟨⟨.pcie, 7, false, 0xFFFFFFFF, State.reset.setEvGrp 7 ⟨[(⟨7 * 65536 * 1000000000 + 65536, 4, true, false, 0⟩ : Stamp)], [(⟨4, 65536, false, true,
      false, [⟨5, true, false, false⟩]⟩ : EvResult)]⟩, by decide +kernel⟩,
   ⟨1, ⟨0x1200, 5, 0, 1, 0, [7, 1, 7, 0x7F, 0, 0xCA, 0x9A, 0x3B, 0, 0, 0, 0]⟩, 7, ((State.reset.set (MB_STAT_state 1) 2).raise MB_EPOCH_mp_running).setMb
      1 { Mbox.empty with taken := some ⟨0x1200, 5, 0, 1, 0, [7, 1, 7, 0x7F, 0, 0xCA, 0x9A, 0x3B, 0, 0, 0, 0]⟩ }, by decide +kernel⟩,
   ⟨.pcie, 7, 1, State.reset, by decide +kernel⟩,
   ⟨.pcie, 7, 1, { State.reset with tdc := { State.reset.tdc with run := [(7, some 0)], sets := [(62, some (⟨320, 7, 0, 1, [9, 9]⟩ : BinSet))] } }, by
      decide +kernel⟩,
   ⟨7, [3, 4], 300, 1, { State.reset with tdc := { State.reset.tdc with run := [(7, some 0)], sets := [(62, some (⟨320, 7, 0, 1, [9, 9]⟩ : BinSet))] } },
      by decide +kernel⟩,
   ⟨7, [3, 4], 300,
      { State.reset.set (HL_TEMP_now 0) 160 with tdc := { State.reset.tdc with run := [(7, some 0)], sets := [(62, some (⟨320, 7, 0, 1, [9, 9]⟩ : BinSet))] } },
      by decide +kernel⟩,
   ⟨7, [3, 4], 301, { State.reset with tdc := { State.reset.tdc with run := [(7, some 0)], sets := [(62, some (⟨320, 7, 0, 1, [9, 9]⟩ : BinSet))] } }, by
      decide +kernel⟩,
   ⟨.pcie, 5, 1, State.reset, by decide +kernel⟩,
   ⟨5, [3, 4], 301,
      ({ State.reset.raise (TC_STAT_tdc_cal 5) with tdc := { State.reset.tdc with run := [(13, some 0)], sets := [(110, some (⟨320, 7, 0, 1, [9, 9]⟩ : BinSet))] } }
      : State), by decide +kernel⟩,
   ⟨{ State.reset with tdc := { State.reset.tdc with run := [(7, some 0)], sets := [(62, some (⟨320, 7, 0, 1, [9, 9]⟩ : BinSet))] } }, by decide +kernel⟩,
   ⟨1, ⟨0x1201, 5, 0, 1, 0, [21, 0, 0, 0]⟩, 13, ((State.reset.set (MB_STAT_state 1) 2).raise MB_EPOCH_mp_running).setMb 1
      { Mbox.empty with taken := some ⟨0x1201, 5, 0, 1, 0, [21, 0, 0, 0]⟩ }, by decide +kernel⟩,
   ⟨1, ⟨0x1202, 5, 0, 1, 0, [21, 6, 0, 0]⟩, 13, (⟨320, 7, 0, 1, [9, 9]⟩ : BinSet),
      ((({ State.reset.raise (TC_STAT_tdc_cal 5) with tdc := { State.reset.tdc with run := [(13, some 0)], sets := [(110, some (⟨320, 7, 0, 1, [9, 9]⟩ : BinSet))] } }
      : State).set (MB_STAT_state 1) 2).raise MB_EPOCH_mp_running).setMb 1 { Mbox.empty with taken := some ⟨0x1202, 5, 0, 1, 0, [21, 6, 0, 0]⟩ }, by
      decide +kernel⟩,
   ⟨1, ⟨0x1203, 5, 0, 1, 0, [7, 4, 0, 0, 1, 0, 0xFF, 1] ++ (List.replicate 512 [0x0D, 3]).flatten⟩, 7, 4, ((State.reset.set (MB_STAT_state 1) 2).raise
      MB_EPOCH_mp_running).setMb 1
      { Mbox.empty with taken := some ⟨0x1203, 5, 0, 1, 0, [7, 4, 0, 0, 1, 0, 0xFF, 1] ++ (List.replicate 512 [0x0D, 3]).flatten⟩ }, by
      decide +kernel⟩,
   ⟨1, ⟨0x1203, 5, 0, 1, 0, [21, 4, 0, 0, 1, 0, 0xFF, 1] ++ (List.replicate 512 [0xC3, 0]).flatten⟩, 13, 4, ((State.reset.set (MB_STAT_state 1) 2).raise
      MB_EPOCH_mp_running).setMb 1
      { Mbox.empty with taken := some ⟨0x1203, 5, 0, 1, 0, [21, 4, 0, 0, 1, 0, 0xFF, 1] ++ (List.replicate 512 [0xC3, 0]).flatten⟩ }, by
      decide +kernel⟩⟩

theorem test_GalleryStates :
(∃ (lane : Fin 2) (f : GalFrame) (x : GalState) (ing : Int) (rt : Int) (mon : Option (Fin 4 × Int)) (s : State), (s.up) ∧ (s.twState = 5) ∧
      (s.tw.galLost = false) ∧ (s.pairFault f.hdr = none) ∧ (s.secondCopy lane f = false) ∧ (s.tw.needSync = false) ∧ (s.tw.missed = 0) ∧ (s.tw.late =
      none) ∧ (f.body = .state x) ∧ (x.digest = s.twDigest) ∧ (f.hdr.fault = false) ∧ (f.hdr.resync = false)) ∧
(∃ (lane : Fin 2) (f : GalFrame) (x : GalState) (ing : Int) (rt : Int) (mon : Option (Fin 4 × Int)) (s : State), (s.up) ∧ (s.twState = 5) ∧
      (s.tw.galLost = false) ∧ (s.pairFault f.hdr = none) ∧ (s.secondCopy lane f = false) ∧ (f.body = .state x) ∧ (x.digest ≠ s.twDigest)) ∧
(∃ (lane : Fin 2) (f : GalFrame) (x : GalState) (ing : Int) (rt : Int) (mon : Option (Fin 4 × Int)) (s : State), (s.up) ∧ (s.twState = 2 ∨ s.twState =
      3) ∧ (s.secondCopy lane f = false) ∧ (f.body = .state x) ∧ (f.hdr.state = 2 ∨ f.hdr.state = 3)) ∧
(∃ (s : State), (s.up) ∧ (s.twState = 3 ∨ s.twState = 4 ∨ s.twState = 5 ∨ s.twState = 6) ∧ (s.tw.galLost = false) ∧ (s.tw.missed = 0)) ∧
(∃ (s : State), (s.up) ∧ (s.twState = 3 ∨ s.twState = 4 ∨ s.twState = 5 ∨ s.twState = 6) ∧ (s.tw.galLost = false) ∧ (0 < s.tw.missed) ∧ (s.on
      TW_STAT_hb_ok = true)) :=
  ⟨⟨1, ⟨⟨true, true, false, false, false, 7, 6, 0xFFFFFFFF, 3, 8, State.reset.partCode⟩, .state ⟨5, 6, 7, 8, [], [], [⟨4, true, 0xFFFF, 9, 1, 2, 3, 4,
      5⟩], State.reset.twDigest, 3, -9, ⟨1, 2⟩⟩⟩, ⟨5, 6, 7, 8, [], [], [⟨4, true, 0xFFFF, 9, 1, 2, 3, 4, 5⟩], State.reset.twDigest, 3, -9, ⟨1, 2⟩⟩,
      70000, 900, some (3, 5), (State.reset.set TW_STAT_state 5), by decide +kernel⟩,
   ⟨1, ⟨⟨true, true, false, false, false, 7, 6, 0xFFFFFFFF, 3, 8, State.reset.partCode⟩, .state ⟨5, 6, 7, 8, [], [], [⟨4, true, 0xFFFF, 9, 1, 2, 3, 4,
      5⟩], 7, 3, -9, ⟨1, 2⟩⟩⟩, ⟨5, 6, 7, 8, [], [], [⟨4, true, 0xFFFF, 9, 1, 2, 3, 4, 5⟩], 7, 3, -9, ⟨1, 2⟩⟩, 70000, 900, none, (State.reset.set
      TW_STAT_state 5), by decide +kernel⟩,
   ⟨1, ⟨⟨true, true, false, false, false, 7, 6, 0xFFFFFFFF, 3, 8, State.reset.partCode⟩, .state ⟨5, 6, 7, 8, [], [], [⟨4, true, 0xFFFF, 9, 1, 2, 3, 4,
      5⟩], State.reset.twDigest, 3, -9, ⟨1, 2⟩⟩⟩, ⟨5, 6, 7, 8, [], [], [⟨4, true, 0xFFFF, 9, 1, 2, 3, 4, 5⟩], State.reset.twDigest, 3, -9, ⟨1, 2⟩⟩,
      70000, 900, none, (State.reset.set TW_STAT_state 3).raise TW_STAT_seat |>.raise TW_STAT_gal0_up, by decide +kernel⟩,
   ⟨{ (State.reset.set TW_STAT_state 5) with tw := { Twin.reset with hdr := some ⟨true, true, false, false, false, 7, 6, 0xFFFFFFFF, 3, 8, State.reset.partCode⟩ } },
      by decide +kernel⟩,
   ⟨{ (State.reset.set TW_STAT_state 5).raise TW_STAT_hb_ok with tw := { Twin.reset with missed := 1, hdr := some ⟨true, true, false, false, false, 7, 6, 0xFFFFFFFF, 3, 8, State.reset.partCode⟩ } },
      by decide +kernel⟩⟩

theorem test_GalleryFrames :
(∃ (lane : Fin 2) (f : GalFrame) (w : Word × Word × Word × Word) (loc : Nat) (s : State), (s.up) ∧ (s.twState = 5) ∧ (s.tw.galLost = false) ∧
      (s.pairFault f.hdr = none) ∧ (s.secondCopy lane f = false) ∧ (s.tw.late ≠ some f.hdr.cycle) ∧ (f.body = .delta [w]) ∧ ((entOfWords w).valid1 =
      true) ∧ (s.macFind (entOfWords w).fid (entOfWords w).addr = some loc)) ∧
(∃ (lane : Fin 2) (f : GalFrame) (w : Word × Word × Word × Word) (loc : Nat) (s : State), (s.up) ∧ (s.twState = 5) ∧ (s.tw.galLost = false) ∧
      (s.pairFault f.hdr = none) ∧ (s.secondCopy lane f = false) ∧ (s.tw.late ≠ some f.hdr.cycle) ∧ (f.body = .delta [w]) ∧ ((entOfWords w).valid1 =
      false) ∧ (s.macFind (entOfWords w).fid (entOfWords w).addr = some loc) ∧ ((s.ent 0 loc).fixed = false)) ∧
(∃ (lane : Fin 2) (f : GalFrame) (q : Nat) (l : List (Word × Word × Word × Word)) (s : State), (s.up) ∧ (s.twState = 5) ∧ (s.tw.galLost = false) ∧
      (s.pairFault f.hdr = none) ∧ (s.secondCopy lane f = false) ∧ (f.body = .bulkMac q l) ∧ (s.on TW_STAT_resync_busy = true)) ∧
(∃ (lane : Fin 2) (f : GalFrame) (q : Nat) (c : Nat) (l : List HoRec) (s : State), (s.up) ∧ (s.twState = 5) ∧ (s.tw.galLost = false) ∧ (s.pairFault
      f.hdr = none) ∧ (s.secondCopy lane f = false) ∧ (f.body = .bulkHo q c true l) ∧ (s.twChan c = true) ∧ (l = [] ∨ (s.chanOf c).hist.h15 = []) ∧
      (l.length ≤ 1)) ∧
(∃ (lane : Fin 2) (f : GalFrame) (d : Nat) (s : State), (s.up) ∧ (s.twState ≠ 0) ∧ (s.twState ≠ 6) ∧ (s.isStandby = false ∨ (s.tw.galLost = false ∧
      s.pairFault f.hdr = none)) ∧ (f.body = .elect d) ∧ (s.secondCopy lane f = false)) ∧
(∃ (lane : Fin 2) (f : GalFrame) (s : State), (s.up) ∧ (s.twState = 2 ∨ s.twState = 3) ∧ (s.secondCopy lane f = false) ∧ (f.body = .takeover)) ∧
(∃ (lane : Fin 2) (f : GalFrame) (x : Nat) (s : State), (s.up) ∧ (s.twState = 4 ∨ s.twState = 5 ∨ s.twState = 6) ∧ (s.secondCopy lane f = false) ∧
      (f.body = .release x) ∧ (x < 16) ∧ (s.rootLocked = true) ∧ (s.tw.taking = none)) ∧
(∃ (lane : Fin 2) (f : GalFrame) (k : Nat) (d : Int) (y : Int) (e : Stamp16) (s : State), (s.up) ∧ (s.twState = 3) ∧ (f.body = .reply k d y e) ∧
      (s.tw.missed = 0) ∧ (f.hdr.resync = false) ∧ (s.timeCh < s.chans) ∧ (s.secondCopy lane f = false)) :=
  ⟨⟨1, ⟨⟨true, true, false, false, false, 7, 6, 0xFFFFFFFF, 3, 8, State.reset.partCode⟩, .delta [((Ent.learned 1 2 3 0).w0, (Ent.learned 1 2 3 0).w1,
      (Ent.learned 1 2 3 0).w2, (Ent.learned 1 2 3 0).w3)]⟩, ((Ent.learned 1 2 3 0).w0, (Ent.learned 1 2 3 0).w1, (Ent.learned 1 2 3 0).w2,
      (Ent.learned 1 2 3 0).w3), (State.reset.ways 1 2).headD 0,
      { (State.reset.set TW_STAT_state 5) with ft := { State.reset.ft with mac := [((State.reset.ways 1 2).headD 0, (Ent.learned 1 2 3 0).with1 30 true)] } },
      by decide +kernel⟩,
   ⟨1, ⟨⟨true, true, false, false, false, 7, 6, 0xFFFFFFFF, 3, 8, State.reset.partCode⟩, .delta [((Ent.learned 1 2 3 0).w0, (Ent.learned 1 2 3 0).w1 &&&
      0x7FFFFFFF, (0 : Word), (0 : Word))]⟩, ((Ent.learned 1 2 3 0).w0, (Ent.learned 1 2 3 0).w1 &&& 0x7FFFFFFF, (0 : Word), (0 : Word)),
      (State.reset.ways 1 2).headD 0,
      { (State.reset.set TW_STAT_state 5) with ft := { State.reset.ft with mac := [((State.reset.ways 1 2).headD 0, Ent.learned 1 2 3 0)] } }, by
      decide +kernel⟩,
   ⟨1, ⟨⟨true, true, false, false, false, 7, 6, 0xFFFFFFFF, 3, 8, State.reset.partCode⟩, .bulkMac 0 [((Ent.learned 1 2 3 0).w0, (Ent.learned 1 2 3 0).w1,
      (Ent.learned 1 2 3 0).w2, (Ent.learned 1 2 3 0).w3)]⟩, 0, [((Ent.learned 1 2 3 0).w0, (Ent.learned 1 2 3 0).w1, (Ent.learned 1 2 3 0).w2,
      (Ent.learned 1 2 3 0).w3)], (State.reset.set TW_STAT_state 5).raise TW_STAT_resync_busy, by decide +kernel⟩,
   ⟨1, ⟨⟨true, true, false, false, false, 7, 6, 0xFFFFFFFF, 3, 8, State.reset.partCode⟩, .bulkHo 0 5 true [⟨900, 5, 400⟩]⟩, 0, 5, [⟨900, 5, 400⟩],
      (State.reset.set TW_STAT_state 5).set TW_DELTA_delta (2 ^ 32 - 3), by decide +kernel⟩,
   ⟨1, ⟨⟨true, true, false, false, false, 7, 6, 0xFFFFFFFF, 1, 8, State.reset.partCode⟩, .elect 5⟩, 5, (State.reset.set TW_STAT_state 2), by
      decide +kernel⟩,
   ⟨1, ⟨⟨true, true, false, false, false, 7, 6, 0xFFFFFFFF, 5, 8, State.reset.partCode⟩, .takeover⟩, (State.reset.set TW_STAT_state 3), by
      decide +kernel⟩,
   ⟨1, ⟨⟨true, true, false, false, false, 7, 6, 0xFFFFFFFF, 3, 8, State.reset.partCode⟩, .release 15⟩, 15, (State.reset.set TW_STAT_state 5), by
      decide +kernel⟩,
   ⟨1, ⟨⟨true, false, false, false, false, 7, 6, 5, 5, 8, State.reset.partCode⟩, .reply 3 (-5) 6 ⟨1, 2⟩⟩, 3, -5, 6, ⟨1, 2⟩, (State.reset.set
      TW_STAT_state 3), by decide +kernel⟩⟩

theorem test_TwinRoles :
(∃ (k : Fin 4) (x : Int) (a : Bool) (g0 : Bool) (g1 : Bool) (hb : Option Nat) (s : State), (s.up) ∧ (s.twState = 0) ∧ (s.on (TW_MON_CFG_enable k) =
      true)) ∧
(∃ (h : GalHdr) (hb : Option Nat) (g0 : Bool) (g1 : Bool) (s : State), (s.up) ∧ (hbReads hb ≠ some true) ∧ (s.twState = 1) ∧ (s.tw.hdr = some h) ∧
      (s.tw.elect = true) ∧ (h.state = 1) ∧ (h.prio < s.get TW_CTRL_prio ∨ (h.prio = s.get TW_CTRL_prio ∧ s.on TW_STAT_seat = false)) ∧ (s.tw.galLost
      = false) ∧ (s.clk < s.tw.frameAt + s.waitClk)) ∧
(∃ (h : GalHdr) (hb : Option Nat) (g0 : Bool) (g1 : Bool) (s : State), (s.up) ∧ (s.twState = 1) ∧ (s.tw.hdr = some h) ∧ (s.tw.elect = true) ∧ (h.state
      = 1) ∧ (s.get TW_CTRL_prio < h.prio ∨ (h.prio = s.get TW_CTRL_prio ∧ s.on TW_STAT_seat = true)) ∧ (h.seat ≠ s.on TW_STAT_seat) ∧ (h.part =
      s.partCode) ∧ (s.clk < s.tw.frameAt + s.waitClk) ∧ ((∀ j : Nat, j < 4 → s.on (TW_MON_CFG_enable j) = false))) ∧
(∃ (k : Fin 4) (x : Int) (h : GalHdr) (hb : Option Nat) (g0 : Bool) (g1 : Bool) (s : State), (s.up) ∧ (s.twState = 5) ∧ (s.tw.hdr = some h) ∧
      (s.tw.taking = none) ∧ (s.tw.missed = 0) ∧ (s.tw.galLost = false) ∧ (s.on (TW_MON_CFG_enable k) = true) ∧ (s.get (TW_MON_CFG_thr k) * 65536 < (x
      - signed 32 (s.rd (TW_MON_ADJ k)).toNat).natAbs * 100) ∧ (s.tw.monRun.get 0 k = 1) ∧ (h.selfOk = false) ∧ (s.clk < s.tw.frameAt + s.waitClk) ∧
      ((∀ j : Nat, j < 4 → j ≠ k.val → s.on (TW_MON_CFG_enable j) = false))) ∧
(∃ (s : State), (s.up) ∧ (s.twState = 1) ∧ (s.tw.hdr = none ∨ s.tw.frameAt + s.waitClk ≤ s.clk) ∧ (s.on TW_STAT_hb_ok = false)) ∧
(∃ (s : State), (s.up) ∧ (s.twState = 1) ∧ (s.tw.hdr = none ∨ s.tw.frameAt + s.waitClk ≤ s.clk) ∧ (s.on TW_STAT_hb_ok = true) ∧ (s.on
      TW_STAT_hb_partner_active = true)) ∧
(∃ (s : State), (s.up) ∧ (s.twState = 1) ∧ (s.tw.hdr = none ∨ s.tw.frameAt + s.waitClk ≤ s.clk) ∧ (s.on TW_STAT_hb_ok = true) ∧ (s.on
      TW_STAT_hb_partner_active = false)) ∧
(∃ (s : State), (s.up) ∧ (s.on TW_STAT_hb_ok = true)) ∧
(∃ (x : Nat) (s : State), (s.up) ∧ (s.tw.taking = some x) ∧ (x < 16) ∧ (s.twState = 4 ∨ s.twState = 5 ∨ s.twState = 6)) ∧
(∃ (m : Master) (s : State), (reaches m s) ∧ (guardOpen m s = true) ∧ (s.twState = 4 ∨ s.twState = 5 ∨ s.twState = 6)) ∧
(∃ (m : Master) (s : State), (reaches m s) ∧ (guardOpen m s = true) ∧ (s.twState = 3) ∧ (s.partnerReady = true)) ∧
(∃ (s : State), (s.up) ∧ (s.twState = 6) ∧ (s.faultGone = true)) ∧
(∃ (h : GalHdr) (s : State), (s.up) ∧ (s.twState = 4) ∧ (s.on TW_STAT_resync_busy = true) ∧ (s.tw.hdr = some h) ∧ (h.resync = false)) :=
  ⟨⟨3, -66191, true, true, false, some 500000, (State.reset.set TW_STAT_state 0).raise (TW_MON_CFG_enable 3), by decide +kernel⟩,
   ⟨⟨true, true, false, false, false, 7, 6, 0xFFFFFFFF, 1, 8, State.reset.partCode⟩, some 250000, true, true,
      { (State.reset.set TW_STAT_state 1) with tw := { Twin.reset with elect := true, hdr := some ⟨true, true, false, false, false, 7, 6, 0xFFFFFFFF, 1, 8, State.reset.partCode⟩ } },
      by decide +kernel⟩,
   ⟨⟨false, true, false, false, false, 7, 6, 0xFFFFFFFF, 1, 8, State.reset.partCode⟩, none, true, true,
      { (State.reset.set TW_STAT_state 1).raise TW_STAT_seat with tw := { Twin.reset with elect := true, hdr := some ⟨false, true, false, false, false, 7, 6, 0xFFFFFFFF, 1, 8, State.reset.partCode⟩ } },
      by decide +kernel⟩,
   ⟨3, -66191, ⟨true, false, false, false, false, 7, 6, 0xFFFFFFFF, 3, 8, State.reset.partCode⟩, some 500000, true, true,
      { (State.reset.set TW_STAT_state 5).raise (TW_MON_CFG_enable 3) with tw := { Twin.reset with monRun := [(3, 1)], hdr := some ⟨true, false, false, false, false, 7, 6, 0xFFFFFFFF, 3, 8, State.reset.partCode⟩ } },
      by decide +kernel⟩,
   ⟨(State.reset.set TW_STAT_state 1), by decide +kernel⟩,
   ⟨(State.reset.set TW_STAT_state 1).raise TW_STAT_hb_ok |>.raise TW_STAT_hb_partner_active, by decide +kernel⟩,
   ⟨(State.reset.set TW_STAT_state 1).raise TW_STAT_hb_ok, by decide +kernel⟩,
   ⟨{ (State.reset.set TW_STAT_state 3).raise TW_STAT_hb_ok with tw := { Twin.reset with galLost := true } }, by decide +kernel⟩,
   ⟨15, { (State.reset.set TW_STAT_state 6) with tw := { Twin.reset with taking := some 15 } }, by decide +kernel⟩,
   ⟨.msp, (let s : State := (State.reset.set TW_STAT_state 5); { s with host := { s.host with guardMsp := true } }), by decide +kernel⟩,
   ⟨.msp, (let s : State
      := { (State.reset.set TW_STAT_state 3) with tw := { Twin.reset with hdr := some ⟨true, true, false, false, false, 7, 6, 0xFFFFFFFF, 5, 8, State.reset.partCode⟩ } };
      { s with host := { s.host with guardMsp := true } }), by decide +kernel⟩,
   ⟨{ (State.reset.set TW_STAT_state 6).set TW_STAT_fault_cause 1 with tw := { Twin.reset with hdr := some ⟨true, true, false, false, false, 7, 6, 0xFFFFFFFF, 3, 8, State.reset.partCode⟩ } },
      by decide +kernel⟩,
   ⟨⟨true, true, false, false, false, 7, 6, 0xFFFFFFFF, 3, 8, State.reset.partCode⟩,
      { (State.reset.set TW_STAT_state 4).raise TW_STAT_resync_busy with tw := { Twin.reset with hdr := some ⟨true, true, false, false, false, 7, 6, 0xFFFFFFFF, 3, 8, State.reset.partCode⟩ } },
      by decide +kernel⟩⟩

theorem test_LacpAndTwinOpcodes :
(∃ (p : Fin 48) (b : Bytes) (fast : Bool) (s : State), (s.up) ∧ (s.stacksRun = true) ∧ (s.portSends p = true) ∧ (s.loopOf p = 0)) ∧
(∃ (p : Fin 48) (b : Bytes) (fast : Bool) (s : State), (s.up) ∧ (s.stacksRun = true) ∧ (s.portHere p = true) ∧ (s.portSends p = false)) ∧
(∃ (p : Fin 48) (x : Template) (s : State), (s.up) ∧ (s.on MB_EPOCH_mp_running = false) ∧ (s.portSends p = true) ∧ (s.loopOf p = 0) ∧
      (s.tw.templates.get none p = some x) ∧ (s.lacpOverdue p = true)) ∧
(∃ (c : Fin 32) (p : Fin 48) (b : Bytes) (fast : Bool) (x : Pkt) (s : State), (s.up) ∧ (s.mpFrame c = some x) ∧ (x.sysClass = 3)) ∧
(∃ (n : Fin 4) (r : MbReq) (s : State), (serving n 0x3000 r s) ∧ (r.payload = [])) ∧
(∃ (n : Fin 4) (r : MbReq) (s : State), (serving n 0x3001 r s) ∧ (r.payload.length = 48) ∧ (byteAt r.payload 0 ≤ 7) ∧ (byteAt r.payload 1 ≤ 15) ∧
      (byteAt r.payload 3 = 0) ∧ (byteAt r.payload 7 = 0) ∧ (leAt r.payload 10 2 = 0) ∧ (leAt r.payload 44 4 = 0) ∧ (s.twMasksOk (byteAt r.payload 2)
      (leAt r.payload 4 3) = true) ∧ (byteAt r.payload 2 ≤ 63) ∧ (leAt r.payload 4 3 < 2 ^ 18) ∧ ((∀ k : Nat, k < 4 → bitOf (byteAt r.payload (16 +
      k)) 5 = false ∧ byteAt r.payload (16 + k) % 32 ≤ 17 ∧ s.outHere (byteAt r.payload (16 + k) % 32) = true))) ∧
(∃ (n : Fin 4) (r : MbReq) (s : State), (serving n 0x3002 r s) ∧ (r.payload.length = 4) ∧ (byteAt r.payload 0 = 2) ∧ (leAt r.payload 1 3 = 0) ∧
      (s.isStandby = true)) ∧
(∃ (n : Fin 4) (r : MbReq) (s : State), (serving n 0x3002 r s) ∧ (r.payload.length = 4) ∧ (byteAt r.payload 0 = 1) ∧ (leAt r.payload 1 3 = 0) ∧
      (s.twState = 3) ∧ (s.partnerReady = true)) ∧
(∃ (n : Fin 4) (r : MbReq) (s : State), (serving n 0x3003 r s) ∧ (r.payload.length = 24) ∧ (leAt r.payload 0 6 < 2 ^ s.lanes) ∧ (byteAt r.payload 16 ≤
      3) ∧ (leAt r.payload 17 7 = 0) ∧ ((∀ p : Nat, p < s.lanes → (s.tw.templates.get none p).all (fun x => decide (19 ≤ x.pdu.length)) = true))) :=
  ⟨⟨47, (List.replicate 110 7), true, (((State.reset.raise MB_EPOCH_mp_running).raise (PT_CTRL_enable 47)).raise (PT_STAT_link_up 47)).raise
      (LN_CTRL_enable 47), by decide +kernel⟩,
   ⟨47, (List.replicate 110 7), true, State.reset.raise MB_EPOCH_mp_running, by decide +kernel⟩,
   ⟨47, ⟨(List.replicate 110 7), true, 3⟩,
      { (((State.reset).raise (PT_CTRL_enable 47)).raise (PT_STAT_link_up 47)).raise (LN_CTRL_enable 47) with clk := 1250000003, tw := { Twin.reset with templates := [(47, some ⟨(List.replicate 110 7), true, 3⟩)] } },
      by decide +kernel⟩,
   ⟨31, 47, (List.replicate 110 7), true,
      (({ (((((State.reset.raise MB_EPOCH_mp_running).set SC_BUF_STAT_sram_free 100).set (SC_Q_OCC_cells 415) 1).set (SC_CPUQ_CFG_dest 31) 1)) with sc := { Switch.reset with frames := [(0, { Pkt.none with bytes := List.replicate 60 0, len := 64, n := 1, port := 5, whole := true, refs := 1, store := 1, sysClass := 3, copies := [⟨415, none, 2, 3⟩] })], nextId := 1, queues := [(415, [(0, 0)])] } }
      : State).mpFrame 31).getD Pkt.none,
      { (((((State.reset.raise MB_EPOCH_mp_running).set SC_BUF_STAT_sram_free 100).set (SC_Q_OCC_cells 415) 1).set (SC_CPUQ_CFG_dest 31) 1)) with sc := { Switch.reset with frames := [(0, { Pkt.none with bytes := List.replicate 60 0, len := 64, n := 1, port := 5, whole := true, refs := 1, store := 1, sysClass := 3, copies := [⟨415, none, 2, 3⟩] })], nextId := 1, queues := [(415, [(0, 0)])] } },
      by decide +kernel⟩,
   ⟨1, ⟨0x3000, 5, 0, 1, 0, []⟩, ((State.reset.set (MB_STAT_state 1) 2).raise MB_EPOCH_mp_running).setMb 1
      { Mbox.empty with taken := some ⟨0x3000, 5, 0, 1, 0, []⟩ }, by decide +kernel⟩,
   ⟨1, ⟨0x3001, 5, 0, 1, 0, [7, 15, 0x3F, 0, 0xFF, 0xFF, 3, 0, 0xF4, 1, 0, 0, 1, 0, 0, 0x80, 0xD1, 0x8F, 0x40, 0] ++ [100, 0, 0xFF, 0xFF, 1, 0, 2, 0] ++
      leBytes 4 5 ++ leBytes 4 6 ++ leBytes 4 7 ++ leBytes 4 0xFFFFFFFF ++ zeros 4⟩, ((State.reset.set (MB_STAT_state 1) 2).raise
      MB_EPOCH_mp_running).setMb 1
      { Mbox.empty with taken := some ⟨0x3001, 5, 0, 1, 0, [7, 15, 0x3F, 0, 0xFF, 0xFF, 3, 0, 0xF4, 1, 0, 0, 1, 0, 0, 0x80, 0xD1, 0x8F, 0x40, 0] ++ [100, 0, 0xFF, 0xFF, 1, 0, 2, 0] ++ leBytes 4 5 ++ leBytes 4 6 ++ leBytes 4 7 ++ leBytes 4 0xFFFFFFFF ++ zeros 4⟩ },
      by decide +kernel⟩,
   ⟨1, ⟨0x3002, 5, 0, 1, 0, [2, 0, 0, 0]⟩, ((((State.reset.set TW_STAT_state 5)).set (MB_STAT_state 1) 2).raise MB_EPOCH_mp_running).setMb 1
      { Mbox.empty with taken := some ⟨0x3002, 5, 0, 1, 0, [2, 0, 0, 0]⟩ }, by decide +kernel⟩,
   ⟨1, ⟨0x3002, 5, 0, 1, 0, [1, 0, 0, 0]⟩,
      ((({ (State.reset.set TW_STAT_state 3) with tw := { Twin.reset with hdr := some ⟨true, true, false, false, false, 7, 6, 0xFFFFFFFF, 5, 8, State.reset.partCode⟩ } }).set
      (MB_STAT_state 1) 2).raise MB_EPOCH_mp_running).setMb 1 { Mbox.empty with taken := some ⟨0x3002, 5, 0, 1, 0, [1, 0, 0, 0]⟩ }, by decide +kernel⟩,
   ⟨1, ⟨0x3003, 5, 0, 1, 0, [1, 0, 0, 0, 0, 0x80, 1, 2, 1, 2, 3, 4, 5, 6, 9, 0, 3, 0, 0, 0, 0, 0, 0, 0]⟩, ((State.reset.set (MB_STAT_state 1) 2).raise
      MB_EPOCH_mp_running).setMb 1
      { Mbox.empty with taken := some ⟨0x3003, 5, 0, 1, 0, [1, 0, 0, 0, 0, 0x80, 1, 2, 1, 2, 3, 4, 5, 6, 9, 0, 3, 0, 0, 0, 0, 0, 0, 0]⟩ }, by
      decide +kernel⟩⟩

theorem test_UpdatePackage :
(∃ (n : Fin 4) (r : MbReq) (s : State), (serving n 0x4000 r s) ∧ (r.payload.length = 1024) ∧ (s.fu.upd = 0 ∨ s.fu.upd = 1 ∨ s.fu.upd = 3) ∧ (s.on
      FU_STAT_otp_pending = false) ∧ (s.fuCheck r.payload = none) ∧ (s.programming = false)) ∧
(∃ (n : Fin 4) (r : MbReq) (e : Nat) (s : State), (serving n 0x4000 r s) ∧ (r.payload.length = 1024) ∧ (s.fu.upd = 0 ∨ s.fu.upd = 1 ∨ s.fu.upd = 3) ∧
      (s.on FU_STAT_otp_pending = false) ∧ (s.fuCheck r.payload = some e)) ∧
(∃ (n : Fin 4) (r : MbReq) (s : State), (serving n 0x4000 r s) ∧ (r.payload.length = 1024) ∧ (byteAt r.payload 16 < s.fu.otp)) ∧
(∃ (n : Fin 4) (r : MbReq) (s : State), (serving n 0x4001 r s) ∧ (8 ≤ r.payload.length) ∧ (s.fu.upd = 1) ∧ (leAt r.payload 0 4 < s.fuBlocks) ∧
      ((r.payload.drop 8).length = s.blockLen (leAt r.payload 0 4)) ∧ (crc32c (r.payload.drop 8) = leAt r.payload 4 4) ∧ (s.programming = false)) ∧
(∃ (n : Fin 4) (r : MbReq) (s : State), (serving n 0x4001 r s) ∧ (8 ≤ r.payload.length) ∧ (s.fu.upd = 1) ∧ (leAt r.payload 0 4 < s.fuBlocks) ∧
      ((r.payload.drop 8).length = s.blockLen (leAt r.payload 0 4)) ∧ (crc32c (r.payload.drop 8) ≠ leAt r.payload 4 4)) ∧
(∃ (n : Fin 4) (r : MbReq) (s : State), (s.up) ∧ (s.mpRuns = true) ∧ (awaiting n 0x4001 r s)) ∧
(∃ (n : Fin 4) (r : MbReq) (s : State), (s.up) ∧ (s.mpRuns = true) ∧ (awaiting n 0x4001 r s)) ∧
(∃ (n : Fin 4) (r : MbReq) (s : State), (serving n 0x4002 r s) ∧ (r.payload = []) ∧ (s.fu.upd = 1) ∧ ((∀ i : Nat, i < s.fuBlocks → s.received i =
      true)) ∧ (s.programming = false)) ∧
(∃ (h : Bytes) (x : Bytes) (s : State), (s.up) ∧ (s.mpRuns = true) ∧ (s.fu.upd = 2) ∧ (s.fu.staged = some h) ∧ (s.fuCheck h = none) ∧ ((∀ i : Nat, i <
      s.fuBlocks → s.blockGood i = true)) ∧ (s.target h = some x)) ∧
(∃ (h : Bytes) (e : Nat) (s : State), (s.up) ∧ (s.mpRuns = true) ∧ (s.fu.upd = 2) ∧ (s.fu.staged = some h) ∧ (s.fuCheck h = some e)) ∧
(∃ (n : Fin 4) (r : MbReq) (s : State), (serving n 0x4005 r s) ∧ (r.payload = [])) :=
  ⟨⟨1, ⟨0x4000, 5, 0, 1, 0, testHeader⟩, ((({ State.reset with unit := testUnit } : State).set (MB_STAT_state 1) 2).raise MB_EPOCH_mp_running).setMb 1
      { Mbox.empty with taken := some ⟨0x4000, 5, 0, 1, 0, testHeader⟩ }, by decide +kernel⟩,
   ⟨1, ⟨0x4000, 5, 0, 1, 0, (testHeader.set 0 0)⟩, 0x0100, ((({ State.reset with unit := testUnit } : State).set (MB_STAT_state 1) 2).raise
      MB_EPOCH_mp_running).setMb 1 { Mbox.empty with taken := some ⟨0x4000, 5, 0, 1, 0, (testHeader.set 0 0)⟩ }, by decide +kernel⟩,
   ⟨1, ⟨0x4000, 5, 0, 1, 0, testHeader⟩, ((({ (({ State.reset with unit := testUnit } : State) : State) with fu := { Fu.shipped with otp := 1 } } :
      State).set (MB_STAT_state 1) 2).raise MB_EPOCH_mp_running).setMb 1 { Mbox.empty with taken := some ⟨0x4000, 5, 0, 1, 0, testHeader⟩ }, by
      decide +kernel⟩,
   ⟨1, ⟨0x4001, 5, 0, 1, 0, ([0, 0, 0, 0] ++ leBytes 4 (crc32c [42]) ++ [42])⟩,
      ((({ (({ State.reset with unit := testUnit } : State) : State) with fu := { Fu.shipped with staged := some testHeader, upd := 1 } } : State).set
      (MB_STAT_state 1) 2).raise MB_EPOCH_mp_running).setMb 1
      { Mbox.empty with taken := some ⟨0x4001, 5, 0, 1, 0, ([0, 0, 0, 0] ++ leBytes 4 (crc32c [42]) ++ [42])⟩ }, by decide +kernel⟩,
   ⟨1, ⟨0x4001, 5, 0, 1, 0, [0, 0, 0, 0, 1, 2, 3, 4, 42]⟩,
      ((({ (({ State.reset with unit := testUnit } : State) : State) with fu := { Fu.shipped with staged := some testHeader, upd := 1 } } : State).set
      (MB_STAT_state 1) 2).raise MB_EPOCH_mp_running).setMb 1 { Mbox.empty with taken := some ⟨0x4001, 5, 0, 1, 0, [0, 0, 0, 0, 1, 2, 3, 4, 42]⟩ }, by
      decide +kernel⟩,
   ⟨2, ⟨0x4001, 5, 0, 1, 0, ([0, 0, 0, 0] ++ leBytes 4 (crc32c [42]) ++ [42])⟩,
      (((({ (({ State.reset with unit := testUnit } : State) : State) with fu := { Fu.shipped with staged := some testHeader, upd := 1 } } :
      State)).set (MB_STAT_state 2) 2).raise MB_EPOCH_mp_running).setMb 2
      { Mbox.empty with taken := some ⟨0x4001, 5, 0, 1, 0, ([0, 0, 0, 0] ++ leBytes 4 (crc32c [42]) ++ [42])⟩, waiting := true }, by decide +kernel⟩,
   ⟨2, ⟨0x4001, 5, 0, 1, 0, ([0, 0, 0, 0] ++ leBytes 4 (crc32c [42]) ++ [42])⟩,
      (((({ (({ State.reset with unit := testUnit } : State) : State) with fu := { Fu.shipped with staged := some testHeader, upd := 1 } } :
      State)).set (MB_STAT_state 2) 2).raise MB_EPOCH_mp_running).setMb 2
      { Mbox.empty with taken := some ⟨0x4001, 5, 0, 1, 0, ([0, 0, 0, 0] ++ leBytes 4 (crc32c [42]) ++ [42])⟩, waiting := true }, by decide +kernel⟩,
   ⟨1, ⟨0x4002, 5, 0, 1, 0, []⟩,
      ((({ (({ State.reset with unit := testUnit } : State) : State) with fu := { Fu.shipped with staged := some testHeader, upd := 1, blocks := [(0, some ⟨crc32c [42], some [42], true⟩)] } }
      : State).set (MB_STAT_state 1) 2).raise MB_EPOCH_mp_running).setMb 1 { Mbox.empty with taken := some ⟨0x4002, 5, 0, 1, 0, []⟩ }, by
      decide +kernel⟩,
   ⟨testHeader, [42],
      ({ (({ State.reset with unit := testUnit } : State) : State) with fu := { Fu.shipped with staged := some testHeader, upd := 2, blocks := [(0, some ⟨crc32c [42], some [42], true⟩)] } }
      : State).raise MB_EPOCH_mp_running, by decide +kernel⟩,
   ⟨testHeader, 0x0103,
      ({ (({ State.reset with unit := testUnit } : State) : State) with fu := { Fu.shipped with otp := 1, staged := some testHeader, upd := 2, blocks := [(0, some ⟨crc32c [42], some [42], true⟩)] } }
      : State).raise MB_EPOCH_mp_running, by decide +kernel⟩,
   ⟨1, ⟨0x4005, 5, 0, 1, 0, []⟩,
      ((({ (({ State.reset with unit := testUnit } : State) : State) with fu := { Fu.shipped with staged := some testHeader, upd := 1 } } : State).set
      (MB_STAT_state 1) 2).raise MB_EPOCH_mp_running).setMb 1 { Mbox.empty with taken := some ⟨0x4005, 5, 0, 1, 0, []⟩ }, by decide +kernel⟩⟩

theorem test_UpdateActivation :
(∃ (n : Fin 4) (r : MbReq) (w : Nat) (s : State), (serving n 0x4003 r s) ∧ (r.payload.length = 8) ∧ (byteAt r.payload 0 = 0) ∧ (leAt r.payload 1 3 =
      0) ∧ (w = (if leAt r.payload 4 4 = 0 then 600 else leAt r.payload 4 4)) ∧ (60 ≤ w) ∧ (w ≤ 86400) ∧ (s.fu.upd = 3) ∧ (bitOf ((s.fwSlot
      s.inactive).fld 10 2) 0 = true) ∧ (s.fu.running ≠ 0xFF) ∧ (s.bootable s.inactive = true)) ∧
(∃ (n : Fin 4) (r : MbReq) (w : Nat) (s : State), (serving n 0x4003 r s) ∧ (r.payload.length = 8) ∧ (byteAt r.payload 0 = 1) ∧ (leAt r.payload 1 3 =
      0) ∧ (w = (if leAt r.payload 4 4 = 0 then 600 else leAt r.payload 4 4)) ∧ (60 ≤ w) ∧ (w ≤ 86400) ∧ (s.fu.upd = 3)) ∧
(∃ (n : Fin 4) (q : MbReq) (w : Nat) (s : State), (s.up) ∧ (s.mpRuns = true) ∧ (s.fu.act = some w) ∧ (s.fu.pause.isSome = true) ∧ (awaiting n 0x4003 q
      s)) ∧
(∃ (n : Fin 4) (q : MbReq) (w : Nat) (s : State), (s.up) ∧ (s.mpRuns = true) ∧ (s.fu.act = some w) ∧ (s.fu.pause.isSome = true) ∧ (awaiting n 0x4003 q
      s)) ∧
(∃ (n : Fin 4) (r : MbReq) (s : State), (serving n 0x4004 r s) ∧ (r.payload = []) ∧ (s.fu.upd = 5) ∧ (s.onTrial = true)) ∧
(∃ (n : Fin 4) (r : MbReq) (s : State), (serving n 0x4004 r s) ∧ (r.payload = []) ∧ (s.confirmed = true) ∧ (s.onTrial = false)) ∧
(∃ (n : Fin 4) (r : MbReq) (s : State), (serving n 0x4006 r s) ∧ (r.payload = []) ∧ (s.get FU_STAT_state ≠ 4) ∧ (s.fu.upd = 1 ∨ s.fu.upd = 2 ∨
      s.fu.upd = 3) ∧ (s.programming = false)) ∧
(∃ (n : Fin 4) (r : MbReq) (s : State), (serving n 0x4006 r s) ∧ (r.payload = []) ∧ (s.get FU_STAT_state ≠ 4) ∧ (s.fu.upd = 0 ∨ s.fu.upd = 5)) ∧
(∃ (k : Nat) (w : PtrRec) (s : State), (s.up) ∧ (s.mpRuns = true) ∧ (s.onTrial = true) ∧ (s.fu.upd = 5) ∧ (s.winner = some (k, w)) ∧ (s.mp.restarting
      = false)) ∧
(∃ (k : Nat) (w : PtrRec) (s : State), (s.up) ∧ (s.mpRuns = true) ∧ (s.onTrial = true) ∧ (s.fu.upd = 5) ∧ (s.fu.revertDue = true) ∧ (s.winner = some
      (k, w)) ∧ (s.mp.restarting = false)) :=
  ⟨⟨1, ⟨0x4003, 5, 0, 1, 0, [0, 0, 0, 0, 0, 0, 0, 0]⟩, 600,
      ((({ (({ State.reset with unit := testUnit } : State) : State) with fu := { Fu.shipped with upd := 3, slotB := ⟨some ((((zeros 1024).set 10 1).set 16 9).set 44 1), [], true⟩ } }
      : State).set (MB_STAT_state 1) 2).raise MB_EPOCH_mp_running).setMb 1
      { Mbox.empty with taken := some ⟨0x4003, 5, 0, 1, 0, [0, 0, 0, 0, 0, 0, 0, 0]⟩ }, by decide +kernel⟩,
   ⟨1, ⟨0x4003, 5, 0, 1, 0, [1, 0, 0, 0, 0x80, 0x51, 1, 0]⟩, 86400,
      ((({ (({ State.reset with unit := testUnit } : State) : State) with fu := { Fu.shipped with upd := 3, ptr1 := some ⟨4294967295, 0, false, 0, 0, 0, 0⟩, slotB := ⟨some ((((zeros 1024).set 10 1).set 16 9).set 44 1), [], true⟩ } }
      : State).set (MB_STAT_state 1) 2).raise MB_EPOCH_mp_running).setMb 1
      { Mbox.empty with taken := some ⟨0x4003, 5, 0, 1, 0, [1, 0, 0, 0, 0x80, 0x51, 1, 0]⟩ }, by decide +kernel⟩,
   ⟨2, ⟨0x4003, 5, 0, 1, 0, [0, 0, 0, 0, 0, 0, 0, 0]⟩, 600,
      (((({ (({ State.reset with unit := testUnit } : State) : State) with fu := { Fu.shipped with upd := 3, act := some 600, pause := some 0, slotB := ⟨some ((((zeros 1024).set 10 1).set 16 9).set 44 1), [], true⟩ } }
      : State)).set (MB_STAT_state 2) 2).raise MB_EPOCH_mp_running).setMb 2
      { Mbox.empty with taken := some ⟨0x4003, 5, 0, 1, 0, [0, 0, 0, 0, 0, 0, 0, 0]⟩, waiting := true }, by decide +kernel⟩,
   ⟨2, ⟨0x4003, 5, 0, 1, 0, [0, 0, 0, 0, 0, 0, 0, 0]⟩, 600,
      (((({ (({ State.reset with unit := testUnit } : State) : State) with fu := { Fu.shipped with upd := 3, act := some 600, pause := some 0, slotB := ⟨some ((((zeros 1024).set 10 1).set 16 9).set 44 1), [], true⟩ } }
      : State)).set (MB_STAT_state 2) 2).raise MB_EPOCH_mp_running).setMb 2
      { Mbox.empty with taken := some ⟨0x4003, 5, 0, 1, 0, [0, 0, 0, 0, 0, 0, 0, 0]⟩, waiting := true }, by decide +kernel⟩,
   ⟨1, ⟨0x4004, 5, 0, 1, 0, []⟩,
      ((({ (({ State.reset with unit := testUnit } : State) : State) with fu := { Fu.shipped with upd := 5, running := 1, ptr1 := some ⟨4294967295, 1, true, 2, 0, 600, 0⟩, slotB := ⟨some ((((zeros 1024).set 10 1).set 16 9).set 44 1), [], true⟩ } }
      : State).set (MB_STAT_state 1) 2).raise MB_EPOCH_mp_running).setMb 1 { Mbox.empty with taken := some ⟨0x4004, 5, 0, 1, 0, []⟩ }, by
      decide +kernel⟩,
   ⟨1, ⟨0x4004, 5, 0, 1, 0, []⟩,
      ((({ (({ State.reset with unit := testUnit } : State) : State) with fu := { Fu.shipped with ptr1 := some ⟨5, 0, false, 0, 0, 600, 1⟩ } } :
      State).set (MB_STAT_state 1) 2).raise MB_EPOCH_mp_running).setMb 1 { Mbox.empty with taken := some ⟨0x4004, 5, 0, 1, 0, []⟩ }, by
      decide +kernel⟩,
   ⟨1, ⟨0x4006, 5, 0, 1, 0, []⟩,
      ((({ (({ State.reset with unit := testUnit } : State) : State) with fu := { Fu.shipped with upd := 3, staged := some testHeader, slotB := ⟨some ((((zeros 1024).set 10 1).set 16 9).set 44 1), [], true⟩ } }
      : State).set (MB_STAT_state 1) 2).raise MB_EPOCH_mp_running).setMb 1 { Mbox.empty with taken := some ⟨0x4006, 5, 0, 1, 0, []⟩ }, by
      decide +kernel⟩,
   ⟨1, ⟨0x4006, 5, 0, 1, 0, []⟩, ((({ (({ State.reset with unit := testUnit } : State) : State) with fu := { Fu.shipped with upd := 5 } } : State).set
      (MB_STAT_state 1) 2).raise MB_EPOCH_mp_running).setMb 1 { Mbox.empty with taken := some ⟨0x4006, 5, 0, 1, 0, []⟩ }, by decide +kernel⟩,
   ⟨1, ⟨4294967295, 0, true, 2, 1, 600, 0⟩,
      ({ (({ State.reset with unit := testUnit } : State) : State) with fu := { Fu.shipped with upd := 5, ptr1 := some ⟨4294967295, 0, true, 2, 1, 600, 0⟩ } }
      : State).raise MB_EPOCH_mp_running, by decide +kernel⟩,
   ⟨1, ⟨4294967295, 0, true, 2, 1, 600, 0⟩,
      ({ (({ State.reset with unit := testUnit } : State) : State) with fu := { Fu.shipped with upd := 5, revertDue := true, ptr1 := some ⟨4294967295, 0, true, 2, 1, 600, 0⟩ } }
      : State).raise MB_EPOCH_mp_running, by decide +kernel⟩⟩

theorem test_FaultsSamplesAndRepairs :
(∃ (lid : Int) (sw : Int) (timing : Int) (dbm : Int) (reg : Int) (oven : Int) (s : State), (s.up)) ∧
(∃ (vin : Nat) (vinI : Nat) (vkeep : Nat) (v3p3 : Nat) (v3p3I : Nat) (pin : Nat) (rails : BitVec 16) (s : State), (s.up)) ∧
(∃ (s : State), (s.up) ∧ (s.power.ovenWatched = true) ∧ (s.hl.held.contains (0x13, 0) = false)) ∧
(∃ (code : Nat) (inst : Nat) (s : State), (s.up) ∧ (s.hl.held.contains (code, inst) = true) ∧ (s.hl.causes.contains (code, inst) = false) ∧ (code ≠
      0x0F)) ∧
(∃ (code : Nat) (inst : Nat) (s : State), (s.hl.causes.contains (code, inst) = true)) ∧
(∃ (s : State), (s.up) ∧ (s.hl.held.contains (0x0F, 0) = true) ∧ (s.hl.wdog.all (fun t => decide (t + 3600 * 1250000000 ≤ s.clk)) = true)) ∧
(∃ (r : LogRec) (l : List LogRec) (s : State), (s.up) ∧ (s.stacksRun = true) ∧ (s.hl.buf = r :: l)) ∧
(∃ (g : Fin 7) (b : Nat) (r : Nat) (zeroed : List Nat) (s : State), (s.up) ∧ (s.hl.queue.contains (g.val, b, r) = true)) ∧
(∃ (bank : Nat) (row : Nat) (s : State), (s.up) ∧ (s.hl.queue.contains (7, bank, row) = true) ∧ ((rowCells 7 bank row).all (fun c =>
      !s.cellsHeld.contains c) = true) ∧ (flag (s.hl.hardDone.contains bank) + (s.hl.hardWait.filter fun e => e.1 = bank).length < 2)) ∧
(∃ (bank : Nat) (row : Nat) (s : State), (s.up) ∧ (s.hl.queue.contains (7, bank, row) = true) ∧ ((rowCells 7 bank row).all (fun c =>
      !s.cellsHeld.contains c) = true) ∧ (2 ≤ flag (s.hl.hardDone.contains bank) + (s.hl.hardWait.filter fun e => e.1 = bank).length)) ∧
(∃ (m : Fin 17) (faulty : List Nat) (s : State), (s.up) ∧ (s.bit SC_MEZZ_STAT m = true) ∧ (s.mezzHolds m = 0) ∧ (s.spareUse 1 m + faulty.length ≤ 4) ∧
      ((∀ l : Nat, l < 16 → s.bit SC_MEZZ_IDLE l = false))) ∧
(∃ (m : Fin 17) (faulty : List Nat) (s : State), (s.up) ∧ (s.bit SC_MEZZ_STAT m = true) ∧ (s.mezzHolds m = 0) ∧ (4 < s.spareUse 1 m + faulty.length)) ∧
(∃ (bank : Nat) (row : Nat) (codeRow : Bool) (s : State), (s.up) ∧ (s.hl.queue.contains (6, bank, row) = false) ∧ (s.hl.retired.contains (6, bank,
      row) = false) ∧ (s.spareTaken 6 bank < 4) ∧ (s.hl.queue.length < 32)) ∧
(∃ (bank : Nat) (row : Nat) (s : State), (s.up) ∧ (s.mp.restarting = false) ∧ (s.hl.queue.contains (6, bank, row) = false) ∧ (s.hl.retired.contains
      (6, bank, row) = true ∨ 4 ≤ s.spareTaken 6 bank ∨ 32 ≤ s.hl.queue.length)) ∧
(∃ (bank : Nat) (row : Nat) (codeRow : Bool) (s : State), (s.up) ∧ (s.get HL_ESC_count = 0)) ∧
(∃ (k : Fin 14) (s : State), (s.up) ∧ (s.hl.calRetry.contains k.val = true ∨ (s.on HL_CAL_CFG_auto = true ∧ (8 ≤ k.val ∨ s.on HL_CAL_CFG_ev_auto =
      true) ∧ ((0 < s.get HL_CAL_CFG_tdc_k ∧ 8 * s.get HL_CAL_CFG_tdc_k ≤ (s.lid - (s.hl.calAt.get (0, 0) k).1).natAbs) ∨ (0 < s.get
      HL_CAL_CFG_tdc_period_h ∧ (s.hl.calAt.get (0, 0) k).2 + s.get HL_CAL_CFG_tdc_period_h * 3600 * 1250000000 ≤ s.clk)))) ∧
      (s.hl.calStopped.contains k.val = false) ∧ (s.tdcMayStart k = true)) ∧
(∃ (k : Fin 14) (s : State), (s.hl.calRetry.contains k.val = false) ∧ (s.on HL_CAL_CFG_auto = false ∨ (k.val < 8 ∧ s.on HL_CAL_CFG_ev_auto = false) ∨
      ((s.get HL_CAL_CFG_tdc_k = 0 ∨ (s.lid - (s.hl.calAt.get (0, 0) k).1).natAbs < 8 * s.get HL_CAL_CFG_tdc_k) ∧ s.get HL_CAL_CFG_tdc_period_h = 0))) :=
  ⟨⟨840, -5, 2000, 5000, -9, 680, ({ (State.reset : State) with hl := { State.reset.hl with hot := [3] } } : State), by decide +kernel⟩,
   ⟨1, 100, 500, 340, 100, 65535, 0x7FFF, ({ (State.reset : State) with hl := { State.reset.hl with off := [0] } } : State), by decide +kernel⟩,
   ⟨({ State.reset with power := { State.reset.power with ovenWatched := true } } : State), by decide +kernel⟩,
   ⟨0x13, 0, ({ (State.reset : State) with hl := { State.reset.hl with held := [(0x13, 0), (0x0D, 4)], causes := [(0x0D, 4)] } } : State), by
      decide +kernel⟩,
   ⟨0x0D, 4, ({ (State.reset : State) with hl := { State.reset.hl with held := [(0x0D, 4)], causes := [(0x0D, 4)] } } : State), by decide +kernel⟩,
   ⟨({ ({ (State.reset : State) with hl := { State.reset.hl with held := [(0x0F, 0)], wdog := [1, 2, 3] } } : State) with clk := 4500000000003 } :
      State), by decide +kernel⟩,
   ⟨⟨1, 2, 0x13, 2, 0, 0xFFFF, 0, true, false, 0⟩, [⟨3, 4, 0x13, 7, 0, 0xFFFF, 0, true, false, 0⟩],
      ({ (State.reset.raise MB_EPOCH_mp_running : State) with hl := { State.reset.hl with buf := [⟨1, 2, 0x13, 2, 0, 0xFFFF, 0, true, false, 0⟩, ⟨3, 4, 0x13, 7, 0, 0xFFFF, 0, true, false, 0⟩], nextNum := 4294967295 } }
      : State), by decide +kernel⟩,
   ⟨6, 3, 127, [0x420000],
      ({ ((State.reset.wr 0x420000 1).raise MB_EPOCH_mp_running : State) with hl := { State.reset.hl with queue := [(6, 3, 127), (0, 0, 1)], spares := [(6, 3, 1), (6, 3, 2)], codeRows := [(6, 3)] } }
      : State), by decide +kernel⟩,
   ⟨5, 9, ({ (State.reset : State) with hl := { State.reset.hl with queue := [(7, 5, 9)], hardWait := [(5, 1)] } } : State), by decide +kernel⟩,
   ⟨5, 9, ({ (State.reset : State) with hl := { State.reset.hl with queue := [(7, 5, 9)], hardWait := [(5, 1)], hardDone := [5] } } : State), by
      decide +kernel⟩,
   ⟨16, [1, 2, 127], ({ ((State.reset.wr SC_MEZZ_STAT 0x310000) : State) with hl := { State.reset.hl with spares := [(1, 16, 9)] } } : State), by
      decide +kernel⟩,
   ⟨16, [1, 2, 126, 127], ({ ((State.reset.wr SC_MEZZ_STAT 0x310000) : State) with hl := { State.reset.hl with spares := [(1, 16, 9)] } } : State), by
      decide +kernel⟩,
   ⟨15, 127, true, ({ (State.reset.raise MB_EPOCH_mp_running : State) with hl := { State.reset.hl with spares := [(6, 15, 1), (6, 15, 2), (6, 15, 3)] } }
      : State), by decide +kernel⟩,
   ⟨15, 127,
      ({ (State.reset.raise MB_EPOCH_mp_running : State) with hl := { State.reset.hl with spares := [(6, 15, 1), (6, 15, 2), (6, 15, 3)], queue := [(6, 15, 4)] } }
      : State), by decide +kernel⟩,
   ⟨0, 1, true, State.reset.set HL_ESC_count 0, by decide +kernel⟩,
   ⟨13, (((State.reset.set HL_CAL_CFG_tdc_k 5).set HL_CAL_CFG_auto 1).set (HL_TEMP_now 0) 40), by decide +kernel⟩,
   ⟨7, State.reset.set HL_CAL_CFG_ev_auto 0, by decide +kernel⟩⟩

theorem test_HealthOpcodes :
(∃ (n : Fin 4) (r : MbReq) (s : State), (serving n 0x5000 r s) ∧ (r.payload = [])) ∧
(∃ (n : Fin 4) (r : MbReq) (s : State), (serving n 0x5001 r s) ∧ (r.payload.length = 8) ∧ (1 ≤ leAt r.payload 4 4) ∧ (leAt r.payload 4 4 ≤ 127)) ∧
(∃ (n : Fin 4) (r : MbReq) (s : State), (serving n 0x5001 r s) ∧ (r.payload.length = 8) ∧ (leAt r.payload 4 4 = 0 ∨ 127 < leAt r.payload 4 4)) ∧
(∃ (n : Fin 4) (r : MbReq) (s : State), (serving n 0x5002 r s) ∧ (r.payload.length = 8) ∧ (byteAt r.payload 0 = 0) ∧ (leAt r.payload 1 3 = 0) ∧ (leAt
      r.payload 4 4 ≤ 16) ∧ (s.bit SC_MEZZ_STAT (leAt r.payload 4 4) = true)) ∧
(∃ (n : Fin 4) (r : MbReq) (l : Fin 48) (s : State), (serving n 0x5002 r s) ∧ (r.payload.length = 8) ∧ (byteAt r.payload 0 = 1) ∧ (leAt r.payload 1 3
      = 0) ∧ (leAt r.payload 4 4 = l.val) ∧ (l.val < s.lanes)) ∧
(∃ (n : Fin 4) (r : MbReq) (k : Fin 14) (s : State), (serving n 0x5002 r s) ∧ (r.payload.length = 8) ∧ (byteAt r.payload 0 = 2) ∧ (leAt r.payload 1 3
      = 0) ∧ (leAt r.payload 4 4 = tdcCode k) ∧ (s.tdcMayStart k = true)) ∧
(∃ (n : Fin 4) (r : MbReq) (l : Fin 48) (s : State), (serving n 0x5003 r s) ∧ (r.payload.length = 12) ∧ (1 ≤ leAt r.payload 4 4) ∧ (leAt r.payload 4 4
      ≤ 10000) ∧ (64 ≤ leAt r.payload 8 2) ∧ (leAt r.payload 8 2 ≤ 9600) ∧ (leAt r.payload 10 2 = 0) ∧ (s.hl.test = none) ∧ (byteAt r.payload 0 ≤ 1) ∧
      (byteAt r.payload 0 = 0 → 1 ≤ byteAt r.payload 1 ∧ byteAt r.payload 1 ≤ 3) ∧ (byteAt r.payload 0 = 1 → byteAt r.payload 1 = 4) ∧ (byteAt
      r.payload 2 = l.val) ∧ (l.val < s.lanes) ∧ (s.get (PT_IDLE_idle (s.headLane l)) ≠ 0)) ∧
(∃ (n : Fin 4) (r : MbReq) (l : Fin 48) (p : Fin 48) (s : State), (serving n 0x5003 r s) ∧ (r.payload.length = 12) ∧ (1 ≤ leAt r.payload 4 4) ∧ (leAt
      r.payload 4 4 ≤ 10000) ∧ (64 ≤ leAt r.payload 8 2) ∧ (leAt r.payload 8 2 ≤ 9600) ∧ (leAt r.payload 10 2 = 0) ∧ (s.hl.test = none) ∧ (byteAt
      r.payload 0 = 2) ∧ (byteAt r.payload 2 = l.val) ∧ (byteAt r.payload 3 = p.val) ∧ (l.val < s.lanes) ∧ (p.val < s.lanes) ∧ (s.get (PT_IDLE_idle
      (s.headLane l)) ≠ 0) ∧ (s.get (PT_IDLE_idle (s.headLane p)) ≠ 0)) ∧
(∃ (n : Fin 4) (r : MbReq) (s : State), (serving n 0x5003 r s) ∧ (r.payload.length = 12) ∧ (1 ≤ leAt r.payload 4 4) ∧ (leAt r.payload 4 4 ≤ 10000) ∧
      (64 ≤ leAt r.payload 8 2) ∧ (leAt r.payload 8 2 ≤ 9600) ∧ (leAt r.payload 10 2 = 0) ∧ (s.hl.test = none) ∧ (byteAt r.payload 0 = 3) ∧ (byteAt
      r.payload 1 = 1 ∨ byteAt r.payload 1 = 3) ∧ (s.on TW_CTRL_enable = false)) ∧
(∃ (n : Fin 4) (r : MbReq) (l : Fin 48) (s : State), (serving n 0x5003 r s) ∧ (r.payload.length = 12) ∧ (1 ≤ leAt r.payload 4 4) ∧ (leAt r.payload 4 4
      ≤ 10000) ∧ (64 ≤ leAt r.payload 8 2) ∧ (leAt r.payload 8 2 ≤ 9600) ∧ (leAt r.payload 10 2 = 0) ∧ (s.hl.test = none) ∧ (byteAt r.payload 0 = 0) ∧
      (1 ≤ byteAt r.payload 1 ∧ byteAt r.payload 1 ≤ 3) ∧ (byteAt r.payload 2 = l.val) ∧ (l.val < s.lanes) ∧ (s.get (PT_IDLE_idle (s.headLane l)) =
      0)) ∧
(∃ (n : Fin 4) (q : MbReq) (x : LoopTest) (sentN : Nat) (errors : Nat) (eye : Nat) (s : State), (s.up) ∧ (s.hl.test = some x) ∧ ((x.saved.map
      (·.1)).Nodup) ∧ (∀ e : Nat × Word, e ∈ x.saved → e.2 &&& fieldBits e.1 = e.2 ∧ (e.1 = TW_CTRL ∨ (∃ l : Nat, l < 48 ∧ (e.1 = LN_CTRL l ∨ e.1 =
      PT_XCONN l)))) ∧ (awaiting n 0x5003 q s)) ∧
(∃ (n : Fin 4) (r : MbReq) (s : State), (serving n 0x5004 r s) ∧ (r.payload.length = 8) ∧ (byteAt r.payload 0 ≤ 1) ∧ (byteAt r.payload 1 ≤ 127) ∧ (1 ≤
      byteAt r.payload 4) ∧ (byteAt r.payload 4 ≤ 128) ∧ (byteAt r.payload 5 ≤ 1) ∧ (leAt r.payload 6 2 = 0) ∧ ((s.hl.i2c.any fun e => e.1 = byteAt
      r.payload 0) = false)) ∧
(∃ (n : Fin 4) (r : MbReq) (s : State), (serving n 0x5004 r s) ∧ (r.payload.length = 8) ∧ (byteAt r.payload 0 ≤ 1) ∧ (byteAt r.payload 1 ≤ 127) ∧ (1 ≤
      byteAt r.payload 4) ∧ (byteAt r.payload 4 ≤ 128) ∧ (byteAt r.payload 5 ≤ 1) ∧ (leAt r.payload 6 2 = 0) ∧ ((s.hl.i2c.any fun e => e.1 = byteAt
      r.payload 0) = true)) ∧
(∃ (n : Fin 4) (r : MbReq) (s : State), (serving n 0x5005 r s) ∧ (r.payload.length = 8 + byteAt r.payload 4) ∧ (byteAt r.payload 0 ≤ 1) ∧ (byteAt
      r.payload 1 ≤ 127) ∧ (1 ≤ byteAt r.payload 4) ∧ (byteAt r.payload 4 ≤ 128) ∧ (byteAt r.payload 5 ≤ 1) ∧ (leAt r.payload 6 2 = 0) ∧
      ((s.hl.i2c.any fun e => e.1 = byteAt r.payload 0) = false)) ∧
(∃ (bus : Fin 2) (d : Bytes) (n : Fin 4) (q : MbReq) (s : State), (s.up) ∧ (s.hl.i2c.any (fun e => decide (e.1 = bus.val)) = true) ∧ (awaiting n
      0x5004 q s) ∧ (byteAt q.payload 0 = bus.val)) ∧
(∃ (bus : Fin 2) (d : Bytes) (n : Fin 4) (q : MbReq) (s : State), (s.up) ∧ (s.hl.i2c.any (fun e => decide (e.1 = bus.val)) = true) ∧ (awaiting n
      0x5005 q s) ∧ (byteAt q.payload 0 = bus.val)) ∧
(∃ (bus : Fin 2) (n : Fin 4) (q : MbReq) (s : State), (s.up) ∧ (s.hl.i2c.any (fun e => decide (e.1 = bus.val)) = true) ∧ (awaiting n 0x5004 q s ∨
      awaiting n 0x5005 q s) ∧ (byteAt q.payload 0 = bus.val)) ∧
(∃ (bus : Fin 2) (n : Fin 4) (q : MbReq) (s : State), (s.up) ∧ (s.hl.i2c.any (fun e => decide (e.1 = bus.val)) = true) ∧ (awaiting n 0x5004 q s ∨
      awaiting n 0x5005 q s) ∧ (byteAt q.payload 0 = bus.val)) :=
  ⟨⟨1, ⟨0x5000, 5, 0, 1, 0, []⟩, ((State.reset.set (MB_STAT_state 1) 2).raise MB_EPOCH_mp_running).setMb 1
      { Mbox.empty with taken := some ⟨0x5000, 5, 0, 1, 0, []⟩ }, by decide +kernel⟩,
   ⟨1, ⟨0x5001, 5, 0, 1, 0, [7, 0, 0, 0, 127, 0, 0, 0]⟩,
      ((({ (State.reset : State) with hl := { State.reset.hl with nor := [⟨1, 2, 0x13, 2, 0, 0xFFFF, 0, true, false, 6⟩, ⟨1, 2, 0x13, 2, 0, 0xFFFF, 0, true, false, 7⟩] } }
      : State).set (MB_STAT_state 1) 2).raise MB_EPOCH_mp_running).setMb 1
      { Mbox.empty with taken := some ⟨0x5001, 5, 0, 1, 0, [7, 0, 0, 0, 127, 0, 0, 0]⟩ }, by decide +kernel⟩,
   ⟨1, ⟨0x5001, 5, 0, 1, 0, [7, 0, 0, 0, 128, 0, 0, 0]⟩, ((State.reset.set (MB_STAT_state 1) 2).raise MB_EPOCH_mp_running).setMb 1
      { Mbox.empty with taken := some ⟨0x5001, 5, 0, 1, 0, [7, 0, 0, 0, 128, 0, 0, 0]⟩ }, by decide +kernel⟩,
   ⟨1, ⟨0x5002, 5, 0, 1, 0, [0, 0, 0, 0, 16, 0, 0, 0]⟩, (((State.reset.wr SC_MEZZ_STAT 0x10000).set (MB_STAT_state 1) 2).raise MB_EPOCH_mp_running).setMb
      1 { Mbox.empty with taken := some ⟨0x5002, 5, 0, 1, 0, [0, 0, 0, 0, 16, 0, 0, 0]⟩ }, by decide +kernel⟩,
   ⟨1, ⟨0x5002, 5, 0, 1, 0, [1, 0, 0, 0, 47, 0, 0, 0]⟩, 47, ((State.reset.set (MB_STAT_state 1) 2).raise MB_EPOCH_mp_running).setMb 1
      { Mbox.empty with taken := some ⟨0x5002, 5, 0, 1, 0, [1, 0, 0, 0, 47, 0, 0, 0]⟩ }, by decide +kernel⟩,
   ⟨1, ⟨0x5002, 5, 0, 1, 0, [2, 0, 0, 0, 21, 0, 0, 0]⟩, 13, ((State.reset.set (MB_STAT_state 1) 2).raise MB_EPOCH_mp_running).setMb 1
      { Mbox.empty with taken := some ⟨0x5002, 5, 0, 1, 0, [2, 0, 0, 0, 21, 0, 0, 0]⟩ }, by decide +kernel⟩,
   ⟨1, ⟨0x5003, 5, 0, 1, 0, [1, 4, 47, 0, 0x10, 0x27, 0, 0, 0x80, 0x25, 0, 0]⟩, 47, (((State.reset.set (PT_IDLE_idle 47) 1).set (MB_STAT_state 1)
      2).raise MB_EPOCH_mp_running).setMb 1 { Mbox.empty with taken := some ⟨0x5003, 5, 0, 1, 0, [1, 4, 47, 0, 0x10, 0x27, 0, 0, 0x80, 0x25, 0, 0]⟩ },
      by decide +kernel⟩,
   ⟨1, ⟨0x5003, 5, 0, 1, 0, [2, 0, 47, 3, 0x10, 0x27, 0, 0, 64, 0, 0, 0]⟩, 47, 3, ((((State.reset.set (PT_IDLE_idle 47) 1).set (PT_IDLE_idle 3) 1).set
      (MB_STAT_state 1) 2).raise MB_EPOCH_mp_running).setMb 1
      { Mbox.empty with taken := some ⟨0x5003, 5, 0, 1, 0, [2, 0, 47, 3, 0x10, 0x27, 0, 0, 64, 0, 0, 0]⟩ }, by decide +kernel⟩,
   ⟨1, ⟨0x5003, 5, 0, 1, 0, [3, 3, 0, 0, 1, 0, 0, 0, 64, 0, 0, 0]⟩, (((State.reset.set TW_CTRL_enable 0).set (MB_STAT_state 1) 2).raise
      MB_EPOCH_mp_running).setMb 1 { Mbox.empty with taken := some ⟨0x5003, 5, 0, 1, 0, [3, 3, 0, 0, 1, 0, 0, 0, 64, 0, 0, 0]⟩ }, by decide +kernel⟩,
   ⟨1, ⟨0x5003, 5, 0, 1, 0, [0, 3, 47, 0, 0x10, 0x27, 0, 0, 64, 0, 0, 0]⟩, 47, (((State.reset.set (PT_IDLE_idle 47) 0).set (MB_STAT_state 1) 2).raise
      MB_EPOCH_mp_running).setMb 1 { Mbox.empty with taken := some ⟨0x5003, 5, 0, 1, 0, [0, 3, 47, 0, 0x10, 0x27, 0, 0, 64, 0, 0, 0]⟩ }, by
      decide +kernel⟩,
   ⟨2, ⟨0x5003, 5, 0, 1, 0, [0, 1, 47, 0, 1, 0, 0, 0, 64, 0, 0, 0]⟩, ⟨2, 0, 1, 47, 0, [(LN_CTRL 47, 1)]⟩, 9, 1, 65535,
      (((({ (State.reset : State) with hl := { State.reset.hl with test := some ⟨2, 0, 1, 47, 0, [(LN_CTRL 47, 1)]⟩ } } : State)).set (MB_STAT_state
      2) 2).raise MB_EPOCH_mp_running).setMb 2
      { Mbox.empty with taken := some ⟨0x5003, 5, 0, 1, 0, [0, 1, 47, 0, 1, 0, 0, 0, 64, 0, 0, 0]⟩, waiting := true }, by decide +kernel⟩,
   ⟨1, ⟨0x5004, 5, 0, 1, 0, [1, 0x50, 0, 255, 128, 1, 0, 0]⟩, ((State.reset.set (MB_STAT_state 1) 2).raise MB_EPOCH_mp_running).setMb 1
      { Mbox.empty with taken := some ⟨0x5004, 5, 0, 1, 0, [1, 0x50, 0, 255, 128, 1, 0, 0]⟩ }, by decide +kernel⟩,
   ⟨1, ⟨0x5004, 5, 0, 1, 0, [1, 0x50, 0, 255, 128, 1, 0, 0]⟩, ((({ (State.reset : State) with hl := { State.reset.hl with i2c := [(1, 2)] } } :
      State).set (MB_STAT_state 1) 2).raise MB_EPOCH_mp_running).setMb 1
      { Mbox.empty with taken := some ⟨0x5004, 5, 0, 1, 0, [1, 0x50, 0, 255, 128, 1, 0, 0]⟩ }, by decide +kernel⟩,
   ⟨1, ⟨0x5005, 5, 0, 1, 0, [0, 0x50, 3, 127, 2, 1, 0, 0, 8, 9]⟩, ((State.reset.set (MB_STAT_state 1) 2).raise MB_EPOCH_mp_running).setMb 1
      { Mbox.empty with taken := some ⟨0x5005, 5, 0, 1, 0, [0, 0x50, 3, 127, 2, 1, 0, 0, 8, 9]⟩ }, by decide +kernel⟩,
   ⟨1, [1, 2, 3, 4], 2, ⟨0x5004, 5, 0, 1, 0, [1, 0x50, 0, 0, 4, 0, 0, 0]⟩,
      (((({ (State.reset : State) with hl := { State.reset.hl with i2c := [(1, 2)] } } : State)).set (MB_STAT_state 2) 2).raise
      MB_EPOCH_mp_running).setMb 2 { Mbox.empty with taken := some ⟨0x5004, 5, 0, 1, 0, [1, 0x50, 0, 0, 4, 0, 0, 0]⟩, waiting := true }, by
      decide +kernel⟩,
   ⟨1, [], 2, ⟨0x5005, 5, 0, 1, 0, [1, 0x50, 0, 0, 1, 0, 0, 0, 9]⟩, (((({ (State.reset : State) with hl := { State.reset.hl with i2c := [(1, 2)] } } :
      State)).set (MB_STAT_state 2) 2).raise MB_EPOCH_mp_running).setMb 2
      { Mbox.empty with taken := some ⟨0x5005, 5, 0, 1, 0, [1, 0x50, 0, 0, 1, 0, 0, 0, 9]⟩, waiting := true }, by decide +kernel⟩,
   ⟨1, 2, ⟨0x5004, 5, 0, 1, 0, [1, 0x50, 0, 0, 4, 0, 0, 0]⟩, (((({ (State.reset : State) with hl := { State.reset.hl with i2c := [(1, 2)] } } :
      State)).set (MB_STAT_state 2) 2).raise MB_EPOCH_mp_running).setMb 2
      { Mbox.empty with taken := some ⟨0x5004, 5, 0, 1, 0, [1, 0x50, 0, 0, 4, 0, 0, 0]⟩, waiting := true }, by decide +kernel⟩,
   ⟨1, 2, ⟨0x5005, 5, 0, 1, 0, [1, 0x50, 0, 0, 1, 0, 0, 0, 9]⟩, (((({ (State.reset : State) with hl := { State.reset.hl with i2c := [(1, 2)] } } :
      State)).set (MB_STAT_state 2) 2).raise MB_EPOCH_mp_running).setMb 2
      { Mbox.empty with taken := some ⟨0x5005, 5, 0, 1, 0, [1, 0x50, 0, 0, 1, 0, 0, 0, 9]⟩, waiting := true }, by decide +kernel⟩⟩

theorem test_PerformanceCounters :
(∃ (m : Master) (v : Word) (s : State), (reaches m s)) ∧
(∃ (m : Master) (v : Word) (s : State), (reaches m s)) ∧
(∃ (p : Fin 48) (s : State), (s.up) ∧ (p.val < s.lanes) ∧ (s.bwDue p = true) ∧ (s.tickStepped = false)) ∧
(∃ (p : Fin 48) (s : State), (s.up) ∧ (p.val < s.lanes) ∧ (s.bwDue p = true) ∧ (s.tickStepped = true)) ∧
(∃ (s : State), (s.up) ∧ (s.on PM_CTRL_mp_hist = true) ∧ (s.stacksRun = true) ∧ (Tab.wf resetWord s.regs = true)) ∧
(∃ (n : Fin 4) (r : MbReq) (s : State), (serving n 0x6000 r s) ∧ (r.payload.length = 4) ∧ (leAt r.payload 0 2 ≤ 255) ∧ (1 ≤ leAt r.payload 2 2) ∧
      (leAt r.payload 2 2 ≤ 63)) ∧
(∃ (n : Fin 4) (r : MbReq) (q : Fin 472) (s : State), (serving n 0x6001 r s) ∧ (r.payload.length = 4) ∧ (leAt r.payload 0 2 = q.val) ∧ (byteAt
      r.payload 2 ≤ 1) ∧ (byteAt r.payload 3 = 0) ∧ (s.variant = .fh4848) ∧ (s.on PM_CTRL_mp_hist = true)) :=
  ⟨⟨.msp, 0, ((State.reset.wr (PM_CYC_LO 7) 9).wr (PM_CNT_HI 7 7) 0xFFFF), by decide +kernel⟩,
   ⟨.msp, 0, ((State.reset.wr (PM_CYC_LO 7) 9).wr (PM_BW_PEAK 47) 0xFFFF), by decide +kernel⟩,
   ⟨23, ({ (State.reset.raise (PM_BW_CFG_line_mode 23)) with tb := ⟨1, 0, 0⟩, bw := [(23, ⟨1500, 640, 1, 10⟩)] } : State), by decide +kernel⟩,
   ⟨23,
      ({ ({ State.reset with time := { State.reset.time with jump := some (⟨5, 0, 0⟩, ⟨1, 0, 0⟩) } } : State) with tb := ⟨1, 0, 0⟩, bw := [(23, ⟨1500, 640, 1, 10⟩)] }
      : State), by decide +kernel⟩,
   ⟨({ (((State.reset.raise MB_EPOCH_mp_running).raise PM_CTRL_mp_hist).wr (SC_DELAY_HIST 471 15) 7).wr (SC_DELAY_HIST 0 0) 9 with hl := { State.reset.hl with hist := [(7551, 2 ^ 64 - 2)] } }
      : State), by decide +kernel⟩,
   ⟨1, ⟨0x6000, 5, 0, 1, 0, [255, 0, 2, 0]⟩, (((State.reset.wr (PM_TRACE 0 3) 5).set (MB_STAT_state 1) 2).raise MB_EPOCH_mp_running).setMb 1
      { Mbox.empty with taken := some ⟨0x6000, 5, 0, 1, 0, [255, 0, 2, 0]⟩ }, by decide +kernel⟩,
   ⟨1, ⟨0x6001, 5, 0, 1, 0, [0xD7, 1, 1, 0]⟩, 471,
      ((({ State.reset.raise PM_CTRL_mp_hist with hl := { State.reset.hl with hist := [(7551, 2 ^ 64 - 2)] } } : State).set (MB_STAT_state 1) 2).raise
      MB_EPOCH_mp_running).setMb 1 { Mbox.empty with taken := some ⟨0x6001, 5, 0, 1, 0, [0xD7, 1, 1, 0]⟩ }, by decide +kernel⟩⟩

theorem test_EchoReturnsItsPayload :
(∃ (n : Fin 4) (r : MbReq) (s : State), (serving n 0x0101 r s) ∧ (r.payload.length ≤ 4072)) ∧
(∃ (n : Fin 4) (r : MbReq) (s : State), (serving n 0x0101 r s) ∧ (4072 < r.payload.length)) :=
  ⟨⟨1, ⟨0x0101, 5, 0, 1, 0, []⟩, ((State.reset.set (MB_STAT_state 1) 2).raise MB_EPOCH_mp_running).setMb 1
      { Mbox.empty with taken := some ⟨0x0101, 5, 0, 1, 0, []⟩ }, by decide +kernel⟩,
   ⟨1, ⟨0x0101, 5, 0, 1, 0, (List.replicate 4073 7)⟩, ((State.reset.set (MB_STAT_state 1) 2).raise MB_EPOCH_mp_running).setMb 1
      { Mbox.empty with taken := some ⟨0x0101, 5, 0, 1, 0, (List.replicate 4073 7)⟩ }, by decide +kernel⟩⟩

theorem test_pairStop : ∃ (kept : List Stamp) (a w : Int) (x : Stamp), pairStop kept a w = some x :=
  ⟨[⟨7, 1, false, false, 0⟩], 5, 2, ⟨7, 1, false, false, 0⟩, by decide +kernel⟩

theorem test_NoCommandStops_at_rest : ∃ (c : Instr) (s : State), s.up = false ∧ actsAtRest c = false :=
  ⟨.pmSnapWrite .pcie 0, { State.reset with power := { State.reset.power with inReset := true } }, by decide, rfl⟩

theorem test_DeliveredIsKept : ∃ (s t : State), delivered s ∧ step s = .next t :=
  ⟨State.reset, State.reset, by unfold delivered; decide +kernel, rfl⟩

theorem test_BaySources : ∃ (s : State) (b : Nat), b < s.bays := ⟨State.reset, 11, by decide⟩

theorem test_StepRunsTheFront : ∃ (s : State), s.pending = [] := ⟨State.reset, rfl⟩

end Sys2Proof.Tests
end

section
/-! PROOFS. The register file keeps its canonical form and its reserved bits (O57), and the state of a reset (O53).

`regsOk` is an invariant of every operation of the model, so there is one lemma for each operation, `regsOk.op : regsOk s → regsOk (s.op …)`,
and one for each command, `exec…_nextOk`. A proof spells the chain of operations that the definition runs: `h.set.raise` follows a `set` and
then a `raise`, `h.ite k` a choice between the two ends, `h.fold fun _ _ k => …` a loop whose body is the given chain, and `h.of_eq e` the
state of a pair that the definition took apart. Everything rests on `regsOk.wr` (a write masks the reserved bits and keeps the canonical
form), `regsOk.same` (an update of other parts of the state leaves the registers), `regsOk.filter` (a reset drops registers to the values of
the map) and `regsOk_reset` (the map sets no reserved bit). -/

namespace Sys2Proof

open Sys2Proof.Machine

set_option Elab.async false

variable {s : State}

/-- Wherever the outcome leads, the register file is canonical there and no reserved bit is set. -/
def nextOk (o : Host.Outcome State Fault Refusal) : Prop := ∀ t, o = .next t → regsOk t

/-- The state that a mailbox handler answers with, if it answers with one, meets `regsOk`. -/
def answerOk : Answer → Prop
  | .ok _ s | .failed _ s | .later s => regsOk s
  | .reject _ | .busy _ => True

/-! ### Writes to the register file -/

theorem regsOk.wr {a w} (h : regsOk s) : regsOk (s.wr a w) := regsOk_wr a w h
theorem regsOk.wrs {a ws} (h : regsOk s) : regsOk (s.wrs a ws) := regsOk_wrs a ws h
theorem regsOk.set {f v} (h : regsOk s) : regsOk (s.set f v) := regsOk_set f v h
theorem regsOk.raise {f} (h : regsOk s) : regsOk (s.raise f) := h.set
theorem regsOk.setB {f b} (h : regsOk s) : regsOk (s.setB f b) := h.set
theorem regsOk.add {f n} (h : regsOk s) : regsOk (s.add f n) := h.set
theorem regsOk.inc {f} (h : regsOk s) : regsOk (s.inc f) := h.set
theorem regsOk.addWrap {f n} (h : regsOk s) : regsOk (s.addWrap f n) := h.set
theorem regsOk.setBit {a n} (h : regsOk s) : regsOk (s.setBit a n) := h.set

/-! ### Changes elsewhere -/

/-- A record update of other parts keeps the register file: the statement lists every part, so that it unifies with any such update. -/
theorem regsOk.same {pending variant pend clk free sent tb power host ownerNext mbox mp hl bw lane port sc pr ft txts frozen treadRead taq
    time chan smp esmc ou tdc evIn evGrp tw px ptp tod retain fu unit} (h : regsOk s) :
    regsOk ⟨pending, variant, s.regs, pend, clk, free, sent, tb, power, host, ownerNext, mbox, mp, hl, bw, lane, port, sc, pr, ft, txts,
      frozen, treadRead, taq, time, chan, smp, esmc, ou, tdc, evIn, evGrp, tw, px, ptp, tod, retain, fu, unit⟩ :=
  regsOk_congr rfl h

/-- An operation that `onlyParts` says leaves the registers keeps `regsOk`. -/
theorem regsOk.parts {l : List Part} {t : State} (h : regsOk s) (k : onlyParts l s t) (n : Part.regs ∉ l := by decide) : regsOk t :=
  regsOk_congr (k .regs n) h

/-! ### Choices, loops and pairs -/

section
variable {c : Prop} [Decidable c]

theorem regsOk.ite {t : State} (h : regsOk s) (k : regsOk t) : regsOk (if c then s else t) := by split <;> assumption
theorem answerOk.ite {x y : Answer} (h : answerOk x) (k : answerOk y) : answerOk (if c then x else y) := by split <;> assumption
theorem nextOk.ite {x y} (h : nextOk x) (k : nextOk y) : nextOk (if c then x else y) := by split <;> assumption
end

theorem regsOk.fold {β : Type} {l : List β} {f : State → β → State} (h : regsOk s) (k : ∀ u x, regsOk u → regsOk (f u x)) :
    regsOk (l.foldl f s) :=
  regsOk_fold k l h

theorem regsOk.foldSnd {α β : Type} {a : α × State} {l : List β} {f : α × State → β → α × State} (h : regsOk a.2)
    (k : ∀ a x, regsOk a.2 → regsOk (f a x).2) : regsOk (l.foldl f a).2 := by
  induction l generalizing a with
  | nil => exact h
  | cons x l ih => exact ih (k a x h)

theorem regsOk.of_eq {α : Type} {p : α × State} {x t} (h : regsOk p.2) (e : p = (x, t)) : regsOk t := by
  rw [e] at h
  exact h

/-! ### Outcomes and answers -/

theorem regsOk.next (h : regsOk s) : nextOk (.next s) := by
  rintro _ ⟨⟩
  exact h

theorem regsOk.ok {d} (h : regsOk s) : answerOk (.ok d s) := h
theorem regsOk.failed {d} (h : regsOk s) : answerOk (.failed d s) := h
theorem regsOk.later (h : regsOk s) : answerOk (.later s) := h
theorem answerOk.reject {n} : answerOk (.reject n) := trivial
theorem answerOk.busy {n} : answerOk (.busy n) := trivial

/-! ### Resets: registers dropped to the values of the map -/

theorem Machine.Tab.get_filter {α : Type} (d : α) (t : Tab α) (p : Nat → Bool) (q : Nat) :
    Tab.get d (t.filter fun e => p e.1) q = if p q then Tab.get d t q else d := by
  induction t with
  | nil => simp
  | cons e t ih =>
    obtain ⟨k, v⟩ := e
    by_cases hk : p k <;> by_cases hq : k = q <;> simp_all [Tab.get]

theorem Machine.Tab.rises_filter {α : Type} {t : Tab α} {lo : Option Nat} (p : Nat × α → Bool) (r : Tab.rises lo t = true) :
    Tab.rises lo (t.filter p) = true := by
  induction t generalizing lo with
  | nil => exact r
  | cons e t ih =>
    obtain ⟨k, v⟩ := e
    simp only [Tab.rises, Bool.and_eq_true] at r
    obtain ⟨hlo, hr⟩ := r
    by_cases hk : p (k, v)
    · simp only [List.filter_cons_of_pos hk, Tab.rises, Bool.and_eq_true]
      exact ⟨hlo, ih hr⟩
    · rw [List.filter_cons_of_neg hk]
      refine ih ?_
      cases lo with
      | none => exact Tab.rises_none hr
      | some m => exact Tab.rises_weaken (Nat.le_of_lt (of_decide_eq_true hlo)) hr

/-- A register that is dropped reads its reset value, which sets no reserved bit. -/
theorem regsOk.filter (h : regsOk s) (p : Nat → Bool) : regsOk { s with regs := s.regs.filter fun e => p e.1 } := by
  obtain ⟨hwf, hbits⟩ := h
  simp only [Tab.wf, Bool.and_eq_true, List.all_eq_true] at hwf
  obtain ⟨hrises, hne⟩ := hwf
  refine ⟨?_, fun a => ?_⟩
  · simp only [Tab.wf, Bool.and_eq_true, List.all_eq_true]
    exact ⟨Tab.rises_filter _ hrises, fun e he => hne e (List.mem_filter.1 he).1⟩
  · simp only [State.rd, Tab.get_filter]
    split
    · exact hbits a
    · exact resetWord_bits a

/-- The reset state holds two registers whose value is not the map's: the root's source and the firmware slots give it. -/
theorem rd_reset {a : Nat} (h₁ : a ≠ SYS_ROOT_STAT) (h₂ : a ≠ FU_SVN_SLOTS) : State.reset.rd a = resetWord a := by
  have k₁ : ¬ 0x44 = a := Ne.symm h₁
  have k₂ : ¬ 0x900014 = a := Ne.symm h₂
  simp [State.rd, State.reset, Tab.get, k₁, k₂]

theorem regsOk_reset : regsOk State.reset := by
  refine ⟨by decide +kernel, fun a => ?_⟩
  by_cases h₁ : a = SYS_ROOT_STAT
  · subst h₁
    decide +kernel
  · by_cases h₂ : a = FU_SVN_SLOTS
    · subst h₂
      decide +kernel
    · rw [rd_reset h₁ h₂, resetWord_bits]

/-! ### The operations of Machine/Ops -/

theorem regsOk.wr64 {lo hi v} (h : regsOk s) : regsOk (s.wr64 lo hi v) := h.wr.wr
theorem regsOk.add64 {lo hi n} (h : regsOk s) : regsOk (s.add64 lo hi n) := h.wr64
theorem regsOk.setBit2 {lo hi n} (h : regsOk s) : regsOk (s.setBit2 lo hi n) := h.setBit.ite h.setBit
theorem regsOk.pendWrite {a w} (h : regsOk s) : regsOk (s.pendWrite a w) := h.same
theorem regsOk.applyPend {p} (h : regsOk s) : regsOk (s.applyPend p) := h.same.fold fun _ _ k => k.wr
theorem regsOk.takePend {p} (h : regsOk s) : regsOk (s.takePend p).2 := h.same

theorem regsOk.store {a m w} (h : regsOk s) : regsOk (s.store a m w) := by
  unfold State.store
  split
  · exact h
  · exact h.pendWrite.ite h.wr

theorem regsOk.put {f v} (h : regsOk s) : regsOk (s.put f v) := h.store
theorem regsOk.putW {a v} (h : regsOk s) : regsOk (s.putW a v) := h.store
theorem regsOk.emit {x} (h : regsOk s) : regsOk (s.emit x) := h.same
theorem regsOk.draw {n} (h : regsOk s) : regsOk (s.draw n).2 := h.same
theorem regsOk.pm {u ev n} (h : regsOk s) : regsOk (s.pm u ev n) := (h.fold fun _ _ k => k.wr64.ite k).ite h

/-! ### The operations of Machine/Flags -/

theorem regsOk.finish (h : regsOk s) : nextOk (finish s) := (regsOk_deliver h).next
theorem regsOk.whenUp {o} (h : regsOk s) (ho : nextOk o) : nextOk (whenUp s o) := .ite ho h.next
theorem regsOk.finishIf {s t : State} {c} (h : regsOk s) (ht : regsOk t) : nextOk (finishIf c s t) := .ite ht.finish h.next
theorem regsOk.finishAny {s t : State} {c} (h : regsOk s) (ht : regsOk t) : nextOk (finishAny c s t) := .ite ht.finish h.next
theorem regsOk.captureAt {more a w} (h : regsOk s) : regsOk (s.captureAt more a w) := h.setBit.ite h.wr
theorem regsOk.capture {a w} (h : regsOk s) : regsOk (s.capture a w) := h.captureAt
theorem regsOk.guardViol {m badKey a} (h : regsOk s) : regsOk (s.guardViol m badKey a) := h.capture.raise
theorem regsOk.woViol {m a} (h : regsOk s) : regsOk (s.woViol m a) := h.capture.raise
theorem regsOk.busErr {m write reason a} (h : regsOk s) : regsOk (s.busErr m write reason a) := h.capture.raise

/-! ### The operations of Machine/Bays -/

theorem regsOk.setPort {p x} (h : regsOk s) : regsOk (s.setPort p x) := h.same
theorem regsOk.setLane {l x} (h : regsOk s) : regsOk (s.setLane l x) := h.same
theorem regsOk.dropDisabled {p} (h : regsOk s) : regsOk (s.dropDisabled p) := h.add64

/-! ### The operations of Machine/Health -/

theorem regsOk.hlLog {code cls inst row detail} (h : regsOk s) : regsOk (s.hlLog code cls inst row detail) := h.inc.raise.ite h.same.set
theorem regsOk.hlHeld (h : regsOk s) : regsOk s.hlHeld := h.setB.setB
theorem regsOk.hlHold {code inst} (h : regsOk s) : regsOk (s.hlHold code inst) := h.ite h.same.hlHeld.hlLog

theorem regsOk.hlLastingAs {cls code inst row detail} (h : regsOk s) : regsOk (s.hlLastingAs cls code inst row detail) :=
  h.inc.raise.same.captureAt.hlLog.same.hlHold.ite h.inc.raise.same.captureAt.hlLog

theorem regsOk.hlLasting {code inst row detail} (h : regsOk s) : regsOk (s.hlLasting code inst row detail) := h.hlLastingAs

theorem regsOk.hlTransient {code inst row detail} (h : regsOk s) : regsOk (s.hlTransient code inst row detail).2 := by
  unfold State.hlTransient
  extract_lets _ _ _ s₁ _ _ _
  have h₁ : regsOk s₁ := h.inc.same.hlLog.ite h.inc.same
  split
  · split
    · exact h₁.same.hlLastingAs
    · exact h₁.same
  · exact h₁.same

theorem regsOk.hlRelease {code inst} (h : regsOk s) : regsOk (s.hlRelease code inst) := h.same.hlHeld.hlLog
theorem regsOk.hlCauseEnds {code inst} (h : regsOk s) : regsOk (s.hlCauseEnds code inst) := h.same
theorem regsOk.hlRetire {g b r} (h : regsOk s) : regsOk (s.hlRetire g b r) := (h.same.add.raise.set.ite h.same.add.raise).hlLog
theorem regsOk.sparesLow (h : regsOk s) : regsOk s.sparesLow := h.raise.raise
theorem regsOk.hlQueueRow {g b r} (h : regsOk s) : regsOk (s.hlQueueRow g b r) := h.ite (h.hlRetire.ite (h.same.raise.sparesLow.ite h.same.raise))
theorem regsOk.writeRecord {k data} (h : regsOk s) : regsOk (s.writeRecord k data) := h.same
theorem regsOk.saveSettings {l} (h : regsOk s) : regsOk (s.saveSettings l) := h.writeRecord

/-! ### The operations of Machine/Mailbox -/

theorem regsOk.setMb {n m} (h : regsOk s) : regsOk (s.setMb n m) := h.same
theorem regsOk.ownerApply (h : regsOk s) : regsOk s.ownerApply := h.fold fun _ _ k => k.set.ite k
theorem regsOk.mbLeave {n} (h : regsOk s) : regsOk (s.mbLeave n) := h.same
theorem regsOk.mbToIdle {n} (h : regsOk s) : regsOk (s.mbToIdle n) := h.mbLeave.set.ownerApply
theorem regsOk.mbAnswerRaw {n r payload} (h : regsOk s) : regsOk (s.mbAnswerRaw n r payload) := h.setMb.mbToIdle.ite h.setMb.wrs.mbLeave.set.setBit

theorem regsOk.mbAnswer {n r status detail value data} (h : regsOk s) : regsOk (s.mbAnswer n r status detail value data) :=
  h.mbAnswerRaw.ite h.mbAnswerRaw.setMb

theorem regsOk.mbReject {n r reason} (h : regsOk s) : regsOk (s.mbReject n r reason) := h.mbAnswer

theorem regsOk.mbSegment {n r} (h : regsOk s) : regsOk (s.mbSegment n r) := by
  unfold State.mbSegment
  extract_lets _ _ _
  split
  · exact h.setMb.mbReject.ite h.setMb.mbAnswer
  · exact (h.setMb.ite h.setMb.mbAnswer).ite h.setMb.mbReject

theorem regsOk.mbChecks {n r} (h : regsOk s) : regsOk (s.mbChecks n r) := by
  unfold State.mbChecks
  extract_lets stored
  split
  · exact h.mbAnswer
  · unfold stored
    split
    · exact h.mbAnswerRaw
    · exact h.mbAnswer.ite (h.mbReject.ite (h.mbSegment.ite h))

theorem regsOk.mbTakeReq {n misread busyUs} (h : regsOk s) : regsOk (s.mbTakeReq n misread busyUs) := by
  unfold State.mbTakeReq
  extract_lets _ _ _ _ _ s₁ _ _ _ _ s₂
  have h₁ : regsOk s₁ := h.set.pm.setMb
  have h₂ : regsOk s₂ := h₁.setMb.hlTransient.ite h₁.setMb
  exact h₁.mbReject.ite (h₁.mbAnswer.ite h₂.mbChecks)

theorem regsOk.mbServe {n op f} (h : regsOk s) (hf : ∀ r u, regsOk u → answerOk (f r u)) :
    regsOk (s.mbServe n op f) := by
  unfold State.mbServe
  split
  · exact h
  next r _ =>
    refine .ite ?_ h
    have hr := hf r s h
    split
    next => exact h.mbReject
    next => exact h.mbAnswer.ite h.setMb.mbAnswer
    next e => rw [e] at hr; exact h.mbAnswer.ite hr.mbAnswer
    next e => rw [e] at hr; exact h.mbAnswer.ite hr.mbReject
    next e => rw [e] at hr; exact h.mbAnswer.ite hr.setMb

theorem regsOk.mbRow {n op f} (h : regsOk s) (hf : ∀ r u, regsOk u → answerOk (f r u)) : nextOk (s.mbRow n op f) :=
  h.finishIf (h.mbServe fun _ _ k => hf _ _ k)

theorem regsOk.mbAnswerWaiting {p a} (h : regsOk s) : regsOk (s.mbAnswerWaiting p a) := by
  unfold State.mbAnswerWaiting
  refine h.fold fun _ _ k => ?_
  split
  · split
    · split
      · exact k.mbReject
      · exact k.mbAnswer
    · exact k
  · exact k

theorem regsOk.mbWrite {m n w v} (h : regsOk s) : regsOk (s.mbWrite m n w v) := h.wr.ite h.inc
theorem regsOk.mbDoorbell {m n} (h : regsOk s) : regsOk (s.mbDoorbell m n) := h.set.same.ite h.inc
theorem regsOk.mbAckIt {m n} (h : regsOk s) : regsOk (s.mbAckIt m n) := h.mbToIdle.ite h
theorem execMbTake_nextOk {n misread busyUs} (h : regsOk s) : nextOk (execMbTake n misread busyUs s) := h.finishIf h.mbTakeReq
theorem execSysEcho_nextOk {n} (h : regsOk s) : nextOk (execSysEcho n s) := h.mbRow fun _ _ k => .ite .reject k.ok

/-! ### The operations of Machine/PxLink -/

theorem regsOk.setLink {l x} (h : regsOk s) : regsOk (s.setLink l x) := h.same
theorem regsOk.addExch {l e} (h : regsOk s) : regsOk (s.addExch l e) := h.setLink

theorem regsOk.fplDeparts {l m t} (h : regsOk s) : regsOk (s.fplDeparts l m t) := by
  unfold State.fplDeparts
  extract_lets _ _
  split
  · exact h
  · exact h.addExch
  · exact h.setLink

theorem regsOk.pxCause {l f} (h : regsOk s) : regsOk (s.pxCause l f) := h.raise.setBit2
theorem regsOk.pxRef (h : regsOk s) : regsOk s.pxRef := h.setB.fold fun _ _ k => k.setB
theorem regsOk.pairRestart {l} (h : regsOk s) : regsOk (s.pairRestart l) := h.setLink.raise.ite h.setLink

theorem regsOk.linkEnter {l st} (h : regsOk s) : regsOk (s.linkEnter l st) := by
  unfold State.linkEnter
  extract_lets _ _ _ s₁ s₂ _ s₃ _ s₄
  have h₁ : regsOk s₁ := h.set.pxCause.setLink
  have h₂ : regsOk s₂ := h₁.mbAnswerWaiting.ite h₁
  have h₃ : regsOk s₃ := (h₂.pairRestart.pairRestart.ite h₂.pairRestart).ite h₂
  have h₄ : regsOk s₄ := h₃.setLink.ite h₃
  exact h.ite h₄.pxRef

theorem regsOk.linkWait {l} (h : regsOk s) : regsOk (s.linkWait l) := h.ite h.setLink.raise.linkEnter
theorem regsOk.calLost {l} (h : regsOk s) : regsOk (s.calLost l) := h.set.raise
theorem regsOk.linkClockLost {l} (h : regsOk s) : regsOk (s.linkClockLost l) := h.ite h.linkWait
theorem regsOk.linkPortLost {p} (h : regsOk s) : regsOk (s.linkPortLost p) := h.ite h.linkWait

/-! ### The operations of Machine/Outs -/

theorem regsOk.setChan {c k} (h : regsOk s) : regsOk (s.setChan c k) := h.same
theorem regsOk.setGen {o g} (h : regsOk s) : regsOk (s.setGen o g) := h.same
theorem regsOk.outFollow {o} (h : regsOk s) : regsOk (s.outFollow o) := h.same
theorem regsOk.ouCause {o f} (h : regsOk s) : regsOk (s.ouCause o f) := h.raise.setBit

theorem regsOk.ouRefresh {o} (h : regsOk s) : regsOk (s.ouRefresh o) :=
  h.outFollow.setB.setB.setB.ouCause.ite (h.outFollow.setB.setB.setB.ouCause.ite h.outFollow.setB.setB.setB)

theorem regsOk.ouRefreshAll (h : regsOk s) : regsOk s.ouRefreshAll := h.fold fun _ _ k => k.ouRefresh
theorem regsOk.alignGen {o} (h : regsOk s) : regsOk (s.alignGen o) := h.setGen
theorem regsOk.genPlaced {o ofs} (h : regsOk s) : regsOk (s.genPlaced o ofs) := h.setGen.set.setB.ouCause
theorem regsOk.realignBoundary (h : regsOk s) : regsOk s.realignBoundary := h.same.fold fun _ _ k => (k.setB.alignGen.ite k.setB).ite k
theorem regsOk.realignReq {v} (h : regsOk s) : regsOk (s.realignReq v) := h.same.fold fun _ _ k => k.raise.ite k

theorem regsOk.outBoundary {o} (h : regsOk s) : regsOk (s.outBoundary o) := by
  unfold State.outBoundary
  split
  next _ _ _ e =>
    extract_lets _ _ _ s₁ s₂ _ _
    have h₁ : regsOk s₁ := ((h.takePend.of_eq e).fold fun _ _ k => k.wr).set
    have h₂ : regsOk s₂ := (h.takePend.of_eq e).ite ((h.takePend.of_eq e).raise.ouCause.ite (h₁.setGen.ite (h₁.alignGen.ite h₁)))
    exact (h₂.ite h₂.same.raise.ouCause).ite ((h₂.same.ite h₂.same.set).ite h₂)

theorem regsOk.outTail {was : State} {o} (h : regsOk s) : regsOk (was.outTail s o) := h.ite h.same

theorem regsOk.outRestarts {was : State} (h : regsOk s) : regsOk (was.outRestarts s) := (h.fold fun _ _ k => k.outTail).fold fun _ _ k => k.same

theorem regsOk.ouBoundary (h : regsOk s) : regsOk s.ouBoundary := (h.fold fun _ _ k => k.outBoundary).outRestarts.realignBoundary.ouRefreshAll
theorem regsOk.ouTick (h : regsOk s) : regsOk s.ouTick := h.ite (h.ite (h.fold fun _ _ k => k.emit).same.ouRefreshAll)
theorem regsOk.pulseAt {g cap} (h : regsOk s) : regsOk (s.pulseAt g cap) := h.setGen.ite (h.setGen.emit.set.raise.ouCause.ite h.setGen.emit.set)

theorem execPulseEdge_nextOk {g back} (h : regsOk s) : nextOk (execPulseEdge g back s) := by
  unfold Machine.execPulseEdge
  extract_lets _
  refine h.finishIf ?_
  split
  · exact h.genPlaced.pulseAt.ouRefresh.ite (h.pulseAt.ite h)
  · exact h.pulseAt.ite h

theorem execPathDelayUpdate_nextOk (h : regsOk s) : nextOk (execPathDelayUpdate s) := h.whenUp (h.fold fun _ _ k => k.same.set).finish
theorem regsOk.planCtrl {o c mode fmt fl} (h : regsOk s) : regsOk (s.planCtrl o c mode fmt fl) := h.put.put.put.put.put.put.put

theorem execOuSetPlan_nextOk {n} (h : regsOk s) : nextOk (execOuSetPlan n s) := by
  unfold Machine.execOuSetPlan
  refine h.mbRow fun _ _ k => ?_
  extract_lets _ _ _ _ _ _ _ s₁ _ _ _ _ _ _ _ s₂
  have h₁ : regsOk s₁ := k.planCtrl.put.put
  have h₂ : regsOk s₂ := k.planCtrl.put.put.put
  split
  · exact .reject
  · split
    · exact .reject
    · exact .ite .reject (.ite (.ite .reject h₁.ok) (.ite .reject (.ite .reject (.ite .reject h₂.ok))))

theorem execOuRealignCmd_nextOk {n} (h : regsOk s) : nextOk (execOuRealignCmd n s) :=
  h.mbRow fun _ _ k => .ite .reject (.ite .reject (.ite .reject k.realignReq.ok))

theorem execOuGetStatus_nextOk {n} (h : regsOk s) : nextOk (execOuGetStatus n s) := by
  unfold Machine.execOuGetStatus
  refine h.mbRow fun _ _ k => ?_
  extract_lets _
  split
  · exact .reject
  · split
    · exact .reject
    · exact .ite .reject k.ok

/-! ### The operations of Machine/Refs -/

theorem regsOk.probDiscard {c} (h : regsOk s) : regsOk (s.probDiscard c) := h.setChan

theorem regsOk.selStatus {c old st} (h : regsOk s) : regsOk (s.selStatus c old st) :=
  (h.setChan.probDiscard.ite h.setChan).raise.inc.ite (h.setChan.probDiscard.ite h.setChan)

theorem regsOk.setStatus {c r st} (h : regsOk s) : regsOk (s.setStatus c r st) := by
  unfold State.setStatus
  extract_lets _ _ _ s₁ s₂
  have h₁ : regsOk s₁ := h.set.setChan.ite h.set
  have h₂ : regsOk s₂ := h₁.raise.ite h₁
  exact h.ite (h₂.selStatus.ite h₂)

theorem regsOk.refLoss {r} (h : regsOk s) : regsOk (s.refLoss r) := h.ite (h.set.set.same.fold fun _ _ k => k.setStatus)
theorem regsOk.refReturn {r} (h : regsOk s) : regsOk (s.refReturn r) := h.ite (h.set.fold fun _ _ k => k.setStatus)
theorem regsOk.refRestart {c r} (h : regsOk s) : regsOk (s.refRestart c r) := h.setStatus.ite h

/-! ### The operations of Machine/Pm -/

theorem regsOk.pmSnap (h : regsOk s) : regsOk s.pmSnap := h.fold fun _ _ k => k.wr64.fold fun _ _ k' => k'.wr64
theorem regsOk.pmClear (h : regsOk s) : regsOk s.pmClear := (h.fold fun _ _ k => k.wr64.fold fun _ _ k' => k'.wr64).fold fun _ _ k => k.wr.wr.wr
theorem regsOk.pmFree {n e} (h : regsOk s) : regsOk (s.pmFree n e) := h.ite h.same.pm
theorem regsOk.pmClocks {n} (h : regsOk s) : regsOk (s.pmClocks n) := ((h.fold fun _ _ k => k.add64.pm).fold fun _ _ k => k.pmFree).ite h
theorem regsOk.bwCount {p len rx} (h : regsOk s) : regsOk (s.bwCount p len rx) := h.same
theorem regsOk.bwEnd {p stepped} (h : regsOk s) : regsOk (s.bwEnd p stepped) := (h.set.set.setB.ite h.set.set.setB.set.set).same
theorem execBwWindowEnd_nextOk {p stepped} (h : regsOk s) : nextOk (execBwWindowEnd p stepped s) := h.finishIf h.bwEnd
theorem execMpHistAccumulate_nextOk (h : regsOk s) : nextOk (execMpHistAccumulate s) := h.finishIf (h.same.fold fun _ _ k => k.wr)
theorem regsOk.pmTrace {rcd} (h : regsOk s) : regsOk (s.pmTrace rcd) := h.inc.ite (h.wrs.raise.set.set.raise.ite h.wrs.raise.set.set)
theorem execPmGetTrace_nextOk {n} (h : regsOk s) : nextOk (execPmGetTrace n s) := h.mbRow fun _ _ k => .ite .reject (.ite .reject k.ok)

theorem execPmGetHistogram_nextOk {n} (h : regsOk s) : nextOk (execPmGetHistogram n s) :=
  h.mbRow fun _ _ k => .ite .reject (.ite .reject (.ite .reject (.ite .reject (k.same.ite k).ok)))

/-! ### The operations of Machine/Switch -/

theorem regsOk.setPkt {id x} (h : regsOk s) : regsOk (s.setPkt id x) := h.same
theorem regsOk.lateFail {x} (h : regsOk s) : regsOk (s.lateFail x) := h.inc.inc.pm
theorem regsOk.dropPkt {id} (h : regsOk s) : regsOk (s.dropPkt id) := (h.lateFail.ite h).setPkt
theorem regsOk.newPkt {x} (h : regsOk s) : regsOk (s.newPkt x) := h.setPkt.same

theorem regsOk.markHead {q} (h : regsOk s) : regsOk (s.markHead q) := by
  unfold State.markHead
  split
  · exact h
  · extract_lets _
    split
    · exact h.setPkt.ite h
    · exact h

theorem regsOk.fetch {q} (h : regsOk s) : regsOk (s.fetch q) := h.fold fun _ _ k => k.setPkt.pm.ite k
theorem regsOk.setQueue {q l} (h : regsOk s) : regsOk (s.setQueue q l) := h.same.markHead.fetch
theorem regsOk.wholeNow {id} (h : regsOk s) : regsOk (s.wholeNow id) := h.setPkt.fold fun _ _ k => k.fetch
theorem regsOk.setOcc {q n} (h : regsOk s) : regsOk (s.setOcc q n) := h.set.set

theorem regsOk.traceOut {id out q drop d5} (h : regsOk s) : regsOk (s.traceOut id out q drop d5) := by
  unfold State.traceOut
  extract_lets _ _ _ _
  split
  · exact h
  · exact h.setPkt.pmTrace

theorem regsOk.traceVerbDrop {id} (h : regsOk s) : regsOk (s.traceVerbDrop id) := h.same.traceOut.ite h

theorem regsOk.countDrop {q code} (h : regsOk s) : regsOk (s.countDrop q code) := by
  unfold State.countDrop
  extract_lets _ s₁
  have h₁ : regsOk s₁ := h.inc.raise.ite h.inc
  split
  · exact h₁.inc.ite h₁
  · exact h₁

theorem regsOk.txStamp {p x t} (h : regsOk s) : regsOk (s.txStamp p x t) := by
  unfold State.txStamp
  extract_lets _
  split
  · exact h
  · exact h.inc.ite (h.inc.raise.ite h.same.pm)

theorem regsOk.txDropped {q x} (h : regsOk s) : regsOk (s.txDropped q x) := by
  unfold State.txDropped
  split
  · exact h.txStamp
  · exact h

theorem regsOk.flowMode {p was} (h : regsOk s) : regsOk (s.flowMode p was) := h.ite h.same
theorem regsOk.flowCheck {p t} (h : regsOk s) : regsOk (s.flowCheck p t) := h.ite (h.same.ite (h.same.ite h))
theorem regsOk.hold {x add} (h : regsOk s) : regsOk (s.hold x add) := h.ite h.same.flowCheck
theorem regsOk.takeFrom {size used n} (h : regsOk s) : regsOk (s.takeFrom size used n).2 := h.parts (State.takeFrom_parts s size used n)

theorem regsOk.takeCells {m n} (h : regsOk s) : regsOk (s.takeCells m n).2 := by
  unfold State.takeCells
  extract_lets _
  split
  · split
    next _ _ _ e =>
      exact h.takeFrom.of_eq e
  · exact h.takeFrom

theorem regsOk.unref {id} (h : regsOk s) : regsOk (s.unref id) := by
  unfold State.unref
  extract_lets _ _ _ s₁
  have h₁ : regsOk s₁ := h.dropPkt.set.ite (h.dropPkt.same.ite h.dropPkt)
  exact h.setPkt.ite (h₁.ite h₁.hold)

theorem regsOk.dequeue {id q} (h : regsOk s) : regsOk (s.dequeue id q) := h.setOcc.setQueue

theorem regsOk.discard {id q code} (h : regsOk s) : regsOk (s.discard id q code) :=
  (h.dequeue.countDrop.traceOut.ite h.dequeue.countDrop).txDropped.unref

theorem regsOk.scDiscardPort {p code} (h : regsOk s) : regsOk (s.scDiscardPort p code) := h.fold fun _ _ k => k.fold fun _ _ k' => k'.discard
theorem regsOk.redAvg {q} (h : regsOk s) : regsOk (s.redAvg q) := h.ite h.same

theorem regsOk.red {x q} (h : regsOk s) : regsOk (s.red x q).2 := by
  unfold State.red
  extract_lets _ _ _ _ _ _
  split
  · exact h
  · split
    · exact h
    · split
      · exact h
      · split
        next _ _ _ e =>
          exact h.draw.of_eq e

theorem regsOk.refuses {x q} (h : regsOk s) : regsOk (s.refuses x q).2 := by
  unfold State.refuses
  extract_lets _ port
  unfold port
  split
  · exact h
  · split
    · exact h
    · split
      · exact h
      · split
        · exact h.red
        · exact h

theorem regsOk.refuse {id x q code} (h : regsOk s) : regsOk (s.refuse id x q code) := by
  unfold State.refuse
  extract_lets _ s₁ s₂
  have h₁ : regsOk s₁ := by
    unfold s₁
    split
    · exact h.countDrop.pm.inc.ite h.countDrop.pm
    · exact h.countDrop.pm
  have h₂ : regsOk s₂ := h₁.traceOut.ite h₁
  exact h₂.txDropped

theorem regsOk.decide' {id x dbm c} (h : regsOk s) : regsOk (s.decide' id x dbm c).2 := by
  unfold State.decide'
  split
  next _ _ _ e =>
    exact (h.redAvg.refuses.of_eq e).refuse
  next _ _ e =>
    split
    · exact (h.redAvg.refuses.of_eq e).pm
    · exact (h.redAvg.refuses.of_eq e).refuse

theorem regsOk.replicate {id} (h : regsOk s) : regsOk (s.replicate id) := by
  unfold State.replicate
  extract_lets _ _
  split
  · exact h
  · split
    · exact h.countDrop.setPkt
    · exact h.setPkt

theorem regsOk.admitFrame {id dbm} (h : regsOk s) : regsOk (s.admitFrame id dbm) := by
  unfold State.admitFrame
  extract_lets _ _ s₁ _ s₂ _
  have h₁ : regsOk s₁ := by
    unfold s₁
    split
    · exact h.replicate.setPkt
    · exact h.replicate
  have h₂ : regsOk s₂.2 := by
    unfold s₂
    refine h₁.foldSnd fun _ _ k => ?_
    split
    next _ _ _ e =>
      exact (k.decide'.of_eq e)
    next _ _ e =>
      exact (k.decide'.of_eq e)
  split
  · split
    · exact h₂.dropPkt
    · split
      next _ _ _ e =>
        extract_lets _ s₃ _ s₄ s₅ s₆
        have h₃ : regsOk s₃ := (h₂.takeCells.of_eq e).setPkt
        have h₄ : regsOk s₄ := h₃.set.ite h₃.same.pm
        have h₅ : regsOk s₅ := h₄.pm.ite h₄
        have h₆ : regsOk s₆ := h₅.fold fun _ _ k => k.setOcc.setQueue
        exact h₆.hold

theorem regsOk.sendOut {p b good} (h : regsOk s) : regsOk (s.sendOut p b good) := by
  unfold State.sendOut
  extract_lets _ _ _ s₁ _
  have h₁ : regsOk s₁ := h.emit.bwCount.add64
  exact (h₁.add64.add64.ite (h₁.add64.add64.ite h₁.add64)).ite h.emit.bwCount.add64

theorem regsOk.endSending {id good} (h : regsOk s) : regsOk (s.endSending id good) := h.setPkt.fold fun _ _ k => k.sendOut.same.unref

theorem regsOk.killPkt {id code} (h : regsOk s) : regsOk (s.killPkt id code) := by
  unfold State.killPkt
  extract_lets _ _
  split
  · exact (h.fold fun _ _ k => (k.traceOut.ite k).countDrop.txDropped).dropPkt
  · exact h.endSending.fold fun _ _ k => k.discard.ite k

theorem regsOk.formCells {id src} (h : regsOk s) : regsOk (s.formCells id src) :=
  h.setPkt.killPkt.pm.ite (h.setPkt.same.pm.pm.ite (h.setPkt.same.pm.pm.ite h.setPkt.same.pm))

theorem regsOk.releaseCell {dbm c} (h : regsOk s) : regsOk (s.releaseCell dbm c) := by
  unfold State.releaseCell
  extract_lets _ s₁
  have h₁ : regsOk s₁ := h.pm.admitFrame.ite h.pm
  exact h.ite (h₁.ite (h₁.killPkt.ite h₁.wholeNow.endSending))

theorem regsOk.releaseHeld {dbm e key n} (h : regsOk s) : regsOk (s.releaseHeld dbm e key n) := by
  induction n generalizing s with
  | zero => exact h
  | succ n ih =>
    unfold State.releaseHeld
    extract_lets _
    split
    · exact h
    · exact ih h.same.releaseCell

theorem regsOk.arrive {dbm c} (h : regsOk s) : regsOk (s.arrive dbm c) := h.same.releaseHeld.ite h
theorem regsOk.dlmCheck (h : regsOk s) : regsOk s.dlmCheck := h.setB
theorem regsOk.setMezz {m l} (h : regsOk s) : regsOk (s.setMezz m l) := h.same

theorem regsOk.swapStart {pos} (h : regsOk s) : regsOk (s.swapStart pos) := by
  unfold State.swapStart
  extract_lets _
  split
  · exact h.ite h.same.set.set.set
  · exact h

theorem regsOk.quarantine {pos} (h : regsOk s) : regsOk (s.quarantine pos) := by
  unfold State.quarantine
  extract_lets s₁
  have h₁ : regsOk s₁ := by
    unfold s₁
    split
    · exact h.setMezz.ite h
    · exact h
  exact h₁.setMezz.setBit.raise.dlmCheck

theorem regsOk.mezzFaulty {m} (h : regsOk s) : regsOk (s.mezzFaulty m) := by
  unfold State.mezzFaulty
  extract_lets _ _
  split
  · exact h
  · split
    · exact h.setBit.same
    · split
      · split
        · exact h.setBit
        · split
          · exact h.setBit.quarantine
          · split
            · exact h.setBit.quarantine
            · exact h.setBit
      · split
        · exact h.setBit
        · exact h.setBit.quarantine.ite (h.setBit.swapStart.ite h.setBit)

theorem regsOk.mezzReturned {m} (h : regsOk s) : regsOk (s.mezzReturned m) := by
  unfold State.mezzReturned
  extract_lets _ _
  split
  · exact h.same.set.swapStart
  · exact h.same.set

theorem regsOk.mezzEcc {m e} (h : regsOk s) : regsOk (s.mezzEcc m e).2 := by
  unfold State.mezzEcc
  extract_lets _ _
  split
  · exact h.inc
  · split
    next _ _ _ e =>
      exact (h.inc.raise.hlTransient.of_eq e).mezzFaulty.ite (h.inc.raise.hlTransient.of_eq e)
  · exact h.inc.raise.hlLasting.mezzFaulty

theorem regsOk.upperHall {dbm ecc l} (h : regsOk s) : regsOk (s.upperHall dbm ecc l) := by
  unfold State.upperHall
  extract_lets _ from'
  split
  · exact h
  · unfold from'
    split
    · exact h
    · extract_lets _
      split
      · exact h.setMezz.arrive
      · split
        next _ _ _ e =>
          exact (h.setMezz.mezzEcc.of_eq e).ite (h.setMezz.mezzEcc.of_eq e).arrive

theorem regsOk.lowerHall {b} (h : regsOk s) : regsOk (s.lowerHall b) := by
  unfold State.lowerHall
  extract_lets _ _ _
  split
  · exact h
  · split
    · exact h.ite h.pm
    · extract_lets _ s₁ _
      have h₁ : regsOk s₁ := h.same.setMezz.pm
      split
      · exact h₁.setPkt.ite h₁
      · exact h₁

theorem regsOk.storeEcc {f} (h : regsOk s) : regsOk (s.storeEcc f) := by
  unfold State.storeEcc
  extract_lets _ s₁
  have h₁ : regsOk s₁ := h.ite h.killPkt
  split
  · extract_lets s₂
    have h₂ : regsOk s₂ := h₁.inc.raise.hlLasting
    split
    · exact h.inc.ite h
    · split
      next _ _ _ e =>
        exact (h.inc.raise.hlTransient.of_eq e).hlQueueRow.ite (h.inc.raise.hlTransient.of_eq e)
    · exact h₂.hlQueueRow

theorem regsOk.applyRes {l} (h : regsOk s) : regsOk (s.applyRes l) := (h.fold fun _ _ k => k.set).fold fun _ _ k => k.wr.raise.ite k.wr

theorem execSlotPatternBoundary_nextOk (h : regsOk s) : nextOk (execSlotPatternBoundary s) := by
  unfold Machine.execSlotPatternBoundary
  refine h.finishIf ?_
  split
  next _ _ _ e =>
    extract_lets _ s₁ s₂ _ _ s₃
    have h₁ : regsOk s₁ := (h.takePend.of_eq e).applyPend
    have h₂ : regsOk s₂ := h₁.fold fun _ _ k => k.flowMode
    have h₃ : regsOk s₃ := by
      unfold s₃
      split
      · exact h₂.applyRes.ite h₂.applyRes.same.set
      · exact h₂.applyRes
    exact h₃.dlmCheck

theorem execMezzSwapComplete_nextOk (h : regsOk s) : nextOk (execMezzSwapComplete s) := by
  unfold Machine.execMezzSwapComplete
  extract_lets _
  split
  · exact h.finishIf h.same.set.raise
  · exact h.next

theorem execPfcRepeat_nextOk {p t} (h : regsOk s) : nextOk (execPfcRepeat p t s) := h.finishIf h.same
theorem regsOk.countDelay {q d} (h : regsOk s) : regsOk (s.countDelay q d) := h.inc
theorem regsOk.charge {q len} (h : regsOk s) : regsOk (s.charge q len) := h.same

theorem regsOk.dwrr {srv qs ready weight n} (h : regsOk s) : regsOk (s.dwrr srv qs ready weight n).2 :=
  h.parts (State.dwrr_parts s srv qs ready weight n)

/-! ### The operations of Machine/Lanes -/

theorem regsOk.laneCause {l f} (h : regsOk s) : regsOk (s.laneCause l f) := h.raise.ite h

theorem regsOk.laneClk {l} (h : regsOk s) : regsOk (s.laneClk l) := by
  unfold State.laneClk
  extract_lets _ _ _ s₁ s₂
  have h₁ : regsOk s₁ := h.setB.refLoss.calLost.ite h.setB.refLoss
  have h₂ : regsOk s₂ := h.setB.refLoss.ite h.setB.refLoss.calLost
  exact h.setB.ite (h.setB.refLoss.ite ((h₁.linkWait.ite h₁).ite h₂.linkClockLost))

theorem regsOk.laneTx {l} (h : regsOk s) : regsOk (s.laneTx l) := h.setB

theorem regsOk.portDown {p} (h : regsOk s) : regsOk (s.portDown p) :=
  (h.scDiscardPort.set.set.raise.ite h).scDiscardPort.ite (h.scDiscardPort.set.set.raise.ite h)

theorem regsOk.faultTx {p} (h : regsOk s) : regsOk (s.faultTx p) := h.ite h.setPort.emit
theorem regsOk.portUp {p} (h : regsOk s) : regsOk (s.portUp p) := h.raise.setPort.ite h

theorem regsOk.portLink {p} (h : regsOk s) : regsOk (s.portLink p) :=
  (h.setB.setB.portUp.ite (h.setB.setB.portDown.ite h.setB.setB).linkPortLost).faultTx

theorem regsOk.portLooped {p} (h : regsOk s) : regsOk (s.portLooped p) := h.setB
theorem regsOk.lnCalBegin {l} (h : regsOk s) : regsOk (s.lnCalBegin l) := h.ite h.raise.raise.setLane.laneClk
theorem regsOk.laneRepair {l} (h : regsOk s) : regsOk (s.laneRepair l) := (h.same.ite h).lnCalBegin.ite (h.same.ite h).setLane
theorem regsOk.lossLasting {hd} (h : regsOk s) : regsOk (s.lossLasting hd) := h.setLane.inc.laneCause.raise.setPort.hlLasting.laneRepair

theorem regsOk.lockEnds {l} (h : regsOk s) : regsOk (s.lockEnds l) := by
  unfold State.lockEnds
  extract_lets _ _ _ _ s₁
  have h₁ : regsOk s₁ := by
    unfold s₁
    split
    · exact h.setLane
    · split
      · exact h.setLane.setLane
      · exact h.setLane.lossLasting
      · exact h.setLane
  exact h₁.laneClk.portLink

theorem regsOk.lockReturns {hd} (h : regsOk s) : regsOk (s.lockReturns hd) := h.setLane.portLink.ite h.portLink
theorem regsOk.lossForget {hd} (h : regsOk s) : regsOk (s.lossForget hd) := h.setLane.setPort.set
theorem regsOk.laneRestart {l} (h : regsOk s) : regsOk (s.laneRestart l) := (h.fold fun _ _ k => k.set).lossForget.lossForget.laneClk
theorem regsOk.lanePowerDown {l} (h : regsOk s) : regsOk (s.lanePowerDown l) := h.laneRestart.set.laneClk.laneTx
theorem regsOk.portIdle {p} (h : regsOk s) : regsOk (s.portIdle p) := h.set.set.raise

theorem regsOk.portStop {p drain} (h : regsOk s) : regsOk (s.portStop p drain) :=
  h.linkWait.ite (h.linkWait.set.set.ite h.linkWait.scDiscardPort.set.portIdle)

theorem regsOk.portStart {p} (h : regsOk s) : regsOk (s.portStart p) := h.ite h.set
theorem regsOk.laneTaps {l} (h : regsOk s) : regsOk (s.laneTaps l) := h.set.set.setLane
theorem regsOk.laneCheck {l} (h : regsOk s) : regsOk (s.laneCheck l) := h.setB

theorem regsOk.laneApply {l} (h : regsOk s) : regsOk (s.laneApply l) := by
  unfold State.laneApply
  extract_lets _ _ _ _ _ _ s₁ s₂
  have h₁ : regsOk s₁ := (h.applyPend.laneTaps.ite h.applyPend).laneCheck
  have h₂ : regsOk s₂ := h₁.lanePowerDown.portStop.ite (h₁.laneRestart.ite h₁)
  exact h.ite (h.applyPend.ite h₂.laneClk.laneTx.portLooped.portLink)

theorem regsOk.laneFollow {l was} (h : regsOk s) : regsOk (s.laneFollow l was) :=
  h.laneCheck.ite (h.laneCheck.laneRestart.ite h.laneCheck).laneClk.laneTx

theorem regsOk.laneResetAt {l} (h : regsOk s) : regsOk (s.laneResetAt l) := h.setLane.laneRestart.portStop.laneTx.portLink.ite h

theorem regsOk.lnPtBoundary {p} (h : regsOk s) : regsOk (s.lnPtBoundary p) := by
  unfold State.lnPtBoundary
  extract_lets _ _ s₁ s₂ s₃ _ _ _ s₄
  have h₁ : regsOk s₁ := h.fold fun _ _ k => k.laneApply.laneResetAt
  have h₂ : regsOk s₂ := h₁.ite (h₁.fold fun _ _ k => k.laneFollow)
  have h₃ : regsOk s₃ := h₂.ite h₂.portLink
  have h₄ : regsOk s₄ := h₃.applyPend.portLooped.portStop.ite h₃.applyPend.portLooped
  exact h₄.portStart.faultTx

theorem execLossOfSignal_nextOk {l} (h : regsOk s) : nextOk (execLossOfSignal l s) := by
  unfold Machine.execLossOfSignal
  extract_lets _ _ s₁
  have h₁ : regsOk s₁ := h.set.laneCause.fold fun _ _ k => k.set
  exact h.finishIf (h₁.lockEnds.ite h₁.laneClk)

theorem execSignalDetect_nextOk {l} (h : regsOk s) : nextOk (execSignalDetect l s) := h.finishIf (h.raise.lnCalBegin.ite h.raise)

theorem execCdrLossOfLock_nextOk {l} (h : regsOk s) : nextOk (execCdrLossOfLock l s) :=
  h.finishIf (h.set.laneCause.set.set.lockEnds.ite h.set.laneCause.set.set.laneClk)

theorem execCdrLock_nextOk {l} (h : regsOk s) : nextOk (execCdrLock l s) := h.finishIf h.raise.laneClk
theorem execBlockLockLoss_nextOk {l} (h : regsOk s) : nextOk (execBlockLockLoss l s) := h.finishIf h.set.set.lockEnds
theorem execBlockLock_nextOk {l} (h : regsOk s) : nextOk (execBlockLock l s) := h.finishIf h.raise.setB.laneClk.lockReturns
theorem execBlockLockRetryExpiry_nextOk {l} (h : regsOk s) : nextOk (execBlockLockRetryExpiry l s) := h.finishIf h.lossLasting.portLink

theorem execBlockLockStableExpiry_nextOk {l} (h : regsOk s) : nextOk (execBlockLockStableExpiry l s) := by
  unfold Machine.execBlockLockStableExpiry
  extract_lets _ _ s₁
  have h₁ : regsOk s₁ := h.setLane.inc.laneCause
  refine h.finishIf ?_
  split
  next _ _ _ e =>
    exact (h₁.hlTransient.of_eq e).laneRepair.ite (h₁.hlTransient.of_eq e)

theorem execHiBerWindow_nextOk {l invalid corr uncorr sym} (h : regsOk s) : nextOk (execHiBerWindow l invalid corr uncorr sym s) := by
  unfold Machine.execHiBerWindow
  extract_lets _ s₁ s₂ s₃ _ s₄
  have h₁ : regsOk s₁ := h.add.ite h
  have h₂ : regsOk s₂ := h₁.add.add.add
  have h₃ : regsOk s₃ := h₂.laneCause.ite h₂
  have h₄ : regsOk s₄ := h₃.laneCause.ite h₃
  exact h.finishIf h₄.setB.portLink

theorem execAlignmentLoss_nextOk {b} (h : regsOk s) : nextOk (execAlignmentLoss b s) := h.finishIf h.set.laneCause.setPort.lockEnds
theorem execAlignment_nextOk {b} (h : regsOk s) : nextOk (execAlignment b s) := h.finishIf h.raise.setPort.lockReturns
theorem execRemoteFaultReceive_nextOk {p} (h : regsOk s) : nextOk (execRemoteFaultReceive p s) := h.finishIf h.raise.raise.portLink
theorem execRemoteFaultEnd_nextOk {p} (h : regsOk s) : nextOk (execRemoteFaultEnd p s) := h.finishIf h.set.portLink

theorem execBayModeApply_nextOk {b} (h : regsOk s) : nextOk (execBayModeApply b s) := by
  unfold Machine.execBayModeApply
  extract_lets _ _ _ s₁
  have h₁ : regsOk s₁ := h.applyPend.fold fun _ _ k => k.set.laneRestart.laneCheck.laneTx.calLost.linkWait
  exact h.finishIf (h₁.fold fun _ _ k => k.portLooped.portLink)

theorem regsOk.eyePublish {l width height} (h : regsOk s) : regsOk (s.eyePublish l width height) := h.set.set.set.laneCause.ite h.set.set.set

theorem execLnCalEnd_nextOk {l width height} (h : regsOk s) : nextOk (execLnCalEnd l width height s) :=
  h.finishIf h.set.laneCause.eyePublish.same.laneClk.mbAnswerWaiting

theorem execEyePublish_nextOk {l width height} (h : regsOk s) : nextOk (execEyePublish l width height s) := h.finishIf h.eyePublish

theorem execLaneResetEnd_nextOk {l} (h : regsOk s) : nextOk (execLaneResetEnd l s) := by
  unfold Machine.execLaneResetEnd
  extract_lets _ _ _ _ s₁ s₂ s₃
  have h₁ : regsOk s₁ := h.setLane.same.fold fun _ _ k => k.wr
  have h₂ : regsOk s₂ := h₁.laneTaps.ite h₁
  have h₃ : regsOk s₃ := h₂.set.laneRestart.laneCheck.laneTx
  exact h.finishIf h₃.portLooped.portLink.portStart

theorem regsOk.portPaused {p} (h : regsOk s) : regsOk (s.portPaused p) := h.setB
theorem regsOk.farFlow {p f} (h : regsOk s) (hf : ∀ u, regsOk u → regsOk (f u)) : regsOk (s.farFlow p f) := h.dropDisabled.ite (hf _ h.add64)
theorem regsOk.pauseTake {p quanta} (h : regsOk s) : regsOk (s.pauseTake p quanta) := h.setPort.portPaused.ite h
theorem regsOk.pfcTake {p vector zero} (h : regsOk s) : regsOk (s.pfcTake p vector zero) := h.setPort.portPaused.ite h

theorem execPauseFrameReceive_nextOk {p quanta} (h : regsOk s) : nextOk (execPauseFrameReceive p quanta s) :=
  h.finishIf (h.farFlow fun _ k => k.pauseTake)

theorem execPfcFrameReceive_nextOk {p vector zero} (h : regsOk s) : nextOk (execPfcFrameReceive p vector zero s) :=
  h.finishIf (h.farFlow fun _ k => k.pfcTake)

theorem execPauseExpiry_nextOk {p all classes} (h : regsOk s) : nextOk (execPauseExpiry p all classes s) := h.finishIf h.setPort.portPaused
theorem execDrainDone_nextOk {p} (h : regsOk s) : nextOk (execDrainDone p s) := h.finishIf h.portIdle
theorem execDrainTimeout_nextOk {p} (h : regsOk s) : nextOk (execDrainTimeout p s) := h.finishIf h.scDiscardPort.set.portIdle

/-! ### The operations of Machine/Tables -/

theorem regsOk.setEnt {t i e} (h : regsOk s) : regsOk (s.setEnt t i e) := by
  unfold State.setEnt
  extract_lets _ _ _ _ _
  split
  · exact h.same.set.ite (h.same.set.ite h.same)
  · exact h.same
  · exact h.same
  · exact h.same
  · exact h.same
  · exact h.same
  · exact h.same
  · exact h

theorem regsOk.delta {fid mac e} (h : regsOk s) : regsOk (s.delta fid mac e) := h.same.raise.ite h.same
theorem regsOk.macRemove {loc} (h : regsOk s) : regsOk (s.macRemove loc) := h.setEnt.delta
theorem regsOk.moveNote {o d} (h : regsOk s) : regsOk (s.moveNote o d) := h.same

theorem regsOk.moves {l} (h : regsOk s) : regsOk (s.moves l) := by
  fun_induction State.moves s l with
  | case1 s d o rest ih => exact ih h.setEnt.setEnt.moveNote.pm
  | case2 s l _ => exact h

theorem regsOk.macInsert {e} (h : regsOk s) : regsOk (s.macInsert e).2 := by
  unfold State.macInsert
  extract_lets _ _
  split
  · exact h.setEnt
  · split
    · exact h.setEnt
    · split
      · exact h.same.moves.setEnt
      · exact h.pm

theorem regsOk.ftFault {f} (h : regsOk s) : regsOk (s.ftFault f) := by
  unfold State.ftFault
  extract_lets _ s₁ _ _ s₂ _
  have h₁ : regsOk s₁ := h.inc.raise.captureAt
  have h₂ : regsOk s₂ := h₁.hlLasting.hlQueueRow.ite h₁.hlLasting.hlQueueRow.same
  split
  · exact h₂.macRemove.ite h₂
  · split
    next _ _ _ e =>
      exact (h.inc.raise.hlTransient.of_eq e).hlQueueRow.ite (h.inc.raise.hlTransient.of_eq e)

theorem regsOk.ftRepaired {bank row} (h : regsOk s) : regsOk (s.ftRepaired bank row) := (h.fold fun _ _ k => k.setEnt).same

theorem regsOk.epochAdvance (h : regsOk s) : regsOk s.epochAdvance.2 := by
  unfold State.epochAdvance
  extract_lets _
  split
  · exact h.raise
  · exact h.set

theorem execDrainEpochAdvance_nextOk (h : regsOk s) : nextOk (execDrainEpochAdvance s) := h.finishIf h.set.raise
theorem regsOk.learnPut {e} (h : regsOk s) : regsOk (s.learnPut e) := h.inc.raise.ite h.same.pm

theorem regsOk.learnIssue {fid mac ident src} (h : regsOk s) : regsOk (s.learnIssue fid mac ident src) := by
  unfold State.learnIssue
  split
  · exact h
  · split
    · exact h.learnPut
    · exact (h.learnPut.ite h).ite (h.ite h.learnPut)

theorem regsOk.station {loc ident} (h : regsOk s) : regsOk (s.station loc ident) := h.setEnt.inc.delta

theorem regsOk.doLearn {v} (h : regsOk s) : regsOk (s.doLearn v) := by
  unfold State.doLearn
  extract_lets _
  split
  · exact h
  · split
    · split
      next _ _ _ e =>
        exact (h.macInsert.of_eq e).inc.delta
      next _ _ e =>
        exact (h.macInsert.of_eq e).inc.raise.same
    · exact (h.ite h.inc).ite (h.ite (h.station.ite ((h.station.ite h.setEnt).ite h.setEnt.inc)))

theorem regsOk.doRefresh {v} (h : regsOk s) : regsOk (s.doRefresh v) := by
  unfold State.doRefresh
  split
  · exact h
  · exact h.setEnt.ite h

theorem regsOk.doDestRefresh {v} (h : regsOk s) : regsOk (s.doDestRefresh v) := by
  unfold State.doDestRefresh
  split
  · exact h
  · exact h.setEnt

theorem regsOk.doEvent {v} (h : regsOk s) : regsOk (s.doEvent v) := (h.inc.raise.ite h.same).ite (h.doLearn.ite (h.doRefresh.ite h.doDestRefresh))
theorem regsOk.runSide (h : regsOk s) : regsOk s.runSide := h.same.fold fun _ _ k => k.doEvent

theorem regsOk.learnHead {k} (h : regsOk s) : nextOk (s.learnHead k) := by
  unfold State.learnHead
  extract_lets _
  split
  · exact h.next
  · exact .ite (h.finishIf h.same.doEvent) h.next

theorem execLearn_nextOk (h : regsOk s) : nextOk (execLearn s) := h.learnHead
theorem execRefresh_nextOk (h : regsOk s) : nextOk (execRefresh s) := h.learnHead
theorem execDestRefresh_nextOk (h : regsOk s) : nextOk (execDestRefresh s) := h.learnHead
theorem regsOk.age {loc} (h : regsOk s) : regsOk (s.age loc) := h.ite (h.setEnt.ite (h.setEnt.macRemove.inc.ite h.setEnt))
theorem execAgeEvent_nextOk (h : regsOk s) : nextOk (execAgeEvent s) := h.finishIf h.age.same

theorem execFailFilterExpiry_nextOk (h : regsOk s) : nextOk (execFailFilterExpiry s) := by
  unfold Machine.execFailFilterExpiry
  extract_lets _
  split
  · exact h.next
  · exact h.finishIf h.same

/-! ### The operations of Machine/Mac -/

theorem regsOk.tag {p} (h : regsOk s) : regsOk (s.tag p).2 := by
  unfold State.tag
  extract_lets _
  split
  · exact h
  · split
    next _ _ _ e =>
      exact h.draw.of_eq e

theorem regsOk.countRx {p n da} (h : regsOk s) : regsOk (s.countRx p n da) := h.add64.add64.add64.ite (h.add64.add64.add64.ite h.add64.add64)

theorem regsOk.macReceive {p b fcs bad ago} (h : regsOk s) : regsOk (s.macReceive p b fcs bad ago) := by
  unfold State.macReceive
  extract_lets _ _ _ _ _ s₁ s₂ _ _ s₃ _
  have h₁ : regsOk s₁ := h.add64.ite (h.add64.ite h.countRx)
  have h₂ : regsOk s₂ := h₁.add64.ite h₁
  have h₃ : regsOk s₃ := h₂.bwCount.pm.pm
  split
  · exact h.dropDisabled
  · split
    · exact h.add64
    · split
      · exact h₃
      · split
        · exact h₃
        · split
          next _ _ _ e =>
            exact (h₃.tag.of_eq e).newPkt.same

theorem regsOk.macOut {p b good out} (h : regsOk s) (hf : ∀ u, regsOk u → regsOk (out u)) : regsOk (s.macOut p b good out) := by
  unfold State.macOut
  extract_lets _ s₁
  have h₁ : regsOk s₁ := (hf _ h).ite h
  split
  · exact hf _ h
  · exact h.dropDisabled
  · exact h.macReceive
  · exact h₁.ite h₁.macReceive

theorem regsOk.macSend {p b good} (h : regsOk s) : regsOk (s.macSend p b good) := h.macOut fun _ k => k.sendOut

theorem regsOk.slowSend {p b} (h : regsOk s) : regsOk (s.slowSend p b) := h.same.macSend.ite h

theorem regsOk.injectAs {base p t classT fromMp tsId b dbm} (h : regsOk s) :
    regsOk (s.injectAs base p t classT fromMp tsId b dbm) := by
  unfold State.injectAs
  exact h.newPkt.admitFrame

theorem regsOk.inject {p t classT fromMp tsId b dbm} (h : regsOk s) : regsOk (s.inject p t classT fromMp tsId b dbm) := h.injectAs

/-! ### The operations of Machine/Parser -/

theorem regsOk.prSwap {v} (h : regsOk s) : regsOk (s.prSwap v) := h.same

theorem regsOk.prSwapAt {p} (h : regsOk s) : regsOk (s.prSwapAt p) := by
  unfold State.prSwapAt
  extract_lets _ _ _ _ _ s₁ _ s₂ _ s₃ _ s₄ _ _ s₅ _ _
  have h₁ : regsOk s₁ := h.same.set.ite h.same
  have h₂ : regsOk s₂ := by
    unfold s₂
    split
    · exact h₁.same
    · exact h.same
  have h₃ : regsOk s₃ := h₂.same.set.ite h₂
  have h₄ : regsOk s₄ := by
    unfold s₄
    split
    · exact h₃.same
    · exact h₂
  have h₅ : regsOk s₅ := h₄.same.set.set.ite h₄
  exact h₅.same.set.set.ite h₅

theorem regsOk.prBoundary {p} (h : regsOk s) : regsOk (s.prBoundary p) := h.applyPend.prSwapAt

theorem execPrDrainComplete_nextOk (h : regsOk s) : nextOk (execPrDrainComplete s) :=
  h.finishIf ((h.set.raise.ite h).set.raise.ite (h.set.raise.ite h))

theorem regsOk.bankDrop (h : regsOk s) : regsOk s.bankDrop := h.inc.raise

theorem regsOk.prFault {bank x} (h : regsOk s) : regsOk (s.prFault bank x) := by
  unfold State.prFault
  extract_lets _ _ s₁ _ _
  have h₁ : regsOk s₁ := h.raise.captureAt.hlLasting.hlQueueRow
  split
  · exact h₁.same.ite h₁.same
  · split
    next _ _ _ e =>
      exact (h.raise.hlTransient.of_eq e).hlQueueRow.ite (h.raise.hlTransient.of_eq e)

/-! ### The operations of Machine/Pipeline -/

theorem regsOk.sampleDue {p dir} (h : regsOk s) : regsOk (s.sampleDue p dir).2 := by
  unfold State.sampleDue
  extract_lets _ _ _ _
  split
  · split
    · exact h
    · split
      · split
        next _ _ _ e =>
          exact h.draw.of_eq e
      · exact h.same
  · split
    · exact h
    · split
      · split
        next _ _ _ e =>
          exact h.draw.of_eq e
      · exact h.same

theorem regsOk.sample {x p dir ts suspect} (h : regsOk s) : regsOk (s.sample x p dir ts suspect) := by
  unfold State.sample
  extract_lets _
  split
  next _ _ _ e =>
    extract_lets _
    split
    · exact h.sampleDue.of_eq e
    · exact (h.sampleDue.of_eq e).inc.raise.ite (h.sampleDue.of_eq e).same.newPkt.set.setOcc.setQueue.hold

theorem regsOk.destination {x l redirect grp hash} (h : regsOk s) : regsOk (s.destination x l redirect grp hash).2 := by
  unfold State.destination
  split
  · exact h.inc
  · split
    · exact h
    · split
      · exact h
      · split
        · exact h
        · split
          · exact h.inc
          · split
            · exact h.pm
            · split
              · exact h.pm
              · exact h.inc

theorem regsOk.endDropped {id code} (h : regsOk s) : regsOk (s.endDropped id code) := by
  unfold State.endDropped
  extract_lets _ s₁
  have h₁ : regsOk s₁ := by
    unfold s₁
    split
    · exact h.countDrop.traceOut
    · exact h.traceVerbDrop
  exact h₁.dropPkt

theorem regsOk.countOutcome {x w} (h : regsOk s) : regsOk (s.countOutcome x w) := by
  unfold State.countOutcome
  extract_lets _ _
  split
  · exact h.pm.pm.pm
  · exact h.pm.pm.pm.inc
  · exact h.pm.pm.pm.inc
  · exact h.pm.pm.pm.inc
  · exact h.pm.pm

theorem regsOk.effective {x v} (h : regsOk s) : regsOk (s.effective x v).2 := by
  unfold State.effective
  extract_lets _ _ _ _ _ _
  split
  · exact h.inc
  · exact h

theorem regsOk.learnFrom {x l act} (h : regsOk s) : regsOk (s.learnFrom x l act) := h.ite (h.learnIssue.ite h)

theorem regsOk.refreshFrom {x l} (h : regsOk s) : regsOk (s.refreshFrom x l) := by
  unfold State.refreshFrom
  split
  · exact h.ite h.learnPut
  · exact h

theorem regsOk.pass {id pf ff} (h : regsOk s) : regsOk (s.pass id pf ff) := by
  unfold State.pass
  extract_lets _ s₁ s₂ _ _ _ _ _ _ _ s₃ s₄
  have h₁ : regsOk s₁ := h.fold fun _ _ k => k.prFault
  have h₂ : regsOk s₂ := h₁.fold fun _ _ k => k.ftFault
  have h₃ : regsOk s₃ := h₂.countOutcome.pm.ite h₂.countOutcome
  have h₄ : regsOk s₄ := h₃.inc.ite h₃
  split
  · exact h₂.inc.dropPkt
  · split
    next _ _ _ _ _ _ e =>
      extract_lets _ s₅ s₆ _ _ _ _ _
      have h₅ : regsOk s₅ := (h₄.effective.of_eq e).pm
      have h₆ : regsOk s₆ := by
        unfold s₆
        split
        · exact h₅.setEnt
        · exact h₅
      split
      next _ _ s₇ e =>
        have h₇ : regsOk s₇ := by
          refine .of_eq ?_ e
          split
          · exact h₆.destination
          · exact h₆
        extract_lets _ _ _ _ _ s₈
        have h₈ : regsOk s₈ := h₇.learnFrom.refreshFrom.inc.ite h₇.learnFrom.refreshFrom
        split
        next _ _ s₉ e =>
          have h₉ : regsOk s₉ := by
            refine .of_eq ?_ e
            clear_value s₈
            split
            · exact h₈
            · split
              · exact h₈.draw
              · exact h₈
          extract_lets s₁₀ _ _ _ s₁₁ s₁₂
          have h₁₀ : regsOk s₁₀ := h₉.inc.ite h₉
          have h₁₁ : regsOk s₁₁ := h₁₀.setPkt.sample.ite h₁₀.setPkt
          have h₁₂ : regsOk s₁₂ := by
            unfold s₁₂
            clear_value s₁₁
            split
            · exact h₁₁.countDrop
            · exact h₁₁
          exact h₁₁.endDropped.ite h₁₂.formCells

theorem regsOk.crossConnect {id peer} (h : regsOk s) : regsOk (s.crossConnect id peer) := h.sample.setPkt.formCells

theorem execParseClassify_nextOk {k pf ff} (h : regsOk s) : nextOk (execParseClassify k pf ff s) := by
  unfold Machine.execParseClassify
  extract_lets _
  refine h.whenUp ?_
  split
  · exact h.next
  · extract_lets _
    refine .finish ?_
    split
    · exact h.same.crossConnect
    · exact h.same.pass

theorem execLateLengthCheck_nextOk {p} (h : regsOk s) : nextOk (execLateLengthCheck p s) := by
  unfold Machine.execLateLengthCheck
  refine h.whenUp ?_
  split
  · exact h.next
  · exact (h.setPkt.lateFail.ite h.setPkt).finish

theorem execRecircSecondPass_nextOk {pf ff} (h : regsOk s) : nextOk (execRecircSecondPass pf ff s) := by
  unfold Machine.execRecircSecondPass
  split
  · exact h.next
  · exact h.finishIf h.dequeue.countDelay.unref.setPkt.pass

theorem execRecircAgeExpiry_nextOk {r} (h : regsOk s) : nextOk (execRecircAgeExpiry r s) := by
  unfold Machine.execRecircAgeExpiry
  split
  · exact h.next
  · exact h.finishIf h.inc.raise.traceVerbDrop.dequeue.unref

/-! ### The operations of Machine/Edit -/

theorem regsOk.ptpErr {f} (h : regsOk s) : regsOk (s.ptpErr f) := h.inc.raise

theorem regsOk.ptpEgress {x p e egr} (h : regsOk s) : regsOk (s.ptpEgress x p e egr).2 := by
  unfold State.ptpEgress
  extract_lets _ _ _ _ _ _ _ _ _ _ _ _ s₁
  have h₁ : regsOk s₁ := h.inc.ite h
  split
  · exact h
  · extract_lets _ _ _ _ _ _
    split
    · exact h
    · split
      · split
        · exact h.ptpErr
        · split
          · exact h.ptpErr
          · exact h₁.pm
      · split
        · exact h.ptpErr
        · split
          · exact h.ptpErr
          · exact h₁.pm

/-! ### The operations of Machine/Stair -/

theorem regsOk.stairNow {p} (h : regsOk s) : regsOk (s.stairNow p) := ((h.ite h.set.pm).ite (h.ite h.set.pm).same).set
theorem regsOk.noFit {p} (h : regsOk s) : regsOk (s.noFit p) := h.fold fun _ _ k => k.ite (k.fold fun _ _ k' => k'.discard.pm)
theorem regsOk.noFitAll (h : regsOk s) : regsOk s.noFitAll := h.fold fun _ _ k => k.noFit

theorem regsOk.treadFault {p tread lasting bank row} (h : regsOk s) : regsOk (s.treadFault p tread lasting bank row) := by
  unfold State.treadFault
  extract_lets _ s₁ _ _
  have h₁ : regsOk s₁ := h.raise.raise.ite h.raise.raise.set.set.set
  split
  · exact h₁.hlLasting.hlQueueRow.same
  · split
    next _ _ _ e =>
      exact (h.inc.raise.hlTransient.of_eq e).hlQueueRow.ite (h.inc.raise.hlTransient.of_eq e)

theorem regsOk.treadTake {p fault} (h : regsOk s) : regsOk (s.treadTake p fault) := by
  unfold State.treadTake
  extract_lets s₁
  have h₁ : regsOk s₁ := by
    unfold s₁
    split
    · exact h.ite h.treadFault
    · exact h
  exact h₁.ite h₁.stairNow

theorem regsOk.stairApply {p fault} (h : regsOk s) : regsOk (s.stairApply p fault) := by
  unfold State.stairApply
  extract_lets _ _ _ s₁ _ s₂ s₃
  have h₁ : regsOk s₁ := h.applyPend.same.set.ite h.applyPend
  have h₂ : regsOk s₂ := h₁.setB.set.fold fun _ _ k => k.set
  have h₃ : regsOk s₃ := h₂.setBit2.raise.ite h₂
  exact h.applyPend.ite h₃.treadTake.noFit

theorem execFlightBoundary_nextOk {p} (h : regsOk s) : nextOk (execFlightBoundary p s) := h.finishIf h.addWrap.stairApply
theorem regsOk.stairCycle (h : regsOk s) : regsOk s.stairCycle := h.fold fun _ _ k => k.stairApply.ite k

theorem regsOk.stairStep {from' to'} (h : regsOk s) : regsOk (s.stairStep from' to') :=
  h.fold fun _ _ k => (k.addWrap.stairApply.ite k.stairNow).ite k

theorem execTreadStart_nextOk {p fault} (h : regsOk s) : nextOk (execTreadStart p fault s) :=
  h.finishIf (h.treadTake.ite (h.treadTake.set.set.setB.setBit2.raise.ite h.treadTake))

/-! ### The operations of Machine/Ports -/

theorem execFrameReceive_nextOk {p b fcs bad ago} (h : regsOk s) : nextOk (execFrameReceive p b fcs bad ago s) :=
  h.finishIf (h.dropDisabled.ite h.macReceive)

theorem regsOk.frameBoundary {p} (h : regsOk s) : regsOk (s.frameBoundary p) := (h.lnPtBoundary.ite h).prBoundary
theorem execFrameBoundary_nextOk {p} (h : regsOk s) : nextOk (execFrameBoundary p s) := h.finishIf h.frameBoundary
theorem execPortDisable_nextOk {p} (h : regsOk s) : nextOk (execPortDisable p s) := h.finishIf h.frameBoundary
theorem execPortEnable_nextOk {p} (h : regsOk s) : nextOk (execPortEnable p s) := h.finishIf h.frameBoundary

theorem regsOk.serve {p at'} (h : regsOk s) : regsOk (s.serve p at').2 := by
  unfold State.serve
  extract_lets _ _ _ _ _
  split
  · exact h
  · split
    · exact h
    · split
      · exact h
      · split
        · exact h.dwrr
        · exact h

theorem regsOk.startFrame {p q id since lead cut} (h : regsOk s) : regsOk (s.startFrame p q id since lead cut).2 := by
  unfold State.startFrame
  extract_lets _ _
  split
  · exact h.discard
  · extract_lets s₁ _
    have h₁ : regsOk s₁ := h.draw.ite h
    split
    next _ _ _ e =>
      extract_lets s₂ _ s₃ _ s₄ s₅ _ _ _
      have h₂ : regsOk s₂ := (h₁.ptpEgress.of_eq e).charge.ite (h₁.ptpEgress.of_eq e)
      have h₃ : regsOk s₃ := h₂.dequeue.ite h₂.dequeue.countDelay
      have h₄ : regsOk s₄ := h₃.sample.txStamp.fplDeparts.ite h₃.sample.txStamp
      have h₅ : regsOk s₅ := h₄.traceOut.ite h₄
      exact h₅.macSend.unref.ite h₅.setPkt.same

theorem regsOk.serveFrom {p lead n} (h : regsOk s) : regsOk (s.serveFrom p lead n) := by
  induction n generalizing s with
  | zero => exact h
  | succ n ih =>
    unfold State.serveFrom
    extract_lets _
    split
    next e => exact (h.serve.of_eq e).pm
    next e =>
      have h₁ := h.serve.of_eq e
      split
      · exact h₁
      · split
        next e => exact h₁.startFrame.of_eq e
        next e => exact ih (h₁.startFrame.of_eq e)

theorem regsOk.flowSend {p f} (h : regsOk s) : regsOk (s.flowSend p f) := by
  unfold State.flowSend
  extract_lets _ _ _ s₁
  have h₁ : regsOk s₁ := h.emit.add64.pm.ite h
  split
  · exact h.emit.add64.pm
  · exact h.dropDisabled
  · exact h.add64.pfcTake.ite h.add64.pauseTake
  · exact h₁.ite (h₁.add64.pfcTake.ite h₁.add64.pauseTake)

theorem execFrameTransmit_nextOk {p lead sf ff} (h : regsOk s) : nextOk (execFrameTransmit p lead sf ff s) := by
  unfold Machine.execFrameTransmit
  extract_lets s₁ s₂ _
  have h₁ : regsOk s₁ := h.fold fun _ _ k => k.storeEcc
  have h₂ : regsOk s₂ := h₁.fold fun _ _ k => k.ftFault
  refine h.finishIf ?_
  split
  · exact h₂.same.flowSend
  · exact h₂.noFit.serveFrom.noFitAll

theorem execDlmRelease_nextOk {p lead absent} (h : regsOk s) : nextOk (execDlmRelease p lead absent s) := by
  unfold Machine.execDlmRelease
  refine h.whenUp ?_
  split
  · exact h.next
  · exact .ite h.setPkt.startFrame.noFitAll.finish h.setPkt.inc.raise.finish

theorem execSlotCrossing_nextOk {dbm ecc faults} (h : regsOk s) : nextOk (execSlotCrossing dbm ecc faults s) := by
  unfold Machine.execSlotCrossing
  extract_lets s₁ s₂ s₃ _ _
  have h₁ : regsOk s₁ := h.fold fun _ _ k => k.upperHall
  have h₂ : regsOk s₂ := h₁.fold fun _ _ k => k.lowerHall
  have h₃ : regsOk s₃ := h₂.fold fun _ _ k => k.storeEcc
  exact h.whenUp h₃.pm.same.noFitAll.finish

theorem execLandingTimeout_nextOk {src dst space} (h : regsOk s) : nextOk (execLandingTimeout src dst space s) := by
  unfold Machine.execLandingTimeout
  extract_lets _ _ ahead
  refine h.whenUp ?_
  unfold ahead
  split
  · exact h.next
  · exact (h.fold fun _ _ k => k.killPkt).raise.pm.same.releaseHeld.noFitAll.finish

theorem execAgeLimit_nextOk {q} (h : regsOk s) : nextOk (execAgeLimit q s) := by
  unfold Machine.execAgeLimit
  split
  · exact h.next
  · exact h.finishIf h.discard.noFitAll

/-! ### The operations of Machine/Gallery -/

theorem regsOk.galPut {f} (h : regsOk s) : regsOk (s.galPut f) := h.emit.emit

/-! ### The operations of Machine/TimeBase -/

theorem regsOk.suspectSet {cause} (h : regsOk s) : regsOk (s.suspectSet cause) := h.raise.raise.raise.same
theorem regsOk.suspectClear (h : regsOk s) : regsOk s.suspectClear := h.ite h.set.set.set.raise
theorem regsOk.suspectCheck (h : regsOk s) : regsOk s.suspectCheck := h.suspectClear.ite h
theorem regsOk.suspectClrWrite {v} (h : regsOk s) : regsOk (s.suspectClrWrite v) := h.suspectClear.ite h
theorem regsOk.incrNext {v} (h : regsOk s) : regsOk (s.incrNext v) := h.same
theorem regsOk.incrStage {v} (h : regsOk s) : regsOk (s.incrStage v) := h.same
theorem regsOk.incrCommit {m v} (h : regsOk s) : regsOk (s.incrCommit m v) := h.capture.raise.ite (h.raise.ite h.incrNext)
theorem regsOk.stepNext {d} (h : regsOk s) : regsOk (s.stepNext d) := h.same
theorem regsOk.stepGo {v} (h : regsOk s) : regsOk (s.stepGo v) := h.ite (h.raise.ite h.stepNext)

theorem regsOk.stepTick (h : regsOk s) : regsOk s.stepTick := by
  unfold State.stepTick
  extract_lets _ _ _
  split
  · exact h
  · exact h.same.raise.ite h.same.addWrap.raise

theorem regsOk.snapWrite {m} (h : regsOk s) : regsOk (s.snapWrite m) := by
  unfold State.snapWrite
  extract_lets _
  split
  · exact h.same
  · exact h

theorem regsOk.snap {k} (h : regsOk s) : regsOk (s.snap k) := h.set.set.set.set.setB

theorem regsOk.incrTick (h : regsOk s) : regsOk s.incrTick := by
  unfold State.incrTick
  extract_lets _ _
  split
  · exact h
  · exact h.same.wr.set

theorem regsOk.txtsPop {m p} (h : regsOk s) : regsOk (s.txtsPop m p) := by
  unfold State.txtsPop
  split
  · exact h
  · exact h.ite h.same.set.set.set.set

theorem regsOk.txtsOwnerChange {p} (h : regsOk s) : regsOk (s.txtsOwnerChange p) := h.same

/-! ### The operations of Machine/Role -/

theorem regsOk.galSend {b} (h : regsOk s) : regsOk (s.galSend b) := h.ite h.galPut
theorem regsOk.galDeltas {cycle l} (h : regsOk s) : regsOk (s.galDeltas cycle l) := (h.ite h.galPut).ite (h.ite h.galPut).galPut

theorem regsOk.galAgain {k} (h : regsOk s) : regsOk (s.galAgain k) := by
  unfold State.galAgain
  split
  · exact h.galDeltas
  · exact h

theorem regsOk.lacpNow {p} (h : regsOk s) : regsOk (s.lacpNow p) := by
  unfold State.lacpNow
  extract_lets _
  split
  · exact h
  · exact h.same.slowSend.ite h

theorem regsOk.lacpRole (h : regsOk s) : regsOk s.lacpRole := h.fold fun _ _ k => k.lacpNow.ite k
theorem regsOk.twEnter {st} (h : regsOk s) : regsOk (s.twEnter st) := h.ite h.set.raise.setB.ouRefreshAll
theorem regsOk.roleCount {cause} (h : regsOk s) : regsOk (s.roleCount cause) := h.same.addWrap.set.set.set.setB

theorem regsOk.takeModel {c} (h : regsOk s) : regsOk (s.takeModel c) := by
  unfold State.takeModel
  extract_lets _ _ g _
  split
  · exact h.setChan
  · unfold g
    split
    · exact h.setChan
    · split
      · exact h.setChan
      · split
        next _ _ s₁ e =>
          have h₁ : regsOk s₁ := by
            refine .of_eq ?_ e
            split
            · exact h.draw
            · exact h
          exact h₁.setChan

theorem regsOk.pxSeed (h : regsOk s) : regsOk s.pxSeed := by
  unfold State.pxSeed
  split
  · exact h
  · split
    · exact h
    · refine h.fold fun _ _ k => ?_
      extract_lets _
      split
      · split
        · exact k.same
        · exact k
      · exact k

theorem regsOk.takeRole {st cause} (h : regsOk s) : regsOk (s.takeRole st cause) := by
  unfold State.takeRole
  extract_lets s₁ s₂ s₃ _ _ _
  have h₁ : regsOk s₁ := h.twEnter.roleCount.raise
  have h₂ : regsOk s₂ := h₁.fold fun _ _ k => k.takeModel.setChan.ite k.setChan
  have h₃ : regsOk s₃ := h₂.refLoss.pxSeed.set.set
  exact h₃.same.lacpRole.mbAnswerWaiting

theorem regsOk.resyncBegin (h : regsOk s) : regsOk s.resyncBegin := (h.fold fun _ _ k => k.setEnt.ite k).raise.set
theorem regsOk.enterSyncing (h : regsOk s) : regsOk s.enterSyncing := h.twEnter.set.same.resyncBegin
theorem regsOk.enterFaulted {cause} (h : regsOk s) : regsOk (s.enterFaulted cause) := h.twEnter.set

theorem regsOk.giveRole {fault cause} (h : regsOk s) : regsOk (s.giveRole fault cause) := by
  unfold State.giveRole
  extract_lets s₁ s₂
  have h₁ : regsOk s₁ := by
    unfold s₁
    split
    · exact h.enterSyncing
    · exact h.enterFaulted
  have h₂ : regsOk s₂ := h₁.roleCount.raise.lacpRole
  exact h₂.mbAnswerWaiting

theorem regsOk.partnerTakes (h : regsOk s) : regsOk s.partnerTakes.2 := by
  unfold State.partnerTakes
  split
  · exact h
  · split
    · split
      · exact h
      · split
        next _ _ _ e =>
          exact h.draw.of_eq e
    · split
      · exact h
      · split
        next _ _ _ e =>
          exact h.draw.of_eq e

theorem regsOk.lanesIdle (h : regsOk s) : regsOk s.lanesIdle := h.fold fun _ _ k => (k.set.put.ite k.set).laneTx

theorem regsOk.twSelfFault (h : regsOk s) : regsOk s.twSelfFault := by
  unfold State.twSelfFault
  split
  · split
    next _ _ _ e =>
      exact (h.partnerTakes.of_eq e).galSend.giveRole.ite (h.partnerTakes.of_eq e).galSend.giveRole.lanesIdle
  · exact h

theorem regsOk.rootAction (h : regsOk s) : regsOk s.rootAction := h.same.lanesIdle.ite h.same.twSelfFault

/-! ### The operations of Machine/Tdc -/

theorem regsOk.setBins {t k b} (h : regsOk s) : regsOk (s.setBins t k b) := h.same
theorem regsOk.setLive {t b} (h : regsOk s) : regsOk (s.setLive t b) := h.setBins.setB.ite h.setBins

theorem regsOk.storeBins {t b} (h : regsOk s) : regsOk (s.storeBins t b) := by
  unfold State.storeBins
  extract_lets _
  split
  · exact h.setLive.setBins
  · exact h.setLive.setLive

theorem regsOk.tdcStart {t} (h : regsOk s) : regsOk (s.tdcStart t) := h.same.raise.raise.ite h.same.setChan.raise.raise.ouRefreshAll
theorem regsOk.tdcTry {t} (h : regsOk s) : regsOk (s.tdcTry t) := h.tdcStart.ite h

theorem regsOk.tdcFinish {t hits residual} (h : regsOk s) : regsOk (s.tdcFinish t hits residual) := by
  unfold State.tdcFinish
  extract_lets _ _ _ _ _ _ _ s₁ _ _ _ _ s₂
  have h₁ : regsOk s₁ := h.same.storeBins.ite h.same
  have h₂ : regsOk s₂ := by
    unfold s₂
    split
    · exact h₁.same.hlCauseEnds
    · split
      · exact h₁.same.hlLasting.raise.twSelfFault
      · split
        · split
          next _ _ _ e =>
            exact (h₁.same.hlTransient.of_eq e).ite (h₁.same.hlTransient.of_eq e).same.raise.twSelfFault
        · exact h₁.same
  exact h₂.mbAnswerWaiting

theorem regsOk.tdcBoundary (h : regsOk s) : regsOk s.tdcBoundary := h.same.fold fun _ _ k => k.setBins

theorem execEvCalEnd_nextOk {i hits residual} (h : regsOk s) : nextOk (execEvCalEnd i hits residual s) :=
  h.finishIf (h.same.set.set.set.set.raise.ite h.same.set.set.set.set.raise).tdcFinish

theorem execTdcCalEnd_nextOk {c hits residual} (h : regsOk s) : nextOk (execTdcCalEnd c hits residual s) :=
  h.finishIf h.set.set.tdcFinish.set.raise.setChan.setB.ouRefreshAll

theorem execTdcTableUpdate_nextOk (h : regsOk s) : nextOk (execTdcTableUpdate s) := by
  unfold Machine.execTdcTableUpdate
  refine h.whenUp (.finish (h.fold fun _ _ k => ?_))
  extract_lets _ _
  split
  · exact k.same.setLive.ite k.same
  · exact k.same

theorem execEvCalStartCmd_nextOk {n} (h : regsOk s) : nextOk (execEvCalStartCmd n s) := by
  unfold Machine.execEvCalStartCmd
  refine h.mbRow fun _ _ k => ?_
  extract_lets _
  split
  · exact .reject
  · split
    · exact .reject
    · exact .reject
    · exact .ite .reject (.ite .busy (.ite k.tdcStart.ok .reject))

theorem execEvGetCalTable_nextOk {n} (h : regsOk s) : nextOk (execEvGetCalTable n s) := by
  unfold Machine.execEvGetCalTable
  extract_lets _
  refine h.mbRow fun _ _ k => ?_
  extract_lets _ _
  split
  · exact .reject
  · split
    · exact .reject
    · exact .reject
    · split
      · exact .reject
      · split
        · split
          · exact .reject
          · exact k.ok
        · exact .ite k.ok k.ok

theorem execEvSetCalTable_nextOk {n} (h : regsOk s) : nextOk (execEvSetCalTable n s) := by
  unfold Machine.execEvSetCalTable
  refine h.mbRow fun _ _ k => ?_
  extract_lets _ _ _ _ _ _ _
  split
  · exact .reject
  · split
    · exact .reject
    · exact .reject
    · exact .ite .reject (.ite .busy (.ite .reject (k.setBins.ite k.same).ok))

/-! ### The operations of Machine/Hold -/

theorem regsOk.histStat {c} (h : regsOk s) : regsOk (s.histStat c) := h.setB.setB.set

/-! ### The operations of Machine/Tc -/

theorem regsOk.tbStatTc (h : regsOk s) : regsOk s.tbStatTc := h.set.set

theorem regsOk.tcEnter {c st} (h : regsOk s) : regsOk (s.tcEnter c st) := by
  unfold State.tcEnter
  extract_lets _ _ _ _ _ s₂ _ s₃
  have h₂ : regsOk s₂ := h.set.raise.setChan
  have h₃ : regsOk s₃ := h₂.setChan.ite h₂
  exact h.ite h₃.setB.ouRefreshAll.tbStatTc

theorem regsOk.tcRelease {c} (h : regsOk s) : regsOk (s.tcRelease c) := h.setChan.set.set.set

theorem regsOk.holdOrLost {c} (h : regsOk s) : regsOk (s.holdOrLost c) :=
  (h.ite h.setChan).histStat.tcRelease.setChan.set.tcEnter.ite (h.ite h.setChan).histStat.tcRelease.tcEnter

theorem regsOk.freerun {c} (h : regsOk s) : regsOk (s.freerun c) := h.tcRelease.tcEnter
theorem regsOk.switchTo {c n forced} (h : regsOk s) : regsOk (s.switchTo c n forced) := h.setChan.set.set.set.tcEnter.ite h.setChan.set.set.set
theorem regsOk.selectForced {c r} (h : regsOk s) : regsOk (s.selectForced c r) := (h.ite h.switchTo).ite (h.holdOrLost.ite h)

theorem regsOk.selectBest {c} (h : regsOk s) : regsOk (s.selectBest c) := by
  unfold State.selectBest
  extract_lets _
  split
  · exact h.holdOrLost.ite h
  · exact h.switchTo.ite (h.switchTo.ite h)

theorem regsOk.select {c} (h : regsOk s) : regsOk (s.select c) := by
  unfold State.select
  split
  · exact h.selectForced
  · split
    · exact h.selectForced
    · exact h.holdOrLost.ite h
    · exact h.ite h.freerun
    · exact h.selectBest

theorem regsOk.switchUpdate {c w} (h : regsOk s) : regsOk (s.switchUpdate c w) := h.tcRelease.select.ite h.setChan

theorem regsOk.rampStat {c} (h : regsOk s) : regsOk (s.rampStat c) := by
  unfold State.rampStat
  split
  · exact h.wr
  · exact h.wr.ite h.set.set.set.set

theorem regsOk.rampEnd {c} (h : regsOk s) : regsOk (s.rampEnd c) := h.setChan.rampStat.raise.ouRefreshAll.ite h.setChan.rampStat

theorem regsOk.rampUpdate {c} (h : regsOk s) : regsOk (s.rampUpdate c) := by
  unfold State.rampUpdate
  extract_lets _
  split
  · exact h
  · exact h.rampEnd.ite (h.ite (h.setChan.raise.ite h.setChan).rampStat)

theorem regsOk.putSteer {c y fine keep} (h : regsOk s) : regsOk (s.putSteer c y fine keep) := h.setChan.set
theorem regsOk.loopSteer {c} (h : regsOk s) : regsOk (s.loopSteer c) := h.same.putSteer.setChan
theorem regsOk.sameSteer {c} (h : regsOk s) : regsOk (s.sameSteer c) := h.putSteer
theorem regsOk.ownSteer {c y} (h : regsOk s) : regsOk (s.ownSteer c y) := h.same.putSteer

theorem regsOk.steer {c} (h : regsOk s) : regsOk (s.steer c) := by
  unfold State.steer
  extract_lets _
  split
  · exact h.ite h.putSteer
  · split
    · exact h.sameSteer
    · split
      · exact h.ownSteer
      · exact h.loopSteer
      · exact h.loopSteer
      · exact h.ownSteer
      · exact h.sameSteer

theorem regsOk.tbSteer {c} (h : regsOk s) : regsOk (s.tbSteer c) := h.ite (h.setChan.ite h.setChan.raise).incrNext
theorem regsOk.phaseIs {c x} (h : regsOk s) : regsOk (s.phaseIs c x) := h.set

theorem regsOk.timeSample {c} (h : regsOk s) : regsOk (s.timeSample c) := by
  unfold State.timeSample
  split
  · exact h.phaseIs
  · exact h

theorem regsOk.lockCheck {c} (h : regsOk s) : regsOk (s.lockCheck c) :=
  h.ite ((h.set.ite h).ite ((h.set.ite h).setChan.tcEnter.ite (h.set.ite h).setChan))

theorem regsOk.addToSecond {c} (h : regsOk s) : regsOk (s.addToSecond c) := h.setChan

theorem regsOk.selectUpdate {c} (h : regsOk s) : regsOk (s.selectUpdate c) := by
  unfold State.selectUpdate
  split
  · exact h.switchUpdate
  · exact h.select

theorem regsOk.steerUpdate {c} (h : regsOk s) : regsOk (s.steerUpdate c) :=
  h.setB.steer.addToSecond.set.set.tbSteer.ite h.setB.steer.addToSecond.set.set

theorem regsOk.chanUpdate {c phase} (h : regsOk s) : regsOk (s.chanUpdate c phase) := by
  unfold State.chanUpdate
  extract_lets s₁ s₂
  have h₁ : regsOk s₁ := by
    unfold s₁
    split
    · exact h.phaseIs
    · exact h
  have h₂ : regsOk s₂ := h₁.timeSample.lockCheck.selectUpdate.rampUpdate
  exact h.rampUpdate.ite (h₂.ite h₂.steerUpdate)

theorem regsOk.esmcPdu {event ql} (h : regsOk s) : regsOk (s.esmcPdu event ql).2 := by
  unfold State.esmcPdu
  extract_lets _
  split
  · split
    next _ _ _ e =>
      exact h.draw.of_eq e
  · exact h

theorem regsOk.esmcOut {p event} (h : regsOk s) : regsOk (s.esmcOut p event) := by
  unfold State.esmcOut
  split
  next _ _ _ e =>
    exact (h.esmcPdu.of_eq e).slowSend

theorem regsOk.esmcSend {event} (h : regsOk s) : regsOk (s.esmcSend event) := h.ite (h.fold fun _ _ k => k.esmcOut.ite k).same
theorem regsOk.esmcCheck (h : regsOk s) : regsOk s.esmcCheck := h.esmcSend.ite h
theorem regsOk.txOnRoot {update} (h : regsOk s) : regsOk (s.txOnRoot update) := h.set.ite (h.set.ite h)

theorem execLoopUpdate_nextOk {errs} (h : regsOk s) : nextOk (execLoopUpdate errs s) :=
  h.whenUp (h.fold fun _ _ k => k.chanUpdate).same.txOnRoot.tbStatTc.esmcCheck.finish

theorem regsOk.absorb {c ofs} (h : regsOk s) : regsOk (s.absorb c ofs) := h.setB.ite h.setChan.set

theorem execSwitchComplete_nextOk {c ofs} (h : regsOk s) : nextOk (execSwitchComplete c ofs s) :=
  h.finishIf h.set.raise.inc.setChan.set.absorb.select.steerUpdate.tbStatTc.esmcCheck

theorem regsOk.place325 {c} (h : regsOk s) : regsOk (s.place325 c) := h.setChan.ite h
theorem execLockDeclared_nextOk {c} (h : regsOk s) : nextOk (execLockDeclared c s) := h.finishIf h.tcEnter.place325.esmcCheck
theorem execRefActivityLoss_nextOk {r} (h : regsOk s) : nextOk (execRefActivityLoss r s) := h.finishIf h.refLoss
theorem execRefActivityReturn_nextOk {r} (h : regsOk s) : nextOk (execRefActivityReturn r s) := h.finishIf h.refReturn

theorem regsOk.judge {c r d} (h : regsOk s) : regsOk (s.judge c r d) := by
  unfold State.judge
  extract_lets _ _ _ _ _ _ _ s₁
  have h₁ : regsOk s₁ := h.set.same.ite h.set.same
  exact h₁.setStatus.ite ((h₁.setStatus.ite h₁).ite ((h₁.setStatus.ite h₁).ite h₁))

theorem regsOk.monitor {c} (h : regsOk s) : regsOk (s.monitor c) := h.fold fun _ _ k => k.judge

theorem execRefMonitorUpdate_nextOk {freqs} (h : regsOk s) : nextOk (execRefMonitorUpdate freqs s) :=
  h.finishIf ((h.fold fun _ _ k => k.set.set.ite k).fold fun _ _ k => k.ite k.monitor)

theorem regsOk.qualified {c r} (h : regsOk s) : regsOk (s.qualified c r) := h.same
theorem execQualifyingComplete_nextOk {c r} (h : regsOk s) : nextOk (execQualifyingComplete c r s) := h.finishIf h.setStatus.qualified
theorem execDegradedRecovery_nextOk {c r} (h : regsOk s) : nextOk (execDegradedRecovery c r s) := h.finishIf h.setStatus
theorem execWtrExpiry_nextOk {c r} (h : regsOk s) : nextOk (execWtrExpiry c r s) := h.finishIf h.setStatus
theorem execHoldoverRecord_nextOk {c} (h : regsOk s) : nextOk (execHoldoverRecord c s) := h.finishIf h.setChan.setChan.histStat
theorem execHoldoverRefit_nextOk {c} (h : regsOk s) : nextOk (execHoldoverRefit c s) := h.finishIf h.setChan

theorem execHoldoverTeUpdate_nextOk {c} (h : regsOk s) : nextOk (execHoldoverTeUpdate c s) :=
  h.finishIf (h.setChan.set.set.tcEnter.raise.esmcCheck.ite h.setChan.set.set)

theorem regsOk.tcResetStart {c} (h : regsOk s) : regsOk (s.tcResetStart c) :=
  h.ite (h.setChan.tcRelease.set.set.fold fun _ _ k => k.refRestart).setChan.ouRefreshAll

theorem execTcResetEnd_nextOk {c} (h : regsOk s) : nextOk (execTcResetEnd c s) := by
  unfold Machine.execTcResetEnd
  extract_lets _ _ _ _ _ s₁
  have h₁ : regsOk s₁ := h.setChan.set.freerun.ite (h.setChan.set.setChan.ite h.setChan.set.holdOrLost)
  exact h.finishIf h₁.setB.ouRefreshAll.tbStatTc.esmcCheck

theorem regsOk.dcoMove {c} (h : regsOk s) : regsOk (s.dcoMove c) := h.setChan.ouRefreshAll

theorem execDcoAtFrequency_nextOk {c} (h : regsOk s) : nextOk (execDcoAtFrequency c s) := by
  unfold Machine.execDcoAtFrequency
  extract_lets _ s₁
  have h₁ : regsOk s₁ := by
    unfold s₁
    split
    · exact h.set
    · exact h.same.set.raise
  refine h.finishIf ?_
  split
  next _ _ _ e =>
    extract_lets s₂ _ _ _ s₃
    have h₂ : regsOk s₂ := (h₁.draw.of_eq e).set
    have h₃ : regsOk s₃ := h₂.setChan.ite (h₂.setChan.tcEnter.ite h₂.setChan.freerun)
    exact h₃.ouRefreshAll.esmcCheck

theorem regsOk.rampSegment {c r i} (h : regsOk s) : regsOk (s.rampSegment c r i) := h.setChan.rampStat.ite (h.rampEnd.ite h.setChan.rampStat)

theorem execRampStart_nextOk {c} (h : regsOk s) : nextOk (execRampStart c s) := by
  unfold Machine.execRampStart
  extract_lets _
  split
  · exact h.next
  · exact h.finishIf h.setChan.rampSegment.ouRefreshAll

theorem execRampSegmentEnd_nextOk {c} (h : regsOk s) : nextOk (execRampSegmentEnd c s) := by
  unfold Machine.execRampSegmentEnd
  split
  · exact h.next
  · exact h.finishIf h.rampSegment

theorem regsOk.rampStop {v} (h : regsOk s) : regsOk (s.rampStop v) := h.fold fun _ _ k => k.setChan.ite k

theorem regsOk.chanBoundary {c} (h : regsOk s) : regsOk (s.chanBoundary c) := by
  unfold State.chanBoundary
  split
  · exact h
  · split
    next _ _ _ e =>
      extract_lets _ _ _ _ _ s₁ _ s₂ s₃ _ _
      have h₁ : regsOk s₁ := (h.takePend.of_eq e).fold fun _ _ k => k.wr
      have h₂ : regsOk s₂ := h₁.setChan.ite h₁
      have h₃ : regsOk s₃ := h₂.raise.ite h₂
      exact (h.takePend.of_eq e).ite ((h₃.setChan.freerun.ouRefreshAll.ite h₃).ite (h₃.dcoMove.ite h₃))

theorem regsOk.tcCommonBoundary (h : regsOk s) : regsOk s.tcCommonBoundary := by
  unfold State.tcCommonBoundary
  split
  next _ _ _ e =>
    extract_lets _ _ _ s₁ s₂ s₃ s₄ _ s₅
    have h₁ : regsOk s₁ := (h.takePend.of_eq e).fold fun _ _ k => k.wr
    have h₂ : regsOk s₂ := h₁.set.raise.ite h₁
    have h₃ : regsOk s₃ := h₂.set.raise.ite h₂
    have h₄ : regsOk s₄ := h₃.fold fun _ _ k => k.ite (k.refLoss.ite (k.fold fun _ _ k' => k'.refRestart))
    have h₅ : regsOk s₅ := h₄.ite h₄.setChan
    exact (h.takePend.of_eq e).ite h₅.tbStatTc

theorem regsOk.tcBoundary (h : regsOk s) : regsOk s.tcBoundary :=
  (h.fold fun _ _ k => k.chanBoundary).tcCommonBoundary.tdcBoundary.txOnRoot.suspectCheck

theorem regsOk.ptpOfsLo {v} (h : regsOk s) : regsOk (s.ptpOfsLo v) := h.same
theorem regsOk.ptpOfsHi {v since} (h : regsOk s) : regsOk (s.ptpOfsHi v since) := h.ite h.same

/-! ### The operations of Machine/Px -/

theorem regsOk.fplSend {l m n} (h : regsOk s) : regsOk (s.fplSend l m n).2 := by
  unfold State.fplSend
  extract_lets _ s₁ _
  have h₁ : regsOk s₁ := h.injectAs
  clear_value s₁
  dsimp only
  exact h₁.setLink.ite h₁

theorem regsOk.fplLog {l} (h : regsOk s) : regsOk (s.fplLog l).2 := by
  unfold State.fplLog
  split
  · split
    · exact h
    · exact h.draw
  · exact h

theorem regsOk.fplOther {l kind tlvs} (h : regsOk s) : regsOk (s.fplOther l kind tlvs) := by
  unfold State.fplOther
  split
  next _ _ _ e =>
    exact (h.fplLog.of_eq e).setLink.fplSend

theorem regsOk.fplBad {l} (h : regsOk s) : regsOk (s.fplBad l) := h.inc.pxCause
theorem regsOk.farFlags {l m} (h : regsOk s) : regsOk (s.farFlags l m) := h.setLink.setB.setB

theorem regsOk.farInWait {l m} (h : regsOk s) : regsOk (s.farInWait l m) := by
  unfold State.farInWait
  extract_lets _
  split
  · exact h
  · split
    · exact h
    · exact (h.ite h.raise.pxCause).ite (h.ite h.set.set.set.farFlags.linkEnter)

theorem regsOk.farMessage {l m} (h : regsOk s) : regsOk (s.farMessage l m).2 := by
  unfold State.farMessage
  extract_lets _
  split
  · exact h.farInWait
  · split
    · exact h.farFlags
    · exact h.linkWait

theorem regsOk.fplTake {l kind b f} (h : regsOk s) (hf : ∀ m u, regsOk u → regsOk (f m u)) : regsOk (s.fplTake l kind b f) := by
  unfold State.fplTake
  split
  · exact h.fplBad
  · exact (hf _ _ h).ite h

theorem execFplHelloSend_nextOk {p} (h : regsOk s) : nextOk (execFplHelloSend p s) := h.finishIf h.fplOther
theorem execFplHelloReceive_nextOk {p b} (h : regsOk s) : nextOk (execFplHelloReceive p b s) := h.finishIf (h.fplTake fun _ _ k => k.farMessage)
theorem execFplByeReceive_nextOk {p b} (h : regsOk s) : nextOk (execFplByeReceive p b s) := h.finishIf (h.fplTake fun _ _ k => k.linkWait)
theorem regsOk.fineCount {l ok} (h : regsOk s) : regsOk (s.fineCount l ok) := h.setLink.linkEnter.ite (h.setLink.linkEnter.ite h.setLink)

theorem execAsymPairWindow_nextOk {x y} (h : regsOk s) : nextOk (execAsymPairWindow x y s) :=
  h.finishIf h.setLink.same.set.pxCause.setLink.same.set.pxCause

theorem regsOk.linkResult {l e t3 x p suspect} (h : regsOk s) : regsOk (s.linkResult l e t3 x p suspect).2 :=
  (h.add.inc.inc.ite h.add.inc).setLink.fineCount

theorem regsOk.linkDiscard {l f} (h : regsOk s) : regsOk (s.linkDiscard l f) := h.inc.pxCause

theorem regsOk.linkCompute {l m x} (h : regsOk s) : regsOk (s.linkCompute l m x).2 := by
  unfold State.linkCompute
  extract_lets _ s₁
  have h₁ : regsOk s₁ := h.linkDiscard.ite h
  split
  · split
    · exact h
    · split
      · exact h.linkDiscard
      · split
        · exact h.linkDiscard
        · exact h₁.linkResult
  · exact h

theorem regsOk.drawBytes {n} (h : regsOk s) : regsOk (s.drawBytes n).2 := h.parts (State.drawBytes_parts s n)
theorem execFplPingSend_nextOk {p cycle} (h : regsOk s) : nextOk (execFplPingSend p cycle s) := h.finishIf (h.injectAs.setLink.ite h.injectAs).setLink

theorem regsOk.pong {l m t2} (h : regsOk s) : regsOk (s.pong l m t2) := by
  unfold State.pong
  extract_lets x d _
  split
  next _ _ s₁ e =>
    have h₁ : regsOk s₁ := by
      refine .of_eq ?_ e
      clear_value x
      split
      · exact h.linkCompute
      · exact h
    split
    next _ _ s₂ e =>
      have h₂ : regsOk s₂ := by
        refine .of_eq ?_ e
        clear_value d
        split
        · exact h₁
        · exact h₁.drawBytes
      exact h₂.addExch.fplSend

theorem execFplPingReceive_nextOk {p b t2 frac} (h : regsOk s) : nextOk (execFplPingReceive p b t2 frac s) := by
  unfold Machine.execFplPingReceive
  refine h.finishIf (h.fplTake fun _ _ k => ?_)
  split
  next _ _ _ e =>
    exact (k.farMessage.of_eq e).setLink.pong.ite (k.farMessage.of_eq e)

theorem regsOk.pongTaken {l m t4} (h : regsOk s) : regsOk (s.pongTaken l m t4) := by
  unfold State.pongTaken
  extract_lets _ _ _
  split
  · extract_lets _ _ _ _ s₁ _ _
    have h₁ : regsOk s₁ := h.setLink.inc.inc.ite h.setLink.inc
    exact h.setLink.linkDiscard.ite (h.setLink.linkDiscard.ite h₁.setLink.fineCount)
  · exact h.setLink

theorem execFplPongReceive_nextOk {p b t4} (h : regsOk s) : nextOk (execFplPongReceive p b t4 s) := by
  unfold Machine.execFplPongReceive
  refine h.finishIf (h.fplTake fun _ _ k => ?_)
  split
  next _ _ _ e =>
    exact (k.farMessage.of_eq e).pongTaken.ite (k.farMessage.of_eq e)

theorem execFplExchangeMiss_nextOk {p} (h : regsOk s) : nextOk (execFplExchangeMiss p s) := by
  unfold Machine.execFplExchangeMiss
  extract_lets _ _ _ s₁ _
  have h₁ : regsOk s₁ := h.inc.pxCause.setLink
  refine h.finishIf ?_
  split
  · exact h₁.linkWait.hlLasting
  · split
    next _ _ _ e =>
      exact (h.inc.pxCause.setLink.hlTransient.of_eq e).linkWait.ite (h.inc.pxCause.setLink.hlTransient.of_eq e)

theorem regsOk.syntonise {l chi} (h : regsOk s) : regsOk (s.syntonise l chi) := by
  unfold State.syntonise
  extract_lets _
  split
  · exact h.setLink.set.set.ite (h.setLink.set.raise.ite h.setLink.set)
  · exact h.setLink.set
  · exact h.setLink

theorem regsOk.publishPhases {l cycle v} (h : regsOk s) : regsOk (s.publishPhases l cycle v) := by
  unfold State.publishPhases
  extract_lets _ ph s₁ _ _
  have h₁ : regsOk s₁ := by
    unfold s₁ ph
    split
    · exact h.set.set.set.set
    · exact h.set.set
  exact h₁.setLink.syntonise

theorem regsOk.publishResult {l} (h : regsOk s) : regsOk (s.publishResult l) := by
  unfold State.publishResult
  extract_lets _ _
  split
  · exact h
  · exact h.setLink.ite (h.setLink.set.wr64.wr64.wr64.set.same.ite h.setLink.set.wr64.wr64.wr64.set)

theorem regsOk.pxPublish {cycle v l} (h : regsOk s) : regsOk (s.pxPublish cycle v l) := h.ite h.publishPhases.publishResult
theorem execPxPublish_nextOk {v} (h : regsOk s) : nextOk (execPxPublish v s) := h.whenUp (h.fold fun _ _ k => k.pxPublish).finish
theorem regsOk.leaseRenew (h : regsOk s) : regsOk s.leaseRenew := h.raise.pxRef
theorem execLeaseExpiry_nextOk (h : regsOk s) : nextOk (execLeaseExpiry s) := h.finishIf h.set.raise.pxRef
theorem execFplCalibrationStart_nextOk {p} (h : regsOk s) : nextOk (execFplCalibrationStart p s) := h.finishIf h.linkEnter

theorem execFplCalibrationEnd_nextOk {p lTx lRx residual} (h : regsOk s) : nextOk (execFplCalibrationEnd p lTx lRx residual s) :=
  h.finishIf h.set.set.set.set.raise.set.pxCause.linkEnter.mbAnswerWaiting

theorem regsOk.linkRole {l} (h : regsOk s) : regsOk (s.linkRole l) := h.ite (h.setLink.setB.set.linkWait.ite h.setLink.setB.set).pxRef

theorem regsOk.linkChange {l now} (h : regsOk s) : regsOk (s.linkChange l now) := by
  unfold State.linkChange
  extract_lets _ _ _ s₁ s₂ s₃
  have h₁ : regsOk s₁ := h.fold fun _ _ k => k.wr
  have h₂ : regsOk s₂ := (h₁.pairRestart.ite h₁.set).ite h₁
  have h₃ : regsOk s₃ := h₂.linkWait.ite h₂
  exact h₃.linkRole

theorem regsOk.linkBoundary {l} (h : regsOk s) : regsOk (s.linkBoundary l) := by
  unfold State.linkBoundary
  split
  next _ _ _ e =>
    extract_lets s₁ s₂ _ _
    have h₁ : regsOk s₁ := (h.takePend.of_eq e).ite (h.takePend.of_eq e).linkChange
    have h₂ : regsOk s₂ := h₁.ite h₁.fplOther
    exact ((h.takePend.of_eq e).fold fun _ _ k => k.wr).ite (h₂.setLink.linkEnter.ite (h₁.linkEnter.ite h₁))

theorem regsOk.pxBoundary (h : regsOk s) : regsOk s.pxBoundary := (h.fold fun _ _ k => k.linkBoundary).applyPend.set.pxRef

theorem execPxLinkEnable_nextOk {n} (h : regsOk s) : nextOk (execPxLinkEnable n s) := by
  unfold Machine.execPxLinkEnable
  refine h.mbRow fun _ _ k => ?_
  extract_lets _ _ _ s₁
  have h₁ : regsOk s₁ := k.put.put.put.put
  split
  · exact .reject
  · split
    · exact .reject
    · exact .ite .reject (.ite .reject (.ite .reject h₁.put.ok))

theorem execPxCalibrate_nextOk {n} (h : regsOk s) : nextOk (execPxCalibrate n s) := by
  unfold Machine.execPxCalibrate
  refine h.mbRow fun _ _ k => ?_
  extract_lets _
  split
  · exact .reject
  · split
    · exact .reject
    · exact .ite .reject (.ite .reject (.ite k.linkEnter.later .reject))

theorem execPxGetLink_nextOk {n} (h : regsOk s) : nextOk (execPxGetLink n s) := by
  unfold Machine.execPxGetLink
  refine h.mbRow fun _ _ k => ?_
  extract_lets _ _
  split
  · exact .reject
  · split
    · exact .reject
    · exact .ite .reject k.ok

theorem execPxSetAsym_nextOk {n} (h : regsOk s) : nextOk (execPxSetAsym n s) := by
  unfold Machine.execPxSetAsym
  refine h.mbRow fun _ _ k => ?_
  extract_lets _ _ _ _ _ _ _ _ _
  split
  · exact .reject
  · split
    · exact .reject
    · split
      · exact .reject
      · split
        · exact k.put.ok
        · split
          · exact k.putW.put.ok
          · split
            · exact .reject
            · exact .ite .reject (.ite .reject k.putW.putW.putW.put.putW.putW.putW.put.ok)

/-! ### The operations of Machine/Mp -/

theorem regsOk.lacpCatchUp (h : regsOk s) : regsOk s.lacpCatchUp := h.fold fun _ _ k => k.lacpNow.ite k
theorem regsOk.mpRestart {cause} (h : regsOk s) : regsOk (s.mpRestart cause) := h.ite (h.inc.set.set.same.lacpCatchUp.ite h.inc.set.set.same)
theorem execMpHang_nextOk (h : regsOk s) : nextOk (execMpHang s) := h.finishIf h.same
theorem regsOk.wdogRestart (h : regsOk s) : regsOk s.wdogRestart := (h.hlLasting.same.hlHold.twSelfFault.ite h.hlLasting.same).mpRestart
theorem execMpWatchdogExpiry_nextOk (h : regsOk s) : nextOk (execMpWatchdogExpiry s) := h.finishIf h.wdogRestart

/-! ### The operations of Machine/Fu -/

theorem regsOk.flashFault (h : regsOk s) : regsOk s.flashFault := h.hlLasting.raise

theorem regsOk.writePtr {flash r} (h : regsOk s) : regsOk (s.writePtr flash r) := by
  unfold State.writePtr
  extract_lets _ _ _ s₁
  have h₁ : regsOk s₁ := by
    unfold s₁
    split
    · exact h.same
    · exact h.same
  exact h₁.ite h₁.flashFault

theorem regsOk.erasePtr (h : regsOk s) : regsOk s.erasePtr := by
  unfold State.erasePtr
  extract_lets _
  split
  · exact h.same
  · exact h.same

theorem regsOk.fuSlots (h : regsOk s) : regsOk s.fuSlots := h.set.setB.set.setB.set.setB
theorem regsOk.fuRegs (h : regsOk s) : regsOk s.fuRegs := h.setB.set.setB.set.set.fuSlots.set
theorem regsOk.fuState {st} (h : regsOk s) : regsOk (s.fuState st) := h.same.set
theorem regsOk.stagingClear (h : regsOk s) : regsOk s.stagingClear := h.same
theorem regsOk.fuIdle {result} (h : regsOk s) : regsOk (s.fuIdle result) := h.stagingClear.fuState.set

theorem execFuBegin_nextOk {n} (h : regsOk s) : nextOk (execFuBegin n s) := by
  unfold Machine.execFuBegin
  refine h.mbRow fun _ _ k => ?_
  extract_lets _ _ _ _
  split
  · exact .reject
  · split
    · exact .reject
    · split
      · exact .reject
      · exact .ite .busy k.same.fuState.ok

theorem regsOk.setBlock {i b} (h : regsOk s) : regsOk (s.setBlock i b) := h.same

theorem execFuBlock_nextOk {n} (h : regsOk s) : nextOk (execFuBlock n s) :=
  h.mbRow fun _ _ k => .ite .reject (.ite .reject (.ite .reject (.ite .reject (.ite .busy k.setBlock.later))))

theorem execBlockProgramEnd_nextOk {n ok} (h : regsOk s) : nextOk (execBlockProgramEnd n ok s) := by
  unfold Machine.execBlockProgramEnd
  split
  · exact h.next
  · exact h.finishIf (h.setBlock.mbAnswer.ite h.flashFault.mbReject)

theorem regsOk.setSlot {k x} (h : regsOk s) : regsOk (s.setSlot k x) := h.same
theorem regsOk.eraseHeader (h : regsOk s) : regsOk s.eraseHeader := h.setSlot.fuSlots.set

theorem execFuVerify_nextOk {n} (h : regsOk s) : nextOk (execFuVerify n s) := by
  unfold Machine.execFuVerify
  exact h.mbRow fun _ _ k => .ite .reject (.ite k.ok (.ite .reject (.ite .reject (.ite .busy k.eraseHeader.fuState.set.ok))))

theorem regsOk.verifyFails {result} (h : regsOk s) : regsOk (s.verifyFails result) := h.fuState.raise.set

theorem execFuVerifyComplete_nextOk {flash} (h : regsOk s) : nextOk (execFuVerifyComplete flash s) := by
  unfold Machine.execFuVerifyComplete
  refine h.finishIf ?_
  split
  · exact h.verifyFails
  · extract_lets image
    unfold image
    split
    · exact h.verifyFails
    · exact h.flashFault.verifyFails.ite h.setSlot.fuState.set.fuRegs.raise

theorem execFuActivate_nextOk {n flash} (h : regsOk s) : nextOk (execFuActivate n flash s) := by
  unfold Machine.execFuActivate
  exact h.mbRow fun _ _ k => .ite .reject (.ite .reject (.ite .reject
    (.ite (.ite .reject (.ite .reject k.same.erasePtr.leaseRenew.set.later)) (.ite k.writePtr.failed k.writePtr.same.raise.set.ok))))

theorem regsOk.handoverCommit {window} (h : regsOk s) : regsOk (s.handoverCommit window) := by
  unfold State.handoverCommit
  extract_lets old _ s₁ _ _ _ _ s₂
  have h₁ : regsOk s₁ := by
    unfold s₁ old
    split
    · exact h.ite h.writeRecord
    · exact h
  have h₂ : regsOk s₂ := h₁.writePtr.same.fuState.fuRegs.raise
  exact h₂.mbAnswerWaiting

theorem regsOk.handoverReturn {result reason} (h : regsOk s) : regsOk (s.handoverReturn result reason) := by
  unfold State.handoverReturn
  split
  next e =>
    extract_lets _ _ _ s₁
    have h₁ : regsOk s₁ := (h.draw.of_eq e).same.fuState.set.hlLog
    exact h₁.mbAnswerWaiting

theorem execHandoverPauseEnd_nextOk {migrate flash} (h : regsOk s) : nextOk (execHandoverPauseEnd migrate flash s) := by
  unfold Machine.execHandoverPauseEnd
  split
  · exact h.next
  · exact h.finishIf (h.handoverReturn.ite (h.flashFault.handoverReturn.ite h.handoverCommit))

theorem regsOk.otpBurn {burn} (h : regsOk s) : regsOk (s.otpBurn burn) := (h.same.set.ite h.raise.raise).ite h.set

theorem execFuConfirm_nextOk {n flash burn} (h : regsOk s) : nextOk (execFuConfirm n flash burn s) := by
  unfold Machine.execFuConfirm
  extract_lets _
  refine h.mbRow fun _ _ k => ?_
  split
  · exact .reject
  · split
    · split
      · exact .reject
      · exact .ite k.writePtr.failed k.writePtr.otpBurn.fuIdle.fuRegs.raise.same.ok
    · exact .ite k.ok .reject

theorem execFuStatus_nextOk {n} (h : regsOk s) : nextOk (execFuStatus n s) := h.mbRow fun _ _ k => .ite .reject k.ok

theorem execFuAbort_nextOk {n} (h : regsOk s) : nextOk (execFuAbort n s) := by
  unfold Machine.execFuAbort
  refine h.mbRow fun _ _ k => ?_
  extract_lets _
  split
  · exact .reject
  · split
    · exact .reject
    · split
      · exact k.ok
      · exact k.same.ok
      · exact .ite .busy k.fuIdle.set.ok

theorem regsOk.revert {flash result} (h : regsOk s) : regsOk (s.revert flash result) := by
  unfold State.revert
  extract_lets _ _
  split
  · exact h.same
  · exact h.same.writePtr.fuIdle.raise.mpRestart.ite h.same.writePtr

theorem execTrialWindowExpiry_nextOk {flash} (h : regsOk s) : nextOk (execTrialWindowExpiry flash s) := h.finishIf h.revert
theorem execAbortRevert_nextOk {flash} (h : regsOk s) : nextOk (execAbortRevert flash s) := h.finishIf h.revert

/-! ### The operations of Machine/Grammar -/

theorem regsOk.factoryGrammar (h : regsOk s) : regsOk s.factoryGrammar := h.wrs.wrs.same.wrs.wrs.fold fun _ _ k => k.put

/-! ### The operations of Machine/Dma -/

theorem regsOk.ringIdle {k} (h : regsOk s) : regsOk (s.ringIdle k) := h.setB
theorem regsOk.ringNext {k} (h : regsOk s) : regsOk (s.ringNext k) := h.set.ringIdle
theorem regsOk.ringStop {k} (h : regsOk s) : regsOk (s.ringStop k) := h.set.set
theorem regsOk.descWrite {addr i ws} (h : regsOk s) : regsOk (s.descWrite addr i ws) := h.emit
theorem regsOk.ftRelease {r} (h : regsOk s) : regsOk (s.ftRelease r) := h.same.set.runSide
theorem regsOk.forgetLapsed {r t own} (h : regsOk s) : regsOk (s.forgetLapsed r t own) := h.same
theorem regsOk.ftForget {r} (h : regsOk s) : regsOk (s.ftForget r) := h.ftRelease.same
theorem regsOk.ftRingFail {r} (h : regsOk s) : regsOk (s.ftRingFail r) := h.ringStop.ftForget.setBit
theorem regsOk.ftRingHalt {r} (h : regsOk s) : regsOk (s.ftRingHalt r) := h.set.ftForget

theorem regsOk.ftLock {r t slots} (h : regsOk s) : regsOk (s.ftLock r t slots).2 := by
  unfold State.ftLock
  extract_lets _
  split
  · exact h
  · split
    · exact h
    · exact h.same.forgetLapsed.set

theorem regsOk.ftStopped {r t own st} (h : regsOk s) : regsOk (s.ftStopped r t own st) := h.forgetLapsed.ite h
theorem regsOk.only {st w} (h : regsOk s) : regsOk (Done.only st w s).s := h
theorem regsOk.ftNop {w} (h : regsOk s) : regsOk (ftNop w s).s := h.only

theorem regsOk.ftRead {was : State} {r during w} (h : regsOk s) : regsOk (ftRead r during was w s).s := by
  unfold Machine.ftRead
  extract_lets _ _ _ _
  split
  · exact h.only
  · split
    next _ _ s₁ e =>
      have h₁ : regsOk s₁ := by
        refine .of_eq ?_ e
        split
        · exact h.ftLock
        · exact h
      split
      · exact h₁.only
      · exact h₁.only

theorem regsOk.ftWriteDirect {r t i w} (h : regsOk s) : regsOk (ftWriteDirect r t i w s).s := by
  unfold Machine.ftWriteDirect
  split
  · exact h.only
  · split
    · exact h.ftStopped.only
    · extract_lets _
      split
      · exact (h.ftRelease.ite h).only
      · exact (h.setEnt.ftRelease.ite h.setEnt).only

theorem regsOk.ftWriteMac {r i w} (h : regsOk s) : regsOk (ftWriteMac r i w s).s := by
  unfold Machine.ftWriteMac
  extract_lets _ _ other _ _ s₁ _ _ s₂ s₃
  have h₁ : regsOk s₁ := by
    unfold s₁ other
    split
    · exact h.setEnt.moveNote
    · exact h
  have h₂ : regsOk s₂ := h₁.setEnt.delta.ite h₁.setEnt
  have h₃ : regsOk s₃ := h₂.delta.ite h₂
  split
  · exact h.ftStopped.only
  · extract_lets _
    split
    · exact (h.ftRelease.ite h).only
    · split
      · exact (h.ftRelease.ite h).only
      · exact (h₃.ftRelease.ite h₃).only

theorem regsOk.ftWrite {r w} (h : regsOk s) : regsOk (ftWrite r w s).s := by
  unfold Machine.ftWrite
  extract_lets _
  split
  · exact h.ftWriteMac
  · exact h.ftWriteDirect

theorem regsOk.ftLookup {was : State} {r w} (h : regsOk s) : regsOk (ftLookup r was w s).s := by
  unfold Machine.ftLookup
  extract_lets _
  split
  · exact h.only
  · split
    next _ _ s₁ e =>
      have h₁ : regsOk s₁ := by
        refine .of_eq ?_ e
        split
        · exact h.ftLock
        · exact h
      split
      · exact h₁.only
      · exact h₁.only

theorem regsOk.ftInsert {r w} (h : regsOk s) : regsOk (ftInsert r w s).s := by
  unfold Machine.ftInsert
  extract_lets _ _ _ _ _
  split
  · exact h.ftStopped.only
  · extract_lets s₁
    have h₁ : regsOk s₁ := h.same.ite h
    split
    next _ _ _ e =>
      extract_lets s₂ s₃
      have h₂ : regsOk s₂ := (h₁.macInsert.of_eq e).delta.ite (h₁.macInsert.of_eq e)
      have h₃ : regsOk s₃ := h₂.ftRelease.ite h₂
      clear_value s₃
      split <;> exact h₃.only

theorem regsOk.ftDelete {r w} (h : regsOk s) : regsOk (ftDelete r w s).s := by
  unfold Machine.ftDelete
  extract_lets _
  split
  · split
    · exact h.ftStopped.only
    · exact (h.ftRelease.ite h).only
  · extract_lets _
    split
    · exact h.ftStopped.only
    · exact (h.macRemove.ftRelease.ite h.macRemove).only

theorem regsOk.ftReadBucket {was : State} {r during w} (h : regsOk s) : regsOk (ftReadBucket r during was w s).s := by
  unfold Machine.ftReadBucket
  extract_lets _ _ _ _
  split
  next _ _ s₁ e =>
    have h₁ : regsOk s₁ := by
      refine .of_eq ?_ e
      split
      · exact h.ftLock
      · exact h
    split
    · exact h₁.only
    · exact h₁

theorem regsOk.ftFlush {w} (h : regsOk s) : regsOk (ftFlush w s).s := (h.fold fun _ _ k => k.macRemove).only

theorem regsOk.ftUnlock {r w} (h : regsOk s) : regsOk (ftUnlock r w s).s := by
  unfold Machine.ftUnlock
  extract_lets _
  split
  · exact h.ftRelease.only
  · exact h.same.only

theorem regsOk.ftExec {was : State} {w f} (h : regsOk s) (hf : ∀ u, regsOk u → regsOk (f u).s) :
    regsOk (ftExec was w s f).s := by
  unfold Machine.ftExec
  extract_lets _ s₁ _ _
  have h₁ : regsOk s₁.s := by
    unfold s₁
    split
    · exact h.only
    · split
      · exact h.only
      · exact hf _ h
  split
  · split
    next _ _ e =>
      exact h₁.epochAdvance.of_eq e
    next _ _ e =>
      exact h₁.epochAdvance.of_eq e
  · exact h₁

theorem regsOk.ftFails {r w} (h : regsOk s) : regsOk (ftFails s r w) := (h.epochAdvance.ite h).ftRingFail

theorem regsOk.dmaEnd {was : State} {r w d dma} (h : regsOk was) (hd : regsOk d.s) : regsOk (dmaEnd s was r w d dma) := by
  unfold Machine.dmaEnd
  extract_lets _ _ _ _ _ s₁ s₂ _ s₃ s₄
  have h₁ : regsOk s₁ := by
    unfold s₁
    split
    · exact hd.ite hd.emit
    · exact hd
  have h₂ : regsOk s₂ := h₁.ite h₁.descWrite
  have h₃ : regsOk s₃ := h₂.descWrite.ringNext.pm
  have h₄ : regsOk s₄ := h₃.setBit.ite h₃
  exact h.ftFails.ite (h₄.ftRingFail.ite h₄)

theorem regsOk.ftServe {r op d dma ff f} (h : regsOk s) (hf : ∀ was w u, regsOk u → regsOk (f was w u).s) :
    nextOk (s.ftServe r op d dma ff f) := by
  unfold State.ftServe
  extract_lets _ _ _ s₁
  have h₁ : regsOk s₁ := h.same.fold fun _ _ k => k.ftFault
  refine h.finishIf ?_
  split
  · exact h.same.ftRingFail
  · exact h₁.dmaEnd (h₁.ftExec fun _ k => hf _ _ _ k)

theorem execNop_nextOk {r d dma} (h : regsOk s) : nextOk (execNop r d dma s) := h.ftServe fun _ _ _ k => k.ftNop
theorem execRead_nextOk {r d dma ff} (h : regsOk s) : nextOk (execRead r d dma ff s) := h.ftServe fun _ _ _ k => k.ftRead
theorem execWrite_nextOk {r d dma ff} (h : regsOk s) : nextOk (execWrite r d dma ff s) := h.ftServe fun _ _ _ k => k.ftWrite
theorem execLookup_nextOk {r d dma ff} (h : regsOk s) : nextOk (execLookup r d dma ff s) := h.ftServe fun _ _ _ k => k.ftLookup
theorem execInsert_nextOk {r d dma ff} (h : regsOk s) : nextOk (execInsert r d dma ff s) := h.ftServe fun _ _ _ k => k.ftInsert
theorem execDelete_nextOk {r d dma ff} (h : regsOk s) : nextOk (execDelete r d dma ff s) := h.ftServe fun _ _ _ k => k.ftDelete
theorem execReadBucket_nextOk {r d dma ff} (h : regsOk s) : nextOk (execReadBucket r d dma ff s) := h.ftServe fun _ _ _ k => k.ftReadBucket
theorem execFlush_nextOk {r d dma ff} (h : regsOk s) : nextOk (execFlush r d dma ff s) := h.ftServe fun _ _ _ k => k.ftFlush
theorem execUnlock_nextOk {r d dma} (h : regsOk s) : nextOk (execUnlock r d dma s) := h.ftServe fun _ _ _ k => k.ftUnlock
theorem execBadOp_nextOk {r d dma} (h : regsOk s) : nextOk (execBadOp r d dma s) := h.ftServe fun _ _ _ k => k.only

theorem execFtLockExpiry_nextOk {r} (h : regsOk s) : nextOk (execFtLockExpiry r s) := by
  unfold Machine.execFtLockExpiry
  extract_lets _
  split
  · exact h.next
  · exact h.finishIf h.same.set.raise.runSide

/-! ### The operations of Machine/Cpu -/

theorem regsOk.hostServe (h : regsOk s) : regsOk s.hostServe.2 := h.dwrr
theorem regsOk.cpuDone {id q since} (h : regsOk s) : regsOk (s.cpuDone id q since) := h.dequeue.countDelay.unref

theorem regsOk.receive {c w dma} (h : regsOk s) : regsOk (s.receive c w dma) := by
  unfold State.receive
  extract_lets _ _ _
  split
  · exact h
  · exact h.ringStop.ite h.emit.descWrite.descWrite.descWrite.ringNext.setBit.charge.cpuDone

theorem execCpuQueueDescriptor_nextOk {c d dma} (h : regsOk s) : nextOk (execCpuQueueDescriptor c d dma s) := by
  unfold Machine.execCpuQueueDescriptor
  split
  next _ _ _ e =>
    refine h.finishIf ?_
    split
    · exact h.ringStop
    · exact (h.hostServe.of_eq e).receive

theorem regsOk.mpServe (h : regsOk s) : regsOk s.mpServe.2 := h.dwrr

theorem regsOk.mpNext {n} (h : regsOk s) : regsOk (s.mpNext n).2 := by
  induction n generalizing s with
  | zero => exact h
  | succ n ih =>
    unfold State.mpNext
    split
    next e => exact h.mpServe.of_eq e
    next e =>
      have h₁ := h.mpServe.of_eq e
      split
      · exact h₁
      · split
        · exact h₁
        · exact ih h₁.charge.dequeue.unref

theorem regsOk.mpHead (h : regsOk s) : regsOk s.mpHead.2 := h.mpNext

theorem regsOk.mpTakes (h : regsOk s) : regsOk s.mpTakes := by
  unfold State.mpTakes
  split
  next _ _ _ _ _ e =>
    exact (h.mpHead.of_eq e).charge.cpuDone.pm
  next _ _ e =>
    exact h.mpHead.of_eq e

theorem regsOk.mpTake {c kind f} (h : regsOk s) (hf : ∀ m u, regsOk u → regsOk (f m u)) : nextOk (s.mpTake c kind f) := by
  unfold State.mpTake
  split
  · exact h.finishIf (hf _ _ h.mpTakes)
  · exact h.finishIf h.mpTakes

theorem regsOk.transmit {w b dbm} (h : regsOk s) : regsOk (s.transmit w b dbm) := h.newPkt.same.ite h.inject.noFitAll
theorem regsOk.txFail {r} (h : regsOk s) : regsOk (s.txFail r) := h.ringStop.raise

theorem regsOk.txComplete {r w st} (h : regsOk s) : regsOk (s.txComplete r w st) :=
  h.descWrite.descWrite.ringNext.setBit.ite h.descWrite.descWrite.ringNext

theorem execTxDescriptor_nextOk {r d b dma dbm} (h : regsOk s) : nextOk (execTxDescriptor r d b dma dbm s) := by
  unfold Machine.execTxDescriptor
  extract_lets _ _ _
  refine h.finishIf ?_
  split
  · exact h.same.txFail
  · extract_lets _ s₁ _
    have h₁ : regsOk s₁ := h.same.ite h.same.transmit
    exact h₁.txFail.ite (h₁.txComplete.txFail.ite h₁.txComplete)

/-! ### The operations of Machine/TcCmd -/

theorem execTcGetStatus_nextOk {n} (h : regsOk s) : nextOk (execTcGetStatus n s) := by
  unfold Machine.execTcGetStatus
  refine h.mbRow fun _ _ k => ?_
  extract_lets _ _ _
  split
  · exact .reject
  · split
    · exact .reject
    · exact .ite .reject k.ok

theorem regsOk.tcConfigure {c b} (h : regsOk s) : regsOk (s.tcConfigure c b) := by
  unfold State.tcConfigure
  extract_lets _ _ s₁ _ s₂ s₃ _ s₄ s₅ _ s₆
  have h₁ : regsOk s₁ := h.put.put.put.put
  have h₂ : regsOk s₂ := h₁.put.put.put.ite h₁.put.put
  have h₃ : regsOk s₃ := h₂.put.ite h₂
  have h₄ : regsOk s₄ := h₃.put.put.put.put.put
  have h₅ : regsOk s₅ := h₄.put.put.put
  have h₆ : regsOk s₆ := h₅.putW.put.putW
  exact h₆.put.put

theorem execTcSetConfig_nextOk {n} (h : regsOk s) : nextOk (execTcSetConfig n s) := by
  unfold Machine.execTcSetConfig
  refine h.mbRow fun _ _ k => ?_
  extract_lets _ _ _
  split
  · exact .reject
  · split
    · exact .reject
    · exact .ite .reject (.ite .reject k.tcConfigure.ok)

theorem execTcSetRefPriority_nextOk {n} (h : regsOk s) : nextOk (execTcSetRefPriority n s) := by
  unfold Machine.execTcSetRefPriority
  refine h.mbRow fun _ _ k => ?_
  extract_lets _ _ _ _
  split
  · exact .reject
  · split
    · exact .reject
    · exact .ite .reject (.ite .reject (k.fold fun _ _ k' => k'.put).ok)

theorem execTcForceSelect_nextOk {n} (h : regsOk s) : nextOk (execTcForceSelect n s) := by
  unfold Machine.execTcForceSelect
  refine h.mbRow fun _ _ k => ?_
  extract_lets _ _ _
  split
  · exact .reject
  · split
    · exact .reject
    · exact .ite .reject (.ite .reject (.ite .reject k.put.put.ok))

theorem execTcGetHoldover_nextOk {n} (h : regsOk s) : nextOk (execTcGetHoldover n s) := by
  unfold Machine.execTcGetHoldover
  refine h.mbRow fun _ _ k => ?_
  extract_lets _ _ _
  split
  · exact .reject
  · split
    · exact .reject
    · exact .ite .reject k.ok

theorem execTcStorePreset_nextOk {n} (h : regsOk s) : nextOk (execTcStorePreset n s) := by
  unfold Machine.execTcStorePreset
  refine h.mbRow fun _ _ k => ?_
  extract_lets _ _ _ _ _
  split
  · exact .reject
  · split
    · exact .reject
    · exact .ite .reject (.ite .reject k.wr.wr.saveSettings.ok)

theorem execTcRampStart_nextOk {n} (h : regsOk s) : nextOk (execTcRampStart n s) := by
  unfold Machine.execTcRampStart
  refine h.mbRow fun _ _ k => ?_
  extract_lets _ _ _ _ _ _
  split
  · exact .reject
  · split
    · exact .reject
    · exact .ite .reject (.ite .reject (.ite .reject (.ite .reject k.setChan.ok)))

theorem execTcEsmcConfig_nextOk {n} (h : regsOk s) : nextOk (execTcEsmcConfig n s) :=
  h.mbRow fun _ _ k => .ite .reject (.ite .reject (.ite .reject (k.same.fold fun _ _ k' => k'.put.ite k').ok))

theorem execEsmcPduSend_nextOk (h : regsOk s) : nextOk (execEsmcPduSend s) := h.finishIf h.esmcCheck.esmcSend
theorem regsOk.setQl {r q} (h : regsOk s) : regsOk (s.setQl r q) := h.put
theorem regsOk.portSetQl {p q} (h : regsOk s) : regsOk (s.portSetQl p q) := (h.fold fun _ _ k => k.setQl).esmcCheck
theorem execEsmcPduReceive_nextOk {p ql} (h : regsOk s) : nextOk (execEsmcPduReceive p ql s) := h.finishIf h.portSetQl
theorem execEsmcTimeout_nextOk {p} (h : regsOk s) : nextOk (execEsmcTimeout p s) := h.finishIf h.portSetQl
theorem execQlHoldExpiry_nextOk (h : regsOk s) : nextOk (execQlHoldExpiry s) := h.finishIf h.setChan.esmcCheck

/-! ### The operations of Machine/Ptp -/

theorem regsOk.setPtp {p x} (h : regsOk s) : regsOk (s.setPtp p x) := h.same
theorem regsOk.ptpRole {p} (h : regsOk s) : regsOk (s.ptpRole p) := h.setLink.linkRole.ite h.setLink

theorem regsOk.ptpRefLink (h : regsOk s) : regsOk s.ptpRefLink := by
  unfold State.ptpRefLink
  split
  · exact h.put.ite h
  · exact h

theorem regsOk.ptpState {p st} (h : regsOk s) : regsOk (s.ptpState p st) := by
  unfold State.ptpState
  split
  · exact h
  · exact h.ite h.setPtp.ptpRole

theorem execPtpSetProfile_nextOk {n} (h : regsOk s) : nextOk (execPtpSetProfile n s) := by
  unfold Machine.execPtpSetProfile
  exact h.mbRow fun _ _ k => .ite .reject (.ite .reject (.ite .reject (.ite .reject (k.same.fold fun _ _ k' => k'.ptpState).same.refLoss.ok)))

theorem execPtpPortConfig_nextOk {n} (h : regsOk s) : nextOk (execPtpPortConfig n s) := by
  unfold Machine.execPtpPortConfig
  refine h.mbRow fun _ _ k => ?_
  extract_lets _ _ _ _ _ _ _ s₁ _ s₂ _ s₃
  have h₁ : regsOk s₁ := k.setPtp.ite k.setPtp
  have h₂ : regsOk s₂ := h₁.ptpRole.ite h₁.ptpRole.txtsOwnerChange
  have h₃ : regsOk s₃ := h₂.put.put.put
  split
  · exact .reject
  · split
    · exact .reject
    · exact .ite .reject (.ite .reject h₃.put.put.ok)

theorem execPtpGetStatus_nextOk {n} (h : regsOk s) : nextOk (execPtpGetStatus n s) := by
  unfold Machine.execPtpGetStatus
  refine h.mbRow fun _ _ k => ?_
  split
  · exact .reject
  · split
    · exact .reject
    · exact .ite .reject k.ok

theorem execPtpGetDataset_nextOk {n} (h : regsOk s) : nextOk (execPtpGetDataset n s) := by
  unfold Machine.execPtpGetDataset
  refine h.mbRow fun _ _ k => ?_
  extract_lets _ _
  split
  · exact .reject
  · split
    · exact .reject
    · split
      · exact .reject
      · split
        · exact k.ok
        · exact .reject

theorem regsOk.servo {p ofs since} (h : regsOk s) : regsOk (s.servo p ofs since) := h.ite (h.same.stepNext.ite h.same.ptpOfsLo.ptpOfsHi)

theorem regsOk.ptpConclude {p ports after fresh ql} (h : regsOk s) : regsOk (s.ptpConclude p ports after fresh ql) := by
  unfold State.ptpConclude
  extract_lets _ _ _ _ s₁ s₂ s₃
  have h₁ : regsOk s₁ := by
    refine h.same.fold fun _ _ k => ?_
    extract_lets s₂
    have h₂ : regsOk s₂ := by
      unfold s₂
      split
      · exact k.setPtp
      · exact k
    exact h₂.ptpState
  have h₂ : regsOk s₂ := by
    unfold s₂
    split
    · exact h₁.setQl.esmcCheck
    · exact h₁
  have h₃ : regsOk s₃ := by
    unfold s₃
    clear_value s₂
    split
    · exact h₂.servo
    · exact h₂
  exact h₃.ptpRefLink

theorem regsOk.ptpGrants {m grants} (h : regsOk s) : regsOk (s.ptpGrants m grants) := h.same.ite h

theorem execPtpMessageReceive_nextOk {c ports after fresh ql} (h : regsOk s) : nextOk (execPtpMessageReceive c ports after fresh ql s) :=
  h.mpTake fun _ _ k => k.ite (k.same.ite (k.pm.ite k).ptpConclude.ptpGrants)

theorem execPtpMessageSend_nextOk {p tc hdr msg tsId dbm} (h : regsOk s) : nextOk (execPtpMessageSend p tc hdr msg tsId dbm s) := by
  unfold Machine.execPtpMessageSend
  extract_lets _ _ _ _
  split
  · exact h.next
  · exact h.finishIf h.injectAs

/-! ### The operations of Machine/Tw -/

theorem regsOk.twWith {f} (h : regsOk s) : regsOk (s.twWith f) := h.same
theorem regsOk.partnerAbsent (h : regsOk s) : regsOk s.partnerAbsent := (h.raise.twEnter.ite (h.raise.takeRole.ite h.raise)).set.set.twWith
theorem regsOk.absentCheck (h : regsOk s) : regsOk s.absentCheck := h.partnerAbsent.ite h
theorem regsOk.splitBrain (h : regsOk s) : regsOk s.splitBrain := h.raise.raise.galSend.giveRole.ite h.raise.raise
theorem regsOk.standbyCheck (h : regsOk s) : regsOk s.standbyCheck := h.twEnter.ite h
theorem regsOk.takeover {cause} (h : regsOk s) : regsOk (s.takeover cause) := h.galSend.twWith

theorem regsOk.galHeard {f} (h : regsOk s) : regsOk (s.galHeard f) := by
  unfold State.galHeard
  extract_lets _ _ _ s₁ s₂
  have h₁ : regsOk s₁ := h.twWith.set.setB
  have h₂ : regsOk s₂ := h₁.twEnter.ite h₁
  exact h₂.enterFaulted.ite ((h₂.enterSyncing.ite h₂).ite (h₂.twEnter.resyncBegin.ite h₂))

theorem regsOk.galTake {on lane f act} (h : regsOk s) (hf : ∀ u, regsOk u → regsOk (act u)) : nextOk (s.galTake on lane f act) :=
  h.finishIf (h.emit.ite (h.twWith.ite (hf _ h.twWith)))

theorem regsOk.galBad {lane f} (h : regsOk s) : nextOk (s.galBad lane f) := h.galTake fun _ k => k.twWith

theorem regsOk.pxCopy {x} (h : regsOk s) : regsOk (s.pxCopy x) := by
  unfold State.pxCopy
  refine h.fold fun _ _ k => ?_
  split
  · exact k
  · exact k.set.setB.set.set.set.set.wr64.wr64.set

theorem regsOk.syncChannel {c g y delta} (h : regsOk s) : regsOk (s.syncChannel c g y delta) := h.same.set.set.setChan.switchTo

theorem regsOk.syncFirst {x coarse delta} (h : regsOk s) : regsOk (s.syncFirst x coarse delta) := by
  unfold State.syncFirst
  extract_lets _ s₁
  have h₁ : regsOk s₁ := by
    unfold s₁
    refine h.stepNext.refReturn.fold fun _ _ k => ?_
    split
    · exact k.syncChannel.ite k
    · exact k
  exact (h₁.same.setQl.ite h₁.same).twWith

theorem regsOk.copyRecord {c r delta} (h : regsOk s) : regsOk (s.copyRecord c r delta) := h.ite h.setChan.histStat

theorem regsOk.copyChannel {c g delta} (h : regsOk s) : regsOk (s.copyChannel c g delta) := by
  unfold State.copyChannel
  extract_lets _ _ s₁
  have h₁ : regsOk s₁ := h.setChan.ite h
  split
  · exact h₁.copyRecord
  · exact h₁

theorem regsOk.takeDelta {delta} (h : regsOk s) : regsOk (s.takeDelta delta) := by
  unfold State.takeDelta
  extract_lets s₁ _
  have h₁ : regsOk s₁ := by
    unfold s₁
    split
    · exact h.set
    · exact h
  exact h₁.twWith

theorem regsOk.digestCheck {x} (h : regsOk s) : regsOk (s.digestCheck x) := (h.raise.enterFaulted.ite h.raise).ite (h.enterSyncing.ite h)
theorem regsOk.partnerSays {x d} (h : regsOk s) : regsOk (s.partnerSays x d) := h.fold fun _ _ k => k.setChan

theorem regsOk.missTransient (h : regsOk s) : regsOk s.missTransient := by
  unfold State.missTransient
  split
  next _ _ _ e =>
    exact (h.inc.raise.hlTransient.of_eq e).twEnter.resyncBegin.ite (h.inc.raise.hlTransient.of_eq e)

theorem regsOk.stateCame {cycle} (h : regsOk s) : regsOk (s.stateCame cycle) := (h.missTransient.ite h).twWith

theorem regsOk.galCopy {hd x ing rt mon} (h : regsOk s) : regsOk (s.galCopy hd x ing rt mon) := by
  unfold State.galCopy
  extract_lets _ s₁ s₂ s₃ _ _ _ s₄ s₅ _ s₆
  have h₁ : regsOk s₁ := h.stateCame.twWith.digestCheck
  have h₂ : regsOk s₂ := h₁.enterFaulted.ite h₁
  have h₃ : regsOk s₃ := h₂.resyncBegin.ite h₂
  have h₄ : regsOk s₄ := h₃.takeDelta.pxCopy.syncFirst.ite h₃.takeDelta.pxCopy.refReturn.twWith
  have h₅ : regsOk s₅ := by
    unfold s₅
    refine h₄.fold fun _ _ k => ?_
    split
    · exact k.copyChannel.ite k
    · exact k
  have h₆ : regsOk s₆ := h₅.partnerSays.raise.ite h₅.partnerSays
  exact h₆.standbyCheck

theorem execGalStateReceive_nextOk {lane f ing rt mon} (h : regsOk s) : nextOk (execGalStateReceive lane f ing rt mon s) := by
  unfold Machine.execGalStateReceive
  split
  · exact h.galBad
  · exact h.galTake fun _ k => k.galHeard.splitBrain.ite (k.galHeard.galCopy.ite k.galHeard)
  · exact h.next

theorem regsOk.applyDelta {e} (h : regsOk s) : regsOk (s.applyDelta e) := by
  unfold State.applyDelta
  split
  · exact h.macInsert
  · split
    · exact h.ite h.macRemove
    · exact h

theorem regsOk.deltasCame {cycle} (h : regsOk s) : regsOk (s.deltasCame cycle) := h.twWith.missTransient.ite h

theorem execGalDeltaReceive_nextOk {f} (h : regsOk s) : nextOk (execGalDeltaReceive f s) := by
  unfold Machine.execGalDeltaReceive
  split
  · exact h.galBad
  · exact h.galTake fun _ k => (k.galHeard.deltasCame.fold fun _ _ k' => k'.applyDelta).ite k.galHeard.deltasCame
  · exact h.next

theorem regsOk.bulkRecords {c long l} (h : regsOk s) : regsOk (s.bulkRecords c long l) := h.setChan.histStat

theorem execGalBulkReceive_nextOk {f} (h : regsOk s) : nextOk (execGalBulkReceive f s) := by
  unfold Machine.execGalBulkReceive
  split
  · exact h.galBad
  · exact h.galTake fun _ k => (k.galHeard.fold fun _ _ k' => k'.applyDelta.addWrap).ite k.galHeard
  · exact h.galTake fun _ k => k.galHeard.bulkRecords.ite k.galHeard
  · exact h.next

theorem execResyncComplete_nextOk (h : regsOk s) : nextOk (execResyncComplete s) := h.finishIf h.set.raise.standbyCheck

theorem execGalReplyReceive_nextOk {f} (h : regsOk s) : nextOk (execGalReplyReceive f s) := by
  unfold Machine.execGalReplyReceive
  split
  · exact h.galBad
  · refine h.galTake fun _ k => ?_
    extract_lets s₁ s₂ s₃ _ s₄ s₅ _
    have h₁ : regsOk s₁ := k.galHeard
    have h₂ : regsOk s₂ := h₁.missTransient.ite h₁
    have h₃ : regsOk s₃ := h₂.galAgain.ite h₂
    have h₄ : regsOk s₄ := h₃.twWith
    have h₅ : regsOk s₅ := h₄.raise.set.ite h₄
    exact (h₅.fold fun _ _ k' => k'.setChan).ite h₁
  · exact h.next

theorem execGalStateMissing_nextOk (h : regsOk s) : nextOk (execGalStateMissing s) := by
  unfold Machine.execGalStateMissing
  extract_lets _ s₁ _ s₂
  have h₁ : regsOk s₁ := h.inc.raise.twWith
  have h₂ : regsOk s₂ := h₁.refLoss.hlLasting.enterFaulted.ite h₁.refLoss.hlLasting
  exact h.finishIf (h.twWith.ite h₂.absentCheck)

theorem execGalElectReceive_nextOk {f} (h : regsOk s) : nextOk (execGalElectReceive f s) := by
  unfold Machine.execGalElectReceive
  split
  · exact h.galBad
  · exact .ite (h.galTake fun _ k => k.galHeard.twWith) (h.galTake fun _ k => k.inc)
  · exact h.next

theorem regsOk.loseElection {hd} (h : regsOk s) : regsOk (s.loseElection hd) := by
  unfold State.loseElection
  split
  · exact h.enterFaulted
  · exact h.enterSyncing

theorem regsOk.electionCheck (h : regsOk s) : regsOk s.electionCheck := by
  unfold State.electionCheck
  split
  · exact h
  · split
    · exact h.loseElection.ite ((h.takeRole.ite h.loseElection).ite h)
    · exact h.loseElection.ite h

theorem execElectWaitExpiry_nextOk (h : regsOk s) : nextOk (execElectWaitExpiry s) :=
  h.finishIf (h.takeRole.ite (h.enterSyncing.ite (h.takeRole.ite h.enterFaulted)))

theorem regsOk.monMeasure {k m} (h : regsOk s) : regsOk (s.monMeasure k m) := by
  unfold State.monMeasure
  extract_lets _
  split
  · exact h.wr.twWith
  · split
    · extract_lets _ _ _ s₁ _ s₂
      have h₁ : regsOk s₁ := h.twWith.set.setB
      have h₂ : regsOk s₂ := h₁.setB.setB.twWith
      exact h₂.inc.raise.ite (h₂.inc.ite h₂)

theorem regsOk.judgePartner {c} (h : regsOk s) : regsOk (s.judgePartner c) :=
  h.partnerAbsent.ite (h.takeover.ite (h.enterFaulted.ite (h.takeover.ite h.raise)))

theorem regsOk.decideCheck (h : regsOk s) : regsOk s.decideCheck := h.fold fun _ _ k => k.judgePartner.ite k

theorem regsOk.heartbeat {hb} (h : regsOk s) : regsOk (s.heartbeat hb) := by
  unfold State.heartbeat
  extract_lets _ s₁
  have h₁ : regsOk s₁ := h.setB.setB.twEnter.twWith.ite h.setB.setB
  split
  · split
    · exact h₁.twWith
    · exact h₁.twWith.splitBrain.ite h₁
  · exact h₁.twWith

theorem execTwCheckPoint_nextOk {mon hb gal0 gal1} (h : regsOk s) : nextOk (execTwCheckPoint mon hb gal0 gal1 s) := by
  unfold Machine.execTwCheckPoint
  extract_lets _ s₁
  have h₁ : regsOk s₁ := h.setB.setB.fold fun _ _ k => k.monMeasure
  exact h.whenUp (h₁.ite h₁.heartbeat.electionCheck.decideCheck.absentCheck).finish

theorem execHbInLost_nextOk (h : regsOk s) : nextOk (execHbInLost s) := h.finishIf h.set.set.raise.twWith.absentCheck

theorem execGalTakeoverReceive_nextOk {f} (h : regsOk s) : nextOk (execGalTakeoverReceive f s) := by
  unfold Machine.execGalTakeoverReceive
  split
  · exact h.galBad
  · exact h.galTake fun _ k => k.galHeard.same.galSend.giveRole.ite k.galHeard
  · exact h.next

theorem execGalReleaseReceive_nextOk {f} (h : regsOk s) : nextOk (execGalReleaseReceive f s) := by
  unfold Machine.execGalReleaseReceive
  split
  · exact h.galBad
  · exact h.galTake fun _ k => k.galHeard.takeRole.ite k.galHeard
  · exact h.next

theorem execTakeoverReleaseWait_nextOk (h : regsOk s) : nextOk (execTakeoverReleaseWait s) := by
  unfold Machine.execTakeoverReleaseWait
  split
  · exact h.finishIf h.takeRole
  · exact h.next

theorem execFaultCauseExpiry_nextOk (h : regsOk s) : nextOk (execFaultCauseExpiry s) := h.finishIf h.enterSyncing
theorem regsOk.twForce {role} (h : regsOk s) : regsOk (s.twForce role) := h.takeover.ite (h.galSend.giveRole.ite h)

theorem execTwForceRole_nextOk {n} (h : regsOk s) : nextOk (execTwForceRole n s) := by
  unfold Machine.execTwForceRole
  exact h.mbRow fun _ _ k => .ite .reject (.ite .reject (.ite (.ite k.twForce.later .reject) (.ite k.twForce.ok .reject)))

theorem execLacpduTemplateSend_nextOk {p} (h : regsOk s) : nextOk (execLacpduTemplateSend p s) := h.finishIf h.lacpNow
theorem regsOk.setTemplate {p b fast} (h : regsOk s) : regsOk (s.setTemplate p b fast) := h.twWith
theorem execLacpduSend_nextOk {p b fast} (h : regsOk s) : nextOk (execLacpduSend p b fast s) := h.finishIf h.setTemplate.lacpNow

theorem execLacpduReceive_nextOk {c now} (h : regsOk s) : nextOk (execLacpduReceive c now s) :=
  h.mpTake fun _ _ k => k.fold fun _ _ k' => k'.setTemplate

theorem execTwGetStatus_nextOk {n} (h : regsOk s) : nextOk (execTwGetStatus n s) := h.mbRow fun _ _ k => .ite .reject k.ok
theorem regsOk.twSave (h : regsOk s) : regsOk s.twSave := h.saveSettings

theorem execTwConfig_nextOk {n} (h : regsOk s) : nextOk (execTwConfig n s) := by
  unfold Machine.execTwConfig
  exact h.mbRow fun _ _ k => .ite .reject (.ite .reject (.ite .reject
    (k.put.put.put.put.put.put.put.putW.fold fun _ _ k' => k'.put.put.put.put.putW).twSave.ok))

theorem regsOk.lagTemplates {mask} (h : regsOk s) : regsOk (s.lagTemplates mask) := h.fold fun _ _ k => k.setTemplate.put

theorem execTwLagConfig_nextOk {n} (h : regsOk s) : nextOk (execTwLagConfig n s) :=
  h.mbRow fun _ _ k => .ite .reject (.ite .reject (.ite .reject k.twWith.putW.put.put.lagTemplates.twSave.ok))

/-! ### The operations of Machine/Boot -/

theorem regsOk.stagingCheck (h : regsOk s) : regsOk s.stagingCheck := h.ite h.same.raise
theorem regsOk.bootSlot {k} (h : regsOk s) : regsOk (s.bootSlot k) := h.same
theorem regsOk.fallBack {flash w result} (h : regsOk s) : regsOk (s.fallBack flash w result) := h.writePtr.fuIdle.raise

theorem regsOk.loader {flash} (h : regsOk s) : regsOk (s.loader flash) := by
  unfold State.loader
  split
  · exact h.bootSlot
  · exact h.fallBack.bootSlot.ite (h.writePtr.bootSlot.ite h.bootSlot)

theorem regsOk.fuResume (h : regsOk s) : regsOk s.fuResume := by
  unfold State.fuResume
  extract_lets _ _ _ s₁ s₂ s₃
  have h₁ : regsOk s₁ := h.same.ite h.same.set
  have h₂ : regsOk s₂ := h₁.set.ite h₁
  have h₃ : regsOk s₃ := by
    unfold s₃
    split
    · exact h₂.fuState.set
    · exact h₂.fuState.ite h₂.stagingClear.fuState
    · exact h₂.fuState
  exact h₃.fuRegs

theorem regsOk.settle (h : regsOk s) : regsOk s.settle := by
  unfold State.settle
  extract_lets _ _ _
  split
  · exact h.same.ite h.same.writeRecord
  · exact h.same

theorem regsOk.restore (h : regsOk s) : regsOk s.restore := by
  unfold State.restore
  split
  · exact h
  · exact (h.fold fun _ _ k => k.store.ite k).twWith.lagTemplates

theorem regsOk.abortAll (h : regsOk s) : regsOk s.abortAll := h.fold fun _ _ k => k.setMb.mbAnswer.ite (k.setMb.mbAnswer.ite k.setMb)
theorem regsOk.epochNext (h : regsOk s) : regsOk s.epochNext := h.set.raise
theorem regsOk.stacksAnew (h : regsOk s) : regsOk s.stacksAnew := (h.same.fold fun _ _ k => k.setChan).same

theorem regsOk.mpServes (h : regsOk s) : regsOk s.mpServes := by
  unfold State.mpServes
  extract_lets _ s₁ _ _ s₂
  have h₁ : regsOk s₁ := h.ite (h.restore.ite h).factoryGrammar
  have h₂ : regsOk s₂ := h₁.stacksAnew.same.setB.set
  exact h₂.epochNext.abortAll.ite h₂

theorem execMpStart_nextOk {migrate flash burn} (h : regsOk s) : nextOk (execMpStart migrate flash burn s) := by
  unfold Machine.execMpStart
  extract_lets s₁ _ s₂ s₃
  have h₁ : regsOk s₁ := h.stagingCheck.loader.fuResume
  have h₂ : regsOk s₂ := h₁.settle.ite h₁.same
  have h₃ : regsOk s₃ := h₂.otpBurn.fuRegs.ite h₂
  refine h.finishIf ?_
  split
  · split
    · exact h₁.fallBack.mpRestart
    · exact h₁
  · exact h₃.mpServes

theorem execSysGetInfo_nextOk {n} (h : regsOk s) : nextOk (execSysGetInfo n s) := h.mbRow fun _ _ k => .ite .reject k.ok

/-! ### The operations of Machine/Taq -/

theorem regsOk.groupDone {tag} (h : regsOk s) : regsOk (s.groupDone tag) := h.ite h.set.setB.same.raise
theorem regsOk.taqLeave {i st} (h : regsOk s) : regsOk (s.taqLeave i st) := h.same.set.setBit
theorem regsOk.taqDrop {i st} (h : regsOk s) : regsOk (s.taqDrop i st) := h.taqLeave.raise.groupDone
theorem regsOk.taqCancel {i} (h : regsOk s) : regsOk (s.taqCancel i) := h.taqLeave.groupDone.ite h

theorem regsOk.taqCancelGroup {tag} (h : regsOk s) : regsOk (s.taqCancelGroup tag) := by
  unfold State.taqCancelGroup
  split
  · exact h
  · exact (h.fold fun _ _ k => k.taqLeave).groupDone

theorem regsOk.taqDue {i} (h : regsOk s) : regsOk (s.taqDue i) := h.taqDrop.ite h.same
theorem regsOk.taqTick (h : regsOk s) : regsOk s.taqTick := h.same.fold fun _ _ k => k.taqDue.ite k

theorem regsOk.taqArm {m i guarded} (h : regsOk s) : regsOk (s.taqArm m i guarded) :=
  h.wr.ite (h.wr.set.ite (h.wr.set.taqDrop.ite h.wr.set.same.taqDue))

/-! ### The operations of Machine/Cycle -/

theorem regsOk.twEnable {was} (h : regsOk s) : regsOk (s.twEnable was) := h.twEnter.refLoss.set.set.twWith.ite (h.twEnter.twWith.ite h)

theorem regsOk.twBoundary (h : regsOk s) : regsOk s.twBoundary := by
  unfold State.twBoundary
  split
  next _ _ _ e =>
    extract_lets _ _ s₁ _ _ s₂
    have h₁ : regsOk s₁ := (h.takePend.of_eq e).fold fun _ _ k => k.wr
    have h₂ : regsOk s₂ := h₁.set.same.ite h₁
    exact (h.takePend.of_eq e).ite h₂.twEnable.ouRefreshAll

theorem regsOk.cycleApply (h : regsOk s) : regsOk s.cycleApply := h.tcBoundary.ouBoundary.twBoundary.pxBoundary.stairCycle
theorem regsOk.galRecords {c} (h : regsOk s) : regsOk (s.galRecords c) := h.galSend.galSend.twWith

theorem regsOk.galBulk (h : regsOk s) : regsOk s.galBulk := by
  unfold State.galBulk
  extract_lets _ _
  split
  · exact h
  · extract_lets _ s₁ _
    have h₁ : regsOk s₁ := h.galSend.galSend.addWrap
    exact h₁.twWith.ite (h₁.twWith.fold fun _ _ k => k.galRecords.ite k).set

theorem regsOk.galActive {egress} (h : regsOk s) : regsOk (s.galActive egress) := by
  unfold State.galActive
  extract_lets s₁ _ s₂ s₃
  have h₁ : regsOk s₁ := h.raise.twWith.ite h
  have h₂ : regsOk s₂ := h₁.galSend.galBulk.galDeltas
  have h₃ : regsOk s₃ := by
    unfold s₃
    split
    · exact h₂.galAgain
    · exact h₂
  exact h₃.twWith

theorem regsOk.galCycle {egress} (h : regsOk s) : regsOk (s.galCycle egress) := by
  unfold State.galCycle
  split
  · exact h.galPut.ite h
  · exact h.galSend
  · exact h.galActive
  · exact h.galActive
  · exact h.galSend

theorem regsOk.retainChan {c} (h : regsOk s) : regsOk (s.retainChan c) := h.same
theorem regsOk.cycleClear (h : regsOk s) : regsOk s.cycleClear := (h.fold fun _ _ k => k.setChan).same

theorem execCycleBoundary_nextOk {egress} (h : regsOk s) : nextOk (execCycleBoundary egress s) :=
  h.finishIf (h.same.cycleApply.galCycle.fold fun _ _ k => k.retainChan).cycleClear

theorem regsOk.jumpTick (h : regsOk s) : regsOk s.jumpTick := by
  unfold State.jumpTick
  extract_lets _ _
  split
  · exact h
  · exact h.same.stairStep.cycleApply.ite h.same.stairStep

theorem regsOk.tick (h : regsOk s) : regsOk s.tick := by
  unfold State.tick
  extract_lets _ _ _ _ s₁ s₂ _ _
  have h₁ : regsOk s₁ := h.incrTick.same.jumpTick.taqTick.stepTick
  have h₂ : regsOk s₂ := h₁.fold fun _ _ k => k.snap
  exact h₂.same.pmClocks.ouTick.ite h₂.same

theorem execTbTick_nextOk (h : regsOk s) : nextOk (execTbTick s) := h.finishAny h.tick

/-! ### The operations of Machine/Ev -/

theorem regsOk.setEvIn {i e} (h : regsOk s) : regsOk (s.setEvIn i e) := h.same
theorem regsOk.setEvGrp {g e} (h : regsOk s) : regsOk (s.setEvGrp g e) := h.same.set
theorem regsOk.grpWritten {g} (h : regsOk s) : regsOk (s.grpWritten g) := h.setB.setEvGrp
theorem regsOk.evQueue {i x} (h : regsOk s) : regsOk (s.evQueue i x) := h.ite (h.setEvIn.set.ite h.inc.raise)
theorem regsOk.evStarts {i x} (h : regsOk s) : regsOk (s.evStarts i x) := h.fold fun _ _ k => k.setEvGrp.ite k

theorem regsOk.evAccept {i falling core at'} (h : regsOk s) : regsOk (s.evAccept i falling core at') :=
  h.addWrap.setEvIn.ite h.addWrap.setEvIn.evQueue.evStarts

theorem execEvtEdge_nextOk {i falling phase bin} (h : regsOk s) : nextOk (execEvtEdge i falling phase bin s) :=
  h.finishIf (h.inc.ite (h.ite (h.inc.raise.ite h.evAccept)))

theorem execEvGroupResult_nextOk {g} (h : regsOk s) : nextOk (execEvGroupResult g s) := by
  unfold Machine.execEvGroupResult
  extract_lets _
  split
  · exact h.next
  · exact h.finishIf (h.setEvGrp.raise.ite h.setEvGrp.inc.raise)

theorem regsOk.evTsPop {i} (h : regsOk s) : regsOk (s.evTsPop i) := by
  unfold State.evTsPop
  extract_lets _
  split
  · exact h
  · exact h.setEvIn.set.set.set.set.set

theorem regsOk.latchStop {g i x} (h : regsOk s) : regsOk (s.latchStop g i x) := h.set.set.setB.setB.setB

theorem regsOk.evResPop {g} (h : regsOk s) : regsOk (s.evResPop g) := by
  unfold State.evResPop
  extract_lets _
  split
  · exact h
  · exact h.setEvGrp.set.set.set.set.fold fun _ _ k => k.latchStop

theorem execEvSetGroup_nextOk {n} (h : regsOk s) : nextOk (execEvSetGroup n s) :=
  h.mbRow fun _ _ k => .ite .reject (.ite .reject (.ite .reject k.set.set.set.set.grpWritten.ok))

/-! ### The operations of Machine/Hl -/

theorem regsOk.codeReload {b r} (h : regsOk s) : regsOk (s.codeReload b r) := h.same.mpRestart.ite h

theorem execSpareRowRepair_nextOk {g b r zeroed} (h : regsOk s) : nextOk (execSpareRowRepair g b r zeroed s) := by
  unfold Machine.execSpareRowRepair
  extract_lets _ _ s₁ s₂ s₃ _ s₄
  have h₁ : regsOk s₁ := h.same.fold fun _ _ k => k.wr
  have h₂ : regsOk s₂ := h₁.ftRepaired.ite h₁
  have h₃ : regsOk s₃ := h₂.set.raise.hlLog
  have h₄ : regsOk s₄ := h₃.setB.codeReload.ite h₃.setB
  exact h.finishIf (h₄.sparesLow.ite h₄)

theorem execDbmRowRepair_nextOk {bank row} (h : regsOk s) : nextOk (execDbmRowRepair bank row s) :=
  h.finishIf (h.hlRetire.setB.ite h.same.raise.hlLog.setB)

theorem execMezzTest_nextOk {m faulty} (h : regsOk s) : nextOk (execMezzTest m faulty s) := by
  unfold Machine.execMezzTest
  extract_lets _ _ _ s₁ s₂ s₃ _
  have h₁ : regsOk s₁ := h.setB.same.set
  have h₂ : regsOk s₂ := h₁.set.raise.hlLog
  have h₃ : regsOk s₃ := h₂.sparesLow.ite h₂
  exact h.finishIf (h₃.mezzReturned.mbAnswerWaiting.ite h.setB.hlLog.mbAnswerWaiting)

theorem execHlTdcAutocal_nextOk {t} (h : regsOk s) : nextOk (execHlTdcAutocal t s) := h.finishIf h.same.tdcStart

theorem regsOk.tempOne {k v} (h : regsOk s) : regsOk (s.tempOne k v) := by
  unfold State.tempOne
  extract_lets _ _ _ _ s₁ _ s₂ _ _
  have h₁ : regsOk s₁ := h.set.set.raise.ite h.set.set
  have h₂ : regsOk s₂ := h₁.hlTransient.ite h₁
  exact ((h₁.ite h₁.hlLasting.raise).ite h₁.same).ite (h₂.same.hlCauseEnds.ite h₂.same)

theorem execTempSample_nextOk {lid sw timing dbm reg oven} (h : regsOk s) : nextOk (execTempSample lid sw timing dbm reg oven s) :=
  h.whenUp (h.fold fun _ _ k => k.tempOne).set.setB.setB.twSelfFault.finish

theorem regsOk.supplyOne {k v} (h : regsOk s) : regsOk (s.supplyOne k v) := by
  unfold State.supplyOne
  extract_lets _ _ s₁ _
  have h₁ : regsOk s₁ := h.set.set.hlTransient.ite h.set.set
  exact ((h.set.set.ite h.set.set.hlLasting.raise).ite h.set.set.same).ite h₁.same.hlCauseEnds

theorem execSupplySample_nextOk {vin vinI vkeep v3p3 v3p3I pin rails} (h : regsOk s) :
    nextOk (execSupplySample vin vinI vkeep v3p3 v3p3I pin rails s) := by
  unfold Machine.execSupplySample
  extract_lets s₁ s₂ _
  have h₁ : regsOk s₁ := h.fold fun _ _ k => k.supplyOne
  have h₂ : regsOk s₂ := h₁.fold fun _ _ k => k.hlCauseEnds.ite (k.ite k.hlLasting.raise)
  exact h.whenUp h₂.set.setB.twSelfFault.finish

theorem execOvenFault_nextOk (h : regsOk s) : nextOk (execOvenFault s) := h.finishIf h.set.hlLasting.raise.twSelfFault
theorem execHeldFaultRelease_nextOk {code inst} (h : regsOk s) : nextOk (execHeldFaultRelease code inst s) := h.finishIf h.hlRelease
theorem execWdogHoldExpiry_nextOk (h : regsOk s) : nextOk (execWdogHoldExpiry s) := h.finishIf h.same.hlCauseEnds.hlRelease

theorem execFaultLogWrite_nextOk (h : regsOk s) : nextOk (execFaultLogWrite s) := by
  unfold Machine.execFaultLogWrite
  extract_lets _
  split
  · exact h.next
  · exact h.finishIf h.same.set

theorem execHlGetHealth_nextOk {n} (h : regsOk s) : nextOk (execHlGetHealth n s) := h.mbRow fun _ _ k => .ite .reject k.ok
theorem execHlGetFaultLog_nextOk {n} (h : regsOk s) : nextOk (execHlGetFaultLog n s) := h.mbRow fun _ _ k => .ite .reject (.ite .reject k.ok)

theorem execHlRepair_nextOk {n} (h : regsOk s) : nextOk (execHlRepair n s) := by
  unfold Machine.execHlRepair
  refine h.mbRow fun _ _ k => ?_
  extract_lets _ _ _
  split
  · exact .reject
  · split
    · exact .reject
    · split
      · exact .ite .reject (.ite k.raise.later .reject)
      · split
        · exact .ite .reject (.ite .reject k.same.lnCalBegin.later)
        · split
          · split
            · exact .reject
            · exact .reject
            · exact .ite k.same.tdcStart.later .busy
          · exact .reject

theorem regsOk.loopStart {n kind depth index peer} (h : regsOk s) : regsOk (s.loopStart n kind depth index peer) := by
  unfold State.loopStart
  extract_lets _ _ _
  split
  · exact h.same.put
  · exact h.same.put
  · exact h.same.put.put.put.put
  · exact h.same.put

theorem execHlLoopback_nextOk {n} (h : regsOk s) : nextOk (execHlLoopback n s) := by
  unfold Machine.execHlLoopback
  exact h.mbRow fun _ _ k => .ite .reject (.ite .reject (.ite .reject (.ite .reject (.ite .reject k.loopStart.later))))

theorem execLoopbackTestEnd_nextOk {sentN errors eye} (h : regsOk s) : nextOk (execLoopbackTestEnd sentN errors eye s) := by
  unfold Machine.execLoopbackTestEnd
  refine h.whenUp ?_
  split
  · exact h.next
  · exact (h.fold fun _ _ k => k.store).same.mbAnswerWaiting.finish

theorem regsOk.i2cStart {n r} (h : regsOk s) : answerOk (s.i2cStart n r) := .ite .busy h.same.later

theorem execHlOpticsRead_nextOk {n} (h : regsOk s) : nextOk (execHlOpticsRead n s) := by
  unfold Machine.execHlOpticsRead
  refine h.mbRow fun _ _ k => ?_
  split
  · exact .reject
  · exact k.i2cStart

theorem execHlOpticsWrite_nextOk {n} (h : regsOk s) : nextOk (execHlOpticsWrite n s) := by
  unfold Machine.execHlOpticsWrite
  refine h.mbRow fun _ _ k => ?_
  split
  · exact .reject
  · exact k.i2cStart

theorem execI2cTransferEnd_nextOk {bus result} (h : regsOk s) : nextOk (execI2cTransferEnd bus result s) := by
  unfold Machine.execI2cTransferEnd
  extract_lets _ _ _
  refine h.finishIf ?_
  split
  · exact h.same.mbAnswerWaiting
  · exact h.same.mbAnswerWaiting
  · exact h.same.mbAnswerWaiting.mbAnswerWaiting

theorem execMpSramEccFault_nextOk {bank row again codeRow} (h : regsOk s) : nextOk (execMpSramEccFault bank row again codeRow s) := by
  unfold Machine.execMpSramEccFault
  refine h.whenUp ?_
  split
  next _ _ s₁ e =>
    have h₁ : regsOk s₁ := by
      refine .of_eq ?_ e
      split
      · exact h.hlLasting
      · exact h.hlTransient
    extract_lets s₂ _ _
    have h₂ : regsOk s₂ := h₁.hlQueueRow.ite h₁
    exact (h₂.ite ((h₂.same.mpRestart.ite h₂.same).ite (h₂.same.ite h₂))).finish

/-! ### The operations of Machine/Resets -/

theorem regsOk.msixReset (h : regsOk s) : regsOk s.msixReset := (h.filter fun a => !(decide (0xC000 ≤ a) && decide (a < 0xE000))).same
theorem regsOk.mbPcieReset {n} (h : regsOk s) : regsOk (s.mbPcieReset n) := h.ite (h.setMb.ite (h.ite h.mbToIdle))
theorem regsOk.ringsReset (h : regsOk s) : regsOk s.ringsReset := (h.fold fun _ _ k => k.ftRingHalt.set).fold fun _ _ k => k.set
theorem regsOk.pcieSide (h : regsOk s) : regsOk s.pcieSide := (h.msixReset.fold fun _ _ k => k.mbPcieReset).ringsReset
theorem execPerstAssert_nextOk {ns} (h : regsOk s) : nextOk (execPerstAssert ns s) := h.finishAny (h.ite h.pcieSide).same
theorem execPcieHotReset_nextOk (h : regsOk s) : nextOk (execPcieHotReset s) := h.finishIf h.pcieSide
theorem execPcieFlr_nextOk (h : regsOk s) : nextOk (execPcieFlr s) := h.finishIf h.pcieSide
theorem execPcieCoreResetEnd_nextOk (h : regsOk s) : nextOk (execPcieCoreResetEnd s) := h.finishIf h.same

theorem regsOk_moduleReset (s : State) : regsOk s.moduleReset := by
  unfold State.moduleReset
  extract_lets _ _ _ _ s₁ s₂ _ s₃
  have h₁ : regsOk s₁ := regsOk_reset.same
  have h₂ : regsOk s₂ := h₁.fold fun _ _ k => k.wr
  have h₃ : regsOk s₃ := h₂.setB.setB.set
  exact h₃.fuSlots.set

theorem execMrstAssert_nextOk {ns} (h : regsOk s) : nextOk (execMrstAssert ns s) :=
  h.finishAny ((regsOk_moduleReset _).ite ((regsOk_moduleReset _).ite h.same))
theorem execActivateReset_nextOk (h : regsOk s) : nextOk (execActivateReset s) := h.finishIf (regsOk_moduleReset s)
theorem regsOk.hardRepairs (h : regsOk s) : regsOk s.hardRepairs := h.fold fun _ _ k => k.ite k.set.same
theorem regsOk.chanStart {c} (h : regsOk s) : regsOk (s.chanStart c) := h.setChan.wr.holdOrLost.ite h
theorem regsOk.rootStart {xin} (h : regsOk s) : regsOk (s.rootStart xin) := h.setB.setB

theorem execModuleResetEnd_nextOk {seatB xin} (h : regsOk s) : nextOk (execModuleResetEnd seatB xin s) :=
  h.finishAny (h.hardRepairs.rootStart.setB.same.fold fun _ _ k => k.chanStart)

/-! ### The operations of Machine/Access -/

theorem regsOk.readEffect {m p} (h : regsOk s) : regsOk (s.readEffect m p) :=
  h.txtsPop.ite (h.evTsPop.ite (h.evResPop.ite ((h.same.ite h).ite (h.same.ite h).wr)))

theorem regsOk.readPlace {m p} (h : regsOk s) : regsOk (s.readPlace m p).2 := by
  unfold State.readPlace
  split
  · exact h
  · split
    · exact h
    · exact h.readEffect

theorem regsOk.guardTake {m a r} (h : regsOk s) : regsOk (s.guardTake m a r).2 := by
  unfold State.guardTake
  extract_lets _
  split
  · exact h
  · split
    · split
      · exact h.same
      · exact h.guardViol
    · split
      · exact h.same
      · exact h.guardViol
    · exact h
    · exact h

theorem regsOk.unlock {m a v} (h : regsOk s) : regsOk (s.unlock m a v) := by
  unfold State.unlock
  extract_lets _ _ _ _
  split
  · exact h.same.ite h.same.guardViol
  · exact h.same.ite h.same.guardViol
  · exact h
  · exact h

theorem regsOk.plain {p gw v} (h : regsOk s) : regsOk (s.plain p gw v) := h.store
theorem regsOk.vecAck {hi v} (h : regsOk s) : regsOk (s.vecAck hi v) := h.same

theorem regsOk.writeSys {m p gw v} (h : regsOk s) : regsOk (s.writeSys m p gw v) := by
  unfold State.writeSys
  extract_lets _
  split
  · exact h.unlock
  · split
    · exact h.ite ((regsOk_moduleReset s).ite (h.mpRestart.ite h))
    · split
      · exact h.vecAck
      · split
        · exact h.vecAck
        · exact (h.same.ownerApply.ite h).ite (h.mbDoorbell.ite (h.mbAckIt.ite (h.mbWrite.ite h.plain)))

theorem regsOk.writePm {p v} (h : regsOk s) : regsOk (s.writePm p v) := h.pmSnap.ite (h.pmClear.ite h.plain)
theorem regsOk.writeLn {p v} (h : regsOk s) : regsOk (s.writeLn p v) := (h.lnCalBegin.ite h).ite ((h.setLane.ite h).ite (h.plain.ite h.plain))

theorem regsOk.writePr {p v} (h : regsOk s) : regsOk (s.writePr p v) := by
  unfold State.writePr
  extract_lets _
  split
  · exact h.prSwap
  · split
    · exact h.plain
    · exact h.bankDrop.ite h.same.plain
    · exact h.bankDrop.ite (h.same.plain.ite h.plain)

theorem regsOk.writeRing {k halt p v} (h : regsOk s) (hf : ∀ u, regsOk u → regsOk (halt u)) : regsOk (s.writeRing k halt p v) :=
  (h.plain.ringIdle.ite ((hf _ h).ite h)).ite h.plain.ringIdle

theorem regsOk.writeFt {p v} (h : regsOk s) : regsOk (s.writeFt p v) :=
  (h.writeRing fun _ k => k.ftRingHalt).ite (h.epochAdvance.ite ((h.plain.ite h.raise).ite h.plain))

theorem regsOk.writeSc {p gw v} (h : regsOk s) : regsOk (s.writeSc p gw v) := by
  unfold State.writeSc
  extract_lets _
  split
  · exact h.writeRing fun _ k => k.set
  · exact (h.writeRing fun _ k => k.set).ite ((h.ite (h.store.swapStart.ite h.store)).ite h.plain)

theorem regsOk.writeGt {m p gw v} (h : regsOk s) : regsOk (s.writeGt m p gw v) := by
  unfold State.writeGt
  extract_lets _
  split
  · exact h.inc.raise.ite h.plain
  · exact h.inc.ite (h.taqArm.ite ((h.taqArm.ite h).ite (h.taqCancel.ite (h.taqCancelGroup.ite h.plain))))

theorem regsOk.writeTb {m p gw v} (h : regsOk s) : regsOk (s.writeTb m p gw v) := by
  unfold State.writeTb
  extract_lets _ _
  split
  · exact h.suspectClrWrite.ite h
  · split
    · exact h.snapWrite
    · split
      · exact h.incrStage
      · exact h.incrCommit.ite ((h.stepGo.ite h).ite ((h.plain.ite h.plain.txtsOwnerChange).ite h.plain))

theorem regsOk.writeTc {m p v} (h : regsOk s) : regsOk (s.writeTc m p v) := by
  unfold State.writeTc
  extract_lets _
  split
  · exact h.leaseRenew
  · split
    · exact h.tcResetStart.ite h
    · exact (h.tdcTry.ite h).ite (h.plain.ite ((h.ptpOfsLo.ite h).ite ((h.ptpOfsHi.ite h).ite h.plain)))

theorem regsOk.writeOu {p v} (h : regsOk s) : regsOk (s.writeOu p v) := by
  unfold State.writeOu
  extract_lets _
  split
  · exact h.realignReq
  · split
    · exact h.rampStop
    · exact (h.inc.raise.ite h.plain).ite ((h.tdcTry.ite h).ite (h.plain.grpWritten.ite h.plain))

theorem regsOk.writeTw {p gw v} (h : regsOk s) : regsOk (s.writeTw p gw v) := (h.twForce.ite h).ite h.plain

theorem regsOk.writeAt {m p gw v} (h : regsOk s) : regsOk (s.writeAt m p gw v) := by
  unfold State.writeAt
  split
  · exact h.writeSys
  · split
    · exact h.writePm
    · split
      · exact h.writeLn
      · split
        · exact h.writePr
        · split
          · exact h.writeFt
          · exact h.writeSc.ite (h.writeGt.ite (h.writeTb.ite (h.writeTc.ite (h.writeOu.ite h.writeTw))))

theorem regsOk.woField {m a p v f} (h : regsOk s) : regsOk (s.woField m a p v f) := (h.ite h.woViol).ite h.same.set
theorem regsOk.writePlace {m a p v} (h : regsOk s) : regsOk (s.writePlace m a p v) := h.guardTake.writeAt.fold fun _ _ k => k.woField

theorem regsOk.busWrite {q v hi} (h : regsOk s) : regsOk (s.busWrite q v hi).2 := by
  unfold State.busWrite
  split
  · exact h
  · split
    · exact h.busErr
    · extract_lets _
      split
      · split
        · exact h.writePlace.writePlace
        · exact h.writePlace
      · exact h.writePlace

theorem regsOk.busRead {q} (h : regsOk s) : regsOk (s.busRead q).2 := by
  unfold State.busRead
  split
  · exact h.busErr
  · split
    next e =>
      have h₁ := h.readPlace.of_eq e
      clear e
      split
      · split
        · split
          next e => exact h₁.readPlace.of_eq e
        · exact h₁
      · exact h₁

theorem regsOk.accessWrite {q v hi} (h : regsOk s) : regsOk (s.accessWrite q v hi) := h.emit.ite (h.busWrite.emit.ite h.busWrite)

theorem regsOk.accessRead {q} (h : regsOk s) : regsOk (s.accessRead q) := by
  unfold State.accessRead
  extract_lets s₁
  have h₁ : regsOk s₁.2 := h.busRead
  split
  · exact h.emit
  · split
    · exact h₁.emit.emit
    · exact h₁.emit
    · exact h₁.emit

theorem regsOk.write {q v hi} (h : regsOk s) : nextOk (s.write q v hi) := h.finishIf h.accessWrite
theorem regsOk.read {q} (h : regsOk s) : nextOk (s.read q) := h.finishIf h.accessRead

/-! ### The operations of Machine/HostPort -/

theorem execRegisterWrite_nextOk {q v hi} (h : regsOk s) : nextOk (execRegisterWrite q v hi s) := h.write
theorem execRcrRead_nextOk {q} (h : regsOk s) : nextOk (execRcrRead q s) := h.read
theorem execSysUnlockWrite_nextOk {m v} (h : regsOk s) : nextOk (execSysUnlockWrite m v s) := h.write
theorem execSysResetModule_nextOk {m} (h : regsOk s) : nextOk (execSysResetModule m s) := h.write
theorem execSysResetMp_nextOk {m} (h : regsOk s) : nextOk (execSysResetMp m s) := h.write
theorem execSysVecAckWrite_nextOk {m hi v} (h : regsOk s) : nextOk (execSysVecAckWrite m hi v s) := h.write
theorem execVecHoldoffExpiry_nextOk {v} (h : regsOk s) : nextOk (execVecHoldoffExpiry v s) := h.finishIf h.same
theorem execConfigSpaceWrite_nextOk {msix mask c} (h : regsOk s) : nextOk (execConfigSpaceWrite msix mask c s) := h.finishIf h.same

theorem regsOk.mspWrite {b} (h : regsOk s) : regsOk (s.mspWrite b).2 := by
  unfold State.mspWrite
  extract_lets s₁
  have h₁ : regsOk s₁.2 := h.busWrite
  split
  · exact h
  · exact h₁

theorem regsOk.mspRead {b} (h : regsOk s) : regsOk (s.mspRead b).2 := by
  unfold State.mspRead
  extract_lets s₁
  have h₁ : regsOk s₁.2 := h.busRead
  split
  · exact h
  · split
    · exact h₁
    · exact h₁

theorem execMspWriteFrame_nextOk {b} (h : regsOk s) : nextOk (execMspWriteFrame b s) := h.finishIf (h.mspWrite.ite h.mspWrite.emit)
theorem execMspReadFrame_nextOk {b} (h : regsOk s) : nextOk (execMspReadFrame b s) := h.finishIf h.mspRead.emit
theorem execMspUnknownCommand_nextOk {b} (h : regsOk s) : nextOk (execMspUnknownCommand b s) := h.finishIf h.emit

theorem execMspCsEarlyRise_nextOk {b} (h : regsOk s) : nextOk (execMspCsEarlyRise b s) :=
  h.finishIf ((h.same.mspWrite.ite h.same).ite (h.mspRead.ite h))

theorem execMbRequestWrite_nextOk {m n w v} (h : regsOk s) : nextOk (execMbRequestWrite m n w v s) := h.write
theorem execMbDbWrite_nextOk {m n v} (h : regsOk s) : nextOk (execMbDbWrite m n v s) := h.write
theorem execMbAckWrite_nextOk {m n v} (h : regsOk s) : nextOk (execMbAckWrite m n v s) := h.write

theorem execLnCalStart_nextOk {m l v} (h : regsOk s) : nextOk (execLnCalStart m l v s) := by
  unfold Machine.execLnCalStart
  split
  · exact h.write
  · exact h.finishIf h.lnCalBegin

theorem execLnResetWrite_nextOk {m l v} (h : regsOk s) : nextOk (execLnResetWrite m l v s) := h.write
theorem execPrCtrlSwapWrite_nextOk {m v} (h : regsOk s) : nextOk (execPrCtrlSwapWrite m v s) := h.write
theorem execFtAgeWrite_nextOk {m v} (h : regsOk s) : nextOk (execFtAgeWrite m v s) := h.write
theorem execFtRingHeadWrite_nextOk {m r v} (h : regsOk s) : nextOk (execFtRingHeadWrite m r v s) := h.write
theorem execFtRingEnable_nextOk {m r v} (h : regsOk s) : nextOk (execFtRingEnable m r v s) := h.write
theorem execFtRingDisable_nextOk {m r v} (h : regsOk s) : nextOk (execFtRingDisable m r v s) := h.write
theorem execFtEpochAdvWrite_nextOk {m v} (h : regsOk s) : nextOk (execFtEpochAdvWrite m v s) := h.write
theorem execScMezzSwapWrite_nextOk {m v} (h : regsOk s) : nextOk (execScMezzSwapWrite m v s) := h.write

theorem execScRingHeadWrite_nextOk {m k v} (h : regsOk s) : nextOk (execScRingHeadWrite m k v s) := by
  unfold Machine.execScRingHeadWrite
  split
  · exact h.write
  · exact h.write

theorem execScRingCfgWrite_nextOk {m k v} (h : regsOk s) : nextOk (execScRingCfgWrite m k v s) := by
  unfold Machine.execScRingCfgWrite
  split
  · exact h.write
  · exact h.write

theorem execGtTaqArmWrite_nextOk {m v} (h : regsOk s) : nextOk (execGtTaqArmWrite m v s) := h.write
theorem execGtTaqArmGWrite_nextOk {m v} (h : regsOk s) : nextOk (execGtTaqArmGWrite m v s) := h.write
theorem execGtTaqCancelWrite_nextOk {m v} (h : regsOk s) : nextOk (execGtTaqCancelWrite m v s) := h.write
theorem execGtTaqCancelGrpWrite_nextOk {m v} (h : regsOk s) : nextOk (execGtTaqCancelGrpWrite m v s) := h.write

theorem regsOk.taqRun {i} (h : regsOk s) : regsOk (s.taqRun i) :=
  h.busWrite.ite (h.busWrite.set.set.set.setB.pm.pm.ite h.busWrite.set.set.set.setB.pm).taqLeave.raise.groupDone

theorem execTaqExecute_nextOk (h : regsOk s) : nextOk (execTaqExecute s) := by
  unfold Machine.execTaqExecute
  split
  · exact h.finishIf h.taqRun
  · exact h.next

theorem execTbSnapWrite_nextOk {m v} (h : regsOk s) : nextOk (execTbSnapWrite m v s) := h.write
theorem execTbIncrLoWrite_nextOk {m v} (h : regsOk s) : nextOk (execTbIncrLoWrite m v s) := h.write
theorem execTbIncrHiWrite_nextOk {m v} (h : regsOk s) : nextOk (execTbIncrHiWrite m v s) := h.write
theorem execTbStepGo_nextOk {m v} (h : regsOk s) : nextOk (execTbStepGo m v s) := h.write
theorem execTbSuspectClrWrite_nextOk {m v} (h : regsOk s) : nextOk (execTbSuspectClrWrite m v s) := h.write
theorem execTbTxtsRead_nextOk {m p} (h : regsOk s) : nextOk (execTbTxtsRead m p s) := h.read
theorem execPxRefRenewWrite_nextOk {m v} (h : regsOk s) : nextOk (execPxRefRenewWrite m v s) := h.write
theorem execTcPtpOfsLoWrite_nextOk {m v} (h : regsOk s) : nextOk (execTcPtpOfsLoWrite m v s) := h.write
theorem execTcPtpOfsHiWrite_nextOk {m v} (h : regsOk s) : nextOk (execTcPtpOfsHiWrite m v s) := h.write
theorem execTcResetWrite_nextOk {m c v} (h : regsOk s) : nextOk (execTcResetWrite m c v s) := h.write
theorem execTcTdcCalWrite_nextOk {m c v} (h : regsOk s) : nextOk (execTcTdcCalWrite m c v s) := h.write
theorem execOuRampStopWrite_nextOk {m v} (h : regsOk s) : nextOk (execOuRampStopWrite m v s) := h.write
theorem execOuRealignWrite_nextOk {m v} (h : regsOk s) : nextOk (execOuRealignWrite m v s) := h.write
theorem execEvTsRead_nextOk {m i} (h : regsOk s) : nextOk (execEvTsRead m i s) := h.read
theorem execEvResRead_nextOk {m g} (h : regsOk s) : nextOk (execEvResRead m g s) := h.read
theorem execEvGrpCfgWrite_nextOk {m g win v} (h : regsOk s) : nextOk (execEvGrpCfgWrite m g win v s) := h.write
theorem execEvCalWrite_nextOk {m i v} (h : regsOk s) : nextOk (execEvCalWrite m i v s) := h.write
theorem execTwForceTake_nextOk {m} (h : regsOk s) : nextOk (execTwForceTake m s) := h.write
theorem execTwForceRelease_nextOk {m} (h : regsOk s) : nextOk (execTwForceRelease m s) := h.write
theorem execPmSnapWrite_nextOk {m v} (h : regsOk s) : nextOk (execPmSnapWrite m v s) := h.write
theorem execPmClrWrite_nextOk {m v} (h : regsOk s) : nextOk (execPmClrWrite m v s) := h.write

/-! ### The operations of Machine/Power -/

theorem regsOk_powerUp (s : State) : regsOk s.powerUp := by
  have h : regsOk s.moduleReset := regsOk_moduleReset s
  exact (h.same.set.fold fun _ _ k => k.wr).same.ite h.same.set.wr

theorem execVinRise_nextOk {mv} (h : regsOk s) : nextOk (execVinRise mv s) := h.finishAny (regsOk_powerUp s)
theorem execVinReturn_nextOk {mv} (h : regsOk s) : nextOk (execVinReturn mv s) := h.finishAny (regsOk_powerUp s)
theorem regsOk.vinGone {tripped} (h : regsOk s) : regsOk (s.vinGone tripped) := h.same
theorem execVinLoss_nextOk {mv us} (h : regsOk s) : nextOk (execVinLoss mv us s) := h.finishAny h.vinGone
theorem execVinOvervoltage_nextOk {mv us} (h : regsOk s) : nextOk (execVinOvervoltage mv us s) := h.finishAny h.vinGone
theorem execVkeepLoss_nextOk {mv us} (h : regsOk s) : nextOk (execVkeepLoss mv us s) := h.finishAny h.same
theorem execOvenAtTemperature_nextOk (h : regsOk s) : nextOk (execOvenAtTemperature s) := h.finishIf h.raise.same.hlCauseEnds
theorem execV3p3OutLimit_nextOk {mv} (h : regsOk s) : nextOk (execV3p3OutLimit mv s) := h.finishAny (h.same.ite h.same.supplyOne.setB.twSelfFault)
theorem execV3p3OutRetry_nextOk (h : regsOk s) : nextOk (execV3p3OutRetry s) := h.finishAny h.same

theorem execRootLockLoss_nextOk (h : regsOk s) : nextOk (execRootLockLoss s) := by
  unfold Machine.execRootLockLoss
  extract_lets s₁ _ _ _ s₂
  have h₁ : regsOk s₁ := h.set.raise.raise
  have h₂ : regsOk s₂ := h₁.suspectSet.setChan.fold fun _ _ k => k.calLost
  refine h.finishIf ?_
  split
  next _ _ _ e =>
    exact (h₂.hlTransient.of_eq e).rootAction.ite (h₂.hlTransient.of_eq e).twSelfFault

theorem execRootFaultLasting_nextOk (h : regsOk s) : nextOk (execRootFaultLasting s) := h.finishIf (h.ite h.hlLasting).rootAction
theorem execRootRelock_nextOk (h : regsOk s) : nextOk (execRootRelock s) := h.finishIf h.set.same.hlCauseEnds

/-! ### The operations of Machine/Tod -/

theorem regsOk.setTod {x} (h : regsOk s) : regsOk (s.setTod x) := h.same
theorem regsOk.todOffer (h : regsOk s) : regsOk s.todOffer := h.refReturn.ite h.refLoss
theorem regsOk.todApply (h : regsOk s) : regsOk s.todApply := (h.setTod.set.setTod.ite h.setTod).todOffer
theorem execTbSecondBoundary_nextOk (h : regsOk s) : nextOk (execTbSecondBoundary s) := h.whenUp (h.todApply.setTod.ite h.todApply).same.finish

theorem execTodTxMessage_nextOk (h : regsOk s) : nextOk (execTodTxMessage s) := by
  unfold Machine.execTodTxMessage
  extract_lets _
  split
  · exact h.next
  · exact h.finishIf h.setTod.emit

theorem execRefEdgeCapture_nextOk {r} (h : regsOk s) : nextOk (execRefEdgeCapture r s) := h.finishIf h.setTod
theorem regsOk.todDisq (h : regsOk s) : regsOk s.todDisq := h.setTod.set.raise.raise.todOffer
theorem regsOk.todLasting (h : regsOk s) : regsOk s.todLasting := h.setTod.ite h.todDisq.hlLasting
theorem regsOk.todBad (h : regsOk s) : regsOk s.todBad := h.inc.setTod.todLasting.ite h.inc.setTod
theorem regsOk.todDiff {d} (h : regsOk s) : regsOk (s.todDiff d) := h.set.setTod.ite (h.set.setTod.inc.raise.stepNext.ite h.set.setTod.inc.raise)

theorem regsOk.todGood {d} (h : regsOk s) : regsOk (s.todGood d) := by
  unfold State.todGood
  extract_lets _ _ _
  split
  next _ _ s₁ e =>
    have h₁ : regsOk s₁ := by
      refine .of_eq ?_ e
      split
      · exact h.setTod.raise.hlTransient
      · exact h.setTod
    exact ((h₁.todDisq.ite h₁).raise.set.todOffer.ite (h₁.todDisq.ite h₁)).todDiff

theorem execTodRxMessage_nextOk {b ms} (h : regsOk s) : nextOk (execTodRxMessage b ms s) := by
  unfold Machine.execTodRxMessage
  refine h.finishIf ?_
  split
  · exact h.inc
  · exact h.inc.ite (h.todBad.ite h.todGood)

theorem execTodMissing_nextOk (h : regsOk s) : nextOk (execTodMissing s) := h.finishIf (h.inc.setTod.todLasting.ite h.inc.setTod)
theorem execTodConfig_nextOk {n} (h : regsOk s) : nextOk (execTodConfig n s) := h.mbRow fun _ _ k => .ite .reject (.ite .reject k.putW.setTod.ok)

/-! ### Every command -/

theorem exec_nextOk (h : regsOk s) (c : Instr) : nextOk (exec c s) := by
  cases c with
  | registerWrite => exact execRegisterWrite_nextOk h
  | rcrRead => exact execRcrRead_nextOk h
  | sysUnlockWrite => exact execSysUnlockWrite_nextOk h
  | sysResetModule => exact execSysResetModule_nextOk h
  | sysResetMp => exact execSysResetMp_nextOk h
  | mspWriteFrame => exact execMspWriteFrame_nextOk h
  | mspReadFrame => exact execMspReadFrame_nextOk h
  | mspUnknownCommand => exact execMspUnknownCommand_nextOk h
  | mspCsEarlyRise => exact execMspCsEarlyRise_nextOk h
  | mrstAssert => exact execMrstAssert_nextOk h
  | moduleResetEnd => exact execModuleResetEnd_nextOk h
  | perstAssert => exact execPerstAssert_nextOk h
  | pcieHotReset => exact execPcieHotReset_nextOk h
  | pcieFlr => exact execPcieFlr_nextOk h
  | pcieCoreResetEnd => exact execPcieCoreResetEnd_nextOk h
  | vinRise => exact execVinRise_nextOk h
  | vinReturn => exact execVinReturn_nextOk h
  | vinLoss => exact execVinLoss_nextOk h
  | vinOvervoltage => exact execVinOvervoltage_nextOk h
  | vkeepLoss => exact execVkeepLoss_nextOk h
  | ovenAtTemperature => exact execOvenAtTemperature_nextOk h
  | sysVecAckWrite => exact execSysVecAckWrite_nextOk h
  | vecHoldoffExpiry => exact execVecHoldoffExpiry_nextOk h
  | mbRequestWrite => exact execMbRequestWrite_nextOk h
  | mbDbWrite => exact execMbDbWrite_nextOk h
  | mbAckWrite => exact execMbAckWrite_nextOk h
  | mbTake => exact execMbTake_nextOk h
  | mpHang => exact execMpHang_nextOk h
  | mpWatchdogExpiry => exact execMpWatchdogExpiry_nextOk h
  | mpStart => exact execMpStart_nextOk h
  | sysGetInfo => exact execSysGetInfo_nextOk h
  | sysEcho => exact execSysEcho_nextOk h
  | tcGetStatus => exact execTcGetStatus_nextOk h
  | tcSetConfig => exact execTcSetConfig_nextOk h
  | tcSetRefPriority => exact execTcSetRefPriority_nextOk h
  | tcForceSelect => exact execTcForceSelect_nextOk h
  | tcGetHoldover => exact execTcGetHoldover_nextOk h
  | tcStorePreset => exact execTcStorePreset_nextOk h
  | tcRampStart => exact execTcRampStart_nextOk h
  | tcEsmcConfig => exact execTcEsmcConfig_nextOk h
  | ouSetPlan => exact execOuSetPlan_nextOk h
  | ouRealignCmd => exact execOuRealignCmd_nextOk h
  | ouGetStatus => exact execOuGetStatus_nextOk h
  | evSetGroup => exact execEvSetGroup_nextOk h
  | evCalStartCmd => exact execEvCalStartCmd_nextOk h
  | evGetCalTable => exact execEvGetCalTable_nextOk h
  | evSetCalTable => exact execEvSetCalTable_nextOk h
  | ptpSetProfile => exact execPtpSetProfile_nextOk h
  | ptpPortConfig => exact execPtpPortConfig_nextOk h
  | ptpGetStatus => exact execPtpGetStatus_nextOk h
  | ptpGetDataset => exact execPtpGetDataset_nextOk h
  | todConfig => exact execTodConfig_nextOk h
  | pxLinkEnable => exact execPxLinkEnable_nextOk h
  | pxCalibrate => exact execPxCalibrate_nextOk h
  | pxGetLink => exact execPxGetLink_nextOk h
  | pxSetAsym => exact execPxSetAsym_nextOk h
  | twGetStatus => exact execTwGetStatus_nextOk h
  | twConfig => exact execTwConfig_nextOk h
  | twForceRole => exact execTwForceRole_nextOk h
  | twLagConfig => exact execTwLagConfig_nextOk h
  | fuBegin => exact execFuBegin_nextOk h
  | fuBlock => exact execFuBlock_nextOk h
  | fuVerify => exact execFuVerify_nextOk h
  | fuActivate => exact execFuActivate_nextOk h
  | fuConfirm => exact execFuConfirm_nextOk h
  | fuStatus => exact execFuStatus_nextOk h
  | fuAbort => exact execFuAbort_nextOk h
  | hlGetHealth => exact execHlGetHealth_nextOk h
  | hlGetFaultLog => exact execHlGetFaultLog_nextOk h
  | hlRepair => exact execHlRepair_nextOk h
  | hlLoopback => exact execHlLoopback_nextOk h
  | hlOpticsRead => exact execHlOpticsRead_nextOk h
  | hlOpticsWrite => exact execHlOpticsWrite_nextOk h
  | pmGetTrace => exact execPmGetTrace_nextOk h
  | pmGetHistogram => exact execPmGetHistogram_nextOk h
  | cycleBoundary => exact execCycleBoundary_nextOk h
  | pxPublish => exact execPxPublish_nextOk h
  | loopUpdate => exact execLoopUpdate_nextOk h
  | switchComplete => exact execSwitchComplete_nextOk h
  | lockDeclared => exact execLockDeclared_nextOk h
  | frameBoundary => exact execFrameBoundary_nextOk h
  | slotPatternBoundary => exact execSlotPatternBoundary_nextOk h
  | flightBoundary => exact execFlightBoundary_nextOk h
  | tbTick => exact execTbTick_nextOk h
  | rootLockLoss => exact execRootLockLoss_nextOk h
  | rootRelock => exact execRootRelock_nextOk h
  | rootFaultLasting => exact execRootFaultLasting_nextOk h
  | lossOfSignal => exact execLossOfSignal_nextOk h
  | signalDetect => exact execSignalDetect_nextOk h
  | cdrLossOfLock => exact execCdrLossOfLock_nextOk h
  | cdrLock => exact execCdrLock_nextOk h
  | blockLockLoss => exact execBlockLockLoss_nextOk h
  | blockLock => exact execBlockLock_nextOk h
  | blockLockRetryExpiry => exact execBlockLockRetryExpiry_nextOk h
  | blockLockStableExpiry => exact execBlockLockStableExpiry_nextOk h
  | hiBerWindow => exact execHiBerWindow_nextOk h
  | alignmentLoss => exact execAlignmentLoss_nextOk h
  | alignment => exact execAlignment_nextOk h
  | remoteFaultReceive => exact execRemoteFaultReceive_nextOk h
  | bayModeApply => exact execBayModeApply_nextOk h
  | lnCalStart => exact execLnCalStart_nextOk h
  | lnCalEnd => exact execLnCalEnd_nextOk h
  | lnResetWrite => exact execLnResetWrite_nextOk h
  | laneResetEnd => exact execLaneResetEnd_nextOk h
  | eyePublish => exact execEyePublish_nextOk h
  | frameReceive => exact execFrameReceive_nextOk h
  | pauseFrameReceive => exact execPauseFrameReceive_nextOk h
  | pfcFrameReceive => exact execPfcFrameReceive_nextOk h
  | pauseExpiry => exact execPauseExpiry_nextOk h
  | portDisable => exact execPortDisable_nextOk h
  | drainDone => exact execDrainDone_nextOk h
  | drainTimeout => exact execDrainTimeout_nextOk h
  | portEnable => exact execPortEnable_nextOk h
  | frameTransmit => exact execFrameTransmit_nextOk h
  | parseClassify => exact execParseClassify_nextOk h
  | lateLengthCheck => exact execLateLengthCheck_nextOk h
  | prCtrlSwapWrite => exact execPrCtrlSwapWrite_nextOk h
  | prDrainComplete => exact execPrDrainComplete_nextOk h
  | recircSecondPass => exact execRecircSecondPass_nextOk h
  | recircAgeExpiry => exact execRecircAgeExpiry_nextOk h
  | learn => exact execLearn_nextOk h
  | refresh => exact execRefresh_nextOk h
  | destRefresh => exact execDestRefresh_nextOk h
  | ageEvent => exact execAgeEvent_nextOk h
  | failFilterExpiry => exact execFailFilterExpiry_nextOk h
  | ftAgeWrite => exact execFtAgeWrite_nextOk h
  | ftRingHeadWrite => exact execFtRingHeadWrite_nextOk h
  | ftRingEnable => exact execFtRingEnable_nextOk h
  | ftRingDisable => exact execFtRingDisable_nextOk h
  | nop => exact execNop_nextOk h
  | read => exact execRead_nextOk h
  | write => exact execWrite_nextOk h
  | lookup => exact execLookup_nextOk h
  | insert => exact execInsert_nextOk h
  | delete => exact execDelete_nextOk h
  | readBucket => exact execReadBucket_nextOk h
  | flush => exact execFlush_nextOk h
  | unlock => exact execUnlock_nextOk h
  | badOp => exact execBadOp_nextOk h
  | ftEpochAdvWrite => exact execFtEpochAdvWrite_nextOk h
  | drainEpochAdvance => exact execDrainEpochAdvance_nextOk h
  | ftLockExpiry => exact execFtLockExpiry_nextOk h
  | slotCrossing => exact execSlotCrossing_nextOk h
  | landingTimeout => exact execLandingTimeout_nextOk h
  | scMezzSwapWrite => exact execScMezzSwapWrite_nextOk h
  | mezzSwapComplete => exact execMezzSwapComplete_nextOk h
  | ageLimit => exact execAgeLimit_nextOk h
  | pfcRepeat => exact execPfcRepeat_nextOk h
  | cpuQueueDescriptor => exact execCpuQueueDescriptor_nextOk h
  | txDescriptor => exact execTxDescriptor_nextOk h
  | scRingHeadWrite => exact execScRingHeadWrite_nextOk h
  | scRingCfgWrite => exact execScRingCfgWrite_nextOk h
  | dlmRelease => exact execDlmRelease_nextOk h
  | treadStart => exact execTreadStart_nextOk h
  | gtTaqArmWrite => exact execGtTaqArmWrite_nextOk h
  | gtTaqArmGWrite => exact execGtTaqArmGWrite_nextOk h
  | taqExecute => exact execTaqExecute_nextOk h
  | gtTaqCancelWrite => exact execGtTaqCancelWrite_nextOk h
  | gtTaqCancelGrpWrite => exact execGtTaqCancelGrpWrite_nextOk h
  | tbSnapWrite => exact execTbSnapWrite_nextOk h
  | tbIncrLoWrite => exact execTbIncrLoWrite_nextOk h
  | tbIncrHiWrite => exact execTbIncrHiWrite_nextOk h
  | tbStepGo => exact execTbStepGo_nextOk h
  | tbSuspectClrWrite => exact execTbSuspectClrWrite_nextOk h
  | tbTxtsRead => exact execTbTxtsRead_nextOk h
  | tbSecondBoundary => exact execTbSecondBoundary_nextOk h
  | todTxMessage => exact execTodTxMessage_nextOk h
  | todRxMessage => exact execTodRxMessage_nextOk h
  | todMissing => exact execTodMissing_nextOk h
  | tcPtpOfsLoWrite => exact execTcPtpOfsLoWrite_nextOk h
  | tcPtpOfsHiWrite => exact execTcPtpOfsHiWrite_nextOk h
  | fplHelloSend => exact execFplHelloSend_nextOk h
  | fplPingSend => exact execFplPingSend_nextOk h
  | fplHelloReceive => exact execFplHelloReceive_nextOk h
  | fplPingReceive => exact execFplPingReceive_nextOk h
  | fplPongReceive => exact execFplPongReceive_nextOk h
  | fplByeReceive => exact execFplByeReceive_nextOk h
  | fplExchangeMiss => exact execFplExchangeMiss_nextOk h
  | fplCalibrationStart => exact execFplCalibrationStart_nextOk h
  | fplCalibrationEnd => exact execFplCalibrationEnd_nextOk h
  | pxRefRenewWrite => exact execPxRefRenewWrite_nextOk h
  | leaseExpiry => exact execLeaseExpiry_nextOk h
  | asymPairWindow => exact execAsymPairWindow_nextOk h
  | refActivityLoss => exact execRefActivityLoss_nextOk h
  | refActivityReturn => exact execRefActivityReturn_nextOk h
  | refMonitorUpdate => exact execRefMonitorUpdate_nextOk h
  | qualifyingComplete => exact execQualifyingComplete_nextOk h
  | degradedRecovery => exact execDegradedRecovery_nextOk h
  | wtrExpiry => exact execWtrExpiry_nextOk h
  | holdoverRecord => exact execHoldoverRecord_nextOk h
  | holdoverRefit => exact execHoldoverRefit_nextOk h
  | holdoverTeUpdate => exact execHoldoverTeUpdate_nextOk h
  | tcResetWrite => exact execTcResetWrite_nextOk h
  | tcResetEnd => exact execTcResetEnd_nextOk h
  | tcTdcCalWrite => exact execTcTdcCalWrite_nextOk h
  | tdcCalEnd => exact execTdcCalEnd_nextOk h
  | dcoAtFrequency => exact execDcoAtFrequency_nextOk h
  | rampStart => exact execRampStart_nextOk h
  | rampSegmentEnd => exact execRampSegmentEnd_nextOk h
  | ouRampStopWrite => exact execOuRampStopWrite_nextOk h
  | esmcPduSend => exact execEsmcPduSend_nextOk h
  | esmcPduReceive => exact execEsmcPduReceive_nextOk h
  | esmcTimeout => exact execEsmcTimeout_nextOk h
  | qlHoldExpiry => exact execQlHoldExpiry_nextOk h
  | ouRealignWrite => exact execOuRealignWrite_nextOk h
  | pulseEdge => exact execPulseEdge_nextOk h
  | pathDelayUpdate => exact execPathDelayUpdate_nextOk h
  | evtEdge => exact execEvtEdge_nextOk h
  | evTsRead => exact execEvTsRead_nextOk h
  | evGroupResult => exact execEvGroupResult_nextOk h
  | evResRead => exact execEvResRead_nextOk h
  | evGrpCfgWrite => exact execEvGrpCfgWrite_nextOk h
  | evCalWrite => exact execEvCalWrite_nextOk h
  | evCalEnd => exact execEvCalEnd_nextOk h
  | tdcTableUpdate => exact execTdcTableUpdate_nextOk h
  | galStateReceive => exact execGalStateReceive_nextOk h
  | galDeltaReceive => exact execGalDeltaReceive_nextOk h
  | galBulkReceive => exact execGalBulkReceive_nextOk h
  | galElectReceive => exact execGalElectReceive_nextOk h
  | galTakeoverReceive => exact execGalTakeoverReceive_nextOk h
  | galReleaseReceive => exact execGalReleaseReceive_nextOk h
  | galReplyReceive => exact execGalReplyReceive_nextOk h
  | galStateMissing => exact execGalStateMissing_nextOk h
  | twCheckPoint => exact execTwCheckPoint_nextOk h
  | electWaitExpiry => exact execElectWaitExpiry_nextOk h
  | hbInLost => exact execHbInLost_nextOk h
  | takeoverReleaseWait => exact execTakeoverReleaseWait_nextOk h
  | twForceTake => exact execTwForceTake_nextOk h
  | twForceRelease => exact execTwForceRelease_nextOk h
  | faultCauseExpiry => exact execFaultCauseExpiry_nextOk h
  | resyncComplete => exact execResyncComplete_nextOk h
  | lacpduTemplateSend => exact execLacpduTemplateSend_nextOk h
  | fuVerifyComplete => exact execFuVerifyComplete_nextOk h
  | trialWindowExpiry => exact execTrialWindowExpiry_nextOk h
  | activateReset => exact execActivateReset_nextOk h
  | abortRevert => exact execAbortRevert_nextOk h
  | spareRowRepair => exact execSpareRowRepair_nextOk h
  | dbmRowRepair => exact execDbmRowRepair_nextOk h
  | mezzTest => exact execMezzTest_nextOk h
  | hlTdcAutocal => exact execHlTdcAutocal_nextOk h
  | tempSample => exact execTempSample_nextOk h
  | supplySample => exact execSupplySample_nextOk h
  | ovenFault => exact execOvenFault_nextOk h
  | heldFaultRelease => exact execHeldFaultRelease_nextOk h
  | wdogHoldExpiry => exact execWdogHoldExpiry_nextOk h
  | faultLogWrite => exact execFaultLogWrite_nextOk h
  | v3p3OutLimit => exact execV3p3OutLimit_nextOk h
  | v3p3OutRetry => exact execV3p3OutRetry_nextOk h
  | pmSnapWrite => exact execPmSnapWrite_nextOk h
  | pmClrWrite => exact execPmClrWrite_nextOk h
  | bwWindowEnd => exact execBwWindowEnd_nextOk h
  | mpHistAccumulate => exact execMpHistAccumulate_nextOk h
  | configSpaceWrite => exact execConfigSpaceWrite_nextOk h
  | remoteFaultEnd => exact execRemoteFaultEnd_nextOk h
  | refEdgeCapture => exact execRefEdgeCapture_nextOk h
  | mpSramEccFault => exact execMpSramEccFault_nextOk h
  | loopbackTestEnd => exact execLoopbackTestEnd_nextOk h
  | i2cTransferEnd => exact execI2cTransferEnd_nextOk h
  | blockProgramEnd => exact execBlockProgramEnd_nextOk h
  | handoverPauseEnd => exact execHandoverPauseEnd_nextOk h
  | ptpMessageSend => exact execPtpMessageSend_nextOk h
  | ptpMessageReceive => exact execPtpMessageReceive_nextOk h
  | lacpduSend => exact execLacpduSend_nextOk h
  | lacpduReceive => exact execLacpduReceive_nextOk h

theorem step_nextOk (h : regsOk s) : nextOk (step s) := by
  unfold step
  split
  · exact h.next
  · exact exec_nextOk h.same _

/-! ### The state of a reset -/

theorem delivered_reset : delivered State.reset := by
  unfold delivered
  decide +kernel

theorem atReset_reset : atReset keptOverReset State.reset := fun _ ha =>
  rd_reset (fun e => ha (e ▸ by decide)) (fun e => ha (e ▸ by decide))

theorem mailboxes_reset : ∀ n : Nat, n < 4 → State.reset.mbState n = mbIdle ∧ State.reset.mbOwns .msp n = decide (n = 3) ∧
    State.reset.mbOwns .pcie n = decide (n < 3) := by
  decide +kernel

end Sys2Proof

namespace Sys2Proof

/-- Settles O57: every command's meaning keeps `regsOk` (`exec_nextOk`), and taking the command from the queue leaves the registers. -/
theorem reservedBitsStayZero : Obligations.ReservedBitsStayZero := by
  unfold Obligations.ReservedBitsStayZero
  exact fun _ t h e => step_nextOk h t e

/-- Settles O53: all but two registers read the map's reset value, and the rest of the state is evaluated. -/
theorem resetValues : Obligations.ResetValues := by
  unfold Obligations.ResetValues
  exact ⟨rfl, regsOk_reset, delivered_reset, atReset_reset, ⟨rfl, by decide +kernel, by decide +kernel⟩, mailboxes_reset, by decide +kernel⟩

end Sys2Proof
end

section
/-! PROOFS. The statements of the architecture chapter. -/

namespace Sys2Proof

open Sys2Proof.Machine

/-! ### Commands that leave a resting module alone (R28, R485) -/

/-- The outcome is a next state, and on a module at rest it is the state as it was. -/
def idlesAtRest (s : State) (o : Host.Outcome State Fault Refusal) : Prop :=
  (∃ t, o = .next t) ∧ (s.up = false → o = .next s)

/-- The outcome is a next state. -/
def goesOn (o : Host.Outcome State Fault Refusal) : Prop := ∃ t, o = .next t

theorem goesOn.next {s : State} : goesOn (.next s) := ⟨s, rfl⟩

theorem goesOn.finish {s : State} : goesOn (finish s) := ⟨_, rfl⟩

theorem goesOn.finishAny {c : Bool} {s t : State} : goesOn (finishAny c s t) := by
  unfold Machine.finishAny
  split
  · exact goesOn.finish
  · exact goesOn.next

theorem goesOn.ite {p : Prop} [Decidable p] {x y : Host.Outcome State Fault Refusal} (hx : goesOn x) (hy : goesOn y) :
    goesOn (if p then x else y) := by
  split
  · exact hx
  · exact hy

theorem idlesAtRest.next {s : State} : idlesAtRest s (.next s) := ⟨goesOn.next, fun _ => rfl⟩

theorem idlesAtRest.whenUp {s : State} {o : Host.Outcome State Fault Refusal} (h : goesOn o) : idlesAtRest s (whenUp s o) := by
  unfold Machine.whenUp
  refine ⟨?_, fun hdown => by simp [hdown]⟩
  split
  · exact h
  · exact goesOn.next

theorem idlesAtRest.finishIf {c : Bool} {s t : State} : idlesAtRest s (finishIf c s t) := by
  unfold Machine.finishIf
  refine ⟨?_, fun hdown => by simp [hdown]⟩
  split
  · exact goesOn.finish
  · exact goesOn.next
theorem learnHead_idlesAtRest (s : State) (k : Nat) : idlesAtRest s (s.learnHead k) := by
  unfold State.learnHead
  split
  · exact .next
  · split
    · exact .finishIf
    · exact .next

theorem mpTake_idlesAtRest (s : State) (c kind : Nat) (f : Pkt → State → State) : idlesAtRest s (s.mpTake c kind f) := by
  unfold State.mpTake
  split
  · exact .finishIf
  · exact .finishIf

theorem exec_idlesAtRest (s : State) (c : Instr) (h : actsAtRest c = false) : idlesAtRest s (exec c s) := by
  cases c
  case mrstAssert | moduleResetEnd | perstAssert | vinRise | vinReturn | vinLoss | vinOvervoltage | vkeepLoss | tbTick | v3p3OutLimit |
       v3p3OutRetry => cases h
  case registerWrite | rcrRead | sysUnlockWrite | sysResetModule | sysResetMp | mspWriteFrame | mspReadFrame | mspUnknownCommand |
       mspCsEarlyRise | pcieHotReset | pcieFlr | pcieCoreResetEnd | ovenAtTemperature | sysVecAckWrite | vecHoldoffExpiry |
       mbRequestWrite | mbDbWrite | mbAckWrite | mbTake | mpHang | mpWatchdogExpiry | mpStart | sysGetInfo | sysEcho | tcGetStatus |
       tcSetConfig | tcSetRefPriority | tcForceSelect | tcGetHoldover | tcStorePreset | tcRampStart | tcEsmcConfig | ouSetPlan |
       ouRealignCmd | ouGetStatus | evSetGroup | evCalStartCmd | evGetCalTable | evSetCalTable | ptpSetProfile | ptpPortConfig |
       ptpGetStatus | ptpGetDataset | todConfig | pxLinkEnable | pxCalibrate | pxGetLink | pxSetAsym | twGetStatus | twConfig |
       twForceRole | twLagConfig | fuBegin | fuBlock | fuVerify | fuActivate | fuConfirm | fuStatus | fuAbort | hlGetHealth |
       hlGetFaultLog | hlRepair | hlLoopback | hlOpticsRead | hlOpticsWrite | pmGetTrace | pmGetHistogram | cycleBoundary |
       switchComplete | lockDeclared | frameBoundary | slotPatternBoundary | flightBoundary | rootLockLoss | rootRelock |
       rootFaultLasting | lossOfSignal | signalDetect | cdrLossOfLock | cdrLock | blockLockLoss | blockLock | blockLockRetryExpiry |
       blockLockStableExpiry | hiBerWindow | alignmentLoss | alignment | remoteFaultReceive | bayModeApply | lnCalEnd | lnResetWrite |
       laneResetEnd | eyePublish | frameReceive | pauseFrameReceive | pfcFrameReceive | pauseExpiry | portDisable | drainDone |
       drainTimeout | portEnable | frameTransmit | prCtrlSwapWrite | prDrainComplete | ageEvent | ftAgeWrite | ftRingHeadWrite |
       ftRingEnable | ftRingDisable | nop | read | write | lookup | insert | delete | readBucket | flush | unlock | badOp |
       ftEpochAdvWrite | drainEpochAdvance | scMezzSwapWrite | pfcRepeat | txDescriptor | treadStart | gtTaqArmWrite | gtTaqArmGWrite |
       gtTaqCancelWrite | gtTaqCancelGrpWrite | tbSnapWrite | tbIncrLoWrite | tbIncrHiWrite | tbStepGo | tbSuspectClrWrite | tbTxtsRead |
       todRxMessage | todMissing | tcPtpOfsLoWrite | tcPtpOfsHiWrite | fplHelloSend | fplPingSend | fplHelloReceive | fplPingReceive |
       fplPongReceive | fplByeReceive | fplExchangeMiss | fplCalibrationStart | fplCalibrationEnd | pxRefRenewWrite | leaseExpiry |
       asymPairWindow | refActivityLoss | refActivityReturn | refMonitorUpdate | qualifyingComplete | degradedRecovery | wtrExpiry |
       holdoverRecord | holdoverRefit | holdoverTeUpdate | tcResetWrite | tcResetEnd | tcTdcCalWrite | tdcCalEnd | dcoAtFrequency |
       ouRampStopWrite | esmcPduSend | esmcPduReceive | esmcTimeout | qlHoldExpiry | ouRealignWrite | pulseEdge | evtEdge | evTsRead |
       evResRead | evGrpCfgWrite | evCalWrite | evCalEnd | galStateMissing | electWaitExpiry | hbInLost | twForceTake | twForceRelease |
       faultCauseExpiry | resyncComplete | lacpduTemplateSend | fuVerifyComplete | trialWindowExpiry | activateReset | abortRevert |
       spareRowRepair | dbmRowRepair | mezzTest | hlTdcAutocal | ovenFault | heldFaultRelease | wdogHoldExpiry | pmSnapWrite | pmClrWrite |
       bwWindowEnd | mpHistAccumulate | configSpaceWrite | remoteFaultEnd | refEdgeCapture | i2cTransferEnd | lacpduSend => exact .finishIf
  case mezzSwapComplete | taqExecute | takeoverReleaseWait =>
    dsimp only [exec,
      execMezzSwapComplete, execTaqExecute, execTakeoverReleaseWait]
    split
    · exact .finishIf
    · exact .next
  case todTxMessage | rampStart | rampSegmentEnd | ftLockExpiry | blockProgramEnd | handoverPauseEnd | ptpMessageSend | recircAgeExpiry |
       failFilterExpiry | ageLimit | evGroupResult | faultLogWrite =>
    dsimp only [exec,
      execTodTxMessage, execRampStart, execRampSegmentEnd, execFtLockExpiry, execBlockProgramEnd, execHandoverPauseEnd, execPtpMessageSend,
      execRecircAgeExpiry, execFailFilterExpiry, execAgeLimit, execEvGroupResult, execFaultLogWrite]
    split
    · exact .next
    · exact .finishIf
  case galDeltaReceive | galTakeoverReceive | galReleaseReceive | galReplyReceive =>
    dsimp only [exec,
      execGalDeltaReceive, execGalTakeoverReceive, execGalReleaseReceive, execGalReplyReceive]
    split
    · exact .finishIf
    · exact .finishIf
    · exact .next
  case galBulkReceive =>
    dsimp only [exec,
      execGalBulkReceive]
    split
    · exact .finishIf
    · exact .finishIf
    · exact .finishIf
    · exact .next
  case galElectReceive =>
    dsimp only [exec, execGalElectReceive]
    split
    · exact .finishIf
    · split
      · exact .finishIf
      · exact .finishIf
    · exact .next
  case galStateReceive =>
    dsimp only [exec,
      execGalStateReceive]
    split
    · exact .finishIf
    · exact .finishIf
    · exact .next
  case lnCalStart | scRingHeadWrite | scRingCfgWrite =>
    dsimp only [exec,
      execLnCalStart, execScRingHeadWrite, execScRingCfgWrite]
    split
    · exact .finishIf
    · exact .finishIf
  case cpuQueueDescriptor =>
    dsimp only [exec]
    unfold execCpuQueueDescriptor
    split
    exact .finishIf
  case recircSecondPass =>
    dsimp only [exec, execRecircSecondPass]
    split
    · exact .next
    · exact .finishIf
  case learn | refresh | destRefresh => exact learnHead_idlesAtRest _ _
  case ptpMessageReceive | lacpduReceive =>
    dsimp only [exec, execPtpMessageReceive, execLacpduReceive]
    exact mpTake_idlesAtRest _ _ _ _
  case pxPublish | loopUpdate | slotCrossing | tbSecondBoundary | pathDelayUpdate | tdcTableUpdate | twCheckPoint | tempSample |
       supplySample | mpSramEccFault => exact .whenUp goesOn.finish
  case parseClassify | lateLengthCheck | landingTimeout | loopbackTestEnd =>
    refine .whenUp ?_
    extract_lets
    split
    · exact goesOn.next
    · exact goesOn.finish
  case dlmRelease =>
    refine .whenUp ?_
    split
    · exact goesOn.next
    · exact .ite goesOn.finish goesOn.finish

theorem exec_goesOn (s : State) (c : Instr) : goesOn (exec c s) := by
  cases h : actsAtRest c with
  | false => exact (exec_idlesAtRest s c h).1
  | true =>
    cases c
    case mrstAssert | moduleResetEnd | perstAssert | vinRise | vinReturn | vinLoss | vinOvervoltage | vkeepLoss | tbTick | v3p3OutLimit |
         v3p3OutRetry => exact goesOn.finishAny
    all_goals cases h

/-- Settles O55: each command's meaning ends in `finish` behind a gate that asks for a running module, or hands the state back; the commands of supplies,
resets and the tick end in `finishAny`. -/
theorem noCommandStops : Obligations.NoCommandStops := by
  unfold Obligations.NoCommandStops
  refine ⟨fun c s => exec_goesOn s c, fun s => ?_, fun c s hdown hrest => (exec_idlesAtRest s c hrest).2 hdown⟩
  unfold step
  split
  · exact goesOn.next
  · exact exec_goesOn _ _

/-! ### Two statements that some states do not meet -/

/-- A pending word of LN_TXEQ[0] that holds a reserved bit: no write of a field removes it. -/
def reservedPending : State := { State.reset with pend := [(LN_TXEQ 0, 0x80, 0)] }

/-- The word that the write leaves waiting holds the reserved bit of the one before it. -/
theorem shadow_reservedPending :
    (reservedPending.accessWrite (Req.word .pcie (LN_TXEQ 0)) 0 0).deliver.shadow (LN_TXEQ 0) = 0x80 := by decide

/-- Refutes O1: its clause on LN_TXEQ speaks of every state, and a write keeps the bits of the waiting word that belong to no field, so in a state whose
waiting word of LN_TXEQ[0] holds a reserved bit the shadow does not read as the written fields alone. -/
theorem not_hostRegisterAccess : ¬ Obligations.HostRegisterAccess := by
  unfold Obligations.HostRegisterAccess
  rintro ⟨-, hshadowed, -⟩
  obtain ⟨t, ht, hshadow, -⟩ := hshadowed .pcie 0 0 0 reservedPending (by decide) (by decide)
  have hexec : exec (.registerWrite (Req.word .pcie (LN_TXEQ 0)) 0 0) reservedPending
      = .next (reservedPending.accessWrite (Req.word .pcie (LN_TXEQ 0)) 0 0).deliver := rfl
  cases ht.symm.trans hexec
  rw [Fin.val_zero, shadow_reservedPending] at hshadow
  exact absurd hshadow (by decide)

/-- A committed increment of 5 with a snapshot asked for in a fourth set: R245 has three, and the words of a fourth would be TB_INCR. -/
def fourthSnapshot : State := { State.reset with time := { State.reset.time with incr := some 5, snaps := [3] } }

/-- The latched seconds have overwritten the increment that came into force. -/
theorem tbIncr_tick_fourthSnapshot : fourthSnapshot.tick.deliver.tbIncr = 0 := by decide

/-- Refutes O29: its clause on a committed increment speaks of every state, and on a tick the snapshot sets asked for latch after the increment came into
force. In a state that asks for a set beyond the three of R245, that latch falls on TB_INCR_LO and TB_INCR_HI. -/
theorem not_theTimeTick : ¬ Obligations.TheTimeTick := by
  unfold Obligations.TheTimeTick
  rintro ⟨-, hincr, -⟩
  obtain ⟨t, ht, -, h5, -⟩ := hincr 5 fourthSnapshot (.inl rfl) rfl (by decide) rfl rfl
  have e : exec .tbTick fourthSnapshot = .next fourthSnapshot.tick.deliver := rfl
  cases ht.symm.trans e
  rw [tbIncr_tick_fourthSnapshot] at h5
  exact absurd h5 (by decide)

/-! ### The designations (R17) -/

theorem timeCh_set_designations (s : State) (c d : Fin 6) :
    ((s.set TC_ROLES_time_ch c).set TC_ROLES_synce_ch d).timeCh = c := by
  unfold State.timeCh
  rw [State.get_set_bits (f := TC_ROLES_synce_ch) (g := TC_ROLES_time_ch) _ _ rfl (by decide) (by decide),
    State.get_set_same (f := TC_ROLES_time_ch) _ _ (by decide)]
  exact Nat.mod_eq_of_lt (Nat.lt_trans c.isLt (by decide))

theorem synceCh_set_designations (s : State) (c d : Fin 6) :
    ((s.set TC_ROLES_time_ch c).set TC_ROLES_synce_ch d).synceCh = d := by
  unfold State.synceCh
  rw [State.get_set_same (f := TC_ROLES_synce_ch) _ _ (by decide)]
  exact Nat.mod_eq_of_lt (Nat.lt_trans d.isLt (by decide))

/-- Settles O60: the two fields lie apart in TC_ROLES, and each holds any channel number. -/
theorem designations : Obligations.Designations := by
  unfold Obligations.Designations
  exact ⟨by decide, fun s c d => ⟨timeCh_set_designations s c d, synceCh_set_designations s c d⟩⟩

end Sys2Proof
end

section
/-! PROOFS. What a word access of a master does (R50 to R54, R60). -/

namespace Sys2Proof.Machine

/-! ### Where an access leads -/

/-- The row without an index that an ordinary word address names, when no part lacks it, no write of it has a write-one-to-clear field, and `guarded` says
whether a write of it takes the guard. -/
def loneRow (a : Nat) (guarded : Bool) : Bool :=
  match regFind a with
  | some (r, 0, 0) =>
    decide (r.base = a) && r.absent1.isEmpty && r.absent2.isEmpty && (r.fields.filter fun f => f.acc = .wo1).isEmpty &&
      (decide (r.mask .gw = 0) == !guarded)
  | _ => false

/-- An ordinary word address: aligned, below the peek alias, inside a block of registers and outside its shadow window (R50, R51). -/
def ordinary (a : Nat) : Bool :=
  decide (a % 4 = 0) && decide (a < 0x2000000) &&
  match blocks.find? fun b => decide (b.1 ≤ a) && decide (a < b.1 + b.2.1) with
  | some b => (b.2.2 && decide (b.1 + 0x8000 ≤ a) && decide (a < b.1 + 0x10000)) == false
  | none => false

theorem widthOk_word {m : Master} {a : Nat} (h : ordinary a = true) : widthOk (Req.word m a) = true := by
  simp only [ordinary, Bool.and_eq_true, decide_eq_true_eq] at h
  simp [widthOk, Req.word, h.1.1]

theorem not_isPeek_ordinary {a : Nat} (h : ordinary a = true) : isPeek a = false := by
  simp only [ordinary, Bool.and_eq_true, decide_eq_true_eq] at h
  obtain ⟨⟨-, hlow⟩, -⟩ := h
  simp [isPeek, Nat.not_le.2 hlow]

/-- An ordinary address leads to the row that holds it, when the part has it. -/
theorem State.reach_ordinary {s : State} {m : Master} {a i j : Nat} {r : Reg} (h : ordinary a = true) (hrow : regFind a = some (r, i, j))
    (hpresent : s.absent r i j = false) : s.reach (Req.word m a) = .inl ⟨a, r, i, j, false, false⟩ := by
  have hpeek := not_isPeek_ordinary h
  unfold State.reach
  rw [if_pos (widthOk_word h)]
  simp only [ordinary, Bool.and_eq_true, decide_eq_true_eq] at h
  obtain ⟨⟨-, hlow⟩, hblock⟩ := h
  show s.locate a = _
  rw [State.locate, hpeek, if_neg Bool.false_ne_true, if_pos hlow, State.locateAt]
  split at hblock
  next b hb =>
    rw [hb]
    dsimp only
    rw [beq_iff_eq.1 hblock]
    simp [hrow, hpresent]
  next => cases hblock

theorem reaches_iff {m : Master} {s : State} : reaches m s = true ↔ (s.up = true ∧ s.canReach m = true) ∧ ¬ (m = .pcie ∧ s.host.d3hot = true) := by
  simp [reaches, imp_iff_not_or]

/-- A write that reaches the register is the write of its place. -/
theorem State.write_ordinary {s : State} {m : Master} {a : Nat} {p : Place} (v : Word) (hr : reaches m s = true) (h : ordinary a = true)
    (hp : s.reach (Req.word m a) = .inl p) : s.write (Req.word m a) v 0 = .next (s.writePlace m a p v).deliver := by
  obtain ⟨⟨hup, hreach⟩, hawake⟩ := reaches_iff.1 hr
  have hbus : s.busWrite (Req.word m a) v 0 = (false, s.writePlace m a p v) := by
    unfold State.busWrite
    rw [hp]
    simp [Req.word, not_isPeek_ordinary h]
  have hword : s.accessWrite (Req.word m a) v 0 = s.writePlace m a p v := by
    unfold State.accessWrite
    rw [if_neg (by simpa [Req.word] using hawake), hbus]
    simp
  rw [State.write, hword]
  simp [finishIf, Req.word, hreach, hup, finish]

/-- A read that reaches the register hands out the word of its place. -/
theorem State.read_ordinary {s : State} {m : Master} {a : Nat} {p : Place} (hr : reaches m s = true) (hp : s.reach (Req.word m a) = .inl p) :
    s.read (Req.word m a) = .next ((s.readPlace m p).2.emit (.readData m a (some (s.readPlace m p).1))).deliver := by
  obtain ⟨⟨hup, hreach⟩, hawake⟩ := reaches_iff.1 hr
  have hbus : s.busRead (Req.word m a) = (some [(s.readPlace m p).1], (s.readPlace m p).2) := by
    unfold State.busRead
    rw [hp]
    simp [Req.word]
  have hword : s.accessRead (Req.word m a) = (s.readPlace m p).2.emit (.readData m a (some (s.readPlace m p).1)) := by
    unfold State.accessRead
    rw [if_neg (by simpa [Req.word] using hawake), hbus]
    simp [Req.word]
  rw [State.read, hword]
  simp [finishIf, Req.word, hreach, hup, finish]

/-- The guard of master `m` is spent. The MP and the TAQ hold none. -/
def State.spendGuard (s : State) (m : Master) : State :=
  match m with
  | .pcie => { s with host := { s.host with guardPcie := false } }
  | .msp => { s with host := { s.host with guardMsp := false } }
  | .mp => s
  | .taq => s

theorem State.guardTake_open {s : State} {m : Master} {a : Nat} {r : Reg} (hopen : guardOpen m s = true) (hguarded : r.mask .gw ≠ 0) :
    s.guardTake m a r = (true, s.spendGuard m) := by
  unfold State.guardTake
  rw [if_neg hguarded]
  cases m with
  | pcie | msp => simp only [guardOpen] at hopen; simp [hopen, State.spendGuard]
  | mp | taq => rfl

theorem State.guardTake_closed {s : State} {m : Master} {a : Nat} {r : Reg} (hclosed : guardOpen m s = false) (hguarded : r.mask .gw ≠ 0) :
    s.guardTake m a r = (false, s.guardViol m false a) := by
  unfold State.guardTake
  rw [if_neg hguarded]
  cases m with
  | pcie | msp => simp only [guardOpen] at hclosed; simp [hclosed]
  | mp | taq => cases hclosed

/-- A write of an unindexed register that the guard does not protect. -/
theorem State.write_lone {s : State} {m : Master} {a : Nat} (v : Word) (hr : reaches m s = true) (ho : ordinary a = true)
    (hrow : loneRow a false = true) : ∃ p : Place, p.a = a ∧ p.r.base = a ∧ s.write (Req.word m a) v 0 = .next (s.writeAt m p true v).deliver := by
  unfold loneRow at hrow
  split at hrow
  next r hfind =>
    simp only [Bool.and_eq_true, decide_eq_true_eq, List.isEmpty_iff, beq_iff_eq, Bool.not_false] at hrow
    obtain ⟨⟨⟨⟨hbase, habs1⟩, habs2⟩, hwo⟩, hgw⟩ := hrow
    refine ⟨⟨a, r, 0, 0, false, false⟩, rfl, hbase, ?_⟩
    rw [State.write_ordinary v hr ho (State.reach_ordinary ho hfind (by simp [State.absent, habs1, habs2, inRanges]))]
    simp [State.writePlace, State.guardTake, hgw, hwo]
  next => cases hrow

/-- A write of an unindexed guarded register: with the guard open it acts and spends the guard, and otherwise it is a violation. -/
theorem State.write_lone_guarded {s : State} {m : Master} {a : Nat} (v : Word) (hr : reaches m s = true) (ho : ordinary a = true)
    (hrow : loneRow a true = true) : ∃ p : Place, p.a = a ∧ p.r.base = a ∧
      s.write (Req.word m a) v 0 =
        .next (if guardOpen m s then (s.spendGuard m).writeAt m p true v else (s.guardViol m false a).writeAt m p false v).deliver := by
  unfold loneRow at hrow
  split at hrow
  next r hfind =>
    simp only [Bool.and_eq_true, decide_eq_true_eq, List.isEmpty_iff, beq_iff_eq, Bool.not_true, decide_eq_false_iff_not] at hrow
    obtain ⟨⟨⟨⟨hbase, habs1⟩, habs2⟩, hwo⟩, hgw⟩ := hrow
    refine ⟨⟨a, r, 0, 0, false, false⟩, rfl, hbase, ?_⟩
    rw [State.write_ordinary v hr ho (State.reach_ordinary ho hfind (by simp [State.absent, habs1, habs2, inRanges]))]
    cases hopen : guardOpen m s with
    | true => simp [State.writePlace, State.guardTake_open hopen hgw, hwo]
    | false => simp [State.writePlace, State.guardTake_closed hopen hgw, hwo]
  next => cases hrow

end Sys2Proof.Machine
end

section
/-! PROOFS. What a change leaves alone, and what the delivery of interrupts at its end keeps. -/

namespace Sys2Proof.Machine

/-! ### Registers -/

theorem onlyRegs.refl {l : List Nat} {s : State} : onlyRegs l s s := fun _ _ => rfl

theorem onlyRegs.wr {l : List Nat} {s t : State} {a : Nat} {w : Word} (g : onlyRegs l s t) (h : a ∈ l) : onlyRegs l s (t.wr a w) := fun b hb => by
  rw [State.rd_wr_ne _ _ (ne_of_mem_of_not_mem h hb).symm, g b hb]

theorem onlyRegs.set {l : List Nat} {s t : State} {f : FRef} {v : Nat} (g : onlyRegs l s t) (h : f.addr ∈ l) : onlyRegs l s (t.set f v) := onlyRegs.wr g h

theorem onlyRegs.capture {l : List Nat} {s t : State} {a : Nat} {w : Word} (g : onlyRegs l s t) (h : a ∈ l) : onlyRegs l s (t.capture a w) := by
  unfold State.capture State.captureAt
  split
  · exact onlyRegs.set g h
  · exact onlyRegs.wr g h

@[simp] theorem State.rd_emit (s : State) (x : Sent) (a : Nat) : (s.emit x).rd a = s.rd a := rfl

@[simp] theorem State.get_emit (s : State) (x : Sent) (f : FRef) : (s.emit x).get f = s.get f := rfl

/-- A single bit is a field of width 1. -/
theorem State.bit_eq_on (s : State) (a n : Nat) : s.bit a n = s.on ⟨a, n, n⟩ := by
  simp [State.bit, State.on, State.get, bitOf, bitsOf]

/-! ### Interrupts -/

theorem State.get_deliver (s : State) {f : FRef} (h0 : f.addr ≠ SYS_PBA 0) (h1 : f.addr ≠ SYS_PBA 1) : s.deliver.get f = s.get f := by
  rw [State.get, State.rd_deliver _ _ h0 h1, State.get]

theorem State.on_deliver (s : State) {f : FRef} (h0 : f.addr ≠ SYS_PBA 0) (h1 : f.addr ≠ SYS_PBA 1) : s.deliver.on f = s.on f := by
  rw [State.on, State.get_deliver _ h0 h1, State.on]

theorem State.bit_deliver (s : State) {a n : Nat} (h0 : a ≠ SYS_PBA 0) (h1 : a ≠ SYS_PBA 1) : s.deliver.bit a n = s.bit a n := by
  rw [State.bit, State.rd_deliver _ _ h0 h1, State.bit]

theorem State.serveVec_sent {s : State} {x : Sent} (v : Nat) (h : x ∈ s.sent) : x ∈ (s.serveVec v).sent := by
  have hsend : x ∈ (s.sendVec v).sent := List.mem_cons_of_mem _ h
  unfold State.serveVec
  dsimp only
  split <;> split <;> assumption

/-- What was sent stays sent when interrupts are delivered. -/
theorem State.deliver_sent {s : State} {x : Sent} (h : x ∈ s.sent) : x ∈ s.deliver.sent := by
  unfold State.deliver
  split
  · exact h
  · refine List.foldlRecOn (motive := fun t : State => x ∈ t.sent) _ _ h fun t ht v _ => State.serveVec_sent v ht

/-- A change of registers and parts, followed by the delivery of interrupts. -/
theorem onlyChanges.deliver {regs : List Nat} {parts : List Part} {s t : State} (hr : onlyRegs regs s t)
    (hp : onlyParts (parts ++ [.regs, .host, .sent]) s t) : onlyChanges regs parts s t.deliver := by
  refine ⟨fun a ha => ?_, (State.deliver_keeps t (by simp)).2 hp⟩
  simp only [List.mem_append, List.mem_cons, List.not_mem_nil, or_false, not_or] at ha
  obtain ⟨hregs, h0, h1⟩ := ha
  rw [State.rd_deliver t a h0 h1, hr a hregs]

/-- Any set of parts that covers what the delivery of interrupts changes. -/
theorem onlyParts.deliver {l : List Part} {s t : State} (hp : onlyParts l s t) (h : [(.regs : Part), .sent, .host].all (l.contains ·) = true) :
    onlyParts l s t.deliver := (State.deliver_keeps t h).2 hp

/-- A command whose condition holds, of a module that is up, ends with the delivery of interrupts. -/
theorem finishIf_next {c : Bool} {s t : State} (hc : c = true) (hup : s.up = true) : finishIf c s t = .next t.deliver := by
  rw [finishIf, hc, hup]
  rfl

/-! ### The guard -/

theorem State.rd_spendGuard (s : State) (m : Master) (a : Nat) : (s.spendGuard m).rd a = s.rd a := by cases m <;> rfl

@[simp] theorem State.get_spendGuard (s : State) (m : Master) (f : FRef) : (s.spendGuard m).get f = s.get f := by
  rw [State.get, State.rd_spendGuard, State.get]

@[simp] theorem State.on_spendGuard (s : State) (m : Master) (f : FRef) : (s.spendGuard m).on f = s.on f := by
  rw [State.on, State.get_spendGuard, State.on]

@[simp] theorem State.spendGuard_time (s : State) (m : Master) : (s.spendGuard m).time = s.time := by cases m <;> rfl

theorem onlyRegs.spendGuard {l : List Nat} {s : State} (m : Master) : onlyRegs l s (s.spendGuard m) := fun a _ => s.rd_spendGuard m a

theorem State.spendGuard_parts (s : State) (m : Master) : onlyParts [.host] s (s.spendGuard m) := by
  cases m with
  | pcie | msp => exact (with_host (by decide)).2 onlyParts.refl
  | mp | taq => exact onlyParts.refl

theorem State.spendGuard_keeps {l : List Part} {s₀ : State} (s : State) (m : Master) (h : [(.host : Part)].all (l.contains ·) = true) :
    onlyParts l s₀ (s.spendGuard m) ↔ onlyParts l s₀ s := onlyParts.step (s.spendGuard_parts m) h

end Sys2Proof.Machine
end

section
/-! PROOFS. Writes and reads of the time base's registers (R245, R246, R248, R251, R262). -/

namespace Sys2Proof.Machine

/-! ### Where a write of the time base acts -/

theorem State.writeAt_timeBase {s : State} {m : Master} {p : Place} {gw : Bool} {v : Word} (hlo : 0x700000 ≤ p.a) (hhi : p.a < 0x740000) :
    s.writeAt m p gw v = s.writeTb m p gw v := by
  unfold State.writeAt
  rw [if_neg (by omega), if_neg (by omega), if_neg (by omega), if_neg (by omega), if_neg (by omega), if_neg (by omega), if_neg (by omega), if_pos hhi]

section
variable {s : State} {m : Master} {p : Place} {gw : Bool} {v : Word}

theorem State.writeTb_CTRL (h : p.r.base = TB_CTRL) : s.writeTb m p gw v = if gw then s.suspectClrWrite v else s := if_pos h

theorem State.writeTb_SNAP (h : p.r.base = TB_SNAP) : s.writeTb m p gw v = s.snapWrite m :=
  (if_neg (by rw [h]; decide)).trans (if_pos h)

theorem State.writeTb_INCR_LO (h : p.r.base = TB_INCR_LO) : s.writeTb m p gw v = s.incrStage v :=
  (if_neg (by rw [h]; decide)).trans ((if_neg (by rw [h]; decide)).trans (if_pos h))

theorem State.writeTb_INCR_HI (h : p.r.base = TB_INCR_HI) : s.writeTb m p gw v = s.incrCommit m v :=
  (if_neg (by rw [h]; decide)).trans ((if_neg (by rw [h]; decide)).trans ((if_neg (by rw [h]; decide)).trans (if_pos h)))

theorem State.writeTb_STEP (h : p.r.base = TB_STEP) : s.writeTb m p gw v = if gw then s.stepGo v else s :=
  (if_neg (by rw [h]; decide)).trans ((if_neg (by rw [h]; decide)).trans ((if_neg (by rw [h]; decide)).trans
    ((if_neg (by rw [h]; decide)).trans (if_pos h))))

end

section
variable {s : State} {m : Master} (v : Word) (hr : reaches m s = true)
include hr

theorem write_TB_SNAP : s.write (Req.word m TB_SNAP) v 0 = .next (s.snapWrite m).deliver := by
  obtain ⟨p, ha, hbase, hw⟩ := State.write_lone (a := TB_SNAP) v hr (by decide) (by decide)
  rw [hw, State.writeAt_timeBase (by rw [ha]; decide) (by rw [ha]; decide), State.writeTb_SNAP hbase]

theorem write_TB_INCR_LO : s.write (Req.word m TB_INCR_LO) v 0 = .next (s.incrStage v).deliver := by
  obtain ⟨p, ha, hbase, hw⟩ := State.write_lone (a := TB_INCR_LO) v hr (by decide) (by decide)
  rw [hw, State.writeAt_timeBase (by rw [ha]; decide) (by rw [ha]; decide), State.writeTb_INCR_LO hbase]

theorem write_TB_INCR_HI : s.write (Req.word m TB_INCR_HI) v 0 = .next (s.incrCommit m v).deliver := by
  obtain ⟨p, ha, hbase, hw⟩ := State.write_lone (a := TB_INCR_HI) v hr (by decide) (by decide)
  rw [hw, State.writeAt_timeBase (by rw [ha]; decide) (by rw [ha]; decide), State.writeTb_INCR_HI hbase]

theorem write_TB_STEP (hopen : guardOpen m s = true) : s.write (Req.word m TB_STEP) v 0 = .next ((s.spendGuard m).stepGo v).deliver := by
  obtain ⟨p, ha, hbase, hw⟩ := State.write_lone_guarded (a := TB_STEP) v hr (by decide) (by decide)
  rw [hw, hopen, if_pos rfl, State.writeAt_timeBase (by rw [ha]; decide) (by rw [ha]; decide), State.writeTb_STEP hbase, if_pos rfl]

theorem write_TB_CTRL (hopen : guardOpen m s = true) :
    s.write (Req.word m TB_CTRL) v 0 = .next ((s.spendGuard m).suspectClrWrite v).deliver := by
  obtain ⟨p, ha, hbase, hw⟩ := State.write_lone_guarded (a := TB_CTRL) v hr (by decide) (by decide)
  rw [hw, hopen, if_pos rfl, State.writeAt_timeBase (by rw [ha]; decide) (by rw [ha]; decide), State.writeTb_CTRL hbase, if_pos rfl]

end

/-- TB_TXTS of each port that the part has is one register. -/
theorem regFind_TB_TXTS (p : Fin 48) : (regFind (TB_TXTS p)).any (fun e => decide (e.2 = (p.val, 0)) && decide (e.1.base = TB_TXTS 0) &&
    decide (e.1.absent1 = [(24, 47)]) && decide (e.1.absent2 = [])) = true ∧ ordinary (TB_TXTS p) = true := by
  revert p
  decide

theorem State.view_TXTS {s : State} {m : Master} {p : Place} (h : p.r.base = TB_TXTS 0) : s.view m p = s.txtsView m p.i := by
  unfold State.view
  rw [h]
  simp [TB_TXTS, SYS_DEV_ID, SYS_UNLOCK, SYS_SRC_LO, SYS_SRC_HI, PM_USER, HL_STAT, LN_PEND, PT_PEND, PR_PEND, PR_STAT, SC_PEND, SC_DBM_STAT, GT_PEND, GT_POS,
    GT_TAQ_STAT]

theorem State.readEffect_TXTS {s : State} {m : Master} {p : Place} (h : p.r.base = TB_TXTS 0) : s.readEffect m p = s.txtsPop m p.i := if_pos h

/-- A read of TB_TXTS hands out the view of the queue and pops it. -/
theorem read_TB_TXTS {s : State} {m : Master} (p : Fin 48) (hr : reaches m s = true) (hp : p.val < s.lanes) :
    s.read (Req.word m (TB_TXTS p)) = .next ((s.txtsPop m p).emit (.readData m (TB_TXTS p) (some (s.txtsView m p)))).deliver := by
  obtain ⟨hrow, ho⟩ := regFind_TB_TXTS p
  cases hfind : regFind (TB_TXTS p) with
  | none => simp [hfind] at hrow
  | some e =>
    obtain ⟨r, i, j⟩ := e
    simp only [hfind, Option.any_some, Bool.and_eq_true, decide_eq_true_eq, Prod.mk.injEq] at hrow
    obtain ⟨⟨⟨⟨rfl, rfl⟩, hbase⟩, habs1⟩, habs2⟩ := hrow
    have hpresent : s.absent r p 0 = false := by
      unfold State.lanes at hp
      cases hv : s.variant with
      | fh4848 => simp [State.absent, hv]
      | fh4824 =>
        simp only [hv] at hp
        simp [State.absent, habs1, habs2, inRanges, Nat.not_le.2 hp]
    rw [State.read_ordinary hr (State.reach_ordinary ho hfind hpresent)]
    simp only [State.readPlace, Bool.false_eq_true, if_false]
    rw [State.view_TXTS hbase, State.readEffect_TXTS hbase]

end Sys2Proof.Machine
end

section
/-! PROOFS. Statement O28: the registers of the time base. -/

namespace Sys2Proof

open Sys2Proof.Machine

section
variable (m : Master) (v : Word) (s : State) (hr : reaches m s = true)
include hr

theorem tbSnapWrite_snaps (k : Nat) (hk : snapSet m = some k) :
    ∃ t, goesTo (.tbSnapWrite m v) s t ∧ t.time = { s.time with snaps := insertN k s.time.snaps } ∧ onlyChanges [] [.time] s t := by
  have hsnap : s.snapWrite m = { s with time := { s.time with snaps := insertN k s.time.snaps } } := by rw [State.snapWrite, hk]
  refine ⟨_, write_TB_SNAP v hr, ?_, ?_⟩
  · rw [State.deliver_time, hsnap]
  · rw [hsnap]
    exact onlyChanges.deliver (fun _ _ => rfl) ((with_time (by decide)).2 onlyParts.refl)

theorem tbIncrLoWrite_stages : ∃ t, goesTo (.tbIncrLoWrite m v) s t ∧ t.time = { s.time with lo := v } ∧ onlyChanges [] [.time] s t :=
  ⟨_, write_TB_INCR_LO v hr, State.deliver_time _, onlyChanges.deliver (fun _ _ => rfl) ((with_time (by decide)).2 onlyParts.refl)⟩

theorem tbIncrHiWrite_locked (hlocked : s.tcState s.timeCh = 2) (hfree : s.on TB_OWN_VIOL_valid = false) :
    ∃ t, goesTo (.tbIncrHiWrite m v) s t ∧ t.on TB_OWN_VIOL_valid = true ∧ t.get TB_OWN_VIOL_port = portBit m ∧ t.on TB_INT_STAT_own_viol = true ∧
      onlyChanges [TB_OWN_VIOL, TB_INT_STAT] [] s t := by
  have hcommit : s.incrCommit m v =
      (s.capture TB_OWN_VIOL (BitVec.ofNat 32 (portBit m * 2 ^ 30 + flag (m = .taq) * 2 ^ 29))).raise TB_INT_STAT_own_viol := by
    rw [State.incrCommit, if_pos hlocked]
  have hopen : s.bit TB_OWN_VIOL 31 = false := by simpa [State.on, State.get, State.bit, bitsOf, bitOf, TB_OWN_VIOL_valid] using hfree
  have hcapture : (s.capture TB_OWN_VIOL (BitVec.ofNat 32 (portBit m * 2 ^ 30 + flag (m = .taq) * 2 ^ 29))).rd TB_OWN_VIOL =
      (BitVec.ofNat 32 (portBit m * 2 ^ 30 + flag (m = .taq) * 2 ^ 29) ||| 0x80000000) &&& fieldBits TB_OWN_VIOL := by
    rw [State.capture, State.captureAt, if_neg (by simp [hopen]), State.rd_wr_same]
  refine ⟨_, write_TB_INCR_HI v hr, ?_, ?_, ?_, ?_⟩
  · rw [State.on_deliver _ (by decide) (by decide), hcommit, State.raise_eq, State.on, State.get_set_addr _ _ (by decide), State.get]
    show decide (bitsOf (State.rd _ TB_OWN_VIOL) 31 31 = 1) = true
    rw [hcapture]
    cases m <;> decide
  · rw [State.get_deliver _ (by decide) (by decide), hcommit, State.raise_eq, State.get_set_addr _ _ (by decide), State.get]
    show bitsOf (State.rd _ TB_OWN_VIOL) 30 30 = _
    rw [hcapture]
    cases m <;> decide
  · rw [State.on_deliver _ (by decide) (by decide), hcommit]
    exact State.on_raise _ (by decide) rfl
  · rw [hcommit, State.raise_eq]
    exact onlyChanges.deliver (onlyRegs.set (onlyRegs.capture onlyRegs.refl (by simp)) (by simp [TB_INT_STAT_own_viol]))
      ((State.set_keeps _ _ _ (by decide)).2 ((State.capture_keeps _ _ _ (by decide)).2 onlyParts.refl))

theorem tbIncrHiWrite_outOfRange (hlocked : s.tcState s.timeCh ≠ 2)
    (hrange : s.time.lo.toNat + bitsOf v 7 0 * 2 ^ 32 < incrMin ∨ incrMax < s.time.lo.toNat + bitsOf v 7 0 * 2 ^ 32) :
    ∃ t, goesTo (.tbIncrHiWrite m v) s t ∧ t.on TB_INT_STAT_incr_bad = true ∧ onlyChanges [TB_INT_STAT] [] s t := by
  have hcommit : s.incrCommit m v = s.raise TB_INT_STAT_incr_bad := by rw [State.incrCommit, if_neg hlocked, if_pos hrange]
  refine ⟨_, write_TB_INCR_HI v hr, ?_, ?_⟩
  · rw [State.on_deliver _ (by decide) (by decide), hcommit]
    exact State.on_raise _ (by decide) rfl
  · rw [hcommit, State.raise_eq]
    exact onlyChanges.deliver (onlyRegs.set onlyRegs.refl (by simp [TB_INT_STAT_incr_bad])) ((State.set_keeps _ _ _ (by decide)).2 onlyParts.refl)

theorem tbIncrHiWrite_commits (hlocked : s.tcState s.timeCh ≠ 2) (hmin : incrMin ≤ s.time.lo.toNat + bitsOf v 7 0 * 2 ^ 32)
    (hmax : s.time.lo.toNat + bitsOf v 7 0 * 2 ^ 32 ≤ incrMax) :
    ∃ t, goesTo (.tbIncrHiWrite m v) s t ∧ t.time = { s.time with incr := some (s.time.lo.toNat + bitsOf v 7 0 * 2 ^ 32) } ∧
      onlyChanges [] [.time] s t := by
  have hcommit : s.incrCommit m v = s.incrNext (s.time.lo.toNat + bitsOf v 7 0 * 2 ^ 32) := by
    rw [State.incrCommit, if_neg hlocked, if_neg (not_or.2 ⟨Nat.not_lt.2 hmin, Nat.not_lt.2 hmax⟩)]
  refine ⟨_, write_TB_INCR_HI v hr, ?_, ?_⟩
  · rw [State.deliver_time, hcommit]
    rfl
  · rw [hcommit]
    exact onlyChanges.deliver (fun _ _ => rfl) ((with_time (by decide)).2 onlyParts.refl)

theorem tbStepGo_queues (hopen : guardOpen m s = true) (hgo : bitOf v.toNat 0 = true) (hns : s.get TB_STEP_NS_ns ≤ 999999999) :
    ∃ t, goesTo (.tbStepGo m v) s t ∧ t.time =
      { s.time with step := some ((if s.on TB_STEP_NS_neg then -((((s.get TB_STEP_SEC_LO_sec_lo + s.get TB_STEP_W1_sec_hi * 2 ^ 32) * 1000000000 + s.get TB_STEP_NS_ns) * 2 ^ 32 + s.get TB_STEP_W1_frac * 2 ^ 16 : Nat) : Int) else ((((s.get TB_STEP_SEC_LO_sec_lo + s.get TB_STEP_W1_sec_hi * 2 ^ 32) * 1000000000 + s.get TB_STEP_NS_ns) * 2 ^ 32 + s.get TB_STEP_W1_frac * 2 ^ 16 : Nat) : Int)) + s.time.step.getD 0) }
      ∧ onlyChanges [] [.time] s t := by
  have hstep : ∃ d, (s.spendGuard m).stepGo v = (s.spendGuard m).stepNext d ∧ d = if s.on TB_STEP_NS_neg then
      -((((s.get TB_STEP_SEC_LO_sec_lo + s.get TB_STEP_W1_sec_hi * 2 ^ 32) * 1000000000 + s.get TB_STEP_NS_ns) * 2 ^ 32 + s.get TB_STEP_W1_frac * 2 ^ 16 : Nat) : Int)
      else ((((s.get TB_STEP_SEC_LO_sec_lo + s.get TB_STEP_W1_sec_hi * 2 ^ 32) * 1000000000 + s.get TB_STEP_NS_ns) * 2 ^ 32 + s.get TB_STEP_W1_frac * 2 ^ 16 : Nat) : Int) := by
    refine ⟨_, ?_, rfl⟩
    rw [State.stepGo, if_neg (by simp [hgo]), if_neg (by simpa using hns)]
    simp only [State.get_spendGuard, State.on_spendGuard]
  obtain ⟨d, hstep, hd⟩ := hstep
  refine ⟨_, write_TB_STEP v hr hopen, ?_, ?_⟩
  · rw [State.deliver_time, hstep, ← hd, State.stepNext, State.spendGuard_time]
  · rw [hstep]
    exact onlyChanges.deliver (fun a _ => s.rd_spendGuard m a) ((with_time (by decide)).2 ((State.spendGuard_keeps _ _ (by decide)).2 onlyParts.refl))

theorem tbStepGo_outOfRange (hopen : guardOpen m s = true) (hgo : bitOf v.toNat 0 = true) (hns : 999999999 < s.get TB_STEP_NS_ns) :
    ∃ t, goesTo (.tbStepGo m v) s t ∧ t.on TB_INT_STAT_step_bad = true ∧ onlyChanges [TB_INT_STAT] [] s t := by
  have hstep : (s.spendGuard m).stepGo v = (s.spendGuard m).raise TB_INT_STAT_step_bad := by
    rw [State.stepGo, if_neg (by simp [hgo]), if_pos (by simpa using hns)]
  refine ⟨_, write_TB_STEP v hr hopen, ?_, ?_⟩
  · rw [State.on_deliver _ (by decide) (by decide), hstep]
    exact State.on_raise _ (by decide) rfl
  · rw [hstep, State.raise_eq]
    exact onlyChanges.deliver (onlyRegs.set (onlyRegs.spendGuard m) (by simp [TB_INT_STAT_step_bad]))
      ((State.set_keeps _ _ _ (by decide)).2 ((State.spendGuard_keeps _ _ (by decide)).2 onlyParts.refl))

theorem tbSuspectClrWrite_clears (hopen : guardOpen m s = true) (hclr : bitOf v.toNat 0 = true) (hlocked : s.rootLocked = true) :
    ∃ t, goesTo (.tbSuspectClrWrite m v) s t ∧ t.on TB_STAT_suspect = false ∧
      (s.on TB_STAT_suspect = true → t.on TB_STAT_cause_root = false ∧ t.on TB_STAT_cause_restart = false ∧ t.on TB_INT_STAT_suspect_clear = true) ∧
      onlyChanges [TB_STAT, TB_INT_STAT] [] s t := by
  have hclear : (s.spendGuard m).suspectClrWrite v = (s.spendGuard m).suspectClear := by
    have hlocked' : (s.spendGuard m).rootLocked = true := by rw [State.rootLocked, State.on_spendGuard]; exact hlocked
    rw [State.suspectClrWrite, if_pos ⟨hclr, hlocked'⟩]
  refine ⟨_, write_TB_CTRL v hr hopen, ?_⟩
  rw [hclear, State.suspectClear, State.on_spendGuard]
  cases hsuspect : s.on TB_STAT_suspect with
  | false =>
    rw [if_pos (by simp)]
    refine ⟨?_, fun h => (Bool.false_ne_true h).elim, ?_⟩
    · rw [State.on_deliver _ (by decide) (by decide), State.on_spendGuard, hsuspect]
    · exact onlyChanges.deliver (onlyRegs.spendGuard m) ((State.spendGuard_keeps _ _ (by decide)).2 onlyParts.refl)
  | true =>
    rw [if_neg (by simp), State.raise_eq]
    refine ⟨?_, fun _ => ⟨?_, ?_, ?_⟩, ?_⟩
    · rw [State.on_deliver _ (by decide) (by decide)]
      simp (disch := decide) [State.on, State.get_set_addr, State.get_set_bits, State.get_set_same]
    · rw [State.on_deliver _ (by decide) (by decide)]
      simp (disch := decide) [State.on, State.get_set_addr, State.get_set_bits, State.get_set_same]
    · rw [State.on_deliver _ (by decide) (by decide)]
      simp (disch := decide) [State.on, State.get_set_addr, State.get_set_same]
    · rw [State.on_deliver _ (by decide) (by decide)]
      exact State.on_raise _ (by decide) rfl
    · refine onlyChanges.deliver (onlyRegs.set (onlyRegs.set (onlyRegs.set (onlyRegs.set (onlyRegs.spendGuard m) ?_) ?_) ?_) ?_) ?_
      · simp [TB_STAT_suspect]
      · simp [TB_STAT_cause_root]
      · simp [TB_STAT_cause_restart]
      · simp [TB_INT_STAT_suspect_clear]
      · simp (disch := decide) only [State.set_keeps, State.spendGuard_keeps, onlyParts.self]

theorem tbSuspectClrWrite_unlocked (hopen : guardOpen m s = true) (hlocked : s.rootLocked = false) :
    ∃ t, goesTo (.tbSuspectClrWrite m v) s t ∧ onlyChanges [] [] s t := by
  have hstay : (s.spendGuard m).suspectClrWrite v = s.spendGuard m := by
    have hlocked' : (s.spendGuard m).rootLocked = false := by rw [State.rootLocked, State.on_spendGuard]; exact hlocked
    rw [State.suspectClrWrite, if_neg (by simp [hlocked'])]
  refine ⟨_, write_TB_CTRL v hr hopen, ?_⟩
  rw [hstay]
  exact onlyChanges.deliver (onlyRegs.spendGuard m) ((State.spendGuard_keeps _ _ (by decide)).2 onlyParts.refl)

omit hr in
/-- The latched time of a port lies in fields of the map. -/
theorem txts_ok (p : Fin 48) : (TB_TXTS_SEC_sec_lo p).ok = true ∧ (TB_TXTS_NS_ns p).ok = true := by
  revert p
  decide

theorem tbTxtsRead_pops (p : Fin 48) (e : TxStamp) (l : List TxStamp) (hp : p.val < s.lanes) (howns : s.txtsOwns m p = true)
    (hqueue : s.txts.get [] p = e :: l) :
    ∃ t, goesTo (.tbTxtsRead m p) s t ∧ Sent.readData m (TB_TXTS p) (some (txWord e l.length)) ∈ t.sent ∧ t.txts.get [] p = l ∧
      t.get (TB_TXTS_SEC_sec_lo p) = e.time.sec % 2 ^ 32 ∧ t.get (TB_TXTS_NS_ns p) = e.time.ns % 2 ^ 30 ∧
      onlyChanges [TB_TXTS_SEC p, TB_TXTS_W2 p, TB_TXTS_NS p] [.txts] s t := by
  have hword : s.txtsView m p = txWord e l.length := by rw [State.txtsView, hqueue]; simp [howns]
  have htake : s.txtsPop m p = ((((({ s with txts := s.txts.put [] p l } : State).set (TB_TXTS_SEC_sec_lo p) e.time.sec).set
      (TB_TXTS_W2_sec_hi p) (e.time.sec / 2 ^ 32)).set (TB_TXTS_W2_frac p) e.time.frac16).set (TB_TXTS_NS_ns p) e.time.ns) := by
    rw [State.txtsPop, hqueue]; simp [howns]
  refine ⟨_, read_TB_TXTS p hr hp, ?_, ?_, ?_, ?_, ?_⟩
  · rw [hword]
    exact State.deliver_sent List.mem_cons_self
  · rw [State.deliver_txts, htake]
    exact Tab.get_put_same ..
  · rw [State.get_deliver _ (by simp [TB_TXTS_SEC_sec_lo, TB_TXTS_SEC, SYS_PBA]; omega) (by simp [TB_TXTS_SEC_sec_lo, TB_TXTS_SEC, SYS_PBA]; omega), htake,
      State.get_emit, State.get_set_addr (f := TB_TXTS_NS_ns p), State.get_set_addr (f := TB_TXTS_W2_frac p),
      State.get_set_addr (f := TB_TXTS_W2_sec_hi p), State.get_set_same _ _ (txts_ok p).1]
    · rfl
    all_goals simp [TB_TXTS_SEC_sec_lo, TB_TXTS_W2_sec_hi, TB_TXTS_W2_frac, TB_TXTS_NS_ns, TB_TXTS_SEC, TB_TXTS_W2, TB_TXTS_NS]
  · rw [State.get_deliver _ (by simp [TB_TXTS_NS_ns, TB_TXTS_NS, SYS_PBA]; omega) (by simp [TB_TXTS_NS_ns, TB_TXTS_NS, SYS_PBA]; omega), htake,
      State.get_emit, State.get_set_same _ _ (txts_ok p).2]
    rfl
  · rw [htake]
    refine onlyChanges.deliver (fun a ha => ?_) ?_
    · simp only [List.mem_cons, List.not_mem_nil, or_false, not_or] at ha
      obtain ⟨hsec, hw2, hns⟩ := ha
      rw [State.rd_emit, State.rd_set_ne _ _ hns, State.rd_set_ne _ _ hw2, State.rd_set_ne _ _ hw2, State.rd_set_ne _ _ hsec]
      rfl
    · simp (disch := decide) only [State.emit_keeps, State.set_keeps, with_txts, onlyParts.self]

end

/-- Settles O28, register by register. -/
theorem timeBaseRegisters : Obligations.TimeBaseRegisters := by
  unfold Obligations.TimeBaseRegisters
  exact ⟨fun m v k s hr hk => tbSnapWrite_snaps m v s hr k hk, tbIncrLoWrite_stages, tbIncrHiWrite_locked, tbIncrHiWrite_outOfRange,
    tbIncrHiWrite_commits, tbStepGo_queues, tbStepGo_outOfRange, tbSuspectClrWrite_clears, tbSuspectClrWrite_unlocked,
    fun m p e l s hr hp howns hqueue => tbTxtsRead_pops m s hr p e l hp howns hqueue⟩

end Sys2Proof
end

section
/-! PROOFS. The end of a slot pattern and the swap of a mezzanine (R174, R179). -/

namespace Sys2Proof.Machine

/-! ### Pending values -/

theorem State.takePend_of_none {s : State} {p : Nat → Bool} (h : ∀ e ∈ s.pend, p e.1 = false) : s.takePend p = ([], s) := by
  have hnow : (s.pend.filter fun e => p e.1 && captured s.clk e) = [] := by
    rw [List.filter_eq_nil_iff]
    intro e he
    simp [h e he]
  have hlater : (s.pend.filter fun e => !(p e.1 && captured s.clk e)) = s.pend := by
    rw [List.filter_eq_self]
    intro e he
    simp [h e he]
  rw [State.takePend, hnow, hlater]

/-- A pending value that applies is written, and the list is empty when there was no other. -/
theorem State.applyPend_single {s : State} {p : Nat → Bool} {e : Nat × Word × Nat} (hpend : s.pend = [e]) (hp : p e.1 = true)
    (hcaptured : captured s.clk e = true) : s.applyPend p = State.wr { s with pend := [] } e.1 e.2.1 := by
  simp [State.applyPend, hpend, hp, hcaptured]

theorem State.foldl_wr_pend (l : List (Nat × Word × Nat)) (s : State) : (l.foldl (fun t e => t.wr e.1 e.2.1) s).pend = s.pend :=
  foldl_keeps (fun (t : State) (e : Nat × Word × Nat) => t.wr e.1 e.2.1) State.pend (fun _ _ => rfl) l s

/-- What stays pending after captured values applied was not captured, or lies elsewhere. -/
theorem State.pend_applyPend {s : State} {p : Nat → Bool} {e : Nat × Word × Nat} (h : e ∈ (s.applyPend p).pend) (hp : p e.1 = true) :
    captured s.clk e = false := by
  simp only [State.applyPend, State.foldl_wr_pend, List.mem_filter, Bool.not_eq_true', Bool.and_eq_false_iff, hp] at h
  simpa using h.2

/-! ### The boundary, stage by stage -/

/-- Ports whose mode of flow control is another than before begin anew (R201). -/
def State.flowModes (s : State) (was : List Nat) : State := (List.range 48).foldl (fun s p => s.flowMode p (was.getD p 0)) s

/-- The SC registers and reservations once the captured writes apply (R33, R208). -/
def State.patternWrites (s : State) : State :=
  let t := (s.takePend isRes).2
  ((t.applyPend fun a => decide (groupOf a = .switch)).flowModes ((List.range 48).map fun p => t.get (SC_FC_CFG_mode p))).applyRes
    (s.takePend isRes).1

/-- A swap that waits begins (R179). -/
def State.swapBegin (s : State) : State :=
  match s.sc.swap with
  | some w => if w.started then s else
    let s := { s with sc := { s.sc with swap := some { w with started := true } } }
    s.set ⟨SC_MEZZ_IDLE, w.pos, w.pos⟩ 0
  | none => s

theorem exec_slotPatternBoundary {s : State} (hup : s.up = true) (hslot : s.sc.slot = 0) :
    exec .slotPatternBoundary s = .next s.patternWrites.swapBegin.dlmCheck.deliver := by
  show finishIf (decide (s.sc.slot = 0)) s s.patternWrites.swapBegin.dlmCheck = _
  exact finishIf_next (by simp [hslot]) hup

theorem State.rd_flowMode (s : State) (p was a : Nat) : (s.flowMode p was).rd a = s.rd a := by
  unfold State.flowMode
  split <;> rfl

theorem State.rd_flowModes (s : State) (was : List Nat) (a : Nat) : (s.flowModes was).rd a = s.rd a :=
  foldl_keeps _ (fun t => t.rd a) (fun _ _ => State.rd_flowMode _ _ _ a) _ s

theorem State.flowMode_same {s : State} {p was : Nat} (h : s.get (SC_FC_CFG_mode p) = was) : s.flowMode p was = s := if_pos h

/-- Where no mode of flow control changed, nothing does. -/
theorem State.flowModes_same {s : State} {f : Nat → Nat} (h : ∀ p < 48, s.get (SC_FC_CFG_mode p) = f p) :
    s.flowModes ((List.range 48).map f) = s := by
  have hfold : ∀ l : List Nat, (∀ p ∈ l, p < 48) → l.foldl (fun s p => s.flowMode p (((List.range 48).map f).getD p 0)) s = s := by
    intro l
    induction l with
    | nil => exact fun _ => rfl
    | cons p l ih =>
      intro hl
      have hp : p < 48 := hl p List.mem_cons_self
      rw [List.foldl_cons, State.flowMode_same (by simp [h p hp, hp])]
      exact ih fun q hq => hl q (List.mem_cons_of_mem _ hq)
  exact hfold _ fun p hp => List.mem_range.1 hp

/-- The switch cores differ in the thresholds that are passed at most. -/
def Switch.sameButAbove (c d : Switch) : Prop := d = { c with above := d.above }

theorem Switch.sameButAbove.put {c d : Switch} {x : Tab Nat} (h : c.sameButAbove d) : c.sameButAbove { d with above := x } := by
  have hsame := congrArg (fun e : Switch => { e with above := x }) (show d = { c with above := d.above } from h)
  exact hsame

theorem State.flowMode_sc {c : Switch} {s : State} (p was : Nat) (h : c.sameButAbove s.sc) : c.sameButAbove (s.flowMode p was).sc := by
  unfold State.flowMode
  split
  · exact h
  · show c.sameButAbove { s.sc with above := s.sc.above.put 0 p 0 }
    exact Switch.sameButAbove.put h

/-- A change of mode touches nothing of the switch core but the thresholds that are passed. -/
theorem State.flowModes_sc (s : State) (was : List Nat) : s.sc.sameButAbove (s.flowModes was).sc := by
  unfold State.flowModes
  generalize List.range 48 = ports
  exact List.foldlRecOn (motive := fun t : State => s.sc.sameButAbove t.sc) ports (fun s p => s.flowMode p (was.getD p 0)) rfl
    fun t ht p _ => State.flowMode_sc p _ ht

theorem State.applyRes_nil (s : State) : s.applyRes [] = s := rfl

theorem State.swapBegin_none {s : State} (h : s.sc.swap = none) : s.swapBegin = s := by rw [State.swapBegin, h]

theorem Switch.with_swap {c : Switch} {w : Option MezzSwap} (h : c.swap = w) : { c with swap := w } = c := by
  subst h
  rfl

theorem State.swapBegin_sc {s : State} {w : MezzSwap} (h : s.sc.swap = some w) : s.swapBegin.sc = { s.sc with swap := some { w with started := true } } := by
  rw [State.swapBegin, h]
  dsimp only
  split
  next hstarted =>
    have hw : { w with started := true } = w := by cases w; simp_all
    rw [hw, Switch.with_swap h]
  next => rfl

theorem State.swapBegin_pend (s : State) : s.swapBegin.pend = s.pend := by
  unfold State.swapBegin
  split
  · split <;> rfl
  · rfl

theorem State.swapBegin_parts (s : State) : onlyParts [.regs, .sc] s s.swapBegin := by
  unfold State.swapBegin
  split
  · split
    · exact onlyParts.refl
    · exact (State.set_keeps _ _ _ (by decide)).2 ((with_sc (by decide)).2 onlyParts.refl)
  · exact onlyParts.refl

theorem State.swapBegin_keeps {l : List Part} {s₀ : State} (s : State) (h : [(.regs : Part), .sc].all (l.contains ·) = true) :
    onlyParts l s₀ s.swapBegin ↔ onlyParts l s₀ s := onlyParts.step s.swapBegin_parts h

/-- A position that begins its swap is no longer idle. -/
theorem State.swapBegin_busy {s : State} {w : MezzSwap} (h : s.sc.swap = some w) (hstarted : w.started = false) (hpos : w.pos < 16) :
    s.swapBegin.bit SC_MEZZ_IDLE w.pos = false := by
  have hfield : ∀ n : Fin 16, FRef.ok ⟨SC_MEZZ_IDLE, n, n⟩ = true := by decide
  rw [State.swapBegin, h]
  simp only [hstarted, Bool.false_eq_true, if_false]
  rw [State.bit_eq_on, State.on, State.get_set_same _ _ (hfield ⟨w.pos, hpos⟩)]
  simp

theorem State.flowModes_keeps {l : List Part} {s₀ : State} (s : State) (was : List Nat) (h : [(.sc : Part)].all (l.contains ·) = true) :
    onlyParts l s₀ (s.flowModes was) ↔ onlyParts l s₀ s :=
  onlyParts.step (onlyParts.fold (fun u p => u.flowMode_parts p _) _ onlyParts.refl) h

theorem State.flowModes_pend (s : State) (was : List Nat) : (s.flowModes was).pend = s.pend :=
  (State.flowModes_keeps (l := [.sc]) s was (by decide)).2 onlyParts.refl .pend (by decide)

theorem State.patternWrites_keeps {l : List Part} {s₀ : State} (s : State) (h : [(.regs : Part), .pend, .sc].all (l.contains ·) = true) :
    onlyParts l s₀ s.patternWrites ↔ onlyParts l s₀ s := by
  refine onlyParts.step (m := [.regs, .pend, .sc]) ?_ h
  unfold State.patternWrites
  simp (disch := decide) only [State.applyRes_keeps, State.flowModes_keeps, State.applyPend_keeps, State.takePend_keeps, onlyParts.self]

theorem State.patternWrites_sc (s : State) : s.sc.sameButAbove s.patternWrites.sc := by
  have hres : ∀ t l, (State.applyRes t l).sc = t.sc := fun t l => State.applyRes_parts t l .sc (by decide)
  have happly : ∀ t p, (State.applyPend t p).sc = t.sc := fun t p => State.applyPend_parts t p .sc (by decide)
  have hmodes := State.flowModes_sc ((s.takePend isRes).2.applyPend fun a => decide (groupOf a = .switch))
    ((List.range 48).map fun p => (s.takePend isRes).2.get (SC_FC_CFG_mode p))
  rw [happly] at hmodes
  unfold State.patternWrites
  rw [hres]
  exact hmodes

/-- A value of the switch group that stays pending was not captured. -/
theorem State.pend_patternWrites {s : State} {e : Nat × Word × Nat} (h : e ∈ s.patternWrites.pend) (hgroup : groupOf e.1 = .switch) :
    captured s.clk e = false := by
  have hres : ∀ t l, (State.applyRes t l).pend = t.pend := fun t l => State.applyRes_parts t l .pend (by decide)
  unfold State.patternWrites at h
  rw [hres, State.flowModes_pend] at h
  exact State.pend_applyPend (s := (s.takePend isRes).2) (p := fun a => decide (groupOf a = .switch)) h (by simp [hgroup])

/-! ### A write of SC_MEZZ_SWAP (R179) -/

theorem State.writeAt_switch {s : State} {m : Master} {p : Place} {gw : Bool} {v : Word} (hlo : 0x400000 ≤ p.a) (hhi : p.a < 0x600000) :
    s.writeAt m p gw v = s.writeSc p gw v := by
  unfold State.writeAt
  rw [if_neg (by omega), if_neg (by omega), if_neg (by omega), if_neg (by omega), if_neg (by omega), if_pos hhi]

theorem State.writeSc_MEZZ_SWAP {s : State} {p : Place} {gw : Bool} {v : Word} (ha : p.a = SC_MEZZ_SWAP) (hbase : p.r.base = SC_MEZZ_SWAP) :
    s.writeSc p gw v = if gw then (let s := s.store SC_MEZZ_SWAP 0xF v; if bitOf v.toNat 4 then s.swapStart (v.toNat % 16) else s) else s := by
  unfold State.writeSc
  rw [if_neg (by rw [ha]; decide), if_neg (by rw [ha]; decide), if_pos hbase, ha]
  cases gw <;> rfl

theorem write_SC_MEZZ_SWAP_open {s : State} {m : Master} (v : Word) (hr : reaches m s = true) (hopen : guardOpen m s = true)
    (hgo : bitOf v.toNat 4 = true) :
    s.write (Req.word m SC_MEZZ_SWAP) v 0 = .next (((s.spendGuard m).store SC_MEZZ_SWAP 0xF v).swapStart (v.toNat % 16)).deliver := by
  obtain ⟨p, ha, hbase, hw⟩ := State.write_lone_guarded (a := SC_MEZZ_SWAP) v hr (by decide) (by decide)
  rw [hw, hopen, if_pos rfl, State.writeAt_switch (by rw [ha]; decide) (by rw [ha]; decide), State.writeSc_MEZZ_SWAP ha hbase, if_pos rfl]
  simp [hgo]

theorem write_SC_MEZZ_SWAP_closed {s : State} {m : Master} (v : Word) (hr : reaches m s = true) (hclosed : guardOpen m s = false) :
    s.write (Req.word m SC_MEZZ_SWAP) v 0 = .next (s.guardViol m false SC_MEZZ_SWAP).deliver := by
  obtain ⟨p, ha, hbase, hw⟩ := State.write_lone_guarded (a := SC_MEZZ_SWAP) v hr (by decide) (by decide)
  rw [hw, hclosed, if_neg Bool.false_ne_true, State.writeAt_switch (by rw [ha]; decide) (by rw [ha]; decide), State.writeSc_MEZZ_SWAP ha hbase,
    if_neg Bool.false_ne_true]

theorem State.swapStart_spare {s : State} {pos sp : Nat} (hspare : s.sc.spare = some sp) (hswap : s.sc.swap = none) :
    s.swapStart pos = ((State.set { s with sc := { s.sc with swap := some ⟨pos, s.mezzAt pos, sp, false⟩, spare := none } }
      SC_MEZZ_STAT_swap_busy 1).set SC_MEZZ_STAT_spare_in_use 1).set SC_MEZZ_STAT_spare_for pos := by
  rw [State.swapStart, hspare]
  simp [hswap]

end Sys2Proof.Machine
end

section
/-! PROOFS. Statement O24: slot patterns and mezzanines. -/

namespace Sys2Proof

open Sys2Proof.Machine

/-! ### The end of a slot pattern -/

/-- A single captured value of the switch group, no reservation, applies, and nothing else is left to do. -/
theorem patternWrites_single {s : State} {a : Nat} {v : Word} {k : Nat} (hpend : s.pend = [(a, v, k)]) (hgroup : groupOf a = .switch)
    (hcaptured : k + 32 < s.clk) (hres : isRes a = false) :
    s.patternWrites = (State.wr { s with pend := [] } a v).flowModes ((List.range 48).map fun p => s.get (SC_FC_CFG_mode p)) := by
  have htake : s.takePend isRes = ([], s) := State.takePend_of_none (by simp [hpend, hres])
  rw [State.patternWrites, htake, State.applyPend_single hpend (by simp [hgroup]) (by simpa [captured] using hcaptured), State.applyRes_nil]

theorem slotPatternBoundary_applies (a : Nat) (v : Word) (k : Nat) (s : State) (hup : s.up) (hslot : s.sc.slot = 0) (hswap : s.sc.swap = none)
    (hpend : s.pend = [(a, v, k)]) (hgroup : groupOf a = .switch) (hcaptured : k + 32 < s.clk) (hres : isRes a = false)
    (hplain : a ∉ [SC_STAT, SYS_PBA 0, SYS_PBA 1]) :
    ∃ t, goesTo (.slotPatternBoundary) s t ∧ t.rd a = v &&& fieldBits a ∧ t.pend = [] ∧ ((∀ p : Nat, p < 48 → a ≠ SC_FC_CFG p) → t.sc = s.sc) ∧
      onlyChanges [a, SC_STAT] [.pend, .sc] s t := by
  have hwrites := patternWrites_single hpend hgroup hcaptured hres
  have hsc : s.patternWrites.sc.swap = none := by
    rw [hwrites, show _ = _ from State.flowModes_sc ..]
    exact hswap
  simp only [List.mem_cons, List.not_mem_nil, or_false, not_or] at hplain
  obtain ⟨hstat, hpba0, hpba1⟩ := hplain
  refine ⟨_, exec_slotPatternBoundary hup hslot, ?_, ?_, fun hother => ?_, ?_⟩
  · rw [State.rd_deliver _ _ hpba0 hpba1, State.swapBegin_none hsc, State.dlmCheck, State.setB_eq, State.rd_set_ne _ _ hstat, hwrites, State.rd_flowModes,
      State.rd_wr_same]
  · rw [State.deliver_pend, State.swapBegin_none hsc, State.dlmCheck, State.setB_eq, State.set_pend, hwrites, State.flowModes_pend]
    rfl
  · rw [State.deliver_sc, State.swapBegin_none hsc, State.dlmCheck, State.setB_eq, State.set_sc, hwrites, State.flowModes_same]
    · rfl
    · intro p hp
      show bitsOf (State.rd _ (SC_FC_CFG p)) _ _ = _
      rw [State.rd_wr_ne _ _ (hother p hp).symm]
      rfl
  · rw [State.swapBegin_none hsc, State.dlmCheck, State.setB_eq, hwrites]
    refine onlyChanges.deliver (onlyRegs.set (fun b hb => ?_) (by simp [SC_STAT_dlm_degraded])) ?_
    · rw [State.rd_flowModes, State.rd_wr_ne _ _ (ne_of_mem_of_not_mem List.mem_cons_self hb).symm]
      rfl
    · simp (disch := decide) only [State.set_keeps, State.flowModes_keeps, State.wr_keeps, with_pend, onlyParts.self]

/-- A swap begins at the end of the pattern, and the writes applied there leave the map of mezzanines alone. -/
theorem slotPatternBoundary_swaps (w : MezzSwap) (s : State) (hup : s.up) (hslot : s.sc.slot = 0) (hswap : s.sc.swap = some w) :
    ∃ t, goesTo (.slotPatternBoundary) s t ∧ t.sc = { s.sc with swap := some { w with started := true }, above := t.sc.above } ∧
      (w.started = false → w.pos < 16 → t.bit SC_MEZZ_IDLE w.pos = false) ∧ (∀ e ∈ t.pend, groupOf e.1 = .switch → s.clk ≤ e.2.2 + 32) ∧
      onlyParts [.regs, .pend, .sc, .host, .sent] s t := by
  have hsc : s.patternWrites.sc = { s.sc with above := s.patternWrites.sc.above } := State.patternWrites_sc s
  have hbegun : s.patternWrites.sc.swap = some w := by rw [hsc]; exact hswap
  refine ⟨_, exec_slotPatternBoundary hup hslot, ?_, fun hstarted hpos => ?_, fun e he hgroup => ?_, ?_⟩
  · rw [State.deliver_sc, State.dlmCheck, State.setB_eq, State.set_sc, State.swapBegin_sc hbegun, hsc]
  · rw [State.bit_deliver _ (by decide) (by decide), State.dlmCheck, State.setB_eq, State.bit, State.rd_set_ne _ _ (by decide), ← State.bit]
    exact State.swapBegin_busy hbegun hstarted hpos
  · rw [State.deliver_pend, State.dlmCheck, State.setB_eq, State.set_pend, State.swapBegin_pend] at he
    have hfree := State.pend_patternWrites he (by simp [hgroup])
    simpa [captured] using hfree
  · refine onlyParts.deliver ?_ (by decide)
    simp (disch := decide) only [State.dlmCheck_keeps, State.swapBegin_keeps, State.patternWrites_keeps, onlyParts.self]

/-! ### A swap requested and completed -/

theorem scMezzSwapWrite_starts (m : Master) (v : Word) (sp : Nat) (s : State) (hr : reaches m s) (hopen : guardOpen m s = true)
    (hgo : bitOf v.toNat 4 = true) (hswap : s.sc.swap = none) (hspare : s.sc.spare = some sp) :
    ∃ t, goesTo (.scMezzSwapWrite m v) s t ∧
      t.sc = { s.sc with swap := some ⟨bitsOf v 3 0, s.mezzAt (bitsOf v 3 0), sp, false⟩, spare := none } ∧ t.on SC_MEZZ_STAT_swap_busy = true ∧
      t.on SC_MEZZ_STAT_spare_in_use = true ∧ t.get SC_MEZZ_STAT_spare_for = bitsOf v 3 0 ∧ onlyParts [.regs, .pend, .sc, .host, .sent] s t := by
  have hparts : onlyParts [.regs, .pend, .host] s ((s.spendGuard m).store SC_MEZZ_SWAP 0xF v) := by
    simp (disch := decide) only [State.store_keeps, State.spendGuard_keeps, onlyParts.self]
  have hsc : ((s.spendGuard m).store SC_MEZZ_SWAP 0xF v).sc = s.sc := hparts .sc (by decide)
  have hpos : bitsOf v 3 0 = v.toNat % 16 := by simp [bitsOf]
  have hstart := State.swapStart_spare (pos := v.toNat % 16) (hsc.symm ▸ hspare) (hsc.symm ▸ hswap)
  refine ⟨_, write_SC_MEZZ_SWAP_open v hr hopen hgo, ?_⟩
  rw [hstart, hpos]
  refine ⟨?_, ?_, ?_, ?_, ?_⟩
  · rw [State.deliver_sc, State.set_sc, State.set_sc, State.set_sc, State.mezzAt, hsc, State.mezzAt]
  · rw [State.on_deliver _ (by decide) (by decide)]
    simp (disch := decide) [State.on, State.get_set_bits, State.get_set_same]
  · rw [State.on_deliver _ (by decide) (by decide)]
    simp (disch := decide) [State.on, State.get_set_bits, State.get_set_same]
  · rw [State.get_deliver _ (by decide) (by decide), State.get_set_same _ _ (by decide)]
    simp [SC_MEZZ_STAT_spare_for]
  · refine onlyParts.deliver ?_ (by decide)
    simp (disch := decide) only [State.set_keeps, with_sc, State.store_keeps, State.spendGuard_keeps, onlyParts.self]

theorem scMezzSwapWrite_violates (m : Master) (v : Word) (s : State) (hr : reaches m s) (hclosed : guardOpen m s = false)
    (hfree : s.bit SYS_GUARD_VIOL 31 = false) :
    ∃ t, goesTo (.scMezzSwapWrite m v) s t ∧ t.on SYS_INT_STAT_guard_viol = true ∧ t.bit SYS_GUARD_VIOL 31 = true ∧
      onlyChanges [SYS_GUARD_VIOL, SYS_INT_STAT] [] s t := by
  refine ⟨_, write_SC_MEZZ_SWAP_closed v hr hclosed, ?_, ?_, ?_⟩
  · rw [State.on_deliver _ (by decide) (by decide)]
    exact State.on_raise _ (by decide) rfl
  · rw [State.bit_deliver _ (by decide) (by decide), State.guardViol, State.raise_eq, State.bit, State.rd_set_ne _ _ (by decide), State.capture,
      State.captureAt, if_neg (by simp [hfree]), State.rd_wr_same]
    cases m <;> decide
  · rw [State.guardViol, State.raise_eq]
    exact onlyChanges.deliver (onlyRegs.set (onlyRegs.capture onlyRegs.refl (by simp)) (by simp [SYS_INT_STAT_guard_viol]))
      ((State.set_keeps _ _ _ (by decide)).2 ((State.capture_keeps _ _ _ (by decide)).2 onlyParts.refl))

theorem mezzSwapComplete_ends (w : MezzSwap) (s : State) (hup : s.up) (hswap : s.sc.swap = some w) (hstarted : w.started = true)
    (hempty : w.old = w.new ∨ s.mezzHolds w.old = 0) :
    ∃ t, goesTo (.mezzSwapComplete) s t ∧ t.sc = { s.sc with swap := none, map := s.sc.map.set w.pos w.new } ∧ t.on SC_MEZZ_STAT_swap_busy = false ∧
      t.on SC_INT_STAT_mezz_swap_done = true ∧ onlyChanges [SC_MEZZ_STAT, SC_INT_STAT] [.sc] s t := by
  have hexec : exec .mezzSwapComplete s = .next ((State.set { s with sc := { s.sc with swap := none, map := s.sc.map.set w.pos w.new } }
      SC_MEZZ_STAT_swap_busy 0).raise SC_INT_STAT_mezz_swap_done).deliver := by
    show execMezzSwapComplete s = _
    rw [execMezzSwapComplete, hswap]
    exact finishIf_next (by simp [hstarted, hempty]) hup
  refine ⟨_, hexec, ?_, ?_, ?_, ?_⟩
  · rw [State.deliver_sc]
    rfl
  · rw [State.on_deliver _ (by decide) (by decide), State.raise_eq]
    simp (disch := decide) [State.on, State.get_set_addr, State.get_set_same]
  · rw [State.on_deliver _ (by decide) (by decide)]
    exact State.on_raise _ (by decide) rfl
  · rw [State.raise_eq]
    refine onlyChanges.deliver (onlyRegs.set (onlyRegs.set (fun _ _ => rfl) (by simp [SC_MEZZ_STAT_swap_busy])) (by simp [SC_INT_STAT_mezz_swap_done])) ?_
    simp (disch := decide) only [State.set_keeps, with_sc, onlyParts.self]

/-- Settles O24: what applies at the end of a pattern, how a swap begins there, and how it ends. -/
theorem patternsAndMezzanines : Obligations.PatternsAndMezzanines := by
  unfold Obligations.PatternsAndMezzanines
  exact ⟨slotPatternBoundary_applies, slotPatternBoundary_swaps, scMezzSwapWrite_starts, scMezzSwapWrite_violates, mezzSwapComplete_ends⟩

end Sys2Proof
end

section
/-! PROOFS. Registers that the events of lanes, ports, frames, mailboxes and faults leave alone: the status of the root, of the MP and of TB,
the reading of V3P3_OUT, and the configuration and idleness of the ports. -/

namespace Sys2Proof.Machine

/-! ### The registers -/

/-- A register whose word an event does not touch, unless the event is about that register. -/
def steady (a : Nat) : Prop :=
  a ∈ [SYS_ROOT_STAT, SYS_INT_STAT, MB_EPOCH, HL_WDOG, HL_SUPPLY 3, TB_STAT] ∨ (PT_CTRL 0 ≤ a ∧ a < PT_CTRL 48 ∧ a % 0x200 ≤ PT_IDLE 0 % 0x200)

theorem steady_iff {a : Nat} : steady a ↔
    a = 0x44 ∨ a = 0x98 ∨ a = 0x10000 ∨ a = 0x30024 ∨ a = 0x3014C ∨ a = 0x700004 ∨ (0x140000 ≤ a ∧ a < 0x146000 ∧ a % 0x200 ≤ 0x20) := by
  simp [steady, SYS_ROOT_STAT, SYS_INT_STAT, MB_EPOCH, HL_WDOG, HL_SUPPLY, TB_STAT, PT_CTRL, PT_IDLE, or_assoc]

/-- The words of the steady registers. -/
def calm (r : Tab Word) : { a // steady a } → Word := fun a => r.get (resetWord a) a

theorem rd_of_calm {s t : State} {a : Nat} (h : calm t.regs = calm s.regs) (ha : steady a) : t.rd a = s.rd a := congrFun h ⟨a, ha⟩

theorem get_of_calm {s t : State} {f : FRef} (h : calm t.regs = calm s.regs) (ha : steady f.addr) : t.get f = s.get f := by
  rw [State.get, rd_of_calm h ha, State.get]

theorem on_of_calm {s t : State} {f : FRef} (h : calm t.regs = calm s.regs) (ha : steady f.addr) : t.on f = s.on f := by
  rw [State.on, get_of_calm h ha, State.on]

@[simp] theorem calm_wr (s : State) {a : Nat} (w : Word) (h : ¬ steady a) : calm (s.wr a w).regs = calm s.regs :=
  funext fun b => State.rd_wr_ne s w (ne_of_mem_of_not_mem (s := { a | steady a }) b.2 h)

@[simp] theorem calm_set (s : State) {f : FRef} (v : Nat) (h : ¬ steady f.addr) : calm (s.set f v).regs = calm s.regs := calm_wr s _ h

@[simp] theorem calm_setBit (s : State) {a : Nat} (n : Nat) (h : ¬ steady a) : calm (s.setBit a n).regs = calm s.regs := calm_wr s _ h

@[simp] theorem calm_wr64 (s : State) {lo hi : Nat} (v : Nat) (hlo : ¬ steady lo) (hhi : ¬ steady hi) : calm (s.wr64 lo hi v).regs = calm s.regs := by
  simp [State.wr64, hlo, hhi]

@[simp] theorem calm_add64 (s : State) {lo hi : Nat} (n : Nat) (hlo : ¬ steady lo) (hhi : ¬ steady hi) : calm (s.add64 lo hi n).regs = calm s.regs := by
  simp [State.add64, hlo, hhi]

theorem calm_wrs (ws : List Word) : ∀ (s : State) (a : Nat), (∀ k < ws.length, ¬ steady (a + 4 * k)) → calm (s.wrs a ws).regs = calm s.regs := by
  induction ws with
  | nil => exact fun _ _ _ => rfl
  | cons w ws ih =>
    intro s a h
    rw [State.wrs, ih _ _ fun k hk => ?_, calm_wr _ _ (by simpa using h 0 (by simp))]
    rw [show a + 4 + 4 * k = a + 4 * (k + 1) by omega]
    exact h (k + 1) (by simpa using hk)

@[simp] theorem calm_ite {c : Prop} [Decidable c] {s t : State} :
    calm (if c then s else t).regs = if c then calm s.regs else calm t.regs := by
  split <;> rfl

/-- One branch or the other. -/
theorem calm_if {c : Prop} [Decidable c] {s t : State} {w : { a // steady a } → Word} (hs : calm s.regs = w) (ht : calm t.regs = w) :
    calm (if c then s else t).regs = w := by
  rw [calm_ite, hs, ht, ite_self]

/-- A fold over events that leave the steady registers alone leaves them alone. -/
theorem calm_foldl {β : Type} {f : State → β → State} {l : List β} (h : ∀ s, ∀ x ∈ l, calm (f s x).regs = calm s.regs) (s : State) :
    calm (l.foldl f s).regs = calm s.regs :=
  List.foldlRecOn (motive := fun t : State => calm t.regs = calm s.regs) l f rfl fun t ht x hx => (h t x hx).trans ht

@[simp] theorem State.setLane_regs (s : State) (l : Nat) (x : Lane) : (s.setLane l x).regs = s.regs := rfl
@[simp] theorem State.setPort_regs (s : State) (p : Nat) (x : Port) : (s.setPort p x).regs = s.regs := rfl
@[simp] theorem State.setLink_regs (s : State) (l : Nat) (x : Link) : (s.setLink l x).regs = s.regs := rfl
@[simp] theorem State.setChan_regs (s : State) (c : Nat) (k : Chan) : (s.setChan c k).regs = s.regs := rfl
@[simp] theorem State.setPkt_regs (s : State) (id : Nat) (x : Pkt) : (s.setPkt id x).regs = s.regs := rfl

/-! ### Registers that are not steady -/

section
variable {l p q : Nat}

@[simp] theorem not_steady_LN_STAT (h : l < 512) : ¬ steady (LN_STAT l) := by rw [steady_iff, LN_STAT]; omega
@[simp] theorem not_steady_LN_TXEQ (h : l < 512) : ¬ steady (LN_TXEQ l) := by rw [steady_iff, LN_TXEQ]; omega
@[simp] theorem not_steady_LN_CTRL (h : l < 512) : ¬ steady (LN_CTRL l) := by rw [steady_iff, LN_CTRL]; omega
@[simp] theorem not_steady_PT_STAT : ¬ steady (PT_STAT p) := by rw [steady_iff, PT_STAT]; omega
@[simp] theorem not_steady_PT_INT_STAT : ¬ steady (PT_INT_STAT p) := by rw [steady_iff, PT_INT_STAT]; omega
@[simp] theorem not_steady_PT_TXTS_OVF : ¬ steady (PT_TXTS_OVF p) := by rw [steady_iff, PT_TXTS_OVF]; omega
@[simp] theorem not_steady_PX_STAT : ¬ steady (PX_STAT l) := by rw [steady_iff, PX_STAT]; omega
@[simp] theorem not_steady_PX_INT_STAT : ¬ steady PX_INT_STAT := by rw [steady_iff, PX_INT_STAT]; decide
@[simp] theorem not_steady_PX_EVT_LO : ¬ steady PX_EVT_LO := by rw [steady_iff, PX_EVT_LO]; decide
@[simp] theorem not_steady_PX_EVT_HI : ¬ steady PX_EVT_HI := by rw [steady_iff, PX_EVT_HI]; decide
@[simp] theorem not_steady_PX_REF_STAT : ¬ steady PX_REF_STAT := by rw [steady_iff, PX_REF_STAT]; decide
@[simp] theorem not_steady_TC_REF_FREQ : ¬ steady (TC_REF_FREQ l) := by rw [steady_iff, TC_REF_FREQ]; omega
@[simp] theorem not_steady_TC_REF_STAT : ¬ steady (TC_REF_STAT l p) := by rw [steady_iff, TC_REF_STAT]; omega
@[simp] theorem not_steady_TC_INT_STAT : ¬ steady (TC_INT_STAT l) := by rw [steady_iff, TC_INT_STAT]; omega
@[simp] theorem not_steady_TC_SW_CNT : ¬ steady (TC_SW_CNT l) := by rw [steady_iff, TC_SW_CNT]; omega
@[simp] theorem not_steady_SC_DROP (hq : q < 512) (_ : p < 16) : ¬ steady (SC_DROP q p) := by rw [steady_iff, SC_DROP]; omega
@[simp] theorem not_steady_SC_INT_STAT : ¬ steady SC_INT_STAT := by rw [steady_iff, SC_INT_STAT]; decide
@[simp] theorem not_steady_SC_BUF_STAT : ¬ steady SC_BUF_STAT := by rw [steady_iff, SC_BUF_STAT]; decide
@[simp] theorem not_steady_SC_DISABLE_DISCARD (hp : p < 64) : ¬ steady (SC_DISABLE_DISCARD p) := by rw [steady_iff, SC_DISABLE_DISCARD]; omega
@[simp] theorem not_steady_SC_Q_OCC (hq : q < 512) : ¬ steady (SC_Q_OCC q) := by rw [steady_iff, SC_Q_OCC]; omega
@[simp] theorem not_steady_SC_Q_PEAK (hq : q < 512) : ¬ steady (SC_Q_PEAK q) := by rw [steady_iff, SC_Q_PEAK]; omega
@[simp] theorem not_steady_PR_CNT_LEN_MISMATCH : ¬ steady (PR_CNT_LEN_MISMATCH p) := by rw [steady_iff, PR_CNT_LEN_MISMATCH]; omega
@[simp] theorem not_steady_PR_CNT_LEN_LATE : ¬ steady (PR_CNT_LEN_LATE p) := by rw [steady_iff, PR_CNT_LEN_LATE]; omega
@[simp] theorem not_steady_PM_CNT_LO (hl : l < 8) : ¬ steady (PM_CNT_LO p l) := by rw [steady_iff, PM_CNT_LO]; omega
@[simp] theorem not_steady_PM_CNT_HI (hp : p < 8) (hl : l < 8) : ¬ steady (PM_CNT_HI p l) := by rw [steady_iff, PM_CNT_HI]; omega
@[simp] theorem not_steady_PM_TRACE_STAT : ¬ steady PM_TRACE_STAT := by rw [steady_iff, PM_TRACE_STAT]; decide
@[simp] theorem not_steady_PM_INT_STAT : ¬ steady PM_INT_STAT := by rw [steady_iff, PM_INT_STAT]; decide
@[simp] theorem not_steady_MB_STAT (hp : p < 4) : ¬ steady (MB_STAT p) := by rw [steady_iff, MB_STAT]; omega
@[simp] theorem not_steady_MB_INT_STAT : ¬ steady MB_INT_STAT := by rw [steady_iff, MB_INT_STAT]; decide
@[simp] theorem not_steady_MB_OWNER : ¬ steady MB_OWNER := by rw [steady_iff, MB_OWNER]; decide
@[simp] theorem not_steady_TB_PTP_ERR : ¬ steady TB_PTP_ERR := by rw [steady_iff, TB_PTP_ERR]; decide
@[simp] theorem not_steady_FT_STAT : ¬ steady FT_STAT := by rw [steady_iff, FT_STAT]; decide
@[simp] theorem not_steady_OU_STAT : ¬ steady (OU_STAT p) := by rw [steady_iff, OU_STAT]; omega
@[simp] theorem not_steady_OU_INT_STAT : ¬ steady OU_INT_STAT := by rw [steady_iff, OU_INT_STAT]; decide
@[simp] theorem not_steady_OU_EVT : ¬ steady OU_EVT := by rw [steady_iff, OU_EVT]; decide

end

/-! ### Lanes -/

@[simp] theorem calm_laneTx (s : State) {l : Nat} (h : l < 512) : calm (s.laneTx l).regs = calm s.regs :=
  calm_set _ _ (not_steady_LN_STAT h)

@[simp] theorem calm_laneCheck (s : State) {l : Nat} (h : l < 512) : calm (s.laneCheck l).regs = calm s.regs :=
  calm_set _ _ (not_steady_LN_STAT h)

@[simp] theorem calm_laneTaps (s : State) {l : Nat} (h : l < 512) : calm (s.laneTaps l).regs = calm s.regs := by
  unfold State.laneTaps
  extract_lets t
  rw [State.setLane_regs, calm_set _ _ (not_steady_LN_TXEQ h), calm_set _ _ (not_steady_LN_TXEQ h)]

@[simp] theorem calm_lossForget (s : State) {h : Nat} (hh : h < 512) : calm (s.lossForget h).regs = calm s.regs :=
  calm_set _ _ (not_steady_LN_STAT hh)

/-! ### References of the timing channels -/

@[simp] theorem calm_selStatus (s : State) (c old st : Nat) : calm (s.selStatus c old st).regs = calm s.regs := by
  unfold State.selStatus State.probDiscard
  simp only [↓calm_set, ↓calm_ite, ↓State.setChan_regs, ↓State.raise_eq, ↓State.inc_eq, ↓State.add_eq, ite_self, TC_INT_STAT_ref_disq, TC_SW_CNT_disq,
    not_steady_TC_INT_STAT, not_steady_TC_SW_CNT, not_false_eq_true]

@[simp] theorem calm_setStatus (s : State) (c r st : Nat) : calm (s.setStatus c r st).regs = calm s.regs := by
  unfold State.setStatus
  simp only [↓calm_set, ↓calm_ite, ↓State.setChan_regs, ↓calm_selStatus, ↓State.raise_eq, ite_self, TC_REF_STAT_status, TC_INT_STAT_ref_degraded,
    not_steady_TC_REF_STAT, not_steady_TC_INT_STAT, not_false_eq_true]

@[simp] theorem calm_refLoss (s : State) (r : Nat) : calm (s.refLoss r).regs = calm s.regs := by
  unfold State.refLoss
  have hchans : ∀ (t : State) (l : List Nat), calm (l.foldl (fun s c => s.setStatus c r 0) t).regs = calm t.regs :=
    fun t _ => calm_foldl (fun _ _ _ => calm_setStatus ..) t
  simp only [↓calm_ite, ↓calm_set, ↓hchans, TC_REF_FREQ_active, TC_REF_FREQ_valid, not_steady_TC_REF_FREQ, not_false_eq_true, ite_self]

/-! ### Mailboxes -/

@[simp] theorem calm_ownerApply (s : State) : calm s.ownerApply.regs = calm s.regs :=
  calm_foldl (fun s n _ => by simp only [calm_ite, calm_set, not_steady_MB_OWNER, not_false_eq_true, ite_self]) s

@[simp] theorem calm_mbToIdle (s : State) {n : Nat} (h : n < 4) : calm (s.mbToIdle n).regs = calm s.regs :=
  (calm_ownerApply _).trans (calm_set _ _ (not_steady_MB_STAT h))

theorem bytesWords_length (b : Bytes) : (bytesWords b).length = (b.length + 3) / 4 := by simp [bytesWords]

theorem leBytes_length (n v : Nat) : (leBytes n v).length = n := by
  induction n generalizing v with
  | zero => rfl
  | succ n ih => rw [leBytes, List.length_cons, ih]

/-- An answer without data is 6 words long. -/
theorem mbWords_length (opcode seq flags epoch status detail value : Nat) :
    (mbWords opcode seq flags epoch (mbPayload status detail value [])).length = 6 := by
  simp [mbWords, mbPayload, bytesWords_length, leBytes_length]

@[simp] theorem calm_mbAnswerRaw (s : State) {n : Nat} (r : MbReq) (status detail value : Nat) (h : n < 4) :
    calm (s.mbAnswerRaw n r (mbPayload status detail value [])).regs = calm s.regs := by
  unfold State.mbAnswerRaw
  simp only [calm_ite, calm_mbToIdle _ h]
  split
  · rfl
  · refine (calm_setBit _ _ not_steady_MB_INT_STAT).trans ((calm_set _ _ (not_steady_MB_STAT h)).trans (calm_wrs _ _ _ fun k hk => ?_))
    rw [mbWords_length] at hk
    rw [steady_iff, MB_RESP]
    omega

@[simp] theorem calm_mbAnswer (s : State) {n : Nat} (r : MbReq) (status detail value : Nat) (h : n < 4) :
    calm (s.mbAnswer n r status detail value []).regs = calm s.regs := by
  unfold State.mbAnswer
  simp only [calm_ite, State.setMb_regs, calm_mbAnswerRaw _ _ _ _ _ h, ite_self]

/-- Waiting requests that are rejected, or answered without data. -/
@[simp] theorem calm_mbAnswerWaiting (s : State) (p : MbReq → Bool) {a : Nat ⊕ Bytes} (h : ∀ data, a = .inr data → data = []) :
    calm (s.mbAnswerWaiting p a).regs = calm s.regs := by
  refine calm_foldl (fun s n hn => ?_) s
  have hn : n < 4 := List.mem_range.1 hn
  split
  · split
    · split
      · exact calm_mbAnswer s _ 2 _ 0 hn
      next data => rw [h data rfl, calm_mbAnswer _ _ _ _ _ hn]
    · rfl
  · rfl

@[simp] theorem calm_abortAll (s : State) : calm s.abortAll.regs = calm s.regs := by
  refine calm_foldl (fun s n hn => ?_) s
  have hn : n < 4 := List.mem_range.1 hn
  extract_lets _ t
  exact calm_if (calm_mbAnswer t _ 3 2 _ hn) (calm_if (calm_mbAnswer t _ 3 0 _ hn) rfl)

/-! ### Links between twins' ports -/

@[simp] theorem calm_setBit2 (s : State) {lo hi : Nat} (n : Nat) (hlo : ¬ steady lo) (hhi : ¬ steady hi) : calm (s.setBit2 lo hi n).regs = calm s.regs := by
  unfold State.setBit2
  split
  · exact calm_setBit _ _ hlo
  · exact calm_setBit _ _ hhi

@[simp] theorem calm_pxCause (s : State) (l : Nat) {f : FRef} (h : ¬ steady f.addr) : calm (s.pxCause l f).regs = calm s.regs :=
  (calm_setBit2 _ _ not_steady_PX_EVT_LO not_steady_PX_EVT_HI).trans (calm_set _ _ h)

@[simp] theorem calm_pairRestart (s : State) (l : Nat) : calm (s.pairRestart l).regs = calm s.regs := by
  unfold State.pairRestart
  simp only [↓calm_ite, ↓calm_set, ↓State.raise_eq, ↓State.setLink_regs, PX_STAT_asym_stale, not_steady_PX_STAT, not_false_eq_true, ite_self]

@[simp] theorem calm_pxRef (s : State) : calm s.pxRef.regs = calm s.regs :=
  (calm_foldl (fun _ _ _ => calm_set _ _ not_steady_PX_STAT) _).trans (calm_set _ _ not_steady_PX_REF_STAT)

@[simp] theorem calm_calLost (s : State) (l : Nat) : calm (s.calLost l).regs = calm s.regs :=
  (calm_set _ _ not_steady_PX_STAT).trans (calm_set _ _ not_steady_PX_STAT)

@[simp] theorem calm_linkEnter (s : State) (l st : Nat) : calm (s.linkEnter l st).regs = calm s.regs := by
  unfold State.linkEnter
  extract_lets old s1 _ s2 s3 s4' s4 _ s5
  have h1 : calm s1.regs = calm s.regs := by
    simp only [s1, calm_pxCause, calm_set, PX_STAT_state, PX_INT_STAT_state_chg, not_steady_PX_STAT, not_steady_PX_INT_STAT, not_false_eq_true]
  have h2 : calm s2.regs = calm s.regs := h1
  have h3 : calm s3.regs = calm s.regs := calm_if ((calm_mbAnswerWaiting _ _ (by simp)).trans h2) h2
  have h4' : calm s4'.regs = calm s.regs := (calm_pairRestart ..).trans h3
  have h4 : calm s4.regs = calm s.regs := calm_if (calm_if ((calm_pairRestart ..).trans h4') h4') h3
  have h5 : calm s5.regs = calm s.regs := calm_if h4 h4
  exact calm_if rfl ((calm_pxRef _).trans h5)

@[simp] theorem calm_linkWait (s : State) (l : Nat) : calm (s.linkWait l).regs = calm s.regs := by
  unfold State.linkWait
  extract_lets _ t
  exact calm_if rfl ((calm_linkEnter ..).trans (calm_set _ _ not_steady_PX_STAT))

@[simp] theorem calm_linkClockLost (s : State) (l : Nat) : calm (s.linkClockLost l).regs = calm s.regs := calm_if rfl (calm_linkWait ..)

@[simp] theorem calm_linkPortLost (s : State) (p : Nat) : calm (s.linkPortLost p).regs = calm s.regs := calm_if rfl (calm_linkWait ..)

/-! ### Clocks and restarts of a lane -/

@[simp] theorem calm_laneClk (s : State) {l : Nat} (h : l < 512) : calm (s.laneClk l).regs = calm s.regs := by
  unfold State.laneClk
  extract_lets ok s1 s2 s3 s4
  have h1 : calm s1.regs = calm s.regs := calm_set _ _ (not_steady_LN_STAT h)
  have h2 : calm s2.regs = calm s.regs := (calm_refLoss ..).trans h1
  have h3 : calm s3.regs = calm s.regs := calm_if ((calm_calLost ..).trans h2) h2
  have h4 : calm s4.regs = calm s.regs := calm_if h2 ((calm_calLost ..).trans h2)
  exact calm_if h1 (calm_if h2 (calm_if (calm_if ((calm_linkWait ..).trans h3) h3) ((calm_linkClockLost ..).trans h4)))

theorem State.headLane_le (s : State) (l : Nat) : s.headLane l ≤ l := by
  unfold State.headLane
  split
  · exact Nat.mul_div_le l 4
  · exact le_rfl

theorem State.headLane_lt (s : State) {l n : Nat} (h : l < n) : s.headLane l < n := (s.headLane_le l).trans_lt h

@[simp] theorem calm_laneRestart (s : State) {l : Nat} (h : l < 512) : calm (s.laneRestart l).regs = calm s.regs := by
  have hstat : ∀ t : State, ∀ f ∈ [LN_STAT_cdr_lock l, LN_STAT_block_lock l, LN_STAT_aligned l, LN_STAT_fec_lock l, LN_STAT_hi_ber l],
      calm (t.set f 0).regs = calm t.regs := by
    intro t f hf
    have hlane : f.addr = LN_STAT l := by
      simp only [List.mem_cons, List.not_mem_nil, or_false] at hf
      rcases hf with rfl | rfl | rfl | rfl | rfl <;> rfl
    exact calm_set _ _ (hlane ▸ not_steady_LN_STAT h)
  unfold State.laneRestart
  extract_lets t
  have ht : calm t.regs = calm s.regs := calm_foldl hstat s
  rw [calm_laneClk _ h, calm_lossForget _ (State.headLane_lt _ h), calm_lossForget _ h, ht]

@[simp] theorem calm_lanePowerDown (s : State) {l : Nat} (h : l < 512) : calm (s.lanePowerDown l).regs = calm s.regs := by
  unfold State.lanePowerDown
  rw [calm_laneTx _ h, calm_laneClk _ h, calm_set _ _ (not_steady_LN_STAT h), calm_laneRestart _ h]

@[simp] theorem calm_laneFollow (s : State) {l : Nat} (was : Nat) (h : l < 512) : calm (s.laneFollow l was).regs = calm s.regs := by
  unfold State.laneFollow
  extract_lets t
  have ht : calm t.regs = calm s.regs := calm_laneCheck s h
  refine calm_if ht ?_
  rw [calm_laneTx _ h, calm_laneClk _ h]
  exact calm_if ((calm_laneRestart _ h).trans ht) ht

/-! ### Performance counters and trace records -/

@[simp] theorem calm_pm (s : State) {u : Nat} (ev n : Nat) (h : u < 8) : calm (s.pm u ev n).regs = calm s.regs := by
  refine calm_if (calm_foldl (fun t k hk => calm_if ?_ rfl) s) rfl
  have hk : k < 8 := List.mem_range.1 hk
  exact calm_wr64 _ _ (not_steady_PM_CNT_LO hk) (not_steady_PM_CNT_HI h hk)

/-- A trace record of up to 16 words. -/
@[simp] theorem calm_pmTrace (s : State) {rcd : List Word} (h : rcd.length ≤ 16) : calm (s.pmTrace rcd).regs = calm s.regs := by
  have hnext : s.get PM_TRACE_STAT_next < 256 := bitsOf_lt _ _ _
  unfold State.pmTrace
  extract_lets count next t1 t2
  have h1 : calm t1.regs = calm s.regs := by
    refine (calm_set _ _ not_steady_PM_INT_STAT).trans (calm_wrs _ _ _ fun k hk => ?_)
    rw [steady_iff, PM_TRACE]
    omega
  have h2 : calm t2.regs = calm s.regs :=
    (calm_set _ _ not_steady_PM_TRACE_STAT).trans ((calm_set _ _ not_steady_PM_TRACE_STAT).trans h1)
  exact calm_if (calm_set _ _ not_steady_PM_TRACE_STAT) (calm_if ((calm_set _ _ not_steady_PM_INT_STAT).trans h2) h2)

@[simp] theorem calm_traceOut (s : State) (id out q : Nat) (drop d5 : Option Nat) : calm (s.traceOut id out q drop d5).regs = calm s.regs := by
  unfold State.traceOut
  extract_lets x
  split
  · rfl
  · exact calm_pmTrace _ (by simp)

/-! ### Queues and the frames in them -/

@[simp] theorem calm_txStamp (s : State) (p : Nat) (x : Pkt) (t : Option Time) : calm (s.txStamp p x t).regs = calm s.regs := by
  unfold State.txStamp
  split
  · rfl
  · extract_lets l e
    refine calm_if (calm_set _ _ not_steady_TB_PTP_ERR) (calm_if ?_ ?_)
    · rw [State.raise_eq, State.inc_eq, State.add_eq, calm_set _ _ not_steady_PT_INT_STAT, calm_set _ _ not_steady_PT_TXTS_OVF]
    · exact calm_pm _ _ _ (by decide)

@[simp] theorem calm_txDropped (s : State) (q : Nat) (x : Pkt) : calm (s.txDropped q x).regs = calm s.regs := by
  unfold State.txDropped
  split
  · exact calm_txStamp ..
  · rfl

@[simp] theorem calm_setOcc (s : State) {q : Nat} (n : Nat) (h : q < 512) : calm (s.setOcc q n).regs = calm s.regs := by
  unfold State.setOcc
  rw [calm_set _ _ (not_steady_SC_Q_PEAK h), calm_set _ _ (not_steady_SC_Q_OCC h)]

@[simp] theorem calm_markHead (s : State) (q : Nat) : calm (s.markHead q).regs = calm s.regs := by
  unfold State.markHead
  split
  · rfl
  · extract_lets x
    split
    · exact calm_if rfl rfl
    · rfl

@[simp] theorem calm_fetch (s : State) (q : Nat) : calm (s.fetch q).regs = calm s.regs :=
  calm_foldl (fun t e _ => by
    extract_lets x
    exact calm_if (calm_pm _ _ _ (by decide)) rfl) s

@[simp] theorem calm_setQueue (s : State) (q : Nat) (l : List (Nat × Nat)) : calm (s.setQueue q l).regs = calm s.regs := by
  unfold State.setQueue
  extract_lets t
  rw [calm_fetch, calm_markHead]

@[simp] theorem calm_dequeue (s : State) (id : Nat) {q : Nat} (h : q < 512) : calm (s.dequeue id q).regs = calm s.regs := by
  unfold State.dequeue
  rw [calm_setQueue, calm_setOcc _ _ h]

theorem portOfQ_lt {q p : Nat} (h : portOfQ q = some p) : p < 64 := by
  unfold portOfQ at h
  split at h
  · simp only [Option.some.injEq] at h
    omega
  · split at h
    · simp only [Option.some.injEq] at h
      omega
    · cases h

@[simp] theorem calm_countDrop (s : State) {q code : Nat} (hq : q < 512) (hcode : code < 16) : calm (s.countDrop q code).regs = calm s.regs := by
  unfold State.countDrop
  extract_lets t u
  have ht : calm t.regs = calm s.regs := calm_set _ _ (not_steady_SC_DROP hq hcode)
  have hu : calm u.regs = calm s.regs := calm_if ((calm_set _ _ not_steady_SC_INT_STAT).trans ht) ht
  split
  next p hp => exact calm_if ((calm_set _ _ (not_steady_SC_DISABLE_DISCARD (portOfQ_lt hp))).trans hu) hu
  next => exact hu

@[simp] theorem calm_flowCheck (s : State) (p t : Nat) : calm (s.flowCheck p t).regs = calm s.regs := by
  unfold State.flowCheck
  extract_lets mode b c cls above send
  exact calm_if rfl (calm_if rfl (calm_if rfl rfl))

@[simp] theorem calm_hold (s : State) (x : Pkt) (add : Bool) : calm (s.hold x add).regs = calm s.regs := by
  unfold State.hold
  extract_lets k n
  exact calm_if rfl (calm_flowCheck ..)

@[simp] theorem calm_lateFail (s : State) (x : Pkt) : calm (s.lateFail x).regs = calm s.regs := by
  unfold State.lateFail
  rw [calm_pm _ _ _ (by omega), State.inc_eq, State.inc_eq, State.add_eq, State.add_eq, calm_set _ _ not_steady_PR_CNT_LEN_LATE,
    calm_set _ _ not_steady_PR_CNT_LEN_MISMATCH]

@[simp] theorem calm_dropPkt (s : State) (id : Nat) : calm (s.dropPkt id).regs = calm s.regs := by
  unfold State.dropPkt
  extract_lets x
  exact calm_if (calm_lateFail ..) rfl

@[simp] theorem calm_unref (s : State) (id : Nat) : calm (s.unref id).regs = calm s.regs := by
  unfold State.unref
  extract_lets x t _ u
  have ht : calm t.regs = calm s.regs := calm_dropPkt ..
  have hu : calm u.regs = calm s.regs := calm_if ((calm_set _ _ not_steady_SC_BUF_STAT).trans ht) (calm_if ht ht)
  exact calm_if rfl (calm_if hu ((calm_hold ..).trans hu))

@[simp] theorem calm_discard (s : State) (id : Nat) {q code : Nat} (hq : q < 512) (hcode : code < 16) : calm (s.discard id q code).regs = calm s.regs := by
  unfold State.discard
  extract_lets x t u
  have ht : calm t.regs = calm s.regs := (calm_countDrop _ hq hcode).trans (calm_dequeue _ _ hq)
  have hu : calm u.regs = calm s.regs := calm_if ((calm_traceOut ..).trans ht) ht
  rw [calm_unref, calm_txDropped, hu]

/-- The queues of a port are among the first 472. -/
theorem lt_of_mem_queuesOf {p q : Nat} (hp : p < 48) (hq : q ∈ queuesOf p) : q < 512 := by
  simp only [queuesOf, List.mem_append, List.mem_map, List.mem_range, List.mem_singleton] at hq
  rcases hq with ⟨k, hk, rfl⟩ | rfl <;> omega

@[simp] theorem calm_scDiscardPort (s : State) {p code : Nat} (hp : p < 48) (hcode : code < 16) : calm (s.scDiscardPort p code).regs = calm s.regs :=
  calm_foldl (fun _ _ hq => calm_foldl (fun _ _ _ => calm_discard _ _ (lt_of_mem_queuesOf hp hq) hcode) _) s

end Sys2Proof.Machine
end

section
/-! PROOFS. Faults, frames of the MP and the states of the twin leave the steady registers alone. -/

namespace Sys2Proof.Machine

/-! ### Faults -/

section

@[simp] theorem not_steady_HL_STAT : ¬ steady HL_STAT := by rw [steady_iff, HL_STAT]; decide
@[simp] theorem not_steady_HL_INT_STAT : ¬ steady HL_INT_STAT := by rw [steady_iff, HL_INT_STAT]; decide
@[simp] theorem not_steady_HL_FAULT_LAST : ¬ steady HL_FAULT_LAST := by rw [steady_iff, HL_FAULT_LAST]; decide
@[simp] theorem not_steady_HL_CNT_LASTING : ¬ steady HL_CNT_LASTING := by rw [steady_iff, HL_CNT_LASTING]; decide
@[simp] theorem not_steady_HL_CNT_TRANSIENT : ¬ steady HL_CNT_TRANSIENT := by rw [steady_iff, HL_CNT_TRANSIENT]; decide
@[simp] theorem not_steady_HL_LOG : ¬ steady HL_LOG := by rw [steady_iff, HL_LOG]; decide

end

/-- The registers in which a fault is told. -/
def faultRegs : List Nat := [HL_STAT, HL_INT_STAT, HL_FAULT_LAST, HL_CNT_LASTING, HL_CNT_TRANSIENT, HL_LOG]

theorem hlHeld_onlyRegs {s t : State} (h : onlyRegs faultRegs s t) : onlyRegs faultRegs s t.hlHeld :=
  onlyRegs.set (onlyRegs.set h (by simp [faultRegs, HL_STAT_held])) (by simp [faultRegs, HL_STAT_self_ok])

theorem hlLog_onlyRegs {s t : State} (code cls inst row detail : Nat) (h : onlyRegs faultRegs s t) :
    onlyRegs faultRegs s (t.hlLog code cls inst row detail) := by
  unfold State.hlLog
  extract_lets r _ u
  split
  · exact onlyRegs.set (onlyRegs.set h (by simp [faultRegs, HL_LOG_lost])) (by simp [faultRegs, HL_INT_STAT_log_lost])
  · exact onlyRegs.set (t := u) h (by simp [faultRegs, HL_LOG_backlog])

theorem hlHold_onlyRegs {s t : State} (code inst : Nat) (h : onlyRegs faultRegs s t) : onlyRegs faultRegs s (t.hlHold code inst) := by
  unfold State.hlHold
  split
  · exact h
  · exact hlLog_onlyRegs _ _ _ _ _ (hlHeld_onlyRegs h)

theorem captureAt_onlyRegs {s t : State} (more : Nat) {a : Nat} (w : Word) (h : onlyRegs faultRegs s t) (ha : a ∈ faultRegs) :
    onlyRegs faultRegs s (t.captureAt more a w) := by
  unfold State.captureAt
  split
  · exact onlyRegs.set h ha
  · exact onlyRegs.wr h ha

theorem hlLastingAs_onlyRegs {s t : State} (cls code inst row detail : Nat) (h : onlyRegs faultRegs s t) :
    onlyRegs faultRegs s (t.hlLastingAs cls code inst row detail) := by
  unfold State.hlLastingAs
  extract_lets t1 _ t2 t3 t4 _
  have h1 : onlyRegs faultRegs s t1 :=
    onlyRegs.set (onlyRegs.set h (by simp [faultRegs, HL_CNT_LASTING_count])) (by simp [faultRegs, HL_INT_STAT_lasting])
  have h4 : onlyRegs faultRegs s t4 := hlLog_onlyRegs _ _ _ _ _ (captureAt_onlyRegs _ _ (t := t2) h1 (by simp [faultRegs]))
  split
  · exact hlHold_onlyRegs _ _ h4
  · exact h4

theorem hlTransient_onlyRegs {s t : State} (code inst row detail : Nat) (h : onlyRegs faultRegs s t) :
    onlyRegs faultRegs s (t.hlTransient code inst row detail).2 := by
  unfold State.hlTransient
  extract_lets t1 _ t2 t3 live same _
  have h1 : onlyRegs faultRegs s t1 := onlyRegs.set h (by simp [faultRegs, HL_CNT_TRANSIENT_count])
  have h3 : onlyRegs faultRegs s t3 := by
    simp only [t3]
    split
    · exact hlLog_onlyRegs _ _ _ _ _ (t := t2) h1
    · exact h1
  clear_value t3
  split
  · split
    · exact hlLastingAs_onlyRegs _ _ _ _ _ h3
    · exact h3
  · exact h3

theorem calm_of_faultRegs {s t : State} (h : onlyRegs faultRegs s t) : calm t.regs = calm s.regs := by
  refine funext fun a => h a.1 fun ha => ?_
  have hsteady := a.2
  simp only [faultRegs, List.mem_cons, List.not_mem_nil, or_false] at ha
  rcases ha with e | e | e | e | e | e <;> rw [e] at hsteady
  · exact not_steady_HL_STAT hsteady
  · exact not_steady_HL_INT_STAT hsteady
  · exact not_steady_HL_FAULT_LAST hsteady
  · exact not_steady_HL_CNT_LASTING hsteady
  · exact not_steady_HL_CNT_TRANSIENT hsteady
  · exact not_steady_HL_LOG hsteady

@[simp] theorem calm_hlLasting (s : State) (code inst row detail : Nat) : calm (s.hlLasting code inst row detail).regs = calm s.regs :=
  calm_of_faultRegs (hlLastingAs_onlyRegs _ _ _ _ _ onlyRegs.refl)

@[simp] theorem calm_hlTransient (s : State) (code inst row detail : Nat) : calm (s.hlTransient code inst row detail).2.regs = calm s.regs :=
  calm_of_faultRegs (hlTransient_onlyRegs _ _ _ _ onlyRegs.refl)

/-! ### Causes and held faults -/

theorem State.hlLog_held (s : State) (code cls inst row detail : Nat) :
    (s.hlLog code cls inst row detail).hl.held = s.hl.held ∧ (s.hlLog code cls inst row detail).hl.causes = s.hl.causes := by
  unfold State.hlLog
  split <;> exact ⟨rfl, rfl⟩

/-- A fault that is held is among the held ones, and its cause stays. -/
theorem State.mem_held_hlHold (s : State) (code inst : Nat) :
    (code, inst) ∈ (s.hlHold code inst).hl.held ∧ (s.hlHold code inst).hl.causes = s.hl.causes := by
  unfold State.hlHold
  split
  next hheld => exact ⟨by simpa using hheld, rfl⟩
  next =>
    rw [(State.hlLog_held ..).1, (State.hlLog_held ..).2]
    exact ⟨List.mem_append_right _ List.mem_cons_self, rfl⟩

/-- A lasting fault of a code that is held has its cause noted and is held. -/
theorem State.mem_hlLasting (s : State) {code : Nat} (inst row detail : Nat) (h : heldTiming code = true) :
    (code, inst) ∈ (s.hlLasting code inst row detail).hl.held ∧ (code, inst) ∈ (s.hlLasting code inst row detail).hl.causes := by
  unfold State.hlLasting State.hlLastingAs
  extract_lets t1 _ t2 t3 t4 _
  clear_value t4
  rw [if_pos h]
  obtain ⟨hheld, hcauses⟩ := State.mem_held_hlHold
    { t4 with hl := { t4.hl with causes := if t4.hl.causes.contains (code, inst) then t4.hl.causes else t4.hl.causes ++ [(code, inst)] } } code inst
  refine ⟨hheld, hcauses ▸ ?_⟩
  dsimp only
  split
  next hin => simpa using hin
  next => exact List.mem_append_right _ List.mem_cons_self

/-! ### Frames that the MP sends -/

/-- The frame counters of port `p` that a frame sent or received can raise. -/
def frameCounters (p : Nat) : List Nat :=
  [PT_FRAMES_RX_OK_LO p, PT_FRAMES_RX_OK_HI p, PT_OCTETS_RX_OK_LO p, PT_OCTETS_RX_OK_HI p, PT_BC_RX_LO p, PT_BC_RX_HI p, PT_MC_RX_LO p, PT_MC_RX_HI p,
    PT_RUNT_LO p, PT_RUNT_HI p, PT_TOO_LONG_LO p, PT_TOO_LONG_HI p, PT_FCS_ERR_LO p, PT_FCS_ERR_HI p, PT_SYM_ERR_FRAMES_LO p, PT_SYM_ERR_FRAMES_HI p,
    PT_DROP_DISABLED_LO p, PT_DROP_DISABLED_HI p, PT_FRAMES_TX_OK_LO p, PT_FRAMES_TX_OK_HI p, PT_OCTETS_TX_OK_LO p, PT_OCTETS_TX_OK_HI p,
    PT_BC_TX_LO p, PT_BC_TX_HI p, PT_MC_TX_LO p, PT_MC_TX_HI p, PT_STOMPED_TX_LO p, PT_STOMPED_TX_HI p]

theorem not_steady_frameCounters {p a : Nat} (h : p < 512) (ha : a ∈ frameCounters p) : ¬ steady a := by
  have hblock : ∀ b ∈ frameCounters p, 0x146000 ≤ b ∧ b < 0x700000 := by
    simp only [frameCounters, List.forall_mem_cons, PT_FRAMES_RX_OK_LO, PT_FRAMES_RX_OK_HI, PT_OCTETS_RX_OK_LO, PT_OCTETS_RX_OK_HI, PT_BC_RX_LO, PT_BC_RX_HI,
      PT_MC_RX_LO, PT_MC_RX_HI, PT_RUNT_LO, PT_RUNT_HI, PT_TOO_LONG_LO, PT_TOO_LONG_HI, PT_FCS_ERR_LO, PT_FCS_ERR_HI, PT_SYM_ERR_FRAMES_LO,
      PT_SYM_ERR_FRAMES_HI, PT_DROP_DISABLED_LO, PT_DROP_DISABLED_HI, PT_FRAMES_TX_OK_LO, PT_FRAMES_TX_OK_HI, PT_OCTETS_TX_OK_LO, PT_OCTETS_TX_OK_HI,
      PT_BC_TX_LO, PT_BC_TX_HI, PT_MC_TX_LO, PT_MC_TX_HI, PT_STOMPED_TX_LO, PT_STOMPED_TX_HI, List.not_mem_nil, false_imp_iff, implies_true, and_true]
    omega
  have := hblock a ha
  rw [steady_iff]
  omega

section
variable {p : Nat} (h : p < 512)
include h

theorem calm_count (s : State) {lo hi : Nat} (n : Nat) (hlo : lo ∈ frameCounters p := by simp [frameCounters])
    (hhi : hi ∈ frameCounters p := by simp [frameCounters]) :
    calm (s.add64 lo hi n).regs = calm s.regs :=
  calm_add64 s n (not_steady_frameCounters h hlo) (not_steady_frameCounters h hhi)

@[simp] theorem calm_dropDisabled (s : State) : calm (s.dropDisabled p).regs = calm s.regs :=
  calm_count h s 1

@[simp] theorem calm_countRx (s : State) (n da : Nat) : calm (s.countRx p n da).regs = calm s.regs := by
  unfold State.countRx
  extract_lets t u
  have ht : calm t.regs = calm s.regs := calm_count h s 1
  have hu : calm u.regs = calm s.regs := (calm_count h t _).trans ht
  refine calm_if ?_ (calm_if ?_ hu)
  · exact (calm_count h u 1).trans hu
  · exact (calm_count h u 1).trans hu

@[simp] theorem calm_sendOut (s : State) (b : Bytes) (good : Bool) : calm (s.sendOut p b good).regs = calm s.regs := by
  unfold State.sendOut
  extract_lets t1 n t2 t3 t4
  have h3 : calm t3.regs = calm s.regs := calm_count h t2 1
  have h4 : calm t4.regs = calm s.regs := (calm_count h t3 _).trans h3
  refine calm_if (calm_if ?_ (calm_if ?_ h4)) ?_
  · exact (calm_count h t4 1).trans h4
  · exact (calm_count h t4 1).trans h4
  · exact calm_count h t2 1

omit h in
theorem State.tag_regs (s : State) : (s.tag p).2.regs = s.regs := by
  unfold State.tag
  split <;> rfl

@[simp] theorem calm_macReceive (s : State) (b : Bytes) (fcs bad : Bool) (ago : Nat) : calm (s.macReceive p b fcs bad ago).regs = calm s.regs := by
  unfold State.macReceive
  extract_lets xc limit long n err t1 t2 t3 suspect t4
  have h1 : calm t1.regs = calm s.regs := calm_if (calm_count h s 1) (calm_if (calm_count h s 1) (calm_countRx h s ..))
  have h2 : calm t2.regs = calm s.regs := calm_if ((calm_count h t1 1).trans h1) h1
  have h4 : calm t4.regs = calm s.regs := by
    rw [← h2]
    exact (calm_pm _ _ _ (by decide)).trans (calm_pm t3 _ _ (by decide))
  refine calm_if (calm_dropDisabled h s) (calm_if (calm_count h s 1) (calm_if h4 (calm_if h4 ?_)))
  have htag : (t4.tag p).2.regs = t4.regs := t4.tag_regs
  clear_value t4
  split
  next tagged u hu =>
    rw [hu] at htag
    exact (congrArg calm htag).trans h4

@[simp] theorem calm_macOut (s : State) (b : Bytes) (good : Bool) {out : State → State} (hout : ∀ t, calm (out t).regs = calm t.regs) :
    calm (s.macOut p b good out).regs = calm s.regs := by
  unfold State.macOut
  extract_lets back t
  have hback : ∀ u, calm (back u).regs = calm u.regs := fun u => calm_macReceive h u ..
  have ht : calm t.regs = calm s.regs := calm_if (hout s) rfl
  split
  · exact hout s
  · exact calm_dropDisabled h s
  · exact hback s
  · exact calm_if ht ((hback t).trans ht)

@[simp] theorem calm_macSend (s : State) (b : Bytes) (good : Bool) : calm (s.macSend p b good).regs = calm s.regs :=
  calm_macOut h s b good fun t => calm_sendOut h t b good

@[simp] theorem calm_slowSend (s : State) (b : Bytes) : calm (s.slowSend p b).regs = calm s.regs := by
  unfold State.slowSend
  exact calm_if (calm_macSend h ..) rfl

/-- A LACPDU of the MP leaves the steady registers alone (R373). -/
@[simp] theorem calm_lacpNow (s : State) : calm (s.lacpNow p).regs = calm s.regs := by
  unfold State.lacpNow
  split
  · rfl
  · exact calm_if (calm_slowSend h ..) rfl

end

@[simp] theorem calm_lacpRole (s : State) : calm s.lacpRole.regs = calm s.regs :=
  calm_foldl (fun t p hp => calm_if (calm_lacpNow (Nat.lt_trans (List.mem_range.1 hp) (by decide)) t) rfl) s

theorem State.lanes_le (s : State) : s.lanes ≤ 48 := by
  unfold State.lanes
  split <;> decide

@[simp] theorem calm_lacpCatchUp (s : State) : calm s.lacpCatchUp.regs = calm s.regs :=
  calm_foldl (fun t p hp => calm_if (calm_lacpNow (by have := s.lanes_le; have := List.mem_range.1 hp; omega) t) rfl) s

/-! ### The states of the twin -/

section

@[simp] theorem not_steady_TW_STAT : ¬ steady TW_STAT := by rw [steady_iff, TW_STAT]; decide
@[simp] theorem not_steady_TW_INT_STAT : ¬ steady TW_INT_STAT := by rw [steady_iff, TW_INT_STAT]; decide
@[simp] theorem not_steady_TW_RESYNC : ¬ steady TW_RESYNC := by rw [steady_iff, TW_RESYNC]; decide
@[simp] theorem not_steady_TW_FO : ¬ steady TW_FO := by rw [steady_iff, TW_FO]; decide
@[simp] theorem not_steady_TW_FO_TIME : ¬ steady TW_FO_TIME := by rw [steady_iff, TW_FO_TIME]; decide
@[simp] theorem not_steady_TW_FO_TIME_NS : ¬ steady TW_FO_TIME_NS := by rw [steady_iff, TW_FO_TIME_NS]; decide

end

@[simp] theorem calm_ouCause (s : State) (o : Nat) {f : FRef} (h : ¬ steady f.addr) : calm (s.ouCause o f).regs = calm s.regs :=
  (calm_setBit _ _ not_steady_OU_EVT).trans (calm_set _ _ h)

@[simp] theorem calm_ouRefresh (s : State) (o : Nat) : calm (s.ouRefresh o).regs = calm s.regs := by
  unfold State.ouRefresh
  extract_lets t1 was now t2 t3
  have h2 : calm t2.regs = calm s.regs := by
    simp only [t2, State.setB_eq, calm_set, OU_STAT_active, OU_STAT_stale, not_steady_OU_STAT, not_false_eq_true]
    rfl
  have h3 : calm t3.regs = calm s.regs := (calm_set _ _ not_steady_OU_STAT).trans h2
  exact calm_if ((calm_ouCause _ _ not_steady_OU_INT_STAT).trans h3) (calm_if ((calm_ouCause _ _ not_steady_OU_INT_STAT).trans h3) h3)

@[simp] theorem calm_ouRefreshAll (s : State) : calm s.ouRefreshAll.regs = calm s.regs := calm_foldl (fun _ _ _ => calm_ouRefresh ..) s

@[simp] theorem calm_twEnter (s : State) (st : Nat) : calm (s.twEnter st).regs = calm s.regs := by
  unfold State.twEnter
  extract_lets t
  have ht : calm t.regs = calm s.regs := by
    simp only [t, State.raise_eq, calm_set, TW_STAT_state, TW_INT_STAT_state_chg, not_steady_TW_STAT, not_steady_TW_INT_STAT, not_false_eq_true]
  exact calm_if rfl ((calm_ouRefreshAll _).trans ((calm_set _ _ not_steady_TW_STAT).trans ht))

@[simp] theorem calm_setEnt (s : State) (t i : Nat) (e : Ent) : calm (s.setEnt t i e).regs = calm s.regs := by
  unfold State.setEnt
  extract_lets tab was n _ u
  split
  · exact calm_if (calm_set _ _ not_steady_FT_STAT) (calm_if (calm_set _ _ not_steady_FT_STAT) rfl)
  all_goals rfl

@[simp] theorem calm_resyncBegin (s : State) : calm s.resyncBegin.regs = calm s.regs := by
  unfold State.resyncBegin
  extract_lets t
  have ht : calm t.regs = calm s.regs := calm_foldl (fun _ _ _ => calm_if (calm_setEnt ..) rfl) s
  rw [State.raise_eq, calm_set _ _ not_steady_TW_RESYNC, calm_set _ _ not_steady_TW_STAT, ht]

@[simp] theorem calm_enterFaulted (s : State) (cause : Nat) : calm (s.enterFaulted cause).regs = calm s.regs :=
  (calm_set _ _ not_steady_TW_STAT).trans (calm_twEnter ..)

@[simp] theorem calm_enterSyncing (s : State) : calm s.enterSyncing.regs = calm s.regs := by
  unfold State.enterSyncing
  extract_lets t
  have ht : calm t.regs = calm s.regs := (calm_set _ _ not_steady_TW_STAT).trans (calm_twEnter ..)
  exact (calm_resyncBegin _).trans ht

@[simp] theorem calm_roleCount (s : State) (cause : Nat) : calm (s.roleCount cause).regs = calm s.regs := by
  unfold State.roleCount
  extract_lets _ t1 t2
  have h2 : calm t2.regs = calm s.regs := by
    simp only [t2, State.addWrap_eq, calm_set, TW_FO_count, TW_FO_cause, not_steady_TW_FO, not_false_eq_true]
    rfl
  simp only [State.setB_eq, calm_set, TW_FO_TIME_sec_lo, TW_FO_TIME_NS_ns, TW_FO_TIME_NS_suspect, not_steady_TW_FO_TIME, not_steady_TW_FO_TIME_NS,
    not_false_eq_true, h2]

@[simp] theorem calm_giveRole (s : State) (fault : Option Nat) (cause : Nat) : calm (s.giveRole fault cause).regs = calm s.regs := by
  unfold State.giveRole
  extract_lets t1 t2
  have h1 : calm t1.regs = calm s.regs := by
    simp only [t1]
    split
    · exact calm_enterSyncing s
    · exact calm_enterFaulted ..
  have h2 : calm t2.regs = calm s.regs := (calm_lacpRole _).trans ((calm_set _ _ not_steady_TW_INT_STAT).trans ((calm_roleCount ..).trans h1))
  exact (calm_mbAnswerWaiting _ _ (by simp)).trans h2

theorem State.galSend_regs (s : State) (b : GalBody) : (s.galSend b).regs = s.regs := by
  unfold State.galSend
  split <;> rfl

theorem State.partnerTakes_regs (s : State) : s.partnerTakes.2.regs = s.regs := by
  unfold State.partnerTakes
  split
  · rfl
  · rw [apply_ite (fun e : Bool × State => e.2.regs)]
    exact ite_self _

@[simp] theorem calm_put (s : State) {f : FRef} (v : Nat) (h : ¬ steady f.addr) : calm (s.put f v).regs = calm s.regs := by
  unfold State.put State.store
  split
  · rfl
  · exact calm_if rfl (calm_wr _ _ h)

/-- Making the lanes idle touches the lanes alone. -/
@[simp] theorem calm_lanesIdle (s : State) : calm s.lanesIdle.regs = calm s.regs := by
  refine calm_foldl (fun t l hl => ?_) s
  have hl : l < 512 := by have := s.lanes_le; have := List.mem_range.1 hl; omega
  extract_lets t1 t2
  have h1 : calm t1.regs = calm t.regs := calm_set _ _ (not_steady_LN_CTRL hl)
  have h2 : calm t2.regs = calm t.regs := calm_if ((calm_put _ _ (not_steady_LN_CTRL hl)).trans h1) h1
  exact (calm_laneTx _ hl).trans h2

/-- A module that gives the role away for a fault of its own leaves the steady registers alone (R375). -/
@[simp] theorem calm_twSelfFault (s : State) : calm s.twSelfFault.regs = calm s.regs := by
  unfold State.twSelfFault
  refine calm_if ?_ rfl
  split
  next able t ht =>
    have htake : t.regs = s.regs := (congrArg (fun e => e.2.regs) ht).symm.trans s.partnerTakes_regs
    extract_lets u
    have hu : calm u.regs = calm s.regs := by
      rw [calm_giveRole, State.galSend_regs, htake]
    exact calm_if hu ((calm_lanesIdle _).trans hu)

@[simp] theorem calm_rootAction (s : State) : calm s.rootAction.regs = calm s.regs :=
  calm_if (calm_lanesIdle _) (calm_twSelfFault _)

end Sys2Proof.Machine
end

section
/-! PROOFS. What the lanes' events leave of a port: its configuration, the writes that wait for it, and its idleness. -/

namespace Sys2Proof.Machine

/-! ### Pending writes of one register -/

/-- The pending writes of register `a`, oldest first. -/
def State.pendAt (s : State) (a : Nat) : List (Nat × Word × Nat) := s.pend.filter fun e => decide (e.1 = a)

/-- Boundaries of other registers leave the pending writes alone. -/
theorem State.pendAt_applyPend_other (s : State) {p : Nat → Bool} {a : Nat} (h : p a = false) : (s.applyPend p).pendAt a = s.pendAt a := by
  rw [State.pendAt, State.applyPend, State.foldl_wr_pend]
  dsimp only
  rw [List.filter_filter, State.pendAt]
  refine List.filter_congr fun e _ => ?_
  by_cases he : e.1 = a
  · simp [he, h]
  · simp [he]

/-- Of a list of writes, those of a register decide what it reads. -/
theorem State.rd_foldl_wr (a : Nat) (l : List (Nat × Word × Nat)) : ∀ s t : State, s.rd a = t.rd a →
    (l.foldl (fun u e => u.wr e.1 e.2.1) s).rd a = ((l.filter fun e => decide (e.1 = a)).foldl (fun u e => u.wr e.1 e.2.1) t).rd a := by
  induction l with
  | nil => exact fun _ _ h => h
  | cons e l ih =>
    intro s t h
    rw [List.foldl_cons, List.filter_cons]
    split
    next he =>
      rw [List.foldl_cons]
      refine ih _ _ ?_
      rw [of_decide_eq_true he, State.rd_wr_same, State.rd_wr_same]
    next he =>
      refine ih _ _ ?_
      rw [State.rd_wr_ne _ _ fun ha => he (decide_eq_true ha.symm), h]

/-- Boundaries of other registers leave the register alone. -/
theorem State.rd_applyPend_other (s : State) {p : Nat → Bool} {a : Nat} (h : p a = false) : (s.applyPend p).rd a = s.rd a := by
  have hnone : ((s.pend.filter fun e => p e.1 && captured s.clk e).filter fun e => decide (e.1 = a)) = [] := by
    rw [List.filter_filter, List.filter_eq_nil_iff]
    intro e _ he
    simp only [Bool.and_eq_true, decide_eq_true_eq] at he
    rw [he.1, h] at he
    cases he.2.1
  rw [State.applyPend, State.rd_foldl_wr a _ _ _ rfl, hnone]
  rfl

/-- The one captured write of a register applies at its boundary, and nothing stays pending for it. -/
theorem State.applyPend_pendAt {s : State} {p : Nat → Bool} {a : Nat} {v : Word} {c : Nat} (hpend : s.pendAt a = [(a, v, c)]) (hp : p a = true)
    (hc : c + 32 < s.clk) : (s.applyPend p).rd a = v &&& fieldBits a ∧ (s.applyPend p).pendAt a = [] := by
  have hcaptured : captured s.clk (a, v, c) = true := by simpa [captured] using hc
  have hmem : ∀ e ∈ s.pend, e.1 = a → e = (a, v, c) := fun e he hea => by
    have : e ∈ s.pendAt a := List.mem_filter.2 ⟨he, decide_eq_true hea⟩
    rw [hpend] at this
    exact List.mem_singleton.1 this
  constructor
  · have hnow : ((s.pend.filter fun e => p e.1 && captured s.clk e).filter fun e => decide (e.1 = a)) = [(a, v, c)] := by
      rw [List.filter_filter, ← hpend, State.pendAt]
      refine List.filter_congr fun e he => ?_
      by_cases hea : e.1 = a
      · rw [hmem e he hea]
        simp [hp, hcaptured]
      · simp [hea]
    rw [State.applyPend, State.rd_foldl_wr a _ _ _ rfl, hnow]
    exact State.rd_wr_same ..
  · rw [State.pendAt, State.applyPend, State.foldl_wr_pend, List.filter_eq_nil_iff]
    intro e he hea
    obtain ⟨hmemp, hlater⟩ := List.mem_filter.1 he
    rw [hmem e hmemp (of_decide_eq_true hea)] at hlater
    simp [hp, hcaptured] at hlater

/-- A register with one pending write reads as it in the shadow. -/
theorem State.shadow_pendAt {s : State} {a : Nat} {v : Word} {c : Nat} (hpend : s.pendAt a = [(a, v, c)]) : s.shadow a = v := by
  have hfold : ∀ (l : List (Nat × Word × Nat)) (w : Option Word), l.foldl (fun w e => if e.1 = a then some e.2.1 else w) w =
      (l.filter fun e => decide (e.1 = a)).foldl (fun _ e => some e.2.1) w := by
    intro l
    induction l with
    | nil => exact fun _ => rfl
    | cons e l ih =>
      intro w
      by_cases he : e.1 = a <;> simp [he, ih]
  have hlist : s.pend.filter (fun e => decide (e.1 = a)) = [(a, v, c)] := hpend
  rw [State.shadow, hfold, hlist]
  rfl

theorem calm_applyPend (s : State) {p : Nat → Bool} (h : ∀ a, p a = true → ¬ steady a) : calm (s.applyPend p).regs = calm s.regs := by
  unfold State.applyPend
  extract_lets now later
  refine calm_foldl (fun t e he => calm_wr _ _ (h e.1 ?_)) _
  simp only [now, List.mem_filter, Bool.and_eq_true] at he
  exact he.2.1

/-! ### What an event leaves of a port -/

/-- An event leaves port `p` its configuration, the writes that wait for a port, and its idleness. -/
structure PortKept (p : Nat) (s t : State) : Prop where
  ctrl : t.rd (PT_CTRL p) = s.rd (PT_CTRL p)
  adj : t.rd (PT_TS_ING_ADJ p) = s.rd (PT_TS_ING_ADJ p)
  idle : s.on (PT_IDLE_idle p) = true → t.on (PT_IDLE_idle p) = true
  pend : ∀ a, PT_CTRL 0 ≤ a → t.pendAt a = s.pendAt a
  clk : t.clk = s.clk

theorem steady_PT_CTRL {p : Nat} (hp : p < 48) : steady (PT_CTRL p) := by
  rw [steady_iff, PT_CTRL]
  omega

theorem steady_PT_TS_ING_ADJ {p : Nat} (hp : p < 48) : steady (PT_TS_ING_ADJ p) := by
  rw [steady_iff, PT_TS_ING_ADJ]
  omega

theorem steady_PT_IDLE {p : Nat} (hp : p < 48) : steady (PT_IDLE p) := by
  rw [steady_iff, PT_IDLE]
  omega

theorem ok_PT_IDLE (p : Fin 48) : (PT_IDLE_idle p).ok = true ∧ (PT_IDLE_drain_timeout p).ok = true := by
  revert p
  decide

namespace PortKept
variable {p : Nat} {s t u : State}

theorem refl : PortKept p s s := ⟨rfl, rfl, id, fun _ _ => rfl, rfl⟩

theorem trans (h : PortKept p s t) (g : PortKept p t u) : PortKept p s u :=
  ⟨g.ctrl.trans h.ctrl, g.adj.trans h.adj, g.idle ∘ h.idle, fun a ha => (g.pend a ha).trans (h.pend a ha), g.clk.trans h.clk⟩

/-- An event that leaves the steady registers and the pending writes alone. -/
theorem of_calm (hp : p < 48) {l : List Part} (hcalm : calm t.regs = calm s.regs) (hparts : onlyParts l s t)
    (hl : Part.pend ∉ l ∧ Part.clk ∉ l := by decide) : PortKept p s t where
  ctrl := rd_of_calm hcalm (steady_PT_CTRL hp)
  adj := rd_of_calm hcalm (steady_PT_TS_ING_ADJ hp)
  idle h := (on_of_calm (f := PT_IDLE_idle p) hcalm (steady_PT_IDLE hp)).trans h
  pend _ _ := congrArg (List.filter _) (hparts .pend hl.1)
  clk := hparts .clk hl.2

theorem ite {c : Prop} [Decidable c] (ht : PortKept p s t) (hu : PortKept p s u) : PortKept p s (if c then t else u) := by
  split
  · exact ht
  · exact hu

theorem foldl {f : State → Nat → State} {l : List Nat} (h : ∀ t, ∀ x ∈ l, PortKept p t (f t x)) (s : State) : PortKept p s (l.foldl f s) :=
  List.foldlRecOn (motive := fun t : State => PortKept p s t) l f refl fun t ht x hx => ht.trans (h t x hx)

theorem set (hp : p < 48) {f : FRef} {v : Nat} (h : ¬ steady f.addr) : PortKept p s (s.set f v) :=
  of_calm hp (calm_set _ _ h) (State.set_parts s f v)

/-- A port that becomes idle. -/
theorem set_idle (hp : p < 48) (q : Nat) : PortKept p s (s.set (PT_IDLE_idle q) 1) where
  ctrl := State.rd_set_ne s _ (by simp only [PT_CTRL, PT_IDLE_idle, PT_IDLE]; omega)
  adj := State.rd_set_ne s _ (by simp only [PT_TS_ING_ADJ, PT_IDLE_idle, PT_IDLE]; omega)
  idle h := by
    by_cases hq : p = q
    · subst hq
      rw [State.on, State.get_set_same _ _ (ok_PT_IDLE ⟨p, hp⟩).1]
      rfl
    · rw [State.on, State.get_set_addr, ← State.on, h]
      simp only [PT_IDLE_idle, PT_IDLE]
      omega
  pend _ _ := rfl
  clk := rfl

/-- The time limit of a drain is kept beside the idleness. -/
theorem set_drain_timeout (hp : p < 48) (q v : Nat) : PortKept p s (s.set (PT_IDLE_drain_timeout q) v) where
  ctrl := State.rd_set_ne s _ (by simp only [PT_CTRL, PT_IDLE_drain_timeout, PT_IDLE]; omega)
  adj := State.rd_set_ne s _ (by simp only [PT_TS_ING_ADJ, PT_IDLE_drain_timeout, PT_IDLE]; omega)
  idle h := by
    by_cases hq : p = q
    · subst hq
      rw [State.on, State.get_set_bits (f := PT_IDLE_drain_timeout p) (g := PT_IDLE_idle p) _ _ rfl (ok_PT_IDLE ⟨p, hp⟩).1 (.inr Nat.zero_lt_one),
        ← State.on, h]
    · rw [State.on, State.get_set_addr, ← State.on, h]
      simp only [PT_IDLE_idle, PT_IDLE_drain_timeout, PT_IDLE]
      omega
  pend _ _ := rfl
  clk := rfl

variable (hp : p < 48)
include hp

theorem portIdle (s : State) (q : Nat) : PortKept p s (s.portIdle q) :=
  ((set hp not_steady_PT_STAT).trans (set_idle hp q)).trans (set hp not_steady_PT_INT_STAT)

theorem linkWait (s : State) (l : Nat) : PortKept p s (s.linkWait l) := of_calm hp (calm_linkWait s l) (State.linkWait_parts s l)

theorem scDiscardPort (s : State) {q code : Nat} (hq : q < 48) (hcode : code < 16) : PortKept p s (s.scDiscardPort q code) :=
  of_calm hp (calm_scDiscardPort s hq hcode) (State.scDiscardPort_parts s q code)

theorem portStop (s : State) {q : Nat} (drain : Bool) (hq : q < 48) : PortKept p s (s.portStop q drain) := by
  unfold State.portStop
  extract_lets t
  refine (linkWait hp s q).trans (ite refl (ite ?_ ?_))
  · exact (set hp not_steady_PT_STAT).trans (set_drain_timeout hp q 0)
  · exact ((scDiscardPort hp t hq (by decide)).trans (set_drain_timeout hp q 0)).trans (portIdle hp _ q)

theorem portDown (s : State) {q : Nat} (hq : q < 48) : PortKept p s (s.portDown q) := by
  unfold State.portDown
  extract_lets t
  have ht : PortKept p s t :=
    ite ((((scDiscardPort hp s hq (by decide)).trans (set hp not_steady_PT_STAT)).trans (set_idle hp q)).trans (set hp not_steady_PT_INT_STAT)) refl
  exact ite (ht.trans (scDiscardPort hp t hq (by decide))) ht

theorem portLooped (s : State) (q : Nat) : PortKept p s (s.portLooped q) := set hp not_steady_PT_STAT

theorem portUp (s : State) (q : Nat) : PortKept p s (s.portUp q) :=
  of_calm hp (calm_if (calm_set s 1 (f := PT_INT_STAT_link_up q) not_steady_PT_INT_STAT) rfl) (State.portUp_parts s q)

theorem faultTx (s : State) (q : Nat) : PortKept p s (s.faultTx q) := by
  refine of_calm hp ?_ (State.faultTx_parts s q)
  unfold State.faultTx
  extract_lets on
  exact calm_if rfl rfl

theorem linkPortLost (s : State) (q : Nat) : PortKept p s (s.linkPortLost q) := of_calm hp (calm_linkPortLost s q) (State.linkPortLost_parts s q)

theorem portLink (s : State) {q : Nat} (hq : q < 48) : PortKept p s (s.portLink q) := by
  unfold State.portLink
  extract_lets was fault t1 t2 t3
  have h2 : PortKept p s t2 := (set hp (s := s) not_steady_PT_STAT).trans (set hp (s := t1) not_steady_PT_STAT)
  have h3 : PortKept p s t3 := ite (h2.trans (portUp hp t2 q)) ((h2.trans (ite (portDown hp t2 hq) refl)).trans (linkPortLost hp _ q))
  exact h3.trans (faultTx hp t3 q)

/-! ### Lanes at a boundary -/

theorem applyPend_lane (s : State) {l : Nat} (hl : l < 48) : PortKept p s (s.applyPend (isLaneReg l)) := by
  have hlane : ∀ a, isLaneReg l a = true → a < 0x140000 ∧ ¬ steady a := fun a ha => by
    obtain ⟨hlo, hhi⟩ := (Bool.and_eq_true _ _).mp ha
    have hlo := of_decide_eq_true hlo
    have hhi := of_decide_eq_true hhi
    rw [LN_CTRL] at hlo hhi
    rw [steady_iff]
    omega
  have hcalm := calm_applyPend s fun a ha => (hlane a ha).2
  refine ⟨rd_of_calm hcalm (steady_PT_CTRL hp), rd_of_calm hcalm (steady_PT_TS_ING_ADJ hp),
    fun h => (on_of_calm (f := PT_IDLE_idle p) hcalm (steady_PT_IDLE hp)).trans h, fun a ha => State.pendAt_applyPend_other s ?_,
    State.applyPend_parts s _ .clk (by decide)⟩
  refine Bool.eq_false_iff.2 fun h => ?_
  have := (hlane a h).1
  simp only [PT_CTRL] at ha
  omega

theorem laneApply (s : State) {l : Nat} (hl : l < 48) : PortKept p s (s.laneApply l) := by
  have hl' : l < 512 := hl.trans (by decide)
  unfold State.laneApply
  split
  · exact refl
  extract_lets wasOn loop had taps t1 isOn t2 t3
  have h1 : PortKept p s t1 := applyPend_lane hp s hl
  have htaps : PortKept p t1 (t1.laneTaps l) := of_calm hp (calm_laneTaps t1 hl') (State.laneTaps_parts t1 l)
  have hcheck : ∀ t : State, PortKept p t (t.laneCheck l) := fun t => of_calm hp (calm_laneCheck t hl') (State.laneCheck_parts t l)
  have h2 : PortKept p s t2 := (ite (h1.trans htaps) h1).trans (hcheck _)
  have h3 : PortKept p s t3 := by
    refine h2.trans (ite ?_ (ite ?_ refl))
    · exact (of_calm hp (calm_lanePowerDown t2 hl') (State.lanePowerDown_parts t2 l)).trans (portStop hp _ _ (State.headLane_lt _ hl))
    · exact of_calm hp (calm_laneRestart t2 hl') (State.laneRestart_parts t2 l)
  have hclk : PortKept p s (t3.laneClk l) := h3.trans (of_calm hp (calm_laneClk t3 hl') (State.laneClk_parts t3 l))
  have htx : ∀ t : State, PortKept p t (t.laneTx l) := fun t => of_calm hp (calm_laneTx t hl') (State.laneTx_parts t l)
  exact ite h1 (((hclk.trans (htx _)).trans (portLooped hp _ _)).trans (portLink hp _ (State.headLane_lt _ hl)))

theorem laneResetAt (s : State) {l : Nat} (hl : l < 48) : PortKept p s (s.laneResetAt l) := by
  have hl' : l < 512 := hl.trans (by decide)
  unfold State.laneResetAt
  extract_lets _ t
  have ht : PortKept p s t := of_calm hp (l := [.lane]) rfl ((with_lane (by decide)).2 onlyParts.refl)
  have hrestart : PortKept p s (t.laneRestart l) := ht.trans (of_calm hp (calm_laneRestart t hl') (State.laneRestart_parts t l))
  have htx : ∀ t : State, PortKept p t (t.laneTx l) := fun t => of_calm hp (calm_laneTx t hl') (State.laneTx_parts t l)
  exact ite (((hrestart.trans (portStop hp _ _ (State.headLane_lt _ hl))).trans (htx _)).trans (portLink hp _ (State.headLane_lt _ hl))) refl

theorem laneFollow (s : State) {l : Nat} (was : Nat) (hl : l < 48) : PortKept p s (s.laneFollow l was) :=
  of_calm hp (calm_laneFollow s was (hl.trans (by decide))) (State.laneFollow_parts s l was)

end PortKept

/-! ### The boundary of a port, stage by stage -/

/-- The lanes that carry port `p`. -/
def State.carriers (s : State) (p : Nat) : List Nat := if s.wide p then (if p % 4 = 0 then [p, p + 1, p + 2, p + 3] else []) else [p]

theorem State.carriers_lt (s : State) {p l : Nat} (hp : p < 48) (hl : l ∈ s.carriers p) : l < 48 := by
  unfold State.carriers at hl
  split at hl
  · split at hl
    · simp only [List.mem_cons, List.not_mem_nil, or_false] at hl
      omega
    · cases hl
  · rwa [List.mem_singleton.1 hl]

/-- The lanes of port `p` take what waits for them, and the port follows its lanes. -/
def State.lanesBoundary (s : State) (p : Nat) : State :=
  let lanes := s.carriers p
  let loop := s.loopOf p
  let s := lanes.foldl (fun s l => (s.laneApply l).laneResetAt l) s
  let s := if lanes.length ≤ 1 then s else (lanes.drop 1).foldl (fun s l => s.laneFollow l loop) s
  if s.loopOf p = loop then s else s.portLink p

/-- Port `p` takes what waits for it, and stops or starts. -/
def State.portBoundary (s : State) (p : Nat) : State :=
  let wasOn := s.on (PT_CTRL_enable p)
  let s := s.applyPend (s.portRegNow p)
  let s := s.portLooped p
  let s := if wasOn ∧ ¬ s.on (PT_CTRL_enable p) then s.portStop p (s.on (PT_DRAIN_ON_DISABLE_enable p)) else s
  (s.portStart p).faultTx p

theorem State.lnPtBoundary_eq (s : State) (p : Nat) : s.lnPtBoundary p = (s.lanesBoundary p).portBoundary p := rfl

theorem PortKept.lanesBoundary (s : State) {p : Nat} (hp : p < 48) : PortKept p s (s.lanesBoundary p) := by
  unfold State.lanesBoundary
  extract_lets lanes loop t1 t2
  have hlanes : ∀ l ∈ lanes, l < 48 := fun l hl => s.carriers_lt hp hl
  have h1 : PortKept p s t1 := PortKept.foldl (fun t l hl => (PortKept.laneApply hp t (hlanes l hl)).trans (PortKept.laneResetAt hp _ (hlanes l hl))) s
  have h2 : PortKept p s t2 :=
    PortKept.ite h1 (h1.trans (PortKept.foldl (fun t l hl => PortKept.laneFollow hp t loop (hlanes l (List.mem_of_mem_drop hl))) t1))
  exact PortKept.ite h2 (h2.trans (PortKept.portLink hp t2 hp))

end Sys2Proof.Machine
end

section
/-! PROOFS. Statement O15: ports are disabled and enabled at their boundary, and drain. -/

namespace Sys2Proof.Machine

/-- A field reads as before when its register does. -/
theorem State.on_congr {s t : State} {f : FRef} (h : t.rd f.addr = s.rd f.addr) : t.on f = s.on f := by rw [State.on, State.get, h, State.on, State.get]

theorem ok_drain (p : Fin 48) : (PT_STAT_draining p).ok = true ∧ (PT_INT_STAT_drain_done p).ok = true ∧ (PT_CTRL_enable p).ok = true := by
  revert p
  decide

/-! ### A port that stops or starts -/

/-- A port that has become idle: it drains no longer, and its idleness and the end of the drain are flagged. -/
theorem State.portIdle_flags (s : State) {p : Nat} (hp : p < 48) :
    (s.portIdle p).on (PT_STAT_draining p) = false ∧ (s.portIdle p).on (PT_IDLE_idle p) = true ∧ (s.portIdle p).on (PT_INT_STAT_drain_done p) = true := by
  obtain ⟨hdraining, hdone, -⟩ := ok_drain ⟨p, hp⟩
  have hapart : PT_STAT p ≠ PT_IDLE p ∧ PT_STAT p ≠ PT_INT_STAT p ∧ PT_IDLE p ≠ PT_INT_STAT p := by
    simp only [PT_STAT, PT_IDLE, PT_INT_STAT]
    omega
  obtain ⟨hidle, hint, hint'⟩ := hapart
  refine ⟨?_, ?_, State.on_raise _ hdone rfl⟩
  · rw [State.portIdle, State.raise_eq, State.on, State.get_set_addr _ _ hint, State.get_set_addr _ _ hidle, State.get_set_same _ _ hdraining]
    rfl
  · rw [State.portIdle, State.raise_eq, State.on, State.get_set_addr _ _ hint', State.get_set_same _ _ (ok_PT_IDLE ⟨p, hp⟩).1]
    rfl

theorem State.portIdle_drain_timeout (s : State) {p : Nat} (hp : p < 48) :
    (s.portIdle p).get (PT_IDLE_drain_timeout p) = s.get (PT_IDLE_drain_timeout p) := by
  rw [State.portIdle, State.raise_eq, State.get_set_addr, State.get_set_bits (f := PT_IDLE_idle p) (g := PT_IDLE_drain_timeout p) _ _ rfl
    (ok_PT_IDLE ⟨p, hp⟩).2 (.inl Nat.zero_lt_one), State.get_set_addr]
  all_goals simp only [PT_IDLE_drain_timeout, PT_STAT_draining, PT_INT_STAT_drain_done, PT_STAT, PT_IDLE, PT_INT_STAT]; omega

theorem State.portIdle_changes (s : State) (p : Nat) : onlyChanges [PT_STAT p, PT_IDLE p, PT_INT_STAT p] [] s (s.portIdle p).deliver :=
  onlyChanges.deliver (onlyRegs.set (onlyRegs.set (onlyRegs.set onlyRegs.refl (by simp [PT_STAT_draining])) (by simp [PT_IDLE_idle]))
    (by simp [PT_INT_STAT_drain_done])) ((State.set_keeps _ _ _ (by decide)).2 ((State.set_keeps _ _ _ (by decide)).2 ((State.set_keeps _ _ _ (by decide)).2
      onlyParts.refl)))

/-- A port that stops is idle, or drains until its queues are empty (R106). -/
theorem State.portStop_stops (s : State) {p : Nat} (drain : Bool) (hp : p < 48) :
    (s.portStop p drain).on (PT_IDLE_idle p) = true ∨ (s.portStop p drain).on (PT_STAT_draining p) = true := by
  unfold State.portStop
  extract_lets t
  split
  next hidle => exact .inl hidle
  split
  · right
    rw [State.on, State.get_set_addr, State.get_set_same _ _ (ok_drain ⟨p, hp⟩).1]
    · rfl
    · simp only [PT_IDLE_drain_timeout, PT_STAT_draining, PT_STAT, PT_IDLE]
      omega
  · exact .inl (State.portIdle_flags _ hp).2.1

theorem State.portStart_off {s : State} {p : Nat} (h : s.on (PT_CTRL_enable p) = false) : s.portStart p = s := if_pos (by simp [State.portOff, h])

/-- A start touches nothing of a port but its idleness. -/
theorem State.rd_portStart (s : State) {p a : Nat} (h : a ≠ PT_IDLE p) : (s.portStart p).rd a = s.rd a := by
  unfold State.portStart
  split
  · rfl
  · exact State.rd_set_ne _ _ h

theorem State.portStart_pend (s : State) (p : Nat) : (s.portStart p).pend = s.pend := by
  unfold State.portStart
  split <;> rfl

theorem State.rd_faultTx (s : State) (p a : Nat) : (s.faultTx p).rd a = s.rd a := by
  unfold State.faultTx
  extract_lets on
  split <;> rfl

theorem State.on_faultTx (s : State) (p : Nat) (f : FRef) : (s.faultTx p).on f = s.on f := by
  rw [State.on, State.get, State.rd_faultTx, State.on, State.get]

theorem State.faultTx_pend (s : State) (p : Nat) : (s.faultTx p).pend = s.pend := by
  unfold State.faultTx
  extract_lets on
  split <;> rfl

/-! ### The registers of a port at its boundary -/

theorem groupOf_port {p a : Nat} (hp : p < 48) (hlo : PT_CTRL p ≤ a) (hhi : a < PT_CTRL (p + 1)) : groupOf a = .port p := by
  simp only [PT_CTRL] at hlo hhi
  have hindex : (a - 0x140000) / 0x200 = p := by omega
  have hport : a < 0x180000 := by linarith
  unfold groupOf
  exact (if_neg (show ¬ a < 0x106000 by omega)).trans ((if_neg (show ¬ a < 0x140000 by omega)).trans
    ((if_pos hport).trans (congrArg Group.port hindex)))

/-- A captured write of PT_CTRL that enables or disables the port. -/
theorem State.enableChange_of_pendAt {s : State} {p : Nat} {v : Word} {c : Nat} {on : Bool} (hpend : s.pendAt (PT_CTRL p) = [(PT_CTRL p, v, c)])
    (hc : c + 32 < s.clk) (hwas : s.on (PT_CTRL_enable p) ≠ on) (hv : bitOf v.toNat 0 = on) : s.enableChange p on = true := by
  have hmem : (PT_CTRL p, v, c) ∈ s.pend := (List.mem_filter.1 (hpend ▸ List.mem_singleton_self _ : (PT_CTRL p, v, c) ∈ s.pendAt (PT_CTRL p))).1
  have hany : (s.pend.any fun e => decide (e.1 = PT_CTRL p) && captured s.clk e) = true :=
    List.any_eq_true.2 ⟨_, hmem, by simpa [captured] using hc⟩
  rw [State.enableChange, hany, State.shadow_pendAt hpend]
  simp [hwas, hv]

/-- Every register of port `p` applies at the port's boundary, but a PT_CTRL that enables a port which is not yet idle (R108). -/
theorem State.portRegNow_of_port {s : State} {p a : Nat} (hp : p < 48) (hlo : PT_CTRL p ≤ a) (hhi : a < PT_CTRL (p + 1))
    (h : a = PT_CTRL p → s.enableWaits p = false ∨ bitOf (s.shadow a).toNat 0 = false) : s.portRegNow p a = true := by
  rw [State.portRegNow, groupOf_port hp hlo hhi]
  by_cases ha : a = PT_CTRL p
  · rcases h ha with hwaits | hshadow
    · simp [hwaits]
    · simp [hshadow]
  · simp [ha]

/-- Port `p` once its values have applied: disabled, it stops. -/
def State.portSettled (s : State) (p : Nat) : State :=
  let t := (s.applyPend (s.portRegNow p)).portLooped p
  if s.on (PT_CTRL_enable p) ∧ ¬ t.on (PT_CTRL_enable p) then t.portStop p (t.on (PT_DRAIN_ON_DISABLE_enable p)) else t

theorem State.portBoundary_eq (s : State) (p : Nat) : s.portBoundary p = ((s.portSettled p).portStart p).faultTx p := rfl

theorem PortKept.portSettled (s : State) {p : Nat} (hp : p < 48) : PortKept p (s.applyPend (s.portRegNow p)) (s.portSettled p) := by
  unfold State.portSettled
  extract_lets t
  have ht : PortKept p (s.applyPend (s.portRegNow p)) t := PortKept.portLooped hp _ p
  exact PortKept.ite (ht.trans (PortKept.portStop hp t _ hp)) ht

/-- What applied to PT_CTRL and PT_TS_ING_ADJ, and what still waits for the port, stays through the rest of its boundary. -/
theorem State.portBoundary_applied (s : State) {p : Nat} (hp : p < 48) :
    (s.portBoundary p).rd (PT_CTRL p) = (s.applyPend (s.portRegNow p)).rd (PT_CTRL p) ∧
      (s.portBoundary p).rd (PT_TS_ING_ADJ p) = (s.applyPend (s.portRegNow p)).rd (PT_TS_ING_ADJ p) ∧
      ∀ a, PT_CTRL 0 ≤ a → (s.portBoundary p).pendAt a = (s.applyPend (s.portRegNow p)).pendAt a := by
  have hkept := PortKept.portSettled s hp
  rw [State.portBoundary_eq]
  refine ⟨?_, ?_, fun a ha => ?_⟩
  · rw [State.rd_faultTx, State.rd_portStart _ (by simp only [PT_CTRL, PT_IDLE]; omega), hkept.ctrl]
  · rw [State.rd_faultTx, State.rd_portStart _ (by simp only [PT_TS_ING_ADJ, PT_IDLE]; omega), hkept.adj]
  · rw [← hkept.pend a ha, State.pendAt, State.pendAt, State.faultTx_pend, State.portStart_pend]

/-- A port whose values disable it is idle or drains. -/
theorem State.portBoundary_disabled {s : State} {p : Nat} (hp : p < 48) (hwas : s.on (PT_CTRL_enable p) = true)
    (hoff : (s.applyPend (s.portRegNow p)).on (PT_CTRL_enable p) = false) :
    (s.portBoundary p).on (PT_IDLE_idle p) = true ∨ (s.portBoundary p).on (PT_STAT_draining p) = true := by
  have hctrl : (s.portSettled p).on (PT_CTRL_enable p) = false := by
    rw [← hoff]
    exact State.on_congr (f := PT_CTRL_enable p) (PortKept.portSettled s hp).ctrl
  have hstops : (s.portSettled p).on (PT_IDLE_idle p) = true ∨ (s.portSettled p).on (PT_STAT_draining p) = true := by
    unfold State.portSettled
    extract_lets t
    have ht : t.on (PT_CTRL_enable p) = false := by
      rw [← hoff]
      exact State.on_congr (f := PT_CTRL_enable p) (PortKept.portLooped hp _ p).ctrl
    rw [if_pos ⟨hwas, by simp [ht]⟩]
    exact State.portStop_stops t _ hp
  rwa [State.portBoundary_eq, State.portStart_off hctrl, State.on_faultTx, State.on_faultTx]

/-! ### The parser's boundary -/

/-- The registers and the pending writes that a swap of the parser's banks leaves alone. -/
def bankSwapped (s t : State) : Prop := onlyRegs [PR_STAT, PR_CTRL, PR_GR_DRAINED, PR_RS_DRAINED] s t ∧ t.pend = s.pend

theorem bankSwapped.with_pr {s t : State} (x : Parser) (h : bankSwapped s t) : bankSwapped s { t with pr := x } := h

theorem bankSwapped.set {s t : State} {f : FRef} {v : Nat} (h : bankSwapped s t)
    (hf : f.addr ∈ [PR_STAT, PR_CTRL, PR_GR_DRAINED, PR_RS_DRAINED]) : bankSwapped s (t.set f v) := ⟨onlyRegs.set h.1 hf, h.2⟩

theorem bankSwapped_prSwapAt (s : State) (p : Nat) : bankSwapped s (s.prSwapAt p) := by
  have h0 : bankSwapped s s := ⟨onlyRegs.refl, rfl⟩
  unfold State.prSwapAt
  extract_lets g r _ t1 _ u1 _ t2 _ u2 _ t3 b3 _ t4 b4
  have h1 : bankSwapped s t1 := h0.with_pr _
  have hu1 : bankSwapped s u1 := by
    simp only [u1]
    split
    · exact (h1.with_pr _).set (by decide)
    · exact h1
  have h2 : bankSwapped s t2 := by
    simp only [t2]
    split
    · exact hu1.with_pr _
    · exact h1
  have hu2 : bankSwapped s u2 := by
    simp only [u2]
    split
    · exact (h2.with_pr _).set (by decide)
    · exact h2
  have h3 : bankSwapped s t3 := by
    simp only [t3]
    split
    · exact hu2.with_pr _
    · exact h2
  have h4 : bankSwapped s t4 := by
    simp only [t4]
    split
    · exact ((h3.with_pr _).set (by decide)).set (by decide)
    · exact h3
  split
  · exact ((h4.with_pr _).set (by decide)).set (by decide)
  · exact h4

/-- The boundary of the parser leaves the registers below it alone, with what waits for them. -/
theorem State.prBoundary_below (s : State) (p : Nat) {a : Nat} (ha : a < 0x180000) :
    (s.prBoundary p).rd a = s.rd a ∧ (s.prBoundary p).pendAt a = s.pendAt a := by
  have hpr : ∀ b, prOf b = true → 0x180000 ≤ b := fun b hb => by
    have hgroup : groupOf b = .parser := of_decide_eq_true hb
    refine Nat.not_lt.1 fun hlt => ?_
    unfold groupOf at hgroup
    split at hgroup
    · cases hgroup
    split at hgroup
    · cases hgroup
    cases hgroup
  have hother : prOf a = false := Bool.eq_false_iff.2 fun h => Nat.not_lt.2 (hpr a h) ha
  obtain ⟨hregs, hpend⟩ := bankSwapped_prSwapAt (s.applyPend prOf) p
  constructor
  · rw [State.prBoundary, hregs a, State.rd_applyPend_other s hother]
    simp only [List.mem_cons, List.not_mem_nil, or_false, PR_STAT, PR_CTRL, PR_GR_DRAINED, PR_RS_DRAINED]
    omega
  · rw [State.prBoundary, State.pendAt, hpend]
    exact State.pendAt_applyPend_other s hother

/-! ### The whole boundary -/

theorem State.frameBoundary_eq (s : State) {p : Nat} (hp : p < 48) :
    s.frameBoundary p = ((s.lanesBoundary p).portBoundary p).prBoundary p := by
  rw [State.frameBoundary, if_pos hp, State.lnPtBoundary_eq]

theorem State.on_frameBoundary (s : State) {p : Nat} (hp : p < 48) {f : FRef} (hf : f.addr < 0x180000) :
    (s.frameBoundary p).on f = ((s.lanesBoundary p).portBoundary p).on f := by
  rw [s.frameBoundary_eq hp, State.on, State.get, (State.prBoundary_below _ p hf).1, State.on, State.get]

/-- The captured value of PT_CTRL is in force after the boundary, unless the port must be idle first. -/
theorem State.frameBoundary_ctrl {s : State} {p : Nat} {v : Word} {c : Nat} (hp : p < 48) (hpend : s.pendAt (PT_CTRL p) = [(PT_CTRL p, v, c)])
    (hc : c + 32 < s.clk) (h : (s.lanesBoundary p).enableWaits p = false ∨ bitOf v.toNat 0 = false) :
    ((s.lanesBoundary p).applyPend ((s.lanesBoundary p).portRegNow p)).on (PT_CTRL_enable p) = bitOf v.toNat 0 ∧
      (s.frameBoundary p).on (PT_CTRL_enable p) = bitOf v.toNat 0 := by
  have hkept := PortKept.lanesBoundary s hp
  rw [← hkept.pend _ (by simp only [PT_CTRL]; omega)] at hpend
  rw [← hkept.clk] at hc
  have hnow : (s.lanesBoundary p).portRegNow p (PT_CTRL p) = true :=
    State.portRegNow_of_port hp le_rfl (by simp only [PT_CTRL]; omega) fun _ => by rwa [State.shadow_pendAt hpend]
  have happlied : ((s.lanesBoundary p).applyPend ((s.lanesBoundary p).portRegNow p)).on (PT_CTRL_enable p) = bitOf v.toNat 0 := by
    have hok := (ok_drain ⟨p, hp⟩).2.2
    simp only [FRef.ok, Bool.and_eq_true, decide_eq_true_eq] at hok
    have hbits : bitsOf (v &&& fieldBits (PT_CTRL p)) 0 0 = bitsOf v 0 0 := bitsOf_and v _ hok.1 hok.2
    rw [State.on, State.get, PT_CTRL_enable, (State.applyPend_pendAt hpend hnow hc).1, hbits]
    rfl
  refine ⟨happlied, ?_⟩
  rw [State.on_frameBoundary s hp (by simp only [PT_CTRL_enable, PT_CTRL]; omega), ← happlied]
  exact State.on_congr (f := PT_CTRL_enable p) ((s.lanesBoundary p).portBoundary_applied hp).1

/-- The captured value of PT_TS_ING_ADJ is in force after the boundary, and none waits. -/
theorem State.frameBoundary_adj {s : State} {p : Nat} {v : Word} {c : Nat} (hp : p < 48) (hpend : s.pendAt (PT_TS_ING_ADJ p) = [(PT_TS_ING_ADJ p, v, c)])
    (hc : c + 32 < s.clk) : (s.frameBoundary p).rd (PT_TS_ING_ADJ p) = v &&& fieldBits (PT_TS_ING_ADJ p) ∧
      (s.frameBoundary p).pendAt (PT_TS_ING_ADJ p) = [] := by
  have hkept := PortKept.lanesBoundary s hp
  have hport : PT_CTRL 0 ≤ PT_TS_ING_ADJ p ∧ PT_CTRL p ≤ PT_TS_ING_ADJ p ∧ PT_TS_ING_ADJ p < PT_CTRL (p + 1) ∧ PT_TS_ING_ADJ p ≠ PT_CTRL p ∧
      PT_TS_ING_ADJ p < 0x180000 := by
    simp only [PT_CTRL, PT_TS_ING_ADJ]
    omega
  obtain ⟨hports, hlo, hhi, hne, hlow⟩ := hport
  rw [← hkept.pend _ hports] at hpend
  rw [← hkept.clk] at hc
  have hnow : (s.lanesBoundary p).portRegNow p (PT_TS_ING_ADJ p) = true := State.portRegNow_of_port hp hlo hhi fun h => absurd h hne
  obtain ⟨happlied, hnone⟩ := State.applyPend_pendAt hpend hnow hc
  obtain ⟨-, hadj, hpending⟩ := (s.lanesBoundary p).portBoundary_applied hp
  obtain ⟨hrd, hwait⟩ := ((s.lanesBoundary p).portBoundary p).prBoundary_below p hlow
  rw [s.frameBoundary_eq hp]
  exact ⟨hrd.trans (hadj.trans happlied), hwait.trans ((hpending _ hports).trans hnone)⟩

/-- The delivery of interrupts leaves the registers of a port alone. -/
theorem State.on_deliver_port (s : State) {p : Nat} {f : FRef} (hp : p < 48) (hf : f.addr ∈ [PT_CTRL p, PT_IDLE p, PT_STAT p, PT_INT_STAT p]) :
    s.deliver.on f = s.on f := by
  have hport : SYS_PBA 1 < f.addr ∧ SYS_PBA 0 < SYS_PBA 1 := by
    simp only [List.mem_cons, List.not_mem_nil, or_false, PT_CTRL, PT_IDLE, PT_STAT, PT_INT_STAT] at hf
    simp only [SYS_PBA]
    omega
  exact s.on_deliver (hport.2.trans hport.1).ne' hport.1.ne'

end Sys2Proof.Machine

namespace Sys2Proof

open Sys2Proof.Machine

theorem portDisable_stops (p : Fin 48) (v : Word) (c : Nat) (s : State) (hup : s.up) (hbetween : s.between p = true)
    (hpend : s.pend.filter (fun e => decide (e.1 = PT_CTRL p)) = [(PT_CTRL p, v, c)]) (hc : c + 32 < s.clk)
    (hwas : s.on (PT_CTRL_enable p) = true) (hv : bitOf v.toNat 0 = false) :
    ∃ t, goesTo (.portDisable p) s t ∧ t.on (PT_CTRL_enable p) = false ∧ (t.on (PT_IDLE_idle p) = true ∨ t.on (PT_STAT_draining p) = true) := by
  have hchange : s.enableChange p false = true := State.enableChange_of_pendAt hpend hc (by simp [hwas]) hv
  have hexec : exec (.portDisable p) s = .next (s.frameBoundary p).deliver := by
    show finishIf (s.between p && s.enableChange p false) s _ = _
    exact finishIf_next (by simp [hbetween, hchange]) hup
  obtain ⟨happlied, hctrl⟩ := State.frameBoundary_ctrl p.isLt hpend hc (.inr hv)
  have hon : (s.lanesBoundary p).on (PT_CTRL_enable p) = true :=
    (State.on_congr (f := PT_CTRL_enable p) (PortKept.lanesBoundary s p.isLt).ctrl).trans hwas
  have hstops := State.portBoundary_disabled p.isLt hon (happlied.trans hv)
  refine ⟨_, hexec, ?_, ?_⟩
  · rw [State.on_deliver_port _ p.isLt (by simp [PT_CTRL_enable]), hctrl, hv]
  · rwa [State.on_deliver_port _ p.isLt (by simp [PT_IDLE_idle]), State.on_deliver_port _ p.isLt (by simp [PT_STAT_draining]),
      State.on_frameBoundary s p.isLt (by simp only [PT_IDLE_idle, PT_IDLE]; omega),
      State.on_frameBoundary s p.isLt (by simp only [PT_STAT_draining, PT_STAT]; omega)]

theorem portEnable_enables (p : Fin 48) (v : Word) (c : Nat) (s : State) (hup : s.up) (hbetween : s.between p = true)
    (hpend : s.pend.filter (fun e => decide (e.1 = PT_CTRL p)) = [(PT_CTRL p, v, c)]) (hc : c + 32 < s.clk)
    (hwas : s.on (PT_CTRL_enable p) = false) (hidle : s.on (PT_IDLE_idle p) = true) (hv : bitOf v.toNat 0 = true) :
    ∃ t, goesTo (.portEnable p) s t ∧ t.on (PT_CTRL_enable p) = true := by
  have hwaits : ∀ {t : State}, t.on (PT_IDLE_idle p) = true → t.enableWaits p = false := fun h => by simp [State.enableWaits, h]
  have hchange : s.enableChange p true = true := State.enableChange_of_pendAt hpend hc (by simp [hwas]) hv
  have hexec : exec (.portEnable p) s = .next (s.frameBoundary p).deliver := by
    show finishIf (s.between p && s.enableChange p true && !s.enableWaits p) s _ = _
    exact finishIf_next (by simp [hbetween, hchange, hwaits hidle]) hup
  refine ⟨_, hexec, ?_⟩
  rw [State.on_deliver_port _ p.isLt (by simp [PT_CTRL_enable]),
    (State.frameBoundary_ctrl p.isLt hpend hc (.inl (hwaits ((PortKept.lanesBoundary s p.isLt).idle hidle)))).2, hv]

theorem frameBoundary_applies (p : Fin 48) (v : Word) (c : Nat) (s : State) (hup : s.up) (hbetween : s.between p = true)
    (hpend : s.pend.filter (fun e => decide (e.1 = PT_TS_ING_ADJ p)) = [(PT_TS_ING_ADJ p, v, c)]) (hc : c + 32 < s.clk) :
    ∃ t, goesTo (.frameBoundary (p.castLE (by decide))) s t ∧ t.rd (PT_TS_ING_ADJ p) = v &&& fieldBits (PT_TS_ING_ADJ p) ∧
      t.pend.any (fun e => decide (e.1 = PT_TS_ING_ADJ p)) = false := by
  have hexec : exec (.frameBoundary (p.castLE (by decide))) s = .next (s.frameBoundary p).deliver := by
    show finishIf (s.between p) s (s.frameBoundary p) = _
    exact finishIf_next (by simp [hbetween]) hup
  obtain ⟨hrd, hnone⟩ := State.frameBoundary_adj p.isLt hpend hc
  refine ⟨_, hexec, ?_, ?_⟩
  · rw [State.rd_deliver _ _ (by simp only [PT_TS_ING_ADJ, SYS_PBA]; omega) (by simp only [PT_TS_ING_ADJ, SYS_PBA]; omega), hrd]
  · rw [State.deliver_pend, List.any_eq_false]
    intro e he hea
    have hmem : e ∈ (s.frameBoundary p).pendAt (PT_TS_ING_ADJ p) := List.mem_filter.2 ⟨he, hea⟩
    rw [hnone] at hmem
    cases hmem

theorem drainDone_idles (p : Fin 48) (s : State) (hup : s.up) (hdraining : s.on (PT_STAT_draining p) = true) (hempty : s.scHasPort p = false) :
    ∃ t, goesTo (.drainDone p) s t ∧ t.on (PT_STAT_draining p) = false ∧ t.on (PT_IDLE_idle p) = true ∧ t.on (PT_INT_STAT_drain_done p) = true ∧
      onlyChanges [PT_STAT p, PT_IDLE p, PT_INT_STAT p] [] s t := by
  have hexec : exec (.drainDone p) s = .next (s.portIdle p).deliver := by
    show finishIf (s.on (PT_STAT_draining p) && !s.scHasPort p) s _ = _
    exact finishIf_next (by simp [hdraining, hempty]) hup
  obtain ⟨hstat, hidle, hint⟩ := s.portIdle_flags p.isLt
  refine ⟨_, hexec, ?_, ?_, ?_, s.portIdle_changes p⟩
  · rw [State.on_deliver_port _ p.isLt (by simp [PT_STAT_draining]), hstat]
  · rw [State.on_deliver_port _ p.isLt (by simp [PT_IDLE_idle]), hidle]
  · rw [State.on_deliver_port _ p.isLt (by simp [PT_INT_STAT_drain_done]), hint]

theorem drainTimeout_idles (p : Fin 48) (s : State) (hup : s.up) (hdraining : s.on (PT_STAT_draining p) = true)
    (htimeout : 0 < s.get (PT_DRAIN_ON_DISABLE_timeout_us p)) :
    ∃ t, goesTo (.drainTimeout p) s t ∧ t.on (PT_STAT_draining p) = false ∧ t.on (PT_IDLE_idle p) = true ∧ t.on (PT_IDLE_drain_timeout p) = true ∧
      t.on (PT_INT_STAT_drain_done p) = true := by
  generalize hu : (s.scDiscardPort p 0x4).set (PT_IDLE_drain_timeout p) 1 = u
  have hexec : exec (.drainTimeout p) s = .next (u.portIdle p).deliver := by
    show finishIf (s.on (PT_STAT_draining p) && decide (0 < s.get (PT_DRAIN_ON_DISABLE_timeout_us p))) s
      (((s.scDiscardPort p 0x4).set (PT_IDLE_drain_timeout p) 1).portIdle p) = _
    rw [hu]
    exact finishIf_next (by simp [hdraining, htimeout]) hup
  obtain ⟨hstat, hidle, hint⟩ := u.portIdle_flags p.isLt
  have hlimit : (u.portIdle p).on (PT_IDLE_drain_timeout p) = true := by
    rw [State.on, State.portIdle_drain_timeout u p.isLt, ← hu, State.get_set_same _ _ (ok_PT_IDLE p).2]
    rfl
  refine ⟨_, hexec, ?_, ?_, ?_, ?_⟩
  · rw [State.on_deliver_port _ p.isLt (by simp [PT_STAT_draining]), hstat]
  · rw [State.on_deliver_port _ p.isLt (by simp [PT_IDLE_idle]), hidle]
  · rw [State.on_deliver_port _ p.isLt (by simp [PT_IDLE_drain_timeout]), hlimit]
  · rw [State.on_deliver_port _ p.isLt (by simp [PT_INT_STAT_drain_done]), hint]

/-- Settles O15: the lanes' stage of a boundary leaves the port's waiting writes, PT_CTRL and the idleness alone, so its captured writes decide. -/
theorem portDisableAndDrain : Obligations.PortDisableAndDrain := by
  unfold Obligations.PortDisableAndDrain
  exact ⟨portDisable_stops, portEnable_enables, frameBoundary_applies, drainDone_idles, drainTimeout_idles⟩

end Sys2Proof
end

section
/-! PROOFS. Restarts of the MP (R29, R428, R462). -/

namespace Sys2Proof.Machine

/-! ### The MP beside the order of its mailboxes -/

/-- What an answer of the MP leaves alone: all of it but the order of the waiting mailboxes. -/
def Mp.besideOrder (m : Mp) : Bool × Bool × Bool × Nat := (m.hung, m.restarting, m.booted, m.startClk)

theorem onlyParts.mp {l : List Part} {s t : State} (h : onlyParts l s t) (q : Part.mp ∉ l := by decide) : t.mp = s.mp := h .mp q

theorem onlyParts.clk {l : List Part} {s t : State} (h : onlyParts l s t) (q : Part.clk ∉ l := by decide) : t.clk = s.clk := h .clk q

theorem mbToIdle_besideOrder (s : State) (n : Nat) : (s.mbToIdle n).mp.besideOrder = s.mp.besideOrder := by
  have howner : (s.mbToIdle n).mp = ((s.mbLeave n).set (MB_STAT_state n) mbIdle).mp := onlyParts.mp (State.ownerApply_parts _)
  rw [howner]
  rfl

theorem mbAnswer_besideOrder (s : State) (n : Nat) (r : MbReq) (status detail value : Nat) (data : Bytes) :
    (s.mbAnswer n r status detail value data).mp.besideOrder = s.mp.besideOrder := by
  have hraw : ∀ payload, (s.mbAnswerRaw n r payload).mp.besideOrder = s.mp.besideOrder := by
    intro payload
    unfold State.mbAnswerRaw
    extract_lets b t1 t2
    split
    · exact mbToIdle_besideOrder t1 n
    · have ht2 : t2.mp = t1.mp := onlyParts.mp (State.wrs_parts t1 _ _)
      show t2.mp.besideOrder = _
      rw [ht2]
      rfl
  unfold State.mbAnswer
  extract_lets p t
  split
  · exact hraw p
  · exact hraw p

theorem mbAnswerWaiting_besideOrder (s : State) (p : MbReq → Bool) (a : Nat ⊕ Bytes) : (s.mbAnswerWaiting p a).mp.besideOrder = s.mp.besideOrder := by
  refine foldl_keeps _ (fun t : State => t.mp.besideOrder) (fun t n => ?_) _ s
  split
  · split
    · split
      · exact mbAnswer_besideOrder ..
      · exact mbAnswer_besideOrder ..
    · rfl
  · rfl

theorem abortAll_besideOrder (s : State) : s.abortAll.mp.besideOrder = s.mp.besideOrder := by
  refine foldl_keeps _ (fun t : State => t.mp.besideOrder) (fun t n => ?_) _ s
  extract_lets u
  split
  · exact mbAnswer_besideOrder ..
  · split
    · exact mbAnswer_besideOrder ..
    · rfl

theorem giveRole_besideOrder (s : State) (fault : Option Nat) (cause : Nat) : (s.giveRole fault cause).mp.besideOrder = s.mp.besideOrder := by
  unfold State.giveRole
  extract_lets t u
  have ht : t.mp = s.mp := by
    simp only [t]
    split
    · exact onlyParts.mp (State.enterSyncing_parts s)
    · exact onlyParts.mp (State.enterFaulted_parts s _)
  have hu : u.mp = t.mp := by
    refine onlyParts.mp (l := [.regs, .free, .sent, .bw, .sc, .tw]) ?_
    simp (disch := decide) only [u, State.lacpRole_keeps, State.raise_eq, State.set_keeps, State.roleCount_keeps, onlyParts.self]
  clear_value t u
  rw [mbAnswerWaiting_besideOrder, hu, ht]

theorem twSelfFault_besideOrder (s : State) : s.twSelfFault.mp.besideOrder = s.mp.besideOrder := by
  unfold State.twSelfFault
  split
  · split
    next able t ht =>
      have htake : t.mp = s.mp := onlyParts.mp (onlyParts.snd ht (State.partnerTakes_parts s))
      extract_lets u
      have hu : u.mp.besideOrder = s.mp.besideOrder := by
        rw [giveRole_besideOrder, onlyParts.mp (State.galSend_parts t _), htake]
      clear_value u
      split
      · exact hu
      · exact (congrArg Mp.besideOrder (onlyParts.mp (State.lanesIdle_parts u))).trans hu
  · rfl

/-! ### A restart -/

/-- A restart takes mp_running away, counts itself and keeps its cause. -/
theorem mpRestart_restarts {s : State} (cause : Nat) (hfirst : s.mp.restarting = false) :
    (s.mpRestart cause).on MB_EPOCH_mp_running = false ∧ (s.mpRestart cause).mp.restarting = true ∧ (s.mpRestart cause).mp.hung = false ∧
      (s.mpRestart cause).get HL_WDOG_last_cause = cause % 16 ∧ (s.mpRestart cause).get HL_WDOG_restarts = min 65535 (s.get HL_WDOG_restarts + 1) := by
  unfold State.mpRestart
  rw [if_neg (by simp [hfirst])]
  extract_lets t1 ran t2 _ _ t3
  have h3 : ∀ f, t3.get f = t2.get f := fun _ => rfl
  have hend : calm (if ran then t3.lacpCatchUp else t3).regs = calm t2.regs := calm_if (calm_lacpCatchUp t3) rfl
  have hmp : (if ran then t3.lacpCatchUp else t3).mp = t3.mp := by
    split
    · exact onlyParts.mp (State.lacpCatchUp_parts t3)
    · rfl
  have hepoch : steady MB_EPOCH := by rw [steady_iff]; decide
  have hwdog : steady HL_WDOG := by rw [steady_iff]; decide
  have hcount : t1.get HL_WDOG_restarts = min 65535 (s.get HL_WDOG_restarts + 1) := by
    simp only [t1, State.inc_eq, State.add_eq]
    rw [State.get_set_bits (f := HL_WDOG_last_cause) (g := HL_WDOG_restarts) _ _ rfl (by decide) (by decide), State.get_set_same _ _ (by decide)]
    simp only [HL_WDOG_restarts]
    omega
  refine ⟨?_, by rw [hmp], by rw [hmp], ?_, ?_⟩
  · rw [on_of_calm hend hepoch]
    simp (disch := decide) [t2, State.on, State.get_set_same]
  · rw [get_of_calm hend hwdog]
    simp (disch := decide) only [t2, t1, State.get_set_addr, State.get_set_same, HL_WDOG_last_cause]
    rfl
  · rw [get_of_calm hend hwdog, ← hcount]
    exact State.get_set_addr _ _ (by decide)

theorem State.writeSys_RESET {s : State} {m : Master} {p : Place} {v : Word} (h : p.r.base = SYS_RESET) (hmodule : bitOf v.toNat 0 = false)
    (hmp : bitOf v.toNat 1 = true) : s.writeSys m p true v = s.mpRestart 2 := by
  unfold State.writeSys
  rw [h]
  simp [SYS_RESET, SYS_UNLOCK, hmodule, hmp]

/-! ### A start -/

/-- The module as a start with readable settings finds it, once staging, the loader and the settings are done (R462). -/
def State.startSettled (s : State) (flash burn : Bool) : State :=
  let s := (((s.stagingCheck).loader flash).fuResume).settle
  if s.fu.running < 2 ∧ ¬ s.onTrial then (s.otpBurn burn).fuRegs else s

theorem State.startSettled_clk (s : State) (flash burn : Bool) : (s.startSettled flash burn).clk = s.clk := by
  refine onlyParts.clk (l := [.regs, .hl, .fu]) ?_
  unfold State.startSettled
  extract_lets t
  have ht : onlyParts [.regs, .hl, .fu] s t := by
    simp (disch := decide) only [t, State.settle_keeps, State.fuResume_keeps, State.loader_keeps, State.stagingCheck_keeps, onlyParts.self]
  split
  · exact (State.fuRegs_keeps _ (by decide)).2 ((State.otpBurn_keeps _ _ (by decide)).2 ht)
  · exact ht

/-- Whatever the MP did before, it serves from now on. -/
theorem mpServes_serves (s : State) :
    s.mpServes.on MB_EPOCH_mp_running = true ∧ s.mpServes.mp.besideOrder = (false, false, true, s.clk) := by
  have hstart : ∀ t : State, (t.set MB_EPOCH_mp_running 1).on MB_EPOCH_mp_running = true := fun t => by
    simp (disch := decide) [State.on, State.get_set_same]
  have hepoch : ∀ t : State, t.epochNext.abortAll.on MB_EPOCH_mp_running = t.on MB_EPOCH_mp_running := fun t => by
    rw [on_of_calm (calm_abortAll _) (by rw [steady_iff]; decide), State.epochNext, State.raise_eq, State.on, State.get_set_addr _ _ (by decide),
      State.get_set_bits (f := MB_EPOCH_epoch) (g := MB_EPOCH_mp_running) _ _ rfl (by decide) (by decide), State.on]
  unfold State.mpServes
  extract_lets again t1 _ _ t3
  have hclk : t1.clk = s.clk := by
    have hparts : onlyParts [.regs, .pend, .free, .tw] s t1 := by
      simp only [t1]
      split
      · exact onlyParts.refl
      · split
        · simp (disch := decide) only [State.factoryGrammar_keeps, State.restore_keeps, onlyParts.self]
        · simp (disch := decide) only [State.factoryGrammar_keeps, onlyParts.self]
    exact hparts .clk (by decide)
  have hmp : t3.mp.besideOrder = (false, false, true, s.clk) := by rw [← hclk]; rfl
  have hon : t3.on MB_EPOCH_mp_running = true := hstart _
  clear_value t3 again
  split
  · exact ⟨(hepoch t3).trans hon, (abortAll_besideOrder _).trans hmp⟩
  · exact ⟨hon, hmp⟩

end Sys2Proof.Machine
end

section
/-! PROOFS. Statement O6: the MP stops and starts. -/

namespace Sys2Proof

open Sys2Proof.Machine

theorem mpHang_hangs (s : State) (hup : s.up) (hruns : s.mpRuns = true) :
    ∃ t, goesTo (.mpHang) s t ∧ t.mp.hung = true ∧ t.on MB_EPOCH_mp_running = true ∧ onlyChanges [] [.mp] s t := by
  have hexec : exec .mpHang s = .next (State.deliver { s with mp := { s.mp with hung := true } }) := by
    show finishIf s.mpRuns s _ = _
    exact finishIf_next (hruns) hup
  refine ⟨_, hexec, ?_, ?_, onlyChanges.deliver (fun _ _ => rfl) ((with_mp (by decide)).2 onlyParts.refl)⟩
  · rw [State.deliver_mp]
  · rw [State.on_deliver _ (by decide) (by decide)]
    simp only [State.mpRuns, Bool.and_eq_true] at hruns
    exact hruns.1

/-- The faults that a watchdog expiry reports leave the MP as it was, beside its mailboxes. -/
theorem wdogRestart_eq (s : State) : ∃ t : State, s.wdogRestart = t.mpRestart 1 ∧ t.mp.besideOrder = s.mp.besideOrder := by
  unfold State.wdogRestart
  extract_lets t1 _ t2 t3
  refine ⟨t3, rfl, ?_⟩
  have h1 : t1.mp = s.mp := onlyParts.mp (State.hlLasting_parts s 0x0F 0 0xFFFF 0)
  have h2 : t2.mp = s.mp := h1
  simp only [t3]
  split
  · rw [twSelfFault_besideOrder, onlyParts.mp (State.hlHold_parts t2 0x0F 0), h2]
  · rw [h2]

theorem mpWatchdogExpiry_restarts (s : State) (hup : s.up) (hruns : s.mpRuns = false) (hfirst : s.mp.restarting = false) :
    ∃ t, goesTo (.mpWatchdogExpiry) s t ∧ t.on MB_EPOCH_mp_running = false ∧ t.mp.restarting = true ∧ t.mp.hung = false ∧
      t.get HL_WDOG_last_cause = 1 := by
  have hexec : exec .mpWatchdogExpiry s = .next s.wdogRestart.deliver := by
    show finishIf (!s.mpRuns && !s.mp.restarting) s _ = _
    exact finishIf_next (by simp [hruns, hfirst]) hup
  obtain ⟨u, hu, hbeside⟩ := wdogRestart_eq s
  have hfirst' : u.mp.restarting = false := (congrArg (·.2.1) hbeside).trans hfirst
  obtain ⟨hrunning, hrestarting, hhung, hcause, -⟩ := mpRestart_restarts 1 hfirst'
  refine ⟨_, hexec, ?_, ?_, ?_, ?_⟩
  · rw [State.on_deliver _ (by decide) (by decide), hu, hrunning]
  · rw [State.deliver_mp, hu, hrestarting]
  · rw [State.deliver_mp, hu, hhung]
  · rw [State.get_deliver _ (by decide) (by decide), hu, hcause]

theorem sysResetMp_restarts (m : Master) (s : State) (hr : reaches m s) (hopen : guardOpen m s = true) (hfirst : s.mp.restarting = false) :
    ∃ t, goesTo (.sysResetMp m) s t ∧ t.on MB_EPOCH_mp_running = false ∧ t.mp.restarting = true ∧ t.get HL_WDOG_last_cause = 2 ∧
      t.get HL_WDOG_restarts = min 65535 (s.get HL_WDOG_restarts + 1) := by
  obtain ⟨p, ha, hbase, hw⟩ := State.write_lone_guarded (a := SYS_RESET) 2 hr (by decide) (by decide)
  have hwrite : (s.spendGuard m).writeAt m p true 2 = (s.spendGuard m).mpRestart 2 := by
    rw [State.writeAt, if_pos (by rw [ha]; decide), State.writeSys_RESET hbase (by decide) (by decide)]
  rw [hopen, if_pos rfl, hwrite] at hw
  have hfirst' : (s.spendGuard m).mp.restarting = false := by cases m <;> exact hfirst
  obtain ⟨hrunning, hrestarting, -, hcause, hcount⟩ := mpRestart_restarts 2 hfirst'
  refine ⟨_, hw, ?_, ?_, ?_, ?_⟩
  · rw [State.on_deliver _ (by decide) (by decide), hrunning]
  · rw [State.deliver_mp, hrestarting]
  · rw [State.get_deliver _ (by decide) (by decide), hcause]
  · rw [State.get_deliver _ (by decide) (by decide), hcount, State.get_spendGuard]

theorem mpStart_serves (flash burn : Bool) (s : State) (hup : s.up) (hstopped : s.on MB_EPOCH_mp_running = false) :
    ∃ t, goesTo (.mpStart true flash burn) s t ∧ t.on MB_EPOCH_mp_running = true ∧ t.mpRuns = true ∧ t.mp.restarting = false ∧ t.mp.startClk = s.clk := by
  have hexec : exec (.mpStart true flash burn) s = .next (s.startSettled flash burn).mpServes.deliver := by
    show finishIf (!s.on MB_EPOCH_mp_running) s _ = _
    rw [hstopped, Bool.not_false, finishIf, hup, Bool.and_self, if_pos rfl, if_neg (by simp)]
    rfl
  generalize hu : s.startSettled flash burn = u at hexec
  have hclk : u.clk = s.clk := hu ▸ s.startSettled_clk flash burn
  obtain ⟨hrunning, hmp⟩ := mpServes_serves u
  simp only [Mp.besideOrder, Prod.mk.injEq] at hmp
  obtain ⟨hhung, hrestarting, -, hstart⟩ := hmp
  have hon : u.mpServes.deliver.on MB_EPOCH_mp_running = true := by rw [State.on_deliver _ (by decide) (by decide), hrunning]
  refine ⟨_, hexec, hon, ?_, ?_, ?_⟩
  · rw [State.mpRuns, hon, State.deliver_mp, hhung]
    rfl
  · rw [State.deliver_mp, hrestarting]
  · rw [State.deliver_mp, hstart, hclk]

/-- Settles O6: each way for the MP to stop is a restart or a hang, and its start ends both. -/
theorem mpStops : Obligations.MpStops := by
  unfold Obligations.MpStops
  exact ⟨mpHang_hangs, mpWatchdogExpiry_restarts, sysResetMp_restarts, mpStart_serves⟩

end Sys2Proof
end

section
/-! PROOFS. The loss of the root lock and what a module without a partner does about it (R31, R32). -/

namespace Sys2Proof.Machine

/-! ### Idle lanes -/

/-- LN_CTRL of each lane has a shadow. -/
theorem shadowed_LN_CTRL (l : Fin 48) : (regFind (LN_CTRL l)).all (fun e => e.1.shadowed) = true := by
  revert l
  decide

/-- A write of LN_CTRL waits in the shadow. -/
theorem put_LN_CTRL_regs (s : State) {l : Nat} (hl : l < 48) (v : Nat) : (s.put (LN_CTRL_tx_idle l) v).regs = s.regs := by
  have hshadowed := shadowed_LN_CTRL ⟨l, hl⟩
  unfold State.put State.store
  split
  · rfl
  next r _ _ hfind =>
    rw [show regFind (LN_CTRL l) = some _ from hfind, Option.all_some] at hshadowed
    rw [if_pos hshadowed]
    rfl

/-- Lane `l` is told to be idle, in force and in the shadow. -/
def State.laneIdle (s : State) (l : Nat) : State :=
  let s := s.set (LN_CTRL_tx_idle l) 1
  let s := if s.pend.any (fun e => e.1 = LN_CTRL l) then s.put (LN_CTRL_tx_idle l) 1 else s
  s.laneTx l

theorem State.lanesIdle_eq (s : State) : s.lanesIdle = (List.range s.lanes).foldl State.laneIdle s := rfl

/-- Of LN_CTRL, telling a lane to be idle changes the word of that lane. -/
theorem get_laneIdle (s : State) {l k : Nat} (hl : l < 48) :
    (s.laneIdle l).get (LN_CTRL_tx_idle k) = (s.set (LN_CTRL_tx_idle l) 1).get (LN_CTRL_tx_idle k) := by
  unfold State.laneIdle
  extract_lets t u
  have hu : u.get (LN_CTRL_tx_idle k) = t.get (LN_CTRL_tx_idle k) := by
    simp only [u]
    split
    · rw [State.get, State.rd, put_LN_CTRL_regs t hl, State.get, State.rd]
    · rfl
  rw [State.laneTx, State.setB_eq, State.get_set_addr, hu]
  simp only [LN_CTRL_tx_idle, LN_CTRL, LN_STAT_tx_idle_active, LN_STAT]
  omega

theorem ok_LN_CTRL_tx_idle (l : Fin 48) : (LN_CTRL_tx_idle l).ok = true := by
  revert l
  decide

theorem on_laneIdle_same (s : State) {l : Nat} (hl : l < 48) : (s.laneIdle l).on (LN_CTRL_tx_idle l) = true := by
  rw [State.on, get_laneIdle s hl, State.get_set_same _ _ (ok_LN_CTRL_tx_idle ⟨l, hl⟩)]
  rfl

theorem on_laneIdle (s : State) {l k : Nat} (hl : l < 48) (h : s.on (LN_CTRL_tx_idle k) = true) : (s.laneIdle l).on (LN_CTRL_tx_idle k) = true := by
  by_cases hkl : k = l
  · rw [hkl]
    exact on_laneIdle_same s hl
  · rw [State.on, get_laneIdle s hl, State.get_set_addr, ← State.on, h]
    simp only [LN_CTRL_tx_idle, LN_CTRL]
    omega

/-- Every lane of the part is told to be idle. -/
theorem on_lanesIdle (s : State) {k : Nat} (hk : k < s.lanes) : s.lanesIdle.on (LN_CTRL_tx_idle k) = true := by
  have hall : ∀ (ls : List Nat) (t : State), (∀ l ∈ ls, l < 48) → k ∈ ls ∨ t.on (LN_CTRL_tx_idle k) = true →
      (ls.foldl State.laneIdle t).on (LN_CTRL_tx_idle k) = true := by
    intro ls
    induction ls with
    | nil => exact fun t _ h => h.resolve_left List.not_mem_nil
    | cons l ls ih =>
      intro t hls h
      have hl : l < 48 := hls l List.mem_cons_self
      refine ih _ (fun m hm => hls m (List.mem_cons_of_mem _ hm)) ?_
      rcases h with h | h
      · rcases List.mem_cons.1 h with rfl | h
        · exact .inr (on_laneIdle_same t hl)
        · exact .inl h
      · exact .inr (on_laneIdle t hl h)
  rw [State.lanesIdle_eq]
  exact hall _ _ (fun l hl => (List.mem_range.1 hl).trans_le s.lanes_le) (.inl (List.mem_range.2 hk))

/-! ### The loss of the lock, stage by stage -/

/-- The loss is shown, its cause raised and TB_SUSPECT set. -/
def State.rootLost (s : State) : State :=
  (((s.set SYS_ROOT_STAT_locked 0).raise SYS_ROOT_STAT_lock_lost_sticky).raise SYS_INT_STAT_root_lock_lost).suspectSet TB_STAT_cause_root

/-- The calibrations of the links are lost, the fault is counted and, if it has become a lasting one, acted upon. -/
def State.rootLostAnswered (s : State) : State :=
  let s := s.setChan s.timeCh { s.chanOf s.timeCh with clean := false }
  let s := (List.range s.lanes).foldl (fun s l => s.calLost l) s
  let (lasting, s) := s.hlTransient 0x0C 0 0xFFFF 0
  if lasting then s.rootAction else s.twSelfFault

theorem State.get_suspectSet (s : State) (cause f : FRef) :
    (s.suspectSet cause).get f = (((s.set TB_STAT_suspect 1).set cause 1).set TB_INT_STAT_suspect_set 1).get f := rfl

theorem exec_rootLockLoss {s : State} (hup : s.up = true) (hlocked : s.rootLocked = true) :
    exec .rootLockLoss s = .next s.rootLost.rootLostAnswered.deliver := by
  show finishIf s.rootLocked s s.rootLost.rootLostAnswered = _
  exact finishIf_next (by simp [hlocked]) hup

theorem calm_rootLostAnswered (s : State) : calm s.rootLostAnswered.regs = calm s.regs := by
  unfold State.rootLostAnswered
  extract_lets _ t u
  have hu : calm u.regs = calm s.regs := calm_foldl (fun _ _ _ => calm_calLost ..) t
  have hcount : calm (u.hlTransient 0x0C 0 0xFFFF 0).2.regs = calm s.regs := (calm_hlTransient ..).trans hu
  clear_value u
  split
  next lasting v hv =>
    rw [hv] at hcount
    exact calm_if ((calm_rootAction v).trans hcount) ((calm_twSelfFault v).trans hcount)

theorem rootLostAnswered_tb (s : State) : s.rootLostAnswered.tb = s.tb := by
  unfold State.rootLostAnswered
  extract_lets _ t u
  have hu : u.tb = s.tb := foldl_keeps (fun (v : State) l => v.calLost l) State.tb (fun _ _ => rfl) _ t
  have hcount : (u.hlTransient 0x0C 0 0xFFFF 0).2.tb = s.tb := (State.hlTransient_parts u 0x0C 0 0xFFFF 0 .tb (by decide)).trans hu
  clear_value u
  split
  next lasting v hv =>
    rw [hv] at hcount
    split
    · exact (State.rootAction_parts v .tb (by decide)).trans hcount
    · exact (State.twSelfFault_parts v .tb (by decide)).trans hcount

/-! ### The fault that lasts -/

/-- The fault is noted, unless it has been. -/
def State.rootFault (s : State) : State := if s.hl.causes.contains (0x0C, 0) then s else s.hlLasting 0x0C 0 0xFFFF 0

theorem exec_rootFaultLasting {s : State} (hup : s.up = true) (hlocked : s.rootLocked = false) (hfirst : s.power.rootDone = false) :
    exec .rootFaultLasting s = .next s.rootFault.rootAction.deliver := by
  show finishIf (!s.rootLocked && !s.power.rootDone) s s.rootFault.rootAction = _
  exact finishIf_next (by simp [hlocked, hfirst]) hup

theorem rootFault_onlyRegs (s : State) : onlyRegs faultRegs s s.rootFault := by
  unfold State.rootFault
  split
  · exact onlyRegs.refl
  · exact hlLastingAs_onlyRegs _ _ _ _ _ onlyRegs.refl

theorem rootFault_parts (s : State) : onlyParts [.regs, .hl] s s.rootFault := by
  unfold State.rootFault
  split
  · exact onlyParts.refl
  · exact State.hlLasting_parts s 0x0C 0 0xFFFF 0

theorem State.rootAction_hl (s : State) : s.rootAction.hl = s.hl := State.rootAction_parts s .hl (by decide)

/-- A module with no partner to take over makes its lanes idle. -/
theorem State.rootAction_partnerless {s : State} (h : s.partnerless = true) :
    s.rootAction = { s with power := { s.power with rootDone := true } }.lanesIdle := if_pos h

/-! ### A reading of a supply -/

/-- A reading is shown, whatever it gives rise to. V3P3_OUT is supply 3. -/
theorem get_supplyOne (s : State) (v : Nat) : (s.supplyOne 3 v).get (HL_SUPPLY_now 3) = v % 2 ^ 16 := by
  unfold State.supplyOne
  extract_lets t _ u _
  have ht : t.get (HL_SUPPLY_now 3) = v % 2 ^ 16 := by
    simp (disch := decide) only [t, State.get_set_bits (f := HL_SUPPLY_max 3) (g := HL_SUPPLY_now 3), State.get_set_same]
    rfl
  have hcalm : ∀ w : State, calm w.regs = calm t.regs → w.get (HL_SUPPLY_now 3) = v % 2 ^ 16 := fun w hw =>
    (get_of_calm hw (by rw [steady_iff]; decide)).trans ht
  refine hcalm _ (calm_if (calm_if (calm_if rfl ?_) rfl) ?_)
  · exact (calm_set _ _ not_steady_HL_INT_STAT).trans (calm_hlLasting ..)
  · exact calm_if (calm_hlTransient ..) rfl

/-- V3P3_OUT off at its limit; a module that runs reads the supply that told of it (R484). -/
def State.v3p3Tripped (s : State) (mv : Nat) : State :=
  let t := { s with power := { s.power with v3p3 := false } }
  if ¬ s.up then t
  else
    let t := t.supplyOne 3 mv
    (t.setB HL_STAT_supply_fault (t.hl.causes.any fun e => e.1 = 0x0E)).twSelfFault

theorem exec_v3p3OutLimit {s : State} {mv : Nat} (hvin : s.power.vin = true) (hon : s.power.v3p3 = true)
    (hlimit : mv < s.get (HL_SUPPLY_THR_low 3) ∨ s.get (HL_SUPPLY_THR_high 3) < mv) : exec (.v3p3OutLimit mv) s = .next (s.v3p3Tripped mv).deliver := by
  show finishAny (s.power.vin && s.power.v3p3 && (decide (mv < s.get (HL_SUPPLY_THR_low 3)) || decide (s.get (HL_SUPPLY_THR_high 3) < mv))) s
    (s.v3p3Tripped mv) = _
  simp [finishAny, hvin, hon, hlimit, finish]

theorem v3p3Tripped_power (s : State) (mv : Nat) : (s.v3p3Tripped mv).power = { s.power with v3p3 := false } := by
  unfold State.v3p3Tripped
  extract_lets _ t u
  have hu : u.power = t.power := State.supplyOne_parts t 3 mv .power (by decide)
  split
  · rfl
  · exact (State.twSelfFault_parts (u.setB HL_STAT_supply_fault (u.hl.causes.any fun e => e.1 = 0x0E)) .power (by decide)).trans hu

theorem get_v3p3Tripped {s : State} (mv : Nat) (hup : s.up = true) : (s.v3p3Tripped mv).get (HL_SUPPLY_now 3) = mv % 2 ^ 16 := by
  unfold State.v3p3Tripped
  extract_lets _ t u
  have hu : u.get (HL_SUPPLY_now 3) = mv % 2 ^ 16 := get_supplyOne t mv
  rw [if_neg (by simp [hup]), get_of_calm (calm_twSelfFault _) (by rw [steady_iff]; decide), State.setB_eq, State.get_set_addr _ _ (by decide), hu]

end Sys2Proof.Machine
end

section
/-! PROOFS. Statement O10: the root, V3P3_OUT and the oven. -/

namespace Sys2Proof

open Sys2Proof.Machine

theorem rootLockLoss_flags (s : State) (hup : s.up) (hlocked : s.rootLocked = true) :
    ∃ t, goesTo (.rootLockLoss) s t ∧ t.on SYS_ROOT_STAT_locked = false ∧ t.on SYS_ROOT_STAT_lock_lost_sticky = true ∧
      t.on SYS_INT_STAT_root_lock_lost = true ∧ t.on TB_STAT_suspect = true ∧ t.tb = s.tb := by
  have hkept : ∀ f : FRef, steady f.addr → f.addr ≠ SYS_PBA 0 → f.addr ≠ SYS_PBA 1 → s.rootLost.rootLostAnswered.deliver.on f = s.rootLost.on f :=
    fun f hf h0 h1 => (State.on_deliver _ h0 h1).trans (on_of_calm (calm_rootLostAnswered _) hf)
  have hlost : s.rootLost.on SYS_ROOT_STAT_locked = false ∧ s.rootLost.on SYS_ROOT_STAT_lock_lost_sticky = true ∧
      s.rootLost.on SYS_INT_STAT_root_lock_lost = true ∧ s.rootLost.on TB_STAT_suspect = true := by
    simp (disch := decide) only [State.rootLost, State.raise_eq, State.get_suspectSet, State.on, State.get_set_addr, State.get_set_bits,
      State.get_set_same]
    decide
  obtain ⟨hnow, hsticky, hcause, hsuspect⟩ := hlost
  refine ⟨_, exec_rootLockLoss hup hlocked, ?_, ?_, ?_, ?_, ?_⟩
  · rw [hkept _ (by rw [steady_iff]; decide) (by decide) (by decide), hnow]
  · rw [hkept _ (by rw [steady_iff]; decide) (by decide) (by decide), hsticky]
  · rw [hkept _ (by rw [steady_iff]; decide) (by decide) (by decide), hcause]
  · rw [hkept _ (by rw [steady_iff]; decide) (by decide) (by decide), hsuspect]
  · rw [State.deliver_tb, rootLostAnswered_tb]
    rfl

theorem rootFaultLasting_held (s : State) (hup : s.up) (hlocked : s.rootLocked = false) (hfirst : s.power.rootDone = false)
    (hnew : s.hl.causes.contains (0x0C, 0) = false) :
    ∃ t, goesTo (.rootFaultLasting) s t ∧ (0x0C, 0) ∈ t.hl.held ∧ (0x0C, 0) ∈ t.hl.causes ∧ t.on SYS_ROOT_STAT_locked = false := by
  have hfault : s.rootFault = s.hlLasting 0x0C 0 0xFFFF 0 := by rw [State.rootFault, if_neg (by rw [hnew]; decide)]
  obtain ⟨hheld, hcause⟩ := s.mem_hlLasting (code := 0x0C) 0 0xFFFF 0 (by decide)
  refine ⟨_, exec_rootFaultLasting hup hlocked hfirst, ?_, ?_, ?_⟩
  · rw [State.deliver_hl, State.rootAction_hl, hfault]
    exact hheld
  · rw [State.deliver_hl, State.rootAction_hl, hfault]
    exact hcause
  · have hsteady : steady SYS_ROOT_STAT_locked.addr := by rw [steady_iff]; decide
    rw [State.on_deliver _ (by decide) (by decide), on_of_calm (calm_rootAction _) hsteady, on_of_calm (calm_of_faultRegs (rootFault_onlyRegs s)) hsteady]
    exact hlocked

theorem rootFaultLasting_idles (s : State) (hup : s.up) (hlocked : s.rootLocked = false) (hfirst : s.power.rootDone = false)
    (halone : s.twState = 0 ∨ s.twState = 2) :
    ∃ t, goesTo (.rootFaultLasting) s t ∧ (∀ l : Nat, l < s.lanes → t.on (LN_CTRL_tx_idle l) = true) ∧ t.power.rootDone = true := by
  have htw : s.rootFault.twState = s.twState := by
    rw [State.twState, State.get, rootFault_onlyRegs s _ (by decide), State.twState, State.get]
  have halone' : s.rootFault.partnerless = true := by
    rw [State.partnerless, htw]
    rcases halone with h | h <;> simp [h]
  have hlanes : s.rootFault.lanes = s.lanes := by
    rw [State.lanes, rootFault_parts s .variant (by decide), State.lanes]
  refine ⟨_, exec_rootFaultLasting hup hlocked hfirst, fun l hl => ?_, ?_⟩
  · have hlow : l < 48 := hl.trans_le s.lanes_le
    rw [State.on_deliver, State.rootAction_partnerless halone']
    · exact on_lanesIdle _ (hlanes ▸ hl)
    all_goals
      simp only [LN_CTRL_tx_idle, LN_CTRL, SYS_PBA]
      omega
  · rw [State.deliver_power, State.rootAction_partnerless halone', show (State.lanesIdle _).power = _ from State.lanesIdle_parts _ .power (by decide)]

theorem rootRelock_locks (s : State) (hup : s.up) (hlocked : s.rootLocked = false) :
    ∃ t, goesTo (.rootRelock) s t ∧ t.on SYS_ROOT_STAT_locked = true ∧ (0x0C, 0) ∉ t.hl.causes ∧ t.power = { s.power with rootDone := false } ∧
      onlyChanges [SYS_ROOT_STAT] [.hl, .power] s t := by
  have hexec : exec .rootRelock s = .next
      (({ s.set SYS_ROOT_STAT_locked 1 with power := { s.power with rootDone := false } } : State).hlCauseEnds 0x0C 0).deliver := by
    show finishIf (!s.rootLocked) s _ = _
    rw [hlocked, Bool.not_false, finishIf, hup, Bool.and_self, if_pos rfl]
    rfl
  refine ⟨_, hexec, ?_, ?_, ?_, ?_⟩
  · rw [State.on_deliver _ (by decide) (by decide)]
    exact State.on_raise s (f := SYS_ROOT_STAT_locked) (by decide) rfl
  · rw [State.deliver_hl]
    simp [State.hlCauseEnds]
  · rw [State.deliver_power]
    rfl
  · refine onlyChanges.deliver (regs := [SYS_ROOT_STAT]) (fun a ha => ?_) ?_
    · exact State.rd_set_ne s (f := SYS_ROOT_STAT_locked) 1 fun h => ha (h ▸ List.mem_cons_self)
    · simp (disch := decide) only [State.hlCauseEnds_keeps, with_power, State.set_keeps, onlyParts.self]

theorem v3p3OutLimit_trips (mv : Nat) (s : State) (hvin : s.power.vin = true) (hon : s.power.v3p3 = true)
    (hlimit : mv < s.get (HL_SUPPLY_THR_low 3) ∨ s.get (HL_SUPPLY_THR_high 3) < mv) :
    ∃ t, goesTo (.v3p3OutLimit mv) s t ∧ t.power = { s.power with v3p3 := false } ∧ (s.up → t.get (HL_SUPPLY_now 3) = mv % 2 ^ 16) := by
  refine ⟨_, exec_v3p3OutLimit hvin hon hlimit, ?_, fun hup => ?_⟩
  · rw [State.deliver_power, v3p3Tripped_power]
  · rw [State.get_deliver _ (by decide) (by decide), get_v3p3Tripped mv hup]

theorem v3p3OutRetry_recovers (s : State) (hvin : s.power.vin = true) (hoff : s.power.v3p3 = false) :
    ∃ t, goesTo (.v3p3OutRetry) s t ∧ t.power = { s.power with v3p3 := true } ∧ onlyChanges [] [.power] s t := by
  have hexec : exec .v3p3OutRetry s = .next (State.deliver { s with power := { s.power with v3p3 := true } }) := by
    show finishAny (s.power.vin && !s.power.v3p3) s _ = _
    simp [finishAny, hvin, hoff, finish]
  exact ⟨_, hexec, State.deliver_power _, onlyChanges.deliver (fun _ _ => rfl) ((with_power (by decide)).2 onlyParts.refl)⟩

theorem ovenAtTemperature_ok (s : State) (hup : s.up) :
    ∃ t, goesTo (.ovenAtTemperature) s t ∧ t.on TC_OVO_oven_ok = true ∧ t.power.ovenWatched = true ∧ (0x13, 0) ∉ t.hl.causes ∧
      onlyChanges [TC_OVO] [.power, .hl] s t := by
  have hexec : exec .ovenAtTemperature s = .next
      (({ s.raise TC_OVO_oven_ok with power := { s.power with ovenWatched := true } } : State).hlCauseEnds 0x13 0).deliver := by
    show finishIf true s _ = _
    rw [finishIf, hup, Bool.and_self, if_pos rfl]
    rfl
  refine ⟨_, hexec, ?_, ?_, ?_, ?_⟩
  · rw [State.on_deliver _ (by decide) (by decide)]
    exact State.on_raise s (f := TC_OVO_oven_ok) (by decide) rfl
  · rw [State.deliver_power]
    rfl
  · rw [State.deliver_hl]
    simp [State.hlCauseEnds]
  · refine onlyChanges.deliver (regs := [TC_OVO]) (fun a ha => ?_) ?_
    · exact State.rd_set_ne s (f := TC_OVO_oven_ok) 1 fun h => ha (h ▸ List.mem_cons_self)
    · simp (disch := decide) only [State.hlCauseEnds_keeps, with_power, State.raise_eq, State.set_keeps, onlyParts.self]

/-- Settles O10: the loss of the lock, its fault, the relock, V3P3_OUT and the oven, each by what its stages leave alone. -/
theorem rootAndOven : Obligations.RootAndOven := by
  unfold Obligations.RootAndOven
  exact ⟨rootLockLoss_flags, rootFaultLasting_held, rootFaultLasting_idles, rootRelock_locks, v3p3OutLimit_trips, v3p3OutRetry_recovers,
    ovenAtTemperature_ok⟩

end Sys2Proof
end

section
/-! PROOFS. Every command ends with the delivery of interrupts or hands back the state it found (R59), and a step runs one command (R45). -/

namespace Sys2Proof

open Sys2Proof.Machine

/-! ### How a command ends -/

/-- The outcome is the state `s` itself, or a state whose due interrupts have been delivered. -/
def endsDelivered (s : State) (o : Host.Outcome State Fault Refusal) : Prop := o = .next s ∨ ∃ t : State, o = .next t.deliver

theorem endsDelivered.next {s : State} : endsDelivered s (.next s) := .inl rfl

theorem endsDelivered.finish {s t : State} : endsDelivered s (finish t) := .inr ⟨t, rfl⟩

theorem endsDelivered.ite {p : Prop} [Decidable p] {s : State} {x y : Host.Outcome State Fault Refusal} (hx : endsDelivered s x)
    (hy : endsDelivered s y) : endsDelivered s (if p then x else y) := by
  split
  · exact hx
  · exact hy

theorem endsDelivered.finishIf {c : Bool} {s t : State} : endsDelivered s (finishIf c s t) := .ite .finish .next

theorem endsDelivered.finishAny {c : Bool} {s t : State} : endsDelivered s (finishAny c s t) := .ite .finish .next

theorem endsDelivered.whenUp {s : State} {o : Host.Outcome State Fault Refusal} (h : endsDelivered s o) : endsDelivered s (whenUp s o) := .ite h .next

theorem learnHead_endsDelivered (s : State) (k : Nat) : endsDelivered s (s.learnHead k) := by
  unfold State.learnHead
  split
  · exact .next
  · exact .ite .finishIf .next

theorem mpTake_endsDelivered (s : State) (c kind : Nat) (f : Pkt → State → State) : endsDelivered s (s.mpTake c kind f) := by
  unfold State.mpTake
  split
  · exact .finishIf
  · exact .finishIf

theorem exec_endsDelivered (c : Instr) (s : State) : endsDelivered s (exec c s) := by
  cases c
  case mrstAssert | moduleResetEnd | perstAssert | vinRise | vinReturn | vinLoss | vinOvervoltage | vkeepLoss | tbTick | v3p3OutLimit |
       v3p3OutRetry => exact .finishAny
  case mezzSwapComplete | taqExecute | takeoverReleaseWait =>
    dsimp only [exec, execMezzSwapComplete, execTaqExecute, execTakeoverReleaseWait]
    split
    · exact .finishIf
    · exact .next
  case todTxMessage | rampStart | rampSegmentEnd | ftLockExpiry | blockProgramEnd | handoverPauseEnd | ptpMessageSend | recircAgeExpiry |
       failFilterExpiry | ageLimit | evGroupResult | faultLogWrite =>
    dsimp only [exec, execTodTxMessage, execRampStart, execRampSegmentEnd, execFtLockExpiry, execBlockProgramEnd, execHandoverPauseEnd,
      execPtpMessageSend, execRecircAgeExpiry, execFailFilterExpiry, execAgeLimit, execEvGroupResult, execFaultLogWrite]
    split
    · exact .next
    · exact .finishIf
  case galDeltaReceive | galTakeoverReceive | galReleaseReceive | galReplyReceive | galStateReceive =>
    dsimp only [exec, execGalDeltaReceive, execGalTakeoverReceive, execGalReleaseReceive, execGalReplyReceive, execGalStateReceive]
    split
    · exact .finishIf
    · exact .finishIf
    · exact .next
  case galBulkReceive =>
    dsimp only [exec, execGalBulkReceive]
    split
    · exact .finishIf
    · exact .finishIf
    · exact .finishIf
    · exact .next
  case galElectReceive =>
    dsimp only [exec, execGalElectReceive]
    split
    · exact .finishIf
    · exact .ite .finishIf .finishIf
    · exact .next
  case lnCalStart | scRingHeadWrite | scRingCfgWrite =>
    dsimp only [exec, execLnCalStart, execScRingHeadWrite, execScRingCfgWrite]
    split
    · exact .finishIf
    · exact .finishIf
  case cpuQueueDescriptor =>
    dsimp only [exec]
    unfold execCpuQueueDescriptor
    split
    exact .finishIf
  case recircSecondPass =>
    dsimp only [exec, execRecircSecondPass]
    split
    · exact .next
    · exact .finishIf
  case learn | refresh | destRefresh => exact learnHead_endsDelivered _ _
  case ptpMessageReceive | lacpduReceive =>
    dsimp only [exec, execPtpMessageReceive, execLacpduReceive]
    exact mpTake_endsDelivered _ _ _ _
  case pxPublish | loopUpdate | slotCrossing | tbSecondBoundary | pathDelayUpdate | tdcTableUpdate | twCheckPoint | tempSample |
       supplySample | mpSramEccFault => exact .whenUp .finish
  case parseClassify | lateLengthCheck | landingTimeout | loopbackTestEnd =>
    refine .whenUp ?_
    extract_lets
    split
    · exact .next
    · exact .finish
  case dlmRelease =>
    refine .whenUp ?_
    split
    · exact .next
    · exact .ite .finish .finish
  all_goals exact .finishIf

theorem delivered_of_endsDelivered {s t : State} {o : Host.Outcome State Fault Refusal} (h : endsDelivered s o) (hs : delivered s) (ht : o = .next t) :
    delivered t := by
  obtain he | ⟨u, he⟩ := h
  · cases ht.symm.trans he
    exact hs
  · cases ht.symm.trans he
    exact deliver_delivered u

/-- Settles O56: a command that changes anything ends in `deliver`, after which every vector is served. -/
theorem deliveredIsKept : Obligations.DeliveredIsKept := by
  unfold Obligations.DeliveredIsKept
  intro s t hs ht
  unfold step at ht
  split at ht
  next => exact delivered_of_endsDelivered .next hs ht
  next c rest _ =>
    have hrest : delivered { s with pending := rest } := hs
    exact delivered_of_endsDelivered (exec_endsDelivered c _) hrest ht

/-- Settles O54: both are how `step` is defined. -/
theorem stepRunsTheFront : Obligations.StepRunsTheFront := by
  unfold Obligations.StepRunsTheFront
  refine ⟨fun c l s => rfl, fun s hidle => ?_⟩
  unfold step
  rw [hidle]

end Sys2Proof
end

section
/-! PROOFS. What the delivery of interrupts does to the host port: the vectors that it serves, and what else of the port it leaves alone (R59, R60). -/

namespace Sys2Proof.Machine

/-! ### The host port beside its vectors -/

/-- The host port with every vector armed and no holdoff running. -/
def HostPort.besideVectors (h : HostPort) : HostPort := { h with disarmed := [], holding := [] }

theorem serveVec_besideVectors (s : State) (v : Nat) : (s.serveVec v).host.besideVectors = s.host.besideVectors := by
  rw [serveVec_host]
  split <;> rfl

theorem deliver_besideVectors (s : State) : s.deliver.host.besideVectors = s.host.besideVectors := by
  unfold State.deliver
  split
  · rfl
  · exact foldl_keeps _ (fun t : State => t.host.besideVectors) serveVec_besideVectors _ _

theorem deliver_guardPcie (s : State) : s.deliver.host.guardPcie = s.host.guardPcie := congrArg (·.guardPcie) (deliver_besideVectors s)
theorem deliver_guardMsp (s : State) : s.deliver.host.guardMsp = s.host.guardMsp := congrArg (·.guardMsp) (deliver_besideVectors s)
theorem deliver_msixEnable (s : State) : s.deliver.host.msixEnable = s.host.msixEnable := congrArg (·.msixEnable) (deliver_besideVectors s)
theorem deliver_funcMask (s : State) : s.deliver.host.funcMask = s.host.funcMask := congrArg (·.funcMask) (deliver_besideVectors s)
theorem deliver_d3hot (s : State) : s.deliver.host.d3hot = s.host.d3hot := congrArg (·.d3hot) (deliver_besideVectors s)
theorem deliver_cfg (s : State) : s.deliver.host.cfg = s.host.cfg := congrArg (·.cfg) (deliver_besideVectors s)
theorem deliver_linkGen (s : State) : s.deliver.host.linkGen = s.host.linkGen := congrArg (·.linkGen) (deliver_besideVectors s)
theorem deliver_linkWidth (s : State) : s.deliver.host.linkWidth = s.host.linkWidth := congrArg (·.linkWidth) (deliver_besideVectors s)

theorem guardOpen_deliver (s : State) (m : Master) : guardOpen m s.deliver = guardOpen m s := by
  cases m with
  | pcie => exact deliver_guardPcie s
  | msp => exact deliver_guardMsp s
  | mp | taq => rfl

/-! ### Vectors that a delivery does not serve -/

/-- Serving a vector leaves the others as they are, and leaves one alone that no source wants. -/
theorem serveVec_leaves (s : State) {u v : Nat} (h : u ≠ v ∨ s.vecWants u = false) :
    (s.serveVec v).armed u = s.armed u ∧ (s.serveVec v).host.holding.contains u = s.host.holding.contains u := by
  unfold State.armed
  rw [serveVec_host]
  split
  next hserved =>
    have hne : u ≠ v := by
      rintro rfl
      simp only [Bool.and_eq_true] at hserved
      simp_all
    refine ⟨congrArg _ (contains_insertN_ne hne _), ?_⟩
    unfold State.sendVec
    dsimp only
    split
    · rfl
    · exact contains_insertN_ne hne _
  next => exact ⟨rfl, rfl⟩

theorem sameButPba.refl (s : State) : sameButPba s s := ⟨fun _ _ _ => rfl, rfl, rfl, rfl, rfl⟩

/-- Between the two states vector `v` is armed and in holdoff alike, and so are the registers that decide whether it is wanted. -/
def sameVector (v : Nat) (s t : State) : Prop :=
  sameButPba s t ∧ t.armed v = s.armed v ∧ t.host.holding.contains v = s.host.holding.contains v

theorem deliver_leaves (s : State) {v : Nat} (h : s.vecWants v = false) : sameVector v s s.deliver := by
  unfold State.deliver
  split
  · exact ⟨.refl s, rfl, rfl⟩
  · refine List.foldlRecOn (motive := sameVector v s) _ _ ⟨.refl s, rfl, rfl⟩ fun t ⟨hsame, harmed, hholding⟩ u hu => ?_
    obtain ⟨ha, hh⟩ := serveVec_leaves t (u := v) (v := u) (.inr (by rw [hsame.vecWants, h]))
    exact ⟨hsame.trans (serveVec_same t (List.mem_range.1 hu)), ha.trans harmed, hh.trans hholding⟩

/-! ### Vectors that a delivery serves -/

/-- No enabled source, no vector that is wanted. -/
theorem vecWants_eq_false {s : State} (hlo : s.rd SYS_SRC_EN_LO = 0) (hhi : s.rd SYS_SRC_EN_HI = 0) (v : Nat) : s.vecWants v = false := by
  refine List.any_eq_false.2 fun n _ => ?_
  have hoff : s.bit2 SYS_SRC_EN_LO SYS_SRC_EN_HI n = false := by
    unfold State.bit2 State.bit
    rw [hlo, hhi]
    split <;> simp [bitOf]
  simp [hoff]

/-- The message of vector `v` (R59). -/
def State.msixMessage (s : State) (v : Nat) : Sent :=
  .msix v ((s.rd (SYS_MSIX_ADDR_LO v)).toNat + (s.rd (SYS_MSIX_ADDR_HI v)).toNat * 2 ^ 32) (s.rd (SYS_MSIX_DATA v))

theorem sameButPba.msixMessage {s t : State} (h : sameButPba s t) {v : Nat} (b : v < 64) : t.msixMessage v = s.msixMessage v := by
  have hne : ∀ a, 0xC000 ≤ a → a < 0xC400 → t.rd a = s.rd a := fun a hlow hhigh =>
    h.1 a (by simp only [SYS_PBA]; omega) (by simp only [SYS_PBA]; omega)
  unfold State.msixMessage
  rw [hne _ (by simp only [SYS_MSIX_ADDR_LO]; omega) (by simp only [SYS_MSIX_ADDR_LO]; omega),
    hne _ (by simp only [SYS_MSIX_ADDR_HI]; omega) (by simp only [SYS_MSIX_ADDR_HI]; omega),
    hne _ (by simp only [SYS_MSIX_DATA]; omega) (by simp only [SYS_MSIX_DATA]; omega)]

/-- A vector that owes a message which can leave sends it and is disarmed. -/
theorem serveVec_sends {s : State} {v : Nat} (howes : owes s v = true) (hopen : s.vecOpen v = true) :
    s.msixMessage v ∈ (s.serveVec v).sent ∧ (s.serveVec v).armed v = false := by
  have hdue : (s.armed v && s.vecWants v && !s.host.holding.contains v && s.vecOpen v) = true := by
    unfold owes at howes
    rw [howes, hopen]
    rfl
  constructor
  · have hsent : s.msixMessage v ∈ (s.sendVec v).sent := List.mem_cons_self
    unfold State.serveVec
    dsimp only
    rw [if_pos hdue]
    split <;> exact hsent
  · unfold State.armed
    rw [serveVec_host, if_pos hdue]
    show (!(insertN v s.host.disarmed).contains v) = false
    rw [contains_insertN_self]
    rfl

/-- A vector that is disarmed stays so while vectors are served. -/
theorem armed_serveVec_false {s : State} {u : Nat} (v : Nat) (h : s.armed u = false) : (s.serveVec v).armed u = false := by
  by_cases hne : u = v
  · subst hne
    rw [State.armed, serveVec_host, if_neg (by simp [h])]
    exact h
  · exact (serveVec_leaves s (.inl hne)).1.trans h

theorem foldl_serveVec_sends {v : Nat} (b : v < 64) (l : List Nat) : ∀ s : State, (∀ u ∈ l, u < 64) → v ∈ l → owes s v = true → s.vecOpen v = true →
    s.msixMessage v ∈ (l.foldl State.serveVec s).sent ∧ (l.foldl State.serveVec s).armed v = false := by
  induction l with
  | nil => exact fun s _ hv => absurd hv List.not_mem_nil
  | cons u l ih =>
    intro s hl hv howes hopen
    have hu : u < 64 := hl u List.mem_cons_self
    by_cases e : v = u
    · subst e
      refine List.foldlRecOn (motive := fun t : State => s.msixMessage v ∈ t.sent ∧ t.armed v = false) l _ (serveVec_sends howes hopen) ?_
      exact fun t ⟨hsent, harmed⟩ w _ => ⟨State.serveVec_sent w hsent, armed_serveVec_false w harmed⟩
    · have hsame := serveVec_same s hu
      rw [← hsame.msixMessage b]
      refine ih _ (fun w hw => hl w (List.mem_cons_of_mem _ hw)) (List.mem_of_ne_of_mem e hv) ?_ ?_
      · rw [serveVec_owes_ne s e hu, howes]
      · rw [hsame.vecOpen b, hopen]

/-- A delivery sends the message of every vector that owes one which can leave (R59). -/
theorem deliver_sends {s : State} {v : Nat} (b : v < 64) (howes : owes s v = true) (hopen : s.vecOpen v = true) :
    s.msixMessage v ∈ s.deliver.sent ∧ s.deliver.armed v = false := by
  unfold State.deliver
  split
  next hnone =>
    simp [owes, vecWants_eq_false hnone.1 hnone.2.1] at howes
  next => exact foldl_serveVec_sends b _ s (fun u hu => List.mem_range.1 hu) (List.mem_range.2 b) howes hopen

end Sys2Proof.Machine
end

section
/-! PROOFS. Writes of indexed rows, and what a guard records of a bad key (R48, R52, R56, R57). -/

namespace Sys2Proof.Machine

/-! ### Rows that every master may write -/

/-- Every part has the row, no guard protects it, and no field of it is written once. -/
def Reg.plainRow (r : Reg) : Bool :=
  r.absent1.isEmpty && r.absent2.isEmpty && (r.fields.filter fun f => f.acc = .wo1).isEmpty && decide (r.mask .gw = 0)

/-- The blocks SYS and MB have no shadow window. -/
theorem ordinary_of_lt {a : Nat} (haligned : a % 4 = 0) (hlow : a < 0x20000) : ordinary a = true := by
  have hbelow : a < 0x2000000 := by omega
  by_cases h : a < 0x10000
  · have hblock : (blocks.find? fun b => decide (b.1 ≤ a) && decide (a < b.1 + b.2.1)) = some (0, 0x10000, false) := by simp [blocks, h]
    simp [ordinary, hblock, haligned, hbelow]
  · have hblock : (blocks.find? fun b => decide (b.1 ≤ a) && decide (a < b.1 + b.2.1)) = some (0x10000, 0x10000, false) := by
      simp [blocks, h, Nat.not_lt.1 h, hlow]
    simp [ordinary, hblock, haligned, hbelow]

section
variable {s : State} {m : Master} {a i j : Nat} {r : Reg}

theorem State.reach_plainRow (ho : ordinary a = true) (hfind : regFind a = some (r, i, j)) (hrow : r.plainRow = true) :
    s.reach (Req.word m a) = .inl ⟨a, r, i, j, false, false⟩ := by
  simp only [Reg.plainRow, Bool.and_eq_true, List.isEmpty_iff] at hrow
  obtain ⟨⟨⟨habs1, habs2⟩, -⟩, -⟩ := hrow
  exact State.reach_ordinary ho hfind (by simp [State.absent, habs1, habs2, inRanges])

theorem State.writePlace_plainRow {b : Nat} {p : Place} {v : Word} (hrow : p.r.plainRow = true) : s.writePlace m b p v = s.writeAt m p true v := by
  simp only [Reg.plainRow, Bool.and_eq_true, List.isEmpty_iff, decide_eq_true_eq] at hrow
  obtain ⟨⟨-, hwo⟩, hgw⟩ := hrow
  simp [State.writePlace, State.guardTake, hgw, hwo]

/-- A write of a plain row that its master makes. -/
theorem State.write_plainRow (v : Word) (hr : reaches m s = true) (ho : ordinary a = true) (hfind : regFind a = some (r, i, j))
    (hrow : r.plainRow = true) : s.write (Req.word m a) v 0 = .next (s.writeAt m ⟨a, r, i, j, false, false⟩ true v).deliver := by
  rw [State.write_ordinary v hr ho (State.reach_plainRow ho hfind hrow), State.writePlace_plainRow hrow]

/-- A write of a plain row on the register bus. -/
theorem State.busWrite_plainRow (v : Word) (ho : ordinary a = true) (hfind : regFind a = some (r, i, j)) (hrow : r.plainRow = true) :
    s.busWrite (Req.word m a) v 0 = (false, s.writeAt m ⟨a, r, i, j, false, false⟩ true v) := by
  unfold State.busWrite
  rw [State.reach_plainRow ho hfind hrow]
  dsimp only
  rw [State.writePlace_plainRow hrow]
  simp [Req.word, not_isPeek_ordinary ho]

end

/-! ### Where a write of SYS or MB acts -/

theorem State.writeAt_low {s : State} {m : Master} {p : Place} {gw : Bool} {v : Word} (h : p.a < 0x20000) :
    s.writeAt m p gw v = s.writeSys m p gw v := if_pos h

theorem write_SYS_UNLOCK {s : State} {m : Master} (v : Word) (hr : reaches m s = true) :
    s.write (Req.word m SYS_UNLOCK) v 0 = .next (s.unlock m SYS_UNLOCK v).deliver := by
  obtain ⟨p, ha, hbase, hw⟩ := State.write_lone (a := SYS_UNLOCK) v hr (by decide) (by decide)
  rw [hw, State.writeAt_low (by rw [ha]; decide), State.writeSys, hbase, if_pos rfl, ha]

theorem write_SYS_VEC_ACK {s : State} {m : Master} (hi : Bool) (v : Word) (hr : reaches m s = true) :
    s.write (Req.word m (if hi then SYS_VEC_ACK_HI else SYS_VEC_ACK_LO)) v 0 = .next (s.vecAck hi v).deliver := by
  cases hi with
  | false =>
    obtain ⟨p, ha, hbase, hw⟩ := State.write_lone (a := SYS_VEC_ACK_LO) v hr (by decide) (by decide)
    rw [if_neg Bool.false_ne_true, hw, State.writeAt_low (by rw [ha]; decide), State.writeSys, hbase]
    rfl
  | true =>
    obtain ⟨p, ha, hbase, hw⟩ := State.write_lone (a := SYS_VEC_ACK_HI) v hr (by decide) (by decide)
    rw [if_pos rfl, hw, State.writeAt_low (by rw [ha]; decide), State.writeSys, hbase]
    rfl

/-! ### Rows of SYS -/

/-- The row of SYS_VEC_MAP. -/
def vecMapRow : Reg :=
  ⟨"SYS_VEC_MAP", 0x100, 64, 0x4, 1, 0x4, false, [], [], (List.range 64).map fun s => (s, s), [⟨"vector", 5, 0, .rw, 0⟩]⟩

theorem regFind_SYS_VEC_MAP (n : Fin 64) : regFind (SYS_VEC_MAP n) = some (vecMapRow, n.val, 0) := by
  revert n
  decide +kernel

theorem fieldBits_SYS_VEC_MAP (n : Fin 64) : fieldBits (SYS_VEC_MAP n) = 0x3F := by
  rw [fieldBits, regFind_SYS_VEC_MAP]
  show vecMapRow.bits = 0x3F
  decide

theorem ordinary_SYS_VEC_MAP (n : Fin 64) : ordinary (SYS_VEC_MAP n) = true :=
  ordinary_of_lt (by rw [SYS_VEC_MAP]; omega) (by rw [SYS_VEC_MAP]; omega)

/-- The bits of `m` in a word that takes them from `v`. -/
theorem masked_and (w v m : Word) : ((w &&& ~~~m) ||| (v &&& m)) &&& m = v &&& m := by
  ext i hi
  simp only [BitVec.getElem_and, BitVec.getElem_or, BitVec.getElem_not]
  cases w[i] <;> cases v[i] <;> cases m[i] <;> rfl

/-- What a write of SYS_VEC_MAP stores. -/
theorem State.writeAt_SYS_VEC_MAP (s : State) (m : Master) (n : Fin 64) (v : Word) :
    s.writeAt m ⟨SYS_VEC_MAP n, vecMapRow, n, 0, false, false⟩ true v =
      s.wr (SYS_VEC_MAP n) ((s.rd (SYS_VEC_MAP n) &&& ~~~(0x3F : Word)) ||| (v &&& 0x3F)) := by
  have hplain : s.writeAt m ⟨SYS_VEC_MAP n, vecMapRow, n, 0, false, false⟩ true v = s.plain ⟨SYS_VEC_MAP n, vecMapRow, n, 0, false, false⟩ true v := by
    rw [State.writeAt_low (show SYS_VEC_MAP n < 0x20000 by rw [SYS_VEC_MAP]; omega)]
    rfl
  have hmask : vecMapRow.mask .rw ||| vecMapRow.mask .gw = 0x3F := by decide
  rw [hplain, State.plain, if_pos rfl, hmask, State.store, regFind_SYS_VEC_MAP]
  rfl

theorem State.rd_writeAt_SYS_VEC_MAP (s : State) (m : Master) (n : Fin 64) (v : Word) :
    (s.writeAt m ⟨SYS_VEC_MAP n, vecMapRow, n, 0, false, false⟩ true v).rd (SYS_VEC_MAP n) = v &&& 0x3F := by
  rw [State.writeAt_SYS_VEC_MAP, State.rd_wr_same, fieldBits_SYS_VEC_MAP, masked_and]

/-! ### A bad key (R57) -/

theorem State.rd_guardViol {s : State} (m : Master) (badKey : Bool) (a : Nat) (hfirst : s.bit SYS_GUARD_VIOL 31 = false) :
    (s.guardViol m badKey a).rd SYS_GUARD_VIOL =
      (BitVec.ofNat 32 (a / 4 % 2 ^ 24 + flag badKey * 2 ^ 29 + portBit m * 2 ^ 30) ||| 0x80000000) &&& fieldBits SYS_GUARD_VIOL := by
  unfold State.guardViol State.capture State.captureAt
  rw [hfirst, State.raise_eq, State.rd_set_ne _ _ (by decide), if_neg Bool.false_ne_true, State.rd_wr_same]

theorem State.on_guardViol (s : State) (m : Master) (badKey : Bool) (a : Nat) : (s.guardViol m badKey a).on SYS_INT_STAT_guard_viol = true := by
  unfold State.guardViol
  exact State.on_raise _ (by decide) rfl

theorem State.captureAt_host (s : State) (more a : Nat) (w : Word) : (s.captureAt more a w).host = s.host := by
  unfold State.captureAt
  split
  · rw [State.setBit_eq, State.set_host]
  · rw [State.wr_host]

theorem State.guardViol_host (s : State) (m : Master) (badKey : Bool) (a : Nat) : (s.guardViol m badKey a).host = s.host := by
  unfold State.guardViol State.capture
  rw [State.raise_eq, State.set_host, State.captureAt_host]

end Sys2Proof.Machine
end

section
/-! PROOFS. Statement O2: the guards, the vectors and the configuration space. -/

namespace Sys2Proof

open Sys2Proof.Machine

/-! ### The guards -/

/-- The key arms the guard of a port that has one. -/
theorem unlock_key {s : State} {m : Master} (a : Nat) (hm : m = .pcie ∨ m = .msp) :
    guardOpen m (s.unlock m a 0x7D2B4E19) = true ∧ onlyRegs [] s (s.unlock m a 0x7D2B4E19) := by
  obtain rfl | rfl := hm
  · exact ⟨rfl, fun _ _ => rfl⟩
  · exact ⟨rfl, fun _ _ => rfl⟩

/-- The guard of master `m` is disarmed. -/
theorem unlock_other {s : State} {m : Master} {v : Word} (a : Nat) (hm : m = .pcie ∨ m = .msp) (hv : v ≠ 0x7D2B4E19) :
    s.unlock m a v = (s.spendGuard m).guardViol m true a := by
  have hbad : decide (v = 0x7D2B4E19) = false := decide_eq_false hv
  unfold State.unlock
  rw [hbad]
  obtain rfl | rfl := hm
  · rfl
  · rfl

theorem guardOpen_spendGuard {s : State} {m : Master} (hm : m = .pcie ∨ m = .msp) : guardOpen m (s.spendGuard m) = false := by
  obtain rfl | rfl := hm
  · rfl
  · rfl

theorem guardOpen_guardViol (s : State) (m k : Master) (badKey : Bool) (a : Nat) : guardOpen m (s.guardViol k badKey a) = guardOpen m s := by
  unfold guardOpen
  rw [State.guardViol_host]

theorem sysUnlockWrite_arms (m : Master) (s : State) (hr : reaches m s) (hm : m = .pcie ∨ m = .msp) :
    ∃ t, goesTo (.sysUnlockWrite m 0x7D2B4E19) s t ∧ guardOpen m t = true ∧ onlyChanges [] [] s t := by
  obtain ⟨hopen, hregs⟩ := unlock_key (s := s) SYS_UNLOCK hm
  refine ⟨_, write_SYS_UNLOCK _ hr, ?_, onlyChanges.deliver hregs ?_⟩
  · rw [guardOpen_deliver, hopen]
  · exact (State.unlock_keeps _ _ _ _ (by decide)).2 onlyParts.refl

theorem sysUnlockWrite_disarms (m : Master) (v : Word) (s : State) (hr : reaches m s) (hm : m = .pcie ∨ m = .msp) (hv : v ≠ 0x7D2B4E19)
    (hfirst : s.bit SYS_GUARD_VIOL 31 = false) :
    ∃ t, goesTo (.sysUnlockWrite m v) s t ∧ guardOpen m t = false ∧
      t.rd SYS_GUARD_VIOL = BitVec.ofNat 32 (SYS_UNLOCK / 4 + 2 ^ 29 + portBit m * 2 ^ 30 + 2 ^ 31) ∧ t.on SYS_INT_STAT_guard_viol = true ∧
      onlyChanges [SYS_GUARD_VIOL, SYS_INT_STAT] [] s t := by
  have hexec : exec (.sysUnlockWrite m v) s = .next ((s.spendGuard m).guardViol m true SYS_UNLOCK).deliver :=
    (write_SYS_UNLOCK v hr).trans (by rw [unlock_other SYS_UNLOCK hm hv])
  have hfirst' : (s.spendGuard m).bit SYS_GUARD_VIOL 31 = false := by rw [State.bit, State.rd_spendGuard, ← State.bit, hfirst]
  refine ⟨_, hexec, ?_, ?_, ?_, onlyChanges.deliver ?_ ?_⟩
  · rw [guardOpen_deliver, guardOpen_guardViol, guardOpen_spendGuard hm]
  · rw [State.rd_deliver _ _ (by decide) (by decide), State.rd_guardViol _ _ _ hfirst']
    obtain rfl | rfl := hm
    · decide
    · decide
  · rw [State.on_deliver _ (by decide) (by decide), State.on_guardViol]
  · have hspent : onlyRegs [SYS_GUARD_VIOL, SYS_INT_STAT] s (s.spendGuard m) := onlyRegs.spendGuard m
    exact onlyRegs.set (onlyRegs.capture hspent (by simp)) (by simp [SYS_INT_STAT_guard_viol])
  · simp (disch := decide) only [State.guardViol_keeps, State.spendGuard_keeps, onlyParts.self]

/-! ### The vectors -/

theorem armed_vecAck {s : State} {hi : Bool} {v : Word} {n : Nat} (hword : (decide (32 ≤ n) == hi) = true) (hbit : bitOf v.toNat (n % 32) = true) :
    (s.vecAck hi v).armed n = true := by
  simp [State.armed, State.vecAck, hword, hbit]

theorem sysVecAckWrite_arms (m : Master) (hi : Bool) (v : Word) (n : Fin 64) (s : State) (hr : reaches m s) (hword : (decide (32 ≤ n.val) == hi) = true)
    (hbit : bitOf v.toNat (n.val % 32) = true) (hwants : s.vecWants n = false) :
    ∃ t, goesTo (.sysVecAckWrite m hi v) s t ∧ t.armed n = true ∧ onlyChanges [] [] s t := by
  have hsame : sameButPba s (s.vecAck hi v) := ⟨fun _ _ _ => rfl, rfl, rfl, rfl, rfl⟩
  obtain ⟨-, harmed, -⟩ := deliver_leaves (s.vecAck hi v) ((hsame.vecWants n).trans hwants)
  refine ⟨_, write_SYS_VEC_ACK hi v hr, harmed.trans (armed_vecAck hword hbit), onlyChanges.deliver (fun _ _ => rfl) ?_⟩
  exact (State.vecAck_keeps _ _ _ (by decide)).2 onlyParts.refl

/-- The holdoff of vector `v` is over. -/
def Machine.State.holdoffOver (s : State) (v : Nat) : State := { s with host := { s.host with holding := s.host.holding.filter (· ≠ v) } }

theorem holdoffOver_same (s : State) (v : Nat) : sameButPba s (s.holdoffOver v) := ⟨fun _ _ _ => rfl, rfl, rfl, rfl, rfl⟩

theorem holding_holdoffOver (s : State) (v : Nat) : (s.holdoffOver v).host.holding.contains v = false := by simp [State.holdoffOver]

theorem holdoffOver_onlyChanges (s : State) (v : Nat) : onlyChanges [] [] s (s.holdoffOver v).deliver :=
  onlyChanges.deliver (fun _ _ => rfl) ((with_host (by decide)).2 onlyParts.refl)

theorem exec_vecHoldoffExpiry {v : Fin 64} {s : State} (hup : s.up) (hholding : s.host.holding.contains v.val = true) :
    exec (.vecHoldoffExpiry v) s = .next (s.holdoffOver v).deliver := by
  show finishIf (s.host.holding.contains v.val) s (s.holdoffOver v) = _
  exact finishIf_next hholding hup

theorem vecHoldoffExpiry_sends (v : Fin 64) (s : State) (hup : s.up) (hholding : s.host.holding.contains v.val = true) (harmed : s.armed v = true)
    (hopen : s.vecOpen v = true) (hwants : s.vecWants v = true) :
    ∃ t, goesTo (.vecHoldoffExpiry v) s t ∧
      Sent.msix v ((s.rd (SYS_MSIX_ADDR_LO v)).toNat + (s.rd (SYS_MSIX_ADDR_HI v)).toNat * 2 ^ 32) (s.rd (SYS_MSIX_DATA v)) ∈ t.sent ∧
      t.armed v = false ∧ onlyChanges [] [] s t := by
  have hsame := holdoffOver_same s v
  have howes : owes (s.holdoffOver v) v = true := by
    rw [owes, holding_holdoffOver, hsame.vecWants, hwants, show (s.holdoffOver v).armed v = s.armed v from rfl, harmed]
    rfl
  obtain ⟨hsent, hdisarmed⟩ := deliver_sends v.isLt howes ((hsame.vecOpen v.isLt).trans hopen)
  rw [hsame.msixMessage v.isLt] at hsent
  exact ⟨_, exec_vecHoldoffExpiry hup hholding, hsent, hdisarmed, holdoffOver_onlyChanges s v⟩

theorem vecHoldoffExpiry_ends (v : Fin 64) (s : State) (hup : s.up) (hholding : s.host.holding.contains v.val = true) (hwants : s.vecWants v = false) :
    ∃ t, goesTo (.vecHoldoffExpiry v) s t ∧ t.host.holding.contains v.val = false ∧ onlyChanges [] [] s t := by
  obtain ⟨-, -, hholds⟩ := deliver_leaves (s.holdoffOver v) (((holdoffOver_same s v).vecWants v).trans hwants)
  exact ⟨_, exec_vecHoldoffExpiry hup hholding, hholds.trans (holding_holdoffOver s v), holdoffOver_onlyChanges s v⟩

/-! ### The configuration space -/

theorem configSpaceWrite_takes (msix mask d3hot : Bool) (c : PcieCfg) (s : State) (hup : s.up) (hrun : s.power.pcieReset = false) :
    ∃ t, goesTo (.configSpaceWrite msix mask (d3hot, c)) s t ∧ t.host.msixEnable = msix ∧ t.host.funcMask = mask ∧ t.host.d3hot = d3hot ∧
      t.host.cfg.ecrcGen = c.ecrcGen ∧ t.host.cfg.ecrcCheck = c.ecrcCheck ∧ t.host.cfg.aspmL1 = c.aspmL1 ∧
      (c.maxPayload = 128 ∨ c.maxPayload = 256 → t.host.cfg.maxPayload = c.maxPayload) ∧
      (c.maxRead = 128 ∨ c.maxRead = 256 ∨ c.maxRead = 512 → t.host.cfg.maxRead = c.maxRead) ∧ onlyChanges [] [] s t := by
  have hexec : exec (.configSpaceWrite msix mask (d3hot, c)) s = .next (State.deliver { s with host :=
      { s.host with msixEnable := msix, funcMask := mask, d3hot := d3hot, cfg := pcieCfgAfter s.host.cfg c } }) := by
    show finishIf (!s.power.pcieReset) s _ = _
    exact finishIf_next (by rw [hrun]; rfl) hup
  refine ⟨_, hexec, ?_⟩
  rw [deliver_msixEnable, deliver_funcMask, deliver_d3hot, deliver_cfg]
  refine ⟨rfl, rfl, rfl, rfl, rfl, rfl, fun h => ?_, fun h => ?_, onlyChanges.deliver (fun _ _ => rfl) ((with_host (by decide)).2 onlyParts.refl)⟩
  · exact if_pos (by simpa using h)
  · exact if_pos (by simpa using h)

theorem configId_identifies (s : State) : s.configId 0x00 = (if s.variant = .fh4848 then 0x48481F8B else 0x48241F8B) ∧
    s.configId 0x2C = s.configId 0x00 ∧ (s.configId 0x08).toNat / 256 = 0x028000 := by
  refine ⟨?_, rfl, ?_⟩
  · unfold State.configId State.partCode
    cases s.variant <;> rfl
  · have hsilicon := bitsOf_lt (s.rd SYS_DEV_ID) 11 8
    have hmodule := bitsOf_lt (s.rd SYS_DEV_ID) 15 12
    show (BitVec.ofNat 32 _).toNat / 256 = _
    rw [BitVec.toNat_ofNat]
    omega

/-- Settles O2: the guards by `unlock`, the vectors by what a delivery serves and leaves, the configuration space by its write. -/
theorem guardAndVectors : Obligations.GuardAndVectors := by
  unfold Obligations.GuardAndVectors
  exact ⟨sysUnlockWrite_arms, sysUnlockWrite_disarms, sysVecAckWrite_arms, vecHoldoffExpiry_sends, vecHoldoffExpiry_ends, configSpaceWrite_takes,
    configId_identifies⟩

end Sys2Proof
end

section
/-! PROOFS. Statement O3: the commands of the Management Serial Port (R42, R43). -/

namespace Sys2Proof.Machine

/-! ### Accesses of the port to SYS_VEC_MAP -/

theorem State.up_iff {s : State} : s.up = true ↔ s.power.vin = true ∧ s.power.inReset = false := by
  simp [State.up]

theorem beAt_take {b : Bytes} {i n k : Nat} (h : i + n ≤ k) : beAt (b.take k) i n = beAt b i n := by
  rw [beAt, slice, List.drop_take, List.take_take, min_eq_left (by omega), beAt, slice]

/-- A complete write command of SYS_VEC_MAP whose CRC-8 is good (R42). -/
theorem State.mspWrite_SYS_VEC_MAP {s : State} {b : Bytes} {n : Fin 64} (hcrc : mspCrcOk (b.take 10) = true) (haddr : beAt b 1 4 = SYS_VEC_MAP n) :
    s.mspWrite (b.take 10) = (0xA0, s.writeAt .msp ⟨SYS_VEC_MAP n, vecMapRow, n, 0, false, false⟩ true (BitVec.ofNat 32 (beAt b 5 4))) := by
  unfold State.mspWrite
  rw [if_neg (by simp [hcrc]), beAt_take (by decide), beAt_take (by decide), haddr,
    State.busWrite_plainRow _ (ordinary_SYS_VEC_MAP n) (regFind_SYS_VEC_MAP n) (by decide)]
  rfl

theorem State.mspWrite_badCrc {s : State} {b : Bytes} (hcrc : mspCrcOk b = false) : s.mspWrite b = (0xA2, s) := if_pos (by simp [hcrc])

theorem State.readPlace_SYS_VEC_MAP (s : State) (m : Master) (n : Fin 64) :
    s.readPlace m ⟨SYS_VEC_MAP n, vecMapRow, n, 0, false, false⟩ = (s.rd (SYS_VEC_MAP n), s) := by
  have hview : s.view m ⟨SYS_VEC_MAP n, vecMapRow, n, 0, false, false⟩ = s.rd (SYS_VEC_MAP n) := rfl
  have heffect : s.readEffect m ⟨SYS_VEC_MAP n, vecMapRow, n, 0, false, false⟩ = s := rfl
  unfold State.readPlace
  rw [hview, heffect]
  rfl

/-- A complete read command of SYS_VEC_MAP whose CRC-8 is good. -/
theorem State.mspRead_SYS_VEC_MAP {s : State} {b : Bytes} {n : Fin 64} (hcrc : mspCrcOk (b.take 6) = true) (haddr : beAt b 1 4 = SYS_VEC_MAP n) :
    s.mspRead (b.take 6) = (mspData (s.rd (SYS_VEC_MAP n)), s) := by
  have hbus : s.busRead (Req.word .msp (SYS_VEC_MAP n)) = (some [s.rd (SYS_VEC_MAP n)], s) := by
    unfold State.busRead
    rw [State.reach_plainRow (ordinary_SYS_VEC_MAP n) (regFind_SYS_VEC_MAP n) (by decide)]
    dsimp only
    rw [State.readPlace_SYS_VEC_MAP]
    rfl
  unfold State.mspRead
  rw [if_neg (by simp [hcrc]), beAt_take (by decide), haddr, hbus]

/-- A write of SYS_VEC_MAP changes that register alone. -/
theorem onlyRegs_writeAt_SYS_VEC_MAP (s : State) (m : Master) (n : Fin 64) (v : Word) :
    onlyRegs [SYS_VEC_MAP n] s (s.writeAt m ⟨SYS_VEC_MAP n, vecMapRow, n, 0, false, false⟩ true v) := by
  rw [State.writeAt_SYS_VEC_MAP]
  exact onlyRegs.wr onlyRegs.refl List.mem_cons_self

theorem onlyParts_writeAt_SYS_VEC_MAP (s : State) (m : Master) (n : Fin 64) (v : Word) :
    onlyParts [.regs] s (s.writeAt m ⟨SYS_VEC_MAP n, vecMapRow, n, 0, false, false⟩ true v) := by
  rw [State.writeAt_SYS_VEC_MAP]
  exact State.wr_parts s _ _

end Sys2Proof.Machine

namespace Sys2Proof

open Sys2Proof.Machine

/-! ### The commands -/

theorem SYS_VEC_MAP_ne_pba (n : Fin 64) (k : Nat) : SYS_VEC_MAP n ≠ SYS_PBA k := by
  rw [SYS_VEC_MAP, SYS_PBA]
  omega

theorem mspWriteFrame_writes (b : Bytes) (n : Fin 64) (s : State) (hup : s.up) (hcommand : byteAt b 0 = 2) (hlong : 10 ≤ b.length)
    (hcrc : mspCrcOk (b.take 10) = true) (haddr : beAt b 1 4 = SYS_VEC_MAP n) :
    ∃ t, goesTo (.mspWriteFrame b) s t ∧ t.rd (SYS_VEC_MAP n) = BitVec.ofNat 32 (beAt b 5 4) &&& 0x3F ∧ Sent.msp [0xA0] ∈ t.sent ∧
      onlyChanges [SYS_VEC_MAP n] [] s t := by
  generalize hu : s.writeAt .msp ⟨SYS_VEC_MAP n, vecMapRow, n, 0, false, false⟩ true (BitVec.ofNat 32 (beAt b 5 4)) = u
  have hregs : onlyRegs [SYS_VEC_MAP n] s u := hu ▸ onlyRegs_writeAt_SYS_VEC_MAP s _ _ _
  have hparts : onlyParts [.regs] s u := hu ▸ onlyParts_writeAt_SYS_VEC_MAP s _ _ _
  have hreset : u.power.inReset = false := by
    rw [show u.power = s.power from hparts .power (by decide)]
    exact (State.up_iff.1 hup).2
  have hexec : exec (.mspWriteFrame b) s = .next (u.emit (.msp [0xA0])).deliver := by
    show finishIf (decide (byteAt b 0 = 0x02) && decide (10 ≤ b.length)) s (if (s.mspWrite (b.take 10)).2.power.inReset then _ else _) = _
    rw [finishIf_next (by simp [hcommand, hlong]) hup, State.mspWrite_SYS_VEC_MAP hcrc haddr, hu]
    dsimp only
    rw [hreset]
    rfl
  refine ⟨_, hexec, ?_, State.deliver_sent List.mem_cons_self, onlyChanges.deliver hregs ?_⟩
  · rw [State.rd_deliver _ _ (SYS_VEC_MAP_ne_pba n 0) (SYS_VEC_MAP_ne_pba n 1), State.rd_emit, ← hu, State.rd_writeAt_SYS_VEC_MAP]
  · exact (State.emit_keeps _ _ (by decide)).2 (onlyParts.then onlyParts.refl hparts (by decide))

theorem mspWriteFrame_badCrc (b : Bytes) (s : State) (hup : s.up) (hcommand : byteAt b 0 = 2) (hlong : 10 ≤ b.length)
    (hcrc : mspCrcOk (b.take 10) = false) : ∃ t, goesTo (.mspWriteFrame b) s t ∧ Sent.msp [0xA2] ∈ t.sent ∧ onlyChanges [] [] s t := by
  have hexec : exec (.mspWriteFrame b) s = .next (s.emit (.msp [0xA2])).deliver := by
    show finishIf (decide (byteAt b 0 = 0x02) && decide (10 ≤ b.length)) s (if (s.mspWrite (b.take 10)).2.power.inReset then _ else _) = _
    rw [finishIf_next (by simp [hcommand, hlong]) hup, State.mspWrite_badCrc hcrc]
    dsimp only
    rw [(State.up_iff.1 hup).2]
    rfl
  refine ⟨_, hexec, State.deliver_sent List.mem_cons_self, onlyChanges.deliver (fun _ _ => rfl) ?_⟩
  exact (State.emit_keeps _ _ (by decide)).2 onlyParts.refl

theorem mspReadFrame_reads (b : Bytes) (n : Fin 64) (s : State) (hup : s.up) (hcommand : byteAt b 0 = 3) (hlong : 6 ≤ b.length)
    (hcrc : mspCrcOk (b.take 6) = true) (haddr : beAt b 1 4 = SYS_VEC_MAP n) :
    ∃ t, goesTo (.mspReadFrame b) s t ∧ Sent.msp (mspData (s.rd (SYS_VEC_MAP n))) ∈ t.sent ∧ onlyChanges [] [] s t := by
  have hexec : exec (.mspReadFrame b) s = .next (s.emit (.msp (mspData (s.rd (SYS_VEC_MAP n))))).deliver := by
    show finishIf (decide (byteAt b 0 = 0x03) && decide (6 ≤ b.length)) s ((s.mspRead (b.take 6)).2.emit (.msp (s.mspRead (b.take 6)).1)) = _
    rw [finishIf_next (by simp [hcommand, hlong]) hup, State.mspRead_SYS_VEC_MAP hcrc haddr]
  refine ⟨_, hexec, State.deliver_sent List.mem_cons_self, onlyChanges.deliver (fun _ _ => rfl) ?_⟩
  exact (State.emit_keeps _ _ (by decide)).2 onlyParts.refl

theorem mspUnknownCommand_answered (b : Bytes) (s : State) (hup : s.up) (hsome : b ≠ []) (hwrite : byteAt b 0 ≠ 2) (hread : byteAt b 0 ≠ 3) :
    ∃ t, goesTo (.mspUnknownCommand b) s t ∧ Sent.msp [0xA3] ∈ t.sent ∧ onlyChanges [] [] s t := by
  have hexec : exec (.mspUnknownCommand b) s = .next (s.emit (.msp [0xA3])).deliver := by
    show finishIf (!b.isEmpty && decide (byteAt b 0 ≠ 0x02) && decide (byteAt b 0 ≠ 0x03)) s _ = _
    exact finishIf_next (by simp [hsome, hwrite, hread]) hup
  refine ⟨_, hexec, State.deliver_sent List.mem_cons_self, onlyChanges.deliver (fun _ _ => rfl) ?_⟩
  exact (State.emit_keeps _ _ (by decide)).2 onlyParts.refl

theorem mspCsEarlyRise_incomplete (b : Bytes) (s : State) (hup : s.up) (hsome : b ≠ []) (hcommand : byteAt b 0 = 2) (hshort : b.length < 10) :
    ∃ t, goesTo (.mspCsEarlyRise b) s t ∧ onlyChanges [] [] s t := by
  have hexec : exec (.mspCsEarlyRise b) s = .next s.deliver := by
    show finishIf (!b.isEmpty) s (if byteAt b 0 = 0x02 ∧ 10 ≤ b.length then _ else if byteAt b 0 = 0x03 ∧ 6 ≤ b.length then _ else s) = _
    rw [finishIf_next (by simp [hsome]) hup, if_neg (by omega), if_neg (by omega)]
  exact ⟨_, hexec, onlyChanges.deliver (fun _ _ => rfl) onlyParts.refl⟩

theorem mspCsEarlyRise_complete (b : Bytes) (n : Fin 64) (s : State) (hup : s.up) (hcommand : byteAt b 0 = 2) (hlong : 10 ≤ b.length)
    (hcrc : mspCrcOk (b.take 10) = true) (haddr : beAt b 1 4 = SYS_VEC_MAP n) :
    ∃ t, goesTo (.mspCsEarlyRise b) s t ∧
      (t.rd (SYS_VEC_MAP n) = BitVec.ofNat 32 (beAt b 5 4) &&& 0x3F ∨ t.rd (SYS_VEC_MAP n) = s.rd (SYS_VEC_MAP n)) ∧
      onlyChanges [SYS_VEC_MAP n] [.free] s t := by
  have hsome : b ≠ [] := by
    rintro rfl
    simp at hlong
  generalize hd : (s.draw 1).2 = d
  have hdraw : onlyParts [.free] s d := hd ▸ State.draw_parts s 1
  have hrd : ∀ a, d.rd a = s.rd a := fun a => by rw [← hd]; rfl
  have hexec : exec (.mspCsEarlyRise b) s = .next (if (s.draw 1).1 = 1 then
      d.writeAt .msp ⟨SYS_VEC_MAP n, vecMapRow, n, 0, false, false⟩ true (BitVec.ofNat 32 (beAt b 5 4)) else d).deliver := by
    show finishIf (!b.isEmpty) s (if byteAt b 0 = 0x02 ∧ 10 ≤ b.length then
      (if (s.draw 1).1 = 1 then ((s.draw 1).2.mspWrite (b.take 10)).2 else (s.draw 1).2) else _) = _
    rw [finishIf_next (by simp [hsome]) hup, if_pos ⟨hcommand, hlong⟩, hd, State.mspWrite_SYS_VEC_MAP hcrc haddr]
  refine ⟨_, hexec, ?_⟩
  rw [State.rd_deliver _ _ (SYS_VEC_MAP_ne_pba n 0) (SYS_VEC_MAP_ne_pba n 1)]
  split
  · refine ⟨.inl (State.rd_writeAt_SYS_VEC_MAP ..), onlyChanges.deliver (fun a ha => ?_) ?_⟩
    · rw [onlyRegs_writeAt_SYS_VEC_MAP d .msp n _ a ha, hrd]
    · exact onlyParts.then (onlyParts.then onlyParts.refl hdraw (by decide)) (onlyParts_writeAt_SYS_VEC_MAP d _ _ _) (by decide)
  · exact ⟨.inr (hrd _), onlyChanges.deliver (fun a _ => hrd a) (onlyParts.then onlyParts.refl hdraw (by decide))⟩

/-- Settles O3: what each command does to SYS_VEC_MAP and what it sends back. -/
theorem mspFrames : Obligations.MspFrames := by
  unfold Obligations.MspFrames
  exact ⟨mspWriteFrame_writes, mspWriteFrame_badCrc, mspReadFrame_reads, mspUnknownCommand_answered, mspCsEarlyRise_incomplete, mspCsEarlyRise_complete⟩

end Sys2Proof
end

section
/-! PROOFS. The rows of the mailboxes in the map, and what reading, taking and leaving a request does (R62, R63, R508). -/

namespace Sys2Proof.Machine

/-! ### Rows of MB -/

/-- The row of MB_DB. -/
def mbDbRow : Reg := ⟨"MB_DB", 0x10010, 4, 0x4, 1, 0x4, false, [], [], [], [⟨"ring", 31, 0, .wt, 0⟩]⟩

/-- The row of MB_ACK. -/
def mbAckRow : Reg := ⟨"MB_ACK", 0x10040, 4, 0x4, 1, 0x4, false, [], [], [], [⟨"ack", 31, 0, .wt, 0⟩]⟩

/-- The row of MB_REQ. -/
def mbReqRow : Reg := ⟨"MB_REQ", 0x11000, 4, 0x2000, 1024, 0x4, false, [], [], [], [⟨"word", 31, 0, .rw, 0⟩]⟩

/-- The row of MB_RESP. -/
def mbRespRow : Reg := ⟨"MB_RESP", 0x12000, 4, 0x2000, 1024, 0x4, false, [], [], [], [⟨"word", 31, 0, .ro, 0⟩]⟩

theorem regFind_MB_DB (n : Fin 4) : regFind (MB_DB n) = some (mbDbRow, n.val, 0) := by
  revert n
  decide

theorem regFind_MB_ACK (n : Fin 4) : regFind (MB_ACK n) = some (mbAckRow, n.val, 0) := by
  revert n
  decide

/-- A row ends before an address that lies past all its elements. -/
theorem Reg.find_eq_none {r : Reg} {a : Nat} (hstride : 0 < r.s1) (hpast : r.base + r.n1 * r.s1 ≤ a) : r.find a = none := by
  have hindex : r.n1 ≤ (a - r.base) / r.s1 := (Nat.le_div_iff_mul_le hstride).2 (by omega)
  unfold Reg.find
  split
  · rfl
  · exact if_neg fun h => absurd h.1 (Nat.not_lt.2 hindex)

/-- Above the small registers of MB stand the request and the response buffers. -/
theorem regFind_buffer {a : Nat} (hlow : 0x11000 ≤ a) (hhigh : a < 0x20000) :
    regFind a = [mbReqRow, mbRespRow].findSome? fun r => (r.find a).map fun ij => (r, ij.1, ij.2) := by
  have hrows : regsAt a = regsMb.take 8 ++ [mbReqRow, mbRespRow] := (if_neg (by omega)).trans (if_pos hhigh)
  have hpast : ∀ r ∈ regsMb.take 8, 0 < r.s1 ∧ r.base + r.n1 * r.s1 ≤ 0x11000 := by decide
  have hnone : ((regsMb.take 8).findSome? fun r => (r.find a).map fun ij => (r, ij.1, ij.2)) = none := by
    rw [List.findSome?_eq_none_iff]
    intro r hr
    obtain ⟨hstride, hend⟩ := hpast r hr
    rw [Reg.find_eq_none hstride (hend.trans hlow), Option.map_none]
  rw [regFind, hrows, List.findSome?_append, hnone, Option.none_or]

theorem regFind_MB_REQ {n w : Nat} (hn : n < 4) (hw : w < 1024) : regFind (MB_REQ n w) = some (mbReqRow, n, w) := by
  have hfind : mbReqRow.find (MB_REQ n w) = some (n, w) := by
    have hn' : (MB_REQ n w - 0x11000) / 0x2000 = n := by rw [MB_REQ]; omega
    have hw' : (MB_REQ n w - 0x11000) % 0x2000 / 4 = w := by rw [MB_REQ]; omega
    have hword : (MB_REQ n w - 0x11000) % 0x2000 % 4 = 0 := by rw [MB_REQ]; omega
    simp [Reg.find, mbReqRow, hn', hw', hword, hn, hw, show ¬ MB_REQ n w < 0x11000 by rw [MB_REQ]; omega]
  rw [regFind_buffer (by rw [MB_REQ]; omega) (by rw [MB_REQ]; omega), List.findSome?_cons, hfind]
  rfl

theorem regFind_MB_RESP {n w : Nat} (hn : n < 4) (hw : w < 1024) : regFind (MB_RESP n w) = some (mbRespRow, n, w) := by
  have hreq : mbReqRow.find (MB_RESP n w) = none := by
    have hpast : ¬ (MB_RESP n w - 0x11000) % 0x2000 / 4 < 1024 := by rw [MB_RESP]; omega
    simp [Reg.find, mbReqRow, hpast]
  have hfind : mbRespRow.find (MB_RESP n w) = some (n, w) := by
    have hn' : (MB_RESP n w - 0x12000) / 0x2000 = n := by rw [MB_RESP]; omega
    have hw' : (MB_RESP n w - 0x12000) % 0x2000 / 4 = w := by rw [MB_RESP]; omega
    have hword : (MB_RESP n w - 0x12000) % 0x2000 % 4 = 0 := by rw [MB_RESP]; omega
    simp [Reg.find, mbRespRow, hn', hw', hword, hn, hw, show ¬ MB_RESP n w < 0x12000 by rw [MB_RESP]; omega]
  rw [regFind_buffer (by rw [MB_RESP]; omega) (by rw [MB_RESP]; omega), List.findSome?_cons, hreq, Option.map_none, List.findSome?_cons, hfind]
  rfl

/-- Every bit of a request word is a field. -/
theorem fieldBits_MB_REQ {n w : Nat} (hn : n < 4) (hw : w < 1024) : fieldBits (MB_REQ n w) = 0xFFFFFFFF := by
  rw [fieldBits, regFind_MB_REQ hn hw]
  show mbReqRow.bits = _
  decide

/-- Every bit of a response word is a field. -/
theorem fieldBits_MB_RESP {n w : Nat} (hn : n < 4) (hw : w < 1024) : fieldBits (MB_RESP n w) = 0xFFFFFFFF := by
  rw [fieldBits, regFind_MB_RESP hn hw]
  show mbRespRow.bits = _
  decide

theorem and_allOnes (w : Word) : w &&& (0xFFFFFFFF : Word) = w := BitVec.and_allOnes (x := w)

theorem MB_STAT_state_ok {n : Nat} (hn : n < 4) : (MB_STAT_state n).ok = true := by
  have : ∀ k : Fin 4, (MB_STAT_state k).ok = true := by decide
  exact this ⟨n, hn⟩

/-- A mailbox reads the state it was put into. -/
theorem State.mbState_set {n v : Nat} (s : State) (hn : n < 4) (hv : v < 4) : (s.set (MB_STAT_state n) v).mbState n = v := by
  rw [State.mbState, State.get_set_same _ _ (MB_STAT_state_ok hn)]
  exact Nat.mod_eq_of_lt hv

/-- Only a write of its MB_STAT changes the state of a mailbox. -/
theorem State.mbState_congr {s t : State} {n : Nat} (h : t.rd (MB_STAT n) = s.rd (MB_STAT n)) : t.mbState n = s.mbState n := by
  rw [State.mbState, State.get, show (MB_STAT_state n).addr = MB_STAT n from rfl, h]
  rfl

theorem MB_STAT_ne_pba (n : Fin 4) (k : Fin 2) : MB_STAT n ≠ SYS_PBA k := by
  rw [MB_STAT, SYS_PBA]
  omega

theorem State.mbState_deliver (s : State) (n : Fin 4) : s.deliver.mbState n = s.mbState n :=
  State.mbState_congr (State.rd_deliver _ _ (MB_STAT_ne_pba n 0) (MB_STAT_ne_pba n 1))

/-! ### What a mailbox holds beside its registers -/

theorem State.mb_setMb_same (s : State) (n : Nat) (m : Mbox) : (s.setMb n m).mb n = m := Tab.get_put_same _ _ _ _

theorem State.mb_setMb_ne (s : State) {n k : Nat} (m : Mbox) (h : k ≠ n) : (s.setMb n m).mb k = s.mb k := Tab.get_put_ne _ _ _ _ h

theorem State.mb_congr {s t : State} (h : t.mbox = s.mbox) (n : Nat) : t.mb n = s.mb n := by rw [State.mb, h, State.mb]

theorem State.rd_setMb (s : State) (n : Nat) (m : Mbox) (a : Nat) : (s.setMb n m).rd a = s.rd a := rfl

/-! ### A mailbox that returns to IDLE -/

theorem onlyRegs.ownerApply {l : List Nat} {s t : State} (h : onlyRegs l s t) (hl : MB_OWNER ∈ l) : onlyRegs l s t.ownerApply := by
  unfold State.ownerApply
  refine List.foldlRecOn (motive := fun u => onlyRegs l s u) _ _ h fun u hu n _ => ?_
  split
  · exact onlyRegs.set hu hl
  · exact hu

theorem State.mbToIdle_onlyRegs (s : State) (n : Nat) : onlyRegs [MB_STAT n, MB_OWNER] s (s.mbToIdle n) :=
  onlyRegs.ownerApply (onlyRegs.set (t := s.mbLeave n) (fun _ _ => rfl) List.mem_cons_self) (by simp)

theorem State.rd_ownerApply (s : State) {a : Nat} (h : a ≠ MB_OWNER) : s.ownerApply.rd a = s.rd a :=
  onlyRegs.ownerApply (l := [MB_OWNER]) onlyRegs.refl List.mem_cons_self a (by simpa using h)

theorem State.mbState_mbToIdle (s : State) {n : Nat} (hn : n < 4) : (s.mbToIdle n).mbState n = mbIdle := by
  rw [State.mbToIdle, State.mbState_congr (State.rd_ownerApply _ (by rw [MB_STAT, MB_OWNER]; omega)), State.mbState_set _ hn (by decide)]

/-! ### Counters of PM -/

/-- Counting in a unit of PM changes counters of PM alone. -/
theorem State.rd_pm (s : State) {u a : Nat} (ev n : Nat) (hu : u < 8) (ha : a < 0x21000 ∨ 0x22000 ≤ a) : (s.pm u ev n).rd a = s.rd a := by
  have hcount : ∀ (t : State) (k v : Nat), k < 8 → (t.wr64 (PM_CNT_LO u k) (PM_CNT_HI u k) v).rd a = t.rd a := by
    intro t k v hk
    rw [State.wr64, State.rd_wr_ne _ _ (by rw [PM_CNT_HI]; omega), State.rd_wr_ne _ _ (by rw [PM_CNT_LO]; omega)]
  unfold State.pm
  split
  · refine List.foldlRecOn (motive := fun t : State => t.rd a = s.rd a) _ _ rfl fun t ht k hk => ?_
    split
    · rw [hcount _ _ _ (List.mem_range.1 hk), ht]
    · exact ht
  · rfl

/-! ### Taking a request (R508) -/

theorem State.mbBytes_congr {s t : State} {n k : Nat} (h : ∀ w < k, t.rd (MB_REQ n w) = s.rd (MB_REQ n w)) : t.mbBytes n k = s.mbBytes n k := by
  unfold State.mbBytes
  refine congrArg _ (List.map_congr_left fun w hw => ?_)
  rw [h w (List.mem_range.1 hw)]

/-- A request of the present epoch, not a repeat, with an opcode that the MP serves now, passes checks 3 to 7. -/
theorem State.mbChecks_passed {s : State} {n : Nat} {r : MbReq} (hepoch : r.epoch = s.get MB_EPOCH_epoch) (hlast : (s.mb n).last = none)
    (hop : opcodes.contains r.opcode = true) (hrecovery : s.on MB_EPOCH_recovery = false) (hwhole : bitOf r.flags 1 = false) : s.mbChecks n r = s := by
  unfold State.mbChecks
  rw [if_neg (by simp [hepoch]), hlast]
  dsimp only
  rw [if_neg (by simpa using hop), if_neg (by simp [hrecovery]), if_neg (by simp [hwhole])]

/-- The MP begins to take the request of mailbox `n`: it is TAKEN, and PM counts it (R62, R465). -/
def State.mbReading (s : State) (n : Nat) : State := (s.set (MB_STAT_state n) mbTaken).pm 7 0x72 1

theorem State.rd_mbReading (s : State) {n a : Nat} (hstat : a ≠ MB_STAT n) (hpm : a < 0x21000 ∨ 0x22000 ≤ a) : (s.mbReading n).rd a = s.rd a := by
  rw [State.mbReading, State.rd_pm _ _ _ (by decide) hpm, State.rd_set_ne _ _ hstat]

theorem State.mbState_mbReading (s : State) {n : Nat} (hn : n < 4) : (s.mbReading n).mbState n = mbTaken := by
  rw [State.mbReading, State.mbState_congr (State.rd_pm _ _ _ (by decide) (.inl (by rw [MB_STAT]; omega))), State.mbState_set _ hn (by decide)]

theorem State.mbReading_parts (s : State) (n : Nat) : onlyParts [.regs] s (s.mbReading n) :=
  (State.pm_keeps _ _ _ _ (by decide)).2 (State.set_parts s _ _)

/-- A good request is TAKEN as it was posted. -/
theorem State.mbTakeReq_good {s : State} {n : Nat} (hn : n < 4) (hlen : leAt (s.mbBytes n 4) 4 4 ≤ 4080)
    (hcrc : crc32c (posted n s).payload = (posted n s).crc) (hepoch : (posted n s).epoch = s.get MB_EPOCH_epoch) (hlast : (s.mb n).last = none)
    (hop : opcodes.contains (posted n s).opcode = true) (hrecovery : s.on MB_EPOCH_recovery = false) (hwhole : bitOf (posted n s).flags 1 = false) :
    (s.mbTakeReq n false none).mbState n = mbTaken ∧ ((s.mbTakeReq n false none).mb n).taken = some (posted n s) ∧
      onlyParts [.regs, .mbox] s (s.mbTakeReq n false none) := by
  have hread : ∀ a, a ≠ MB_STAT n → a < 0x21000 ∨ 0x22000 ≤ a → (s.mbReading n).rd a = s.rd a := fun _ => s.rd_mbReading
  have hstate := s.mbState_mbReading hn
  have hparts := s.mbReading_parts n
  have hstart : (s.set (MB_STAT_state n) mbTaken).pm 7 0x72 1 = s.mbReading n := rfl
  unfold State.mbTakeReq
  rw [hstart]
  generalize s.mbReading n = s1 at hread hstate hparts
  extract_lets h len r b _ s2 payload r' b2 s3 s4
  have hshort : len ≤ 4080 := hlen
  have hget : ∀ f : FRef, f.addr = MB_EPOCH → s3.get f = s.get f := fun f hf => by
    rw [State.get, hf, show s3.rd MB_EPOCH = s1.rd MB_EPOCH from rfl, hread MB_EPOCH (by rw [MB_EPOCH, MB_STAT]; omega) (by decide), State.get, hf]
  have hwords : s2.mbBytes n (4 + (len + 3) / 4) = s.mbBytes n (4 + (len + 3) / 4) :=
    State.mbBytes_congr fun w hw => hread _ (by rw [MB_REQ, MB_STAT]; omega) (.inl (by rw [MB_REQ]; omega))
  have hrequest : r' = posted n s := by
    simp only [r', payload, hwords]
    rfl
  have hmb : s3.mb n = { s2.mb n with taken := some r' } := State.mb_setMb_same ..
  have hmb2 : (s2.mb n).last = (s.mb n).last := by
    rw [show s2.mb n = _ from State.mb_setMb_same ..]
  have hchecks : s4.mbChecks n r' = s3 := by
    rw [hrequest]
    refine State.mbChecks_passed (s := s3) (hepoch.trans (hget _ rfl).symm) ?_ hop ?_ hwhole
    · rw [hmb, hmb2, hlast]
    · rw [State.on, hget _ rfl, ← State.on, hrecovery]
  have hcrc' : crc32c payload = r'.crc := by rw [show payload = r'.payload from rfl, hrequest, hcrc]
  rw [if_neg (Nat.not_lt.2 hlen), if_neg (by simp [hcrc']), hchecks]
  refine ⟨hstate, by rw [hmb, hrequest], ?_⟩
  exact (State.setMb_keeps _ _ _ (by decide)).2 ((State.setMb_keeps _ _ _ (by decide)).2 (onlyParts.then onlyParts.refl hparts (by decide)))

end Sys2Proof.Machine
end

section
/-! PROOFS. Statement O4: the owner of a mailbox and the MP pass a request on. -/

namespace Sys2Proof

open Sys2Proof.Machine

section
variable {m : Master} {n : Fin 4} {s : State}

theorem write_MB_REQ (w : Fin 1024) (v : Word) (hr : reaches m s = true) :
    s.write (Req.word m (MB_REQ n w)) v 0 = .next (s.mbWrite m n w v).deliver := by
  have hlow : MB_REQ n w < 0x20000 := by rw [MB_REQ]; omega
  rw [State.write_plainRow v hr (ordinary_of_lt (by rw [MB_REQ]; omega) hlow) (regFind_MB_REQ n.isLt w.isLt) (by decide), State.writeAt_low hlow]
  rfl

theorem write_MB_DB (v : Word) (hr : reaches m s = true) : s.write (Req.word m (MB_DB n)) v 0 = .next (s.mbDoorbell m n).deliver := by
  have hlow : MB_DB n < 0x20000 := by rw [MB_DB]; omega
  rw [State.write_plainRow v hr (ordinary_of_lt (by rw [MB_DB]; omega) hlow) (regFind_MB_DB n) (by decide), State.writeAt_low hlow]
  rfl

theorem write_MB_ACK (v : Word) (hr : reaches m s = true) : s.write (Req.word m (MB_ACK n)) v 0 = .next (s.mbAckIt m n).deliver := by
  have hlow : MB_ACK n < 0x20000 := by rw [MB_ACK]; omega
  rw [State.write_plainRow v hr (ordinary_of_lt (by rw [MB_ACK]; omega) hlow) (regFind_MB_ACK n) (by decide), State.writeAt_low hlow]
  rfl

end

theorem mbRequestWrite_writes (m : Master) (n : Fin 4) (w : Fin 1024) (v : Word) (s : State) (hr : reaches m s) (howns : s.mbOwns m n = true)
    (hidle : s.mbState n = 0) : ∃ t, goesTo (.mbRequestWrite m n w v) s t ∧ t.rd (MB_REQ n w) = v ∧ onlyChanges [MB_REQ n w] [] s t := by
  have hwrite : s.mbWrite m n w v = s.wr (MB_REQ n w) v := if_pos ⟨howns, hidle⟩
  have hpba : ∀ k : Fin 2, MB_REQ n w ≠ SYS_PBA k := fun k => by rw [MB_REQ, SYS_PBA]; omega
  refine ⟨_, write_MB_REQ w v hr, ?_, ?_⟩
  · rw [State.rd_deliver _ _ (hpba 0) (hpba 1), hwrite, State.rd_wr_same, fieldBits_MB_REQ n.isLt w.isLt, and_allOnes]
  · rw [hwrite]
    exact onlyChanges.deliver (onlyRegs.wr onlyRegs.refl List.mem_cons_self) ((State.wr_keeps _ _ _ (by decide)).2 onlyParts.refl)

theorem mbDbWrite_posts (m : Master) (n : Fin 4) (v : Word) (s : State) (hr : reaches m s) (howns : s.mbOwns m n = true) (hidle : s.mbState n = 0) :
    ∃ t, goesTo (.mbDbWrite m n v) s t ∧ t.mbState n = 1 ∧ t.mp.order = s.mp.order.filter (· ≠ n.val) ++ [n.val] ∧
      onlyChanges [MB_STAT n] [.mp] s t := by
  have hring : s.mbDoorbell m n = { s.set (MB_STAT_state n) mbPosted with mp := { s.mp with order := s.mp.order.filter (· ≠ n.val) ++ [n.val] } } :=
    if_pos ⟨howns, hidle⟩
  refine ⟨_, write_MB_DB v hr, ?_, ?_, ?_⟩
  · rw [State.mbState_deliver, hring]
    exact State.mbState_set s n.isLt (by decide)
  · rw [State.deliver_mp, hring]
  · rw [hring]
    have hregs : onlyRegs [MB_STAT n] s (s.set (MB_STAT_state n) mbPosted) := onlyRegs.set onlyRegs.refl List.mem_cons_self
    refine onlyChanges.deliver hregs ((with_mp (by decide)).2 ?_)
    exact (State.set_keeps _ _ _ (by decide)).2 onlyParts.refl

theorem mbTake_takes (n : Fin 4) (s : State) (hup : s.up) (hruns : s.mpRuns = true) (hposted : s.mbState n = 1)
    (hlen : leAt (s.mbBytes n 4) 4 4 ≤ 4080) (hcrc : crc32c (posted n s).payload = (posted n s).crc)
    (hepoch : (posted n s).epoch = s.get MB_EPOCH_epoch) (hlast : (s.mb n).last = none) (hop : opcodes.contains (posted n s).opcode = true)
    (hrecovery : s.on MB_EPOCH_recovery = false) (hwhole : bitOf (posted n s).flags 1 = false) :
    ∃ t, goesTo (.mbTake n false none) s t ∧ t.mbState n = 2 ∧ (t.mb n).taken = some (posted n s) ∧ onlyParts [.regs, .mbox, .host, .sent] s t := by
  have hexec : exec (.mbTake n false none) s = .next (s.mbTakeReq n false none).deliver := by
    show finishIf (s.mpRuns && decide (s.mbState n = mbPosted)) s _ = _
    exact finishIf_next (by rw [hruns, hposted]; rfl) hup
  obtain ⟨hstate, htaken, hparts⟩ := State.mbTakeReq_good n.isLt hlen hcrc hepoch hlast hop hrecovery hwhole
  refine ⟨_, hexec, ?_, ?_, onlyParts.deliver (onlyParts.then onlyParts.refl hparts (by decide)) (by decide)⟩
  · rw [State.mbState_deliver, hstate]
    rfl
  · rw [State.mb_congr (State.deliver_mbox _), htaken]

theorem mbAckWrite_idles (m : Master) (n : Fin 4) (v : Word) (s : State) (hr : reaches m s) (howns : s.mbOwns m n = true) (hdone : s.mbState n = 3) :
    ∃ t, goesTo (.mbAckWrite m n v) s t ∧ t.mbState n = 0 ∧ onlyChanges [MB_STAT n, MB_OWNER] [.mp] s t := by
  have hack : s.mbAckIt m n = s.mbToIdle n := if_pos ⟨howns, hdone⟩
  refine ⟨_, write_MB_ACK v hr, ?_, ?_⟩
  · rw [State.mbState_deliver, hack, State.mbState_mbToIdle s n.isLt]
    rfl
  · rw [hack]
    exact onlyChanges.deliver (s.mbToIdle_onlyRegs n) ((State.mbToIdle_keeps _ _ (by decide)).2 onlyParts.refl)

/-- Settles O4: the three writes of the owner, and the checks that a good request passes when the MP takes it. -/
theorem mailboxStates : Obligations.MailboxStates := by
  unfold Obligations.MailboxStates
  exact ⟨mbRequestWrite_writes, mbDbWrite_posts, mbTake_takes, mbAckWrite_idles⟩

end Sys2Proof
end

section
/-! PROOFS. Serving a request and answering it (R62 to R64, R67, R76). -/

namespace Sys2Proof.Machine

/-! ### Words stored one after the other -/

theorem State.rd_wrs_ne (ws : List Word) : ∀ (s : State) {a b : Nat}, (∀ k < ws.length, b ≠ a + 4 * k) → (s.wrs a ws).rd b = s.rd b := by
  induction ws with
  | nil => exact fun _ _ _ _ => rfl
  | cons w ws ih =>
    intro s a b h
    have hfirst : b ≠ a := h 0 (by simp)
    rw [State.wrs, ih _ fun k hk => ?_, State.rd_wr_ne _ _ hfirst]
    rw [show a + 4 + 4 * k = a + 4 * (k + 1) by omega]
    exact h (k + 1) (by simpa using hk)

theorem State.rd_wrs (ws : List Word) : ∀ (s : State) (a : Nat) {k : Nat}, k < ws.length →
    (s.wrs a ws).rd (a + 4 * k) = ws.getD k 0 &&& fieldBits (a + 4 * k) := by
  induction ws with
  | nil => exact fun _ _ _ h => absurd h (Nat.not_lt_zero _)
  | cons w ws ih =>
    intro s a k hk
    cases k with
    | zero =>
      rw [State.wrs, State.rd_wrs_ne _ _ fun j _ => by omega]
      exact State.rd_wr_same s a w
    | succ k =>
      rw [State.wrs, show a + 4 * (k + 1) = a + 4 + 4 * k by omega, ih _ _ (by simpa using hk), List.getD_cons_succ]

/-! ### Answers -/

theorem MB_INT_STAT_ok {n : Nat} (hn : n < 4) : (⟨MB_INT_STAT, n, n⟩ : FRef).ok = true := by
  have : ∀ k : Fin 4, (⟨MB_INT_STAT, k, k⟩ : FRef).ok = true := by decide
  exact this ⟨n, hn⟩

/-- The response to a request, as it stands in the response buffer (R63). -/
def responseWords (r : MbReq) (epoch status detail value : Nat) (data : Bytes) : List Word :=
  mbWords r.opcode r.seq (1 + r.flags / 2 % 4 * 2) epoch (mbPayload status detail value data)

theorem responseWords_length (r : MbReq) (epoch status detail value : Nat) {data : Bytes} (h : data.length ≤ 4072) :
    (responseWords r epoch status detail value data).length ≤ 1024 := by
  simp only [responseWords, mbWords, mbPayload, bytesWords_length, List.length_append, leBytes_length]
  omega

theorem State.rd_mbAnswer (s : State) (n : Nat) (r : MbReq) (status detail value : Nat) (data : Bytes) (a : Nat) :
    (s.mbAnswer n r status detail value data).rd a = (s.mbAnswerRaw n r (mbPayload status detail value data)).rd a := by
  unfold State.mbAnswer
  split
  · rfl
  · rfl

section
variable {s : State} {n : Nat} (r : MbReq) (status detail value : Nat) (data : Bytes) (hn : n < 4) (hkeep : (s.mb n).discard = false)
include hkeep

/-- An answer that is not discarded puts the response in its buffer, the mailbox in DONE and its cause in MB_INT_STAT (R62). -/
theorem State.mbAnswerRaw_eq : ∃ m : Mbox, s.mbAnswerRaw n r (mbPayload status detail value data) =
    ((((s.setMb n m).wrs (MB_RESP n 0) (responseWords r (s.get MB_EPOCH_epoch) status detail value data)).mbLeave n).set
      (MB_STAT_state n) mbDone).setBit MB_INT_STAT n := by
  refine ⟨{ s.mb n with taken := none, waiting := false, discard := false }, ?_⟩
  exact if_neg (by simp [hkeep])

include hn

theorem State.mbState_mbAnswer : (s.mbAnswer n r status detail value data).mbState n = mbDone := by
  obtain ⟨m, hraw⟩ := State.mbAnswerRaw_eq r status detail value data hkeep
  rw [State.mbState_congr (State.rd_mbAnswer s n r status detail value data _), hraw, State.setBit_eq,
    State.mbState_congr (State.rd_set_ne _ _ (show MB_STAT n ≠ MB_INT_STAT by rw [MB_STAT, MB_INT_STAT]; omega)),
    State.mbState_set _ hn (by decide)]

theorem State.bit_mbAnswer : (s.mbAnswer n r status detail value data).bit MB_INT_STAT n = true := by
  obtain ⟨m, hraw⟩ := State.mbAnswerRaw_eq r status detail value data hkeep
  rw [State.bit, State.rd_mbAnswer, hraw, ← State.bit, State.bit_eq_on]
  exact State.on_raise _ (MB_INT_STAT_ok hn) rfl

theorem State.rd_mbAnswer_MB_RESP {k : Nat} (hk : k < (responseWords r (s.get MB_EPOCH_epoch) status detail value data).length) (hfits : data.length ≤ 4072) :
    (s.mbAnswer n r status detail value data).rd (MB_RESP n k) = (responseWords r (s.get MB_EPOCH_epoch) status detail value data).getD k 0 := by
  obtain ⟨m, hraw⟩ := State.mbAnswerRaw_eq r status detail value data hkeep
  have hlast : k < 1024 := hk.trans_le (responseWords_length r _ status detail value hfits)
  rw [State.rd_mbAnswer, hraw, State.setBit_eq,
    State.rd_set_ne _ _ (show MB_RESP n k ≠ MB_INT_STAT by rw [MB_RESP, MB_INT_STAT]; omega),
    State.rd_set_ne _ _ (show MB_RESP n k ≠ MB_STAT n by rw [MB_RESP, MB_STAT]; omega)]
  have hword : MB_RESP n k = MB_RESP n 0 + 4 * k := by simp only [MB_RESP]; omega
  have hread := State.rd_wrs (responseWords r (s.get MB_EPOCH_epoch) status detail value data) (s.setMb n m) (MB_RESP n 0) hk
  rw [← hword, fieldBits_MB_RESP hn hlast, and_allOnes] at hread
  exact hread

omit hn hkeep in
/-- An answer of status OK or REJECTED is kept for a repeat of its request (R67). -/
theorem State.last_mbAnswer (hstatus : status = 0 ∨ status = 2) : ((s.mbAnswer n r status detail value data).mb n).last =
    some (r.opcode, r.seq, r.crc, r.epoch, mbPayload status detail value data) := by
  unfold State.mbAnswer
  rw [if_neg (by omega), State.mb_setMb_same]

end

/-! ### Serving -/

section
variable {s : State} {n op : Nat} {r : MbReq} {k : MbReq → State → Answer}

theorem serving_iff : serving n op r s = true ↔ s.up = true ∧ (s.mb n).taken = some r ∧ (s.mb n).discard = false ∧ s.mbReady n op = true ∧
    s.mbBusyUs n r = 0 := by
  simp [serving, and_assoc]

theorem State.mbReady_iff (htaken : (s.mb n).taken = some r) : s.mbReady n op = true ↔ s.mbState n = mbTaken ∧ r.opcode = op ∧ (s.mb n).waiting = false ∧
    s.mpRuns = true ∧ s.mbBehind n op = false := by
  unfold State.mbReady
  rw [htaken]
  simp [and_assoc]

/-- The MP serves a request with the answer OK (R62, R508). -/
theorem mbRow_ok {data : Bytes} (h : serving n op r s = true) (hk : k r s = .ok data s) :
    s.mbRow n op k = .next (s.mbAnswer n r 0 0 0 data).deliver := by
  obtain ⟨hup, htaken, -, hready, hfree⟩ := serving_iff.1 h
  obtain ⟨hstate, hop, hwaiting, hruns, -⟩ := (State.mbReady_iff htaken).1 hready
  rw [State.mbRow, finishIf_next hready hup, State.mbServe, htaken]
  dsimp only
  rw [if_pos ⟨hstate, hop, hwaiting, hruns⟩, hk]
  dsimp only
  rw [if_neg (by omega)]

/-- The MP rejects a request that fails a check of its opcode. -/
theorem mbRow_reject {reason : Nat} (h : serving n op r s = true) (hk : k r s = .reject reason) :
    s.mbRow n op k = .next (s.mbReject n r reason).deliver := by
  obtain ⟨hup, htaken, -, hready, -⟩ := serving_iff.1 h
  obtain ⟨hstate, hop, hwaiting, hruns, -⟩ := (State.mbReady_iff htaken).1 hready
  rw [State.mbRow, finishIf_next hready hup, State.mbServe, htaken]
  dsimp only
  rw [if_pos ⟨hstate, hop, hwaiting, hruns⟩, hk]

end

end Sys2Proof.Machine
end

section
/-! PROOFS. Statements O5 and O58: SYS_ECHO and SYS_GET_INFO. -/

namespace Sys2Proof

open Sys2Proof.Machine

theorem MB_INT_STAT_ne_pba (k : Fin 2) : MB_INT_STAT ≠ SYS_PBA k := by
  rw [MB_INT_STAT, SYS_PBA]
  omega

/-- What an answer leaves is what the mailbox shows once interrupts are delivered. -/
theorem mbAnswer_delivered {s : State} (n : Fin 4) (r : MbReq) (status detail value : Nat) (data : Bytes) (hkeep : (s.mb n).discard = false)
    (hstatus : status = 0 ∨ status = 2) :
    (s.mbAnswer n r status detail value data).deliver.mbState n = mbDone ∧
      (s.mbAnswer n r status detail value data).deliver.bit MB_INT_STAT n = true ∧
      ((s.mbAnswer n r status detail value data).deliver.mb n).last =
        some (r.opcode, r.seq, r.crc, r.epoch, mbPayload status detail value data) := by
  refine ⟨?_, ?_, ?_⟩
  · rw [State.mbState_deliver, State.mbState_mbAnswer r status detail value data n.isLt hkeep]
  · rw [State.bit_deliver _ (MB_INT_STAT_ne_pba 0) (MB_INT_STAT_ne_pba 1), State.bit_mbAnswer r status detail value data n.isLt hkeep]
  · rw [State.mb_congr (State.deliver_mbox _), State.last_mbAnswer r status detail value data hstatus]

theorem mbAnswer_onlyParts (s : State) (n : Nat) (r : MbReq) (status detail value : Nat) (data : Bytes) :
    onlyParts [.regs, .mbox, .mp, .host, .sent] s (s.mbAnswer n r status detail value data).deliver :=
  onlyParts.deliver ((State.mbAnswer_keeps _ _ _ _ _ _ _ (by decide)).2 onlyParts.refl) (by decide)

theorem exec_sysEcho {n : Fin 4} {r : MbReq} {s : State} (h : serving n 0x0101 r s = true) (hfits : r.payload.length ≤ 4072) :
    exec (.sysEcho n) s = .next (s.mbAnswer n r 0 0 0 r.payload).deliver := by
  show s.mbRow n 0x0101 _ = _
  exact mbRow_ok h (if_neg (Nat.not_lt.2 hfits))

theorem exec_sysEcho_long {n : Fin 4} {r : MbReq} {s : State} (h : serving n 0x0101 r s = true) (hlong : 4072 < r.payload.length) :
    exec (.sysEcho n) s = .next (s.mbReject n r badLength).deliver := by
  show s.mbRow n 0x0101 _ = _
  exact mbRow_reject h (if_pos hlong)

theorem sysEcho_answers (n : Fin 4) (r : MbReq) (s : State) (h : serving n 0x0101 r s) (hfits : r.payload.length ≤ 4072) :
    ∃ t, goesTo (.sysEcho n) s t ∧ answered n r r.payload t ∧
      (∀ k < (mbWords r.opcode r.seq (1 + r.flags / 2 % 4 * 2) (s.get MB_EPOCH_epoch) (mbPayload 0 0 0 r.payload)).length, t.rd (MB_RESP n k) =
        (mbWords r.opcode r.seq (1 + r.flags / 2 % 4 * 2) (s.get MB_EPOCH_epoch) (mbPayload 0 0 0 r.payload)).getD k 0) ∧
      onlyParts [.regs, .mbox, .mp, .host, .sent] s t := by
  obtain ⟨-, -, hkeep, -, -⟩ := serving_iff.1 h
  refine ⟨_, exec_sysEcho h hfits, mbAnswer_delivered n r 0 0 0 r.payload hkeep (.inl rfl), fun k hk => ?_, mbAnswer_onlyParts _ _ _ _ _ _ _⟩
  have hpba : ∀ j : Fin 2, MB_RESP n k ≠ SYS_PBA j := fun j => by rw [MB_RESP, SYS_PBA]; omega
  rw [State.rd_deliver _ _ (hpba 0) (hpba 1)]
  exact State.rd_mbAnswer_MB_RESP r 0 0 0 r.payload n.isLt hkeep hk hfits

theorem sysGetInfo_answers (n : Fin 4) (r : MbReq) (s : State) (h : serving n 0x0100 r s) (hempty : r.payload = []) :
    ∃ t, goesTo (.sysGetInfo n) s t ∧ answered n r (leBytes 2 s.partCode ++
      leBytes 2 (s.get SYS_DEV_ID_module_rev * 2 ^ 12 + s.get SYS_DEV_ID_silicon_rev * 2 ^ 8) ++ beBytes 4 (s.get FU_VER_RUN_release) ++
      bytes [s.fu.otp, s.fu.running, s.get FU_STAT_trial, 0] ++ leBytes 6 s.unit.serial ++ zeros 2 ++
      leBytes 4 ((s.clk - s.mp.startClk) / 1250000000)) t ∧ onlyParts [.regs, .mbox, .mp, .host, .sent] s t := by
  obtain ⟨-, -, hkeep, -, -⟩ := serving_iff.1 h
  have hexec : exec (.sysGetInfo n) s = _ := mbRow_ok h (if_neg (by rw [hempty]; simp))
  exact ⟨_, hexec, mbAnswer_delivered n r 0 0 0 _ hkeep (.inl rfl), mbAnswer_onlyParts _ _ _ _ _ _ _⟩

/-- Settles O5: both requests are answered OK, and the response stands in its buffer word by word. -/
theorem echoAndInfo : Obligations.EchoAndInfo := by
  unfold Obligations.EchoAndInfo
  exact ⟨sysEcho_answers, sysGetInfo_answers⟩

theorem sysEcho_returns (n : Fin 4) (r : MbReq) (s : State) (h : serving n 0x0101 r s) (hfits : r.payload.length ≤ 4072) :
    ∃ t, goesTo (.sysEcho n) s t ∧ t.mbState n = mbDone ∧
      (t.mb n).last.map (·.2.2.2.2) = some (leBytes 2 0 ++ leBytes 2 0 ++ leBytes 4 0 ++ r.payload) ∧
      onlyParts [.regs, .mbox, .mp, .host, .sent] s t := by
  obtain ⟨-, -, hkeep, -, -⟩ := serving_iff.1 h
  obtain ⟨hstate, -, hlast⟩ := mbAnswer_delivered n r 0 0 0 r.payload hkeep (.inl rfl)
  exact ⟨_, exec_sysEcho h hfits, hstate, by rw [hlast]; rfl, mbAnswer_onlyParts _ _ _ _ _ _ _⟩

theorem sysEcho_rejects (n : Fin 4) (r : MbReq) (s : State) (h : serving n 0x0101 r s) (hlong : 4072 < r.payload.length) :
    ∃ t, goesTo (.sysEcho n) s t ∧ rejected n r badLength t ∧ onlyParts [.regs, .mbox, .mp, .host, .sent] s t := by
  obtain ⟨-, -, hkeep, -, -⟩ := serving_iff.1 h
  exact ⟨_, exec_sysEcho_long h hlong, mbAnswer_delivered n r 2 badLength 0 [] hkeep (.inr rfl), mbAnswer_onlyParts _ _ _ _ _ _ _⟩

/-- Settles O58: a payload that fits is the answer, and one that does not is rejected. -/
theorem echoReturnsItsPayload : Obligations.EchoReturnsItsPayload := by
  unfold Obligations.EchoReturnsItsPayload
  exact ⟨sysEcho_returns, sysEcho_rejects⟩

end Sys2Proof
end

section
/-! PROOFS. Changes confined to a range of addresses: the start of the timing channels (R327, R337) and the outputs that follow them (R357). -/

namespace Sys2Proof.Machine

/-! ### The relation -/

/-- Below `lo` and from `hi` on, both states hold the same words. -/
def onlyBetween (lo hi : Nat) (s t : State) : Prop := ∀ a, a < lo ∨ hi ≤ a → t.rd a = s.rd a

section
variable {lo hi : Nat} {s t u : State}

theorem onlyBetween.refl : onlyBetween lo hi s s := fun _ _ => rfl

theorem onlyBetween.trans (h : onlyBetween lo hi s t) (k : onlyBetween lo hi t u) : onlyBetween lo hi s u := fun a ha => (k a ha).trans (h a ha)

theorem onlyBetween.wr {a : Nat} (h : onlyBetween lo hi s t) (w : Word) (ha : lo ≤ a ∧ a < hi) : onlyBetween lo hi s (t.wr a w) := fun b hb =>
  (State.rd_wr_ne t w (by omega)).trans (h b hb)

theorem onlyBetween.set {f : FRef} (h : onlyBetween lo hi s t) (v : Nat) (hf : lo ≤ f.addr ∧ f.addr < hi) : onlyBetween lo hi s (t.set f v) := h.wr _ hf

theorem onlyBetween.setChan (h : onlyBetween lo hi s t) (c : Nat) (k : Chan) : onlyBetween lo hi s (t.setChan c k) := h

theorem onlyBetween.ite {c : Prop} [Decidable c] (h : onlyBetween lo hi s t) (k : onlyBetween lo hi s u) :
    onlyBetween lo hi s (if c then t else u) := by
  split
  · exact h
  · exact k

theorem onlyBetween.foldl {β : Type} {f : State → β → State} {l : List β} (h : onlyBetween lo hi s t)
    (hf : ∀ v, ∀ x ∈ l, onlyBetween lo hi v (f v x)) : onlyBetween lo hi s (l.foldl f t) :=
  List.foldlRecOn (motive := fun v => onlyBetween lo hi s v) l f h fun v hv x hx => hv.trans (hf v x hx)

theorem onlyBetween.on {f : FRef} (h : onlyBetween lo hi s t) (hf : f.addr < lo ∨ hi ≤ f.addr) : t.on f = s.on f := by
  rw [State.on, State.get, h _ hf, State.on, State.get]

end

/-! ### Channels and outputs -/

/-- The registers of the time base, the links, the channels and the outputs alone may differ. -/
abbrev onlyTiming (s t : State) : Prop := onlyBetween 0x700000 0x7E0000 s t

theorem ouCause_onlyTiming {s t : State} (h : onlyTiming s t) (o : Nat) {f : FRef} (hf : f.addr = OU_INT_STAT) : onlyTiming s (t.ouCause o f) :=
  onlyBetween.set (h.set 1 (by rw [hf]; decide)) 1 (show _ ≤ OU_EVT ∧ OU_EVT < _ by decide)

theorem ouRefresh_onlyTiming {o : Nat} (s : State) (ho : o < 18) : onlyTiming s (s.ouRefresh o) := by
  have hstat : 0x700000 ≤ OU_STAT o ∧ OU_STAT o < 0x7E0000 := by rw [OU_STAT]; omega
  unfold State.ouRefresh
  extract_lets t1 was now t2 t3
  have h1 : onlyTiming s t1 := onlyBetween.refl
  have h3 : onlyTiming s t3 := ((h1.set _ hstat).set _ hstat).set _ hstat
  exact (ouCause_onlyTiming h3 o rfl).ite ((ouCause_onlyTiming h3 o rfl).ite h3)

theorem ouRefreshAll_onlyTiming (s : State) : onlyTiming s s.ouRefreshAll :=
  onlyBetween.foldl .refl fun v _ ho => ouRefresh_onlyTiming v (List.mem_range.1 (List.mem_filter.1 ho).1)

theorem tbStatTc_onlyTiming (s : State) : onlyTiming s s.tbStatTc :=
  (onlyBetween.refl.set _ (show _ ≤ TB_STAT ∧ TB_STAT < _ by decide)).set _ (show _ ≤ TB_STAT ∧ TB_STAT < _ by decide)

section
variable {c : Nat} (s : State) (hc : c < 6)
include hc

theorem tcEnter_onlyTiming (st : Nat) : onlyTiming s (s.tcEnter c st) := by
  have hstat : 0x700000 ≤ TC_STAT c ∧ TC_STAT c < 0x7E0000 := by rw [TC_STAT]; omega
  have hcause : 0x700000 ≤ TC_INT_STAT c ∧ TC_INT_STAT c < 0x7E0000 := by rw [TC_INT_STAT]; omega
  unfold State.tcEnter
  extract_lets t1 src k1 k2 k3 t2 src' t3
  have h2 : onlyTiming s t2 := ((onlyBetween.refl.set _ hstat).set 1 hcause).setChan _ _
  have h3 : onlyTiming s t3 := (h2.setChan _ _).ite h2
  have hstale : onlyTiming s (t3.setB (TC_STAT_stale c) (t3.tcStale c)) := h3.set _ hstat
  exact onlyBetween.refl.ite ((hstale.trans (ouRefreshAll_onlyTiming _)).trans (tbStatTc_onlyTiming _))

theorem histStat_onlyTiming : onlyTiming s (s.histStat c) := by
  have hstat : 0x700000 ≤ TC_STAT c ∧ TC_STAT c < 0x7E0000 := by rw [TC_STAT]; omega
  have hhold : 0x700000 ≤ TC_HO_STAT c ∧ TC_HO_STAT c < 0x7E0000 := by rw [TC_HO_STAT]; omega
  exact ((onlyBetween.refl.set _ hstat).set _ hstat).set _ hhold

theorem tcRelease_onlyTiming : onlyTiming s (s.tcRelease c) := by
  have hstat : 0x700000 ≤ TC_STAT c ∧ TC_STAT c < 0x7E0000 := by rw [TC_STAT]; omega
  exact (((onlyBetween.refl.setChan _ _).set _ hstat).set _ hstat).set _ hstat

theorem holdOrLost_onlyTiming : onlyTiming s (s.holdOrLost c) := by
  have hhold : 0x700000 ≤ TC_HO_STAT c ∧ TC_HO_STAT c < 0x7E0000 := by rw [TC_HO_STAT]; omega
  unfold State.holdOrLost
  extract_lets k t1 t2 m src t3
  have h1 : onlyTiming s t1 := onlyBetween.refl.ite (onlyBetween.refl.setChan _ _)
  have h2 : onlyTiming s t2 := (h1.trans (histStat_onlyTiming _ hc)).trans (tcRelease_onlyTiming _ hc)
  have h3 : onlyTiming s (t3.set (TC_HO_STAT_elapsed_s c) 0) := (h2.setChan _ _).set 0 hhold
  exact (h3.trans (tcEnter_onlyTiming _ hc 3)).ite (h2.trans (tcEnter_onlyTiming _ hc 4))

theorem chanStart_onlyTiming : onlyTiming s (s.chanStart c) := by
  have hword : 0x700000 ≤ TC_DCO_WORD c ∧ TC_DCO_WORD c < 0x7E0000 := by rw [TC_DCO_WORD]; omega
  unfold State.chanStart
  extract_lets r src t
  have h : onlyTiming s (t.wr (TC_DCO_WORD c) r.word) := (onlyBetween.refl.setChan _ _).wr _ hword
  exact (h.trans (holdOrLost_onlyTiming _ hc)).ite .refl

end

theorem State.chans_le (s : State) : s.chans ≤ 6 := by
  unfold State.chans
  split <;> decide

end Sys2Proof.Machine
end

section
/-! PROOFS. A module reset, its end and a power-up: the state that each one leaves (R46, R489, R490). -/

namespace Sys2Proof.Machine

/-! ### General -/

/-- A supply, reset or tick whose condition holds ends with the delivery of interrupts. -/
theorem finishAny_next {c : Bool} {s t : State} (hc : c = true) : finishAny c s t = .next t.deliver := if_pos hc

theorem onlyRegs.setB {l : List Nat} {s t : State} {f : FRef} {b : Bool} (g : onlyRegs l s t) (h : f.addr ∈ l) : onlyRegs l s (t.setB f b) := onlyRegs.set g h

theorem onlyRegs.foldl {β : Type} {l : List Nat} {s t : State} {f : State → β → State} {xs : List β} (g : onlyRegs l s t)
    (hf : ∀ v, ∀ x ∈ xs, onlyRegs l s v → onlyRegs l s (f v x)) : onlyRegs l s (xs.foldl f t) :=
  List.foldlRecOn (motive := fun v => onlyRegs l s v) xs f g fun v hv x hx => hf v x hx hv

theorem onlyRegs.atReset {l : List Nat} {s t : State} (h : atReset l s) (g : onlyRegs l s t) : atReset l t := fun a ha => (g a ha).trans (h a ha)

/-- With no source enabled and no message pending a delivery has nothing to do. -/
theorem deliver_of_quiet {s : State} (hlo : s.rd SYS_SRC_EN_LO = 0) (hhi : s.rd SYS_SRC_EN_HI = 0) (h0 : s.rd (SYS_PBA 0) = 0)
    (h1 : s.rd (SYS_PBA 1) = 0) : s.deliver = s := if_pos ⟨hlo, hhi, h0, h1⟩

/-! ### The state that a module reset leaves -/

theorem fuSlots_onlyRegs {l : List Nat} {s t : State} (g : onlyRegs l s t) (hotp : FU_OTP ∈ l) (hsvn : FU_SVN_SLOTS ∈ l) : onlyRegs l s t.fuSlots :=
  onlyRegs.setB (onlyRegs.set (onlyRegs.setB (onlyRegs.set (onlyRegs.setB (onlyRegs.set g hotp) hotp) hsvn) hsvn) hsvn) hsvn

/-- The state in which a module reset then writes the registers that it keeps. -/
def State.resetBase (s : State) : State :=
  { State.reset with
    pending := s.pending, variant := s.variant, free := s.free, sent := s.sent, retain := s.retain, unit := s.unit
    fu := s.fu.kept, hl := s.hl.kept
    tdc := { State.reset.tdc with sets := s.tdc.sets.filter fun e => decide (e.1 % 8 < 5) }
    power := { s.power with inReset := true, pcieReset := true, pwrOk := false, rootDone := false }
    host := { State.reset.host with linkGen := 0, linkWidth := 0 } }

/-- Beside the registers that it keeps, a module reset leaves what `resetBase` gives. -/
theorem moduleReset_base (s : State) : onlyRegs keptOverReset s.resetBase s.moduleReset ∧ onlyParts [.regs] s.resetBase s.moduleReset := by
  unfold State.moduleReset
  extract_lets power host src tdc r0 r1 r2 r3
  have h0 : onlyRegs keptOverReset s.resetBase r0 ∧ onlyParts [.regs] s.resetBase r0 := ⟨onlyRegs.refl, onlyParts.refl⟩
  have h1 : onlyRegs keptOverReset s.resetBase r1 ∧ onlyParts [.regs] s.resetBase r1 :=
    List.foldlRecOn (motive := fun v => onlyRegs keptOverReset s.resetBase v ∧ onlyParts [.regs] s.resetBase v) _ _ h0 fun v g a ha =>
      ⟨onlyRegs.wr g.1 ((show ∀ b ∈ keptRegs, b ∈ keptOverReset by decide) a ha), (State.wr_keeps _ _ _ (by decide)).2 g.2⟩
  clear_value r1
  have h2 : onlyRegs keptOverReset s.resetBase r2 :=
    onlyRegs.setB (onlyRegs.setB h1.1 (show SYS_ROOT_STAT ∈ keptOverReset by decide)) (show HL_STAT ∈ keptOverReset by decide)
  have h3 : onlyRegs keptOverReset s.resetBase r3 := onlyRegs.set h2 (show SC_BUF_STAT ∈ keptOverReset by decide)
  refine ⟨onlyRegs.set (fuSlots_onlyRegs h3 (by decide) (by decide)) (show FU_VER_RUN ∈ keptOverReset by decide), ?_⟩
  simp (disch := decide) only [r3, r2, State.set_keeps, State.setB_keeps, State.fuSlots_keeps, h1.2]

theorem moduleReset_atReset (s : State) : atReset keptOverReset s.moduleReset :=
  onlyRegs.atReset (s := s.resetBase) atReset_reset (moduleReset_base s).1

/-- No interrupt is due after a module reset. -/
theorem moduleReset_deliver (s : State) : s.moduleReset.deliver = s.moduleReset :=
  have hzero : ∀ a ∉ keptOverReset, resetWord a = 0 → s.moduleReset.rd a = 0 := fun a ha hz => (moduleReset_atReset s a ha).trans hz
  deliver_of_quiet (hzero _ (by decide) (by decide +kernel)) (hzero _ (by decide) (by decide +kernel)) (hzero _ (by decide) (by decide +kernel))
    (hzero _ (by decide) (by decide +kernel))

theorem moduleReset_suspect (s : State) : s.moduleReset.on TB_STAT_suspect = true := by
  rw [State.on, State.get, moduleReset_atReset s _ (by decide)]
  decide +kernel

section
variable (s : State)

theorem moduleReset_power : s.moduleReset.power = { s.power with inReset := true, pcieReset := true, pwrOk := false, rootDone := false } :=
  (moduleReset_base s).2 .power (by decide)
theorem moduleReset_host : s.moduleReset.host = { State.reset.host with linkGen := 0, linkWidth := 0 } := (moduleReset_base s).2 .host (by decide)
theorem moduleReset_tb : s.moduleReset.tb = ⟨0, 0, 0⟩ := (moduleReset_base s).2 .tb (by decide)
theorem moduleReset_mbox : s.moduleReset.mbox = [] := (moduleReset_base s).2 .mbox (by decide)
theorem moduleReset_retain : s.moduleReset.retain = s.retain := (moduleReset_base s).2 .retain (by decide)
theorem moduleReset_pending : s.moduleReset.pending = s.pending := (moduleReset_base s).2 .pending (by decide)

end

/-- The state `t` is one that a module reset of `s` leaves: the registers at their reset values, TB at zero and suspect, the mailboxes empty,
every vector armed and the guards disarmed (R46). -/
def resetOf (s t : State) : Prop :=
  t.power.inReset = true ∧ t.power.pwrOk = false ∧ t.power.pcieReset = true ∧ atReset keptOverReset t ∧ t.tb = ⟨0, 0, 0⟩ ∧
    t.on TB_STAT_suspect = true ∧ t.mbox = [] ∧ t.host = { State.reset.host with linkGen := 0, linkWidth := 0 } ∧ t.retain = s.retain ∧
    t.pending = s.pending

theorem moduleReset_resets (s : State) : resetOf s s.moduleReset := by
  unfold resetOf
  rw [moduleReset_power]
  exact ⟨rfl, rfl, rfl, moduleReset_atReset s, moduleReset_tb s, moduleReset_suspect s, moduleReset_mbox s, moduleReset_host s,
    moduleReset_retain s, moduleReset_pending s⟩

/-! ### A write of SYS_RESET.module -/

theorem State.writeSys_RESET_module {s : State} {m : Master} {p : Place} {v : Word} (h : p.r.base = SYS_RESET) (hmodule : bitOf v.toNat 0 = true) :
    s.writeSys m p true v = s.moduleReset := by
  rw [State.writeSys, h, if_neg (by decide), if_pos rfl, if_neg (by simp), if_pos hmodule]

/-! ### The end of module reset -/

theorem hardRepairs_onlyRegs (s : State) : onlyRegs [HL_SPARE 7] s s.hardRepairs := by
  refine onlyRegs.foldl onlyRegs.refl fun v e _ g => ?_
  split
  · exact g
  · have hburn : onlyRegs [HL_SPARE 7] s (v.set (HL_SPARE_used 7) (v.get (HL_SPARE_used 7) + 1)) := onlyRegs.set g List.mem_cons_self
    exact hburn

/-- A bit reads what was written to it. -/
theorem on_setB_same (s : State) {f : FRef} (b : Bool) (hf : f.ok = true) (hbit : f.hi = f.lo) : (s.setB f b).on f = b := by
  rw [State.on, State.setB, State.get_set_same s _ hf, hbit, Nat.add_sub_cancel_left]
  cases b <;> rfl

theorem rootStart_on (s : State) (xin : Option Nat) :
    (s.rootStart xin).on SYS_ROOT_STAT_src_active = (s.on SYS_ROOT_CTRL_src_sel && xinValid xin) ∧
      (s.rootStart xin).on SYS_ROOT_STAT_xin_absent = (s.on SYS_ROOT_CTRL_src_sel && !xinValid xin) := by
  have hother : ∀ (t : State) (b : Bool), (t.setB SYS_ROOT_STAT_xin_absent b).on SYS_ROOT_STAT_src_active = t.on SYS_ROOT_STAT_src_active :=
    fun t b => congrArg (fun n => decide (n = 1)) (State.get_set_bits t _ rfl (by decide) (by decide))
  exact ⟨(hother _ _).trans (on_setB_same s _ (by decide) rfl), on_setB_same _ _ (by decide) rfl⟩

/-- The module as the end of its reset finds it before the channels start. -/
def State.resetEnded (s : State) (seatB : Bool) (xin : Option Nat) : State :=
  let s := (s.hardRepairs.rootStart xin).setB TW_STAT_seat seatB
  { s with power := { s.power with inReset := false, pwrOk := true, seatB := seatB }, tw := { s.tw with frameAt := s.clk } }

/-- The start of the channels touches the timing registers alone. -/
theorem chansStart_onlyTiming (s : State) : onlyTiming s ((List.range s.chans).foldl State.chanStart s) :=
  onlyBetween.refl.foldl fun v _ hc => chanStart_onlyTiming v ((List.mem_range.1 hc).trans_le s.chans_le)

theorem chansStart_parts (s : State) (l : List Nat) : onlyParts [.regs, .chan, .ou] s (l.foldl State.chanStart s) :=
  List.foldlRecOn (motive := fun v => onlyParts [.regs, .chan, .ou] s v) l _ onlyParts.refl fun v hv c _ => (State.chanStart_keeps v c (by decide)).2 hv

end Sys2Proof.Machine
end

section
/-! PROOFS. Statement O7: a module reset and its end. -/

namespace Sys2Proof

open Sys2Proof.Machine

theorem mrstAssert_resets (ns : Nat) (s : State) (hvin : s.power.vin = true) (hlong : 1000 ≤ ns) :
    ∃ t, goesTo (.mrstAssert ns) s t ∧ resetOf s t := by
  refine ⟨s.moduleReset, ?_, moduleReset_resets s⟩
  show finishAny (s.power.vin && decide (500 ≤ ns)) s (if 1000 ≤ ns then s.moduleReset else _) = _
  rw [if_pos hlong, finishAny_next (by rw [hvin, decide_eq_true (by omega)]; rfl), moduleReset_deliver]

theorem mrstAssert_short (ns : Nat) (s : State) (hshort : ns < 500) : ∃ t, goesTo (.mrstAssert ns) s t ∧ t = s := by
  refine ⟨s, ?_, rfl⟩
  show finishAny (s.power.vin && decide (500 ≤ ns)) s _ = _
  rw [decide_eq_false (by omega), Bool.and_false]
  rfl

theorem sysResetModule_resets (m : Master) (s : State) (hr : reaches m s) (hopen : guardOpen m s = true) :
    ∃ t, goesTo (.sysResetModule m) s t ∧ resetOf s t := by
  obtain ⟨p, ha, hbase, hw⟩ := State.write_lone_guarded (a := SYS_RESET) 1 hr (by decide) (by decide)
  have hwrite : (s.spendGuard m).writeAt m p true 1 = (s.spendGuard m).moduleReset := by
    rw [State.writeAt, if_pos (by rw [ha]; decide), State.writeSys_RESET_module hbase (by decide)]
  rw [hopen, if_pos rfl, hwrite, moduleReset_deliver] at hw
  have hkept : (s.spendGuard m).retain = s.retain ∧ (s.spendGuard m).pending = s.pending :=
    ⟨s.spendGuard_parts m .retain (by decide), s.spendGuard_parts m .pending (by decide)⟩
  have hreset : resetOf (s.spendGuard m) (s.spendGuard m).moduleReset := moduleReset_resets _
  unfold resetOf at hreset
  rw [hkept.1, hkept.2] at hreset
  exact ⟨_, hw, hreset⟩

theorem activateReset_resets (s : State) (hup : s.up) (hdue : s.fu.resetDue = true) : ∃ t, goesTo (.activateReset) s t ∧ resetOf s t := by
  refine ⟨s.moduleReset, ?_, moduleReset_resets s⟩
  show finishIf s.fu.resetDue s s.moduleReset = _
  rw [finishIf_next hdue hup, moduleReset_deliver]

/-- What the end of module reset gives before the channels start stands when they have started. -/
theorem resetEnded_result (seatB : Bool) (xin : Option Nat) (s : State) :
    (s.resetEnded seatB xin).power = { s.power with inReset := false, pwrOk := true, seatB := seatB } ∧
      (s.resetEnded seatB xin).on SYS_ROOT_STAT_src_active = (s.on SYS_ROOT_CTRL_src_sel && xinValid xin) ∧
      (s.resetEnded seatB xin).on SYS_ROOT_STAT_xin_absent = (s.on SYS_ROOT_CTRL_src_sel && !xinValid xin) ∧
      (s.resetEnded seatB xin).on TW_STAT_seat = seatB := by
  have hpower : ((s.hardRepairs.rootStart xin).setB TW_STAT_seat seatB).power = s.power :=
    ((State.setB_keeps _ _ _ (by decide)).2 ((State.rootStart_keeps _ _ (by decide)).2 (State.hardRepairs_parts s))) .power (by decide)
  have hctrl : s.hardRepairs.on SYS_ROOT_CTRL_src_sel = s.on SYS_ROOT_CTRL_src_sel := by
    rw [State.on, State.get, hardRepairs_onlyRegs s _ (by decide), State.on, State.get]
  have hstat : ∀ f : FRef, f.addr = SYS_ROOT_STAT → (s.resetEnded seatB xin).on f = (s.hardRepairs.rootStart xin).on f := fun f hf =>
    congrArg (fun n => decide (n = 1)) (State.get_set_addr (s.hardRepairs.rootStart xin) _ (by rw [hf]; decide))
  obtain ⟨hactive, habsent⟩ := rootStart_on s.hardRepairs xin
  refine ⟨?_, ?_, ?_, on_setB_same (s.hardRepairs.rootStart xin) _ (by decide) rfl⟩
  · exact congrArg (fun p : Power => { p with inReset := false, pwrOk := true, seatB := seatB }) hpower
  · rw [hstat _ rfl, hactive, hctrl]
  · rw [hstat _ rfl, habsent, hctrl]

theorem moduleResetEnd_runs (seatB : Bool) (xin : Option Nat) (s : State) (hvin : s.power.vin = true) (hreset : s.power.inReset = true) :
    ∃ t, goesTo (.moduleResetEnd seatB xin) s t ∧ t.power = { s.power with inReset := false, pwrOk := true, seatB := seatB } ∧
      t.on SYS_ROOT_STAT_src_active = (s.on SYS_ROOT_CTRL_src_sel && xinValid xin) ∧
      t.on SYS_ROOT_STAT_xin_absent = (s.on SYS_ROOT_CTRL_src_sel && !xinValid xin) ∧ t.on TW_STAT_seat = seatB := by
  let u : State := s.resetEnded seatB xin
  have hexec : exec (.moduleResetEnd seatB xin) s = .next ((List.range u.chans).foldl State.chanStart u).deliver := by
    show finishAny (s.power.vin && s.power.inReset) s _ = _
    exact finishAny_next (by rw [hvin, hreset]; rfl)
  obtain ⟨hpower, hactive, habsent, hseat⟩ := resetEnded_result seatB xin s
  have hregs : onlyTiming u ((List.range u.chans).foldl State.chanStart u) := chansStart_onlyTiming u
  refine ⟨_, hexec, ?_, ?_, ?_, ?_⟩
  · rw [State.deliver_power, chansStart_parts u _ .power (by decide), hpower]
  · rw [State.on_deliver _ (by decide) (by decide), hregs.on (.inl (by decide)), hactive]
  · rw [State.on_deliver _ (by decide) (by decide), hregs.on (.inl (by decide)), habsent]
  · rw [State.on_deliver _ (by decide) (by decide), hregs.on (.inr (by decide)), hseat]

/-- Settles O7: every reset begins with `moduleReset`, which leaves `resetOf`, and the end of a reset writes the supplies and the seat before it
starts the channels, which touch the timing registers alone. -/
theorem moduleReset : Obligations.ModuleReset :=
  ⟨mrstAssert_resets, sysResetModule_resets, activateReset_resets, fun ns s _ hshort => mrstAssert_short ns s hshort, moduleResetEnd_runs⟩

end Sys2Proof
end

section
/-! PROOFS. Statement O8: the supplies start, stop and hold the module and its time base. -/

namespace Sys2Proof

open Sys2Proof.Machine

/-- What a power-up of `s` makes of the state `u` that its module reset leaves (R46, R489). -/
def powerUpFrom (s u : State) : State :=
  let u := { u with power := { u.power with vin := true, tripped := false, v3p3 := true, keep := true, ovenWatched := false } }
  let u := u.set SYS_ROOT_STAT_locked 1
  if s.power.keep then
    { [TB_STAT, TB_INCR_LO, TB_INCR_HI].foldl (fun r a => r.wr a (s.rd a)) u with tb := s.tb }
  else u.wr SYS_ROOT_CTRL 0

theorem powerUp_eq (s : State) : s.powerUp = powerUpFrom s s.moduleReset := rfl

theorem powerUpFrom_result (s u : State) :
    (powerUpFrom s u).power = { u.power with vin := true, tripped := false, v3p3 := true, keep := true, ovenWatched := false } ∧
      (powerUpFrom s u).tb = (if s.power.keep then s.tb else u.tb) ∧ (powerUpFrom s u).retain = u.retain := by
  unfold powerUpFrom
  split <;> exact ⟨rfl, rfl, rfl⟩

/-- What a power-up leaves of the supplies, the time base and the retention memory. -/
theorem powerUp_result (s : State) :
    s.powerUp.power = { s.power with
      vin := true, tripped := false, v3p3 := true, keep := true, ovenWatched := false, inReset := true, pcieReset := true, pwrOk := false
      rootDone := false } ∧
      s.powerUp.tb = (if s.power.keep then s.tb else ⟨0, 0, 0⟩) ∧ s.powerUp.retain = s.retain := by
  have hresult := powerUpFrom_result s s.moduleReset
  rw [moduleReset_power, moduleReset_tb, moduleReset_retain, ← powerUp_eq] at hresult
  exact hresult

theorem vinRise_starts (mv : Nat) (s : State) (hstarts : s.vinStarts mv = true) :
    ∃ t, goesTo (.vinRise mv) s t ∧ t.power.vin = true ∧ t.power.v3p3 = true ∧ t.power.inReset = true ∧ t.power.tripped = false ∧
      t.tb = (if s.power.keep then s.tb else ⟨0, 0, 0⟩) ∧ t.retain = s.retain := by
  obtain ⟨hpower, htb, hretain⟩ := powerUp_result s
  refine ⟨s.powerUp.deliver, finishAny_next hstarts, ?_⟩
  rw [State.deliver_power, State.deliver_tb, State.deliver_retain, hpower]
  exact ⟨rfl, rfl, rfl, rfl, htb, hretain⟩

theorem vinReturn_starts (mv : Nat) (s : State) (hstarts : s.vinStarts mv = true) (hkeep : s.power.keep = true) :
    ∃ t, goesTo (.vinReturn mv) s t ∧ t.power.vin = true ∧ t.power.v3p3 = true ∧ t.power.inReset = true ∧ t.tb = s.tb ∧ t.retain = s.retain := by
  obtain ⟨hpower, htb, hretain⟩ := powerUp_result s
  rw [if_pos hkeep] at htb
  refine ⟨s.powerUp.deliver, finishAny_next (by rw [hstarts, hkeep]; rfl), ?_⟩
  rw [State.deliver_power, State.deliver_tb, State.deliver_retain, hpower]
  exact ⟨rfl, rfl, rfl, htb, hretain⟩

/-- A loss of VIN stops the supplies and leaves every register and, beside the host port, every other part. -/
theorem vinGone_changes (s : State) (tripped : Bool) : (s.vinGone tripped).deliver.power =
      { s.power with vin := false, tripped := tripped, v3p3 := false, pwrOk := false, pcieReset := true } ∧
    onlyChanges [] [.power] s (s.vinGone tripped).deliver :=
  ⟨State.deliver_power _, onlyChanges.deliver (fun _ _ => rfl) ((State.vinGone_keeps s tripped (by decide)).2 onlyParts.refl)⟩

theorem vinLoss_stops (mv us : Nat) (s : State) (hvin : s.power.vin = true) (hlow : mv < 5300) (hlong : 2 ≤ us) :
    ∃ t, goesTo (.vinLoss mv us) s t ∧ t.power = { s.power with vin := false, tripped := false, v3p3 := false, pwrOk := false, pcieReset := true } ∧
      onlyChanges [] [.power] s t :=
  ⟨_, finishAny_next (by rw [hvin, decide_eq_true hlow, decide_eq_true hlong]; rfl), vinGone_changes s false⟩

theorem vinOvervoltage_trips (mv us : Nat) (s : State) (hvin : s.power.vin = true) (hhigh : 62500 < mv) (hlong : 2 ≤ us) :
    ∃ t, goesTo (.vinOvervoltage mv us) s t ∧
      t.power = { s.power with vin := false, tripped := true, v3p3 := false, pwrOk := false, pcieReset := true } ∧ onlyChanges [] [.power] s t :=
  ⟨_, finishAny_next (by rw [hvin, decide_eq_true hhigh, decide_eq_true hlong]; rfl), vinGone_changes s true⟩

theorem vkeepLoss_ends (mv us : Nat) (s : State) (hvin : s.power.vin = false) (hkeep : s.power.keep = true) (hlow : mv < 2700) (hlong : 10 ≤ us) :
    ∃ t, goesTo (.vkeepLoss mv us) s t ∧ t.power.keep = false ∧ t.tb = ⟨0, 0, 0⟩ ∧ t.retain = [] ∧ onlyChanges [] [.power, .tb, .retain] s t := by
  let u : State := { s with power := { s.power with keep := false }, retain := [], tb := ⟨0, 0, 0⟩ }
  have hexec : exec (.vkeepLoss mv us) s = .next u.deliver :=
    finishAny_next (by rw [hvin, hkeep, decide_eq_true hlow, decide_eq_true hlong]; rfl)
  refine ⟨_, hexec, ?_, State.deliver_tb u, State.deliver_retain u, onlyChanges.deliver (fun _ _ => rfl) ?_⟩
  · rw [State.deliver_power]
  · intro p hp
    cases p with
    | power | tb | retain => exact absurd (by decide) hp
    | _ => rfl

/-- Settles O8: power-up is a module reset that keeps TB where the VKEEP domain was held; the losses of a supply change the supplies, and the
VKEEP domain where that ends. -/
theorem supplies : Obligations.Supplies := ⟨vinRise_starts, vinReturn_starts, vinLoss_stops, vinOvervoltage_trips, vkeepLoss_ends⟩

end Sys2Proof
end

section
/-! PROOFS. What learning touches: its counters and causes in FT, the counters of PM, and the tables (R157 to R161). The side buffer learns where a
lock of FT ends (R168). -/

namespace Sys2Proof.Machine

/-- From `s` to `t` only the learning side of FT, with its counters, may differ. -/
def learns (s t : State) : Prop := onlyBetween 0x20000 0x201000 s t ∧ onlyParts [.regs, .ft] s t

section
variable {s t u : State}

theorem learns.refl : learns s s := ⟨onlyBetween.refl, onlyParts.refl⟩

theorem learns.trans (h : learns s t) (k : learns t u) : learns s u := ⟨h.1.trans k.1, onlyParts.then h.2 k.2 (by decide)⟩

theorem learns.set {f : FRef} {v : Nat} (h : learns s t) (hf : 0x20000 ≤ f.addr ∧ f.addr < 0x201000 := by decide) : learns s (t.set f v) :=
  ⟨h.1.set v hf, (State.set_keeps _ _ _ (by decide)).2 h.2⟩

theorem learns.raise {f : FRef} (h : learns s t) (hf : 0x20000 ≤ f.addr ∧ f.addr < 0x201000 := by decide) : learns s (t.raise f) := h.set hf

theorem learns.inc {f : FRef} (h : learns s t) (hf : 0x20000 ≤ f.addr ∧ f.addr < 0x201000 := by decide) : learns s (t.inc f) := h.set hf

theorem learns.withFt {ft} (h : learns s t) : learns s { t with ft := ft } := ⟨h.1, (with_ft (by decide)).2 h.2⟩

theorem learns.pm {ev n : Nat} (h : learns s t) : learns s (t.pm 2 ev n) :=
  ⟨fun a ha => (State.rd_pm t ev n (by decide) (by omega)).trans (h.1 a ha), (State.pm_keeps _ _ _ _ (by decide)).2 h.2⟩

theorem learns.ite {c : Prop} [Decidable c] (h : learns s t) (k : learns s u) : learns s (if c then t else u) := by
  split
  · exact h
  · exact k

theorem learns.setEnt {loc : Nat} {e : Ent} (h : learns s t) : learns s (t.setEnt 0 loc e) := h.withFt.set.ite (h.withFt.set.ite h.withFt)

theorem learns.delta {fid mac : Nat} {e : Ent} (h : learns s t) : learns s (t.delta fid mac e) := h.withFt.raise.ite h.withFt

theorem learns.moves {l : List Nat} (h : learns s t) : learns s (t.moves l) := by
  fun_induction State.moves t l with
  | case1 t d o rest ih => exact ih h.setEnt.setEnt.withFt.pm
  | case2 t l _ => exact h

theorem learns.macInsert {e : Ent} (h : learns s t) : learns s (t.macInsert e).2 := by
  unfold State.macInsert
  extract_lets _ _
  split
  · exact h.setEnt
  · split
    · exact h.setEnt
    · split
      · exact h.withFt.moves.setEnt
      · exact h.pm

theorem learns.of_macInsert {e : Ent} {loc : Option Nat} (h : learns s t) (hinsert : t.macInsert e = (loc, u)) : learns s u := by
  have hsecond : learns s (t.macInsert e).2 := h.macInsert
  rwa [hinsert] at hsecond

theorem learns.station {loc ident : Nat} (h : learns s t) : learns s (t.station loc ident) := h.setEnt.inc.delta

theorem learns.doLearn {v : LearnEv} (h : learns s t) : learns s (t.doLearn v) := by
  unfold State.doLearn
  extract_lets _
  split
  · exact h
  · split
    · split
      next hinsert => exact (h.of_macInsert hinsert).inc.delta
      next hinsert => exact (h.of_macInsert hinsert).inc.raise.withFt
    · exact (h.ite h.inc).ite (h.ite (h.station.ite ((h.station.ite h.setEnt).ite h.setEnt.inc)))

theorem learns.doRefresh {v : LearnEv} (h : learns s t) : learns s (t.doRefresh v) := by
  unfold State.doRefresh
  split
  · exact h
  · exact h.setEnt.ite h

theorem learns.doDestRefresh {v : LearnEv} (h : learns s t) : learns s (t.doDestRefresh v) := by
  unfold State.doDestRefresh
  split
  · exact h
  · exact h.setEnt

theorem learns.doEvent {v : LearnEv} (h : learns s t) : learns s (t.doEvent v) :=
  (h.inc.raise.ite h.withFt).ite (h.doLearn.ite (h.doRefresh.ite h.doDestRefresh))

end

/-- What the end of a lock lets the side buffer do is learning. -/
theorem runSide_learns (s : State) : learns s s.runSide :=
  List.foldlRecOn (motive := fun t => learns s t) _ _ learns.refl.withFt fun _ h _ _ => h.doEvent

end Sys2Proof.Machine
end

section
/-! PROOFS. What a reset of the PCIe side does to the rings (R46, R169, R203). -/

namespace Sys2Proof.Machine

/-! ### General -/

/-- A fold over a range whose step reaches `P` for its own index, and keeps it for the others, reaches it for all. -/
theorem foldl_range_all {P : Nat → State → Prop} {f : State → Nat → State} {k : Nat} (hself : ∀ s, ∀ n < k, P n (f s n))
    (hkeep : ∀ s, ∀ n < k, ∀ m < k, P m s → P m (f s n)) (s : State) : ∀ n < k, P n ((List.range k).foldl f s) := by
  have hpart : ∀ j ≤ k, ∀ n < j, P n ((List.range j).foldl f s) := by
    intro j
    induction j with
    | zero => exact fun _ n hn => absurd hn (Nat.not_lt_zero n)
    | succ j ih =>
      intro hj n hn
      rw [List.range_succ, List.foldl_append, List.foldl_cons, List.foldl_nil]
      rcases Nat.lt_succ_iff_lt_or_eq.1 hn with hlt | rfl
      · exact hkeep _ j hj n (by omega) (ih (by omega) n hlt)
      · exact hself _ n hj
  exact hpart k le_rfl

theorem State.on_set_addr {s : State} {f g : FRef} (v : Nat) (h : g.addr ≠ f.addr) : (s.set f v).on g = s.on g := State.on_congr (State.rd_set_ne s v h)

theorem State.on_clear (s : State) {f : FRef} (hok : f.ok = true) (hbit : f.hi = f.lo) : (s.set f 0).on f = false := on_setB_same s false hok hbit

/-! ### The rings (R169, R203) -/

section
variable (s : State) (r : Nat)

/-- FT ring `r` stops: beside what learning touches, its enable bit and its lock bit clear. -/
theorem ftRingHalt_rd {a : Nat} (ha : a < 0x20000 ∨ 0x201000 ≤ a) (hcfg : a ≠ FT_RING_CFG r) (hstat : a ≠ FT_RING_STAT r) :
    (s.ftRingHalt r).rd a = s.rd a := by
  let t : State := s.set (FT_RING_CFG_enable r) 0
  let u : State := { t with ft := { t.ft with locks := t.ft.locks.put none r none } }
  have hlearn : (s.ftRingHalt r).rd a = (u.set (FT_RING_STAT_lock_held r) 0).rd a := (runSide_learns _).1 a ha
  rw [hlearn, State.rd_set_ne u 0 hstat]
  exact State.rd_set_ne s 0 hcfg

theorem ftRingHalt_off (hr : r < 8) : (s.ftRingHalt r).on (FT_RING_CFG_enable r) = false := by
  let t : State := s.set (FT_RING_CFG_enable r) 0
  let u : State := { t with ft := { t.ft with locks := t.ft.locks.put none r none } }
  have hok : ∀ k : Fin 8, (FT_RING_CFG_enable k).ok = true := by decide
  have hlearn : (s.ftRingHalt r).rd (FT_RING_CFG r) = (u.set (FT_RING_STAT_lock_held r) 0).rd (FT_RING_CFG r) :=
    (runSide_learns _).1 _ (.inr (by rw [FT_RING_CFG]; omega))
  have hhalt : (s.ftRingHalt r).on (FT_RING_CFG_enable r) = t.on (FT_RING_CFG_enable r) :=
    State.on_congr (hlearn.trans (State.rd_set_ne u 0 (show FT_RING_CFG r ≠ FT_RING_STAT r by rw [FT_RING_CFG, FT_RING_STAT]; omega)))
  rw [hhalt]
  exact State.on_clear s (hok ⟨r, hr⟩) rfl

theorem ftRingHalt_parts : onlyParts [.regs, .ft] s (s.ftRingHalt r) := by
  let t : State := s.set (FT_RING_CFG_enable r) 0
  let u : State := { t with ft := { t.ft with locks := t.ft.locks.put none r none } }
  have hstart : onlyParts [.regs, .ft] s u := (with_ft (by decide)).2 ((State.set_keeps _ _ _ (by decide)).2 onlyParts.refl)
  have hlearn : onlyParts [.regs, .ft] s (u.set (FT_RING_STAT_lock_held r) 0).runSide :=
    onlyParts.then ((State.set_keeps _ _ _ (by decide)).2 hstart) (runSide_learns _).2 (by decide)
  exact (with_ft (by decide)).2 hlearn

end

/-- The rings of index `r` of FT and of the transmit side are disabled. -/
def ringsOff (r : Nat) (s : State) : Prop := s.on (SC_TXR_CFG_enable r) = false ∧ s.on (FT_RING_CFG_enable r) = false

/-- One step of `ringsReset`: both rings of index `r` stop. -/
theorem ringStop_off (s : State) (r : Nat) (hr : r < 8) : ringsOff r ((s.ftRingHalt r).set (SC_TXR_CFG_enable r) 0) := by
  have hok : ∀ k : Fin 8, (SC_TXR_CFG_enable k).ok = true := by decide
  refine ⟨State.on_clear _ (hok ⟨r, hr⟩) rfl, ?_⟩
  rw [State.on_set_addr _ (show FT_RING_CFG r ≠ SC_TXR_CFG r by rw [FT_RING_CFG, SC_TXR_CFG]; omega)]
  exact ftRingHalt_off s r hr

theorem ringStop_keeps (s : State) (r : Nat) (hr : r < 8) (q : Nat) (hq : q < 8) (h : ringsOff q s) :
    ringsOff q ((s.ftRingHalt r).set (SC_TXR_CFG_enable r) 0) := by
  by_cases e : q = r
  · exact e ▸ ringStop_off s r hr
  · obtain ⟨htx, hft⟩ := h
    constructor
    · rw [State.on_set_addr _ (show SC_TXR_CFG q ≠ SC_TXR_CFG r by rw [SC_TXR_CFG, SC_TXR_CFG]; omega), ← htx]
      exact State.on_congr (ftRingHalt_rd s r (.inr (show _ ≤ SC_TXR_CFG q by rw [SC_TXR_CFG]; omega))
        (show SC_TXR_CFG q ≠ _ by rw [SC_TXR_CFG, FT_RING_CFG]; omega) (show SC_TXR_CFG q ≠ _ by rw [SC_TXR_CFG, FT_RING_STAT]; omega))
    · rw [State.on_set_addr _ (show FT_RING_CFG q ≠ SC_TXR_CFG r by rw [FT_RING_CFG, SC_TXR_CFG]; omega), ← hft]
      exact State.on_congr (ftRingHalt_rd s r (.inr (show _ ≤ FT_RING_CFG q by rw [FT_RING_CFG]; omega))
        (show FT_RING_CFG q ≠ _ by rw [FT_RING_CFG, FT_RING_CFG]; omega) (show FT_RING_CFG q ≠ _ by rw [FT_RING_CFG, FT_RING_STAT]; omega))

/-- A step of the reset of the CPU queue rings leaves the other rings alone. -/
theorem cpuqStop_rd (s : State) (c : Nat) {a : Nat} (ha : a < 0x412000 ∨ 0x412400 ≤ a) (hc : c < 32) : (s.set (SC_CPUQ_RING_CFG_enable c) 0).rd a = s.rd a :=
  State.rd_set_ne s 0 (show a ≠ SC_CPUQ_RING_CFG c by rw [SC_CPUQ_RING_CFG]; omega)

section
variable (s : State)

theorem ringsReset_cpuq : ∀ c < 32, s.ringsReset.on (SC_CPUQ_RING_CFG_enable c) = false := by
  have hok : ∀ k : Fin 32, (SC_CPUQ_RING_CFG_enable k).ok = true := by decide
  have hclear : ∀ (t : State) (c : Nat), c < 32 → (t.set (SC_CPUQ_RING_CFG_enable c) 0).on (SC_CPUQ_RING_CFG_enable c) = false := fun t c hc =>
    State.on_clear t (hok ⟨c, hc⟩) rfl
  have hkeep : ∀ (t : State) (c : Nat), c < 32 → ∀ d < 32, t.on (SC_CPUQ_RING_CFG_enable d) = false →
      (t.set (SC_CPUQ_RING_CFG_enable c) 0).on (SC_CPUQ_RING_CFG_enable d) = false := by
    intro t c hc d hd h
    by_cases e : d = c
    · exact e ▸ hclear t c hc
    · rwa [State.on_set_addr _ (show SC_CPUQ_RING_CFG d ≠ SC_CPUQ_RING_CFG c by rw [SC_CPUQ_RING_CFG, SC_CPUQ_RING_CFG]; omega)]
  unfold State.ringsReset
  extract_lets t
  clear_value t
  exact foldl_range_all (P := fun c t => t.on (SC_CPUQ_RING_CFG_enable c) = false) (f := fun t c => t.set (SC_CPUQ_RING_CFG_enable c) 0) hclear hkeep t

theorem ringsReset_off : ∀ r < 8, ringsOff r s.ringsReset := by
  intro r hr
  have hstopped := foldl_range_all (P := ringsOff) ringStop_off ringStop_keeps s r hr
  refine List.foldlRecOn (motive := fun t : State => ringsOff r t) _ _ hstopped fun t ⟨htx, hft⟩ c hc => ⟨?_, ?_⟩
  · rw [← htx]
    exact State.on_congr (cpuqStop_rd t c (.inr (show _ ≤ SC_TXR_CFG r by rw [SC_TXR_CFG]; omega)) (List.mem_range.1 hc))
  · rw [← hft]
    exact State.on_congr (cpuqStop_rd t c (.inl (show FT_RING_CFG r < _ by rw [FT_RING_CFG]; omega)) (List.mem_range.1 hc))

/-- Below the blocks of the data path no register changes when the rings stop. -/
theorem ringsReset_rd {a : Nat} (ha : a < 0x20000) : s.ringsReset.rd a = s.rd a := by
  refine List.foldlRecOn (motive := fun t : State => t.rd a = s.rd a) _ _ ?_ fun t ht c hc =>
    (cpuqStop_rd t c (.inl (by omega)) (List.mem_range.1 hc)).trans ht
  refine List.foldlRecOn (motive := fun t : State => t.rd a = s.rd a) _ _ rfl fun t ht r _ => ?_
  rw [State.rd_set_ne _ _ (show a ≠ SC_TXR_CFG r by rw [SC_TXR_CFG]; omega),
    ftRingHalt_rd t r (.inl ha) (by rw [FT_RING_CFG]; omega) (by rw [FT_RING_STAT]; omega), ht]

theorem ringsReset_parts : onlyParts [.regs, .ft] s s.ringsReset := by
  have hrings : onlyParts [.regs, .ft] s ((List.range 8).foldl (fun s r => (s.ftRingHalt r).set (SC_TXR_CFG_enable r) 0) s) :=
    onlyParts.fold (fun t r => (State.set_keeps _ _ _ (by decide)).2 (ftRingHalt_parts t r)) _ onlyParts.refl
  unfold State.ringsReset
  extract_lets t
  exact onlyParts.fold (fun t c => (State.set_keeps t _ _ (by decide)).2 onlyParts.refl) _ hrings

end

end Sys2Proof.Machine
end

section
/-! PROOFS. What a reset of the PCIe side does to the mailboxes and the vectors, and as a whole (R46, R47). -/

namespace Sys2Proof.Machine

/-! ### The mailboxes (R47) -/

/-- Mailbox `n` stands as it did: its state, what it holds and, where it is not IDLE, its owner. -/
def sameMailbox (n : Nat) (s t : State) : Prop :=
  t.mbState n = s.mbState n ∧ t.mb n = s.mb n ∧ (s.mbState n ≠ mbIdle → t.bit MB_OWNER n = s.bit MB_OWNER n)

theorem sameMailbox.refl {n : Nat} {s : State} : sameMailbox n s s := ⟨rfl, rfl, fun _ => rfl⟩

theorem sameMailbox.trans {n : Nat} {s t u : State} (h : sameMailbox n s t) (k : sameMailbox n t u) : sameMailbox n s u := by
  obtain ⟨hstate, hmb, howner⟩ := h
  obtain ⟨kstate, kmb, kowner⟩ := k
  exact ⟨kstate.trans hstate, kmb.trans hmb, fun hbusy => (kowner (hstate.symm ▸ hbusy)).trans (howner hbusy)⟩

theorem sameMailbox.of_same {n : Nat} {s t : State} (hstat : t.rd (MB_STAT n) = s.rd (MB_STAT n)) (howner : t.rd MB_OWNER = s.rd MB_OWNER)
    (hmbox : t.mbox = s.mbox) : sameMailbox n s t :=
  ⟨State.mbState_congr hstat, State.mb_congr hmbox n, fun _ => by rw [State.bit, howner, State.bit]⟩

/-- A change of owners leaves the mailboxes as they are, where they are not IDLE. -/
theorem ownerApply_sameMailbox (s : State) {n : Nat} (hn : n < 4) : sameMailbox n s s.ownerApply := by
  have hok : ∀ k : Fin 4, FRef.ok ⟨MB_OWNER, k, k⟩ = true := by decide
  refine List.foldlRecOn (motive := fun t => sameMailbox n s t) _ _ .refl fun t ht k _ => ht.trans ?_
  split
  next hidle =>
    refine ⟨State.mbState_congr (State.rd_set_ne t _ (show MB_STAT n ≠ MB_OWNER by rw [MB_STAT, MB_OWNER]; omega)), rfl, fun hbusy => ?_⟩
    have hne : n ≠ k := fun e => hbusy (e ▸ hidle.1)
    rw [State.bit_eq_on, State.bit_eq_on]
    exact congrArg (fun v => decide (v = 1))
      (State.get_set_bits (f := ⟨MB_OWNER, k, k⟩) (g := ⟨MB_OWNER, n, n⟩) t _ rfl (hok ⟨n, hn⟩) (Nat.lt_or_gt_of_ne hne.symm))
  next => exact .refl

theorem mbToIdle_sameMailbox (s : State) {n k : Nat} (hn : n < 4) (h : n ≠ k) : sameMailbox n s (s.mbToIdle k) := by
  refine sameMailbox.trans (t := (s.mbLeave k).set (MB_STAT_state k) mbIdle) (.of_same ?_ ?_ rfl) (ownerApply_sameMailbox _ hn)
  · exact State.rd_set_ne (s.mbLeave k) _ (show MB_STAT n ≠ MB_STAT k by rw [MB_STAT, MB_STAT]; omega)
  · exact State.rd_set_ne (s.mbLeave k) _ (show MB_OWNER ≠ MB_STAT k by rw [MB_STAT, MB_OWNER]; omega)

theorem mbPcieReset_sameMailbox (s : State) {n k : Nat} (hn : n < 4) (h : n ≠ k) : sameMailbox n s (s.mbPcieReset k) := by
  unfold State.mbPcieReset
  split
  · exact .refl
  · split
    · exact ⟨rfl, State.mb_setMb_ne _ _ h, fun _ => rfl⟩
    · split
      · exact .refl
      · exact mbToIdle_sameMailbox s hn h

/-- The other mailboxes are reset before and after mailbox `n`, and leave it as it is. -/
theorem foldl_mbPcieReset (s : State) {n : Nat} (hn : n < 4) :
    ∃ u, sameMailbox n s u ∧ sameMailbox n (u.mbPcieReset n) ((List.range 4).foldl State.mbPcieReset s) := by
  have hskip : ∀ (l : List Nat) (t : State), n ∉ l → sameMailbox n t (l.foldl State.mbPcieReset t) := fun l t hl =>
    List.foldlRecOn (motive := fun v => sameMailbox n t v) _ _ .refl fun v hv k hk =>
      hv.trans (mbPcieReset_sameMailbox v hn (ne_of_mem_of_not_mem hk hl).symm)
  obtain ⟨l, l', hsplit⟩ := List.append_of_mem (List.mem_range.2 hn)
  have hnodup : (l ++ n :: l').Nodup := hsplit ▸ List.nodup_range
  obtain ⟨-, hafter, hbefore⟩ := List.nodup_append.1 hnodup
  refine ⟨l.foldl State.mbPcieReset s, hskip l s fun hmem => hbefore n hmem n List.mem_cons_self rfl, ?_⟩
  rw [hsplit, List.foldl_append, List.foldl_cons]
  exact hskip l' _ (List.nodup_cons.1 hafter).1

/-- What the reset makes of mailbox `n`: a request of PCIe that is POSTED or DONE goes, one that is TAKEN is to be discarded, and a mailbox of the
MSP stays as it is. -/
def mailboxReset (n : Nat) (s t : State) : Prop :=
  (s.bit MB_OWNER n = false → s.mbState n = 1 ∨ s.mbState n = 3 → t.mbState n = 0) ∧
    (s.bit MB_OWNER n = false → s.mbState n = 2 → t.mbState n = 2 ∧ (t.mb n).discard = true) ∧
    (s.bit MB_OWNER n = true → t.mbState n = s.mbState n)

theorem mbPcieReset_idle {s : State} {n : Nat} (h : s.mbState n = mbIdle) : s.mbPcieReset n = s := by
  unfold State.mbPcieReset
  rw [h]
  simp [mbIdle, mbTaken]

theorem mbPcieReset_msp {s : State} {n : Nat} (h : s.bit MB_OWNER n = true) : s.mbPcieReset n = s := if_pos h

theorem mbPcieReset_taken {s : State} {n : Nat} (howner : s.bit MB_OWNER n = false) (h : s.mbState n = mbTaken) :
    s.mbPcieReset n = s.setMb n { s.mb n with discard := true } := by
  rw [State.mbPcieReset, if_neg (by simp [howner]), if_pos h]

theorem mbPcieReset_waits {s : State} {n : Nat} (howner : s.bit MB_OWNER n = false) (htaken : s.mbState n ≠ mbTaken) (hidle : s.mbState n ≠ mbIdle) :
    s.mbPcieReset n = s.mbToIdle n := by
  rw [State.mbPcieReset, if_neg (by simp [howner]), if_neg htaken, if_neg hidle]

theorem foldl_mailboxReset (s : State) {n : Nat} (hn : n < 4) : mailboxReset n s ((List.range 4).foldl State.mbPcieReset s) := by
  obtain ⟨u, ⟨hstate, -, howner⟩, kstate, kmb, -⟩ := foldl_mbPcieReset s hn
  rw [mailboxReset, kstate, kmb]
  refine ⟨fun hpcie hwaits => ?_, fun hpcie htaken => ?_, fun hmsp => ?_⟩
  · have hbusy : s.mbState n ≠ mbIdle ∧ s.mbState n ≠ mbTaken := by
      rw [mbIdle, mbTaken]
      omega
    rw [mbPcieReset_waits ((howner hbusy.1).trans hpcie) (hstate ▸ hbusy.2) (hstate ▸ hbusy.1)]
    exact State.mbState_mbToIdle u hn
  · rw [mbPcieReset_taken ((howner (by rw [htaken]; decide)).trans hpcie) (hstate.trans htaken), State.mb_setMb_same]
    exact ⟨hstate.trans htaken, rfl⟩
  · by_cases hidle : s.mbState n = mbIdle
    · rw [mbPcieReset_idle (hstate.trans hidle), hstate]
    · rw [mbPcieReset_msp ((howner hidle).trans hmsp), hstate]

/-! ### The vectors and the whole side -/

theorem vecOpen_of_disabled {s : State} (h : s.host.msixEnable = false) (v : Nat) : s.vecOpen v = false := by
  simp [State.vecOpen, h]

/-- While MSI-X is disabled and no pending bit is set, no message leaves and no pending bit changes (log entry 29). -/
theorem deliver_of_disabled {s : State} (h : s.host.msixEnable = false) (h0 : s.rd (SYS_PBA 0) = 0) (h1 : s.rd (SYS_PBA 1) = 0) : s.deliver = s := by
  have hserve : ∀ v < 64, s.serveVec v = s := by
    intro v hv
    have hword : s.rd (SYS_PBA (v / 32)) = 0 := by
      rcases (by omega : v / 32 = 0 ∨ v / 32 = 1) with e | e
      · rw [e, h0]
      · rw [e, h1]
    have hbit : s.bit (SYS_PBA (v / 32)) (v % 32) = false := by
      rw [State.bit, hword]
      simp [bitOf]
    unfold State.serveVec
    simp [vecOpen_of_disabled h, h, hbit]
  unfold State.deliver
  split
  · rfl
  · exact List.foldlRecOn (motive := fun t => t = s) _ _ rfl fun t ht v hv => by rw [ht, hserve v (List.mem_range.1 hv)]

theorem msixReset_rd (s : State) (a : Nat) : s.msixReset.rd a = if 0xC000 ≤ a ∧ a < 0xE000 then resetWord a else s.rd a := by
  show Tab.get _ (s.regs.filter fun e => !(decide (0xC000 ≤ e.1) && decide (e.1 < 0xE000))) a = _
  rw [Tab.get_filter (resetWord a) s.regs (fun a => !(decide (0xC000 ≤ a) && decide (a < 0xE000))) a]
  by_cases h : 0xC000 ≤ a ∧ a < 0xE000 <;> simp [h, State.rd]

theorem mbPcieReset_onlyRegs (s : State) (n : Nat) : onlyRegs [MB_STAT n, MB_OWNER] s (s.mbPcieReset n) := by
  unfold State.mbPcieReset
  split
  · exact onlyRegs.refl
  · split
    · exact fun a _ => State.rd_setMb s n _ a
    · split
      · exact onlyRegs.refl
      · exact State.mbToIdle_onlyRegs s n

/-- The registers of SYS change only in the MSI-X table and the PBA. -/
theorem pcieSide_rd (s : State) {a : Nat} (ha : a < 0x10000) : s.pcieSide.rd a = if 0xC000 ≤ a ∧ a < 0xE000 then resetWord a else s.rd a := by
  have hmailboxes : ((List.range 4).foldl State.mbPcieReset s.msixReset).rd a = s.msixReset.rd a :=
    List.foldlRecOn (motive := fun t : State => t.rd a = s.msixReset.rd a) _ _ rfl fun t ht n _ =>
      (mbPcieReset_onlyRegs t n a (by simp only [List.mem_cons, List.not_mem_nil, or_false, MB_STAT, MB_OWNER]; omega)).trans ht
  rw [State.pcieSide, ringsReset_rd _ (by omega), hmailboxes, msixReset_rd]

/-- Beside the registers, the mailboxes, the MP's order and FT, the host port alone changes, as `msixReset` says. -/
theorem pcieSide_parts (s : State) : onlyParts [.regs, .mbox, .mp, .ft] s.msixReset s.pcieSide :=
  onlyParts.then (onlyParts.fold (fun t n => (State.mbPcieReset_keeps t n (by decide)).2 onlyParts.refl) _ onlyParts.refl) (ringsReset_parts _) (by decide)

theorem pcieSide_mailbox (s : State) {n : Nat} (hn : n < 4) : mailboxReset n s s.pcieSide := by
  have hstate : s.pcieSide.mbState n = ((List.range 4).foldl State.mbPcieReset s.msixReset).mbState n :=
    State.mbState_congr (ringsReset_rd _ (by rw [MB_STAT]; omega))
  have hmb : s.pcieSide.mb n = ((List.range 4).foldl State.mbPcieReset s.msixReset).mb n :=
    State.mb_congr (ringsReset_parts _ .mbox (by decide)) n
  have hreset := foldl_mailboxReset s.msixReset hn
  have hsame : s.msixReset.mbState n = s.mbState n ∧ s.msixReset.bit MB_OWNER n = s.bit MB_OWNER n := by
    constructor
    · exact State.mbState_congr ((msixReset_rd s _).trans (if_neg (by rw [MB_STAT]; omega)))
    · rw [State.bit, msixReset_rd, if_neg (by decide), State.bit]
  rw [mailboxReset, hsame.1, hsame.2] at hreset
  rw [mailboxReset, hstate, hmb]
  exact hreset

/-- The state `t` is one that a reset of the PCIe side of `s` leaves (R46, R47). -/
def pcieResetOf (s t : State) : Prop :=
  t.host.cfg = PcieCfg.reset ∧ t.host.disarmed = [] ∧ t.rd (SYS_PBA 0) = 0 ∧ t.rd (SYS_PBA 1) = 0 ∧ t.host.msixEnable = false ∧
    t.host.funcMask = false ∧ t.host.d3hot = false ∧ t.host.guardPcie = false ∧
    (∀ k : Nat, k < 256 → t.rd (0xC000 + 4 * k) = resetWord (0xC000 + 4 * k)) ∧
    (∀ n : Nat, n < 4 → s.bit MB_OWNER n = false → s.mbState n = 1 ∨ s.mbState n = 3 → t.mbState n = 0) ∧
    (∀ n : Nat, n < 4 → s.bit MB_OWNER n = false → s.mbState n = 2 → t.mbState n = 2 ∧ (t.mb n).discard = true) ∧
    (∀ n : Nat, n < 4 → s.bit MB_OWNER n = true → t.mbState n = s.mbState n) ∧
    (∀ c : Nat, c < 32 → t.on (SC_CPUQ_RING_CFG_enable c) = false) ∧
    (∀ r : Nat, r < 8 → t.on (SC_TXR_CFG_enable r) = false ∧ t.on (FT_RING_CFG_enable r) = false) ∧ t.tb = s.tb

theorem pcieSide_resets (s : State) : pcieResetOf s s.pcieSide := by
  have hhost : s.pcieSide.host = s.msixReset.host := pcieSide_parts s .host (by decide)
  have htb : s.pcieSide.tb = s.tb := pcieSide_parts s .tb (by decide)
  have htable : ∀ a, 0xC000 ≤ a → a < 0xE000 → s.pcieSide.rd a = resetWord a := fun a hlow hhigh => by
    rw [pcieSide_rd s (by omega), if_pos ⟨hlow, hhigh⟩]
  unfold pcieResetOf
  rw [hhost, htb, htable (SYS_PBA 0) (by decide) (by decide), htable (SYS_PBA 1) (by decide) (by decide)]
  exact ⟨rfl, rfl, by decide +kernel, by decide +kernel, rfl, rfl, rfl, rfl, fun k _ => htable _ (by omega) (by omega),
    fun n hn => (pcieSide_mailbox s hn).1, fun n hn => (pcieSide_mailbox s hn).2.1, fun n hn => (pcieSide_mailbox s hn).2.2,
    ringsReset_cpuq _, ringsReset_off _, rfl⟩

theorem pcieResetOf.deliver {s t : State} (h : pcieResetOf s t) : t.deliver = t := by
  obtain ⟨-, -, h0, h1, hmsix, -⟩ := h
  exact deliver_of_disabled hmsix h0 h1

/-- The link and the supplies are no part of what the reset says. -/
theorem pcieResetOf.unlinked {s t : State} (h : pcieResetOf s t) (power : Power) (gen width : Nat) :
    pcieResetOf s { t with power := power, host := { t.host with linkGen := gen, linkWidth := width } } := h

end Sys2Proof.Machine
end

section
/-! PROOFS. Statement O9: PERST#, a hot reset and an FLR. -/

namespace Sys2Proof

open Sys2Proof.Machine

theorem perstAssert_resets (ns : Nat) (s : State) (hup : s.up) (hlong : 1000 ≤ ns) :
    ∃ t, goesTo (.perstAssert ns) s t ∧ t.power.perst = true ∧ t.power.pcieReset = true ∧ pcieResetOf s t := by
  obtain ⟨hvin, hreset⟩ := State.up_iff.1 hup
  let t : State := { s.pcieSide with
    power := { s.pcieSide.power with perst := true, pcieReset := true }, host := { s.pcieSide.host with linkGen := 0, linkWidth := 0 } }
  have hresult : pcieResetOf s t := (pcieSide_resets s).unlinked _ _ _
  refine ⟨t, ?_, rfl, rfl, hresult⟩
  show finishAny (s.power.vin && decide (1000 ≤ ns)) s _ = _
  rw [finishAny_next (by rw [hvin, decide_eq_true hlong]; rfl), hreset]
  exact congrArg _ hresult.deliver

/-- A hot reset and an FLR are the same reset of the PCIe side. -/
theorem finishIf_pcieSide (s : State) (hup : s.up) (hruns : s.power.pcieReset = false) :
    ∃ t, finishIf (!s.power.pcieReset) s s.pcieSide = .next t ∧ pcieResetOf s t := by
  refine ⟨s.pcieSide, ?_, pcieSide_resets s⟩
  rw [finishIf_next (by rw [hruns]; rfl) hup, (pcieSide_resets s).deliver]

theorem pcieCoreResetEnd_trains (s : State) (hup : s.up) (hreset : s.power.pcieReset = true) :
    ∃ t, goesTo (.pcieCoreResetEnd) s t ∧ t.power = { s.power with perst := false, pcieReset := false } ∧ 1 ≤ t.host.linkGen ∧
      t.host.linkGen ≤ 4 ∧ [1, 2, 4].contains t.host.linkWidth = true ∧ onlyChanges [] [.power, .free] s t := by
  let gen : Nat × State := s.draw 2
  let width : Nat × State := gen.2.draw 8
  let t : State := { width.2 with
    power := { s.power with perst := false, pcieReset := false }
    host := { s.host with linkGen := gen.1 % 4 + 1, linkWidth := 2 ^ (width.1 % 3) } }
  have hexec : exec .pcieCoreResetEnd s = .next t.deliver := finishIf_next hreset hup
  have hwidth : ∀ k < 3, [1, 2, 4].contains (2 ^ k) = true := by decide
  refine ⟨_, hexec, State.deliver_power t, ?_, ?_, ?_, onlyChanges.deliver (fun _ _ => rfl) ?_⟩
  · rw [deliver_linkGen]
    exact Nat.le_add_left 1 _
  · rw [deliver_linkGen]
    exact Nat.mod_lt _ (by decide)
  · rw [deliver_linkWidth]
    exact hwidth _ (Nat.mod_lt _ (by decide))
  · exact (with_power_host (by decide)).2 ((State.draw_keeps _ _ (by decide)).2 ((State.draw_keeps s _ (by decide)).2 onlyParts.refl))

/-- Settles O9: each reset drops the MSI-X registers, resets the mailboxes of PCIe one by one and then stops the rings; with MSI-X disabled the
delivery of interrupts changes nothing after it. -/
theorem pcieResets : Obligations.PcieResets :=
  ⟨perstAssert_resets, finishIf_pcieSide, finishIf_pcieSide, pcieCoreResetEnd_trains⟩

end Sys2Proof
end

section
/-! PROOFS. Statement O59: the sources of the bays. -/

namespace Sys2Proof

open Sys2Proof.Machine

namespace Machine

/-- A status register has a cause that is enabled just where one of its bits is set in both words (R58). -/
theorem State.cause_iff (s : State) (st en : Nat) : s.cause st en = true ↔ ∃ i, i < 32 ∧ s.bit st i = true ∧ s.bit en i = true := by
  have hbit : ∀ a i, s.bit a i = (s.rd a).getLsbD i := fun a i => by
    simp [State.bit, bitOf, BitVec.getLsbD, Nat.testBit_eq_decide_div_mod_eq]
  simp only [State.cause, decide_eq_true_eq, hbit]
  constructor
  · intro hset
    by_contra hnone
    refine hset (BitVec.eq_of_getLsbD_eq fun i hi => ?_)
    simpa using fun h => Bool.eq_false_iff.2 fun h' => hnone ⟨i, hi, h, h'⟩
  · rintro ⟨i, -, hst, hen⟩ hzero
    have hbit0 := congrArg (fun w : Word => w.getLsbD i) hzero
    simp [hst, hen] at hbit0

/-- A bay has an enabled cause just where one of its four members has. -/
theorem State.any_cause_iff (s : State) (st en : Nat → Nat) (b : Nat) :
    ((List.range 4).any fun k => s.cause (st (4 * b + k)) (en (4 * b + k))) = true ↔
      ∃ l i : Nat, l / 4 = b ∧ i < 32 ∧ s.bit (st l) i = true ∧ s.bit (en l) i = true := by
  simp only [List.any_eq_true, List.mem_range, State.cause_iff]
  constructor
  · rintro ⟨k, hk, i, hi, hst, hen⟩
    exact ⟨4 * b + k, i, by omega, hi, hst, hen⟩
  · rintro ⟨l, i, hl, hi, hst, hen⟩
    have hsplit : 4 * b + l % 4 = l := by omega
    exact ⟨l % 4, Nat.mod_lt _ (by decide), i, hi, by rwa [hsplit], by rwa [hsplit]⟩

theorem State.bays_le (s : State) : s.bays ≤ 12 := by
  unfold State.bays
  split <;> decide

section
variable {s : State} {b : Nat} (hb : b < s.bays)
include hb

theorem State.source_port :
    s.source (24 + b) = (List.range 4).any fun k => s.cause (PT_INT_STAT (4 * b + k)) (PT_INT_EN (4 * b + k)) := by
  have hlt : b < 12 := hb.trans_le s.bays_le
  unfold State.source
  iterate 16 rw [if_neg (by omega)]
  rw [if_pos (by omega), Nat.add_sub_cancel_left, decide_eq_true hb, Bool.true_and]

theorem State.source_lane :
    s.source (36 + b) = (List.range 4).any fun k => s.cause (LN_INT_STAT (4 * b + k)) (LN_INT_EN (4 * b + k)) := by
  have hlt : b < 12 := hb.trans_le s.bays_le
  unfold State.source
  iterate 17 rw [if_neg (by omega)]
  rw [if_pos (by omega), Nat.add_sub_cancel_left, decide_eq_true hb, Bool.true_and]

end

end Machine

/-- Settles O59: a bay's source is the disjunction of its four members' causes, and a cause is a bit set in two words. -/
theorem baySources : Obligations.BaySources := by
  unfold Obligations.BaySources
  constructor
  · intro s b hb
    rw [State.source_lane hb, State.any_cause_iff s LN_INT_STAT LN_INT_EN]
  · intro s b hb
    rw [State.source_port hb, State.any_cause_iff s PT_INT_STAT PT_INT_EN]

end Sys2Proof
end

section
/-! PROOFS. A field and the writes that leave it alone; what the references, the mailboxes, the links and the health unit leave of the registers
of lanes and ports. -/

namespace Sys2Proof.Machine

/-! ### Fields apart -/

/-- A write of field `f` does not reach field `g`: they stand in two registers, or apart in one. -/
def FRef.apart (f g : FRef) : Prop := g.addr ≠ f.addr ∨ (g.ok = true ∧ (f.hi < g.lo ∨ g.hi < f.lo))

theorem State.get_set_apart (s : State) {f g : FRef} (v : Nat) (h : f.apart g) : (s.set f v).get g = s.get g := by
  by_cases ha : g.addr = f.addr
  · obtain hne | ⟨hok, hbits⟩ := h
    · exact absurd ha hne
    · exact State.get_set_bits s v ha hok hbits
  · exact State.get_set_addr s v ha

/-- Field `g` reads the same in both states. -/
def sameField (g : FRef) (s t : State) : Prop := t.get g = s.get g

namespace sameField
variable {g f : FRef} {s t u : State}

theorem refl : sameField g s s := rfl

theorem trans (h : sameField g s t) (k : sameField g t u) : sameField g s u := Eq.trans k h

theorem on (h : sameField g s t) : t.on g = s.on g := by rw [State.on, h, State.on]

/-- A change of other parts leaves every field alone. -/
theorem regs (h : sameField g s t) (hregs : u.regs = t.regs) : sameField g s u := by
  rw [sameField, State.get, State.rd, hregs]
  exact h

theorem set {v : Nat} (h : sameField g s t) (hf : f.apart g) : sameField g s (t.set f v) := (State.get_set_apart t v hf).trans h

theorem wr {a : Nat} {w : Word} (h : sameField g s t) (ha : g.addr ≠ a) : sameField g s (t.wr a w) := by
  rw [sameField, State.get, State.rd_wr_ne _ _ ha]
  exact h

theorem wr64 {lo hi v : Nat} (h : sameField g s t) (hlo : g.addr ≠ lo) (hhi : g.addr ≠ hi) : sameField g s (t.wr64 lo hi v) := (h.wr hlo).wr hhi

theorem wrs {ws : List Word} : ∀ {t : State} {a : Nat}, sameField g s t → (∀ k < ws.length, g.addr ≠ a + 4 * k) → sameField g s (t.wrs a ws) := by
  induction ws with
  | nil => exact fun h _ => h
  | cons w ws ih =>
    intro t a h ha
    refine ih (h.wr (by simpa using ha 0 (by simp))) fun k hk => ?_
    rw [show a + 4 + 4 * k = a + 4 * (k + 1) by omega]
    exact ha (k + 1) (by simpa using hk)

theorem ite {c : Prop} [Decidable c] (h : sameField g s t) (k : sameField g s u) : sameField g s (if c then t else u) := by
  split
  · exact h
  · exact k

theorem foldl {β : Type} {f : State → β → State} {l : List β} (h : sameField g s t) (hf : ∀ v, ∀ x ∈ l, sameField g v (f v x)) :
    sameField g s (l.foldl f t) :=
  List.foldlRecOn (motive := fun v => sameField g s v) l f h fun v hv x hx => hv.trans (hf v x hx)

theorem of_rd (h : t.rd g.addr = s.rd g.addr) : sameField g s t := by rw [sameField, State.get, h, State.get]

theorem of_onlyRegs {l : List Nat} (h : onlyRegs l s t) (hg : g.addr ∉ l) : sameField g s t := of_rd (h _ hg)

/-- A register whose whole word, read as a field, is the same. -/
theorem rd {a : Nat} (h : sameField ⟨a, 31, 0⟩ s t) : t.rd a = s.rd a := by
  have hword : ∀ w : Word, bitsOf w 31 0 = w.toNat := fun w => by simpa [bitsOf] using w.isLt
  exact BitVec.eq_of_toNat_eq (by simpa [sameField, State.get, hword] using h)

end sameField

/-! ### Registers of lanes and ports -/

/-- The field stands in the blocks LN and PT. -/
def FRef.ofLine (g : FRef) : Prop := 0x100000 ≤ g.addr ∧ g.addr < 0x180000

theorem FRef.ofLine.apart {f g : FRef} (hg : g.ofLine) (hf : f.addr < 0x100000 ∨ 0x180000 ≤ f.addr) : f.apart g := by
  obtain ⟨hlo, hhi⟩ := hg
  exact .inl (by omega)

section
variable {g : FRef} {s t : State} (hg : g.ofLine)
include hg

theorem FRef.ofLine.ne {a : Nat} (ha : a < 0x100000 ∨ 0x180000 ≤ a) : g.addr ≠ a := by
  obtain ⟨hlo, hhi⟩ := hg
  omega

/-! ### References of the timing channels -/

theorem sameField.selStatus {c old st : Nat} (h : sameField g s t) : sameField g s (t.selStatus c old st) := by
  unfold State.selStatus
  extract_lets _ u v
  have hu : sameField g s u := h.regs rfl
  have hv : sameField g s v := ite (hu.regs rfl) hu
  exact ((hv.set (hg.apart (.inr (by simp only [TC_INT_STAT_ref_disq, TC_INT_STAT]; omega)))).set
    (hg.apart (.inr (by simp only [TC_SW_CNT_disq, TC_SW_CNT]; omega)))).ite hv

theorem sameField.setStatus {c r st : Nat} (h : sameField g s t) : sameField g s (t.setStatus c r st) := by
  unfold State.setStatus
  extract_lets old u _ v w
  have hu : sameField g s u := h.set (hg.apart (.inr (by simp only [TC_REF_STAT_status, TC_REF_STAT]; omega)))
  have hv : sameField g s v := ite (hu.regs rfl) hu
  have hw : sameField g s w := ite (hv.set (hg.apart (.inr (by simp only [TC_INT_STAT_ref_degraded, TC_INT_STAT]; omega)))) hv
  exact h.ite ((hw.selStatus hg).ite hw)

theorem sameField.refLoss {r : Nat} (h : sameField g s t) : sameField g s (t.refLoss r) := by
  unfold State.refLoss
  extract_lets u _ v
  have hu : sameField g s u := (h.set (hg.apart (.inr (by simp only [TC_REF_FREQ_active, TC_REF_FREQ]; omega)))).set
    (hg.apart (.inr (by simp only [TC_REF_FREQ_valid, TC_REF_FREQ]; omega)))
  have hv : sameField g s v := hu.regs rfl
  exact h.ite (hv.foldl fun w c _ => refl.setStatus hg)

/-! ### Mailboxes -/

theorem sameField.ownerApply (h : sameField g s t) : sameField g s t.ownerApply :=
  h.foldl fun _ _ _ => (refl.set (hg.apart (.inl (show MB_OWNER < _ by decide)))).ite refl

theorem sameField.mbAnswer {n : Nat} {r : MbReq} {status detail value : Nat} (hn : n < 4) (h : sameField g s t) :
    sameField g s (t.mbAnswer n r status detail value []) := by
  have hstat : ∀ {v : Nat} {u : State}, sameField g s u → sameField g s (u.set (MB_STAT_state n) v) :=
    fun k => k.set (hg.apart (.inl (by simp only [MB_STAT_state, MB_STAT]; omega)))
  have hraw : sameField g s (t.mbAnswerRaw n r (mbPayload status detail value [])) := by
    unfold State.mbAnswerRaw
    extract_lets b u v
    have hv : sameField g s v := wrs (t := u) (h.regs rfl) fun k hk => hg.ne (.inl (by
      rw [mbWords_length] at hk
      simp only [MB_RESP]
      omega))
    refine ite ?_ ?_
    · exact (hstat (u := u.mbLeave n) (h.regs rfl)).ownerApply hg
    · exact (hstat (u := v.mbLeave n) (hv.regs rfl)).set (hg.apart (.inl (show MB_INT_STAT < _ by decide)))
  unfold State.mbAnswer
  extract_lets p u
  exact ite hraw (hraw.regs rfl)

/-- Waiting requests that are rejected, or answered without data. -/
theorem sameField.mbAnswerWaiting {p : MbReq → Bool} {a : Nat ⊕ Bytes} (ha : ∀ data, a = .inr data → data = []) (h : sameField g s t) :
    sameField g s (t.mbAnswerWaiting p a) := by
  refine h.foldl fun v n hn => ?_
  have hn : n < 4 := List.mem_range.1 hn
  split
  · split
    · split
      · exact refl.mbAnswer hg hn
      next data => rw [ha data rfl]; exact refl.mbAnswer hg hn
    · exact refl
  · exact refl

/-! ### Links between twins' ports -/

theorem sameField.pairRestart {l : Nat} (h : sameField g s t) : sameField g s (t.pairRestart l) :=
  ite (set (h.regs rfl) (hg.apart (.inr (by simp only [PX_STAT_asym_stale, PX_STAT]; omega)))) (h.regs rfl)

theorem sameField.pxRef (h : sameField g s t) : sameField g s t.pxRef :=
  (h.set (hg.apart (.inr (by decide)))).foldl fun _ _ _ => refl.set (hg.apart (.inr (by simp only [PX_STAT_delivering, PX_STAT]; omega)))

theorem sameField.calLost {l : Nat} (h : sameField g s t) : sameField g s (t.calLost l) :=
  (h.set (hg.apart (.inr (by simp only [PX_STAT_cal_valid, PX_STAT]; omega)))).set
    (hg.apart (.inr (by simp only [PX_STAT_cal_stale, PX_STAT]; omega)))

theorem sameField.pxCause {l : Nat} {f : FRef} (hf : 0x180000 ≤ f.addr) (h : sameField g s t) : sameField g s (t.pxCause l f) :=
  ite ((h.set (hg.apart (.inr hf))).set (hg.apart (.inr (show _ ≤ PX_EVT_LO by decide))))
    ((h.set (hg.apart (.inr hf))).set (hg.apart (.inr (show _ ≤ PX_EVT_HI by decide))))

theorem sameField.linkEnter {l st : Nat} (h : sameField g s t) : sameField g s (t.linkEnter l st) := by
  unfold State.linkEnter
  extract_lets old s1 _ s2 s3 s4' s4 _ s5
  have h1 : sameField g s s1 := (h.set (hg.apart (.inr (by simp only [PX_STAT_state, PX_STAT]; omega)))).pxCause hg (by decide)
  have h2 : sameField g s s2 := h1.regs rfl
  have h3 : sameField g s s3 := (h2.mbAnswerWaiting hg (by simp)).ite h2
  have h4' : sameField g s s4' := h3.pairRestart hg
  have h4 : sameField g s s4 := ite ((h4'.pairRestart hg).ite h4') h3
  have h5 : sameField g s s5 := ite (h4.regs rfl) h4
  exact h.ite (h5.pxRef hg)

theorem sameField.linkWait {l : Nat} (h : sameField g s t) : sameField g s (t.linkWait l) := by
  unfold State.linkWait
  extract_lets _ u
  have hu : sameField g s u := h.regs rfl
  exact h.ite ((hu.set (hg.apart (.inr (by simp only [PX_STAT_cal_stale, PX_STAT]; omega)))).linkEnter hg)

theorem sameField.linkClockLost {l : Nat} (h : sameField g s t) : sameField g s (t.linkClockLost l) := h.ite (h.linkWait hg)

theorem sameField.linkPortLost {p : Nat} (h : sameField g s t) : sameField g s (t.linkPortLost p) := h.ite (h.linkWait hg)

/-! ### Faults -/

theorem FRef.ofLine.not_fault : g.addr ∉ faultRegs := by
  obtain ⟨hlo, -⟩ := hg
  simp only [faultRegs, List.mem_cons, List.not_mem_nil, or_false, HL_STAT, HL_INT_STAT, HL_FAULT_LAST, HL_CNT_LASTING, HL_CNT_TRANSIENT, HL_LOG]
  omega

theorem sameField.hlLasting {code inst row detail : Nat} (h : sameField g s t) : sameField g s (t.hlLasting code inst row detail) :=
  h.trans (of_onlyRegs (hlLastingAs_onlyRegs 2 code inst row detail onlyRegs.refl) hg.not_fault)

theorem sameField.hlTransient {code inst row detail : Nat} (h : sameField g s t) : sameField g s (t.hlTransient code inst row detail).2 :=
  h.trans (of_onlyRegs (hlTransient_onlyRegs code inst row detail onlyRegs.refl) hg.not_fault)

end

end Sys2Proof.Machine
end

section
/-! PROOFS. What the movement of frames leaves of the registers: its counters stand in PM and SC, beside the length checks of PR and the transmit
timestamps of PT and TB (R119, R192, R260, R467). -/

namespace Sys2Proof.Machine

/-- The field is none that the movement of frames writes, but perhaps one of a queue's drop counters. -/
def FRef.offQueues (g : FRef) : Prop :=
  (g.addr < 0x20000 ∨ 0x30000 ≤ g.addr) ∧ (g.addr < 0x400000 ∨ (0x420000 ≤ g.addr ∧ g.addr < 0x700000)) ∧
    (∀ p, g.addr ≠ PR_CNT_LEN_MISMATCH p ∧ g.addr ≠ PR_CNT_LEN_LATE p) ∧
    ∀ p, (PT_INT_STAT_txts_ovf p).apart g ∧ (PT_TXTS_OVF_count p).apart g

/-- No register of the lanes and bays is one that the movement of frames writes. -/
theorem FRef.offQueues.of_lane {g : FRef} (hlow : 0x100000 ≤ g.addr) (hhigh : g.addr < 0x140000) : g.offQueues := by
  refine ⟨.inr (by omega), .inl (by omega), fun p => ?_, fun p => ⟨.inl ?_, .inl ?_⟩⟩
  · simp only [PR_CNT_LEN_MISMATCH, PR_CNT_LEN_LATE]
    omega
  · simp only [PT_INT_STAT_txts_ovf, PT_INT_STAT]
    omega
  · simp only [PT_TXTS_OVF_count, PT_TXTS_OVF]
    omega

section
variable {g : FRef} {s t : State} (hg : g.offQueues)
include hg

theorem FRef.offQueues.pm : g.addr < 0x20000 ∨ 0x30000 ≤ g.addr := hg.1

theorem FRef.offQueues.sc : g.addr < 0x400000 ∨ (0x420000 ≤ g.addr ∧ g.addr < 0x700000) := hg.2.1

theorem FRef.offQueues.late (p : Nat) : g.addr ≠ PR_CNT_LEN_MISMATCH p ∧ g.addr ≠ PR_CNT_LEN_LATE p := hg.2.2.1 p

theorem FRef.offQueues.txts (p : Nat) : (PT_INT_STAT_txts_ovf p).apart g ∧ (PT_TXTS_OVF_count p).apart g := hg.2.2.2 p

theorem FRef.offQueues.apart_pm {f : FRef} (hf : 0x20000 ≤ f.addr ∧ f.addr < 0x30000) : f.apart g := by
  have hpm := hg.pm
  exact .inl (by omega)

theorem FRef.offQueues.apart_sc {f : FRef} (hf : 0x400000 ≤ f.addr ∧ f.addr < 0x420000) : f.apart g := by
  have hsc := hg.sc
  exact .inl (by omega)

/-! ### Performance counters and trace records -/

theorem sameField.pm {u ev n : Nat} (hu : u < 8) (h : sameField g s t) : sameField g s (t.pm u ev n) := by
  refine (h.foldl fun v k hk => ?_).ite h
  have hk : k < 8 := List.mem_range.1 hk
  have hpm := hg.pm
  exact (refl.wr64 (by simp only [PM_CNT_LO]; omega) (by simp only [PM_CNT_HI]; omega)).ite refl

/-- A trace record of up to 16 words. -/
theorem sameField.pmTrace {l : List Word} (hl : l.length ≤ 16) (h : sameField g s t) : sameField g s (t.pmTrace l) := by
  have hnext : t.get PM_TRACE_STAT_next < 256 := bitsOf_lt _ _ _
  have hpm := hg.pm
  unfold State.pmTrace
  extract_lets count next u v
  have hu : sameField g s u := (h.wrs fun k hk => by simp only [PM_TRACE]; omega).set (hg.apart_pm (by decide))
  have hv : sameField g s v := (hu.set (hg.apart_pm (by decide))).set (hg.apart_pm (by decide))
  exact (h.set (hg.apart_pm (by decide))).ite ((hv.set (hg.apart_pm (by decide))).ite hv)

theorem sameField.traceOut {id out q : Nat} {drop d : Option Nat} (h : sameField g s t) : sameField g s (t.traceOut id out q drop d) := by
  unfold State.traceOut
  extract_lets x
  split
  · exact h
  · exact pmTrace hg (by simp) (h.regs rfl)

theorem sameField.traceVerbDrop {id : Nat} (h : sameField g s t) : sameField g s (t.traceVerbDrop id) := by
  unfold State.traceVerbDrop
  exact (traceOut hg (regs (u := ((t.draw 9).2.draw 4).2) h rfl)).ite h

/-! ### Transmit timestamps -/

theorem sameField.txStamp {p : Nat} {x : Pkt} {e : Option Time} (h : sameField g s t) : sameField g s (t.txStamp p x e) := by
  have herr : g.addr ≠ TB_PTP_ERR := by
    have hsc := hg.sc
    simp only [TB_PTP_ERR]
    omega
  unfold State.txStamp
  split
  · exact h
  · extract_lets l y
    exact (h.set (.inl herr)).ite (((h.set (hg.txts p).2).set (hg.txts p).1).ite (pm hg (by decide) (h.regs rfl)))

theorem sameField.txDropped {q : Nat} {x : Pkt} (h : sameField g s t) : sameField g s (t.txDropped q x) := by
  unfold State.txDropped
  split
  · exact h.txStamp hg
  · exact h

/-! ### Queues -/

theorem sameField.setOcc {q n : Nat} (hq : g.addr < 0x400000 ∨ q < 512) (h : sameField g s t) : sameField g s (t.setOcc q n) := by
  have hsc := hg.sc
  exact (h.set (.inl (by simp only [SC_Q_OCC_cells, SC_Q_OCC]; omega))).set (.inl (by simp only [SC_Q_PEAK_cells, SC_Q_PEAK]; omega))

omit hg in
theorem sameField.markHead {q : Nat} (h : sameField g s t) : sameField g s (t.markHead q) := by
  unfold State.markHead
  split
  · exact h
  · extract_lets x
    split
    · exact ite (h.regs rfl) h
    · exact h

theorem sameField.fetch {q : Nat} (h : sameField g s t) : sameField g s (t.fetch q) :=
  h.foldl fun _ _ _ => ite (pm hg (by decide) (refl.regs rfl)) refl

theorem sameField.setQueue {q : Nat} {l : List (Nat × Nat)} (h : sameField g s t) : sameField g s (t.setQueue q l) :=
  fetch hg (markHead (h.regs rfl))

theorem sameField.dequeue {id q : Nat} (hq : g.addr < 0x400000 ∨ q < 512) (h : sameField g s t) : sameField g s (t.dequeue id q) :=
  (h.setOcc hg hq).setQueue hg

omit hg in
theorem sameField.hold {x : Pkt} {add : Bool} (h : sameField g s t) : sameField g s (t.hold x add) :=
  h.regs (State.hold_parts t x add .regs (by decide))

/-! ### Frames that leave -/

theorem sameField.lateFail {x : Pkt} (h : sameField g s t) : sameField g s (t.lateFail x) :=
  pm hg (by omega) ((h.set (.inl (hg.late _).1)).set (.inl (hg.late _).2))

theorem sameField.dropPkt {id : Nat} (h : sameField g s t) : sameField g s (t.dropPkt id) :=
  ((h.lateFail hg).ite h).regs rfl

theorem sameField.unref {id : Nat} (h : sameField g s t) : sameField g s (t.unref id) := by
  unfold State.unref
  extract_lets x u _ v
  have hu : sameField g s u := h.dropPkt hg
  have hv : sameField g s v := ite (hu.set (hg.apart_sc (by decide))) (ite (hu.regs rfl) hu)
  exact ite (h.regs rfl) (ite hv hv.hold)

omit hg in
/-- A drop is counted in SC alone. -/
theorem sameField.countDrop {q code : Nat} (hlow : g.addr < 0x400000) (h : sameField g s t) : sameField g s (t.countDrop q code) := by
  have hsc : ∀ {f : FRef}, 0x400000 ≤ f.addr → f.apart g := fun hf => .inl (by omega)
  unfold State.countDrop
  extract_lets u v
  have hu : sameField g s u := h.set (hsc (by simp only [SC_DROP_count, SC_DROP]; omega))
  have hv : sameField g s v := ite (hu.set (hsc (by decide))) hu
  split
  · exact ite (hv.set (hsc (by simp only [SC_DISABLE_DISCARD_count, SC_DISABLE_DISCARD]; omega))) hv
  · exact hv

theorem sameField.discard {id q code : Nat} (hlow : g.addr < 0x400000) (h : sameField g s t) : sameField g s (t.discard id q code) := by
  unfold State.discard
  extract_lets x u v
  have hu : sameField g s u := (h.dequeue hg (.inl hlow)).countDrop hlow
  have hv : sameField g s v := ite (hu.traceOut hg) hu
  exact (hv.txDropped hg).unref hg

theorem sameField.scDiscardPort {p code : Nat} (hlow : g.addr < 0x400000) (h : sameField g s t) : sameField g s (t.scDiscardPort p code) :=
  h.foldl fun _ _ _ => refl.foldl fun _ _ _ => refl.discard hg hlow

end

end Sys2Proof.Machine
end

section
/-! PROOFS. The fields of lanes and ports, one of each kind to a lane or port, and which of them the operations of a lane or port write. -/

namespace Sys2Proof.Machine

/-! ### Fields of one kind -/

/-- The fields of lanes and ports that these statements speak of: the lane or port is the argument. -/
def lineFields : List (Nat → FRef) :=
  [LN_CTRL_enable, LN_CTRL_fec, LN_TXEQ_main, LN_TXEQ_post, LN_STAT_signal, LN_STAT_cdr_lock, LN_STAT_block_lock, LN_STAT_hi_ber, LN_STAT_aligned,
    LN_STAT_fec_lock, LN_STAT_tx_idle_active, LN_STAT_cal_busy, LN_STAT_clk_valid, LN_STAT_cfg_err, LN_INT_STAT_los, LN_INT_STAT_cdr_unlock,
    LN_INT_STAT_lock_loss_transient, LN_INT_STAT_lock_loss_lasting, LN_INT_STAT_hi_ber, LN_INT_STAT_align_loss, LN_INT_STAT_fec_uncorr,
    LN_INT_STAT_eye_low, LN_INT_STAT_cal_done, LN_EYE_width, LN_EYE_height, LN_EYE_stale, LN_EYE_THR_width_min, LN_FEC_CORR_count,
    LN_FEC_UNCORR_count, LN_SYM_ERR_count, LN_HDR_ERR_count, LN_LOCK_LOSS_transient, LN_LOCK_LOSS_lasting, PT_IDLE_idle, PT_STAT_link_up,
    PT_STAT_local_fault, PT_STAT_remote_fault, PT_STAT_paused, PT_STAT_draining, PT_STAT_looped, PT_INT_STAT_link_down, PT_INT_STAT_link_up,
    PT_INT_STAT_drain_done, PT_INT_STAT_remote_fault]

/-- What tells fields of different kinds apart: the block of the register, its place in the row of a lane or port, and the bits. -/
abbrev FRef.clear (f g : FRef) : Prop := f.addr / 0x40000 ≠ g.addr / 0x40000 ∨ f.addr % 0x200 ≠ g.addr % 0x200 ∨ f.hi < g.lo ∨ g.hi < f.lo

/-- Rows of 48 elements 0x200 apart: an address of the first element, or of one far from the row, moves with the element. -/
theorem Reg.find_line {r : Reg} {a l : Nat} (hl : l < 48) (hrow : r.s1 = 0x200 ∧ r.n1 = 48 ∧ r.n2 = 1 ∧ r.s2 = 4 ∧ r.base % 4 = 0)
    (hplace : r.base / 0x200 = a / 0x200 ∨ r.base / 0x200 + 48 ≤ a / 0x200 ∨ a / 0x200 + 48 ≤ r.base / 0x200) :
    r.find (a + 0x200 * l) = (r.find a).map fun ij => (ij.1 + l, ij.2) := by
  obtain ⟨hs1, hn1, hn2, hs2, haligned⟩ := hrow
  simp only [Reg.find, hs1, hn1, hn2, hs2]
  by_cases hsame : r.base / 0x200 = a / 0x200 ∧ r.base ≤ a
  · have hindex : (a + 0x200 * l - r.base) / 0x200 = l ∧ (a + 0x200 * l - r.base) % 0x200 = a - r.base := by omega
    have hfirst : (a - r.base) / 0x200 = 0 ∧ (a - r.base) % 0x200 = a - r.base := by omega
    rw [if_neg (show ¬ a + 0x200 * l < r.base by omega), if_neg (show ¬ a < r.base by omega), hindex.1, hindex.2, hfirst.1, hfirst.2]
    by_cases hcolumn : (a - r.base) / 4 < 1 ∧ (a - r.base) % 4 = 0
    · rw [if_pos ⟨hl, hcolumn⟩, if_pos ⟨by decide, hcolumn⟩, Option.map_some, Nat.zero_add]
    · rw [if_neg fun h => hcolumn h.2, if_neg fun h => hcolumn h.2, Option.map_none]
  · have hnone : ∀ k, k < 48 → (a + 0x200 * k < r.base ∨
        ¬ ((a + 0x200 * k - r.base) / 0x200 < 48 ∧ (a + 0x200 * k - r.base) % 0x200 / 4 < 1 ∧ (a + 0x200 * k - r.base) % 0x200 % 4 = 0)) := by
      intro k hk
      omega
    have hoff : ∀ k, k < 48 → (if a + 0x200 * k < r.base then none else
        if (a + 0x200 * k - r.base) / 0x200 < 48 ∧ (a + 0x200 * k - r.base) % 0x200 / 4 < 1 ∧ (a + 0x200 * k - r.base) % 0x200 % 4 = 0 then
          some ((a + 0x200 * k - r.base) / 0x200, (a + 0x200 * k - r.base) % 0x200 / 4) else none) = none := by
      intro k hk
      split
      · rfl
      next hlow => exact if_neg ((hnone k hk).resolve_left hlow)
    have hzero := hoff 0 (by decide)
    rw [Nat.mul_zero, Nat.add_zero] at hzero
    rw [hoff l hl, hzero, Option.map_none]

/-- The registers of lane 0 and of port 0, their counters among them. -/
abbrev lineAddr (a : Nat) : Prop := a / 0x200 = 0x800 ∨ a / 0x200 = 0xA00 ∨ a / 0x200 = 0xA80

/-- A register of lane 0 or port 0 has one on each lane or port (R48). -/
theorem regFind_line {a l : Nat} (ha : lineAddr a) (hl : l < 48) :
    regFind (a + 0x200 * l) = (regFind a).map fun e => (e.1, e.2.1 + l, e.2.2) := by
  have hrows : regsAt (a + 0x200 * l) = regsAt a ∧ ∀ r ∈ regsAt a, r.find (a + 0x200 * l) = (r.find a).map fun ij => (ij.1 + l, ij.2) := by
    have hlanes : ∀ r ∈ regsLn, (r.s1 = 0x200 ∧ r.n1 = 48 ∧ r.n2 = 1 ∧ r.s2 = 4 ∧ r.base % 4 = 0) ∧ r.base / 0x200 = 0x800 ∨
        0x106000 ≤ r.base := by decide
    have hports : ∀ r ∈ regsPt, (r.s1 = 0x200 ∧ r.n1 = 48 ∧ r.n2 = 1 ∧ r.s2 = 4 ∧ r.base % 4 = 0) ∧
        (r.base / 0x200 = 0xA00 ∨ r.base / 0x200 = 0xA80) := by decide
    have hpt : 0x140000 ≤ a → a + 0x200 * l < 0x180000 → regsAt (a + 0x200 * l) = regsPt ∧ regsAt a = regsPt := fun hlow hhigh => by
      simp only [regsAt]
      refine ⟨?_, ?_⟩ <;>
        rw [if_neg (by omega), if_neg (by omega), if_neg (by omega), if_neg (by omega), if_neg (by omega), if_pos (by omega)]
    rcases ha with ha | ha
    · have hln : regsAt (a + 0x200 * l) = regsLn ∧ regsAt a = regsLn := by
        simp only [regsAt]
        refine ⟨?_, ?_⟩ <;> rw [if_neg (by omega), if_neg (by omega), if_neg (by omega), if_neg (by omega), if_pos (by omega)]
      rw [hln.1, hln.2]
      refine ⟨rfl, fun r hr => ?_⟩
      obtain ⟨hrow, hbase⟩ | hbay := hlanes r hr
      · exact Reg.find_line hl hrow (.inl (by omega))
      · rw [Reg.find, if_pos (by omega), Reg.find, if_pos (by omega), Option.map_none]
    · obtain ⟨hat, hat0⟩ := hpt (by omega) (by omega)
      rw [hat, hat0]
      refine ⟨rfl, fun r hr => ?_⟩
      obtain ⟨hrow, hbase⟩ := hports r hr
      exact Reg.find_line hl hrow (by omega)
  have hmap : ∀ rs : List Reg, (∀ r ∈ rs, r.find (a + 0x200 * l) = (r.find a).map fun ij => (ij.1 + l, ij.2)) →
      (rs.findSome? fun r => (r.find (a + 0x200 * l)).map fun ij => (r, ij.1, ij.2)) =
        (rs.findSome? fun r => (r.find a).map fun ij => (r, ij.1, ij.2)).map fun e => (e.1, e.2.1 + l, e.2.2) := by
    intro rs hfind
    induction rs with
    | nil => rfl
    | cons r rs ih =>
      rw [List.findSome?_cons, List.findSome?_cons, hfind r List.mem_cons_self]
      cases r.find a with
      | none => exact ih fun r hr => hfind r (List.mem_cons_of_mem _ hr)
      | some ij => rfl
  rw [regFind, hrows.1, hmap _ hrows.2, regFind]

theorem fieldBits_line {a l : Nat} (ha : lineAddr a) (hl : l < 48) : fieldBits (a + 0x200 * l) = fieldBits a := by
  rw [fieldBits, regFind_line ha hl, fieldBits]
  cases regFind a <;> rfl

theorem lineFields_blocks : ∀ F ∈ lineFields, (0x100000 ≤ (F 0).addr ∧ (F 0).addr < 0x100044) ∨ (0x140000 ≤ (F 0).addr ∧ (F 0).addr < 0x14002C) := by
  decide

/-- Each field of a kind stands at its place in the row of its lane or port, and is a field of the map. -/
theorem lineFields_rows : ∀ l : Fin 48, ∀ F ∈ lineFields, (F l).addr = (F 0).addr + 0x200 * l ∧ (F l).hi = (F 0).hi ∧ (F l).lo = (F 0).lo ∧
    (F l).ok = true := by
  have hplace : ∀ l, ∀ F ∈ lineFields, (F l).addr = (F 0).addr + 0x200 * l ∧ (F l).hi = (F 0).hi ∧ (F l).lo = (F 0).lo := by
    intro l
    simp only [lineFields, List.forall_mem_cons, List.not_mem_nil, false_implies, implies_true, and_true]
    repeat' apply And.intro
    all_goals rfl
  have hfirst : ∀ F ∈ lineFields, (F 0).ok = true := by decide
  intro l F hF
  obtain ⟨haddr, hhi, hlo⟩ := hplace l F hF
  have hblock := lineFields_blocks F hF
  refine ⟨haddr, hhi, hlo, ?_⟩
  rw [FRef.ok, haddr, fieldBits_line (by omega) l.isLt, hhi, hlo]
  exact hfirst F hF

section
variable {F : Nat → FRef} (hF : F ∈ lineFields) {l : Nat} (hl : l < 48)
include hF hl

theorem FRef.ok_line : (F l).ok = true := (lineFields_rows ⟨l, hl⟩ F hF).2.2.2

theorem FRef.line_bounds :
    (0x100000 ≤ (F l).addr ∧ (F l).addr < 0x106000) ∨ (0x140000 ≤ (F l).addr ∧ (F l).addr < 0x146000) := by
  have hrow := (lineFields_rows ⟨l, hl⟩ F hF).1
  have hblock := lineFields_blocks F hF
  simp only at hrow
  omega

theorem FRef.ofLine_line : (F l).ofLine := by
  have hbounds := FRef.line_bounds hF hl
  unfold FRef.ofLine
  omega

theorem FRef.apart_line {G : Nat → FRef} (hG : G ∈ lineFields) {k : Nat} (hk : k < 48) (hclear : (F 0).clear (G 0)) : (F l).apart (G k) := by
  obtain ⟨hFrow, hFhi, hFlo, -⟩ := lineFields_rows ⟨l, hl⟩ F hF
  obtain ⟨hGrow, hGhi, hGlo, hok⟩ := lineFields_rows ⟨k, hk⟩ G hG
  have hFblock := lineFields_blocks F hF
  have hGblock := lineFields_blocks G hG
  simp only at hFrow hGrow hFhi hGhi hFlo hGlo hok
  unfold FRef.apart
  by_cases hsame : (G k).addr = (F l).addr
  · exact .inr ⟨hok, by omega⟩
  · exact .inl hsame

/-- No field of these kinds stands in a register of the bays. -/
theorem FRef.apart_bay {b hi lo : Nat} (hb : b < 12) : (F l).apart ⟨LN_BAY_MODE b, hi, lo⟩ := by
  have hbounds := FRef.line_bounds hF hl
  exact .inl (by simp only [LN_BAY_MODE]; omega)

/-- The movement of frames writes no field of these kinds. -/
theorem FRef.offQueues_line : (F l).offQueues := by
  have hbounds := FRef.line_bounds hF hl
  refine ⟨by omega, by omega, fun p => ?_, fun p => ?_⟩
  · simp only [PR_CNT_LEN_MISMATCH, PR_CNT_LEN_LATE]
    omega
  · obtain ⟨hrow, hhi, hlo, hok⟩ := lineFields_rows ⟨l, hl⟩ F hF
    have hfree : ∀ F ∈ lineFields, (PT_INT_STAT_txts_ovf 0).clear (F 0) ∧ (PT_TXTS_OVF_count 0).clear (F 0) := by decide
    have hblock := lineFields_blocks F hF
    obtain ⟨hint, hcount⟩ := hfree F hF
    simp only [FRef.clear, PT_INT_STAT_txts_ovf, PT_TXTS_OVF_count, PT_INT_STAT, PT_TXTS_OVF] at hint hcount
    simp only at hrow hhi hlo hok
    simp only [FRef.apart, PT_INT_STAT_txts_ovf, PT_TXTS_OVF_count, PT_INT_STAT, PT_TXTS_OVF, hok, true_and]
    omega

end

end Sys2Proof.Machine
end

section
/-! PROOFS. What the operations of a lane and of a port leave of the fields of lanes and ports, and what they leave of a lane's loss and of a
port's fault (R81 to R85, R93, R100). -/

namespace Sys2Proof.Machine

/-! ### Beside the writes of an operation -/

/-- Fields that a receive calibration writes on its lane (R93). -/
def calFields : List (Nat → FRef) := [LN_STAT_cal_busy, LN_EYE_stale, LN_STAT_clk_valid]

/-- Fields that a lasting loss writes on its lane and port (R84). -/
def lossFields : List (Nat → FRef) := [LN_LOCK_LOSS_lasting, LN_INT_STAT_lock_loss_lasting, PT_INT_STAT_link_down] ++ calFields

/-- Fields that a change of its link brings with it on a port (R84, R107). -/
def movedFields : List (Nat → FRef) := [PT_STAT_draining, PT_IDLE_idle, PT_INT_STAT_drain_done, PT_INT_STAT_link_up]

/-- Fields that the following of its lanes writes on a port (R81, R100). -/
def linkFields : List (Nat → FRef) := [PT_STAT_local_fault, PT_STAT_link_up] ++ movedFields

/-- Fields that a restart writes on its lane (R79, R109). -/
def restartFields : List (Nat → FRef) :=
  [LN_STAT_cdr_lock, LN_STAT_block_lock, LN_STAT_aligned, LN_STAT_fec_lock, LN_STAT_hi_ber, LN_STAT_clk_valid]

/-- The field stands among the registers of lanes and ports, apart from the fields of `W` on every lane and port. -/
def FRef.beside (g : FRef) (W : List (Nat → FRef)) : Prop := g.ofLine ∧ g.offQueues ∧ ∀ F ∈ W, ∀ l, l < 48 → (F l).apart g

section
variable {g : FRef} {W : List (Nat → FRef)} (hg : g.beside W)
include hg

theorem FRef.beside.ofLine : g.ofLine := hg.1

theorem FRef.beside.offQueues : g.offQueues := hg.2.1

theorem FRef.beside.apart (F : Nat → FRef) (hF : F ∈ W) (l : Nat) (hl : l < 48) : (F l).apart g := hg.2.2 F hF l hl

end

theorem FRef.beside_line {G : Nat → FRef} (hG : G ∈ lineFields) {k : Nat} (hk : k < 48) {W : List (Nat → FRef)} (hW : W ⊆ lineFields)
    (hclear : ∀ F ∈ W, (F 0).clear (G 0)) : (G k).beside W :=
  ⟨FRef.ofLine_line hG hk, FRef.offQueues_line hG hk, fun F hF _ hl => FRef.apart_line (hW hF) hl hG hk (hclear F hF)⟩

theorem FRef.beside_bay {b hi lo : Nat} (hb : b < 12) {W : List (Nat → FRef)} (hW : W ⊆ lineFields) : FRef.beside ⟨LN_BAY_MODE b, hi, lo⟩ W := by
  have hbounds : 0x100000 ≤ LN_BAY_MODE b ∧ LN_BAY_MODE b < 0x140000 := by
    simp only [LN_BAY_MODE]
    omega
  obtain ⟨hlow, hhigh⟩ := hbounds
  exact ⟨⟨hlow, hhigh.trans (by decide)⟩, .of_lane hlow hhigh, fun F hF _ hl => FRef.apart_bay (hW hF) hl hb⟩

theorem FRef.beside.mono {g : FRef} {V W : List (Nat → FRef)} (hg : g.beside W) (h : V ⊆ W) : g.beside V :=
  ⟨hg.ofLine, hg.offQueues, fun F hF => hg.apart F (h hF)⟩

/-! ### What a lane and a port hold beside their registers -/

theorem State.portOf_setPort (s : State) (p q : Nat) (x : Port) : (s.setPort p x).portOf q = if q = p then x else s.portOf q := by
  unfold State.portOf State.setPort
  split
  next h => rw [h]; exact Tab.get_put_same ..
  next h => exact Tab.get_put_ne _ _ _ _ h

theorem State.laneOf_setLane (s : State) (l k : Nat) (x : Lane) : (s.setLane l x).laneOf k = if k = l then x else s.laneOf k := by
  unfold State.laneOf State.setLane
  split
  next h => rw [h]; exact Tab.get_put_same ..
  next h => exact Tab.get_put_ne _ _ _ _ h

theorem State.portOf_congr {s t : State} (h : t.port = s.port) (p : Nat) : t.portOf p = s.portOf p := by rw [State.portOf, h, State.portOf]

theorem State.laneOf_congr {s t : State} (h : t.lane = s.lane) (l : Nat) : t.laneOf l = s.laneOf l := by rw [State.laneOf, h, State.laneOf]

/-! ### Operations of a lane -/

section
variable {g f : FRef} {s t : State} {l : Nat}

theorem sameField.laneCause (h : sameField g s t) (hf : f.apart g) : sameField g s (t.laneCause l f) := (h.set hf).ite h

theorem sameField.laneClk (hg : g.ofLine) (hf : (LN_STAT_clk_valid l).apart g) (h : sameField g s t) : sameField g s (t.laneClk l) := by
  unfold State.laneClk
  extract_lets ok s1 s2 s3 s4
  have h1 : sameField g s s1 := h.set hf
  have h2 : sameField g s s2 := h1.refLoss hg
  have h3 : sameField g s s3 := ite (h2.calLost hg) h2
  have h4 : sameField g s s4 := ite h2 (h2.calLost hg)
  exact ite h1 (ite h2 (ite (ite (h3.linkWait hg) h3) (h4.linkClockLost hg)))

theorem sameField.lnCalBegin (hg : g.beside calFields) (hl : l < 48) (h : sameField g s t) : sameField g s (t.lnCalBegin l) := by
  have hcal : ∀ F ∈ calFields, (F l).apart g := fun F hF => hg.apart F hF l hl
  have hbusy : sameField g s ((t.raise (LN_STAT_cal_busy l)).raise (LN_EYE_stale l)) :=
    (h.set (hcal LN_STAT_cal_busy (by simp [calFields]))).set (hcal LN_EYE_stale (by simp [calFields]))
  unfold State.lnCalBegin
  exact ite h (laneClk hg.ofLine (hcal LN_STAT_clk_valid (by simp [calFields])) (hbusy.regs rfl))

theorem sameField.laneRepair (hg : g.beside calFields) (hl : l < 48) (h : sameField g s t) : sameField g s (t.laneRepair l) := by
  unfold State.laneRepair
  extract_lets _ _ u
  have hu : sameField g s u := ite (h.regs rfl) h
  exact ite (hu.lnCalBegin hg hl) (hu.regs rfl)

theorem sameField.lossLasting (hg : g.beside lossFields) (hl : l < 48) (h : sameField g s t) : sameField g s (t.lossLasting l) := by
  have hloss : ∀ F ∈ lossFields, (F l).apart g := fun F hF => hg.apart F hF l hl
  unfold State.lossLasting
  extract_lets _ u v _ w
  have hu : sameField g s u := h.regs rfl
  have hv : sameField g s v := laneCause (hu.set (hloss LN_LOCK_LOSS_lasting (by simp [lossFields])))
    (hloss LN_INT_STAT_lock_loss_lasting (by simp [lossFields]))
  have hw : sameField g s w := regs (hv.set (hloss PT_INT_STAT_link_down (by simp [lossFields]))) rfl
  exact (hw.hlLasting hg.ofLine).laneRepair (hg.mono (List.subset_append_right _ _)) hl

theorem sameField.laneTx (hf : (LN_STAT_tx_idle_active l).apart g) (h : sameField g s t) : sameField g s (t.laneTx l) := h.set hf

theorem sameField.laneCheck (hf : (LN_STAT_cfg_err l).apart g) (h : sameField g s t) : sameField g s (t.laneCheck l) := h.set hf

theorem sameField.lossForget (hf : (LN_STAT_aligned l).apart g) (h : sameField g s t) : sameField g s (t.lossForget l) :=
  set (h.regs rfl) hf

theorem sameField.laneRestart (hg : g.beside restartFields) (hl : l < 48) (h : sameField g s t) : sameField g s (t.laneRestart l) := by
  have hrestart : ∀ F ∈ restartFields, ∀ k, k < 48 → (F k).apart g := hg.apart
  unfold State.laneRestart
  extract_lets u
  have hu : sameField g s u := by
    refine h.foldl fun v f hf => refl.set ?_
    simp only [List.mem_cons, List.not_mem_nil, or_false] at hf
    obtain rfl | rfl | rfl | rfl | rfl := hf <;> exact hrestart _ (by simp [restartFields]) l hl
  refine laneClk hg.ofLine (hrestart _ (by simp [restartFields]) l hl) ?_
  exact lossForget (hrestart _ (by simp [restartFields]) _ (State.headLane_lt _ hl)) (lossForget (hrestart _ (by simp [restartFields]) l hl) hu)

end

/-! ### Operations of a port -/

/-- What a port brings with it when its link has been up or not, and now is or is not (R84, R107, R199). -/
def State.linkMoved (s : State) (p : Nat) (was : Bool) : State :=
  (if s.on (PT_STAT_link_up p) then s.portUp p else (if was then s.portDown p else s).linkPortLost p).faultTx p

/-- The local fault of a port (R81): a lane with hi_ber, lost alignment, or lost block lock. -/
def State.faulty (s : State) (p : Nat) : Bool :=
  (s.lanesOf p).any (fun l => s.on (LN_STAT_hi_ber l)) || (s.portOf p).alignLost || (s.laneOf p).lost

/-- Port `p` with its fault told. -/
def State.faultTold (s : State) (p : Nat) : State := s.setB (PT_STAT_local_fault p) (s.faulty p)

/-- Port `p` with its fault and its link told. -/
def State.linkTold (s : State) (p : Nat) : State :=
  (s.faultTold p).setB (PT_STAT_link_up p) ((s.faultTold p).rxLocked p && !s.faulty p && !(s.faultTold p).on (PT_STAT_remote_fault p))

theorem State.portLink_eq (s : State) (p : Nat) : s.portLink p = (s.linkTold p).linkMoved p (s.on (PT_STAT_link_up p)) := rfl

section
variable {g : FRef} {s t : State} {p : Nat} (hp : p < 48)
include hp

theorem sameField.portIdle (hg : g.beside movedFields) (h : sameField g s t) : sameField g s (t.portIdle p) := by
  have hmoved : ∀ F ∈ movedFields, (F p).apart g := fun F hF => hg.apart F hF p hp
  exact ((h.set (hmoved PT_STAT_draining (by simp [movedFields]))).set (hmoved PT_IDLE_idle (by simp [movedFields]))).set
    (hmoved PT_INT_STAT_drain_done (by simp [movedFields]))

theorem sameField.portDown (hg : g.beside movedFields) (h : sameField g s t) : sameField g s (t.portDown p) := by
  have hlow : g.addr < 0x400000 := lt_trans hg.ofLine.2 (by decide)
  unfold State.portDown
  extract_lets u
  have hu : sameField g s u := ite (portIdle hp hg (h.scDiscardPort hg.offQueues hlow)) h
  exact ite (hu.scDiscardPort hg.offQueues hlow) hu

theorem sameField.linkMoved {was : Bool} (hg : g.beside movedFields) (h : sameField g s t) : sameField g s (t.linkMoved p was) := by
  have hup : sameField g s (t.portUp p) :=
    ite (regs (h.set (hg.apart PT_INT_STAT_link_up (by simp [movedFields]) p hp)) rfl) h
  have hdown : sameField g s ((if was then t.portDown p else t).linkPortLost p) := (ite (h.portDown hp hg) h).linkPortLost hg.ofLine
  exact (ite hup hdown).trans (of_rd (State.rd_faultTx _ p _))

theorem sameField.portLink (hg : g.beside linkFields) (h : sameField g s t) : sameField g s (t.portLink p) := by
  have hlink : ∀ F ∈ linkFields, (F p).apart g := fun F hF => hg.apart F hF p hp
  exact linkMoved hp (hg.mono (by simp [linkFields])) ((h.set (hlink PT_STAT_local_fault (by simp [linkFields]))).set
    (hlink PT_STAT_link_up (by simp [linkFields])))

end

end Sys2Proof.Machine
end

section
/-! PROOFS. The receive path of a port and its losses: what decides them, and what the end and the return of block lock leave (R77, R81 to R84,
R93). -/

namespace Sys2Proof.Machine

/-! ### What a port's lanes decide -/

section
variable {s t : State} {p : Nat}

theorem State.bayMode_congr (h : sameField (LN_BAY_MODE_mode (p / 4)) s t) : t.bayMode (p / 4) = s.bayMode (p / 4) := by
  unfold State.bayMode
  rw [show t.get (LN_BAY_MODE_mode (p / 4)) = s.get (LN_BAY_MODE_mode (p / 4)) from h]

theorem State.wide_congr (h : sameField (LN_BAY_MODE_mode (p / 4)) s t) : t.wide p = s.wide p := by
  unfold State.wide
  rw [State.bayMode_congr h]

theorem State.headLane_congr (h : sameField (LN_BAY_MODE_mode (p / 4)) s t) : t.headLane p = s.headLane p := by
  unfold State.headLane
  rw [State.wide_congr h]

theorem State.lanesOf_congr (h : sameField (LN_BAY_MODE_mode (p / 4)) s t) : t.lanesOf p = s.lanesOf p := by
  unfold State.lanesOf
  rw [State.wide_congr h, State.bayMode_congr h]

theorem State.lanesOf_lt (hp : p < 48) {l : Nat} (hl : l ∈ s.lanesOf p) : l < 48 := by
  unfold State.lanesOf at hl
  split at hl
  · split at hl
    · simp only [List.mem_cons, List.not_mem_nil, or_false] at hl
      omega
    · cases hl
  · split at hl
    · cases hl
    · rwa [List.mem_singleton.1 hl]

/-- What a kind of field tells of the lanes of a port. -/
theorem State.lanes_any_congr (hp : p < 48) (h : sameField (LN_BAY_MODE_mode (p / 4)) s t) {G : Nat → FRef} (hG : ∀ l < 48, sameField (G l) s t) :
    (t.lanesOf p).any (fun l => t.on (G l)) = (s.lanesOf p).any (fun l => s.on (G l)) := by
  rw [State.lanesOf_congr h, Bool.eq_iff_iff, List.any_eq_true, List.any_eq_true]
  exact exists_congr fun l => and_congr_right fun hl => by rw [(hG l (State.lanesOf_lt hp hl)).on]

theorem State.rxLocked_congr (hp : p < 48) (h : sameField (LN_BAY_MODE_mode (p / 4)) s t) (hblock : ∀ l < 48, sameField (LN_STAT_block_lock l) s t)
    (haligned : sameField (LN_STAT_aligned p) s t) : t.rxLocked p = s.rxLocked p := by
  have hall : (s.lanesOf p).all (fun l => t.on (LN_STAT_block_lock l)) = (s.lanesOf p).all (fun l => s.on (LN_STAT_block_lock l)) := by
    rw [Bool.eq_iff_iff, List.all_eq_true, List.all_eq_true]
    exact forall₂_congr fun l hl => by rw [(hblock l (State.lanesOf_lt hp hl)).on]
  unfold State.rxLocked
  rw [State.lanesOf_congr h, State.wide_congr h, haligned.on, hall]

end

/-! ### The fault and the link of a port -/

theorem linkFields_line : linkFields ⊆ lineFields := by simp [linkFields, movedFields, lineFields]
theorem lossFields_line : lossFields ⊆ lineFields := by simp [lossFields, calFields, lineFields]
theorem calFields_line : calFields ⊆ lineFields := by simp [calFields, lineFields]

section
variable (s : State) {p : Nat} (hp : p < 48)
include hp

theorem State.portLink_local_fault : (s.portLink p).on (PT_STAT_local_fault p) = s.faulty p := by
  have hmoved : (PT_STAT_local_fault p).beside movedFields :=
    FRef.beside_line (by simp [lineFields]) hp (List.Subset.trans (List.subset_append_right _ _) linkFields_line) (by decide)
  have hlink : (PT_STAT_link_up p).apart (PT_STAT_local_fault p) := FRef.apart_line (by simp [lineFields]) hp (by simp [lineFields]) hp (by decide)
  rw [State.portLink_eq, (sameField.refl.linkMoved hp hmoved).on, State.linkTold, State.setB_eq _ (PT_STAT_link_up p),
    (sameField.refl.set hlink).on, State.faultTold,
    on_setB_same _ _ (FRef.ok_line (by simp [lineFields]) hp) rfl]

theorem State.rxLocked_faultTold : (s.faultTold p).rxLocked p = s.rxLocked p := by
  have hset : ∀ {f : FRef}, (PT_STAT_local_fault p).apart f → sameField f s (s.faultTold p) := fun h => sameField.refl.set h
  refine State.rxLocked_congr hp (hset (FRef.apart_bay (by simp [lineFields]) hp (by omega))) (fun l hl => hset ?_) (hset ?_)
  · exact FRef.apart_line (by simp [lineFields]) hp (by simp [lineFields]) hl (by decide)
  · exact FRef.apart_line (by simp [lineFields]) hp (by simp [lineFields]) hp (by decide)

theorem State.linkTold_link_up :
    (s.linkTold p).on (PT_STAT_link_up p) = (s.rxLocked p && !s.faulty p && !s.on (PT_STAT_remote_fault p)) := by
  have hremote : (PT_STAT_local_fault p).apart (PT_STAT_remote_fault p) :=
    FRef.apart_line (by simp [lineFields]) hp (by simp [lineFields]) hp (by decide)
  rw [State.linkTold, on_setB_same _ _ (FRef.ok_line (by simp [lineFields]) hp) rfl, s.rxLocked_faultTold hp, State.faultTold,
    State.setB_eq, (sameField.refl.set hremote).on]

theorem State.portLink_link_up :
    (s.portLink p).on (PT_STAT_link_up p) = (s.rxLocked p && !s.faulty p && !s.on (PT_STAT_remote_fault p)) := by
  have hmoved : (PT_STAT_link_up p).beside movedFields :=
    FRef.beside_line (by simp [lineFields]) hp (List.Subset.trans (List.subset_append_right _ _) linkFields_line) (by decide)
  rw [State.portLink_eq, (sameField.refl.linkMoved hp hmoved).on, s.linkTold_link_up hp]

end

/-- A port that follows its lanes keeps its alignment, and while its link is down what it has told of that. -/
theorem State.portLink_portOf (s : State) {p : Nat} (hp : p < 48) : ((s.portLink p).portOf p).alignLost = (s.portOf p).alignLost ∧
    ((s.portLink p).on (PT_STAT_link_up p) = false → ((s.portLink p).portOf p).down = (s.portOf p).down) := by
  have htold : (s.linkTold p).portOf p = s.portOf p := rfl
  have hfault : ∀ t : State, ((t.faultTx p).portOf p).alignLost = (t.portOf p).alignLost ∧ ((t.faultTx p).portOf p).down = (t.portOf p).down := by
    intro t
    unfold State.faultTx
    extract_lets on
    split
    · exact ⟨rfl, rfl⟩
    · rw [State.portOf_congr (State.emit_port ..), State.portOf_setPort, if_pos rfl]
      exact ⟨rfl, rfl⟩
  rw [s.portLink_link_up hp, ← s.linkTold_link_up hp, State.portLink_eq, State.linkMoved, (hfault _).1, (hfault _).2, ← htold]
  split
  next hon =>
    refine ⟨?_, fun hoff => absurd hoff (by simp [hon])⟩
    unfold State.portUp
    split
    · rw [State.portOf_setPort, if_pos rfl]
    · rfl
  next =>
    have hport : ((if s.on (PT_STAT_link_up p) then (s.linkTold p).portDown p else s.linkTold p).linkPortLost p).port = (s.linkTold p).port := by
      refine (State.linkPortLost_parts _ p .port (by decide)).trans ?_
      split
      · exact State.portDown_parts _ p .port (by decide)
      · rfl
    rw [State.portOf_congr hport]
    exact ⟨rfl, fun _ => rfl⟩

theorem State.portLink_laneOf (s : State) (p l : Nat) : (s.portLink p).laneOf l = s.laneOf l :=
  State.laneOf_congr (State.portLink_parts s p .lane (by decide)) l

theorem State.laneClk_laneOf (s : State) (l k : Nat) : (s.laneClk l).laneOf k = s.laneOf k :=
  State.laneOf_congr (State.laneClk_parts s l .lane (by decide)) k

theorem State.laneClk_portOf (s : State) (l p : Nat) : (s.laneClk l).portOf p = s.portOf p :=
  State.portOf_congr (State.laneClk_parts s l .port (by decide)) p

/-! ### A lasting loss -/

/-- Both lanes have the same loss under way. -/
def Lane.sameLoss (x y : Lane) : Prop := y.loss = x.loss ∧ y.lost = x.lost

theorem State.lnCalBegin_loss (s : State) (l k : Nat) : (s.laneOf k).sameLoss ((s.lnCalBegin l).laneOf k) := by
  unfold State.lnCalBegin
  split
  · exact ⟨rfl, rfl⟩
  · rw [State.laneClk_laneOf, State.laneOf_setLane]
    split
    next hk => rw [hk]; exact ⟨rfl, rfl⟩
    next => exact ⟨rfl, rfl⟩

theorem State.laneRepair_loss (s : State) (l k : Nat) : (s.laneOf k).sameLoss ((s.laneRepair l).laneOf k) := by
  unfold State.laneRepair
  extract_lets _ _ t _
  have ht : t.laneOf k = s.laneOf k := State.laneOf_congr (by simp only [t]; split <;> rfl) k
  rw [← ht]
  split
  · exact State.lnCalBegin_loss t l k
  · rw [State.laneOf_setLane]
    split
    next hk => rw [hk]; exact ⟨rfl, rfl⟩
    next => exact ⟨rfl, rfl⟩

theorem State.lossLasting_loss (s : State) (h : Nat) :
    ((s.lossLasting h).laneOf h).loss = .lasting ∧ ((s.lossLasting h).laneOf h).lost = (s.laneOf h).lost := by
  unfold State.lossLasting
  extract_lets _ t u _ v
  obtain ⟨hloss, hlost⟩ := (v.hlLasting 0x01 h 0xFFFF 0).laneRepair_loss h h
  have hlane : (v.hlLasting 0x01 h 0xFFFF 0).laneOf h = t.laneOf h := by
    refine (State.laneOf_congr (State.hlLasting_parts v 0x01 h 0xFFFF 0 .lane (by decide)) h).trans (State.laneOf_congr ?_ h)
    exact State.laneCause_parts _ h _ .lane (by decide)
  rw [hloss, hlost, hlane, State.laneOf_setLane, if_pos rfl]
  exact ⟨rfl, rfl⟩

theorem State.lossLasting_port (s : State) (h : Nat) :
    ((s.lossLasting h).portOf h).down = true ∧ ((s.lossLasting h).portOf h).alignLost = (s.portOf h).alignLost := by
  unfold State.lossLasting
  extract_lets _ t u _ v
  have hport : ((v.hlLasting 0x01 h 0xFFFF 0).laneRepair h).port = v.port :=
    (State.laneRepair_parts _ h .port (by decide)).trans (State.hlLasting_parts v 0x01 h 0xFFFF 0 .port (by decide))
  have hu : u.portOf h = s.portOf h := State.portOf_congr (State.laneCause_parts _ h _ .port (by decide)) h
  rw [State.portOf_congr hport, State.portOf_setPort, if_pos rfl, ← hu]
  exact ⟨rfl, rfl⟩

/-! ### The end of block lock -/

/-- The loss of lane `l`'s port as the end of its lock finds it: retried, lasting, or not classified (R84, R93, R291). -/
def State.lossTaken (s : State) (l : Nat) : State :=
  let h := s.headLane l
  let s := s.setLane h { s.laneOf h with lost := true }
  if (s.lanesOf h).any (fun k => s.on (LN_STAT_cal_busy k)) ∨ s.linkState h = 3 then s else
    match (s.laneOf h).loss with
    | .none => s.setLane h { s.laneOf h with loss := .retry }
    | .returned => s.lossLasting h
    | _ => s

theorem State.lockEnds_eq (s : State) (l : Nat) : s.lockEnds l = ((s.lossTaken l).laneClk l).portLink (s.headLane l) := rfl

theorem State.lossTaken_lost (s : State) (l : Nat) : ((s.lossTaken l).laneOf (s.headLane l)).lost = true := by
  unfold State.lossTaken
  extract_lets h _ t
  have ht : (t.laneOf h).lost = true := by rw [State.laneOf_setLane, if_pos rfl]
  split
  · exact ht
  split
  · rw [State.laneOf_setLane, if_pos rfl]
    exact ht
  · rw [(t.lossLasting_loss h).2]
    exact ht
  · exact ht

/-- A first loss, without a calibration of the lane or of its link, is retried. -/
theorem State.lossTaken_retry {s : State} {l : Nat} (hcal : (s.lanesOf (s.headLane l)).any (fun k => s.on (LN_STAT_cal_busy k)) = false)
    (hlink : s.linkState (s.headLane l) ≠ 3) (hnone : (s.laneOf (s.headLane l)).loss = .none) :
    ((s.lossTaken l).laneOf (s.headLane l)).loss = .retry := by
  unfold State.lossTaken
  extract_lets h _ t _
  have ht : (t.laneOf h).loss = .none := by
    rw [State.laneOf_setLane, if_pos rfl]
    exact hnone
  have hclass : ¬ ((t.lanesOf h).any (fun k => t.on (LN_STAT_cal_busy k)) = true ∨ t.linkState h = 3) := fun hor =>
    hor.elim (fun hany => Bool.false_ne_true (hcal.symm.trans hany)) hlink
  rw [if_neg hclass, ht, State.laneOf_setLane, if_pos rfl]

theorem State.lossTaken_alignLost (s : State) (l : Nat) :
    ((s.lossTaken l).portOf (s.headLane l)).alignLost = (s.portOf (s.headLane l)).alignLost := by
  unfold State.lossTaken
  extract_lets h _ t
  split
  · rfl
  split
  · rfl
  · exact (State.lossLasting_port _ h).2
  · rfl

section
variable {g : FRef} {s t : State} {l : Nat} (hl : l < 48)
include hl

theorem sameField.lossTaken (hg : g.beside lossFields) (h : sameField g s t) : sameField g s (t.lossTaken l) := by
  unfold State.lossTaken
  extract_lets k _ u
  have hu : sameField g s u := h.regs rfl
  refine ite hu ?_
  split
  · exact hu.regs rfl
  · exact hu.lossLasting hg (State.headLane_lt t hl)
  · exact hu

theorem sameField.lockEnds (hg : g.beside (lossFields ++ linkFields)) (h : sameField g s t) : sameField g s (t.lockEnds l) := by
  have hclk : (LN_STAT_clk_valid l).apart g := hg.apart _ (by simp [lossFields, calFields]) l hl
  rw [State.lockEnds_eq]
  exact portLink (State.headLane_lt t hl) (hg.mono (List.subset_append_right _ _))
    (laneClk hg.ofLine hclk (h.lossTaken hl (hg.mono (List.subset_append_left _ _))))

/-- The end of block lock is a local fault (R81). -/
theorem State.lockEnds_local_fault (s : State) : (s.lockEnds l).on (PT_STAT_local_fault (s.headLane l)) = true := by
  rw [State.lockEnds_eq, State.portLink_local_fault _ (State.headLane_lt s hl), State.faulty, State.laneClk_laneOf, State.lossTaken_lost,
    Bool.or_true]

theorem sameField.lockReturns (hg : g.beside linkFields) (h : sameField g s t) : sameField g s (t.lockReturns l) := by
  unfold State.lockReturns
  split
  · exact portLink hl hg (h.regs rfl)
  · exact h.portLink hl hg

end

end Sys2Proof.Machine
end

section
/-! PROOFS. The receive conditions of a lane (R81, R82, R84). -/

namespace Sys2Proof.Machine

/-! ### One lane's fields -/

section
variable {F G : Nat → FRef} {l : Nat} (hl : l < 48) {s t : State} {b : Bool}
include hl

/-- Two kinds of field, of one lane. -/
theorem FRef.apart_at (hkinds : F ∈ lineFields ∧ G ∈ lineFields) (hclear : (F 0).clear (G 0)) : (F l).apart (G l) :=
  FRef.apart_line hkinds.1 hl hkinds.2 hl hclear

theorem State.on_clear_line (hF : F ∈ lineFields) (hbit : (F l).hi = (F l).lo) : (s.set (F l) 0).on (F l) = false :=
  State.on_clear s (FRef.ok_line hF hl) hbit

theorem State.on_raise_line (hF : F ∈ lineFields) (hbit : (F l).lo = (F l).hi) : (s.raise (F l)).on (F l) = true :=
  State.on_raise s (FRef.ok_line hF hl) hbit

theorem State.on_setB_line (hF : F ∈ lineFields) (hbit : (F l).hi = (F l).lo) : (s.setB (F l) b).on (F l) = b :=
  on_setB_same s b (FRef.ok_line hF hl) hbit

/-- The delivery of interrupts leaves the registers of lanes and ports alone. -/
theorem State.deliver_get {n : Nat} (hF : F ∈ lineFields) (h : s.get (F l) = n) : s.deliver.get (F l) = n := by
  have hbounds := FRef.line_bounds hF hl
  rw [State.get_deliver s (by simp only [SYS_PBA]; omega) (by simp only [SYS_PBA]; omega), h]

theorem State.deliver_on (hF : F ∈ lineFields) (h : s.on (F l) = b) : s.deliver.on (F l) = b := by
  rw [State.on, State.deliver_get hl hF rfl]
  exact h

/-- What a lane tells, beside the writes of an operation, it tells after the operation and the delivery of interrupts. -/
theorem State.tells_beside {W : List (Nat → FRef)} (hframe : ∀ {g : FRef}, g.beside W → sameField g s t) (hW : W ⊆ lineFields)
    (hG : G ∈ lineFields) (hclear : ∀ F ∈ W, (F 0).clear (G 0)) (h : s.on (G l) = b) : t.deliver.on (G l) = b :=
  State.deliver_on hl hG ((hframe (FRef.beside_line hG hl hW hclear)).on.trans h)

end

/-- A cause of an enabled lane is raised. -/
theorem State.on_laneCause {s : State} {l : Nat} {f : FRef} (hon : s.on (LN_CTRL_enable l) = true) (hf : f.ok = true) (hbit : f.lo = f.hi) :
    (s.laneCause l f).on f = true := by
  rw [State.laneCause, if_pos hon]
  exact State.on_raise s hf hbit

/-! ### The end of a condition -/

theorem lockFields_line : lossFields ++ linkFields ⊆ lineFields := List.append_subset.2 ⟨lossFields_line, linkFields_line⟩

/-- What follows a condition that has ended on lane `l`, whose blocks were locked or not. -/
def State.afterEnd (s : State) (l : Nat) (locked : Bool) : State := if locked then s.lockEnds l else s.laneClk l

theorem State.afterEnd_locked (s : State) (l : Nat) : s.afterEnd l true = s.lockEnds l := if_pos rfl

theorem sameField.afterEnd {g : FRef} {s t : State} {l : Nat} {locked : Bool} (hl : l < 48) (hg : g.beside (lossFields ++ linkFields))
    (h : sameField g s t) : sameField g s (t.afterEnd l locked) := by
  have hclk : (LN_STAT_clk_valid l).apart g := hg.apart _ (by simp [lossFields, calFields]) l hl
  unfold State.afterEnd
  split
  · exact h.lockEnds hl hg
  · exact h.laneClk hg.ofLine hclk

/-- The field that tells of the bay's mode stands beside every field of a lane. -/
theorem sameField.bayMode_set {F : Nat → FRef} {l p v : Nat} {s t : State} (hl : l < 48) (hp : p < 48) (hF : F ∈ lineFields)
    (h : sameField (LN_BAY_MODE_mode (p / 4)) s t) : sameField (LN_BAY_MODE_mode (p / 4)) s (t.set (F l) v) :=
  h.set (FRef.apart_bay hF hl (by omega))

theorem State.afterEnd_local_fault {s t : State} {l : Nat} (hl : l < 48) (h : sameField (LN_BAY_MODE_mode (l / 4)) s t) :
    (t.afterEnd l true).on (PT_STAT_local_fault (s.headLane l)) = true := by
  rw [← State.headLane_congr h, State.afterEnd_locked]
  exact State.lockEnds_local_fault hl t

/-- Lane `l` without its signal, and what rests on it. -/
def State.signalLost (s : State) (l : Nat) : State :=
  [LN_STAT_cdr_lock l, LN_STAT_block_lock l, LN_STAT_fec_lock l].foldl (fun s f => s.set f 0)
    ((s.set (LN_STAT_signal l) 0).laneCause l (LN_INT_STAT_los l))

/-- Lane `l` without the lock of its recovered clock, and what rests on it. -/
def State.cdrLost (s : State) (l : Nat) : State :=
  (((s.set (LN_STAT_cdr_lock l) 0).laneCause l (LN_INT_STAT_cdr_unlock l)).set (LN_STAT_block_lock l) 0).set (LN_STAT_fec_lock l) 0

/-- Lane `l` with its blocks locked, and what follows. -/
def State.blocksLocked (s : State) (l : Nat) : State :=
  let s := (s.raise (LN_STAT_block_lock l)).setB (LN_STAT_fec_lock l) (decide (s.fecOf l = 2))
  (s.laneClk l).lockReturns (s.headLane l)

section
variable {l : Nat} (hl : l < 48) (s : State)
include hl

theorem State.blocksLocked_block_lock : (s.blocksLocked l).on (LN_STAT_block_lock l) = true := by
  unfold State.blocksLocked
  extract_lets t
  have ht : t.on (LN_STAT_block_lock l) = true := by
    simp only [t, State.setB_eq]
    exact (sameField.refl.set (FRef.apart_at hl (by simp [lineFields]) (by decide))).on.trans (State.on_raise_line hl (by simp [lineFields]) rfl)
  exact ((sameField.refl.laneClk (FRef.ofLine_line (by simp [lineFields]) hl) (FRef.apart_at hl (by simp [lineFields]) (by decide))).lockReturns
    (State.headLane_lt _ hl) (FRef.beside_line (by simp [lineFields]) hl linkFields_line (by decide))).on.trans ht

theorem State.signalLost_conditions : (s.signalLost l).on (LN_STAT_signal l) = false ∧ (s.signalLost l).on (LN_STAT_cdr_lock l) = false ∧
    (s.signalLost l).on (LN_STAT_block_lock l) = false := by
  have hapart : ∀ {F G : Nat → FRef}, F ∈ lineFields ∧ G ∈ lineFields → (F 0).clear (G 0) → (F l).apart (G l) := FRef.apart_at hl
  refine ⟨?_, ?_, ?_⟩
  · have hrest : sameField (LN_STAT_signal l) (s.set (LN_STAT_signal l) 0) (s.signalLost l) :=
      (((sameField.refl.laneCause (hapart (by simp [lineFields]) (by decide))).set (hapart (by simp [lineFields]) (by decide))).set
        (hapart (by simp [lineFields]) (by decide))).set (hapart (by simp [lineFields]) (by decide))
    exact hrest.on.trans (State.on_clear_line hl (by simp [lineFields]) rfl)
  · exact ((sameField.refl.set (hapart (by simp [lineFields]) (by decide))).set (hapart (by simp [lineFields]) (by decide))).on.trans
      (State.on_clear_line hl (by simp [lineFields]) rfl)
  · exact (sameField.refl.set (hapart (by simp [lineFields]) (by decide))).on.trans (State.on_clear_line hl (by simp [lineFields]) rfl)

theorem State.signalLost_los (hon : s.on (LN_CTRL_enable l) = true) : (s.signalLost l).on (LN_INT_STAT_los l) = true := by
  have hapart : ∀ {F G : Nat → FRef}, F ∈ lineFields ∧ G ∈ lineFields → (F 0).clear (G 0) → (F l).apart (G l) := FRef.apart_at hl
  have hcause : ((s.set (LN_STAT_signal l) 0).laneCause l (LN_INT_STAT_los l)).on (LN_INT_STAT_los l) = true :=
    State.on_laneCause ((sameField.refl.set (hapart (by simp [lineFields]) (by decide))).on.trans hon) (FRef.ok_line (by simp [lineFields]) hl) rfl
  exact (((sameField.refl.set (hapart (by simp [lineFields]) (by decide))).set (hapart (by simp [lineFields]) (by decide))).set
    (hapart (by simp [lineFields]) (by decide))).on.trans hcause

theorem sameField.bayMode_signalLost : sameField (LN_BAY_MODE_mode (l / 4)) s (s.signalLost l) := by
  have hbay : ∀ {F : Nat → FRef}, F ∈ lineFields → (F l).apart (LN_BAY_MODE_mode (l / 4)) := fun hF => FRef.apart_bay hF hl (by omega)
  exact ((((refl.set (hbay (by simp [lineFields]))).laneCause (hbay (by simp [lineFields]))).set (hbay (by simp [lineFields]))).set
    (hbay (by simp [lineFields]))).set (hbay (by simp [lineFields]))

theorem State.cdrLost_conditions : (s.cdrLost l).on (LN_STAT_cdr_lock l) = false ∧ (s.cdrLost l).on (LN_STAT_block_lock l) = false := by
  have hapart : ∀ {F G : Nat → FRef}, F ∈ lineFields ∧ G ∈ lineFields → (F 0).clear (G 0) → (F l).apart (G l) := FRef.apart_at hl
  have hrest : sameField (LN_STAT_cdr_lock l) (s.set (LN_STAT_cdr_lock l) 0) (s.cdrLost l) :=
    ((sameField.refl.laneCause (hapart (by simp [lineFields]) (by decide))).set (hapart (by simp [lineFields]) (by decide))).set
      (hapart (by simp [lineFields]) (by decide))
  exact ⟨hrest.on.trans (State.on_clear_line hl (by simp [lineFields]) rfl),
    (sameField.refl.set (hapart (by simp [lineFields]) (by decide))).on.trans (State.on_clear_line hl (by simp [lineFields]) rfl)⟩

theorem State.cdrLost_unlock (hon : s.on (LN_CTRL_enable l) = true) : (s.cdrLost l).on (LN_INT_STAT_cdr_unlock l) = true := by
  have hapart : ∀ {F G : Nat → FRef}, F ∈ lineFields ∧ G ∈ lineFields → (F 0).clear (G 0) → (F l).apart (G l) := FRef.apart_at hl
  have hcause : ((s.set (LN_STAT_cdr_lock l) 0).laneCause l (LN_INT_STAT_cdr_unlock l)).on (LN_INT_STAT_cdr_unlock l) = true :=
    State.on_laneCause ((sameField.refl.set (hapart (by simp [lineFields]) (by decide))).on.trans hon) (FRef.ok_line (by simp [lineFields]) hl) rfl
  exact ((sameField.refl.set (hapart (by simp [lineFields]) (by decide))).set (hapart (by simp [lineFields]) (by decide))).on.trans hcause

theorem sameField.bayMode_cdrLost : sameField (LN_BAY_MODE_mode (l / 4)) s (s.cdrLost l) := by
  have hbay : ∀ {F : Nat → FRef}, F ∈ lineFields → (F l).apart (LN_BAY_MODE_mode (l / 4)) := fun hF => FRef.apart_bay hF hl (by omega)
  exact (((refl.set (hbay (by simp [lineFields]))).laneCause (hbay (by simp [lineFields]))).set (hbay (by simp [lineFields]))).set
    (hbay (by simp [lineFields]))

/-- A calibration that starts is told, and the eye known before it is stale (R93). -/
theorem State.lnCalBegin_flags : (s.on (LN_STAT_cal_busy l) = true ∨ (s.lnCalBegin l).on (LN_EYE_stale l) = true) ∧
    (s.lnCalBegin l).on (LN_STAT_cal_busy l) = true := by
  by_cases hbusy : s.on (LN_STAT_cal_busy l) = true
  · rw [State.lnCalBegin, if_pos hbusy]
    exact ⟨.inl hbusy, hbusy⟩
  have hkeep : ∀ {G : Nat → FRef}, LN_STAT_clk_valid ∈ lineFields ∧ G ∈ lineFields → (LN_STAT_clk_valid 0).clear (G 0) →
      (s.lnCalBegin l).on (G l) = ((s.raise (LN_STAT_cal_busy l)).raise (LN_EYE_stale l)).on (G l) := fun hkinds hclear => by
    rw [State.lnCalBegin, if_neg hbusy]
    exact ((sameField.refl.regs (State.setLane_regs ..)).laneClk (FRef.ofLine_line hkinds.2 hl) (FRef.apart_at hl hkinds hclear)).on
  have hstale : sameField (LN_STAT_cal_busy l) (s.raise (LN_STAT_cal_busy l)) ((s.raise (LN_STAT_cal_busy l)).raise (LN_EYE_stale l)) :=
    sameField.refl.set (FRef.apart_at hl (by simp [lineFields]) (by decide))
  exact ⟨.inr ((hkeep (by simp [lineFields]) (by decide)).trans (State.on_raise_line hl (by simp [lineFields]) rfl)),
    (hkeep (by simp [lineFields]) (by decide)).trans (hstale.on.trans (State.on_raise_line hl (by simp [lineFields]) rfl))⟩

end

end Sys2Proof.Machine

namespace Sys2Proof

open Sys2Proof.Machine

theorem lossOfSignal_clears (l : Fin 48) (s : State) (hup : s.up) (hon : s.on (LN_CTRL_enable l) = true) (hsignal : s.on (LN_STAT_signal l) = true) :
    ∃ t, goesTo (.lossOfSignal l) s t ∧ t.on (LN_STAT_signal l) = false ∧ t.on (LN_STAT_cdr_lock l) = false ∧ t.on (LN_STAT_block_lock l) = false ∧
      t.on (LN_INT_STAT_los l) = true ∧ (s.on (LN_STAT_block_lock l) = true → t.on (PT_STAT_local_fault (s.headLane l)) = true) := by
  have hexec : exec (.lossOfSignal l) s = .next ((s.signalLost l).afterEnd l (s.on (LN_STAT_block_lock l))).deliver := by
    show finishIf (s.on (LN_CTRL_enable l) && s.on (LN_STAT_signal l)) s _ = _
    exact finishIf_next (by simp [hon, hsignal]) hup
  have hframe : ∀ {g : FRef}, g.beside (lossFields ++ linkFields) →
      sameField g (s.signalLost l) ((s.signalLost l).afterEnd l (s.on (LN_STAT_block_lock l))) := fun hg => sameField.refl.afterEnd l.isLt hg
  obtain ⟨hoff, hcdr, hblock⟩ := s.signalLost_conditions l.isLt
  refine ⟨_, hexec, ?_, ?_, ?_, ?_, fun hlocked => ?_⟩
  · exact State.tells_beside l.isLt hframe lockFields_line (by simp [lineFields]) (by decide) hoff
  · exact State.tells_beside l.isLt hframe lockFields_line (by simp [lineFields]) (by decide) hcdr
  · exact State.tells_beside l.isLt hframe lockFields_line (by simp [lineFields]) (by decide) hblock
  · exact State.tells_beside l.isLt hframe lockFields_line (by simp [lineFields]) (by decide) (s.signalLost_los l.isLt hon)
  · rw [hlocked]
    exact State.deliver_on (State.headLane_lt s l.isLt) (by simp [lineFields])
      (State.afterEnd_local_fault l.isLt (sameField.bayMode_signalLost l.isLt s))

theorem signalDetect_sets (l : Fin 48) (s : State) (hup : s.up) (hlane : l.val < s.lanes) (hon : s.on (LN_CTRL_enable l) = true)
    (hreset : (s.laneOf l).inReset = false) (hsignal : s.on (LN_STAT_signal l) = false) :
    ∃ t, goesTo (.signalDetect l) s t ∧ t.on (LN_STAT_signal l) = true ∧ ((s.laneOf l).calWanted = true → t.on (LN_STAT_cal_busy l) = true) ∧
      ((s.laneOf l).calWanted = false → onlyChanges [LN_STAT l] [] s t) := by
  generalize hu : s.raise (LN_STAT_signal l) = u
  have huon : u.on (LN_STAT_signal l) = true := hu ▸ State.on_raise_line l.isLt (by simp [lineFields]) rfl
  have hexec : exec (.signalDetect l) s = .next (if (s.laneOf l).calWanted then u.lnCalBegin l else u).deliver := by
    show finishIf (decide (l.val < s.lanes) && s.on (LN_CTRL_enable l) && !(s.laneOf l).inReset && !s.on (LN_STAT_signal l)) s
      (if ((s.raise (LN_STAT_signal l)).laneOf l).calWanted then _ else _) = _
    rw [hu]
    subst hu
    exact finishIf_next (by simp [hlane, hon, hreset, hsignal]) hup
  refine ⟨_, hexec, ?_, fun hwanted => ?_, fun hnone => ?_⟩
  · exact State.tells_beside l.isLt (fun hg => sameField.ite (sameField.refl.lnCalBegin hg l.isLt) sameField.refl) calFields_line
      (by simp [lineFields]) (by decide) huon
  · rw [if_pos hwanted]
    exact State.deliver_on l.isLt (by simp [lineFields]) (u.lnCalBegin_flags l.isLt).2
  · rw [hnone, ← hu]
    exact onlyChanges.deliver (onlyRegs.set onlyRegs.refl (by simp [LN_STAT_signal])) (State.raise_keeps _ _ (by decide) |>.2 onlyParts.refl)

theorem cdrLossOfLock_clears (l : Fin 48) (s : State) (hup : s.up) (hcdr : s.on (LN_STAT_cdr_lock l) = true) :
    ∃ t, goesTo (.cdrLossOfLock l) s t ∧ t.on (LN_STAT_cdr_lock l) = false ∧ t.on (LN_STAT_block_lock l) = false ∧
      (s.on (LN_CTRL_enable l) = true → t.on (LN_INT_STAT_cdr_unlock l) = true) ∧
      (s.on (LN_STAT_block_lock l) = true → t.on (PT_STAT_local_fault (s.headLane l)) = true) := by
  have hexec : exec (.cdrLossOfLock l) s = .next ((s.cdrLost l).afterEnd l (s.on (LN_STAT_block_lock l))).deliver := by
    show finishIf (s.on (LN_STAT_cdr_lock l)) s _ = _
    exact finishIf_next hcdr hup
  have hframe : ∀ {g : FRef}, g.beside (lossFields ++ linkFields) →
      sameField g (s.cdrLost l) ((s.cdrLost l).afterEnd l (s.on (LN_STAT_block_lock l))) := fun hg => sameField.refl.afterEnd l.isLt hg
  obtain ⟨hoff, hblock⟩ := s.cdrLost_conditions l.isLt
  refine ⟨_, hexec, ?_, ?_, fun hon => ?_, fun hlocked => ?_⟩
  · exact State.tells_beside l.isLt hframe lockFields_line (by simp [lineFields]) (by decide) hoff
  · exact State.tells_beside l.isLt hframe lockFields_line (by simp [lineFields]) (by decide) hblock
  · exact State.tells_beside l.isLt hframe lockFields_line (by simp [lineFields]) (by decide) (s.cdrLost_unlock l.isLt hon)
  · rw [hlocked]
    exact State.deliver_on (State.headLane_lt s l.isLt) (by simp [lineFields])
      (State.afterEnd_local_fault l.isLt (sameField.bayMode_cdrLost l.isLt s))

theorem cdrLock_sets (l : Fin 48) (s : State) (hup : s.up) (hsignal : s.on (LN_STAT_signal l) = true) (hcdr : s.on (LN_STAT_cdr_lock l) = false) :
    ∃ t, goesTo (.cdrLock l) s t ∧ t.on (LN_STAT_cdr_lock l) = true := by
  have hexec : exec (.cdrLock l) s = .next ((s.raise (LN_STAT_cdr_lock l)).laneClk l).deliver := by
    show finishIf (s.on (LN_STAT_signal l) && !s.on (LN_STAT_cdr_lock l)) s _ = _
    exact finishIf_next (by simp [hsignal, hcdr]) hup
  refine ⟨_, hexec, ?_⟩
  have hclk : sameField (LN_STAT_cdr_lock l) (s.raise (LN_STAT_cdr_lock l)) ((s.raise (LN_STAT_cdr_lock l)).laneClk l) :=
    sameField.refl.laneClk (FRef.ofLine_line (by simp [lineFields]) l.isLt) (FRef.apart_at l.isLt (by simp [lineFields]) (by decide))
  exact State.deliver_on l.isLt (by simp [lineFields]) (hclk.on.trans (State.on_raise_line l.isLt (by simp [lineFields]) rfl))

theorem blockLockLoss_retries (l : Fin 48) (s : State) (hup : s.up) (hblock : s.on (LN_STAT_block_lock l) = true)
    (hcal : (s.lanesOf (s.headLane l)).any (fun k => s.on (LN_STAT_cal_busy k)) = false) (hlink : s.linkState (s.headLane l) ≠ 3)
    (hnone : (s.laneOf (s.headLane l)).loss = .none) :
    ∃ t, goesTo (.blockLockLoss l) s t ∧ t.on (LN_STAT_block_lock l) = false ∧ (t.laneOf (s.headLane l)).loss = .retry ∧
      t.on (PT_STAT_local_fault (s.headLane l)) = true := by
  generalize hu : (s.set (LN_STAT_block_lock l) 0).set (LN_STAT_fec_lock l) 0 = u
  have hexec : exec (.blockLockLoss l) s = .next (u.afterEnd l true).deliver := by
    show finishIf (s.on (LN_STAT_block_lock l)) s _ = _
    rw [hu, State.afterEnd_locked]
    exact finishIf_next hblock hup
  have hmode : ∀ {p : Nat}, p < 48 → sameField (LN_BAY_MODE_mode (p / 4)) s u := fun hp =>
    hu ▸ (sameField.refl.bayMode_set l.isLt hp (by simp [lineFields])).bayMode_set l.isLt hp (by simp [lineFields])
  have hhead : u.headLane l = s.headLane l := State.headLane_congr (hmode l.isLt)
  have hlt : s.headLane l < 48 := State.headLane_lt s l.isLt
  have hbusy : (u.lanesOf (s.headLane l)).any (fun k => u.on (LN_STAT_cal_busy k)) = false := by
    rw [State.lanes_any_congr hlt (hmode hlt) fun k hk => ?_, hcal]
    rw [← hu]
    exact (sameField.refl.set (FRef.apart_line (by simp [lineFields]) l.isLt (by simp [lineFields]) hk (by decide))).set
      (FRef.apart_line (by simp [lineFields]) l.isLt (by simp [lineFields]) hk (by decide))
  have hstate : u.linkState (s.headLane l) ≠ 3 := by
    have hpx : ∀ {f : FRef} {v : Nat} {w : State}, f.ofLine → (w.set f v).linkState (s.headLane l) = w.linkState (s.headLane l) := by
      intro f v w hf
      obtain ⟨-, hhi⟩ := hf
      exact State.get_set_addr w (g := PX_STAT_state (s.headLane l)) v (by simp only [PX_STAT_state, PX_STAT]; omega)
    rw [← hu, hpx (FRef.ofLine_line (by simp [lineFields]) l.isLt), hpx (FRef.ofLine_line (by simp [lineFields]) l.isLt)]
    exact hlink
  refine ⟨_, hexec, ?_, ?_, ?_⟩
  · have hoff : u.on (LN_STAT_block_lock l) = false := hu ▸ (sameField.refl.set (FRef.apart_at l.isLt (by simp [lineFields]) (by decide))).on.trans
      (State.on_clear_line l.isLt (by simp [lineFields]) rfl)
    exact State.tells_beside l.isLt (fun hg => sameField.refl.afterEnd l.isLt hg) lockFields_line (by simp [lineFields]) (by decide) hoff
  · have hloss : (u.laneOf (s.headLane l)).loss = .none := by rw [← hu]; exact hnone
    rw [State.laneOf_congr (State.deliver_lane _), State.afterEnd_locked, State.lockEnds_eq, State.portLink_laneOf, State.laneClk_laneOf]
    rw [← hhead] at hbusy hstate hloss ⊢
    exact State.lossTaken_retry hbusy hstate hloss
  · exact State.deliver_on hlt (by simp [lineFields]) (State.afterEnd_local_fault l.isLt (hmode l.isLt))

theorem blockLock_sets (l : Fin 48) (s : State) (hup : s.up) (hcdr : s.on (LN_STAT_cdr_lock l) = true)
    (hblock : s.on (LN_STAT_block_lock l) = false) :
    ∃ t, goesTo (.blockLock l) s t ∧ t.on (LN_STAT_block_lock l) = true := by
  have hexec : exec (.blockLock l) s = .next (s.blocksLocked l).deliver := by
    show finishIf (s.on (LN_STAT_cdr_lock l) && !s.on (LN_STAT_block_lock l)) s (s.blocksLocked l) = _
    exact finishIf_next (by simp [hcdr, hblock]) hup
  exact ⟨_, hexec, State.deliver_on l.isLt (by simp [lineFields]) (s.blocksLocked_block_lock l.isLt)⟩

/-- Settles O11: what follows the end of a condition writes fields of other kinds on every lane and port, and tells a local fault. -/
theorem laneConditions : Obligations.LaneConditions := by
  unfold Obligations.LaneConditions
  exact ⟨lossOfSignal_clears, signalDetect_sets, cdrLossOfLock_clears, cdrLock_sets, blockLockLoss_retries, blockLock_sets⟩

end Sys2Proof
end

section
/-! PROOFS. The classes of loss, the window of hi_ber, and the alignment of a wide port (R81, R84, R86). -/

namespace Sys2Proof.Machine

/-! ### Counters -/

theorem sameField.get {g : FRef} {s t : State} (h : sameField g s t) : t.get g = s.get g := h

/-- A counter that saturates, of one lane. -/
theorem State.get_add_line {F : Nat → FRef} {l n : Nat} {s : State} (hl : l < 48) (hF : F ∈ lineFields) :
    (s.add (F l) n).get (F l) = min (2 ^ ((F l).hi + 1 - (F l).lo) - 1) (s.get (F l) + n) := by
  have hpos : 0 < 2 ^ ((F l).hi + 1 - (F l).lo) := Nat.two_pow_pos _
  rw [State.add_eq, State.get_set_same s _ (FRef.ok_line hF hl)]
  exact Nat.mod_eq_of_lt (by omega)

/-! ### A loss that becomes lasting, or has been transient -/

section
variable {l : Nat} (hl : l < 48) (s : State)
include hl

theorem State.lossLasting_counts : (s.lossLasting l).get (LN_LOCK_LOSS_lasting l) = min 65535 (s.get (LN_LOCK_LOSS_lasting l) + 1) ∧
    (s.lossLasting l).on (PT_INT_STAT_link_down l) = true := by
  unfold State.lossLasting
  extract_lets _ t u _ v
  have hrepair : ∀ {g : FRef}, g.beside calFields → sameField g v ((v.hlLasting 0x01 l 0xFFFF 0).laneRepair l) := fun hg =>
    (sameField.refl.hlLasting hg.ofLine).laneRepair hg hl
  constructor
  · have hcause : sameField (LN_LOCK_LOSS_lasting l) (t.inc (LN_LOCK_LOSS_lasting l)) u :=
      sameField.refl.laneCause (FRef.apart_at hl (by simp [lineFields]) (by decide))
    have hv : sameField (LN_LOCK_LOSS_lasting l) (t.inc (LN_LOCK_LOSS_lasting l)) v :=
      (hcause.set (FRef.apart_at hl (by simp [lineFields]) (by decide))).regs (State.setPort_regs ..)
    exact (hv.trans (hrepair (FRef.beside_line (by simp [lineFields]) hl calFields_line (by decide)))).get.trans
      (State.get_add_line hl (by simp [lineFields]))
  · have hv : sameField (PT_INT_STAT_link_down l) (u.raise (PT_INT_STAT_link_down l)) v := sameField.refl.regs (State.setPort_regs ..)
    exact (hv.trans (hrepair (FRef.beside_line (by simp [lineFields]) hl calFields_line (by decide)))).on.trans
      (State.on_raise_line hl (by simp [lineFields]) rfl)

/-- A lasting loss does not bring a port's lock back. -/
theorem State.rxLocked_lossLasting : (s.lossLasting l).rxLocked l = s.rxLocked l := by
  have hkeep : ∀ {g : FRef}, g.beside lossFields → sameField g s (s.lossLasting l) := fun hg => sameField.refl.lossLasting hg hl
  exact State.rxLocked_congr hl (hkeep (FRef.beside_bay (by omega) lossFields_line))
    (fun k hk => hkeep (FRef.beside_line (by simp [lineFields]) hk lossFields_line (by decide)))
    (hkeep (FRef.beside_line (by simp [lineFields]) hl lossFields_line (by decide)))

end

/-- A transient loss of lane `l` is over, counted and told. -/
def State.lossOver (s : State) (l : Nat) : State :=
  ((s.setLane l { s.laneOf l with loss := .none }).inc (LN_LOCK_LOSS_transient l)).laneCause l (LN_INT_STAT_lock_loss_transient l)

/-- A transient loss of lane `l` comes to the health unit, which repairs the lane where it escalates (R445). -/
def State.lossReported (s : State) (l : Nat) : State :=
  let (esc, s) := s.hlTransient 0x01 l 0xFFFF 0
  if esc then s.laneRepair l else s

theorem State.lossReported_eq (s : State) (l : Nat) : s.lossReported l =
    if (s.hlTransient 0x01 l 0xFFFF 0).1 then (s.hlTransient 0x01 l 0xFFFF 0).2.laneRepair l else (s.hlTransient 0x01 l 0xFFFF 0).2 := by
  rw [State.lossReported]

theorem State.lossReported_loss (s : State) (l : Nat) : ((s.lossReported l).laneOf l).loss = (s.laneOf l).loss := by
  have hlane : (s.hlTransient 0x01 l 0xFFFF 0).2.laneOf l = s.laneOf l :=
    State.laneOf_congr (State.hlTransient_parts s 0x01 l 0xFFFF 0 .lane (by decide)) l
  rw [State.lossReported_eq]
  split
  · rw [(State.laneRepair_loss _ l l).1, hlane]
  · rw [hlane]

theorem sameField.lossReported {g : FRef} {s : State} {l : Nat} (hl : l < 48) (hg : g.beside calFields) : sameField g s (s.lossReported l) := by
  have htold : sameField g s (s.hlTransient 0x01 l 0xFFFF 0).2 := refl.hlTransient hg.ofLine
  rw [State.lossReported_eq]
  exact (htold.laneRepair hg hl).ite htold

theorem State.lossOver_loss (s : State) (l : Nat) : ((s.lossOver l).laneOf l).loss = .none := by
  have hlane : (s.lossOver l).lane = (s.setLane l { s.laneOf l with loss := .none }).lane :=
    (State.laneCause_parts _ l _ .lane (by decide)).trans (State.inc_parts _ _ .lane (by decide))
  rw [State.laneOf_congr hlane, State.laneOf_setLane, if_pos rfl]

section
variable {l : Nat} (hl : l < 48) (s : State)
include hl

theorem State.lossOver_count : (s.lossOver l).get (LN_LOCK_LOSS_transient l) = min 65535 (s.get (LN_LOCK_LOSS_transient l) + 1) := by
  exact (sameField.refl.laneCause (FRef.apart_at hl (by simp [lineFields]) (by decide))).get.trans
    (State.get_add_line (s := s.setLane l { s.laneOf l with loss := .none }) hl (by simp [lineFields]))

theorem State.lossOver_told (hon : s.on (LN_CTRL_enable l) = true) : (s.lossOver l).on (LN_INT_STAT_lock_loss_transient l) = true := by
  have hregs : sameField (LN_CTRL_enable l) s (s.setLane l { s.laneOf l with loss := .none }) := sameField.refl.regs (State.setLane_regs ..)
  rw [State.lossOver]
  exact State.on_laneCause ((hregs.set (FRef.apart_at hl (by simp [lineFields]) (by decide))).on.trans hon)
    (FRef.ok_line (by simp [lineFields]) hl) rfl

end

/-! ### A window of 125 µs -/

/-- Fields that a window writes beside hi_ber and what follows from it (R81, R86). -/
def windowFields : List (Nat → FRef) :=
  [LN_HDR_ERR_count, LN_FEC_CORR_count, LN_FEC_UNCORR_count, LN_SYM_ERR_count, LN_INT_STAT_fec_uncorr, LN_INT_STAT_hi_ber]

theorem windowFields_line : windowFields ⊆ lineFields := by simp [windowFields, lineFields]

/-- The errors of a window are counted, those of the FEC decoder on lane `f`. -/
def State.windowCounted (s : State) (l f invalid corr uncorr sym : Nat) : State :=
  let s := if s.on (LN_STAT_block_lock l) then s.add (LN_HDR_ERR_count l) invalid else s
  let s := ((s.add (LN_FEC_CORR_count f) corr).add (LN_FEC_UNCORR_count f) uncorr).add (LN_SYM_ERR_count f) sym
  if 0 < uncorr then s.laneCause f (LN_INT_STAT_fec_uncorr f) else s

/-- Too many errors in a window: uncorrectable codewords with RS-FEC, invalid headers without (R81). -/
def State.windowHigh (s : State) (l invalid uncorr : Nat) : Bool := if s.fecOf l = 2 then decide (4 ≤ uncorr) else decide (16 ≤ invalid)

/-- The cause of a lane whose hi_ber sets. -/
def State.windowTold (s : State) (l : Nat) (high : Bool) : State :=
  if high ∧ ¬ s.on (LN_STAT_hi_ber l) then s.laneCause l (LN_INT_STAT_hi_ber l) else s

/-- A window of lane `l` ends. -/
def State.windowEnds (s : State) (l invalid corr uncorr sym : Nat) : State :=
  let t := s.windowCounted l (if s.bayMode (l / 4) = 3 then s.headLane l else l) invalid corr uncorr sym
  let u := t.windowTold l (t.windowHigh l invalid uncorr)
  (u.setB (LN_STAT_hi_ber l) (t.windowHigh l invalid uncorr)).portLink (u.headLane l)

section
variable {g : FRef} {s t : State} {l f invalid corr uncorr sym : Nat} {high : Bool} (hl : l < 48)
include hl

theorem sameField.windowCounted (hf : f < 48) (hg : g.beside windowFields) (h : sameField g s t) :
    sameField g s (t.windowCounted l f invalid corr uncorr sym) := by
  have hwin : ∀ F ∈ windowFields, ∀ k, k < 48 → (F k).apart g := hg.apart
  unfold State.windowCounted
  extract_lets u v
  have hu : sameField g s u := ite (h.set (hwin LN_HDR_ERR_count (by simp [windowFields]) l hl)) h
  have hv : sameField g s v := ((hu.set (hwin LN_FEC_CORR_count (by simp [windowFields]) f hf)).set
    (hwin LN_FEC_UNCORR_count (by simp [windowFields]) f hf)).set (hwin LN_SYM_ERR_count (by simp [windowFields]) f hf)
  exact (hv.laneCause (hwin LN_INT_STAT_fec_uncorr (by simp [windowFields]) f hf)).ite hv

theorem sameField.windowTold (hg : g.beside windowFields) (h : sameField g s t) : sameField g s (t.windowTold l high) :=
  ite (h.laneCause (hg.apart LN_INT_STAT_hi_ber (by simp [windowFields]) l hl)) h

/-- The headers of a locked lane are counted; the counters of the FEC decoder are others. -/
theorem State.windowCounted_headers (hf : f < 48) (hlocked : s.on (LN_STAT_block_lock l) = true) :
    (s.windowCounted l f invalid corr uncorr sym).get (LN_HDR_ERR_count l) = min (2 ^ 32 - 1) (s.get (LN_HDR_ERR_count l) + invalid) := by
  have hapart : ∀ {F : Nat → FRef}, F ∈ lineFields → (F 0).clear (LN_HDR_ERR_count 0) → (F f).apart (LN_HDR_ERR_count l) := fun hF hclear =>
    FRef.apart_line hF hf (by simp [lineFields]) hl hclear
  unfold State.windowCounted
  extract_lets u v
  have hu : u = s.add (LN_HDR_ERR_count l) invalid := if_pos hlocked
  have hv : sameField (LN_HDR_ERR_count l) u v := ((sameField.refl.set (hapart (F := LN_FEC_CORR_count) (by simp [lineFields]) (by decide))).set
    (hapart (F := LN_FEC_UNCORR_count) (by simp [lineFields]) (by decide))).set (hapart (F := LN_SYM_ERR_count) (by simp [lineFields]) (by decide))
  have hcause : sameField (LN_HDR_ERR_count l) u (if 0 < uncorr then v.laneCause f (LN_INT_STAT_fec_uncorr f) else v) :=
    (hv.laneCause (hapart (F := LN_INT_STAT_fec_uncorr) (by simp [lineFields]) (by decide))).ite hv
  rw [hcause.get, hu]
  exact State.get_add_line hl (by simp [lineFields])

end

theorem State.fecOf_congr {s t : State} {l : Nat} (hl : l < 48) (hmode : sameField (LN_BAY_MODE_mode (l / 4)) s t)
    (hfec : ∀ k < 48, sameField (LN_CTRL_fec k) s t) : t.fecOf l = s.fecOf l := by
  unfold State.fecOf
  rw [State.headLane_congr hmode, State.bayMode_congr hmode,
    show t.get (LN_CTRL_fec (s.headLane l)) = s.get (LN_CTRL_fec (s.headLane l)) from hfec _ (State.headLane_lt s hl)]

section
variable {l : Nat} (hl : l < 48) (s : State) (invalid corr uncorr sym : Nat)
include hl

/-- What a window leaves: hi_ber by its errors, a local fault with it, and its headers counted. -/
theorem State.windowEnds_tells : (s.windowEnds l invalid corr uncorr sym).on (LN_STAT_hi_ber l) = s.windowHigh l invalid uncorr ∧
    ((s.lanesOf (s.headLane l)).contains l = true → s.windowHigh l invalid uncorr = true →
      (s.windowEnds l invalid corr uncorr sym).on (PT_STAT_local_fault (s.headLane l)) = true) ∧
    (s.on (LN_STAT_block_lock l) = true →
      (s.windowEnds l invalid corr uncorr sym).get (LN_HDR_ERR_count l) = min (2 ^ 32 - 1) (s.get (LN_HDR_ERR_count l) + invalid)) := by
  have hhead : s.headLane l < 48 := State.headLane_lt s hl
  have hf : (if s.bayMode (l / 4) = 3 then s.headLane l else l) < 48 := by
    split
    · exact hhead
    · exact hl
  unfold State.windowEnds
  extract_lets t u
  have ht : ∀ {g : FRef}, g.beside windowFields → sameField g s t := fun hg => sameField.refl.windowCounted hl hf hg
  have hu : ∀ {g : FRef}, g.beside windowFields → sameField g s u := fun hg => (ht hg).windowTold hl hg
  have hhigh : t.windowHigh l invalid uncorr = s.windowHigh l invalid uncorr := by
    rw [State.windowHigh, State.fecOf_congr hl (ht (FRef.beside_bay (by omega) windowFields_line)) fun k hk =>
      ht (FRef.beside_line (by simp [lineFields]) hk windowFields_line (by decide)), State.windowHigh]
  rw [hhigh, State.headLane_congr (hu (FRef.beside_bay (by omega) windowFields_line))]
  generalize hv : u.setB (LN_STAT_hi_ber l) (s.windowHigh l invalid uncorr) = v
  have hber : v.on (LN_STAT_hi_ber l) = s.windowHigh l invalid uncorr := hv ▸ State.on_setB_line hl (by simp [lineFields]) rfl
  refine ⟨?_, fun hmem hon => ?_, fun hlocked => ?_⟩
  · exact (sameField.refl.portLink hhead (FRef.beside_line (by simp [lineFields]) hl linkFields_line (by decide))).on.trans hber
  · have hlanes : v.lanesOf (s.headLane l) = s.lanesOf (s.headLane l) := State.lanesOf_congr
      (hv ▸ (hu (FRef.beside_bay (by omega) windowFields_line)).bayMode_set hl hhead (by simp [lineFields]))
    rw [State.portLink_local_fault v hhead, State.faulty, hlanes, Bool.or_eq_true, Bool.or_eq_true]
    exact .inl (.inl (List.any_eq_true.2 ⟨l, List.contains_iff_mem.1 hmem, hber.trans hon⟩))
  · have hcause : sameField (LN_HDR_ERR_count l) t u :=
      sameField.ite (sameField.refl.laneCause (FRef.apart_at hl (by simp [lineFields]) (by decide))) sameField.refl
    have htv : sameField (LN_HDR_ERR_count l) t v := hv ▸ hcause.set (FRef.apart_at hl (by simp [lineFields]) (by decide))
    exact (htv.trans (sameField.refl.portLink hhead (FRef.beside_line (by simp [lineFields]) hl linkFields_line (by decide)))).get.trans
      (State.windowCounted_headers hl hf hlocked)

end

/-! ### Alignment -/

/-- Port `h` holds that its alignment is lost, or not. -/
def State.holdAlign (s : State) (h : Nat) (lost : Bool) : State := s.setPort h { s.portOf h with alignLost := lost }

theorem State.holdAlign_regs (s : State) (h : Nat) (lost : Bool) : (s.holdAlign h lost).regs = s.regs := State.setPort_regs ..

theorem State.holdAlign_alignLost (s : State) (h : Nat) (lost : Bool) : ((s.holdAlign h lost).portOf h).alignLost = lost := by
  rw [State.holdAlign, State.portOf_setPort, if_pos rfl]

theorem State.headLane_wide {s : State} {b : Nat} (h : s.wide (4 * b) = true) : s.headLane (4 * b) = 4 * b := by
  rw [State.headLane, if_pos h]
  omega

/-- The end of block lock keeps what the port holds of its alignment. -/
theorem State.lockEnds_alignLost (s : State) {l : Nat} (hl : l < 48) :
    ((s.lockEnds l).portOf (s.headLane l)).alignLost = (s.portOf (s.headLane l)).alignLost := by
  rw [State.lockEnds_eq, (State.portLink_portOf _ (State.headLane_lt s hl)).1, State.laneClk_portOf, State.lossTaken_alignLost]

theorem State.lockReturns_alignLost (s : State) {h : Nat} (hh : h < 48) : ((s.lockReturns h).portOf h).alignLost = (s.portOf h).alignLost := by
  unfold State.lockReturns
  split
  · exact (State.portLink_portOf _ hh).1
  · exact (State.portLink_portOf s hh).1

end Sys2Proof.Machine

namespace Sys2Proof

open Sys2Proof.Machine

theorem retryExpiry_lasting (l : Fin 48) (s : State) (hup : s.up) (hretry : (s.laneOf l).loss = .retry) (hlock : s.rxLocked l = false) :
    ∃ t, goesTo (.blockLockRetryExpiry l) s t ∧ (t.laneOf l).loss = .lasting ∧
      t.get (LN_LOCK_LOSS_lasting l) = min 65535 (s.get (LN_LOCK_LOSS_lasting l) + 1) ∧ t.on (PT_INT_STAT_link_down l) = true ∧
      (t.portOf l).down = true := by
  have hexec : exec (.blockLockRetryExpiry l) s = .next ((s.lossLasting l).portLink l).deliver := by
    show finishIf (decide ((s.laneOf l).loss = .retry)) s _ = _
    exact finishIf_next (decide_eq_true hretry) hup
  have hkeep : ∀ {g : FRef}, g.beside linkFields → sameField g (s.lossLasting l) ((s.lossLasting l).portLink l) := fun hg =>
    sameField.refl.portLink l.isLt hg
  obtain ⟨hcount, hdown⟩ := s.lossLasting_counts l.isLt
  refine ⟨_, hexec, ?_, ?_, ?_, ?_⟩
  · rw [State.laneOf_congr (State.deliver_lane _), State.portLink_laneOf, (s.lossLasting_loss l).1]
  · exact State.deliver_get l.isLt (by simp [lineFields])
      ((hkeep (FRef.beside_line (by simp [lineFields]) l.isLt linkFields_line (by decide))).get.trans hcount)
  · exact State.tells_beside l.isLt hkeep linkFields_line (by simp [lineFields]) (by decide) hdown
  · have hlink : ((s.lossLasting l).portLink l).on (PT_STAT_link_up l) = false := by
      rw [State.portLink_link_up _ l.isLt, s.rxLocked_lossLasting l.isLt, hlock, Bool.false_and, Bool.false_and]
    rw [State.portOf_congr (State.deliver_port _), (State.portLink_portOf _ l.isLt).2 hlink, (s.lossLasting_port l).1]

theorem stableExpiry_transient (l : Fin 48) (s : State) (hup : s.up) (hreturned : (s.laneOf l).loss = .returned) :
    ∃ t, goesTo (.blockLockStableExpiry l) s t ∧ (t.laneOf l).loss = .none ∧
      t.get (LN_LOCK_LOSS_transient l) = min 65535 (s.get (LN_LOCK_LOSS_transient l) + 1) ∧
      (s.on (LN_CTRL_enable l) = true → t.on (LN_INT_STAT_lock_loss_transient l) = true) := by
  have hexec : exec (.blockLockStableExpiry l) s = .next ((s.lossOver l).lossReported l).deliver := by
    show finishIf (decide ((s.laneOf l).loss = .returned)) s ((s.lossOver l).lossReported l) = _
    exact finishIf_next (decide_eq_true hreturned) hup
  have hkeep : ∀ {g : FRef}, g.beside calFields → sameField g (s.lossOver l) ((s.lossOver l).lossReported l) := fun hg =>
    sameField.lossReported l.isLt hg
  refine ⟨_, hexec, ?_, ?_, fun hon => ?_⟩
  · rw [State.laneOf_congr (State.deliver_lane _), State.lossReported_loss, s.lossOver_loss]
  · exact State.deliver_get l.isLt (by simp [lineFields])
      ((hkeep (FRef.beside_line (by simp [lineFields]) l.isLt calFields_line (by decide))).get.trans (s.lossOver_count l.isLt))
  · exact State.tells_beside l.isLt hkeep calFields_line (by simp [lineFields]) (by decide) (s.lossOver_told l.isLt hon)

theorem hiBerWindow_tells (l : Fin 48) (invalid corr uncorr sym : Nat) (s : State) (hup : s.up) (hon : s.on (LN_CTRL_enable l) = true) :
    ∃ t, goesTo (.hiBerWindow l invalid corr uncorr sym) s t ∧
      t.on (LN_STAT_hi_ber l) = (if s.fecOf l = 2 then decide (4 ≤ uncorr) else decide (16 ≤ invalid)) ∧
      ((s.lanesOf (s.headLane l)).contains l.val = true → t.on (LN_STAT_hi_ber l) = true → t.on (PT_STAT_local_fault (s.headLane l)) = true) ∧
      (s.on (LN_STAT_block_lock l) = true → t.get (LN_HDR_ERR_count l) = min (2 ^ 32 - 1) (s.get (LN_HDR_ERR_count l) + invalid)) := by
  have hexec : exec (.hiBerWindow l invalid corr uncorr sym) s = .next (s.windowEnds l invalid corr uncorr sym).deliver := by
    show finishIf (s.on (LN_CTRL_enable l)) s (s.windowEnds l invalid corr uncorr sym) = _
    exact finishIf_next hon hup
  obtain ⟨hber, hfault, hheaders⟩ := s.windowEnds_tells l.isLt invalid corr uncorr sym
  have hberAfter : (s.windowEnds l invalid corr uncorr sym).deliver.on (LN_STAT_hi_ber l) = s.windowHigh l invalid uncorr :=
    State.deliver_on l.isLt (by simp [lineFields]) hber
  refine ⟨_, hexec, hberAfter, fun hmem hon => ?_, fun hlocked => ?_⟩
  · exact State.deliver_on (State.headLane_lt s l.isLt) (by simp [lineFields]) (hfault hmem (hberAfter.symm.trans hon))
  · exact State.deliver_get l.isLt (by simp [lineFields]) (hheaders hlocked)

theorem alignmentLoss_tells (b : Fin 12) (s : State) (hup : s.up) (hwide : s.wide (4 * b.val) = true)
    (haligned : s.on (LN_STAT_aligned (4 * b.val)) = true) :
    ∃ t, goesTo (.alignmentLoss b) s t ∧ t.on (LN_STAT_aligned (4 * b.val)) = false ∧ (t.portOf (4 * b.val)).alignLost = true := by
  have hlt : 4 * b.val < 48 := by omega
  generalize hu : (s.set (LN_STAT_aligned (4 * b.val)) 0).laneCause (4 * b.val) (LN_INT_STAT_align_loss (4 * b.val)) = u
  have hexec : exec (.alignmentLoss b) s = .next ((u.holdAlign (4 * b.val) true).lockEnds (4 * b.val)).deliver := by
    rw [← hu]
    show finishIf (s.wide (4 * b.val) && s.on (LN_STAT_aligned (4 * b.val))) s (((((s.set (LN_STAT_aligned (4 * b.val)) 0).laneCause (4 * b.val)
      (LN_INT_STAT_align_loss (4 * b.val))).holdAlign (4 * b.val) true).lockEnds (4 * b.val))) = _
    exact finishIf_next (by rw [hwide, haligned]; rfl) hup
  have hoff : u.on (LN_STAT_aligned (4 * b.val)) = false := by
    rw [← hu]
    exact (sameField.refl.laneCause (FRef.apart_at hlt (by simp [lineFields]) (by decide))).on.trans
      (State.on_clear_line hlt (by simp [lineFields]) rfl)
  have hmode : sameField (LN_BAY_MODE_mode (4 * b.val / 4)) s u :=
    hu ▸ (sameField.refl.bayMode_set hlt hlt (by simp [lineFields])).laneCause (FRef.apart_bay (by simp [lineFields]) hlt (by omega))
  have hhead : (u.holdAlign (4 * b.val) true).headLane (4 * b.val) = 4 * b.val :=
    State.headLane_wide ((State.wide_congr (hmode.regs (u.holdAlign_regs ..))).trans hwide)
  refine ⟨_, hexec, ?_, ?_⟩
  · exact State.tells_beside hlt (fun hg => (sameField.refl.regs (u.holdAlign_regs ..)).lockEnds hlt hg) lockFields_line
      (by simp [lineFields]) (by decide) hoff
  · have hlost := (u.holdAlign (4 * b.val) true).lockEnds_alignLost hlt
    rw [hhead, State.holdAlign_alignLost] at hlost
    rw [State.portOf_congr (State.deliver_port _), hlost]

theorem alignment_tells (b : Fin 12) (s : State) (hup : s.up) (hwide : s.wide (4 * b.val) = true)
    (hlocked : (s.lanesOf (4 * b.val)).all (fun l => s.on (LN_STAT_block_lock l)) = true) (haligned : s.on (LN_STAT_aligned (4 * b.val)) = false) :
    ∃ t, goesTo (.alignment b) s t ∧ t.on (LN_STAT_aligned (4 * b.val)) = true ∧ (t.portOf (4 * b.val)).alignLost = false := by
  have hlt : 4 * b.val < 48 := by omega
  generalize hu : s.raise (LN_STAT_aligned (4 * b.val)) = u
  have hexec : exec (.alignment b) s = .next ((u.holdAlign (4 * b.val) false).lockReturns (4 * b.val)).deliver := by
    rw [← hu]
    show finishIf (s.wide (4 * b.val) && (s.lanesOf (4 * b.val)).all (fun l => s.on (LN_STAT_block_lock l))
      && !s.on (LN_STAT_aligned (4 * b.val))) s (((s.raise (LN_STAT_aligned (4 * b.val))).holdAlign (4 * b.val) false).lockReturns (4 * b.val)) = _
    exact finishIf_next (by rw [hwide, hlocked, haligned]; rfl) hup
  have hon : u.on (LN_STAT_aligned (4 * b.val)) = true := hu ▸ State.on_raise_line hlt (by simp [lineFields]) rfl
  refine ⟨_, hexec, ?_, ?_⟩
  · exact State.tells_beside hlt (fun hg => (sameField.refl.regs (u.holdAlign_regs ..)).lockReturns hlt hg) linkFields_line
      (by simp [lineFields]) (by decide) hon
  · rw [State.portOf_congr (State.deliver_port _), State.lockReturns_alignLost _ hlt, State.holdAlign_alignLost]

/-- Settles O12: the counters and causes of a loss stand beside what the repair and the link write, and a port without its lock stays down. -/
theorem laneLossClasses : Obligations.LaneLossClasses := by
  unfold Obligations.LaneLossClasses
  exact ⟨retryExpiry_lasting, stableExpiry_transient, hiBerWindow_tells, alignmentLoss_tells, alignment_tells⟩

end Sys2Proof
end

section
/-! PROOFS. Modes of a bay, and the calibration, the reset and the eye of a lane (R38, R79, R92, R93, R109). -/

namespace Sys2Proof.Machine

/-! ### Lanes that start again -/

/-- Fields by which a lane tells of its settings (R77, R89). -/
def checkFields : List (Nat → FRef) := [LN_STAT_cfg_err, LN_STAT_tx_idle_active]

theorem anewFields_line : restartFields ++ checkFields ⊆ lineFields := by simp [restartFields, checkFields, lineFields]

/-- Lane `l` starts again, and tells of its settings. -/
def State.laneAnew (s : State) (l : Nat) : State := ((s.laneRestart l).laneCheck l).laneTx l

theorem sameField.laneAnew {g : FRef} {s t : State} {l : Nat} (hl : l < 48) (hg : g.beside (restartFields ++ checkFields)) (h : sameField g s t) :
    sameField g s (t.laneAnew l) :=
  ((h.laneRestart (hg.mono (List.subset_append_left _ _)) hl).laneCheck (hg.apart LN_STAT_cfg_err (by simp [checkFields]) l hl)).laneTx
    (hg.apart LN_STAT_tx_idle_active (by simp [checkFields]) l hl)

/-- Fields of one kind, of two lanes. -/
theorem FRef.apart_lanes {F : Nat → FRef} (hF : F ∈ lineFields) {l k : Nat} (hl : l < 48) (hk : k < 48) (hne : l ≠ k) : (F l).apart (F k) := by
  have hrowl := (lineFields_rows ⟨l, hl⟩ F hF).1
  have hrowk := (lineFields_rows ⟨k, hk⟩ F hF).1
  simp only at hrowl hrowk
  exact .inl (by omega)

section
variable {s : State} {l k : Nat} (hl : l < 48) (hk : k < 48)
include hl hk

/-- What is off on a lane stays off when a field of its kind, or another, is cleared on some lane. -/
theorem State.off_clear {F G : Nat → FRef} (hF : F ∈ lineFields) (hG : G ∈ lineFields) (hkind : F = G ∨ (F 0).clear (G 0))
    (hbit : (G k).hi = (G k).lo) (hoff : s.on (G k) = false) : (s.set (F l) 0).on (G k) = false := by
  obtain rfl | hclear := hkind
  · by_cases hlk : l = k
    · subst hlk
      exact State.on_clear_line hl hF hbit
    · rw [(sameField.refl.set (FRef.apart_lanes hF hl hk hlk)).on, hoff]
  · rw [(sameField.refl.set (FRef.apart_line hF hl hG hk hclear)).on, hoff]

/-- The rest of a restart writes no block lock. -/
theorem State.on_block_forgotten :
    (((s.lossForget l).lossForget (s.headLane l)).laneClk l).on (LN_STAT_block_lock k) = s.on (LN_STAT_block_lock k) := by
  have haligned : ∀ j < 48, (LN_STAT_aligned j).apart (LN_STAT_block_lock k) := fun j hj =>
    FRef.apart_line (by simp [lineFields]) hj (by simp [lineFields]) hk (by decide)
  have hclk : (LN_STAT_clk_valid l).apart (LN_STAT_block_lock k) := FRef.apart_line (by simp [lineFields]) hl (by simp [lineFields]) hk (by decide)
  exact (((sameField.refl.lossForget (haligned l hl)).lossForget (haligned _ (State.headLane_lt s hl))).laneClk
    (FRef.ofLine_line (by simp [lineFields]) hk) hclk).on

/-- A restart of a lane locks no lane's blocks. -/
theorem State.laneRestart_keeps_unlocked (hoff : s.on (LN_STAT_block_lock k) = false) : (s.laneRestart l).on (LN_STAT_block_lock k) = false := by
  unfold State.laneRestart
  rw [State.on_block_forgotten hl hk]
  refine List.foldlRecOn (motive := fun u : State => u.on (LN_STAT_block_lock k) = false) _ _ hoff fun u hu f hf => ?_
  simp only [List.mem_cons, List.not_mem_nil, or_false] at hf
  obtain rfl | rfl | rfl | rfl | rfl := hf
  case inr.inl => exact State.off_clear hl hk (by simp [lineFields]) (by simp [lineFields]) (.inl rfl) rfl hu
  all_goals exact State.off_clear hl hk (by simp [lineFields]) (by simp [lineFields]) (.inr (by decide)) rfl hu

end

/-- A lane that starts again has its own blocks unlocked. -/
theorem State.laneRestart_unlocks (s : State) {l : Nat} (hl : l < 48) : (s.laneRestart l).on (LN_STAT_block_lock l) = false := by
  unfold State.laneRestart
  rw [State.on_block_forgotten hl hl]
  simp only [List.foldl_cons, List.foldl_nil]
  exact (((sameField.refl.set (FRef.apart_at hl (by simp [lineFields]) (by decide))).set
    (FRef.apart_at hl (by simp [lineFields]) (by decide))).set (FRef.apart_at hl (by simp [lineFields]) (by decide))).on.trans
      (State.on_clear_line hl (by simp [lineFields]) rfl)

section
variable {s : State} {l k : Nat} (hl : l < 48)
include hl

theorem State.laneAnew_unlocks : (s.laneAnew l).on (LN_STAT_block_lock l) = false := by
  exact ((sameField.refl.laneCheck (FRef.apart_at hl (by simp [lineFields]) (by decide))).laneTx
    (FRef.apart_at hl (by simp [lineFields]) (by decide))).on.trans (s.laneRestart_unlocks hl)

theorem State.laneAnew_keeps_unlocked (hk : k < 48) (hoff : s.on (LN_STAT_block_lock k) = false) :
    (s.laneAnew l).on (LN_STAT_block_lock k) = false := by
  have hcheck : (LN_STAT_cfg_err l).apart (LN_STAT_block_lock k) :=
    FRef.apart_line (by simp [lineFields]) hl (by simp [lineFields]) hk (by decide)
  have htx : (LN_STAT_tx_idle_active l).apart (LN_STAT_block_lock k) :=
    FRef.apart_line (by simp [lineFields]) hl (by simp [lineFields]) hk (by decide)
  rw [State.laneAnew, ((sameField.refl.laneCheck hcheck).laneTx htx).on, State.laneRestart_keeps_unlocked hl hk hoff]

end

/-- What lane `l` waits for is kept through a restart: it is in reset or not. -/
theorem State.laneAnew_inReset (s : State) (l k : Nat) : ((s.laneAnew l).laneOf k).inReset = (s.laneOf k).inReset := by
  have hforget : ∀ (u : State) (h : Nat), ((u.lossForget h).laneOf k).inReset = (u.laneOf k).inReset := by
    intro u h
    have hlane : (u.lossForget h).laneOf k = (u.setLane h { u.laneOf h with loss := .none, lost := false }).laneOf k := rfl
    rw [hlane, State.laneOf_setLane]
    split
    next hk => rw [hk]
    next => rfl
  have hrestart : ((s.laneRestart l).laneOf k).inReset = (s.laneOf k).inReset := by
    unfold State.laneRestart
    extract_lets u
    have hu : u.lane = s.lane :=
      List.foldlRecOn (motive := fun v : State => v.lane = s.lane) _ _ rfl fun v hv f _ => (State.set_parts v f 0 .lane (by decide)).trans hv
    rw [State.laneClk_laneOf, hforget, hforget, State.laneOf_congr hu]
  have hlane : (s.laneAnew l).lane = (s.laneRestart l).lane :=
    (State.laneTx_parts _ l .lane (by decide)).trans (State.laneCheck_parts _ l .lane (by decide))
  rw [State.laneOf_congr hlane, hrestart]

theorem State.laneAnew_pend (s : State) (l : Nat) : (s.laneAnew l).pend = s.pend :=
  (State.laneTx_parts _ l .pend (by decide)).trans
    ((State.laneCheck_parts _ l .pend (by decide)).trans (State.laneRestart_parts s l .pend (by decide)))

/-! ### A bay whose mode applies -/

/-- Lane `l` of a bay whose mode applies loses its signal and starts again, and its link with it (R79). -/
def State.bayRestart (s : State) (l : Nat) : State := (((s.set (LN_STAT_signal l) 0).laneAnew l).calLost l).linkWait l

/-- A lane without signal and without lock. -/
def State.laneDead (s : State) (k : Nat) : Prop := s.on (LN_STAT_signal k) = false ∧ s.on (LN_STAT_block_lock k) = false

/-- Port `p` follows its lanes and their loops. -/
def State.portFollow (s : State) (p : Nat) : State := (s.portLooped p).portLink p

/-- The pending mode of bay `b` applies. -/
def State.bayApplied (s : State) (b : Nat) : State :=
  let s := s.applyPend fun x => decide (x = LN_BAY_MODE b)
  let s := (List.range 4).foldl (fun (s : State) (k : Nat) => s.bayRestart (4 * b + k)) s
  (List.range 4).foldl (fun (s : State) (k : Nat) => s.portFollow (4 * b + k)) s

/-- What each step of a run over a list establishes for its element, and every step keeps, holds at the end of each. -/
theorem foldl_each {α β : Type} {P : β → α → Prop} {f : α → β → α} {l : List β} (hset : ∀ s, ∀ x ∈ l, P x (f s x))
    (hkeep : ∀ s, ∀ x ∈ l, ∀ y ∈ l, P y s → P y (f s x)) {y : β} (hy : y ∈ l) (s : α) : P y (l.foldl f s) := by
  induction l generalizing s with
  | nil => cases hy
  | cons x l ih =>
    rw [List.foldl_cons]
    rcases List.mem_cons.1 hy with rfl | hmem
    · exact List.foldlRecOn (motive := P y) l f (hset s y hy) fun u hu z hz => hkeep u z (List.mem_cons_of_mem _ hz) y hy hu
    · exact ih (fun u z hz => hset u z (List.mem_cons_of_mem _ hz))
        (fun u z hz w hw => hkeep u z (List.mem_cons_of_mem _ hz) w (List.mem_cons_of_mem _ hw)) hmem _

section
variable {g : FRef} {s t : State} {l : Nat} (hl : l < 48)
include hl

theorem sameField.bayRestart (hsignal : (LN_STAT_signal l).apart g) (hg : g.beside (restartFields ++ checkFields)) (h : sameField g s t) :
    sameField g s (t.bayRestart l) :=
  (((h.set hsignal).laneAnew hl hg).calLost hg.ofLine).linkWait hg.ofLine

theorem sameField.portFollow (hlooped : (PT_STAT_looped l).apart g) (hg : g.beside linkFields) (h : sameField g s t) :
    sameField g s (t.portFollow l) :=
  (h.set hlooped).portLink hl hg

theorem State.bayRestart_dead : (s.bayRestart l).laneDead l := by
  have hoff : (s.set (LN_STAT_signal l) 0).on (LN_STAT_signal l) = false := State.on_clear_line hl (by simp [lineFields]) rfl
  constructor
  · rw [← hoff]
    exact (((sameField.refl.laneAnew hl (FRef.beside_line (by simp [lineFields]) hl anewFields_line (by decide))).calLost
      (FRef.ofLine_line (by simp [lineFields]) hl)).linkWait
      (FRef.ofLine_line (by simp [lineFields]) hl)).on
  · rw [← State.laneAnew_unlocks (s := s.set (LN_STAT_signal l) 0) hl]
    exact ((sameField.refl.calLost (FRef.ofLine_line (by simp [lineFields]) hl)).linkWait (FRef.ofLine_line (by simp [lineFields]) hl)).on

theorem State.bayRestart_keeps_dead {k : Nat} (hk : k < 48) (h : s.laneDead k) : (s.bayRestart l).laneDead k := by
  obtain ⟨hsignal, hblock⟩ := h
  constructor
  · rw [← State.off_clear hl hk (F := LN_STAT_signal) (by simp [lineFields]) (by simp [lineFields]) (.inl rfl) rfl hsignal]
    exact (((sameField.refl.laneAnew hl (FRef.beside_line (by simp [lineFields]) hk anewFields_line (by decide))).calLost
      (FRef.ofLine_line (by simp [lineFields]) hk)).linkWait
      (FRef.ofLine_line (by simp [lineFields]) hk)).on
  · have hcleared : (s.set (LN_STAT_signal l) 0).on (LN_STAT_block_lock k) = false :=
      State.off_clear hl hk (by simp [lineFields]) (by simp [lineFields]) (.inr (by decide)) rfl hblock
    rw [← State.laneAnew_keeps_unlocked hl hk hcleared]
    exact ((sameField.refl.calLost (FRef.ofLine_line (by simp [lineFields]) hk)).linkWait (FRef.ofLine_line (by simp [lineFields]) hk)).on

end

theorem State.bayRestart_pend (s : State) (l : Nat) : (s.bayRestart l).pend = s.pend :=
  (State.linkWait_parts _ l .pend (by decide)).trans ((State.calLost_parts _ l .pend (by decide)).trans (State.laneAnew_pend _ l))

theorem State.portFollow_pend (s : State) (p : Nat) : (s.portFollow p).pend = s.pend :=
  (State.portLink_parts _ p .pend (by decide)).trans (State.portLooped_parts s p .pend (by decide))

section
variable (s : State) {b : Nat} (hb : b < 12)
include hb

theorem State.bayApplied_dead {k : Nat} (hk : k < 4) : (s.bayApplied b).laneDead (4 * b + k) := by
  have hlane : ∀ j ∈ List.range 4, 4 * b + j < 48 := fun j hj => by
    have := List.mem_range.1 hj
    omega
  unfold State.bayApplied
  extract_lets t u
  obtain ⟨hsignal, hblock⟩ : u.laneDead (4 * b + k) :=
    foldl_each (P := fun j (v : State) => v.laneDead (4 * b + j)) (f := fun v j => v.bayRestart (4 * b + j)) (l := List.range 4)
      (fun v j hj => State.bayRestart_dead (hlane j hj))
      (fun v j hj i hi => State.bayRestart_keeps_dead (hlane j hj) (hlane i hi)) (List.mem_range.2 hk) t
  have hfollow : ∀ {G : Nat → FRef}, G ∈ lineFields → (PT_STAT_looped 0).clear (G 0) → (∀ F ∈ linkFields, (F 0).clear (G 0)) →
      sameField (G (4 * b + k)) u ((List.range 4).foldl (fun (v : State) (j : Nat) => v.portFollow (4 * b + j)) u) := fun hG hlooped hclear =>
    sameField.refl.foldl fun v j hj => sameField.refl.portFollow (hlane j hj)
      (FRef.apart_line (by simp [lineFields]) (hlane j hj) hG (by omega) hlooped) (FRef.beside_line hG (by omega) linkFields_line hclear)
  constructor
  · rw [(hfollow (G := LN_STAT_signal) (by simp [lineFields]) (by decide) (by decide)).on, hsignal]
  · rw [(hfollow (G := LN_STAT_block_lock) (by simp [lineFields]) (by decide) (by decide)).on, hblock]

theorem State.bayApplied_mode : (s.bayApplied b).rd (LN_BAY_MODE b) = (s.applyPend fun x => decide (x = LN_BAY_MODE b)).rd (LN_BAY_MODE b) ∧
    (s.bayApplied b).pend = (s.applyPend fun x => decide (x = LN_BAY_MODE b)).pend := by
  have hlane : ∀ j ∈ List.range 4, 4 * b + j < 48 := fun j hj => by
    have := List.mem_range.1 hj
    omega
  unfold State.bayApplied
  extract_lets t u
  constructor
  · have hu : sameField ⟨LN_BAY_MODE b, 31, 0⟩ t u := sameField.refl.foldl fun v j hj => sameField.refl.bayRestart (hlane j hj)
      (FRef.apart_bay (by simp [lineFields]) (hlane j hj) hb) (FRef.beside_bay hb anewFields_line)
    exact (hu.foldl fun v j hj => sameField.refl.portFollow (hlane j hj) (FRef.apart_bay (by simp [lineFields]) (hlane j hj) hb)
      (FRef.beside_bay hb linkFields_line)).rd
  · have hu : u.pend = t.pend :=
      List.foldlRecOn (motive := fun v : State => v.pend = t.pend) _ _ rfl fun v hv j _ => (State.bayRestart_pend v _).trans hv
    exact List.foldlRecOn (motive := fun v : State => v.pend = t.pend) _ _ hu fun v hv j _ => (State.portFollow_pend v _).trans hv

end

/-- The one captured write of a register that applies is the only one that leaves the pending writes. -/
theorem State.applyPend_one {s : State} {a : Nat} {v : Word} {c : Nat} (hpend : s.pendAt a = [(a, v, c)]) (hc : c + 32 < s.clk) :
    (s.applyPend fun x => decide (x = a)).pend = s.pend.filter fun e => decide (e.1 ≠ a) := by
  rw [State.applyPend, State.foldl_wr_pend]
  refine List.filter_congr fun e he => ?_
  by_cases hea : e.1 = a
  · have hmem : e ∈ s.pendAt a := List.mem_filter.2 ⟨he, decide_eq_true hea⟩
    rw [hpend, List.mem_singleton] at hmem
    have hcaptured : captured s.clk e = true := by simpa [hmem, captured] using hc
    simp [hea, hcaptured]
  · simp [hea]

end Sys2Proof.Machine

namespace Sys2Proof

open Sys2Proof.Machine

theorem bayModeApply_restarts (b : Fin 12) (v : Word) (c : Nat) (s : State) (hup : s.up)
    (hpend : s.pend.filter (fun e => decide (e.1 = LN_BAY_MODE b)) = [(LN_BAY_MODE b, v, c)]) (hc : c + 32 < s.clk)
    (hidle : ∀ k : Nat, k < 4 → s.on (PT_IDLE_idle (4 * b.val + k)) = true) :
    ∃ t, goesTo (.bayModeApply b) s t ∧ t.rd (LN_BAY_MODE b) = v &&& fieldBits (LN_BAY_MODE b) ∧
      t.pend = s.pend.filter (fun e => decide (e.1 ≠ LN_BAY_MODE b)) ∧
      (∀ k : Nat, k < 4 → t.on (LN_STAT_signal (4 * b.val + k)) = false ∧ t.on (LN_STAT_block_lock (4 * b.val + k)) = false) := by
  have hready : ((s.pend.any fun e => decide (e.1 = LN_BAY_MODE b) && captured s.clk e) &&
      (List.range 4).all fun k => s.on (PT_IDLE_idle (4 * b.val + k))) = true := by
    have hmem : (LN_BAY_MODE b, v, c) ∈ s.pend := (List.mem_filter.1 (hpend ▸ List.mem_singleton_self _)).1
    refine Bool.and_eq_true_iff.2 ⟨List.any_eq_true.2 ⟨_, hmem, by simpa [captured] using hc⟩, List.all_eq_true.2 fun k hk => ?_⟩
    exact hidle k (List.mem_range.1 hk)
  have hexec : exec (.bayModeApply b) s = .next (s.bayApplied b).deliver := by
    show finishIf ((s.pend.any fun e => decide (e.1 = LN_BAY_MODE b) && captured s.clk e) &&
      (List.range 4).all fun k => s.on (PT_IDLE_idle (4 * b.val + k))) s (s.bayApplied b) = _
    exact finishIf_next hready hup
  obtain ⟨hmode, hrest⟩ := s.bayApplied_mode b.isLt
  refine ⟨_, hexec, ?_, ?_, fun k hk => ?_⟩
  · rw [State.rd_deliver _ _ (by simp only [LN_BAY_MODE, SYS_PBA]; omega) (by simp only [LN_BAY_MODE, SYS_PBA]; omega), hmode]
    exact (State.applyPend_pendAt hpend (decide_eq_true rfl) hc).1
  · rw [State.deliver_pend, hrest, State.applyPend_one hpend hc]
  · obtain ⟨hsignal, hblock⟩ := s.bayApplied_dead b.isLt hk
    exact ⟨State.deliver_on (by omega) (by simp [lineFields]) hsignal, State.deliver_on (by omega) (by simp [lineFields]) hblock⟩

end Sys2Proof
end

section
/-! PROOFS. The calibration, the eye and the reset of a lane (R38, R92, R93, R109). -/

namespace Sys2Proof.Machine

/-! ### Rows that not every part has -/

/-- No guard protects the row, and no field of it is written once. -/
def Reg.openRow (r : Reg) : Bool := (r.fields.filter fun f => f.acc = .wo1).isEmpty && decide (r.mask .gw = 0)

/-- A write of a row that the part has and no guard protects. -/
theorem State.write_openRow {s : State} {m : Master} {a i j : Nat} {r : Reg} (v : Word) (hr : reaches m s = true) (ho : ordinary a = true)
    (hfind : regFind a = some (r, i, j)) (hpresent : s.absent r i j = false) (hrow : r.openRow = true) :
    s.write (Req.word m a) v 0 = .next (s.writeAt m ⟨a, r, i, j, false, false⟩ true v).deliver := by
  simp only [Reg.openRow, Bool.and_eq_true, List.isEmpty_iff, decide_eq_true_eq] at hrow
  obtain ⟨hwo, hgw⟩ := hrow
  have hplace : s.writePlace m a ⟨a, r, i, j, false, false⟩ v = s.writeAt m ⟨a, r, i, j, false, false⟩ true v := by
    simp [State.writePlace, State.guardTake, hgw, hwo]
  rw [State.write_ordinary v hr ho (State.reach_ordinary ho hfind hpresent), hplace]

/-- The row of LN_CAL. -/
def lnCalRow : Reg := ⟨"LN_CAL", 0x100028, 48, 0x200, 1, 0x4, false, [(24, 47)], [], [], [⟨"start", 0, 0, .wt, 0⟩]⟩

/-- The row of LN_RESET. -/
def lnResetRow : Reg := ⟨"LN_RESET", 0x10002C, 48, 0x200, 1, 0x4, false, [(24, 47)], [], [], [⟨"reset", 0, 0, .wt, 0⟩]⟩

theorem regFind_LN_CAL (l : Fin 48) : regFind (LN_CAL l) = some (lnCalRow, l.val, 0) := by
  have hfirst : regFind (LN_CAL 0) = some (lnCalRow, 0, 0) := by decide
  rw [show LN_CAL l = LN_CAL 0 + 0x200 * l from rfl, regFind_line (by decide) l.isLt, hfirst, Option.map_some, Nat.zero_add]

theorem regFind_LN_RESET (l : Fin 48) : regFind (LN_RESET l) = some (lnResetRow, l.val, 0) := by
  have hfirst : regFind (LN_RESET 0) = some (lnResetRow, 0, 0) := by decide
  rw [show LN_RESET l = LN_RESET 0 + 0x200 * l from rfl, regFind_line (by decide) l.isLt, hfirst, Option.map_some, Nat.zero_add]

theorem ordinary_LN_CAL_RESET : ∀ l : Fin 48, ordinary (LN_CAL l) = true ∧ ordinary (LN_RESET l) = true := by decide

/-- A part has the lanes it is built with (R1). -/
theorem State.lane_present {s : State} {l : Nat} {r : Reg} (hrow : r.absent1 = [(24, 47)] ∧ r.absent2 = []) (hl : l < s.lanes) :
    s.absent r l 0 = false := by
  obtain ⟨habs1, habs2⟩ := hrow
  unfold State.absent
  rw [habs1, habs2]
  unfold State.lanes at hl
  split at hl
  next hvariant => simp [hvariant]
  next => simp [inRanges, Nat.not_le.2 hl]

section
variable {s : State} {m : Master} {l : Fin 48} (v : Word) (hr : reaches m s = true) (hl : l.val < s.lanes)
include hr hl

theorem State.write_LN_CAL (hv : bitOf v.toNat 0 = true) : s.write (Req.word m (LN_CAL l)) v 0 = .next (s.lnCalBegin l).deliver := by
  have hfind := regFind_LN_CAL l
  have hlow : ¬ LN_CAL l < 0x100000 ∧ LN_CAL l < 0x180000 := by
    simp only [LN_CAL]
    omega
  rw [State.write_openRow v hr (ordinary_LN_CAL_RESET l).1 hfind (State.lane_present ⟨rfl, rfl⟩ hl) (by decide), State.writeAt]
  dsimp only
  rw [if_neg (by omega), if_neg hlow.1, if_pos hlow.2, State.writeLn, if_pos (show lnCalRow.base = LN_CAL 0 by decide), if_pos hv]

theorem State.write_LN_RESET (hv : bitOf v.toNat 0 = true) :
    s.write (Req.word m (LN_RESET l)) v 0 = .next (s.setLane l { s.laneOf l with resetReq := true }).deliver := by
  have hfind := regFind_LN_RESET l
  have hlow : ¬ LN_RESET l < 0x100000 ∧ LN_RESET l < 0x180000 := by
    simp only [LN_RESET]
    omega
  rw [State.write_openRow v hr (ordinary_LN_CAL_RESET l).2 hfind (State.lane_present ⟨rfl, rfl⟩ hl) (by decide), State.writeAt]
  dsimp only
  rw [if_neg (by omega), if_neg hlow.1, if_pos hlow.2, State.writeLn, if_neg (show lnResetRow.base ≠ LN_CAL 0 by decide),
    if_pos (show lnResetRow.base = LN_RESET 0 by decide), if_pos hv]

end

/-! ### The eye -/

/-- Fields that a new eye figure writes on its lane (R92). -/
def eyeFields : List (Nat → FRef) := [LN_EYE_width, LN_EYE_height, LN_EYE_stale, LN_INT_STAT_eye_low]

/-- The figures of an eye are in its lane's register. -/
def State.eyeSet (s : State) (l width height : Nat) : State := ((s.set (LN_EYE_width l) width).set (LN_EYE_height l) height).set (LN_EYE_stale l) 0

theorem State.eyePublish_eq (s : State) (l width height : Nat) : s.eyePublish l width height =
    let u := s.eyeSet l width height
    if u.get (LN_EYE_width l) < u.get (LN_EYE_THR_width_min l) then u.laneCause l (LN_INT_STAT_eye_low l) else u := rfl

section
variable {s : State} {l width height : Nat} (hl : l < 48)
include hl

omit hl in
theorem sameField.eyePublish {g : FRef} {t : State} (hg : ∀ F ∈ eyeFields, (F l).apart g) (h : sameField g s t) :
    sameField g s (t.eyePublish l width height) := by
  have hset : sameField g s (t.eyeSet l width height) := ((h.set (hg LN_EYE_width (by simp [eyeFields]))).set
    (hg LN_EYE_height (by simp [eyeFields]))).set (hg LN_EYE_stale (by simp [eyeFields]))
  rw [State.eyePublish_eq]
  exact (hset.laneCause (hg LN_INT_STAT_eye_low (by simp [eyeFields]))).ite hset

theorem State.eyeSet_figures : (s.eyeSet l width height).get (LN_EYE_width l) = width % 256 ∧
    (s.eyeSet l width height).get (LN_EYE_height l) = height % 1024 ∧ (s.eyeSet l width height).on (LN_EYE_stale l) = false := by
  refine ⟨?_, ?_, State.on_clear_line hl (by simp [lineFields]) rfl⟩
  · exact ((sameField.refl.set (FRef.apart_at hl (by simp [lineFields]) (by decide))).set
      (FRef.apart_at hl (by simp [lineFields]) (by decide))).get.trans
      (State.get_set_same s width (FRef.ok_line (F := LN_EYE_width) (by simp [lineFields]) hl))
  · exact (sameField.refl.set (FRef.apart_at hl (by simp [lineFields]) (by decide))).get.trans
      (State.get_set_same _ height (FRef.ok_line (F := LN_EYE_height) (by simp [lineFields]) hl))

theorem State.eyePublish_figures : (s.eyePublish l width height).get (LN_EYE_width l) = width % 256 ∧
    (s.eyePublish l width height).get (LN_EYE_height l) = height % 1024 ∧ (s.eyePublish l width height).on (LN_EYE_stale l) = false := by
  obtain ⟨hwidth, hheight, hstale⟩ := State.eyeSet_figures (s := s) (width := width) (height := height) hl
  have hkeep : ∀ {g : FRef}, (LN_INT_STAT_eye_low l).apart g → sameField g (s.eyeSet l width height) (s.eyePublish l width height) := fun hg => by
    rw [State.eyePublish_eq]
    exact (sameField.refl.laneCause hg).ite sameField.refl
  exact ⟨(hkeep (FRef.apart_at hl (by simp [lineFields]) (by decide))).get.trans hwidth,
    (hkeep (FRef.apart_at hl (by simp [lineFields]) (by decide))).get.trans hheight,
    (hkeep (FRef.apart_at hl (by simp [lineFields]) (by decide))).on.trans hstale⟩

theorem State.eyePublish_low (hlow : width % 256 < s.get (LN_EYE_THR_width_min l)) (hon : s.on (LN_CTRL_enable l) = true) :
    (s.eyePublish l width height).on (LN_INT_STAT_eye_low l) = true := by
  have hkeep : ∀ {g : FRef}, (LN_EYE_width l).apart g → (LN_EYE_height l).apart g → (LN_EYE_stale l).apart g →
      sameField g s (s.eyeSet l width height) := fun hwidth hheight hstale => ((sameField.refl.set hwidth).set hheight).set hstale
  have hthr : (s.eyeSet l width height).get (LN_EYE_THR_width_min l) = s.get (LN_EYE_THR_width_min l) :=
    hkeep (FRef.apart_at hl (by simp [lineFields]) (by decide)) (FRef.apart_at hl (by simp [lineFields]) (by decide))
      (FRef.apart_at hl (by simp [lineFields]) (by decide))
  have hbelow : (s.eyeSet l width height).get (LN_EYE_width l) < (s.eyeSet l width height).get (LN_EYE_THR_width_min l) := by
    rwa [(State.eyeSet_figures hl).1, hthr]
  rw [State.eyePublish_eq]
  dsimp only
  rw [if_pos hbelow]
  have henable : sameField (LN_CTRL_enable l) s (s.eyeSet l width height) :=
    hkeep (FRef.apart_at hl (by simp [lineFields]) (by decide)) (FRef.apart_at hl (by simp [lineFields]) (by decide))
      (FRef.apart_at hl (by simp [lineFields]) (by decide))
  exact State.on_laneCause (henable.on.trans hon) (FRef.ok_line (by simp [lineFields]) hl) rfl

omit hl in
theorem State.eyePublish_changes : onlyChanges [LN_EYE l, LN_INT_STAT l] [] s (s.eyePublish l width height).deliver := by
  refine onlyChanges.deliver ?_ (onlyParts.then onlyParts.refl (State.eyePublish_parts s l width height) (by decide))
  have hset : onlyRegs ([LN_EYE l, LN_INT_STAT l] ++ []) s (s.eyeSet l width height) :=
    onlyRegs.set (onlyRegs.set (onlyRegs.set onlyRegs.refl (by simp [LN_EYE_width])) (by simp [LN_EYE_height])) (by simp [LN_EYE_stale])
  rw [State.eyePublish_eq]
  dsimp only
  split
  · unfold State.laneCause
    split
    · exact onlyRegs.set hset (by simp [LN_INT_STAT_eye_low])
    · exact hset
  · exact hset

end

/-! ### The end of a calibration -/

/-- The calibration of lane `l` ends with the eye it has measured. -/
def State.calEnded (s : State) (l width height : Nat) : State :=
  ((s.set (LN_STAT_cal_busy l) 0).laneCause l (LN_INT_STAT_cal_done l)).eyePublish l width height

/-- What the end of a calibration starts elsewhere: the repair is over, the lane's clock follows, and who waits is answered. -/
def State.calAnswered (s : State) (l : Nat) : State :=
  let s := { s with hl := { s.hl with repairedAt := s.hl.repairedAt.put 0 l s.clk } }
  (s.laneClk l).mbAnswerWaiting (fun q => q.opcode = 0x5002 ∧ byteAt q.payload 0 = 1 ∧ leAt q.payload 4 4 = l) (.inr [])

theorem sameField.calAnswered {g : FRef} {s : State} {l : Nat} (hg : g.ofLine) (hclk : (LN_STAT_clk_valid l).apart g) :
    sameField g s (s.calAnswered l) := by
  unfold State.calAnswered
  extract_lets _ u
  have hu : sameField g s u := refl.regs rfl
  refine (hu.laneClk hg hclk).mbAnswerWaiting hg fun data hdata => ?_
  cases hdata
  rfl

section
variable {s : State} {l width height : Nat} (hl : l < 48)
include hl

theorem State.calEnded_idle : (s.calEnded l width height).on (LN_STAT_cal_busy l) = false := by
  have heye : ∀ F ∈ eyeFields, (F l).apart (LN_STAT_cal_busy l) := fun F hF =>
    FRef.apart_line (by revert F; simp [eyeFields, lineFields]) hl (by simp [lineFields]) hl (by revert F; decide)
  exact ((sameField.refl.laneCause (FRef.apart_at hl (by simp [lineFields]) (by decide))).eyePublish heye).on.trans
    (State.on_clear_line hl (by simp [lineFields]) rfl)

theorem State.calEnded_done (hon : s.on (LN_CTRL_enable l) = true) : (s.calEnded l width height).on (LN_INT_STAT_cal_done l) = true := by
  have heye : ∀ F ∈ eyeFields, (F l).apart (LN_INT_STAT_cal_done l) := fun F hF =>
    FRef.apart_line (by revert F; simp [eyeFields, lineFields]) hl (by simp [lineFields]) hl (by revert F; decide)
  rw [State.calEnded, (sameField.refl.eyePublish heye).on]
  exact State.on_laneCause ((sameField.refl.set (FRef.apart_at hl (by simp [lineFields]) (by decide))).on.trans hon)
    (FRef.ok_line (by simp [lineFields]) hl) rfl

theorem State.calEnded_low (hlow : width % 256 < s.get (LN_EYE_THR_width_min l)) (hon : s.on (LN_CTRL_enable l) = true) :
    (s.calEnded l width height).on (LN_INT_STAT_eye_low l) = true := by
  have hkeep : ∀ {g : FRef}, (LN_STAT_cal_busy l).apart g → (LN_INT_STAT_cal_done l).apart g →
      sameField g s ((s.set (LN_STAT_cal_busy l) 0).laneCause l (LN_INT_STAT_cal_done l)) := fun hbusy hdone =>
    (sameField.refl.set hbusy).laneCause hdone
  have hthr : ((s.set (LN_STAT_cal_busy l) 0).laneCause l (LN_INT_STAT_cal_done l)).get (LN_EYE_THR_width_min l) =
      s.get (LN_EYE_THR_width_min l) :=
    hkeep (FRef.apart_at hl (by simp [lineFields]) (by decide)) (FRef.apart_at hl (by simp [lineFields]) (by decide))
  exact State.eyePublish_low hl (hthr.symm ▸ hlow)
    ((hkeep (FRef.apart_at hl (by simp [lineFields]) (by decide)) (FRef.apart_at hl (by simp [lineFields]) (by decide))).on.trans hon)

end

/-! ### The end of a reset -/

theorem State.laneTaps_inReset (s : State) (l k : Nat) : ((s.laneTaps l).laneOf k).inReset = (s.laneOf k).inReset := by
  unfold State.laneTaps
  extract_lets t
  rw [State.laneOf_setLane]
  split
  next hk => rw [hk]
  next => rfl

theorem State.rd_setLane (s : State) (l : Nat) (x : Lane) (a : Nat) : (s.setLane l x).rd a = s.rd a := rfl

theorem State.rd_laneTaps (s : State) {l a : Nat} (htaps : a ≠ LN_TXEQ l) : (s.laneTaps l).rd a = s.rd a := by
  unfold State.laneTaps
  extract_lets t
  rw [State.rd_setLane, State.rd_set_ne _ _ htaps, State.rd_set_ne _ _ htaps]

/-- Lane `l` leaves its reset, and what has waited for it is in force (R38). -/
def State.resetLoaded (s : State) (l : Nat) : State :=
  let s := s.setLane l { s.laneOf l with inReset := false }
  let now := s.pend.filter fun e => isLaneReg l e.1
  let s := { s with pend := s.pend.filter fun e => !isLaneReg l e.1 }
  let s := now.foldl (fun s e => s.wr e.1 e.2.1) s
  if now.any fun e => decide (e.1 = LN_TXEQ l) then s.laneTaps l else s

/-- Lane `l` starts acquisition, and its port follows. -/
def State.resetStarted (s : State) (l : Nat) : State :=
  let s := (s.set (LN_STAT_signal l) 0).laneAnew l
  (s.portFollow (s.headLane l)).portStart (s.headLane l)

theorem State.foldl_wr_lane (l : List (Nat × Word × Nat)) (s : State) : (l.foldl (fun t e => t.wr e.1 e.2.1) s).lane = s.lane :=
  List.foldlRecOn (motive := fun t : State => t.lane = s.lane) _ _ rfl fun _ h _ _ => h

theorem State.resetLoaded_lane (s : State) (l : Nat) : ((s.resetLoaded l).laneOf l).inReset = false := by
  unfold State.resetLoaded
  extract_lets _ t now u v
  have hv : (v.laneOf l).inReset = false := by
    rw [State.laneOf_congr (State.foldl_wr_lane now u), State.laneOf_congr (show u.lane = t.lane from rfl), State.laneOf_setLane, if_pos rfl]
  split
  · rw [State.laneTaps_inReset, hv]
  · exact hv

theorem State.resetLoaded_pend (s : State) (l : Nat) : (s.resetLoaded l).pend = s.pend.filter fun e => !isLaneReg l e.1 := by
  unfold State.resetLoaded
  extract_lets _ t now u v
  have hv : v.pend = s.pend.filter fun e => !isLaneReg l e.1 := State.foldl_wr_pend now u
  split
  · exact (State.laneTaps_parts v l .pend (by decide)).trans hv
  · exact hv

/-- A waiting write of one of the lane's registers, the taps apart, is in force after its reset. -/
theorem State.resetLoaded_rd {s : State} {l a : Nat} {v : Word} {c : Nat} (hreg : isLaneReg l a = true) (htaps : a ≠ LN_TXEQ l)
    (hpend : s.pendAt a = [(a, v, c)]) : (s.resetLoaded l).rd a = v &&& fieldBits a := by
  unfold State.resetLoaded
  extract_lets _ t now u w
  have hnow : now.filter (fun e => decide (e.1 = a)) = [(a, v, c)] := by
    rw [← hpend, State.pendAt, List.filter_filter]
    refine List.filter_congr fun e _ => ?_
    by_cases hea : e.1 = a
    · rw [hea, hreg, Bool.and_true]
    · rw [decide_eq_false hea, Bool.false_and]
  have hw : w.rd a = v &&& fieldBits a := by
    rw [State.rd_foldl_wr a now u u rfl, hnow, List.foldl_cons, List.foldl_nil, State.rd_wr_same]
  split
  · rw [State.rd_laneTaps _ htaps, hw]
  · exact hw

/-- Fields that a start after a reset writes beside what a restart, its checks and the link write. -/
def startFields : List (Nat → FRef) := [LN_STAT_signal, PT_STAT_looped, PT_IDLE_idle]

/-- Fields that a start after a reset writes. -/
def readyFields : List (Nat → FRef) := startFields ++ ((restartFields ++ checkFields) ++ linkFields)

theorem readyFields_line : readyFields ⊆ lineFields :=
  List.append_subset.2 ⟨by simp [startFields, lineFields], List.append_subset.2 ⟨anewFields_line, linkFields_line⟩⟩

section
variable {g : FRef} {s t : State} {p l : Nat}

theorem sameField.portStart (hidle : (PT_IDLE_idle p).apart g) (h : sameField g s t) : sameField g s (t.portStart p) := ite h (h.set hidle)

theorem sameField.resetStarted (hl : l < 48) (hg : g.beside readyFields) (h : sameField g s t) : sameField g s (t.resetStarted l) := by
  have hready : ∀ F ∈ readyFields, ∀ k, k < 48 → (F k).apart g := hg.apart
  unfold State.resetStarted
  extract_lets u
  have hhead : u.headLane l < 48 := State.headLane_lt u hl
  have hanew : g.beside (restartFields ++ checkFields) := hg.mono fun F hF => List.mem_append_right _ (List.mem_append_left _ hF)
  have hlink : g.beside linkFields := hg.mono fun F hF => List.mem_append_right _ (List.mem_append_right _ hF)
  have hu : sameField g s u := (h.set (hready LN_STAT_signal (by simp [readyFields, startFields]) l hl)).laneAnew hl hanew
  exact (hu.portFollow hhead (hready PT_STAT_looped (by simp [readyFields, startFields]) _ hhead) hlink).portStart
    (hready PT_IDLE_idle (by simp [readyFields, startFields]) _ hhead)

end

section
variable (s : State) {l : Nat}

theorem State.resetStarted_inReset : ((s.resetStarted l).laneOf l).inReset = (s.laneOf l).inReset := by
  unfold State.resetStarted
  extract_lets u
  have hlane : ((u.portFollow (u.headLane l)).portStart (u.headLane l)).lane = u.lane :=
    (State.portStart_parts _ _ .lane (by decide)).trans
      ((State.portLink_parts _ _ .lane (by decide)).trans (State.portLooped_parts u _ .lane (by decide)))
  rw [State.laneOf_congr hlane, State.laneAnew_inReset, State.laneOf_congr (State.set_parts s _ 0 .lane (by decide))]

theorem State.resetStarted_pend : (s.resetStarted l).pend = s.pend := by
  unfold State.resetStarted
  extract_lets u
  have hu : u.pend = s.pend := State.laneAnew_pend _ l
  rw [State.portStart_pend, State.portFollow_pend, hu]

theorem State.resetStarted_dead (hl : l < 48) : (s.resetStarted l).laneDead l := by
  unfold State.resetStarted
  extract_lets u
  have hhead : u.headLane l < 48 := State.headLane_lt u hl
  have hkeep : ∀ {G : Nat → FRef}, G ∈ lineFields → (PT_STAT_looped 0).clear (G 0) → (PT_IDLE_idle 0).clear (G 0) →
      (∀ F ∈ linkFields, (F 0).clear (G 0)) → sameField (G l) u ((u.portFollow (u.headLane l)).portStart (u.headLane l)) :=
    fun hG hlooped hidle hclear => (sameField.refl.portFollow hhead (FRef.apart_line (by simp [lineFields]) hhead hG hl hlooped)
      (FRef.beside_line hG hl linkFields_line hclear)).portStart (FRef.apart_line (by simp [lineFields]) hhead hG hl hidle)
  constructor
  · exact (hkeep (by simp [lineFields]) (by decide) (by decide) (by decide)).on.trans
      ((sameField.refl.laneAnew hl (FRef.beside_line (by simp [lineFields]) hl anewFields_line (by decide))).on.trans
        (State.on_clear_line hl (by simp [lineFields]) rfl))
  · exact (hkeep (by simp [lineFields]) (by decide) (by decide) (by decide)).on.trans (State.laneAnew_unlocks hl)

/-- No start after a reset writes the thresholds of the eye. -/
theorem State.resetStarted_thr (hl : l < 48) : (s.resetStarted l).rd (LN_EYE_THR l) = s.rd (LN_EYE_THR l) := by
  have hcolumn : ∀ F ∈ readyFields, (F 0).addr / 0x40000 ≠ LN_EYE_THR 0 / 0x40000 ∨ (F 0).addr % 0x200 ≠ LN_EYE_THR 0 % 0x200 := by decide
  have hthr : LN_EYE_THR l = LN_EYE_THR 0 + 0x200 * l ∧ 0x100000 ≤ LN_EYE_THR l ∧ LN_EYE_THR l < 0x106000 := by
    refine ⟨rfl, ?_⟩
    simp only [LN_EYE_THR]
    omega
  obtain ⟨hrow, hlow, hhigh⟩ := hthr
  have hg : FRef.beside ⟨LN_EYE_THR l, 31, 0⟩ readyFields := by
    refine ⟨⟨hlow, hhigh.trans (by decide)⟩, .of_lane hlow (hhigh.trans (by decide)), fun F hF k hk => .inl ?_⟩
    have hFrow := (lineFields_rows ⟨k, hk⟩ F (readyFields_line hF)).1
    have hFblock := lineFields_blocks F (readyFields_line hF)
    have hFcolumn := hcolumn F hF
    simp only at hFrow
    simp only [LN_EYE_THR] at hFcolumn hrow ⊢
    omega
  exact (sameField.refl.resetStarted hl hg).rd

end

end Sys2Proof.Machine

namespace Sys2Proof

open Sys2Proof.Machine

theorem lnCalStart_write (m : Master) (l : Fin 48) (v : Word) (s : State) (hr : reaches m s) (hl : l.val < s.lanes) (hv : bitOf v.toNat 0 = true)
    (hidle : s.on (LN_STAT_cal_busy l) = false) :
    ∃ t, goesTo (.lnCalStart (some m) l v) s t ∧ t.on (LN_STAT_cal_busy l) = true ∧ t.on (LN_EYE_stale l) = true := by
  obtain ⟨hstale, hbusy⟩ := s.lnCalBegin_flags l.isLt
  exact ⟨_, State.write_LN_CAL v hr hl hv, State.deliver_on l.isLt (by simp [lineFields]) hbusy,
    State.deliver_on l.isLt (by simp [lineFields]) (hstale.resolve_left (by simp [hidle]))⟩

theorem lnCalStart_wanted (l : Fin 48) (v : Word) (s : State) (hup : s.up) (hwanted : (s.laneOf l).calWanted = true)
    (hsignal : s.on (LN_STAT_signal l) = true) (hidle : s.on (LN_STAT_cal_busy l) = false) :
    ∃ t, goesTo (.lnCalStart none l v) s t ∧ t.on (LN_STAT_cal_busy l) = true ∧ t.on (LN_EYE_stale l) = true ∧ (t.laneOf l).calWanted = false := by
  have hexec : exec (.lnCalStart none l v) s = .next (s.lnCalBegin l).deliver := by
    show finishIf ((s.laneOf l).calWanted && s.on (LN_STAT_signal l)) s _ = _
    exact finishIf_next (by rw [hwanted, hsignal]; rfl) hup
  obtain ⟨hstale, hbusy⟩ := s.lnCalBegin_flags l.isLt
  refine ⟨_, hexec, State.deliver_on l.isLt (by simp [lineFields]) hbusy,
    State.deliver_on l.isLt (by simp [lineFields]) (hstale.resolve_left (by simp [hidle])), ?_⟩
  rw [State.laneOf_congr (State.deliver_lane _), State.lnCalBegin, if_neg (by simp [hidle]), State.laneClk_laneOf, State.laneOf_setLane, if_pos rfl]

theorem lnCalEnd_publishes (l : Fin 48) (width height : Nat) (s : State) (hup : s.up) (hbusy : s.on (LN_STAT_cal_busy l) = true) :
    ∃ t, goesTo (.lnCalEnd l width height) s t ∧ t.on (LN_STAT_cal_busy l) = false ∧ t.get (LN_EYE_width l) = width % 256 ∧
      t.get (LN_EYE_height l) = height % 1024 ∧ t.on (LN_EYE_stale l) = false ∧
      (s.on (LN_CTRL_enable l) = true → t.on (LN_INT_STAT_cal_done l) = true) ∧
      (width % 256 < s.get (LN_EYE_THR_width_min l) → s.on (LN_CTRL_enable l) = true → t.on (LN_INT_STAT_eye_low l) = true) := by
  have hexec : exec (.lnCalEnd l width height) s = .next ((s.calEnded l width height).calAnswered l).deliver := by
    show finishIf (s.on (LN_STAT_cal_busy l)) s ((s.calEnded l width height).calAnswered l) = _
    exact finishIf_next hbusy hup
  have hkeep : ∀ {G : Nat → FRef}, LN_STAT_clk_valid ∈ lineFields ∧ G ∈ lineFields → (LN_STAT_clk_valid 0).clear (G 0) →
      sameField (G l) (s.calEnded l width height) ((s.calEnded l width height).calAnswered l) := fun hkinds hclear =>
    sameField.calAnswered (FRef.ofLine_line hkinds.2 l.isLt) (FRef.apart_at l.isLt hkinds hclear)
  obtain ⟨hwidth, hheight, hstale⟩ : (s.calEnded l width height).get (LN_EYE_width l) = width % 256 ∧
      (s.calEnded l width height).get (LN_EYE_height l) = height % 1024 ∧ (s.calEnded l width height).on (LN_EYE_stale l) = false :=
    State.eyePublish_figures l.isLt
  have htells : ∀ {G : Nat → FRef} {b : Bool}, LN_STAT_clk_valid ∈ lineFields ∧ G ∈ lineFields → (LN_STAT_clk_valid 0).clear (G 0) →
      (s.calEnded l width height).on (G l) = b → ((s.calEnded l width height).calAnswered l).deliver.on (G l) = b := fun hkinds hclear h =>
    State.deliver_on l.isLt hkinds.2 ((hkeep hkinds hclear).on.trans h)
  refine ⟨_, hexec, ?_, ?_, ?_, ?_, fun hon => ?_, fun hlow hon => ?_⟩
  · exact htells (by simp [lineFields]) (by decide) (State.calEnded_idle l.isLt)
  · exact State.deliver_get l.isLt (by simp [lineFields]) ((hkeep (by simp [lineFields]) (by decide)).get.trans hwidth)
  · exact State.deliver_get l.isLt (by simp [lineFields]) ((hkeep (by simp [lineFields]) (by decide)).get.trans hheight)
  · exact htells (by simp [lineFields]) (by decide) hstale
  · exact htells (by simp [lineFields]) (by decide) (State.calEnded_done l.isLt hon)
  · exact htells (by simp [lineFields]) (by decide) (State.calEnded_low l.isLt hlow hon)

theorem lnResetWrite_asks (m : Master) (l : Fin 48) (v : Word) (s : State) (hr : reaches m s) (hl : l.val < s.lanes) (hv : bitOf v.toNat 0 = true) :
    ∃ t, goesTo (.lnResetWrite m l v) s t ∧ (t.laneOf l).resetReq = true ∧ onlyChanges [] [.lane] s t := by
  refine ⟨_, State.write_LN_RESET v hr hl hv, ?_, ?_⟩
  · rw [State.laneOf_congr (State.deliver_lane _), State.laneOf_setLane, if_pos rfl]
  · exact onlyChanges.deliver onlyRegs.refl (onlyParts.then onlyParts.refl (State.setLane_parts s l _) (by decide))

/-- The exact end of a reset. -/
theorem exec_laneResetEnd {l : Fin 48} {s : State} (hup : s.up) (hreset : (s.laneOf l).inReset = true) :
    exec (.laneResetEnd l) s = .next ((s.resetLoaded l).resetStarted l).deliver := by
  show finishIf (s.laneOf l).inReset s ((s.resetLoaded l).resetStarted l) = _
  exact finishIf_next hreset hup

theorem laneResetEnd_starts (l : Fin 48) (s : State) (hup : s.up) (hreset : (s.laneOf l).inReset = true) :
    ∃ t, goesTo (.laneResetEnd l) s t ∧ (t.laneOf l).inReset = false ∧ t.on (LN_STAT_signal l) = false ∧ t.on (LN_STAT_block_lock l) = false ∧
      t.pend = s.pend.filter (fun e => !isLaneReg l e.1) := by
  obtain ⟨hsignal, hblock⟩ := (s.resetLoaded l).resetStarted_dead l.isLt
  refine ⟨_, exec_laneResetEnd hup hreset, ?_, ?_, ?_, ?_⟩
  · rw [State.laneOf_congr (State.deliver_lane _), State.resetStarted_inReset, s.resetLoaded_lane]
  · exact State.deliver_on l.isLt (by simp [lineFields]) hsignal
  · exact State.deliver_on l.isLt (by simp [lineFields]) hblock
  · rw [State.deliver_pend, State.resetStarted_pend, s.resetLoaded_pend]

theorem laneResetEnd_applies (l : Fin 48) (v : Word) (c : Nat) (s : State) (hup : s.up) (hreset : (s.laneOf l).inReset = true)
    (hpend : s.pend.filter (fun e => decide (e.1 = LN_EYE_THR l)) = [(LN_EYE_THR l, v, c)]) :
    ∃ t, goesTo (.laneResetEnd l) s t ∧ t.rd (LN_EYE_THR l) = v &&& fieldBits (LN_EYE_THR l) := by
  have hreg : isLaneReg l (LN_EYE_THR l) = true ∧ LN_EYE_THR l ≠ LN_TXEQ l := by
    rw [isLaneReg, Bool.and_eq_true, decide_eq_true_eq, decide_eq_true_eq]
    simp only [LN_CTRL, LN_EYE_THR, LN_TXEQ]
    omega
  refine ⟨_, exec_laneResetEnd hup hreset, ?_⟩
  rw [State.rd_deliver _ _ (by simp only [LN_EYE_THR, SYS_PBA]; omega) (by simp only [LN_EYE_THR, SYS_PBA]; omega),
    State.resetStarted_thr _ l.isLt, State.resetLoaded_rd hreg.1 hreg.2 hpend]

theorem eyePublish_publishes (l : Fin 48) (width height : Nat) (s : State) (hup : s.up) (hon : s.on (LN_CTRL_enable l) = true)
    (hidle : s.on (LN_STAT_cal_busy l) = false) :
    ∃ t, goesTo (.eyePublish l width height) s t ∧ t.get (LN_EYE_width l) = width % 256 ∧ t.get (LN_EYE_height l) = height % 1024 ∧
      t.on (LN_EYE_stale l) = false ∧ (width % 256 < s.get (LN_EYE_THR_width_min l) → t.on (LN_INT_STAT_eye_low l) = true) ∧
      onlyChanges [LN_EYE l, LN_INT_STAT l] [] s t := by
  have hexec : exec (.eyePublish l width height) s = .next (s.eyePublish l width height).deliver := by
    show finishIf (s.on (LN_CTRL_enable l) && !s.on (LN_STAT_cal_busy l)) s _ = _
    exact finishIf_next (by rw [hon, hidle]; rfl) hup
  obtain ⟨hwidth, hheight, hstale⟩ := State.eyePublish_figures (s := s) (width := width) (height := height) l.isLt
  exact ⟨_, hexec, State.deliver_get l.isLt (by simp [lineFields]) hwidth, State.deliver_get l.isLt (by simp [lineFields]) hheight,
    State.deliver_on l.isLt (by simp [lineFields]) hstale,
    fun hlow => State.deliver_on l.isLt (by simp [lineFields]) (State.eyePublish_low l.isLt hlow hon), State.eyePublish_changes⟩

/-- Settles O13: what restarts a lane clears its lock for good and turns on nothing of another; its other registers stand beside what follows. -/
theorem laneModesAndCalibration : Obligations.LaneModesAndCalibration := by
  unfold Obligations.LaneModesAndCalibration
  exact ⟨bayModeApply_restarts, lnCalStart_write, lnCalStart_wanted, lnCalEnd_publishes, lnResetWrite_asks, laneResetEnd_starts,
    laneResetEnd_applies, eyePublish_publishes⟩

end Sys2Proof
end

section
/-! PROOFS. The remote fault of a port, and the pauses it receives (R93, R94, R100, R101, R106). -/

namespace Sys2Proof.Machine

/-! ### Counters of two words -/

/-- A counter of two whole words counts on, and wraps. -/
theorem State.rd64_add64 (s : State) {lo hi n : Nat} (hne : lo ≠ hi) (hlo : fieldBits lo = 0xFFFFFFFF) (hhi : fieldBits hi = 0xFFFFFFFF) :
    (s.add64 lo hi n).rd64 lo hi = (s.rd64 lo hi + n) % 2 ^ 64 := by
  have hfull : ∀ w : Word, w &&& 0xFFFFFFFF = w := fun w => BitVec.and_allOnes
  rw [State.add64, State.wr64, State.rd64, State.rd_wr_ne _ _ hne, State.rd_wr_same, State.rd_wr_same, hlo, hhi, hfull, hfull, BitVec.toNat_ofNat,
    BitVec.toNat_ofNat]
  omega

/-- The counters of received pauses and of discarded frames are whole words. -/
theorem fieldBits_pauseRx (p : Fin 48) : fieldBits (PT_PAUSE_RX_LO p) = 0xFFFFFFFF ∧ fieldBits (PT_PAUSE_RX_HI p) = 0xFFFFFFFF := by
  have hfirst : fieldBits (PT_PAUSE_RX_LO 0) = 0xFFFFFFFF ∧ fieldBits (PT_PAUSE_RX_HI 0) = 0xFFFFFFFF := by decide
  rw [show PT_PAUSE_RX_LO p = PT_PAUSE_RX_LO 0 + 0x200 * p from rfl, show PT_PAUSE_RX_HI p = PT_PAUSE_RX_HI 0 + 0x200 * p from rfl,
    fieldBits_line (by decide) p.isLt, fieldBits_line (by decide) p.isLt]
  exact hfirst

theorem fieldBits_dropDisabled (p : Fin 48) : fieldBits (PT_DROP_DISABLED_LO p) = 0xFFFFFFFF ∧ fieldBits (PT_DROP_DISABLED_HI p) = 0xFFFFFFFF := by
  have hfirst : fieldBits (PT_DROP_DISABLED_LO 0) = 0xFFFFFFFF ∧ fieldBits (PT_DROP_DISABLED_HI 0) = 0xFFFFFFFF := by decide
  rw [show PT_DROP_DISABLED_LO p = PT_DROP_DISABLED_LO 0 + 0x200 * p from rfl,
    show PT_DROP_DISABLED_HI p = PT_DROP_DISABLED_HI 0 + 0x200 * p from rfl,
    fieldBits_line (by decide) p.isLt, fieldBits_line (by decide) p.isLt]
  exact hfirst

theorem State.rd64_congr {s t : State} {lo hi : Nat} (hlo : t.rd lo = s.rd lo) (hhi : t.rd hi = s.rd hi) : t.rd64 lo hi = s.rd64 lo hi := by
  rw [State.rd64, hlo, hhi, State.rd64]

/-- No delivery of interrupts counts. -/
theorem State.rd64_deliver (s : State) {lo hi : Nat} (hlo : 0x20000 ≤ lo) (hhi : 0x20000 ≤ hi) : s.deliver.rd64 lo hi = s.rd64 lo hi := by
  have hpba : ∀ a, 0x20000 ≤ a → s.deliver.rd a = s.rd a := fun a ha =>
    State.rd_deliver s a (by simp only [SYS_PBA]; omega) (by simp only [SYS_PBA]; omega)
  exact State.rd64_congr (hpba lo hlo) (hpba hi hhi)

/-! ### Pauses in force -/

theorem State.portPaused_portOf (s : State) (p k : Nat) : (s.portPaused p).portOf k = s.portOf k := rfl

theorem State.portPaused_on (s : State) {p : Nat} (hp : p < 48) :
    (s.portPaused p).on (PT_STAT_paused p) = ((s.portOf p).pauseAll || decide ((s.portOf p).pfc ≠ 0)) :=
  State.on_setB_line hp (by simp [lineFields]) rfl

/-- Port `p` holds the pauses `x`, and tells of them. -/
def State.holdPause (s : State) (p : Nat) (x : Port) : State := (s.setPort p x).portPaused p

section
variable (s : State) (p : Nat) (x : Port)

theorem State.holdPause_portOf : (s.holdPause p x).portOf p = x := by
  rw [State.holdPause, State.portPaused_portOf, State.portOf_setPort, if_pos rfl]

theorem State.holdPause_on (hp : p < 48) : (s.holdPause p x).on (PT_STAT_paused p) = (x.pauseAll || decide (x.pfc ≠ 0)) := by
  rw [State.holdPause, State.portPaused_on _ hp, State.portOf_setPort, if_pos rfl]

theorem State.holdPause_rd {a : Nat} (ha : a ≠ PT_STAT p) : (s.holdPause p x).rd a = s.rd a := State.rd_set_ne _ _ ha

theorem State.holdPause_parts : onlyParts [.regs, .port] s (s.holdPause p x) :=
  onlyParts.then (onlyParts.then onlyParts.refl (State.setPort_parts s p x) (by decide)) (State.portPaused_parts _ p) (by decide)

end

/-! ### Pauses received -/

theorem State.pauseTake_acts {s : State} {p : Nat} (quanta : Nat) (hrx : s.on (PT_CTRL_pause_rx p) = true) (hpfc : s.on (PT_CTRL_pfc_rx p) = false) :
    s.pauseTake p quanta = s.holdPause p { s.portOf p with pauseAll := decide (0 < quanta) } := if_pos ⟨hrx, by simp [hpfc]⟩

theorem State.pauseTake_ignores {s : State} {p : Nat} (quanta : Nat) (h : s.on (PT_CTRL_pause_rx p) = false ∨ s.on (PT_CTRL_pfc_rx p) = true) :
    s.pauseTake p quanta = s := if_neg fun hacts => h.elim (fun hrx => by simp [hrx] at hacts) fun hpfc => hacts.2 hpfc

/-- The classes paused after a PFC frame. -/
def pfcAfter (old : Nat) (vector zero : BitVec 8) : Nat := ((BitVec.ofNat 8 old ||| vector) &&& ~~~(vector &&& zero)).toNat

theorem State.pfcTake_acts {s : State} {p : Nat} (vector zero : BitVec 8) (hrx : s.on (PT_CTRL_pfc_rx p) = true) :
    s.pfcTake p vector zero = s.holdPause p { s.portOf p with pfc := pfcAfter (s.portOf p).pfc vector zero } := if_pos hrx

theorem State.pfcTake_ignores {s : State} {p : Nat} (vector zero : BitVec 8) (hrx : s.on (PT_CTRL_pfc_rx p) = false) :
    s.pfcTake p vector zero = s := if_neg (by simp [hrx])

/-- A PAUSE frame pauses no class. -/
theorem State.pauseTake_pfc (s : State) (p quanta : Nat) : ((s.pauseTake p quanta).portOf p).pfc = (s.portOf p).pfc := by
  unfold State.pauseTake
  split
  · rw [State.portPaused_portOf, State.portOf_setPort, if_pos rfl]
  · rfl

/-- A PFC frame pauses no port. -/
theorem State.pfcTake_pauseAll (s : State) (p : Nat) (vector zero : BitVec 8) :
    ((s.pfcTake p vector zero).portOf p).pauseAll = (s.portOf p).pauseAll := by
  unfold State.pfcTake
  split
  · extract_lets _
    rw [State.portPaused_portOf, State.portOf_setPort, if_pos rfl]
  · rfl

/-- What either kind of frame leaves of the port's counter and of everything else. -/
theorem State.pauseTake_cases (s : State) (p quanta : Nat) : s.pauseTake p quanta = s ∨ ∃ x, s.pauseTake p quanta = s.holdPause p x := by
  unfold State.pauseTake
  split
  · exact .inr ⟨_, rfl⟩
  · exact .inl rfl

theorem State.pfcTake_cases (s : State) (p : Nat) (vector zero : BitVec 8) :
    s.pfcTake p vector zero = s ∨ ∃ x, s.pfcTake p vector zero = s.holdPause p x := by
  unfold State.pfcTake
  split
  · exact .inr ⟨_, rfl⟩
  · exact .inl rfl

/-- A received pause frame has been counted. -/
def State.pauseCounted (s : State) (p : Nat) : State := s.add64 (PT_PAUSE_RX_LO p) (PT_PAUSE_RX_HI p) 1

theorem State.pauseCounted_portOf (s : State) (p k : Nat) : (s.pauseCounted p).portOf k = s.portOf k :=
  State.portOf_congr (State.add64_parts s _ _ 1 .port (by decide)) k

theorem State.pauseCounted_on (s : State) (p : Nat) {f : FRef} (hf : f.addr = PT_CTRL p) : (s.pauseCounted p).on f = s.on f := by
  have hlo : PT_CTRL p ≠ PT_PAUSE_RX_LO p ∧ PT_CTRL p ≠ PT_PAUSE_RX_HI p := by
    simp only [PT_CTRL, PT_PAUSE_RX_LO, PT_PAUSE_RX_HI]
    omega
  exact (sameField.refl.wr64 (by rw [hf]; exact hlo.1) (by rw [hf]; exact hlo.2)).on

/-- The count stands, and what acts on it changes the port's pauses alone. -/
theorem State.pauseCounted_then (s : State) (p : Fin 48) {t : State}
    (ht : t = s.pauseCounted p ∨ ∃ x, t = (s.pauseCounted p).holdPause p x) :
    t.deliver.rd64 (PT_PAUSE_RX_LO p) (PT_PAUSE_RX_HI p) = (s.rd64 (PT_PAUSE_RX_LO p) (PT_PAUSE_RX_HI p) + 1) % 2 ^ 64 ∧
      onlyChanges [PT_PAUSE_RX_LO p, PT_PAUSE_RX_HI p, PT_STAT p] [.port] s t.deliver := by
  have hplace : PT_PAUSE_RX_LO p ≠ PT_PAUSE_RX_HI p ∧ PT_PAUSE_RX_LO p ≠ PT_STAT p ∧ PT_PAUSE_RX_HI p ≠ PT_STAT p ∧
      0x20000 ≤ PT_PAUSE_RX_LO p ∧ 0x20000 ≤ PT_PAUSE_RX_HI p := by
    simp only [PT_PAUSE_RX_LO, PT_PAUSE_RX_HI, PT_STAT]
    omega
  obtain ⟨hne, hlo, hhi, hlow, hhigh⟩ := hplace
  obtain ⟨hflo, hfhi⟩ := fieldBits_pauseRx p
  have hcount : (s.pauseCounted p).rd64 (PT_PAUSE_RX_LO p) (PT_PAUSE_RX_HI p) = (s.rd64 (PT_PAUSE_RX_LO p) (PT_PAUSE_RX_HI p) + 1) % 2 ^ 64 :=
    s.rd64_add64 hne hflo hfhi
  have hregs : onlyRegs [PT_PAUSE_RX_LO p, PT_PAUSE_RX_HI p, PT_STAT p] s (s.pauseCounted p) :=
    onlyRegs.wr (onlyRegs.wr onlyRegs.refl (by simp)) (by simp)
  have hparts : onlyParts [.regs, .port] s (s.pauseCounted p) := onlyParts.then onlyParts.refl (State.add64_parts s _ _ 1) (by decide)
  rw [State.rd64_deliver _ hlow hhigh, ← hcount]
  obtain rfl | ⟨x, rfl⟩ := ht
  · exact ⟨rfl, onlyChanges.deliver hregs (onlyParts.then onlyParts.refl hparts (by decide))⟩
  · refine ⟨State.rd64_congr (State.holdPause_rd _ _ _ hlo) (State.holdPause_rd _ _ _ hhi), onlyChanges.deliver (fun a ha => ?_)
      (onlyParts.then (onlyParts.then onlyParts.refl hparts (by decide)) (State.holdPause_parts _ _ x) (by decide))⟩
    rw [State.holdPause_rd _ _ _ (ne_of_mem_of_not_mem (by simp) ha).symm, hregs a ha]

/-- A far end that can be heard on a port that is on acts. -/
theorem finishIf_farFlow_taken {s : State} {p : Nat} (k : State → State) (hup : s.up) (hlock : s.rxLocked p = true) (hin : s.rxOut p = false)
    (hloop : s.loopOf p = 0) (hon : s.portOff p = false) : finishIf (s.farHeard p) s (s.farFlow p k) = .next (k (s.pauseCounted p)).deliver := by
  have hheard : s.farHeard p = true := by simp [State.farHeard, hlock, hin, hloop]
  have hflow : s.farFlow p k = k (s.pauseCounted p) := if_neg (by simp [hon, hloop])
  rw [hflow]
  exact finishIf_next hheard hup

/-- On a port that is off, or loops at depth 4, the frame is discarded. -/
theorem finishIf_farFlow_dropped {s : State} {p : Nat} (k : State → State) (hup : s.up) (hlock : s.rxLocked p = true) (hin : s.rxOut p = false)
    (hloop : s.loopOf p = 4 ∨ (s.loopOf p = 0 ∧ s.portOff p = true)) :
    finishIf (s.farHeard p) s (s.farFlow p k) = .next (s.dropDisabled p).deliver := by
  have hheard : s.farHeard p = true := by
    obtain hloop | ⟨hloop, -⟩ := hloop <;> simp [State.farHeard, hlock, hin, hloop]
  have hflow : s.farFlow p k = s.dropDisabled p := if_pos (hloop.elim .inr fun h => .inl h.2)
  rw [hflow]
  exact finishIf_next hheard hup

theorem State.dropDisabled_counts (s : State) (p : Fin 48) :
    (s.dropDisabled p).deliver.rd64 (PT_DROP_DISABLED_LO p) (PT_DROP_DISABLED_HI p) =
        (s.rd64 (PT_DROP_DISABLED_LO p) (PT_DROP_DISABLED_HI p) + 1) % 2 ^ 64 ∧
      onlyChanges [PT_DROP_DISABLED_LO p, PT_DROP_DISABLED_HI p] [] s (s.dropDisabled p).deliver := by
  have hplace : PT_DROP_DISABLED_LO p ≠ PT_DROP_DISABLED_HI p ∧ 0x20000 ≤ PT_DROP_DISABLED_LO p ∧ 0x20000 ≤ PT_DROP_DISABLED_HI p := by
    simp only [PT_DROP_DISABLED_LO, PT_DROP_DISABLED_HI]
    omega
  obtain ⟨hne, hlow, hhigh⟩ := hplace
  obtain ⟨hflo, hfhi⟩ := fieldBits_dropDisabled p
  rw [State.rd64_deliver _ hlow hhigh]
  exact ⟨s.rd64_add64 hne hflo hfhi, onlyChanges.deliver (onlyRegs.wr (onlyRegs.wr onlyRegs.refl (by simp)) (by simp))
    (onlyParts.then onlyParts.refl (State.dropDisabled_parts s p) (by decide))⟩

end Sys2Proof.Machine

namespace Sys2Proof

open Sys2Proof.Machine

theorem remoteFaultReceive_takesDown (p : Fin 48) (s : State) (hup : s.up) (hlock : s.rxLocked p = true) (hin : s.rxOut p = false)
    (hnone : s.on (PT_STAT_remote_fault p) = false) :
    ∃ t, goesTo (.remoteFaultReceive p) s t ∧ t.on (PT_STAT_remote_fault p) = true ∧ t.on (PT_INT_STAT_remote_fault p) = true ∧
      t.on (PT_STAT_link_up p) = false := by
  generalize hu : (s.raise (PT_STAT_remote_fault p)).raise (PT_INT_STAT_remote_fault p) = u
  have hexec : exec (.remoteFaultReceive p) s = .next (u.portLink p).deliver := by
    rw [← hu]
    show finishIf (s.rxLocked p && !s.rxOut p && !s.on (PT_STAT_remote_fault p)) s _ = _
    exact finishIf_next (by rw [hlock, hin, hnone]; rfl) hup
  have hremote : u.on (PT_STAT_remote_fault p) = true := by
    rw [← hu]
    exact (sameField.refl.set (FRef.apart_at p.isLt (by simp [lineFields]) (by decide))).on.trans
      (State.on_raise_line p.isLt (by simp [lineFields]) rfl)
  have hcause : u.on (PT_INT_STAT_remote_fault p) = true := hu ▸ State.on_raise_line p.isLt (by simp [lineFields]) rfl
  have hframe : ∀ {g : FRef}, g.beside linkFields → sameField g u (u.portLink p) := fun hg => sameField.refl.portLink p.isLt hg
  refine ⟨_, hexec, ?_, ?_, State.deliver_on p.isLt (by simp [lineFields]) ?_⟩
  · exact State.tells_beside p.isLt hframe linkFields_line (by simp [lineFields]) (by decide) hremote
  · exact State.tells_beside p.isLt hframe linkFields_line (by simp [lineFields]) (by decide) hcause
  · rw [u.portLink_link_up p.isLt, hremote, Bool.not_true, Bool.and_false]

theorem remoteFaultEnd_clears (p : Fin 48) (s : State) (hup : s.up) (hremote : s.on (PT_STAT_remote_fault p) = true) :
    ∃ t, goesTo (.remoteFaultEnd p) s t ∧ t.on (PT_STAT_remote_fault p) = false := by
  have hexec : exec (.remoteFaultEnd p) s = .next ((s.set (PT_STAT_remote_fault p) 0).portLink p).deliver := by
    show finishIf (s.on (PT_STAT_remote_fault p)) s _ = _
    exact finishIf_next hremote hup
  exact ⟨_, hexec, State.tells_beside p.isLt (fun hg => sameField.refl.portLink p.isLt hg) linkFields_line (by simp [lineFields]) (by decide)
    (State.on_clear_line p.isLt (by simp [lineFields]) rfl)⟩

theorem pauseFrameReceive_taken (p : Fin 48) (quanta : Nat) (s : State) (hup : s.up) (hlock : s.rxLocked p = true) (hin : s.rxOut p = false)
    (hloop : s.loopOf p = 0) (hon : s.portOff p = false) :
    ∃ t, goesTo (.pauseFrameReceive p quanta) s t ∧
      t.rd64 (PT_PAUSE_RX_LO p) (PT_PAUSE_RX_HI p) = (s.rd64 (PT_PAUSE_RX_LO p) (PT_PAUSE_RX_HI p) + 1) % 2 ^ 64 ∧
      (s.on (PT_CTRL_pause_rx p) = true → s.on (PT_CTRL_pfc_rx p) = false →
        (t.portOf p).pauseAll = decide (0 < quanta) ∧ (0 < quanta → t.on (PT_STAT_paused p) = true)) ∧
      ((s.on (PT_CTRL_pause_rx p) = false ∨ s.on (PT_CTRL_pfc_rx p) = true) → (t.portOf p).pauseAll = (s.portOf p).pauseAll) ∧
      (t.portOf p).pfc = (s.portOf p).pfc ∧ onlyChanges [PT_PAUSE_RX_LO p, PT_PAUSE_RX_HI p, PT_STAT p] [.port] s t := by
  have hctrl : (s.pauseCounted p).on (PT_CTRL_pause_rx p) = s.on (PT_CTRL_pause_rx p) ∧
      (s.pauseCounted p).on (PT_CTRL_pfc_rx p) = s.on (PT_CTRL_pfc_rx p) :=
    ⟨s.pauseCounted_on p rfl, s.pauseCounted_on p rfl⟩
  obtain ⟨hcount, hchanges⟩ := s.pauseCounted_then p ((s.pauseCounted p).pauseTake_cases p quanta)
  refine ⟨_, finishIf_farFlow_taken _ hup hlock hin hloop hon, hcount, fun hrx hpfc => ?_, fun hor => ?_, ?_, hchanges⟩
  · rw [State.pauseTake_acts quanta (hctrl.1.trans hrx) (hctrl.2.trans hpfc), State.portOf_congr (State.deliver_port _), State.holdPause_portOf]
    exact ⟨rfl, fun hpos => State.deliver_on p.isLt (by simp [lineFields]) ((State.holdPause_on _ _ _ p.isLt).trans (by simp [hpos]))⟩
  · rw [State.portOf_congr (State.deliver_port _), State.pauseTake_ignores quanta (by rwa [hctrl.1, hctrl.2]), State.pauseCounted_portOf]
  · rw [State.portOf_congr (State.deliver_port _), State.pauseTake_pfc, State.pauseCounted_portOf]

theorem pfcFrameReceive_taken (p : Fin 48) (vector zero : BitVec 8) (s : State) (hup : s.up) (hlock : s.rxLocked p = true) (hin : s.rxOut p = false)
    (hloop : s.loopOf p = 0) (hon : s.portOff p = false) :
    ∃ t, goesTo (.pfcFrameReceive p vector zero) s t ∧
      (s.on (PT_CTRL_pfc_rx p) = true → (t.portOf p).pfc = ((BitVec.ofNat 8 (s.portOf p).pfc ||| vector) &&& ~~~(vector &&& zero)).toNat) ∧
      (s.on (PT_CTRL_pfc_rx p) = false → (t.portOf p).pfc = (s.portOf p).pfc) ∧ (t.portOf p).pauseAll = (s.portOf p).pauseAll ∧
      t.rd64 (PT_PAUSE_RX_LO p) (PT_PAUSE_RX_HI p) = (s.rd64 (PT_PAUSE_RX_LO p) (PT_PAUSE_RX_HI p) + 1) % 2 ^ 64 ∧
      onlyChanges [PT_PAUSE_RX_LO p, PT_PAUSE_RX_HI p, PT_STAT p] [.port] s t := by
  have hctrl : (s.pauseCounted p).on (PT_CTRL_pfc_rx p) = s.on (PT_CTRL_pfc_rx p) := s.pauseCounted_on p rfl
  obtain ⟨hcount, hchanges⟩ := s.pauseCounted_then p ((s.pauseCounted p).pfcTake_cases p vector zero)
  refine ⟨_, finishIf_farFlow_taken _ hup hlock hin hloop hon, fun hrx => ?_, fun hrx => ?_, ?_, hcount, hchanges⟩
  · rw [State.portOf_congr (State.deliver_port _), State.pfcTake_acts vector zero (hctrl.trans hrx), State.holdPause_portOf,
      State.pauseCounted_portOf, pfcAfter]
  · rw [State.portOf_congr (State.deliver_port _), State.pfcTake_ignores vector zero (hctrl.trans hrx), State.pauseCounted_portOf]
  · rw [State.portOf_congr (State.deliver_port _), State.pfcTake_pauseAll, State.pauseCounted_portOf]

theorem pauseFrameReceive_dropped (p : Fin 48) (quanta : Nat) (s : State) (hup : s.up) (hlock : s.rxLocked p = true) (hin : s.rxOut p = false)
    (hloop : s.loopOf p = 4 ∨ (s.loopOf p = 0 ∧ s.portOff p = true)) :
    ∃ t, goesTo (.pauseFrameReceive p quanta) s t ∧
      t.rd64 (PT_DROP_DISABLED_LO p) (PT_DROP_DISABLED_HI p) = (s.rd64 (PT_DROP_DISABLED_LO p) (PT_DROP_DISABLED_HI p) + 1) % 2 ^ 64 ∧
      onlyChanges [PT_DROP_DISABLED_LO p, PT_DROP_DISABLED_HI p] [] s t :=
  ⟨_, finishIf_farFlow_dropped _ hup hlock hin hloop, s.dropDisabled_counts p⟩

theorem pfcFrameReceive_dropped (p : Fin 48) (vector zero : BitVec 8) (s : State) (hup : s.up) (hlock : s.rxLocked p = true) (hin : s.rxOut p = false)
    (hloop : s.loopOf p = 4 ∨ (s.loopOf p = 0 ∧ s.portOff p = true)) :
    ∃ t, goesTo (.pfcFrameReceive p vector zero) s t ∧
      t.rd64 (PT_DROP_DISABLED_LO p) (PT_DROP_DISABLED_HI p) = (s.rd64 (PT_DROP_DISABLED_LO p) (PT_DROP_DISABLED_HI p) + 1) % 2 ^ 64 ∧
      onlyChanges [PT_DROP_DISABLED_LO p, PT_DROP_DISABLED_HI p] [] s t :=
  ⟨_, finishIf_farFlow_dropped _ hup hlock hin hloop, s.dropDisabled_counts p⟩

theorem pauseExpiry_ends (p : Fin 48) (all : Bool) (classes : BitVec 8) (s : State) (hup : s.up) (hpaused : s.on (PT_STAT_paused p) = true) :
    ∃ t, goesTo (.pauseExpiry p all classes) s t ∧ (t.portOf p).pauseAll = ((s.portOf p).pauseAll && !all) ∧
      (t.portOf p).pfc = (BitVec.ofNat 8 (s.portOf p).pfc &&& ~~~classes).toNat ∧
      t.on (PT_STAT_paused p) = ((t.portOf p).pauseAll || decide ((t.portOf p).pfc ≠ 0)) ∧ onlyChanges [PT_STAT p] [.port] s t := by
  generalize hx : ({ s.portOf p with
    pauseAll := (s.portOf p).pauseAll && !all, pfc := (BitVec.ofNat 8 (s.portOf p).pfc &&& ~~~classes).toNat } : Port) = x
  have hexec : exec (.pauseExpiry p all classes) s = .next (s.holdPause p x).deliver := by
    rw [← hx]
    show finishIf (s.on (PT_STAT_paused p)) s _ = _
    exact finishIf_next hpaused hup
  have hport : (s.holdPause p x).deliver.portOf p = x := by rw [State.portOf_congr (State.deliver_port _), State.holdPause_portOf]
  refine ⟨_, hexec, ?_, ?_, ?_, onlyChanges.deliver (fun a ha => State.holdPause_rd _ _ _ fun h => ha (by simp [h])) ?_⟩
  · rw [hport, ← hx]
  · rw [hport, ← hx]
  · rw [hport]
    exact State.deliver_on p.isLt (by simp [lineFields]) (State.holdPause_on _ _ _ p.isLt)
  · exact onlyParts.then onlyParts.refl (State.holdPause_parts s p x) (by decide)

/-- Settles O14: the link falls with the remote fault, and a pause frame acts on the port's pauses, its count and its status alone. -/
theorem portFaultsAndPause : Obligations.PortFaultsAndPause := by
  unfold Obligations.PortFaultsAndPause
  exact ⟨remoteFaultReceive_takesDown, remoteFaultEnd_clears, pauseFrameReceive_taken, pfcFrameReceive_taken, pauseFrameReceive_dropped,
    pfcFrameReceive_dropped, pauseExpiry_ends⟩

end Sys2Proof
end

section
/-! PROOFS. Statement O18: a frame of a port that has no counters. -/

namespace Sys2Proof

open Sys2Proof.Machine

/-- A word of no register reads 0 in every state whose register file is in its canonical form (R11). -/
theorem regsOk.get_unmapped {s : State} {f : FRef} (h : regsOk s) (hf : fieldBits f.addr = 0) : s.get f = 0 := by
  have hzero : s.rd f.addr = 0 := by
    rw [← h.2 f.addr, hf]
    exact BitVec.and_zero
  rw [State.get, hzero]
  simp [bitsOf]

/-- A frame waits in recirculation queue 416 with a port above 48, which nothing in a state rules out. -/
def strayAged : State :=
  { State.reset with
    clk := 125000
    sc := { Switch.reset with
      frames := [(4, { Pkt.none with len := 64, port := 49, whole := true, refs := 1, n := 1 })]
      nextId := 5
      queues := [(416, [(4, 0)])] } }

theorem regsOk_strayAged : regsOk strayAged := regsOk_reset

/-- Refutes O18: its last clause bounds no port, and a frame of port 49 is aged out without a count, for PR_CNT_RECIRC_AGED ends at port 48. -/
theorem not_pipelinePasses : ¬ Obligations.PipelinePasses := by
  unfold Obligations.PipelinePasses
  rintro ⟨-, -, -, -, -, haged⟩
  have hport : (strayAged.pkt 4).port = 49 := rfl
  have hqueue : strayAged.queueOf (416 + (0 : Fin 8)) = [(4, 0)] := by decide
  have hage : max 1 (strayAged.get PR_RECIRC_AGE_age_us) * 1250 ≤ strayAged.clk - 0 := by decide
  obtain ⟨t, hgo, -, hcount, -⟩ := haged 0 4 0 [] strayAged (by decide) hqueue hage
  have hnone : fieldBits (PR_CNT_RECIRC_AGED 49) = 0 := by decide
  have hok : regsOk t := exec_nextOk regsOk_strayAged _ t hgo
  rw [hport, hok.get_unmapped hnone, regsOk_strayAged.get_unmapped hnone] at hcount
  omega

end Sys2Proof
end
